-- ==== Sys2Proof/Word.lean ====
section
/-! DEFINITION. The word types of the model: bytes and 32-bit register words. -/

namespace Sys2Proof

/-- One byte of a container, buffer, packet or memory (R14: byte-addressed, little-endian structures). -/
abbrev Byte := BitVec 8

/-- One 32-bit register or structure word (R14: "Words are 32 bits"). -/
abbrev Word := BitVec 32

end Sys2Proof
end

