-- ==== Sys2Proof/Syntax.lean ====
section
/-! DEFINITION. The commands of the block: one constructor of `Instr` for each row of spec/opcode_table.json, with the
operands that the row's sender supplies. A command of the Zaster set carries the request it executes (`Req`) and the
payload fields of its row in 16_command_reference.md; an event row carries what the environment observes (a level,
a packet, a time). Times are position ticks of 5 ns since reset release (R69). -/

namespace Sys2Proof

/-- The request that a Zaster command executes (R389): mailbox 0-3, the host's SEQ, and, for MBX2, the source
address and port that take the response (R393). -/
structure Req where
  mbx : Nat
  seq : Nat
  srcAddr : Nat := 0
  srcPort : Nat := 0
  /-- the internal error that the Keeper's firmware meets as it executes the command, if it meets one: its code (R400) -/
  fwError : Option Nat := none
  deriving DecidableEq, Repr, Inhabited

/-- EXPOSURE_SET payload (R414). `regs` are the REG_ADDR and REG_VAL pairs, REG_COUNT of them. -/
structure ExposureReq where
  camera : Nat
  immediate : Bool
  mask : Nat
  exposureNs : Nat
  k : List Nat
  boff : List Int
  regs : List (Nat × Nat)
  deriving DecidableEq, Repr, Inhabited

/-- An ECC error that a stage meets while it handles a camera line (R147): on the odd port of a bonded camera or not, in a table word or in a
buffered line, and uncorrectable or corrected. `off` says which camera line of those that a web line reads. -/
structure EccHit where
  odd : Bool := false
  table : Bool := true
  unc : Bool := false
  off : Nat := 0
  deriving DecidableEq, Repr, Inhabited

/-- An ECC error in a word of the reference band that the compare stage meets (R201): the codec unit that decoded it, its reference line and
columns, and whether it is uncorrectable. -/
structure BandHit where
  codecUnit : Nat := 0
  y : Nat
  x0 : Nat
  x1 : Nat
  uncorrectable : Bool
  deriving DecidableEq, Repr, Inhabited

/-- A received CSI-2 packet after lane merging (R103): virtual channel, data type, header ECC errors (0, 1 or 2 bits),
word count, payload CRC result, payload bytes and, for short packets, the 16-bit number. `overflow`: the port FIFO could not take it (R26);
`hits`: errors of the correction memory as the line is corrected (R147). -/
structure CsiPacket where
  vc : Nat
  dt : Nat
  ecc : Nat
  wc : Nat
  crcOk : Bool
  payload : List Byte
  number : Nat
  overflow : Bool := false
  hits : List EccHit := []
  deriving DecidableEq, Repr, Inhabited

/-- A completed word of a serial absolute encoder (R79, R80): position bits as sent, the levels of nE and nW (1 = no
error), and the six CRC bits as received (0 for SSI). `overflow`: the input's FIFO could not take the word (R26). -/
structure SerialWordIn where
  pos : Nat
  nE : Bool
  nW : Bool
  crc : Nat
  overflow : Bool := false
  deriving DecidableEq, Repr, Inhabited

/-- How a sensor-control transfer ended (R119-R122). `stopTick` is the tick of the STOP condition. -/
structure SensorResult where
  camera : Nat
  commit : Bool
  ok : Bool
  stopTick : Nat
  deriving DecidableEq, Repr, Inhabited

/-- One entry of a BIST result (R423): block, instance and kind (1 logic, 2 MBIST). `fixed` says of a line-store block whether it lies in the
fixed 8 MiB of R485, which R581 tells apart. -/
structure BistEntry where
  block : Nat
  inst : Nat
  kind : Nat
  fixed : Bool := false
  deriving DecidableEq, Repr, Inhabited

/-- A consumable chip's answer (R356): CHIP_ID, COUNT and the 32 MAC bytes, as read; or a NACK; or a bus error. -/
inductive ChipReply where
  | answer (chipId : Nat) (count : Nat) (mac : List Byte)
  | nack
  | busError
  deriving DecidableEq, Repr, Inhabited

/-- Which hardware gate input moves (R336). `head` is HOPENh; the others are device-wide. -/
inductive GateInput where
  | hopen (head : Nat)
  | webAbsent
  | jam
  | estop
  deriving DecidableEq, Repr, Inhabited

/-- An Ethernet frame at a switch port (R428-R430, R434, R437): addresses, length, and what the device's own parts need
of it. `ptpEvent` codes 0 none, 1 Sync, 2 Delay_Req, 3 another PTP event message; `delayRespNs` is the path delay that a Delay_Resp
completes; `ipv6`, `domain` and
`ptpTick` (internal ingress tick count) serve the transparent clock. -/
structure EthFrame where
  dst : Nat
  src : Nat
  len : Nat
  fcsOk : Bool := true
  pause : Bool := false
  multicast : Bool := false
  ptpEvent : Nat := 0
  ptpTwoStep : Bool := false
  ptpAnnounce : Bool := false
  ipv6 : Bool := false
  ipOptions : Bool := false
  vlanTagged : Bool := false
  domain : Nat := 0
  correction : Nat := 0
  ingressTick : Nat := 0
  egressTick : Nat := 0
  arpOrEcho : Bool := false
  udpPort : Nat := 0
  srcIp : Nat := 0
  srcPort : Nat := 0
  announce : List Nat := []
  delayRespNs : Option Int := none
  payload : List Byte := []
  fragmentOf : Option (Nat × Nat) := none
  /-- a PTP message over UDP/IPv4; its UDP checksum is 0 -/
  ptpUdp : Bool := false
  udpCsumZero : Bool := false
  /-- the switch finds no buffer space for it, or cannot correct an error in its buffer (R429, R445) -/
  noSpace : Bool := false
  bufferError : Bool := false
  deriving DecidableEq, Repr, Inhabited

/-- The segmenter's descriptor of a blob (R218), fields in the order of its table; `first` marks the first emitted segment of
a streak or swarm (R222, R290), `wpos` is the WPOS of line Y0, which records need, and `fx` the XPOS of the first pixel (R215). -/
structure Descriptor where
  epoch : Nat := 0
  flags : Nat := 0
  seq : Nat := 0
  y0 : Nat := 0
  y1 : Nat := 0
  x0 : Nat := 0
  x1 : Nat := 0
  area : Nat := 0
  hardArea : Nat := 0
  sumD : Nat := 0
  maxD : Nat := 0
  maxClass : Nat := 0
  maxX : Nat := 0
  maxY : Nat := 0
  sumX : Nat := 0
  sumY : Nat := 0
  classMask : Nat := 0
  link : Nat := 0
  segment : Nat := 0
  prior : Nat := 0
  linkY0 : Nat := 0
  time : Nat := 0
  first : Bool := false
  wpos : Int := 0
  fx : Nat := 0
  deriving DecidableEq, Repr, Inhabited

/-- A firmware image as read from a flash slot (R565): header words, key, signature, and the bytes that the signature
covers. -/
structure FwImage where
  magic : Nat
  fmt : Nat
  version : Nat
  length : Nat
  romId : Nat
  kramLen : Nat
  pubkey : List Byte
  sig : List Byte
  message : List Byte
  deriving DecidableEq, Repr, Inhabited

/-- One boot record copy (R564). -/
structure BootRecord where
  magic : Nat
  gen : Nat
  next : Nat
  octal : Bool
  dummy : Nat
  crc : Nat
  deriving DecidableEq, Repr, Inhabited

/-- The commands of the block, one constructor per row of the opcode table, in the table's order. -/
inductive Instr where
  -- System (R403-R410)
  | sysNop (q : Req)
  | sysIdent (q : Req)
  | sysStatus (q : Req)
  | sysSnapshot (q : Req) (dest destLen parts timeoutMs : Nat)
  | snapshotTimeout
  | modeSet (q : Req) (target : Nat)
  | modeTransitDone
  | sysStop (q : Req)
  | sysAbort (q : Req) (mbx : Nat)
  | sysReset (q : Req) (key : Nat)
  | sysResetDelayExpiry
  | counterClear (q : Req) (parts : Nat)
  | reinstate (q : Req) (block inst : Nat)
  -- Decks and reference (R411-R413)
  | deckLoad (q : Req) (addr len slot : Nat)
  | deckStage (q : Req) (handle : Nat) (copies : List (Nat × Bool) := [])
  | deckUnstage (q : Req)
  | deckArmSwap (q : Req) (ws : Int)
  | deckCancelSwap (q : Req)
  | deckActivate (q : Req)
  | deckQuery (q : Req)
  | deckDelete (q : Req) (handle : Nat)
  | profileLoad (q : Req) (addr len : Nat)
  | refAlloc (q : Req) (len : Nat)
  | refCommit (q : Req) (handle : Nat)
  | refCommitDone
  | refDelete (q : Req) (handle : Nat)
  | refQuery (q : Req)
  | refLearn (q : Req) (refId refRev lines : Nat)
  | refLearnAbort (q : Req)
  | refLearnDone
  -- Camera and calibration (R414-R416)
  | exposureSet (q : Req) (e : ExposureReq)
  | tdacSet (q : Req) (tdac code : Nat)
  | calFlat (q : Req) (white : Bool) (ports : Nat)
  | calPhaseDone
  | calQuery (q : Req)
  | calTableRead (q : Req) (dest port : Nat)
  | sensorXfer (q : Req) (camera : Nat) (write : Bool) (aw dw addr value : Nat) (reply : Option Nat)
  -- Print (R417, R418)
  | printQueueSet (q : Req) (lead sizeLog2 base : Nat)
  | printWithdraw (q : Req) (lead index : Nat)
  | printRearm (q : Req)
  | printShift (q : Req) (lead : Nat) (shift : Int)
  | printElemQuery (q : Req) (head : Nat)
  | printSubConfirm (q : Req) (head : Nat) (accept : Bool) (element : Nat)
  | printElemClear (q : Req) (head element : Nat)
  | printAuth (q : Req) (head : Nat)
  | printUsageQuery (q : Req)
  | printUsageWrite (q : Req) (head : Nat)
  -- Records and the web recorder (R419)
  | ringQuery (q : Req)
  | cropRelease (q : Req) (handle : Nat)
  | lookbackQuery (q : Req)
  | lookbackFetch (q : Req) (overview : Bool) (epoch first lines xpos pixels dest : Nat)
  | lookbackFetchDone (bad : List (Nat × Nat × Nat) := [])
  | lookbackAbort (q : Req)
  -- Motion (R420)
  | axisMove (q : Req) (axes : Nat) (relative interp : Bool) (profile : Nat) (targets : List Int)
  | axisHome (q : Req) (axes : Nat)
  | axisStop (q : Req) (axes : Nat) (abrupt : Bool)
  | axisQuery (q : Req)
  | axisEnable (q : Req) (axes enable : Nat)
  -- Network and time (R421)
  | timeQuery (q : Req)
  | timeSet (q : Req) (time : Nat)
  | timeAdjust (q : Req) (step : Int) (incr : Nat) (applyStep applyIncr : Bool)
  | netQuery (q : Req)
  -- Diagnostics and lanes (R422, R423)
  | peek (q : Req) (addr count : Nat)
  | poke (q : Req) (addr : Nat) (words : List Nat)
  | laneSet (q : Req) (cls lane pattern : Nat) (gen check loopback : Bool) (inject : Nat)
  | laneQuery (q : Req) (cls lane : Nat) (received : List (List Bool) := [])
  | bistRun (q : Req) (full : Bool)
  | bistDone (failures : List BistEntry) (durationUs : Nat)
  | bistResult (q : Req)
  -- Security and firmware (R424, R425)
  | fwQuery (q : Req)
  | fwWrite (q : Req) (src offset len : Nat) (first last : Bool)
  | fwWriteDone
  | fwActivate (q : Req) (slot : Nat) (reset : Bool)
  | keyLoad (q : Req) (slot : Nat) (key : List Byte)
  | lcQuery (q : Req)
  | lcAdvance (q : Req) (target confirm : Nat)
  -- Events (R426)
  | evtQuery (q : Req)
  | evtClear (q : Req)
  | evtInject (q : Req) (channel : Nat) (tag : Int)
  | evtGroup (q : Req) (enable disable : Nat)
  -- DMA and memory (R427)
  | memQuery (q : Req)
  | memAlloc (q : Req) (len : Nat)
  | memFree (q : Req) (handle : Nat)
  | memCopy (q : Req) (src dst len : Nat)
  | memCrc (q : Req) (addr len : Nat)
  | firmwareDmaDone
  -- Mailboxes (R389-R393)
  | mailboxGo (n value : Nat)
  | keeperTakeRequest (n : Nat) (bufferError : Bool := false)
  | mailboxResponse (n : Nat)
  | mailboxAck (n value : Nat)
  | udpRequest (srcAddr srcPort : Nat) (data : List Byte) (firstFragment lastFragment : Bool)
  | fragmentTimeout
  -- Host-interface registers (R379-R388, R395)
  | hifReset (value : Word)
  | irqStatusClear (value : Word) (same : Word := 0)
  | irqForce (value : Word)
  | msixUnmask (vector : Nat)
  | winBaseLoWrite (value : Word)
  | winBaseHiWrite (value : Word)
  | hostVersionWrite (value : Word)
  | ringConfigWrite (ring offset : Nat) (value : Word)
  | registerWrite (offset : Nat) (value : Word)
  | bar2Access (write : Bool) (offset len : Nat) (data : List Byte) (parity : Bool := false)
  | ringEntryReturn (ring index : Nat)
  | spillDrain (ring : Nat)
  | recordWrite (ring : Nat)
  | ringTimerExpiry (ring : Nat)
  -- Host DMA channels (R477-R482)
  | dmaStart (ch : Nat)
  | dmaPause (ch : Nat) (on : Bool)
  | dmaAbort (ch : Nat)
  | dmaConfigWrite (ch offset : Nat) (value : Word)
  | dmaDescriptorDone (ch : Nat) (eccAt : Option Nat) (corrected : List Nat := [])
  | dmaDrainDone (ch done : Nat)
  | itemEntryHandover (lead index : Nat)
  -- PCIe resets and link (R380)
  | pcieFlr
  | perstAssert
  | pcieLinkLoss
  -- Web position (R69-R93)
  | encoderEdge (k : Nat) (a b : Bool) (t : Nat) (overflow : Bool := false)
  | encoderZEdge (k t : Nat)
  | stallTimeout (t : Nat)
  | toothEdge (k t : Nat) (overflow : Bool := false)
  | serialPoll (k t : Nat)
  | serialWord (k : Nat) (w : SerialWordIn) (t : Nat)
  | serialTimeout (k t : Nat)
  | lineTrigger (t : Nat)
  | freeRunLine (t : Nat)
  | calTimedTrigger (t : Nat)
  -- Cameras (R98-R125)
  | sensorTransferDone (r : SensorResult)
  | sensorIbi (camera : Nat)
  | csiFrameStart (port : Nat) (p : CsiPacket)
  | csiFrameEnd (port : Nat) (p : CsiPacket)
  | csiLineStart (port : Nat) (p : CsiPacket)
  | csiLongPacket (port : Nat) (p : CsiPacket)
  | csiOtherPacket (port : Nat) (p : CsiPacket)
  | csiSyncError (port : Nat)
  | exitDeadline
  | stripBreak
  -- Web path (R136-R232)
  | geometryLine (hits : List (Nat × EccHit) := [])
  | spanEmitLine (bufferError : Option Nat)
  | compareLine (bufferError gapStateError : Bool) (hits : List BandHit := []) (corrected : Nat := 0)
  | bandDecode (error : Option (Nat × Nat)) (codecUnit : Nat := 0)
  | segmentLine (labelError : Bool) (corrected : Nat := 0) (queueError : Option (Nat × Nat) := none)
  | qswarmEnqueue
  | statsLine
  | loopResultReady
  | codecGroupClose (overview : Bool) (error : Option Nat := none) (corrected : List Nat := [])
  | codecFlushTimeout (overview : Bool) (error : Option Nat := none) (corrected : List Nat := [])
  | ringWriteTimeout (overview : Bool)
  -- The Comb (R243-R260)
  | descriptorAccept
  | fieldTaskReady
  | repeatTaskReady (stage : Nat)
  | itemTaskReady
  | windowTaskReady (stage head : Nat)
  | eventTask (stage : Nat)
  | taskDispatch
  | taskComplete (cell : Nat) (bad : List (Nat × Nat × Nat) := [])
  | taskWatchdog (cell : Nat)
  | cellFault (cell code : Nat) (frameStore : Bool) (param corrected : Bool := false)
  | shedEvaluation (busyPercent : Nat) (ages : List Nat)
  | frameClockChange (frame mhz : Nat)
  -- Markers (R304)
  | markerActivate (m : Nat)
  | markerDeactivate (m : Nat)
  -- Print (R314-R345, R356-R359)
  | headLineTrigger (h t : Nat) (bufferError : Bool := false)
  | headLineStart (h t : Nat) (entryError : Bool := false)
  | headLineReprepare (h t : Nat)
  | bitmapBurstDone (lead : Nat) (itemId row : Nat) (ok : Bool)
  | headGateAssert (inp : GateInput)
  | headGateClear (inp : GateInput)
  | gateRearmExpiry (h : Nat)
  | hsenSettleExpiry (h : Nat)
  | speedEvaluation
  | spdHoldExpiry
  | authResponse (h : Nat) (r : ChipReply)
  | authRetryTimeout (h : Nat)
  | usageWriteDone (h : Nat) (r : ChipReply)
  | monitorOutput (ch code : Nat) (eccError : Bool)
  | pinInputEdge (pin : Nat) (level : Bool)
  -- Trestle (R363-R374)
  | eventDelivery (parity : List Nat)
  | relayFire (r : Nat)
  | pinOutPulseEnd (n : Nat)
  -- Network and time (R428-R444)
  | ethFrameRx (port : Nat) (f : EthFrame)
  | macAgeing (mac : Nat) (eccError : Bool := false)
  | ptpSync (port : Nat) (masterNs : Int) (fromMaster : Nat) (udp : Bool := false)
  | ptpAnnounceTimeout (arrival : Bool := false)
  | hello (srcAddr : Nat) (pmajor pminor len hifVersion : Nat) (reply : Bool)
  | helloTimer
  | bulk (srcAddr srcPort : Nat) (handle kind offset : Nat) (data : List Byte) (pmajor : Nat := 1) (short : Bool := false)
  | spdRefreshTimer
  -- Viaduct (R450-R469)
  | linkTrainRetry
  | train (version role goodMask chipId : Nat) (ownGoodMask rttNs : Nat) (stamp : Nat := 0)
  | linkDown
  | pairinfo (epoch width pitch : Nat) (posPitch : Nat := 0)
  | viaductMbx (response : Bool) (words : List Nat)
  | lanes (mask firstSeq : Nat)
  | posSendTimer
  | pos (h : Int) (reverse overspeed freerun : Bool)
  | line (wln : Nat) (wpos : Int) (epoch time ridx roff : Nat) (notrig : Bool)
  | seam (wln epoch state label : Nat) (merge : Bool := true)
  | part (d : Descriptor) (label : Nat)
  | cut (label wln : Nat)
  | seamTimeout (wln : Nat)
  | replayRequest (lane : Option Nat) (code : Nat) (first : Nat := 0) (peer : Bool := false)
  -- DRAM (R491-R498)
  | dramRefreshDue (rank : Nat) (wait12 wait3 : Bool := false) (ahead : Nat := 0)
  | mr4Read (codes : List Nat)
  | dqsTracking
  | eccScrub (corrected : List Nat) (uncorrectable : List Nat)
  | setPointChange (sp : Nat)
  | standbySelfRefresh
  -- Axes (R526-R531)
  | axisVelocityUpdate (a : Nat)
  | axisStep (a : Nat)
  | homeInputChange (a : Nat) (level : Bool)
  -- Power, reset, boot (R553-R568)
  | vinUvloRising
  | vinUvloFalling
  | brownout (lowestMv : Nat)
  | brownoutRelease
  | porstN
  | resetRelease (vdRole : Nat) (bistFull : Bool)
  | bootLoadDone (records : List BootRecord) (images : List FwImage) (profile : List Byte)
  | bootDone (failures : List BistEntry) (dramTrained : Bool) (fittedGib fittedType : Nat) (unequal : Bool := false)
  | tempEvaluation (sensors : List Int)
  | thermal
  | keeperWatchdogExpiry
  | pllLossOfLock (islands : List Nat)
  | heartbeat
  | perstRelease
  | pcieLinkUp
  | ethLinkChange (port : Nat) (up : Bool)
  | calTableReadDone
  | stationSwitch (m : Nat)
  | testInstruction (isProtected : Bool)
  | ptpSyncSend
  | ptpDelayReqSend
  deriving DecidableEq, Repr

end Sys2Proof
end

