-- ==== Sys2Proof/Decode.lean ====
section
/-! DEFINITION. The word form of commands. No row of the opcode table gives bits: a command reaches the block as a
mailbox request, a register access, a frame, a packet or a pin event, not as a word. -/

namespace Sys2Proof

/-- The command that a word spells by the table's bits: none, since no row gives bits (log 4). -/
def decodeTableWord (_nbits _w : Nat) : Option Instr := none

end Sys2Proof
end

