-- ==== Sys2Proof/Machine/Bits.lean ====
section
/-! DEFINITION. Bit fields, byte order, sign extension, rounding, saturation and the CRC-32 of R42: the arithmetic helpers
that every chapter uses. Quantities are `Nat` or `Int`; memory bytes are `Byte`. -/

namespace Sys2Proof.Machine

/-- Bits [hi:lo] of a number. -/
def fld (w hi lo : Nat) : Nat := (w / 2 ^ lo) % 2 ^ (hi + 1 - lo)

/-- Bit `i` of a number. -/
def bitAt (w i : Nat) : Bool := decide ((w / 2 ^ i) % 2 = 1)

/-- A bit as a number. -/
def b2n (b : Bool) : Nat := if b then 1 else 0

/-- The number with bit `i` set. -/
def setBit (w i : Nat) : Nat := if bitAt w i then w else w + 2 ^ i

/-- The number with bit `i` cleared. -/
def clearBit (w i : Nat) : Nat := if bitAt w i then w - 2 ^ i else w

/-- The value of an `n`-bit two's-complement field. -/
def sext (n w : Nat) : Int :=
  if w % 2 ^ n < 2 ^ (n - 1) then (w % 2 ^ n : Nat) else (w % 2 ^ n : Nat) - (2 ^ n : Nat)

/-- An integer as an `n`-bit two's-complement field. -/
def truncN (n : Nat) (i : Int) : Nat := (i % (2 ^ n : Nat)).toNat

/-- A number saturated at the all-ones value of `n` bits (R18). -/
def satN (n v : Nat) : Nat := min v (2 ^ n - 1)

/-- A 32-bit counter that saturates at its all-ones value (R18). -/
def satAdd (v k : Nat) : Nat := min (v + k) 0xFFFFFFFF

/-- A 32-bit counter plus one, saturating (R18). -/
def satInc (v : Nat) : Nat := satAdd v 1

/-- Quotient rounded up; 0 by a zero divisor. -/
def ceilDiv (a b : Nat) : Nat := if b = 0 then 0 else (a + b - 1) / b

/-- Integer quotient rounded up, for a positive divisor. -/
def ceilDivI (a b : Int) : Int := -((-a) / b)

/-- An integer held between two bounds. -/
def clampI (lo hi v : Int) : Int := max lo (min hi v)

/-- The difference of two WPOS values as a signed 48-bit number (R9). -/
def wposDiff (a b : Int) : Int := sext 48 (truncN 48 (a - b))

/-- A WPOS as the signed 48-bit number that it wraps to (R9). -/
def wpos48 (a : Int) : Int := sext 48 (truncN 48 a)

/-- Integer square root by bisection over `fuel` bits from the top, rounded down. -/
def isqrtGo : Nat → Nat → Nat → Nat
  | 0, _, acc => acc
  | f + 1, n, acc => if (acc + 2 ^ f) * (acc + 2 ^ f) ≤ n then isqrtGo f n (acc + 2 ^ f) else isqrtGo f n acc

/-- Integer square root, rounded down, of a number below 2^128. -/
def isqrt (n : Nat) : Nat := isqrtGo 64 n 0

/-- floor(log2 n) for n below 2^fuel; 0 for 0. -/
def log2Go : Nat → Nat → Nat
  | 0, _ => 0
  | f + 1, n => if n < 2 then 0 else 1 + log2Go f (n / 2)

/-- floor(log2 n) of a number below 2^128; 0 for 0. -/
def log2N (n : Nat) : Nat := log2Go 128 n

/-- Number of set bits among the low `k` bits. -/
def popcount : Nat → Nat → Nat
  | 0, _ => 0
  | k + 1, w => w % 2 + popcount k (w / 2)

/-- The numbers of the bits set among the low `k` bits, ascending, counted from `i`. -/
def bitsSetFrom : Nat → Nat → Nat → List Nat
  | 0, _, _ => []
  | k + 1, i, w => if w % 2 = 1 then i :: bitsSetFrom k (i + 1) (w / 2) else bitsSetFrom k (i + 1) (w / 2)

/-- The numbers of the bits set among the low `k` bits, ascending. -/
def bitsSet (k w : Nat) : List Nat := bitsSetFrom k 0 w

/-- `[i, i+1, …]`, `n` numbers, by structural recursion. -/
def natsFrom : Nat → Nat → List Nat
  | 0, _ => []
  | n + 1, i => i :: natsFrom n (i + 1)

/-- `[0, …, n-1]`. -/
def upto (n : Nat) : List Nat := natsFrom n 0

/-- `n` bytes of a number, least significant first (R14). -/
def leBytes : Nat → Nat → List Byte
  | 0, _ => []
  | n + 1, v => BitVec.ofNat 8 v :: leBytes n (v / 256)

/-- The number of bytes in little-endian order (R14). -/
def ofLe : List Byte → Nat
  | [] => 0
  | b :: bs => b.toNat + 256 * ofLe bs

/-- The number of bytes in big-endian order. -/
def ofBe (bs : List Byte) : Nat := bs.foldl (fun a b => a * 256 + b.toNat) 0

/-- `n` bytes of a number, most significant first. -/
def beBytes (n v : Nat) : List Byte := (leBytes n v).reverse

/-- `n` bytes of a byte list at an offset; bytes beyond its end read as 0. -/
def bytesAt (bs : List Byte) (off n : Nat) : List Byte :=
  let t := (bs.drop off).take n
  t ++ List.replicate (n - t.length) 0

/-- The little-endian number of `n` bytes at an offset. -/
def leAt (bs : List Byte) (off n : Nat) : Nat := ofLe (bytesAt bs off n)

/-- The 32-bit word at an offset. -/
def wordAt (bs : List Byte) (off : Nat) : Nat := leAt bs off 4

/-- 32-bit words as bytes (R14). -/
def wordsBytes (ws : List Nat) : List Byte := (ws.map (leBytes 4)).flatten

/-- A 64-bit number as its two words, low first. -/
def lohi (v : Nat) : List Nat := [v % 2 ^ 32, v / 2 ^ 32 % 2 ^ 32]

/-- A signed 64-bit number as its two words, low first (R398: a signed value extends its sign). -/
def lohiS (v : Int) : List Nat := lohi (truncN 64 v)

/-- Words of `n` bytes grouped from a byte list, at most `k` of them. -/
def groupWords : Nat → List Byte → List Nat
  | 0, _ => []
  | _ + 1, [] => []
  | k + 1, bs => leAt bs 0 4 :: groupWords k (bs.drop 4)

/-- One bit of the reflected CRC-32 (R42). -/
def crcBit (c : Nat) : Nat := if c % 2 = 1 then Nat.xor (c / 2) 0xEDB88320 else c / 2

/-- One byte into the CRC-32 register (R42). -/
def crcByte (c : Nat) (b : Byte) : Nat :=
  crcBit (crcBit (crcBit (crcBit (crcBit (crcBit (crcBit (crcBit (Nat.xor c b.toNat))))))))

/-- The CRC-32 register after bytes, from a register value (R42). -/
def crcFold : Nat → List Byte → Nat
  | c, [] => c
  | c, b :: bs => crcFold (crcByte c b) bs

/-- CRC-32 of IEEE 802.3: register initialised to all ones, bits reflected, result complemented (R42). -/
def crc32 (bs : List Byte) : Nat := Nat.xor (crcFold 0xFFFFFFFF bs) 0xFFFFFFFF

/-- Element `i` of a list, or a default. -/
def getN {α : Type} (l : List α) (i : Nat) (d : α) : α := l.getD i d

/-- The list with element `i` replaced by its image. -/
def updAt {α : Type} (l : List α) (i : Nat) (f : α → α) : List α := l.modify i f

/-- The list with element `i` replaced. -/
def setAt {α : Type} (l : List α) (i : Nat) (x : α) : List α := l.set i x

/-- The value of the first pair with a key. -/
def lookupN {β : Type} (k : Nat) : List (Nat × β) → Option β
  | [] => none
  | (j, v) :: r => if j = k then some v else lookupN k r

/-- The pairs with one key replaced or added at the end. -/
def insertN {β : Type} (k : Nat) (v : β) : List (Nat × β) → List (Nat × β)
  | [] => [(k, v)]
  | (j, w) :: r => if j = k then (k, v) :: r else (j, w) :: insertN k v r

/-- The pairs without a key. -/
def eraseN {β : Type} (k : Nat) (l : List (Nat × β)) : List (Nat × β) := l.filter (fun p => p.1 != k)

/-- Insertion into an ascending list of numbers without repeats. -/
def insertSorted (x : Nat) : List Nat → List Nat
  | [] => [x]
  | y :: r => if x < y then x :: y :: r else if x = y then y :: r else y :: insertSorted x r

/-- Sum of a list of integers. -/
def sumI (l : List Int) : Int := l.foldl (· + ·) 0

/-- Sum of a list of numbers. -/
def sumN (l : List Nat) : Nat := l.foldl (· + ·) 0

/-- Largest number of a list; 0 of none. -/
def maxN (l : List Nat) : Nat := l.foldl max 0

/-- Smallest number of a list; a default of none. -/
def minN (d : Nat) (l : List Nat) : Nat := l.foldl min d

/-- Smallest integer of a list; a default of none. -/
def minI (d : Int) (l : List Int) : Int := l.foldl min d

/-- Largest integer of a list; a default of none. -/
def maxI (d : Int) (l : List Int) : Int := l.foldl max d

end Sys2Proof.Machine
end

