-- ==== Sys2Proof/Machine/Codec.lean ====
section
/-! DEFINITION. The line coder of the codec (R503-R512): prediction, near-lossless quantisation, Rice codes, blocks, and their
decoding. -/

namespace Sys2Proof.Machine

/-- Parameters of a stream: sample depth B, bound NEAR, planes, and the static table (nibble of plane p and class t at index
8p + t) when the table is static (R508, R509). -/
structure CodecParams where
  depth : Nat
  near : Nat
  planes : Nat
  table : Option (List Nat) := none
  deriving DecidableEq, Repr, Inhabited

/-- History of one plane of a stream: the last reconstructed line (none after a reset) and the pair (A, N) of each class. -/
structure PlaneCtx where
  prev : Option (List Nat) := none
  stat : List (Nat × Nat)
  deriving DecidableEq, Repr, Inhabited

/-- A plane's history after a reset (R507). -/
def PlaneCtx.fresh (depth : Nat) : PlaneCtx := { stat := List.replicate 8 (max 2 ((2 ^ depth + 32) / 64), 1) }

/-- A stream's history after a reset, plane by plane. -/
def freshStream (c : CodecParams) : List PlaneCtx := List.replicate c.planes (PlaneCtx.fresh c.depth)

/-- The prediction of R508. -/
def predict (a b c : Nat) : Nat :=
  if c ≥ max a b then min a b else if c ≤ min a b then max a b else a + b - c

/-- The quantised residue of R508. -/
def quantise (near : Nat) (e : Int) : Int :=
  if e > 0 then (e + near) / (2 * near + 1 : Nat) else -((near - e) / (2 * near + 1 : Nat))

/-- The reconstruction of R508. -/
def reconstruct (depth near p : Nat) (q : Int) : Nat := (clampI 0 (2 ^ depth - 1 : Nat) (p + q * (2 * near + 1 : Nat))).toNat

/-- The mapped residue of R508. -/
def mapResidue (q : Int) : Nat := if q ≥ 0 then (2 * q).toNat else (-2 * q - 1).toNat

/-- The residue of a mapped residue. -/
def unmapResidue (m : Nat) : Int := if m % 2 = 0 then (m / 2 : Nat) else -((m + 1) / 2 : Nat)

/-- |x − y| of two samples. -/
def absDiff (x y : Nat) : Nat := if x ≥ y then x - y else y - x

/-- The class of R509. -/
def activityClass (depth a b c d : Nat) : Nat :=
  let g := absDiff d b + absDiff b c + absDiff c a
  ((natsFrom 7 1).filter (fun i => decide ((2 ^ i - 1) * 2 ^ (depth - 8) ≤ g))).length

/-- Smallest k up to B with (N << k) ≥ A (R509). -/
def riceK : Nat → Nat → Nat → Nat → Nat
  | 0, k, _, _ => k
  | f + 1, k, a, n => if n * 2 ^ k ≥ a then k else riceK f (k + 1) a n

/-- The pair (A, N) after m was coded (R509). -/
def statUpdate (p : Nat × Nat) (m : Nat) : Nat × Nat :=
  let a := p.1 + m
  if p.2 = 64 then (a / 2, 33) else (a, p.2 + 1)

/-- The low `n` bits of a number, most significant first. -/
def bitsMsb : Nat → Nat → List Bool
  | 0, _ => []
  | n + 1, v => bitAt v n :: bitsMsb n v

/-- The code word of R510. -/
def codeWord (depth k m : Nat) : List Bool :=
  if m / 2 ^ k < 24 then List.replicate (m / 2 ^ k) false ++ (true :: bitsMsb k m)
  else List.replicate 24 false ++ (true :: bitsMsb (depth + 1) m)

/-- Rice parameter of plane p and class t. -/
def CodecParams.k (c : CodecParams) (p t : Nat) (stat : List (Nat × Nat)) : Nat :=
  match c.table with
  | some tab => getN tab (8 * p + t) 0
  | none =>
    let x := getN stat t (2, 1)
    riceK c.depth 0 x.1 x.2

/-- Result of coding a run of pixels of one plane: bits, reconstructed line, statistics, escapes. -/
structure CodedRun where
  bits : List Bool := []
  recon : List Nat := []
  stat : List (Nat × Nat)
  escapes : Nat := 0

/-- Neighbours b, c, d of a pixel (R507): `above` is the rest of the previous line from this pixel on, none after a reset. -/
def neighbours (a c0 : Nat) (above : Option (List Nat)) (first : Bool) : Nat × Nat × Nat × Nat :=
  match above with
  | none => (a, a, a, a)
  | some l =>
    let b := l.headD 0
    let d := (l.drop 1).headD b
    if first then (b, b, b, d) else (a, b, c0, d)

/-- The pixels of one plane of one line, left to right (R506-R510). `none` is a VOID pixel. `a` is the left reconstruction and `c0`
the reconstruction above it. -/
def codePixels (c : CodecParams) (p : Nat) : List (Option Nat) → Nat → Nat → Option (List Nat) → Bool → List (Nat × Nat) → CodedRun
  | [], _, _, _, _, stat => { stat := stat }
  | s :: rest, a, c0, above, first, stat =>
    let nb := neighbours a c0 above first
    let up := above.map (fun l => l.drop 1)
    match s with
    | none =>
      let m := 2 ^ (c.depth - 1)
      let r := codePixels c p rest m nb.2.1 up false stat
      { r with recon := m :: r.recon }
    | some v =>
      let pr := predict nb.1 nb.2.1 nb.2.2.1
      let q := quantise c.near ((v : Int) - pr)
      let rec' := reconstruct c.depth c.near pr q
      let m := mapResidue q
      let t := activityClass c.depth nb.1 nb.2.1 nb.2.2.1 nb.2.2.2
      let k := c.k p t stat
      let r := codePixels c p rest rec' nb.2.1 up false (updAt stat t (fun x => statUpdate x m))
      { r with bits := codeWord c.depth k m ++ r.bits, recon := rec' :: r.recon, escapes := r.escapes + b2n (decide (m / 2 ^ k ≥ 24)) }

/-- One line of all planes (R506): bits, reconstructed planes, histories, escapes. -/
def codeLine (c : CodecParams) : Nat → List (List (Option Nat)) → List PlaneCtx → List Bool × List (List Nat) × List PlaneCtx × Nat
  | _, [], ctx => ([], [], ctx, 0)
  | _, _ :: _, [] => ([], [], [], 0)
  | p, l :: ls, x :: xs =>
    let r := codePixels c p l (2 ^ (c.depth - 1)) 0 x.prev true x.stat
    let (b, rec', ctx, e) := codeLine c (p + 1) ls xs
    (r.bits ++ b, r.recon :: rec', { prev := some r.recon, stat := r.stat } :: ctx, r.escapes + e)

/-- The lines of a block (R506): bits, reconstructed lines, histories, escapes. -/
def codeLines (c : CodecParams) : List (List (List (Option Nat))) → List PlaneCtx → List Bool × List (List (List Nat)) × List PlaneCtx × Nat
  | [], ctx => ([], [], ctx, 0)
  | l :: ls, ctx =>
    let (b, rec', ctx1, e) := codeLine c 0 l ctx
    let (bs, recs, ctx2, es) := codeLines c ls ctx1
    (b ++ bs, rec' :: recs, ctx2, e + es)

/-- Bits as bytes, bit 7 first, padded with 0 bits (R511). -/
def packBits : Nat → List Bool → List Byte
  | 0, _ => []
  | n + 1, bs =>
    let t := bs.take 8
    let v := (t ++ List.replicate (8 - t.length) false).foldl (fun a b => 2 * a + b2n b) 0
    BitVec.ofNat 8 v :: packBits n (bs.drop 8)

/-- A block's bytes: padded with 0 bits to the next 4-byte boundary (R511). -/
def blockBytes (bs : List Bool) : List Byte := packBits (4 * ceilDiv bs.length 32) bs

/-- Bytes as bits, bit 7 first. -/
def unpackBits (bs : List Byte) : List Bool := (bs.map (fun b => bitsMsb 8 b.toNat)).flatten

/- Decoding. -/

/-- The value of n bits, most significant first, and the rest; none where they run out. -/
def takeBits : Nat → Nat → List Bool → Option (Nat × List Bool)
  | 0, acc, bs => some (acc, bs)
  | _ + 1, _, [] => none
  | n + 1, acc, b :: bs => takeBits n (2 * acc + b2n b) bs

/-- The number of leading 0 bits before a 1, up to 24, and the rest after the 1. -/
def takeZeros : Nat → Nat → List Bool → Option (Nat × List Bool)
  | _, _, [] => none
  | f, u, b :: bs => if b then some (u, bs) else match f with
    | 0 => none
    | f' + 1 => takeZeros f' (u + 1) bs

/-- The mapped residue at the head of the bits (R510). -/
def readCode (depth k : Nat) (bs : List Bool) : Option (Nat × List Bool) :=
  match takeZeros 24 0 bs with
  | none => none
  | some (u, r) =>
    if u < 24 then (takeBits k 0 r).map (fun (x : Nat × List Bool) => (u * 2 ^ k + x.1, x.2)) else takeBits (depth + 1) 0 r

/-- The pixels of one plane of one line decoded: reconstruction, statistics and the remaining bits. `true` in the list is a VOID
pixel. -/
def decodePixels (c : CodecParams) (p : Nat) :
    List Bool → Nat → Nat → Option (List Nat) → Bool → List (Nat × Nat) → List Bool → Option (List Nat × List (Nat × Nat) × List Bool)
  | [], _, _, _, _, stat, bs => some ([], stat, bs)
  | v :: rest, a, c0, above, first, stat, bs =>
    let nb := neighbours a c0 above first
    let up := above.map (fun l => l.drop 1)
    if v then
      let m := 2 ^ (c.depth - 1)
      (decodePixels c p rest m nb.2.1 up false stat bs).map (fun r => (m :: r.1, r.2))
    else
      let t := activityClass c.depth nb.1 nb.2.1 nb.2.2.1 nb.2.2.2
      match readCode c.depth (c.k p t stat) bs with
      | none => none
      | some (m, bs1) =>
        let r := reconstruct c.depth c.near (predict nb.1 nb.2.1 nb.2.2.1) (unmapResidue m)
        (decodePixels c p rest r nb.2.1 up false (updAt stat t (fun x => statUpdate x m)) bs1).map (fun x => (r :: x.1, x.2))

/-- One line of all planes decoded. -/
def decodeLine (c : CodecParams) (voids : List Bool) : Nat → List PlaneCtx → List Bool → Option (List (List Nat) × List PlaneCtx × List Bool)
  | _, [], bs => some ([], [], bs)
  | p, x :: xs, bs =>
    match decodePixels c p voids (2 ^ (c.depth - 1)) 0 x.prev true x.stat bs with
    | none => none
    | some (r, stat, bs1) =>
      (decodeLine c voids (p + 1) xs bs1).map (fun y => (r :: y.1, { prev := some r, stat := stat } :: y.2.1, y.2.2))

/-- The lines of a block decoded; one list of VOID marks per line. -/
def decodeLines (c : CodecParams) : List (List Bool) → List PlaneCtx → List Bool → Option (List (List (List Nat)) × List PlaneCtx × List Bool)
  | [], ctx, bs => some ([], ctx, bs)
  | v :: vs, ctx, bs =>
    match decodeLine c v 0 ctx bs with
    | none => none
    | some (l, ctx1, bs1) => (decodeLines c vs ctx1 bs1).map (fun y => (l :: y.1, y.2))

/-- The bits left after a block's padding to the next 4-byte boundary, given the bits before and after the block (R511). -/
def alignBits (before after : Nat) (bs : List Bool) : List Bool := bs.drop ((32 - (before - after) % 32) % 32)

/-- The static table of a number of nibbles, nibble of plane p and class t at index 8p + t. -/
def nibbles (n v : Nat) : List Nat := (upto n).map (fun i => fld v (4 * i + 3) (4 * i))

/-- Blocks of at most 16 lines of a tile, `left` lines in all (R512). -/
def decodeTileBlocks (c : CodecParams) (width : Nat) : Nat → Nat → List PlaneCtx → List Bool → Option (List (List (List Nat)))
  | 0, _, _, _ => some []
  | f + 1, left, ctx, bs =>
    if left = 0 then some [] else
    let n := min 16 left
    match decodeLines c (List.replicate n (List.replicate width false)) ctx bs with
    | none => none
    | some (ls, ctx1, bs1) =>
      (decodeTileBlocks c width f (left - n) ctx1 (alignBits bs.length bs1.length bs1)).map (fun r => ls ++ r)

/-- An image tile decoded (R512): its lines, each three planes of 8-bit samples. A corrupt stream is misuse (R203), and gives none. -/
def decodeTile (width lines : Nat) (bs : List Byte) : Option (List (List (List Nat))) :=
  let w0 := wordAt bs 0
  let tab := leAt bs 4 12
  let c : CodecParams := { depth := 8, near := w0 % 16, planes := 3, table := if bitAt w0 4 then some (nibbles 24 tab) else none }
  decodeTileBlocks c width (lines / 16 + 1) lines (freshStream c) (unpackBits (bs.drop 16))

/-- The blocks of a tile's lines coded, 16 lines at a time (R512). -/
def codeTileBlocks (c : CodecParams) : Nat → List (List (List (Option Nat))) → List PlaneCtx → List Byte
  | 0, _, _ => []
  | f + 1, ls, ctx =>
    if ls.isEmpty then [] else
    let r := codeLines c (ls.take 16) ctx
    blockBytes r.1 ++ codeTileBlocks c f (ls.drop 16) r.2.2.1

/-- An image tile of a learned object (R512, R513). -/
def codeTile (near : Nat) (table : Option Nat) (ls : List (List (List Nat))) : List Byte :=
  let c : CodecParams := { depth := 8, near := near, planes := 3, table := table.map (nibbles 24) }
  leBytes 4 (near + if table.isSome then 16 else 0) ++ leBytes 12 (table.getD 0) ++
    codeTileBlocks c (ls.length / 16 + 1) (ls.map (fun l => l.map (fun p => p.map some))) (freshStream c)

end Sys2Proof.Machine
end

