-- ==== Sys2Proof/Machine/TypesCore.lean ====
section
/-! DEFINITION. State types of the host side: modes, records and rings, mailboxes, the host interface, decks, faults, fuses
and firmware, power. Each field says its meaning, then [width; rule and file; value at reset]; "DC" is a value
that the spec does not give (log 1), and "model" a field that the model adds. -/

namespace Sys2Proof.Machine

/-- The twelve modes of R546. -/
inductive Mode where
  | boot | selftest | standby | configure | diagnostic | calibrate
  | learn | makeready | inspect | print | printVerify | safeHold
  deriving DecidableEq, Repr, Inhabited

/-- One section of a container: ID, INSTANCE, VERSION and the body bytes (R43). -/
structure Section where
  id : Nat
  inst : Nat
  ver : Nat
  body : List Byte
  deriving DecidableEq, Repr, Inhabited

/-- A checked deck or profile container (R41): LENGTH, DECK_ID, DECK_REV, CREATED, NAME and its sections in order. -/
structure Container where
  length : Nat := 0
  deckId : Nat := 0
  deckRev : Nat := 0
  created : Nat := 0
  name : List Byte := []
  sections : List Section := []
  deriving DecidableEq, Repr, Inhabited

/-- A library slot (R49): its load generation, and the container it holds. -/
structure DeckSlot where
  gen : Nat := 0
  deck : Option Container := none
  deriving DecidableEq, Repr, Inhabited

/-- A station of a swap (R57): the camera bar, a head port or a marker. -/
inductive Station where
  | camera
  | head (h : Nat)
  | marker (m : Nat)
  deriving DecidableEq, Repr, Inhabited

/-- An armed or travelling swap (R56-R64). -/
structure Swap where
  /-- the web location Ws -/
  ws : Int := 0
  /-- the switch line S of R145 -/
  switchLine : Nat := 0
  /-- the staged slot that the swap will activate -/
  slot : Nat := 0
  /-- stations that have not switched yet -/
  waiting : List Station := []
  /-- true from the first station's switch on -/
  begun : Bool := false
  /-- the camera bar has switched -/
  cameraDone : Bool := false
  /-- Wd once the camera bar has switched: the distance from Ws to WPOS of the new epoch -/
  base : Int := 0
  /-- the slot of the deck that is being left -/
  oldSlot : Option Nat := none
  /-- the Viaduct peer swaps too (R66) -/
  joint : Bool := false
  deriving DecidableEq, Repr, Inhabited

/-- Decks, roles, epochs and the swap. -/
structure DeckState where
  /-- The 16 library slots. [16 slots; R49 of 02_job_decks.md; empty (R561)] -/
  slots : List DeckSlot := List.replicate 16 {}
  /-- Slot with the ACTIVE role. [role; R49 of 02_job_decks.md; none (R561)] -/
  active : Option Nat := none
  /-- Slot with the STAGED role. [role; R49 of 02_job_decks.md; none (R561)] -/
  staged : Option Nat := none
  /-- Reference slot bound to the ACTIVE deck. [slot; R200 of 07_reference_registration.md; none] -/
  refActive : Option Nat := none
  /-- Reference slot bound to the STAGED deck. [slot; R200 of 07_reference_registration.md; none] -/
  refStaged : Option Nat := none
  /-- Deck epoch at the camera bar (HIF_EPOCH). [32; R60 of 02_job_decks.md; 0] -/
  epoch : Nat := 0
  /-- The swap that is armed or in transit. [state; R56 of 02_job_decks.md; none] -/
  swap : Option Swap := none
  /-- Epoch before the camera bar's current one. [32; R371 of 14_event_fabric.md; 0] -/
  prevEpoch : Nat := 0
  /-- Wd of the swap that began the current epoch, 0 where no swap did. [48; R371 of 14_event_fabric.md; 0] -/
  lastWd : Int := 0
  /-- Deck of each epoch, newest first: lines and tasks run under the deck of their epoch. [list; R62 of 02_job_decks.md; empty] -/
  epochs : List (Nat × Container) := []
  /-- Epoch under which each station other than the camera bar acts, where it differs. [list; R34 of 02_job_decks.md; empty] -/
  stationEpoch : List (Station × Nat) := []
  deriving DecidableEq, Repr, Inhabited

/-- The device profile. -/
structure ProfileState where
  /-- Profile in force. [container; R39 of 02_job_decks.md; every default (R567)] -/
  current : Container := {}
  /-- Profile loaded in CONFIGURE that takes effect on leaving it. [container; R40 of 02_job_decks.md; none] -/
  loaded : Option Container := none
  /-- Profile area of the flash. [448 KiB; R567 of 23_modes_power_boot.md; DC absent (log 1)] -/
  stored : Option (List Byte) := none
  /-- Bytes of the loaded profile, to be written to the flash. [bytes; R567 of 23_modes_power_boot.md; empty] -/
  loadedBytes : List Byte := []
  /-- The stored profile passed the checks of R52 at boot. [1; R547 of 23_modes_power_boot.md; false] -/
  storedValid : Bool := false
  deriving DecidableEq, Repr, Inhabited

/-- The block in DRAM that a record points to; it is reserved until the entry returns (R285). -/
inductive BlockRef where
  | stats (k : Nat)
  | meas (addr len : Nat)
  | value (k : Nat)
  | crop (handle : Nat)
  deriving DecidableEq, Repr, Inhabited

/-- A record on its way to a ring (R286): TYPE, FLAGS, EPOCH, SEQ, words 0x10-0x3F and the blocks that it points to. -/
structure Rec where
  typ : Nat
  flags : Nat := 0
  epoch : Nat := 0
  seq : Nat := 0
  words : List Nat := []
  blocks : List BlockRef := []
  deriving DecidableEq, Repr, Inhabited

/-- One record ring (R284-R288, R385-R388). -/
structure Ring where
  /-- BASE_LO. [32, bits 31:6; R385 of 15_host_interface.md; 0] -/
  baseLo : Nat := 0
  /-- BASE_HI. [8; R385 of 15_host_interface.md; 0] -/
  baseHi : Nat := 0
  /-- SIZE_LOG2; 0 = disabled. [5; R385 of 15_host_interface.md; 0] -/
  sizeLog2 : Nat := 0
  /-- PROD: index of the next entry that the device writes. [20; R385 of 15_host_interface.md; 0] -/
  prod : Nat := 0
  /-- TIMER_US. [16; R385 of 15_host_interface.md; 0] -/
  timerUs : Nat := 0
  /-- COUNT. [16; R385 of 15_host_interface.md; 1] -/
  count : Nat := 1
  /-- LOST: records lost, saturating. [32; R288 of 11_defect_records.md; 0] -/
  lost : Nat := 0
  /-- CFGERR. [1; R385 of 15_host_interface.md; 0] -/
  cfgErr : Bool := false
  /-- SEQ of the next record. [64; R287 of 11_defect_records.md; 0] -/
  seq : Nat := 0
  /-- SEQ_HI latched by the last SEQ_LO read. [32; R385 of 15_host_interface.md; 0] -/
  seqHi : Nat := 0
  /-- Records being written to entries PROD, PROD + 1, … . [queue; R285 of 11_defect_records.md; empty] -/
  inflight : List Rec := []
  /-- Spill queue. [4,096 entries; R288 of 11_defect_records.md; empty] -/
  spill : List Rec := []
  /-- Entries written since the status bit was last set (R388). [count; R388 of 15_host_interface.md; 0] -/
  announced : Nat := 0
  /-- First entry written since the status bit was last set, as a tick. [time; R388 of 15_host_interface.md; none] -/
  firstAt : Option Nat := none
  /-- The run of consecutive losses: first lost SEQ and count. [pair; R288 of 11_defect_records.md; none] -/
  lossRun : Option (Nat × Nat) := none
  /-- SPILL_HWM. [32; R307 of 11_defect_records.md; 0] -/
  spillHwm : Nat := 0
  /-- Blocks reserved by each entry that the host holds. [list; R285 of 11_defect_records.md; empty] -/
  held : List (Nat × List BlockRef) := []
  deriving DecidableEq, Repr, Inhabited

/-- A request as the Keeper copies it from a mailbox (R389, R390); `dgLen` is the datagram's payload length over UDP. -/
structure Request where
  cmd : Nat
  flags : Nat := 0
  seq : Nat
  len : Nat
  arg : Nat := 0
  payload : List Byte := []
  hostVersion : Nat := 0
  srcAddr : Nat := 0
  srcPort : Nat := 0
  dgLen : Option Nat := none
  deriving DecidableEq, Repr, Inhabited

/-- A response that waits for its mailbox (R389). -/
structure Response where
  status : Nat
  cmd : Nat
  seq : Nat
  detail : Nat
  payload : List Byte := []
  srcAddr : Nat := 0
  srcPort : Nat := 0
  deriving DecidableEq, Repr, Inhabited

/-- One mailbox (R389, R390). -/
structure Mailbox where
  /-- REQ_BUSY. [1; R389 of 15_host_interface.md; 0] -/
  reqBusy : Bool := false
  /-- RSP_VALID. [1; R389 of 15_host_interface.md; 0] -/
  rspValid : Bool := false
  /-- DBERR. [1; R389 of 15_host_interface.md; 0] -/
  dberr : Bool := false
  /-- DONE: responses written, saturating. [32; R389 of 15_host_interface.md; 0] -/
  done : Nat := 0
  /-- HIF_HOST_VERSION at the GO that set REQ_BUSY. [32; R395 of 15_host_interface.md; model] -/
  goVersion : Nat := 1
  /-- Requests taken that have not executed yet, oldest first. [queue; R390 of 15_host_interface.md; empty] -/
  taken : List Request := []
  /-- Responses of executed requests that are not in the response buffer yet, oldest first. [queue; R390 of 15_host_interface.md; empty] -/
  executed : List Response := []
  /-- The response discarded by FLR or hot reset: requests in progress then. [count; R380 of 15_host_interface.md; 0] -/
  discard : Nat := 0
  deriving DecidableEq, Repr, Inhabited

/-- A fragmented datagram under reassembly (R393). -/
structure Fragments where
  srcAddr : Nat
  srcPort : Nat
  data : List Byte
  deriving DecidableEq, Repr, Inhabited

/-- The host interface: BAR0 registers, mailboxes, MSI-X. -/
structure Hif where
  /-- HIF_HOST_VERSION declared [31:16] part, and SERVED in bit 0. [32; R381 of 15_host_interface.md; 0x0000_0001] -/
  hostVersion : Nat := 1
  /-- HIF_HEARTBEAT. [32; R381 of 15_host_interface.md; 0] -/
  heartbeat : Nat := 0
  /-- HIF_IRQ_STATUS. [32; R381 of 15_host_interface.md; 0] -/
  irqStatus : Nat := 0
  /-- HIF_IRQ_MASK. [32; R381 of 15_host_interface.md; 0xFFFF_FFFF] -/
  irqMask : Nat := 0xFFFFFFFF
  /-- MSI-X enable bit of configuration space. [1; R383 of 15_host_interface.md; DC 0 (log 1)] -/
  msixEnable : Bool := false
  /-- MSI-X table: 32 entries of four words (address, address high, data, control). [32 × 128; R381 of 15_host_interface.md; DC 0, control bit 0 = 1 (log 1)] -/
  msixTable : List Nat := (List.replicate 32 [0, 0, 0, 1]).flatten
  /-- MSI-X PBA. [64; R381 of 15_host_interface.md; 0] -/
  pba : Nat := 0
  /-- Window base in force: BASE_LO bits 31:20 as a number of MiB below 4,096. [12; R384 of 15_host_interface.md; 0] -/
  winLo : Nat := 0
  /-- Window base in force: BASE_HI. [8; R384 of 15_host_interface.md; 0x10] -/
  winHi : Nat := 0x10
  /-- BASE_LO written and held until BASE_HI is written. [12; R384 of 15_host_interface.md; 0] -/
  winLoHeld : Nat := 0
  /-- Mailboxes 0-3. [4; R389 of 15_host_interface.md; as fields] -/
  mbx : List Mailbox := List.replicate 4 {}
  /-- Contents of the mailbox request and response buffers by BAR0 offset. [8 × 4 KiB; R381 of 15_host_interface.md; DC 0 (log 1)] -/
  buf : List Host.Cell := []
  /-- MBX2 queue of received requests, oldest first. [8; R393 of 15_host_interface.md; empty] -/
  udpQueue : List Request := []
  /-- Fragmented datagram under reassembly. [one; R393 of 15_host_interface.md; none] -/
  fragments : Option Fragments := none
  /-- Last completed response of each UDP source. [list; R394 of 15_host_interface.md; empty] -/
  udpLast : List ((Nat × Nat) × Response) := []
  /-- Requests that the Viaduct peer sent, oldest first (MBX3). [queue; R389 of 15_host_interface.md; empty] -/
  peerQueue : List Request := []
  /-- Mailbox whose turn comes next in the rotation of MBX0, MBX2, MBX3. [index; R392 of 15_host_interface.md; DC 0 (log 1)] -/
  rotation : Nat := 0
  /-- The PCIe link is up. [1; R380 of 15_host_interface.md; false] -/
  linkUp : Bool := false
  /-- PERST# is asserted. [1; R561 of 23_modes_power_boot.md; false] -/
  perst : Bool := false
  deriving DecidableEq, Repr, Inhabited

/-- A running ACCEPTED command (R402): its code, its request and the objects it names. -/
structure Running where
  code : Nat
  req : Req
  args : List Nat := []
  deriving DecidableEq, Repr, Inhabited

/-- A status snapshot in progress (R33, R410): its request, DEST, line S by its serial and WLN, and what it has still to take. -/
structure Snapshot where
  req : Req
  dest : Nat
  ser : Nat
  line : Nat
  /-- epoch of S, once it has triggered -/
  fired : Option Nat := none
  /-- trigger time of S -/
  time : Nat := 0
  /-- S did not trigger in time -/
  noLine : Bool := false
  /-- TIMEOUT_MS -/
  timeoutMs : Nat := 1000
  /-- parts not taken yet, as part and instance, each with the offset at which it goes -/
  waiting : List ((Nat × Nat) × Nat) := []
  mask : Nat := 0
  length : Nat := 0
  deriving DecidableEq, Repr, Inhabited

/-- The Keeper's command state. -/
structure Keeper where
  /-- ACCEPTED commands that run. [list; R402 of 16_command_reference.md; empty] -/
  running : List Running := []
  /-- SYS_STOP requests whose response waits for the transit's end. [list; R548 of 23_modes_power_boot.md; empty] -/
  stops : List Req := []
  /-- Snapshot in progress. [state; R410 of 16_command_reference.md; none] -/
  snapshot : Option Snapshot := none
  /-- SYS_RESET has written its response and waits 1 ms. [1; R407 of 16_command_reference.md; false] -/
  resetPending : Bool := false
  deriving DecidableEq, Repr, Inhabited

/-- Mode and mode change. -/
structure SysState where
  /-- MODE of HIF_MODE. [4; R381 of 15_host_interface.md; 0x0] -/
  mode : Mode := .boot
  /-- TARGET of HIF_MODE. [4; R381 of 15_host_interface.md; 0x0] -/
  target : Mode := .boot
  /-- TRANSIT of HIF_MODE. [1; R381 of 15_host_interface.md; 0] -/
  transit : Bool := false
  /-- Mode that lines latch at their trigger (R549). [4; R549 of 23_modes_power_boot.md; BOOT] -/
  lineMode : Mode := .boot
  /-- Line serial at which a change of web mode falls (R549): TRANSIT ends when that line has been triggered. [model; R549 of 23_modes_power_boot.md; 0] -/
  modeSer : Nat := 0
  /-- Running firmware, HIF_FW_VERSION. [32; R381 of 15_host_interface.md; DC 0 (log 1)] -/
  fwVersion : Nat := 0
  /-- SLOT of HIF_FW_SLOT. [1; R381 of 15_host_interface.md; DC 0 (log 1)] -/
  fwSlot : Nat := 0
  /-- PATCHED of HIF_FW_SLOT. [1; R381 of 15_host_interface.md; DC 0 (log 1)] -/
  patched : Bool := false
  /-- Keeper handler after SAFE_HOLD runs from ROM. [1; R553 of 23_modes_power_boot.md; false] -/
  romHandler : Bool := false
  /-- A protected test instruction holds the device in reset until PORST_N. [1; R589 of 24_faults_selftest_security.md; false] -/
  heldInReset : Bool := false
  /-- An essential block has failed in the command under way; SAFE_HOLD is entered at its end. [model; R553 of 23_modes_power_boot.md; false] -/
  failed : Bool := false
  /-- Reset is asserted (VIN below UVLO, PORST_N low, or thermal hold of reset). [1; R555 of 23_modes_power_boot.md; false] -/
  inReset : Bool := false
  deriving DecidableEq, Repr, Inhabited

/-- History of one channel that has one (R573): BLOCK, INSTANCE and its state. -/
structure Channel where
  block : Nat
  inst : Nat
  /-- ticks of the occurrences counted, newest first -/
  occ : List Nat := []
  retired : Bool := false
  unusable : Bool := false
  /-- occurrences since the last FAULT record of KIND 1, and the tick of that record (R298) -/
  sinceRecord : Nat := 0
  lastRecord : Option Nat := none
  deriving DecidableEq, Repr, Inhabited

/-- Channels, self-test, life cycle and keys. -/
structure FaultState where
  /-- Channels with a history; the others are in service with none. [list; R573 of 24_faults_selftest_security.md; empty] -/
  channels : List Channel := []
  /-- Results of the latest BIST run. [list; R423 of 16_command_reference.md; empty] -/
  bist : List BistEntry := []
  /-- The latest BIST was full. [1; R423 of 16_command_reference.md; false] -/
  bistFull : Bool := false
  /-- A BIST has run. [1; R423 of 16_command_reference.md; false] -/
  bistRan : Bool := false
  /-- Duration of the latest BIST in µs. [32; R423 of 16_command_reference.md; 0] -/
  bistUs : Nat := 0
  /-- 64 KiB line-store blocks withheld. [count; R581 of 24_faults_selftest_security.md; 0] -/
  lineStoreWithheld : Nat := 0
  /-- Statistics stage unusable. [1; R581 of 24_faults_selftest_security.md; false] -/
  statsUnusable : Bool := false
  /-- Monitor converter unusable. [1; R581 of 24_faults_selftest_security.md; false] -/
  monitorUnusable : Bool := false
  /-- Trestle unusable. [1; R581 of 24_faults_selftest_security.md; false] -/
  trestleUnusable : Bool := false
  /-- Network switch unusable. [1; R581 of 24_faults_selftest_security.md; false] -/
  netUnusable : Bool := false
  /-- Viaduct link logic unusable. [1; R581 of 24_faults_selftest_security.md; false] -/
  viaductUnusable : Bool := false
  /-- Ranges that the host has written since DIAGNOSTIC was entered, of on-chip memories whose other contents are not known. [list; model; empty] -/
  diagWrites : List (Nat × Nat) := []
  /-- On-chip memories need re-initialisation before DIAGNOSTIC is left. [1; R423 of 16_command_reference.md; false] -/
  memoriesDirty : Bool := false
  deriving DecidableEq, Repr, Inhabited

/-- One consumable key slot (R587). -/
structure KeySlot where
  loaded : Bool := false
  revoked : Bool := false
  key : List Byte := []
  deriving DecidableEq, Repr, Inhabited

/-- Fuses: life cycle, keys, boot. -/
structure Fuses where
  /-- Life-cycle state 0-5. [3; R585 of 24_faults_selftest_security.md; 1 MANUFACTURE (parts ship in it)] -/
  lifeCycle : Nat := 1
  /-- TEST_PROT fuses. [2; R589 of 24_faults_selftest_security.md; DC 0 (log 1)] -/
  testProt : Nat := 0
  /-- Secure-boot fuse. [1; R565 of 23_modes_power_boot.md; DC 0 (log 1)] -/
  secureBoot : Bool := false
  /-- Key hash: SHA-256 of the image key. [256; R565 of 23_modes_power_boot.md; DC none burned (log 1)] -/
  keyHash : Option (List Byte) := none
  /-- Consumable key slots 0-7. [8 × 256 with LOADED, REVOKED; R587 of 24_faults_selftest_security.md; DC empty (log 1)] -/
  keySlots : List KeySlot := List.replicate 8 {}
  /-- Key RAM: keys of loaded, unrevoked slots copied at reset. [8 × 256; R587 of 24_faults_selftest_security.md; none] -/
  keyRam : List (Option (List Byte)) := List.replicate 8 none
  /-- Version of the Keeper ROM, which ROM_ID of an image names. [32; R565 of 23_modes_power_boot.md; DC 0 (log 1)] -/
  romId : Nat := 0
  /-- CHIP_ID. [64; R405 of 16_command_reference.md; DC 0 (log 1)] -/
  chipId : Nat := 0
  /-- The fused MAC address that a NETWORK section with MAC 0 names. [48; R448 of 17_network_time.md; DC 0 (log 1)] -/
  mac : Nat := 0
  /-- A protected instruction has already taken effect since reset (R589). [1; R589 of 24_faults_selftest_security.md; false] -/
  testOpened : Bool := false
  deriving DecidableEq, Repr, Inhabited

/-- A firmware slot in flash (R424, R565). -/
structure FwSlot where
  /-- 0 empty, 1 writing, 2 verified, 3 invalid -/
  state : Nat := 0
  version : Nat := 0
  length : Nat := 0
  /-- PUBKEY of the image -/
  pubkey : List Byte := []
  /-- bytes written so far by FW_WRITE -/
  bytes : List Byte := []
  /-- where the previous chunk ended -/
  nextOffset : Nat := 0
  deriving DecidableEq, Repr, Inhabited

/-- Firmware slots and the boot record. -/
structure FwState where
  /-- Slots A and B. [2 × 4 MiB; R563 of 23_modes_power_boot.md; DC empty (log 1)] -/
  slots : List FwSlot := [{}, {}]
  /-- NEXT of the boot record. [1; R564 of 23_modes_power_boot.md; DC 0 (log 1)] -/
  next : Nat := 0
  /-- GEN of the boot record copy in force. [32; R564 of 23_modes_power_boot.md; DC 0 (log 1)] -/
  gen : Nat := 0
  /-- Boot record copy in force. [1; R564 of 23_modes_power_boot.md; DC 0 (log 1)] -/
  copy : Nat := 0
  /-- OCTAL of the boot record. [1; R564 of 23_modes_power_boot.md; DC 0 (log 1)] -/
  octal : Bool := false
  /-- DUMMY of the boot record. [8; R564 of 23_modes_power_boot.md; DC 0 (log 1)] -/
  dummy : Nat := 0
  /-- Chunk being written: SRC, OFFSET, LENGTH, LAST. [state; R424 of 16_command_reference.md; none] -/
  writing : Option (Nat × Nat × Nat × Bool) := none
  /-- Notifications found in BOOT that are issued when records can be written: CODE and ARG0. [list; R566 of 23_modes_power_boot.md; empty] -/
  bootNotes : List (Nat × Nat) := []
  deriving DecidableEq, Repr, Inhabited

/-- Power and temperature. -/
structure PowerState where
  /-- VIN is below UVLO and the rails are off. [1; R557 of 23_modes_power_boot.md; false] -/
  down : Bool := false
  /-- A thermal trip holds the next reset until Tmax falls below 120 °C. [1; R559 of 23_modes_power_boot.md; false] -/
  hot : Bool := false
  /-- Brown-out warning in force. [1; R556 of 23_modes_power_boot.md; false] -/
  brownout : Bool := false
  /-- BROWNOUTS. [32; R571 of 23_modes_power_boot.md; 0] -/
  brownouts : Nat := 0
  /-- DERATE_STEPS. [32; R571 of 23_modes_power_boot.md; 0] -/
  derateSteps : Nat := 0
  /-- WATCHDOG_RESTARTS. [32; R571 of 23_modes_power_boot.md; 0] -/
  watchdogRestarts : Nat := 0
  /-- Present derating step count. [count; R558 of 23_modes_power_boot.md; 0] -/
  derate : Nat := 0
  /-- Consecutive evaluations at or below 120 °C. [count; R558 of 23_modes_power_boot.md; 0] -/
  coolCount : Nat := 0
  /-- Tj of sensors 0-7 in 1/16 °C. [8; R571 of 23_modes_power_boot.md; DC 0 (log 1)] -/
  temps : List Int := List.replicate 8 0
  /-- Tmax since reset in 1/16 °C. [32; R571 of 23_modes_power_boot.md; DC 0 (log 1)] -/
  tmax : Int := 0
  /-- VIN in mV. [32; R571 of 23_modes_power_boot.md; DC 5000 (log 1)] -/
  vinMv : Nat := 5000
  /-- Lowest VIN in mV of the brown-out. [32; R556 of 23_modes_power_boot.md; 0] -/
  lowestMv : Nat := 0
  deriving DecidableEq, Repr, Inhabited

end Sys2Proof.Machine
end

