-- ==== Sys2Proof/Machine/TypesPos.lean ====
section
/-! DEFINITION. State types of the web position block, the network and clock, the DRAM controller and the DMA channels. -/

namespace Sys2Proof.Machine

/-- An incremental encoder input (R69-R73). -/
structure Encoder where
  /-- filtered level of A -/
  a : Bool := false
  /-- filtered level of B -/
  b : Bool := false
  /-- tick of the latest change of the filtered A (R69) -/
  lastA : Option Nat := none
  /-- tick of the latest change of the filtered B (R69) -/
  lastB : Option Nat := none
  /-- net counts since the last rising Z edge -/
  zNet : Int := 0
  /-- a rising Z edge has been seen since entry into service -/
  zSeen : Bool := false
  /-- a backward count fell since the last rising Z edge -/
  zBack : Bool := false
  /-- tick and direction of the latest count (a count made in the tick of a Z edge belongs to the period it closes) -/
  lastCount : Option (Nat × Int) := none
  /-- tick of the latest rising Z edge -/
  lastZ : Option Nat := none
  /-- ILLEGAL counter (R71) -/
  illegal : Nat := 0
  /-- ZCOUNT counter (R73) -/
  zcount : Nat := 0
  deriving DecidableEq, Repr, Inhabited

/-- A tooth-train input (R74-R78). -/
structure Tooth where
  /-- tick of the latest rising edge -/
  lastEdge : Option Nat := none
  /-- interval before it, in ticks -/
  lastInterval : Option Nat := none
  /-- rising edges since the last reference -/
  edges : Nat := 0
  /-- a reference has been taken since the mode entry or reinstatement -/
  haveRef : Bool := false
  /-- label of the latest reference -/
  lastLabel : Option Int := none
  /-- TCOUNT counter (R75) -/
  tcount : Nat := 0
  deriving DecidableEq, Repr, Inhabited

/-- A serial absolute encoder input (R79-R81). -/
structure Serial where
  /-- latest valid position word -/
  lastPos : Option Nat := none
  /-- a transfer is in progress -/
  busy : Bool := false
  /-- the transfer in progress is the re-read of this poll -/
  reread : Bool := false
  /-- tick at which the transfer in progress began: it cannot time out in that tick (R21, R80) -/
  since : Nat := 0
  /-- CRC counter -/
  crc : Nat := 0
  /-- NERR counter -/
  nerr : Nat := 0
  /-- TIMEOUT counter -/
  timeout : Nat := 0
  /-- WARN counter -/
  warn : Nat := 0
  deriving DecidableEq, Repr, Inhabited

/-- A web line's slot from its trigger on: what R28 makes every line carry, and the causes latched at the trigger. -/
structure LineSlot where
  wln : Nat
  wpos : Int
  epoch : Nat
  time : Nat
  /-- trigger tick -/
  tick : Nat
  ridx : Nat
  roff : Nat
  /-- mode latched at the trigger (R549) -/
  mode : Mode
  /-- issued without a camera trigger (R89) -/
  overspeed : Bool := false
  /-- lies in the REVERSE gap (R91) -/
  reverse : Bool := false
  /-- first line triggered after REVERSE was set (R192) -/
  revFirst : Bool := false
  /-- a free-run line (R93) -/
  posLost : Bool := false
  /-- first line of its epoch after a swap (R61) -/
  switchLine : Bool := false
  /-- the label that took effect at this line, if one did (R77) -/
  refLabel : Option Int := none
  /-- the compare stage or the segmenter was retired at the trigger (R212) -/
  retired : Bool := false
  deriving DecidableEq, Repr, Inhabited

/-- The position block. -/
structure PosState where
  /-- ENC0, ENC1. [2; R70 of 03_web_position.md; DC levels low, counters 0 (log 1)] -/
  enc : List Encoder := [{}, {}]
  /-- TTH0, TTH1. [2; R74 of 03_web_position.md; DC none (log 1)] -/
  tth : List Tooth := [{}, {}]
  /-- SENC0, SENC1. [2; R79 of 03_web_position.md; DC none (log 1)] -/
  senc : List Serial := [{}, {}]
  /-- C: counted position in 2^-16 nm. [64 signed; R82 of 03_web_position.md; DC 0 (log 1)] -/
  c : Int := 0
  /-- I: interpolated position. [64 signed; R82 of 03_web_position.md; DC 0 (log 1)] -/
  i : Int := 0
  /-- H: high-water mark. [64 signed; R82 of 03_web_position.md; DC 0 (log 1)] -/
  h : Int := 0
  /-- T: threshold of the next line trigger. [64 signed; R82 of 03_web_position.md; DC 0 (log 1)] -/
  t : Int := 0
  /-- v: interpolation speed in 2^-16 nm per tick. [64; R83 of 03_web_position.md; DC 0 (log 1)] -/
  v : Int := 0
  /-- slast: the latest forward step. [64; R83 of 03_web_position.md; 0] -/
  slast : Int := 0
  /-- Tick of the last forward step. [time; R83 of 03_web_position.md; DC none (log 1)] -/
  lastForward : Option Nat := none
  /-- The previous step was forward. [1; R83 of 03_web_position.md; DC false (log 1)] -/
  prevForward : Bool := false
  /-- Tick up to which C, I and H are evaluated. [time; R83 of 03_web_position.md; model 0] -/
  upTo : Nat := 0
  /-- I, H and v before the evaluation of tick `upTo`: a step of that same tick starts from them. [3 × 64; R83 of 03_web_position.md; model 0] -/
  before : Int × Int × Int := (0, 0, 0)
  /-- Source in service: 0 ENC0, 1 ENC1, 2 SENC0, 3 SENC1. [state; R84 of 03_web_position.md; DC none (log 1)] -/
  inService : Option Nat := none
  /-- Free-run. [1; R93 of 03_web_position.md; false] -/
  freeRun : Bool := false
  /-- Next WLN. [48; R85 of 03_web_position.md; DC 0 (log 1)] -/
  wln : Nat := 0
  /-- Tick of the previous trigger. [time; R85 of 03_web_position.md; none] -/
  lastTrig : Option Nat := none
  /-- Period between the last two triggers of the current epoch. [ticks; R93 of 03_web_position.md; none] -/
  period : Option Nat := none
  /-- Triggers in the current epoch (0, 1, 2 or more). [count; R93 of 03_web_position.md; 0] -/
  trigCount : Nat := 0
  /-- WLN 0 of an epoch begun at mode entry waits for H > T. [1; R85 of 03_web_position.md; false] -/
  strictStart : Bool := false
  /-- REVERSE. [1; R91 of 03_web_position.md; 0] -/
  reverse : Bool := false
  /-- Lines left in the REVERSE gap. [16; R91 of 03_web_position.md; 0] -/
  settle : Nat := 0
  /-- REVERSE events counted. [32; R94 of 03_web_position.md; 0] -/
  reverseCount : Nat := 0
  /-- OVERSPEED flag. [1; R89 of 03_web_position.md; 0] -/
  overspeed : Bool := false
  /-- OVERSPEED_LINES_LATE. [32; R89 of 03_web_position.md; 0] -/
  overspeedLate : Nat := 0
  /-- Reference queue: labels not reached yet. [16; R77 of 03_web_position.md; empty] -/
  refQueue : List Int := []
  /-- RIDX. [32; R11 of 00_scope.md; 0] -/
  ridx : Nat := 0
  /-- Label that took effect last; ROFF is measured from it. [48; R11 of 00_scope.md; none, ROFF reads 0xFFFF_FFFF] -/
  curLabel : Option Int := none
  /-- Repeat length measured last in this epoch, in nm. [64; R186 of 07_reference_registration.md; none] -/
  repeatNm : Option Int := none
  /-- Repeat length measured last in the epoch before, for its lines that are still in progress. [64; R186 of 07_reference_registration.md; none] -/
  repeatOld : Option Int := none
  /-- Measured repeat length of the lines of each RIDX. [list; R77 of 03_web_position.md; empty] -/
  repeatLens : List (Nat × Int) := []
  /-- REVERSE has been set since the latest line. [1; R192 of 07_reference_registration.md; false] -/
  revFirst : Bool := false
  /-- Latest line triggered. [slot; R405 of 16_command_reference.md; none] -/
  lastLine : Option LineSlot := none
  /-- Input FIFO overflows recorded, per input in the order of R574. [6 counts; R26 of 01_architecture.md; 0] -/
  overflows : List Nat := List.replicate 6 0
  deriving DecidableEq, Repr, Inhabited

/-- A network port. -/
structure NetPort where
  /-- the link is up -/
  link : Bool := false
  rx : Nat := 0
  tx : Nat := 0
  drop : Nat := 0
  fcs : Nat := 0
  pause : Nat := 0
  loopsrc : Nat := 0
  deriving DecidableEq, Repr, Inhabited

/-- What the latest HELLO of an address declared (R443, R444). -/
structure HelloInfo where
  addr : Nat
  pmajor : Nat
  pminor : Nat
  hifVersion : Nat
  deriving DecidableEq, Repr, Inhabited

/-- The network, the device clock and peers. -/
structure NetState where
  /-- Clock in 2^-32 ns: 64-bit ns count with a 32-bit fraction. [96; R431 of 17_network_time.md; 0] -/
  clock : Nat := 0
  /-- PTP tick up to which the clock is evaluated. [time; R431 of 17_network_time.md; model 0] -/
  ptpTick : Nat := 0
  /-- INCR. [40; R431 of 17_network_time.md; NOM_INCR of the profile in force, 0x4_0000_0000 by default] -/
  incr : Nat := 0x400000000
  /-- The clock has been set. [1; R431 of 17_network_time.md; 0] -/
  set : Bool := false
  /-- PTP_LOCKED. [1; R436 of 17_network_time.md; 0] -/
  locked : Bool := false
  /-- Consecutive Syncs with |o| < LOCK_NS. [count; R436 of 17_network_time.md; DC 0 (log 1)] -/
  goodSyncs : Nat := 0
  /-- Servo integrator acc. [32 signed; R435 of 17_network_time.md; DC 0 (log 1)] -/
  acc : Int := 0
  /-- Last measured offset. [64 signed; R421 of 16_command_reference.md; 0] -/
  offset : Int := 0
  /-- Last delay measurements, newest first. [8; R435 of 17_network_time.md; DC empty (log 1)] -/
  delays : List Int := []
  /-- Master followed, by its identity. [state; R436 of 17_network_time.md; DC none (log 1)] -/
  master : Option Nat := none
  /-- Data set of the best Announce seen. [list; R434 of 17_network_time.md; DC empty (log 1)] -/
  masterData : List Nat := []
  /-- The ordinary clock masters (ROLE 2 and no better master). [1; R434 of 17_network_time.md; DC false (log 1)] -/
  mastering : Bool := false
  /-- Ports 0 and 1. [2; R428 of 17_network_time.md; down, counters 0] -/
  ports : List NetPort := [{}, {}]
  /-- MAC table: address and port. [1,024; R429 of 17_network_time.md; DC empty (log 1)] -/
  macTable : List (Nat × Nat) := []
  /-- TC_CORR. [32; R446 of 17_network_time.md; 0] -/
  tcCorr : Nat := 0
  /-- TC_FWD6. [32; R446 of 17_network_time.md; 0] -/
  tcFwd6 : Nat := 0
  /-- STEPS. [32; R446 of 17_network_time.md; 0] -/
  steps : Nat := 0
  /-- DENIED_SRC. [32; R446 of 17_network_time.md; 0] -/
  deniedSrc : Nat := 0
  /-- PEER_DROP. [32; R446 of 17_network_time.md; 0] -/
  peerDrop : Nat := 0
  /-- PEER_TX per message type. [32 each; R446 of 17_network_time.md; 0] -/
  peerTx : List (Nat × Nat) := []
  /-- BULK_REJECT. [32; R446 of 17_network_time.md; 0] -/
  bulkReject : Nat := 0
  /-- NET_ECC. [32; R446 of 17_network_time.md; 0] -/
  netEcc : Nat := 0
  /-- Latest HELLO of each address. [list; R443 of 17_network_time.md; empty] -/
  hellos : List HelloInfo := []
  /-- Next SEQ per type, destination address and port. [32 each; R439 of 17_network_time.md; 0] -/
  peerSeq : List ((Nat × Nat × Nat) × Nat) := []
  /-- Delay_Req sent and not answered yet. [1; R435 of 17_network_time.md; false] -/
  delayReqOut : Bool := false
  /-- A profile has taken effect, so the switch forwards. [1; R429 of 17_network_time.md; false] -/
  switchUp : Bool := false
  /-- Last speed request announced, in mm/s, and level. [pair; R440 of 17_network_time.md; DC none (log 1)] -/
  speedSent : Option (Nat × Nat) := none
  deriving DecidableEq, Repr, Inhabited

/-- The DRAM controller. -/
structure DramState where
  /-- Fitted capacity in MiB. [16; R489 of 20_dram.md; DC 16,384, the default CAP_LOG2 (log 1)] -/
  capacityMib : Nat := 16384
  /-- Fitted type: 0 LPDDR5, 1 LPDDR5X. [1; R501 of 20_dram.md; DC 1 (log 1)] -/
  fittedType : Nat := 1
  /-- RATE0 and RATE1 as trained at the last boot. [2 × 16, MT/s; R491 of 20_dram.md; 8,533 and 4,267 (R501)] -/
  rates : List Nat := [8533, 4267]
  /-- ECC_MASK as laid out at the last boot. [16; R492 of 20_dram.md; 0x0FE7 (R501)] -/
  eccMask : Nat := 0x0FE7
  /-- DRAM is trained and in service. [1; R491 of 20_dram.md; false] -/
  trained : Bool := false
  /-- DRAM controller failed. [1; R486 of 19_dma_onchip_memory.md; false] -/
  failed : Bool := false
  /-- Set point. [1; R498 of 20_dram.md; 0] -/
  setPoint : Nat := 0
  /-- Ranks are in self-refresh. [1; R498 of 20_dram.md; DC false (log 1)] -/
  selfRefresh : Bool := false
  /-- DRAM was brought out of self-refresh for an access in STANDBY. [1; R552 of 23_modes_power_boot.md; false] -/
  awake : Bool := false
  /-- Refreshes owed per rank, 16 ranks (channel × 2 + rank). [0-8 each; R495 of 20_dram.md; 0] -/
  owed : List Nat := List.replicate 16 0
  /-- Refreshes pulled in ahead per rank. [0-8 each; R495 of 20_dram.md; 0] -/
  ahead : List Nat := List.replicate 16 0
  /-- Largest count of owed refreshes since reset. [4; R499 of 20_dram.md; 0] -/
  owedMax : Nat := 0
  /-- MR4 refresh-rate code of each channel. [8; R499 of 20_dram.md; DC 0 (log 1)] -/
  mr4 : List Nat := List.replicate 8 0
  /-- ECC_CORR per channel. [8 × 32; R499 of 20_dram.md; 0] -/
  eccCorr : List Nat := List.replicate 8 0
  /-- ECC_UNC per channel. [8 × 32; R499 of 20_dram.md; 0] -/
  eccUnc : List Nat := List.replicate 8 0
  /-- LB_DROP. [32; R499 of 20_dram.md; 0] -/
  lbDrop : Nat := 0
  /-- FSP_CHANGES. [32; R499 of 20_dram.md; 0] -/
  fspChanges : Nat := 0
  /-- Regions in order 0-11 as base and size in bytes. [12; R492 of 20_dram.md; laid out at boot] -/
  regions : List (Nat × Nat) := List.replicate 12 (0, 0)
  /-- ECC store base and size. [pair; R492 of 20_dram.md; laid out at boot] -/
  eccStore : Nat × Nat := (0, 0)
  /-- DQS interval tracking passes done. [count; R491 of 20_dram.md; 0] -/
  dqsPasses : Nat := 0
  /-- MEM_ALLOC blocks of the host region: handle, address, length. [list; R427 of 16_command_reference.md; empty] -/
  hostBlocks : List (Nat × Nat × Nat) := []
  /-- Next MEM_ALLOC handle. [32; R427 of 16_command_reference.md; DC 1 (log 1)] -/
  nextHandle : Nat := 1
  deriving DecidableEq, Repr, Inhabited

/-- The descriptor that a host channel has read (R473). -/
structure DmaDesc where
  op : Nat
  irq : Bool
  len : Nat
  src : Nat
  dst : Nat
  pattern : Nat
  deriving DecidableEq, Repr, Inhabited

/-- STATE of a host channel (R477). -/
inductive DmaRun where
  | idle | running | draining | paused
  deriving DecidableEq, Repr, Inhabited

/-- A host DMA channel (R477). -/
structure DmaChan where
  /-- BASE_LO. [32, bits 31:5; R477 of 19_dma_onchip_memory.md; 0] -/
  baseLo : Nat := 0
  /-- BASE_HI. [8; R477 of 19_dma_onchip_memory.md; 0x10] -/
  baseHi : Nat := 0x10
  /-- SIZE_LOG2. [5; R477 of 19_dma_onchip_memory.md; 0] -/
  sizeLog2 : Nat := 0
  /-- ABORT. [1; R477 of 19_dma_onchip_memory.md; 0] -/
  abort : Bool := false
  /-- PAUSE. [1; R477 of 19_dma_onchip_memory.md; 0] -/
  pause : Bool := false
  /-- START. [1; R477 of 19_dma_onchip_memory.md; 0] -/
  start : Bool := false
  /-- ERR. [1; R477 of 19_dma_onchip_memory.md; 0] -/
  err : Bool := false
  /-- CFGERR. [1; R477 of 19_dma_onchip_memory.md; 0] -/
  cfgErr : Bool := false
  /-- STATE. [2; R477 of 19_dma_onchip_memory.md; 0 idle] -/
  run : DmaRun := .idle
  /-- HEAD. [16; R477 of 19_dma_onchip_memory.md; 0] -/
  head : Nat := 0
  /-- DONE. [24; R477 of 19_dma_onchip_memory.md; 0] -/
  done : Nat := 0
  /-- PARTIAL. [32; R477 of 19_dma_onchip_memory.md; 0] -/
  part : Nat := 0
  /-- COMPLETED. [32; R477 of 19_dma_onchip_memory.md; 0] -/
  completed : Nat := 0
  /-- Descriptor in progress. [state; R479 of 19_dma_onchip_memory.md; none] -/
  cur : Option DmaDesc := none
  /-- The entry into STANDBY paused the channel. [1; R483 of 19_dma_onchip_memory.md; false] -/
  standbyPaused : Bool := false
  /-- FLR or hot reset has come: the registers return to their reset values when the abort completes. [1; R483 of 19_dma_onchip_memory.md; false] -/
  resetDue : Bool := false
  /-- DMA_ECC. [32; R487 of 19_dma_onchip_memory.md; 0] -/
  eccCount : Nat := 0
  deriving DecidableEq, Repr, Inhabited

/-- The host DMA channels 8-15. -/
structure DmaState where
  /-- Channels 8-15. [8; R477 of 19_dma_onchip_memory.md; as fields] -/
  chan : List DmaChan := List.replicate 8 {}
  deriving DecidableEq, Repr, Inhabited

end Sys2Proof.Machine
end

