-- ==== Sys2Proof/Machine/TypesRec.lean ====
section
/-! DEFINITION. State types of the records path: rings, gaps, crops, blocks that records point to, and markers. -/

namespace Sys2Proof.Machine

/-- An open gap (R292, R293, R295). -/
structure OpenGap where
  epoch : Nat
  y0 : Nat
  x0 : Nat
  x1 : Nat
  cause : Nat
  port : Nat := 0xFF
  /-- strip index; all ones for a hold gap -/
  strip : Nat := 0xFFFFFFFF
  wpos : Int := 0
  time : Nat := 0
  /-- continues the gap that ended at the previous strip's last line -/
  cont : Bool := false
  /-- a hold gap -/
  hold : Bool := false
  /-- causes overridden in a hold gap -/
  causes : Nat := 0
  deriving DecidableEq, Repr, Inhabited

/-- One disjoint interval of causes of a line (R291). -/
structure Interval where
  x0 : Nat
  x1 : Nat
  cause : Nat
  port : Nat := 0xFF
  deriving DecidableEq, Repr, Inhabited

/-- Coverage account of a strip in the records path (R292): epoch, strip index, first line, lines so far, pixels covered by
its intervals so far. -/
structure StripAccount where
  epoch : Nat
  strip : Nat
  first : Nat
  lines : Nat
  gapPx : Nat
  /-- id of the strip -/
  id : Nat := 0
  deriving DecidableEq, Repr, Inhabited

/-- The records path. -/
structure RecState where
  /-- Rings 0-7. [8; R284 of 11_defect_records.md; as fields] -/
  rings : List Ring := List.replicate 8 {}
  /-- Open gaps, at most 32. [list; R292 of 11_defect_records.md; empty] -/
  gaps : List OpenGap := []
  /-- Gap hold in force. [1; R295 of 11_defect_records.md; false] -/
  hold : Bool := false
  /-- SEQ of the hold's last hold gap. [64; R295 of 11_defect_records.md; 0] -/
  holdSeq : Nat := 0
  /-- Hold gaps that have closed: epoch, first and last line. [list; R290 of 11_defect_records.md; empty] -/
  holdGaps : List (Nat × Nat × Nat) := []
  /-- Last line that reached the records path: epoch, WLN, WPOS, time. [slot; R292 of 11_defect_records.md; none] -/
  lastLine : Option (Nat × Nat × Int × Nat) := none
  /-- Coverage accounts of the strips whose STATS entry is not written yet. [list; R292 of 11_defect_records.md; empty] -/
  strips : List StripAccount := []
  /-- HOLDS. [32; R307 of 11_defect_records.md; 0] -/
  holds : Nat := 0
  /-- CROPFULL. [32; R307 of 11_defect_records.md; 0] -/
  cropFull : Nat := 0
  /-- Generation of each crop slot that has been used. [16 each; R299 of 11_defect_records.md; none] -/
  cropGen : List (Nat × Nat) := []
  /-- Crop slots held, oldest first. [list; R300 of 11_defect_records.md; empty (reset frees them)] -/
  cropHeld : List Nat := []
  /-- Statistics blocks reserved: address and length. [list; R159 of 06_exposure_calibration.md; empty] -/
  statsUsed : List (Nat × Nat) := []
  /-- Measurement-region blocks reserved: address and length. [list; R296 of 11_defect_records.md; empty] -/
  measUsed : List (Nat × Nat) := []
  deriving DecidableEq, Repr, Inhabited

/-- A decision that waits at a marker, or acts there (R304, R305). -/
structure MarkDecision where
  p0 : Int
  p1 : Int
  epoch : Nat
  defectSeq : Nat := 0
  /-- the decision came from Trestle (R371) -/
  event : Bool := false
  deriving DecidableEq, Repr, Inhabited

/-- One marker. -/
structure Marker where
  /-- Pending decisions. [256; R305 of 11_defect_records.md; empty] -/
  queue : List MarkDecision := []
  /-- Gates open now. [list; R304 of 11_defect_records.md; empty] -/
  gates : List MarkDecision := []
  /-- Tick at which the running pulse ends. [time; R304 of 11_defect_records.md; none] -/
  pulseEnd : Option Nat := none
  /-- Output active (before POL). [1; R304 of 11_defect_records.md; inactive] -/
  active : Bool := false
  /-- MARK_LATE. [32; R307 of 11_defect_records.md; 0] -/
  late : Nat := 0
  /-- MARK_MISSED. [32; R307 of 11_defect_records.md; 0] -/
  missed : Nat := 0
  /-- STALE. [32; R426 of 16_command_reference.md; 0] -/
  stale : Nat := 0
  deriving DecidableEq, Repr, Inhabited

/-- The markers. -/
structure MarkState where
  /-- Markers 0-7. [8; R304 of 11_defect_records.md; as fields] -/
  marker : List Marker := List.replicate 8 {}
  deriving DecidableEq, Repr, Inhabited

end Sys2Proof.Machine
end

