-- ==== Sys2Proof/Machine/TypesEvt.lean ====
section
/-! DEFINITION. State types of the Trestle event fabric and the press I/O pins. -/

namespace Sys2Proof.Machine

/-- A publication on its way to the subscribed inputs (R363). `cycle` is the fabric cycle in which it was published. -/
structure Pub where
  producer : Nat
  channel : Nat
  hop : Nat
  origin : Nat
  epoch : Nat
  tag : Int
  cycle : Nat
  deriving DecidableEq, Repr, Inhabited

/-- An event that an input has taken (R363). -/
structure Event where
  hop : Nat
  origin : Nat
  epoch : Nat
  tag : Int
  /-- fabric cycle in which the input takes it -/
  cycle : Nat := 0
  deriving DecidableEq, Repr, Inhabited

/-- A relay (R370). -/
structure Relay where
  /-- events counted since the last pass -/
  count : Nat := 0
  /-- events that wait to be republished, oldest first -/
  pending : List Event := []
  deriving DecidableEq, Repr, Inhabited

/-- Counters of a channel (R375). -/
structure ChannelCount where
  carried : Nat := 0
  blocked : Nat := 0
  loopdrop : Nat := 0
  parity : Nat := 0
  deriving DecidableEq, Repr, Inhabited

/-- Counters of a consumer input (R375). -/
structure InputCount where
  taken : Nat := 0
  ovr : Nat := 0
  coinc : Bool := false
  deriving DecidableEq, Repr, Inhabited

/-- The Trestle event fabric. -/
structure TrestleState where
  /-- Groups enabled, bit g = EVGg. [8; R369 of 14_event_fabric.md; 0xFF (an absent section enables every group)] -/
  groups : Nat := 0xFF
  /-- Groups that publications of the cycle of the latest change still see. [8; R369 of 14_event_fabric.md; 0xFF] -/
  groupsOld : Nat := 0xFF
  /-- Fabric cycle of the latest group change. [counter; R369 of 14_event_fabric.md; 0] -/
  groupsCycle : Nat := 0
  /-- Groups that an event changed in that cycle. [8; R369 of 14_event_fabric.md; none] -/
  groupsEvt : Nat := 0
  /-- Publications not delivered yet, oldest first. [queue; R363 of 14_event_fabric.md; empty] -/
  bus : List Pub := []
  /-- PUBLISHED per producer that has published. [128 × 32; R375 of 14_event_fabric.md; 0] -/
  published : List (Nat × Nat) := []
  /-- Producers whose LOOP flag is set. [128 × 1; R366 of 14_event_fabric.md; none] -/
  loops : List Nat := []
  /-- CARRIED, BLOCKED, LOOPDROP, PARITY per channel. [64 × 4 × 32; R375 of 14_event_fabric.md; 0] -/
  channels : List ChannelCount := List.replicate 64 {}
  /-- TAKEN, OVR, COINC per input. [89 inputs; R375 of 14_event_fabric.md; 0] -/
  inputs : List InputCount := List.replicate 89 {}
  /-- Relays 0-15. [16; R370 of 14_event_fabric.md; empty] -/
  relays : List Relay := List.replicate 16 {}
  deriving DecidableEq, Repr, Inhabited

/-- Press I/O pins. -/
structure PioState where
  /-- Filtered level of press inputs 0-31. [32; R364 of 14_event_fabric.md; DC low (log 1)] -/
  inLevel : List Bool := List.replicate 32 false
  /-- PIN_OUTn pulse active. [32; R367 of 14_event_fabric.md; inactive] -/
  outActive : List Bool := List.replicate 32 false
  /-- Tick at which the latest pulse of PIN_OUTn ends. [32 times; R367 of 14_event_fabric.md; 0] -/
  outEnd : List Nat := List.replicate 32 0
  deriving DecidableEq, Repr, Inhabited

end Sys2Proof.Machine
end

