-- ==== Sys2Proof/Machine/TypesWeb.lean ====
section
/-! DEFINITION. State types of the web path up to Span: camera ports, strips, camera lines, sensor settings, web lines,
statistics and calibration. Lines are keyed by a line serial that runs on over swaps; it is the model's own key. -/

namespace Sys2Proof.Machine

/-- A sensor on its control bus (R118, R127): SCTLb, the target address, I3C or I²C, and the rate in kHz. -/
structure SensorTarget where
  bus : Nat := 0
  addr : Nat := 0
  i3c : Bool := false
  khz : Nat := 400
  deriving DecidableEq, Repr, Inhabited

/-- Exposure and digital settings of a camera for a range of lines (R160). -/
structure ExpSet where
  exposureNs : Nat := 500
  k : List Nat := [4096, 4096, 4096, 4096]
  boff : List Int := [0, 0, 0, 0]
  regs : List (Nat × Nat) := []
  deriving DecidableEq, Repr, Inhabited

/-- Where a settings change comes from (R162). -/
inductive ChangeFrom where
  | activation | host | loop
  deriving DecidableEq, Repr, Inhabited

/-- The fields of the settings that a change writes (R162): the others keep what they hold at its boundary. -/
structure ExpEdit where
  exposureNs : Option Nat := none
  k : Option (List Nat) := none
  boff : Option (List Int) := none
  regs : Option (List (Nat × Nat)) := none
  deriving DecidableEq, Repr, Inhabited

/-- Settings after a change. -/
def ExpEdit.on (e : ExpEdit) (x : ExpSet) : ExpSet :=
  { exposureNs := e.exposureNs.getD x.exposureNs, k := e.k.getD x.k, boff := e.boff.getD x.boff, regs := e.regs.getD x.regs }

/-- Two changes at one boundary, field by field: `e` wins over `x` (R162). -/
def ExpEdit.over (e x : ExpEdit) : ExpEdit :=
  { exposureNs := e.exposureNs.or x.exposureNs, k := e.k.or x.k, boff := e.boff.or x.boff, regs := e.regs.or x.regs }

/-- The settings of a camera from a line on (R129, R156): the generation, and whether it began inside a strip (MIXED, R162). -/
structure SetAt where
  ser : Nat := 0
  inside : Bool := false
  gen : Nat := 0
  set : ExpSet := {}
  deriving DecidableEq, Repr, Inhabited

/-- A settings change of a camera on its way to a strip boundary (R119-R122, R160-R162). -/
structure Change where
  source : ChangeFrom
  /-- line serial of the boundary at which it applies -/
  target : Nat
  edit : ExpEdit := {}
  /-- codes of converters that change with it -/
  codes : List (Nat × Nat) := []
  /-- the INIT list goes out too -/
  init : Bool := false
  /-- register writes are part of the change -/
  hasRegs : Bool := true
  /-- Nreg, LATCH and the COMMIT write of the deck that the change belongs to -/
  nreg : Nat := 0
  latch : Bool := true
  commit : Nat × Nat := (0, 0)
  /-- INIT writes that go out with the PREPARE -/
  initRegs : List (Nat × Nat) := []
  /-- PREPARE is on the bus or done -/
  sent : Bool := false
  prepared : Bool := false
  commitStarted : Bool := false
  confirmed : Bool := false
  /-- the digital values have been applied at the boundary -/
  applied : Bool := false
  deriving DecidableEq, Repr, Inhabited

/-- A strip (R107): a run of lines that is one unit. -/
structure Strip where
  id : Nat
  epoch : Nat
  /-- index within the epoch, from 0 -/
  index : Nat
  /-- serial and WLN (or CLN) of the first line -/
  startSer : Nat
  startWln : Nat
  startTime : Nat
  /-- lines triggered so far -/
  lines : Nat := 0
  /-- planned length L -/
  len : Nat
  /-- the last line has been triggered -/
  ended : Bool := false
  /-- cut by a swap, a break, an exit or, in CALIBRATE, an activation (R157; the last DEDUCED, log 152) -/
  short : Bool := false
  /-- ended by a Trestle break -/
  brk : Bool := false
  /-- a CALIBRATE strip -/
  cal : Bool := false
  /-- its statistics have been written -/
  done : Bool := false
  deriving DecidableEq, Repr, Inhabited

/-- State of a port's frame of one strip (R108). -/
inductive FrameSt where
  | waiting | opened | closed
  deriving DecidableEq, Repr, Inhabited

/-- A camera line as a port has it (R109-R113): received with its raw 12-bit samples per plane, or VOID with a cause. -/
structure CamLine where
  ser : Nat
  void : Option Nat := none
  /-- received, but its frame has not closed (strip-held, R110, R112) -/
  held : Bool := false
  gen : Nat := 0
  k : List Nat := [4096, 4096, 4096, 4096]
  boff : List Int := [0, 0, 0, 0]
  raw : List (List Nat) := []
  deriving DecidableEq, Repr, Inhabited

/-- Counters of a port (R125, R149), with those that the odd port of a bonded camera keeps. -/
structure PortCount where
  ecc1 : Nat := 0
  ecc2 : Nat := 0
  crc : Nat := 0
  length : Nat := 0
  sync : Nat := 0
  other : Nat := 0
  nofs : Nat := 0
  nofe : Nat := 0
  spurious : Nat := 0
  seq : Nat := 0
  long : Nat := 0
  late : Nat := 0
  short : Nat := 0
  voidlines : Nat := 0
  skiptrig : Nat := 0
  latecommit : Nat := 0
  deferred : Nat := 0
  ibi : Nat := 0
  dpkeep : Nat := 0
  eccCorr : Nat := 0
  eccUnc : Nat := 0
  double : Nat := 0
  /-- the correction-stage counters of the odd port of a bonded camera (R123, R149) -/
  dpkeepOdd : Nat := 0
  eccCorrOdd : Nat := 0
  eccUncOdd : Nat := 0
  doubleOdd : Nat := 0
  deriving DecidableEq, Repr, Inhabited

/-- A camera with its port: its intake, its settings and its trigger output. Kept per camera; a bonded camera's even port
stands for both (R123). -/
structure Camera where
  /-- Strip whose frame is open. [state; R108 of 04_camera_ports.md; none] -/
  openStrip : Option Nat := none
  /-- Frame state of each strip that is not settled: strip id and state. [list; R108 of 04_camera_ports.md; empty] -/
  frames : List (Nat × FrameSt) := []
  /-- Cause that a line of a strip takes if it has not been received when it is triggered: strips whose frame has closed, is killed or was retired.
  [list; R109, R110, R124 of 04_camera_ports.md; empty] -/
  fates : List (Nat × Nat) := []
  /-- A dropped frame is passing. [1; R108 of 04_camera_ports.md; false] -/
  dropping : Bool := false
  /-- The rest of the open frame is discarded (R110). [1; R110 of 04_camera_ports.md; false] -/
  killed : Bool := false
  /-- Line number of the Line Start that precedes the next long packet. [16; R109 of 04_camera_ports.md; none] -/
  lineNo : Option Nat := none
  /-- k of the line accepted last in the frame. [state; R109 of 04_camera_ports.md; none] -/
  lastK : Option Nat := none
  /-- Next k with LNUM = 0. [count; R110 of 04_camera_ports.md; 0] -/
  nextK : Nat := 0
  /-- Camera lines that are settled or held; the samples of a line are kept while a web line can read them, its place while its strip can be open. [Dbuf + 2 lines and more; R137 of 05_line_correction_stitch.md; empty] -/
  lines : List CamLine := []
  /-- Counters. [26 × 32; R125 of 04_camera_ports.md; 0] -/
  count : PortCount := {}
  /-- Settings generation. [32; R156 of 06_exposure_calibration.md; DC 0 (log 1)] -/
  gen : Nat := 0
  /-- Settings in force. [set; R160 of 06_exposure_calibration.md; EXPOSURE defaults] -/
  cur : ExpSet := {}
  /-- Settings by the line from which they hold, newest first. [list; R129 of 05_line_correction_stitch.md, R156 of 06_exposure_calibration.md; empty] -/
  setLog : List SetAt := []
  /-- Changes on their way, in the order of their boundaries. [list; R119 of 04_camera_ports.md; empty] -/
  changes : List Change := []
  /-- A trigger-width change that applies at the next line (R162): EXPOSURE_NS. [20; R162 of 06_exposure_calibration.md; none] -/
  immediate : Option Nat := none
  /-- Ranges of lines that are VOID because a COMMIT was late or is not confirmed yet: first serial, and the serial that ends the range once it is known. [list; R120, R122 of 04_camera_ports.md; empty] -/
  unsure : List (Nat × Option Nat) := []
  /-- A reinstated port waits for the next strip boundary. [1; R124 of 04_camera_ports.md; false] -/
  returning : Bool := false
  /-- Time in ns at which the trigger output's running pulse ends. [time; R117 of 04_camera_ports.md; 0] -/
  pulseEndNs : Nat := 0
  /-- Optically black sums per plane and samples, by strip id. [64 each; R155 of 06_exposure_calibration.md; empty] -/
  obAcc : List (Nat × List Int × Nat) := []
  /-- REMAP_CLIP. [32; R149 of 05_line_correction_stitch.md; 0] -/
  remapClip : Nat := 0
  deriving DecidableEq, Repr, Inhabited

/-- The intake groups and the geometry stage. -/
structure IntakeState where
  /-- Cameras 0-23. [24; R98 of 04_camera_ports.md; as fields] -/
  cam : List Camera := List.replicate 24 {}
  /-- Strips that are not settled everywhere, oldest first. [list; R107 of 04_camera_ports.md; empty] -/
  strips : List Strip := []
  /-- Next strip id. [model; R107 of 04_camera_ports.md; 0] -/
  nextStrip : Nat := 0
  /-- Next strip index of the epoch. [32; R157 of 06_exposure_calibration.md; 0] -/
  stripIndex : Nat := 0
  /-- Next line serial. [model; R28 of 01_architecture.md; 0] -/
  ser : Nat := 0
  /-- Serial of WLN 0 of the epoch begun at the last entry into a web mode or CALIBRATE: camera lines before it do not exist. [serial; R138 of 05_line_correction_stitch.md; 0] -/
  firstSer : Nat := 0
  /-- Serial of the last switch line, and epoch before it. [pair; R138 of 05_line_correction_stitch.md; none] -/
  switchSer : Option (Nat × Nat) := none
  /-- Trigger ticks of the latest lines by serial. [list; R119 of 04_camera_ports.md; empty] -/
  trigTicks : List (Nat × Nat) := []
  /-- WLN (CLN in CALIBRATE) after which a strip ends because of a break. [48; R107 of 04_camera_ports.md; none] -/
  breakEnd : Option Nat := none
  /-- Latest line when a strip break was taken that has not set its boundary yet. [48; R107 of 04_camera_ports.md; none] -/
  breakLine : Option Nat := none
  /-- An activation governs from the next line or timed trigger on. [1; R156 of 06_exposure_calibration.md; false] -/
  activation : Bool := false
  /-- An exit from the web modes or CALIBRATE waits for its deadline (R111). [1; R111 of 04_camera_ports.md; false] -/
  exitPending : Bool := false
  /-- Lines triggered that have not left geometry, oldest first, with their serial and strip id. [queue; R137 of 05_line_correction_stitch.md; empty] -/
  slots : List (Nat × Nat × LineSlot) := []
  deriving DecidableEq, Repr, Inhabited

/-- The part of a camera in a web line as geometry hands it to Span (R136-R139): span pixels per plane, or VOID. -/
structure CamSpan where
  pos : Nat
  void : Option Nat := none
  planes : List (List Nat) := []
  gen : Nat := 0
  deriving DecidableEq, Repr, Inhabited

/-- A web line (R143): its slot, strip, planes over the stitched width, VOID intervals, and generations by camera. -/
structure WebLine where
  ser : Nat
  strip : Nat
  slot : LineSlot
  planes : List (List Nat) := []
  voids : List Interval := []
  gens : List (Nat × Nat) := []
  deriving DecidableEq, Repr, Inhabited

/-- Geometry output, Span and its consumers. -/
structure SpanState where
  /-- Lines that have left geometry, oldest first. [queue; R137 of 05_line_correction_stitch.md; empty] -/
  fromGeometry : List (Nat × Nat × LineSlot × List CamSpan) := []
  /-- Web lines waiting for the compare stage. [queue; R24 of 01_architecture.md; empty] -/
  toCompare : List WebLine := []
  /-- Web lines waiting for the statistics stage. [queue; R24 of 01_architecture.md; empty] -/
  toStats : List WebLine := []
  /-- FALLBACK per seam. [24 × 32; R149 of 05_line_correction_stitch.md; 0] -/
  fallback : List Nat := List.replicate 24 0
  /-- SPAN_UNC. [32; R149 of 05_line_correction_stitch.md; 0] -/
  unc : Nat := 0
  deriving DecidableEq, Repr, Inhabited

/-- Statistics of one camera over a strip (R154, R158). -/
structure CamStats where
  cam : Nat
  mixed : Bool := false
  gen : Nat := 0
  lines : Nat := 0
  pixels : Nat := 0
  hist : List (List Nat) := List.replicate 4 (List.replicate 256 0)
  ob : List Int := [0, 0, 0, 0]
  deriving DecidableEq, Repr, Inhabited

/-- Statistics of the strip in progress (R154). -/
structure StripStats where
  strip : Nat
  epoch : Nat
  cams : List CamStats := []
  /-- pixel count and sums per plane of each zone -/
  zones : List (Nat × List Nat) := []
  lines : Nat := 0
  deriving DecidableEq, Repr, Inhabited

/-- The statistics stage and the calibration loops. -/
structure StatsState where
  /-- Strip in progress. [state; R154 of 06_exposure_calibration.md; none] -/
  cur : Option StripStats := none
  /-- Latest strip statistics written with a block, for the loops. [state; R164 of 06_exposure_calibration.md; none] -/
  latest : Option StripStats := none
  /-- Strips since the last loop run. [8; R164 of 06_exposure_calibration.md; 0] -/
  sinceLoop : Nat := 0
  /-- A loop run waits for a result. [1; R164 of 06_exposure_calibration.md; false] -/
  loopDue : Bool := false
  /-- Strips whose STATS entry waits for the records path's account: strip data. [queue; R157 of 06_exposure_calibration.md; empty] -/
  waiting : List (Strip × StripStats × List Byte) := []
  deriving DecidableEq, Repr, Inhabited

/-- One CAL_FLAT phase in progress (R169). -/
structure CalPhase where
  white : Bool
  ports : Nat
  /-- strip id after which acquisition starts: the next full strip is discarded -/
  skipStrip : Option Nat := none
  /-- serial of the first line acquired -/
  first : Option Nat := none
  /-- per port: lines taken and sums per plane and pixel -/
  sums : List (Nat × Nat × List (List Nat)) := []
  failed : Nat := 0
  deriving DecidableEq, Repr, Inhabited

/-- Calibration tables, trim converters and CAL_FLAT. -/
structure CalState where
  /-- Present code of TDAC0-TDAC47. [48 × 12; R163 of 06_exposure_calibration.md; 0] -/
  code : List Nat := List.replicate 48 0
  /-- Codes set by TDAC_SET in a web mode, for the next line trigger. [list; R415 of 16_command_reference.md; empty] -/
  codeNext : List (Nat × Nat) := []
  /-- Calibration table of each port being held: words per pixel, 4 per pixel; empty = identity. [24; R170 of 06_exposure_calibration.md; identity] -/
  table : List (List (List Nat)) := List.replicate 24 []
  /-- Tables copied into the decks' sets. [24; R135 of 05_line_correction_stitch.md; identity] -/
  inUse : List (List (List Nat)) := List.replicate 24 []
  /-- Tables copied into the staged deck's set. [24; R135 of 05_line_correction_stitch.md; identity] -/
  stagedSet : List (List (List Nat)) := List.replicate 24 []
  /-- Dark sums of this CALIBRATE entry per port. [list; R169 of 06_exposure_calibration.md; none] -/
  dark : List (Nat × List (List Nat)) := []
  /-- CAL_COUNT per port. [24 × 32; R170 of 06_exposure_calibration.md; 0] -/
  count : List Nat := List.replicate 24 0
  /-- CAL_TIME per port. [24 × 64; R170 of 06_exposure_calibration.md; 0] -/
  time : List Nat := List.replicate 24 0
  /-- Change count per light. [16 × 32; R170 of 06_exposure_calibration.md; 0] -/
  lightCount : List Nat := List.replicate 16 0
  /-- Time of the latest change per light. [16 × 64; R170 of 06_exposure_calibration.md; 0] -/
  lightTime : List Nat := List.replicate 16 0
  /-- Lights held at LMIN or LMAX. [16; R167 of 06_exposure_calibration.md; none] -/
  lightLimit : List Nat := []
  /-- Cameras whose K is held at KMIN or KMAX. [24; R167 of 06_exposure_calibration.md; none] -/
  kLimit : List Nat := []
  /-- CAL_FLAT phase in progress. [state; R169 of 06_exposure_calibration.md; none] -/
  phase : Option CalPhase := none
  /-- CLN: next calibration line number. [48; R168 of 06_exposure_calibration.md; 0 at entry] -/
  cln : Nat := 0
  /-- Tick of the last timed trigger. [time; R168 of 06_exposure_calibration.md; none] -/
  lastTrig : Option Nat := none
  /-- CAL_TABLE_READ in progress: DEST and port. [state; R415 of 16_command_reference.md; none] -/
  reading : Option (Nat × Nat) := none
  deriving DecidableEq, Repr, Inhabited

end Sys2Proof.Machine
end

