-- ==== Sys2Proof/Machine/TypesReg.lean ====
section
/-! DEFINITION. State types of reference objects, registration, the compare stage, the segmenter and the codec rings. -/

namespace Sys2Proof.Machine

/-- State of a reference slot (R180, R413). -/
inductive RefSt where
  | free | allocated | checking | ready | failed | learning
  deriving DecidableEq, Repr, Inhabited

/-- A reference slot: its reservation and, once READY, what its header says (R175, R180). -/
structure RefSlot where
  gen : Nat := 0
  st : RefSt := .free
  addr : Nat := 0
  len : Nat := 0
  refId : Nat := 0
  refRev : Nat := 0
  width : Nat := 0
  lines : Nat := 0
  pitchX : Nat := 0
  pitchY : Nat := 0
  length : Nat := 0
  imgIndex : Nat := 0
  tolIndex : Nat := 0
  deriving DecidableEq, Repr, Inhabited

/-- Learning in progress (R183-R185). -/
structure Learn where
  slot : Nat
  refId : Nat
  refRev : Nat
  lines : Nat
  width : Nat
  nrep : Nat
  epoch : Nat
  /-- repeat being learned; none before the first repeat start -/
  rep : Option Nat := none
  /-- RIDX of the repeat in progress -/
  ridx : Nat := 0
  /-- serial of the first line triggered after the command: earlier lines do not learn -/
  since : Nat := 0
  /-- line at which the next repeat starts, when REF_SOURCE is none -/
  nextStart : Option Nat := none
  /-- address of the learn buffer; the seen map follows it -/
  buf : Nat := 0
  /-- pixels reached in this repeat -/
  seenRep : List Nat := []
  /-- the last repeat is complete, the object is being encoded -/
  encoding : Bool := false
  deriving DecidableEq, Repr, Inhabited

/-- Counters of registration (R202). -/
structure RegCount where
  stretch : Nat := 0
  outlier : Nat := 0
  fieldclip : Nat := 0
  rebase : Nat := 0
  latefield : Nat := 0
  edgeclamp : Nat := 0
  bandlate : Nat := 0
  bandEcc : Nat := 0
  locks : Nat := 0
  losses : Nat := 0
  deriving DecidableEq, Repr, Inhabited

/-- What a field row's search takes from the line jF (R188): row, state and field as they stood. -/
structure RowStart where
  row : Nat
  locked : Bool
  field : List (Int × Int)
  deriving DecidableEq, Repr, Inhabited

/-- A decoded band (R193, R194): its epoch, its centre c, the reference lines it holds (three planes each) and, where the deck reads a tolerance map,
the class lines. -/
structure Band where
  epoch : Nat
  centre : Int
  lines : List (Nat × List (List Nat)) := []
  classes : List (Nat × List Nat) := []
  deriving DecidableEq, Repr, Inhabited

/-- Band pixels that are invalid until their tile restarts (R201): the epoch of the band, reference lines y0 to y1, columns x0 to x1. -/
structure BadBand where
  epoch : Nat
  y0 : Nat
  y1 : Nat
  x0 : Nat
  x1 : Nat
  deriving DecidableEq, Repr, Inhabited

/-- Registration. -/
structure RegState where
  /-- Reference slots 0-7. [8; R180 of 07_reference_registration.md; free (R561)] -/
  slots : List RefSlot := List.replicate 8 {}
  /-- State: 0 OFF, 1 ACQUIRE, 2 LOCKED. [2; R192 of 07_reference_registration.md; DC 0 (log 1)] -/
  st : Nat := 0
  /-- Epoch whose lines are being registered. [32; R188 of 07_reference_registration.md; 0] -/
  epoch : Nat := 0
  /-- Smoothed displacement (dxs, dys) of each node. [NX pairs; R188 of 07_reference_registration.md; DC none (log 1)] -/
  field : List (Int × Int) := []
  /-- COFF in 1/64 line. [signed; R190 of 07_reference_registration.md; 0] -/
  coff : Int := 0
  /-- Rows committed by the Comb and not in force yet: row and (mx, my, conf) of each node. [list; R189 of 07_reference_registration.md; empty] -/
  rows : List (Nat × List (Int × Int × Nat)) := []
  /-- Consecutive rows that reached LOCK_FRAC. [8; R192 of 07_reference_registration.md; 0] -/
  lockRun : Nat := 0
  /-- Consecutive rows below LOSS_FRAC. [8; R192 of 07_reference_registration.md; 0] -/
  lossRun : Nat := 0
  /-- Last lrep in nm. [64; R202 of 07_reference_registration.md; 0] -/
  lrep : Int := 0
  /-- Last valid fraction. [9; R202 of 07_reference_registration.md; 0] -/
  frac : Nat := 0
  /-- RIDX values whose stretch test is done. [list; R187 of 07_reference_registration.md; empty] -/
  tested : List Nat := []
  /-- The object bound by the deck of each epoch, newest first: epoch, slot, and the object as it was bound. [list; R200 of 07_reference_registration.md; none] -/
  binds : List (Nat × Nat × RefSlot) := []
  /-- Decoded bands, newest epoch first. [list; R193 of 07_reference_registration.md; none] -/
  bands : List Band := []
  /-- Band pixels that are invalid. [list; R201 of 07_reference_registration.md; empty] -/
  bad : List BadBand := []
  /-- WLN, yc and COFF of the lines that reached the compare stage, newest first. [list; R188 of 07_reference_registration.md; empty] -/
  log : List (Nat × Int × Int) := []
  /-- State and field at the first line of each row. [list; R188 of 07_reference_registration.md; empty] -/
  starts : List RowStart := []
  /-- Learning in progress. [state; R183 of 07_reference_registration.md; none] -/
  learn : Option Learn := none
  /-- Counters. [10 × 32; R202 of 07_reference_registration.md; 0] -/
  count : RegCount := {}
  deriving DecidableEq, Repr, Inhabited

/-- A line as the compare stage passes it on (R206): STATE, D and CLASS of each pixel, and the normalised
not-compared intervals (R291). -/
structure CompLine where
  ser : Nat
  strip : Nat
  slot : LineSlot
  cells : List (Nat × Nat × Nat) := []
  ivs : List Interval := []
  deriving DecidableEq, Repr, Inhabited

/-- The compare stage. -/
structure CmpState where
  /-- Lines that wait for the segmenter. [queue; R206 of 08_compare_segment.md; empty] -/
  out : List CompLine := []
  /-- An error in the gap state waits for the records path (R308). [1; R308 of 11_defect_records.md; false] -/
  gapError : Bool := false
  /-- IVLFULL. [32; R229 of 08_compare_segment.md; 0] -/
  ivlfull : Nat := 0
  deriving DecidableEq, Repr, Inhabited

/-- A component, or the label swarm, that the segmenter holds open (R214-R222). `d` holds its fields with absolute sums. -/
structure Comp where
  id : Nat
  swarm : Bool := false
  /-- first pixel of the segment: line and XPOS -/
  first : Nat × Nat := (0, 0)
  d : Descriptor := {}
  /-- a hard pixel in this or an earlier segment of the link -/
  linkHard : Bool := false
  /-- segments not emitted -/
  unsent : Nat := 0
  /-- a segment has been emitted -/
  sent : Bool := false
  members : Nat := 0
  /-- a label swarm that would have closed, and stays open until a reserved queue entry is free (R223) -/
  due : Bool := false
  deriving DecidableEq, Repr, Inhabited

/-- Counters of the segmenter (R229). -/
structure SegCount where
  noseed : Nat := 0
  small : Nat := 0
  softcut : Nat := 0
  streaks : Nat := 0
  swarms : Nat := 0
  qswarms : Nat := 0
  queuefull : Nat := 0
  pairmerge : Nat := 0
  segEcc : Nat := 0
  blobs : Nat := 0
  deriving DecidableEq, Repr, Inhabited

/-- The segmenter. -/
structure SegState where
  /-- Epoch being labelled; none before the first line. [32; R227 of 08_compare_segment.md; none] -/
  epoch : Option Nat := none
  /-- Open components and the label swarm. [at most 32,768 and one swarm; R222 of 08_compare_segment.md; empty] -/
  comps : List Comp := []
  /-- Runs of soft pixels of the last line labelled: X0, X1 and component. [list; R217 of 08_compare_segment.md; empty] -/
  prev : List (Nat × Nat × Nat) := []
  /-- Not-compared ranges of the last line labelled. [list; R219 of 08_compare_segment.md; empty] -/
  prevNot : List (Nat × Nat) := []
  /-- Last line labelled. [48; R215 of 08_compare_segment.md; none] -/
  last : Option Nat := none
  /-- Next component key. [model; R222 of 08_compare_segment.md; 1] -/
  nextId : Nat := 1
  /-- SEQ of the next descriptor. [64; R218 of 08_compare_segment.md; 0] -/
  seq : Nat := 0
  /-- Epoch that SEQ counts. [model; R218 of 08_compare_segment.md; 0] -/
  seqEpoch : Nat := 0
  /-- SEQ of the next descriptor of the epoch before. [model; R218 of 08_compare_segment.md; 0] -/
  prevSeq : Nat := 0
  /-- Next LINK ID. [32; R220 of 08_compare_segment.md; 1] -/
  nextLink : Nat := 1
  /-- Descriptor queue. [4,096; R223 of 08_compare_segment.md; empty] -/
  queue : List Descriptor := []
  /-- Queue swarm that is open. [descriptor; R223 of 08_compare_segment.md; none] -/
  qswarm : Option Descriptor := none
  /-- The queue swarm's epoch has ended. [1; R223 of 08_compare_segment.md; false] -/
  qswarmDue : Bool := false
  /-- Swarm descriptors that wait for a free entry. [list; R223 of 08_compare_segment.md; empty] -/
  waiting : List Descriptor := []
  /-- The web edge that is a pair seam: 0 none, 1 the last XPOS, 2 XPOS 0. [model; R226 of 08_compare_segment.md; 0] -/
  seamEdge : Nat := 0
  /-- Components whose segments go to the pair seam. [model; R458 of 18_viaduct_lanes.md; empty] -/
  divert : List Nat := []
  /-- Components of `divert` to be cut at the line being labelled. [model; R458 of 18_viaduct_lanes.md; empty] -/
  cutNow : List Nat := []
  /-- Segments that have gone to the pair seam: component, cut. [model; R458 of 18_viaduct_lanes.md; empty] -/
  diverted : List (Comp × Bool) := []
  /-- Components merged while the last line was labelled: old key, new key. [model; R458 of 18_viaduct_lanes.md; empty] -/
  merged : List (Nat × Nat) := []
  /-- Counters. [10 × 32; R229 of 08_compare_segment.md; 0] -/
  count : SegCount := {}
  deriving DecidableEq, Repr, Inhabited

/-- A row that waits for a group (R515): its line or overview row number, epoch, time, planes (`none` where a pixel is not coded),
and its VOID intervals. -/
structure RingRow where
  epoch : Nat
  y : Nat
  time : Nat
  planes : List (List (Option Nat))
  voids : List (Nat × Nat) := []
  deriving DecidableEq, Repr, Inhabited

/-- One codec ring with its group in progress (R514-R517). -/
structure RingCodec where
  /-- Rows that wait for a group. [queue; R515 of 21_codec.md; empty] -/
  rows : List RingRow := []
  /-- NEXT. [64; R514 of 21_codec.md; 0] -/
  next : Nat := 0
  /-- OLDEST. [64; R514 of 21_codec.md; 0] -/
  oldest : Nat := 0
  /-- Offset in the data ring at which the next record may start. [bytes; R516 of 21_codec.md; 0] -/
  off : Nat := 0
  /-- Groups held, oldest first: number, record offset, length (0 for a DROPPED group). [list; R517 of 21_codec.md; empty] -/
  held : List (Nat × Nat × Nat) := []
  /-- Epoch of the previous group. [32; R515 of 21_codec.md; none] -/
  epoch : Option Nat := none
  /-- Rows since the first row of the last reset group. [count; R515 of 21_codec.md; 0] -/
  sinceReset : Nat := 0
  /-- The next group must be a reset group. [1; R515 of 21_codec.md; true] -/
  mustReset : Bool := true
  /-- Histories of the streams, column by column. [contexts; R505 of 21_codec.md; none] -/
  ctx : List (List PlaneCtx) := []
  /-- Ring writing is shed. [1; R522 of 21_codec.md; false] -/
  shed : Bool := false
  deriving DecidableEq, Repr, Inhabited

/-- The codec. -/
structure CodecState where
  /-- Look-back ring. [ring; R514 of 21_codec.md; as fields] -/
  lb : RingCodec := {}
  /-- Overview ring. [ring; R514 of 21_codec.md; as fields] -/
  ov : RingCodec := {}
  /-- Web lines gathered for the next overview row. [at most 8; R301 of 11_defect_records.md; empty] -/
  ovLines : List WebLine := []
  /-- BLOCKS per unit. [24 × 32; R523 of 21_codec.md; 0] -/
  blocks : List Nat := List.replicate 24 0
  /-- CTX_ECC_CORR per unit. [24 × 32; R523 of 21_codec.md; 0] -/
  eccCorr : List Nat := List.replicate 24 0
  /-- CTX_ECC_UNC per unit. [24 × 32; R523 of 21_codec.md; 0] -/
  eccUnc : List Nat := List.replicate 24 0
  /-- ESCAPES. [32; R523 of 21_codec.md; 0] -/
  escapes : Nat := 0
  /-- Column and group at which the decode of the running command met an uncorrectable error. [list; R521 of 21_codec.md; none] -/
  bad : List (Nat × Nat) := []
  /-- TILE_RESTARTS. [32; R523 of 21_codec.md; 0] -/
  tileRestarts : Nat := 0
  /-- SHED_LINES. [32; R523 of 21_codec.md; 0] -/
  shedLines : Nat := 0
  deriving DecidableEq, Repr, Inhabited

end Sys2Proof.Machine
end

