-- ==== Sys2Proof/Machine/TypesComb.lean ====
section
/-! DEFINITION. State types of the Comb: tasks with their inputs and outputs, cells, frames, shedding. -/

namespace Sys2Proof.Machine

/-- A repeat of the live web (R257): serial number, and the line at which it starts. -/
structure RepeatStart where
  n : Nat
  epoch : Nat
  wln : Nat
  wpos : Int
  time : Nat
  ridx : Nat
  deriving DecidableEq, Repr, Inhabited

/-- A printed item that waits for its CODE task (R346): its box, what was sent, and how it ended. -/
structure VerItem where
  epoch : Nat
  itemId : Nat
  symb : Nat
  data : List Byte
  y0 : Int
  y1 : Int
  x0 : Int
  x1 : Int
  /-- the item ended PRINTED_REJECT -/
  preject : Bool := false
  /-- the shift changed within the item -/
  shifted : Bool := false
  deriving DecidableEq, Repr, Inhabited

/-- Input of a task (R243, R257). -/
inductive TaskIn where
  /-- a descriptor, held in its queue entry -/
  | blob (d : Descriptor)
  /-- nodes `first` to `first + n - 1` of a field row -/
  | nodes (row first n : Nat)
  /-- a repeat -/
  | repeats (r : RepeatStart)
  /-- a printed item -/
  | item (i : VerItem)
  /-- lines `first` to `last` of the line grids of the heads in a mask -/
  | window (heads : List (Nat × Nat × Nat))
  deriving DecidableEq, Repr, Inhabited

/-- What the blob chain hands to the records path (R273), with the crop where one is kept. -/
structure BlobOut where
  cls : Nat := 0
  csrc : Nat := 0
  cscore : Nat := 0
  sev : Nat := 0
  rule : Nat := 0x7F
  actions : Nat := 0
  markers : Nat := 0
  shed : Nat := 0
  nocrop : Bool := false
  crop : Option (List (List (List Nat))) := none
  deriving DecidableEq, Repr, Inhabited

/-- One mark of a MARK_REG result (R274, R296). -/
structure MarkOut where
  found : Bool := false
  cx : Int := 0
  cy : Int := 0
  ex : Int := 0
  ey : Int := 0
  mass : Nat := 0
  deriving DecidableEq, Repr, Inhabited

/-- One patch of a COLOUR_PATCH result (R275, R296). -/
structure PatchOut where
  pass : Bool := false
  empty : Bool := false
  l : Int := 0
  a : Int := 0
  b : Int := 0
  de : Nat := 0
  pixels : Nat := 0
  deriving DecidableEq, Repr, Inhabited

/-- A CODE result (R348, R350). -/
structure CodeOut where
  result : Nat := 6
  reason : Nat := 0
  overall : Nat := 0
  symbRead : Nat := 0
  mismatchAt : Nat := 0xFFFF
  decodedLen : Nat := 0
  grades : List Nat := List.replicate 8 0xFF
  values : List Int := List.replicate 8 0
  deriving DecidableEq, Repr, Inhabited

/-- Outputs of a task, held in the work area until it commits (R245). -/
inductive TaskOut where
  /-- the operator traps (R246) -/
  | trap
  | blob (r : BlobOut)
  | nodes (l : List (Int × Int × Nat))
  | marks (gapped : Bool) (l : List MarkOut)
  | patches (gapped : Bool) (l : List PatchOut)
  | code (c : CodeOut)
  /-- per head: first label of the window, and each judged element with true for dead (R280, R354) -/
  | elems (l : List (Nat × Int × List (Nat × Bool)))
  deriving DecidableEq, Repr, Inhabited

/-- A task (R243-R247). -/
structure Task where
  id : Nat
  stage : Nat
  op : Nat
  prio : Nat
  epoch : Nat
  wln : Nat
  input : TaskIn
  /-- started by a Trestle event -/
  event : Bool := false
  frame : Option Nat := none
  cell : Option Nat := none
  /-- faults in a row -/
  faults : Nat := 0
  /-- withdrawn after dispatch -/
  withdrawn : Bool := false
  /-- cell that the re-run avoids -/
  avoid : Option Nat := none
  out : Option TaskOut := none
  deriving DecidableEq, Repr, Inhabited

/-- A span of lines in which a stage is shed: from (epoch, WLN), to (epoch, WLN) once restored (R251). -/
structure ShedSpan where
  stage : Nat
  start : Nat × Nat
  stop : Option (Nat × Nat) := none
  deriving DecidableEq, Repr, Inhabited

/-- A web line that the look-back ring may hold: epoch, WLN, WPOS, TIME. -/
structure LineMark where
  epoch : Nat
  wln : Nat
  wpos : Int
  time : Nat
  ridx : Nat := 0
  roff : Nat := 0
  deriving DecidableEq, Repr, Inhabited

/-- An event taken by a stage trigger (R257, R367): stage, the epoch and WLN of the latest line at its arrival. -/
structure StageEvent where
  stage : Nat
  epoch : Nat
  wln : Nat
  tag : Int
  deriving DecidableEq, Repr, Inhabited

/-- Committed part of a field row whose other tasks are still out (R264). -/
structure RowPart where
  epoch : Nat
  row : Nat
  first : Nat
  nodes : List (Int × Int × Nat)
  deriving DecidableEq, Repr, Inhabited

/-- Next window of an ELEM_MAP stage at a head (R257). -/
structure WindowPtr where
  stage : Nat
  head : Nat
  epoch : Nat
  window : Nat
  deriving DecidableEq, Repr, Inhabited

/-- The Comb. -/
structure CombState where
  /-- Clock of each frame in MHz. [16 × 11; R249 of 09_comb.md; DC 1200 (log 1)] -/
  clock : List Nat := List.replicate 16 1200
  /-- Tasks that have not committed, in the order of their creation. [list; R243 of 09_comb.md; empty] -/
  tasks : List Task := []
  /-- Key of the next task. [model; R243 of 09_comb.md; 0] -/
  nextId : Nat := 0
  /-- Parameter half in use by the ACTIVE deck. [1; R241 of 09_comb.md; DC 0 (log 1)] -/
  half : Nat := 0
  /-- Parameter half of each epoch's deck, newest epoch first. [list; R241, R243 of 09_comb.md; empty] -/
  halves : List (Nat × Nat) := []
  /-- Frames whose work area has held a task since the memories were zeroed. [list; R249 of 09_comb.md; empty] -/
  usedFrames : List Nat := []
  /-- Cells that have run a task since the memories were zeroed. [list; R249 of 09_comb.md; empty] -/
  usedCells : List Nat := []
  /-- Events taken by stage triggers that are not tasks yet, oldest first. [queue; R367 of 14_event_fabric.md; empty] -/
  events : List StageEvent := []
  /-- Starts of the repeats that can still be measured, oldest first. [list; R257 of 10_recipes.md; empty] -/
  repeats : List RepeatStart := []
  /-- Serial number of the next repeat. [model; R257 of 10_recipes.md; 0] -/
  nextRepeat : Nat := 0
  /-- Next repeat of each stage with TRIG = REPEAT. [16; R257 of 10_recipes.md; 0] -/
  repeatPtr : List Nat := List.replicate 16 0
  /-- Epoch and number of the next field row. [pair; R188 of 07_reference_registration.md; 0, 0] -/
  nextRow : Nat × Nat := (0, 0)
  /-- Measurements of field rows whose tasks have not all committed: epoch, row, first node, nodes. [list; R264 of 10_recipes.md; empty] -/
  rowParts : List RowPart := []
  /-- Next window of each stage and head: stage, head, epoch, window. [list; R257 of 10_recipes.md; empty] -/
  windows : List WindowPtr := []
  /-- Lines that the look-back ring may hold, newest first, at most 262,144. [list; R10 of 00_scope.md; empty] -/
  lines : List LineMark := []
  /-- Shed spans, newest first. [list; R251 of 09_comb.md; empty] -/
  shedSpans : List ShedSpan := []
  /-- Stages shed now, in the order in which they were shed. [list; R251 of 09_comb.md; empty] -/
  shed : List Nat := []
  /-- Consecutive evaluations that allow a restoration. [count; R251 of 09_comb.md; 0] -/
  calm : Nat := 0
  /-- TASKS per cell that has committed one. [256 × 32; R254 of 09_comb.md; 0] -/
  tasksDone : List (Nat × Nat) := []
  /-- FAULTS per cell that has had one. [256 × 32; R254 of 09_comb.md; 0] -/
  cellFaults : List (Nat × Nat) := []
  /-- FAULTS per frame. [16 × 32; R254 of 09_comb.md; 0] -/
  frameFaults : List Nat := List.replicate 16 0
  /-- RETRIES. [32; R254 of 09_comb.md; 0] -/
  retries : Nat := 0
  /-- DROPPED. [32; R254 of 09_comb.md; 0] -/
  dropped : Nat := 0
  /-- CM_ECC_CORR per cell that has had one. [256 × 32; R254 of 09_comb.md; 0] -/
  cmEcc : List (Nat × Nat) := []
  /-- FS_ECC_CORR per frame. [16 × 32; R254 of 09_comb.md; 0] -/
  fsEccCorr : List Nat := List.replicate 16 0
  /-- FS_ECC_UNC per frame. [16 × 32; R254 of 09_comb.md; 0] -/
  fsEccUnc : List Nat := List.replicate 16 0
  /-- PARAM_REWRITE per frame. [16 × 32; R254 of 09_comb.md; 0] -/
  paramRewrite : List Nat := List.replicate 16 0
  /-- WITHDRAWN. [32; R254 of 09_comb.md; 0] -/
  withdrawn : Nat := 0
  /-- SHEDS per stage. [16 × 32; R254 of 09_comb.md; 0] -/
  sheds : List Nat := List.replicate 16 0
  /-- MATCHES per rule. [64 × 32; R272 of 10_recipes.md; 0] -/
  ruleHits : List Nat := List.replicate 64 0
  /-- A DIAGNOSTIC write to operator code has been made since reset (R255). [model; R255 of 09_comb.md; false] -/
  codeTouched : Bool := false
  deriving DecidableEq, Repr, Inhabited

end Sys2Proof.Machine
end

