-- ==== Sys2Proof/Machine/TypesPrint.lean ====
section
/-! DEFINITION. State types of the print block: line grids, prepared lines, item queues, protection, elements, consumables. Grid values are
in the coordinates of the present H: the camera-bar switch reduces them by Wd with H (R87). -/

namespace Sys2Proof.Machine

/-- A group's line grid of one epoch (R314). -/
structure Grid where
  lead : Nat
  epoch : Nat
  /-- q_0 in 2^-16 nm -/
  q0 : Int
  /-- HPITCH in 2^-16 nm -/
  pitch : Nat
  /-- O of R328 in nm -/
  origin : Int
  /-- what a record's label adds to floor(q / 2^16), so that it states the label in the grid's epoch -/
  adj : Int := 0
  deriving DecidableEq, Repr, Inhabited

/-- A line that a head has prepared (R316). -/
structure PrepLine where
  epoch : Nat
  k : Nat
  /-- tick of the line start -/
  start : Nat
  /-- print-event kind that suppresses the line; 0 = it fires -/
  why : Nat := 0
  /-- lateral shift in force -/
  shift : Int := 0
  /-- tiers: actual width in ticks of 10 ns and the elements that conduct for it, ascending -/
  tiers : List (Nat × Nat) := []
  /-- every element that fires, as a bit mask -/
  fired : Nat := 0
  /-- actual energy in nJ -/
  energy : Nat := 0
  timeClip : Bool := false
  dutyClip : Bool := false
  energyClip : Bool := false
  /-- ENERGY_CLIP carries REJECT -/
  energyReject : Bool := false
  /-- items of which a row did not arrive -/
  late : List Nat := []
  /-- items whose bitmap sets a dot at the position of an element that is dead -/
  deadHit : List Nat := []
  deriving DecidableEq, Repr, Inhabited

/-- A print event that may still coalesce (R338). -/
structure OpenEvent where
  kind : Nat
  reject : Bool
  epoch : Nat
  first : Int
  last : Int
  lines : Nat
  item : Option Nat := none
  time : Nat
  arg0 : Nat := 0
  arg1 : Nat := 0
  /-- line number of its last line -/
  lastK : Nat := 0
  deriving DecidableEq, Repr, Inhabited

/-- What waits for Wd (R61): the outputs of lines that a head prints under the deck that a swap brings, before the camera bar has switched. -/
inductive LaterOut where
  /-- a PRINT_EVENT record -/
  | event (head : Nat) (e : OpenEvent)
  /-- the write-back of a queue entry: address, STATUS, label of the first line, epoch -/
  | entry (addr status : Nat) (label : Int) (epoch : Nat)
  /-- an item that passes to verification, and whether CODE runs on it -/
  | item (v : VerItem) (code : Bool)
  deriving DecidableEq, Repr, Inhabited

/-- A line that a head has triggered, as ELEM_MAP reads it (R323): epoch, k, label, shift, fired set. -/
structure FiredLine where
  epoch : Nat
  k : Nat
  label : Int
  shift : Int
  fired : Nat
  deriving DecidableEq, Repr, Inhabited

/-- Consumable state of a head (R356-R359). -/
structure Consumable where
  /-- 0 never authenticated, 1 OK, 2 failed, 3 blocked (R418) -/
  auth : Nat := 0
  /-- last AUTH_FAIL reason -/
  reason : Nat := 0
  /-- 0 idle, 1 authentication, 2 usage write with its fresh authentication -/
  phase : Nat := 0
  attempts : Nat := 0
  nonce : List Byte := []
  /-- nonce of the latest success -/
  okNonce : List Byte := []
  chipId : Option Nat := none
  count : Nat := 0
  confirmed : Nat := 0
  /-- count that the write in progress wrote -/
  written : Nat := 0
  /-- lines fired since the last write point -/
  sinceWb : Nat := 0
  limitSent : Bool := false
  /-- exchanges that wait for the present one -/
  authDue : Bool := false
  writeDue : Bool := false
  /-- a success since entry into PRINT or PRINT_VERIFY -/
  okSinceEntry : Bool := false
  /-- a failure since entry, with no success since -/
  failedNow : Bool := false
  /-- a write that failed while HOPENh was asserted is tried again when it clears -/
  retry : Bool := false
  deriving DecidableEq, Repr, Inhabited

/-- Change of an element's state whose switch line some head has not reached (R355): element, the state below the switch line, and the switch
line as grid epoch and k_s. -/
structure ElemChange where
  element : Nat
  state : Nat
  epoch : Nat
  ks : Nat
  deriving DecidableEq, Repr, Inhabited

/-- Counters of a head port (R340). -/
structure HeadCount where
  lines : Nat := 0
  suppressed : Nat := 0
  overspeed : Nat := 0
  timeClip : Nat := 0
  dutyClip : Nat := 0
  energyClip : Nat := 0
  thermRange : Nat := 0
  fetchLate : Nat := 0
  withdrawn : Nat := 0
  missing : Nat := 0
  late : Nat := 0
  deriving DecidableEq, Repr, Inhabited

/-- A head port. -/
structure Head where
  /-- Runs lines: enabled, in PRINT or PRINT_VERIFY. [1; R337 of 12_printing.md; false] -/
  on : Bool := false
  /-- Epoch of its grid. [32; R314 of 12_printing.md; 0] -/
  epoch : Nat := 0
  /-- Next line to trigger. [count; R314 of 12_printing.md; 0] -/
  k : Nat := 0
  /-- Prepared line. [line; R316 of 12_printing.md; none] -/
  prep : Option PrepLine := none
  /-- Trigger tick of the latest line. [time; R314 of 12_printing.md; none] -/
  lastTrig : Option Nat := none
  /-- Tick at which the line in progress ends, and that line: epoch and k. [time; R336 of 12_printing.md; none] -/
  busy : Option (Nat × Nat × Nat) := none
  /-- HSENh high. [1; R337 of 12_printing.md; low] -/
  hsen : Bool := false
  /-- HSEN_SETTLE has passed. [1; R337 of 12_printing.md; false] -/
  ready : Bool := false
  /-- Fired set and energy in nJ of the previous lines, newest first. [65,534; R319 of 12_printing.md; empty] -/
  hist : List (Nat × Nat) := []
  /-- Thermal hold. [1; R334 of 12_printing.md; false] -/
  hold : Bool := false
  /-- Monitor channels of thermistors whose latest output is out of range. [2; R317 of 12_printing.md; none] -/
  outOfRange : List Nat := []
  /-- HOPENh asserted. [1; R336 of 12_printing.md; DC false (log 1)] -/
  hopen : Bool := false
  /-- HOPENh gate waits for GATE_REARM. [1; R336 of 12_printing.md; false] -/
  hopenHeld : Bool := false
  /-- WEB_ABSENT or JAM gate waits for GATE_REARM at this head. [1; R336 of 12_printing.md; false] -/
  webHeld : Bool := false
  /-- Returns to service at its next line start (R408). [1; R408 of 16_command_reference.md; false] -/
  returning : Bool := false
  /-- Print events that may still coalesce. [list; R338 of 12_printing.md; empty] -/
  events : List OpenEvent := []
  /-- Lines triggered, newest first, at most 262,144. [list; R323 of 12_printing.md; empty] -/
  log : List FiredLine := []
  /-- Element states that differ from OK: element and code, plus 16 where UNCOVERED leaves ownership with the partner. [2,560; R354 of 13_print_verify.md; OK] -/
  elems : List (Nat × Nat) := []
  /-- Runs of dead judgements and the first label of the run's first dead window. [list; R354 of 13_print_verify.md; none] -/
  runs : List (Nat × Nat × Int) := []
  /-- Element changes whose switch line lies ahead. [list; R355 of 13_print_verify.md; empty] -/
  changes : List ElemChange := []
  /-- Consumable. [state; R356 of 13_print_verify.md; as fields] -/
  chip : Consumable := {}
  /-- Counters. [11 × 32; R340 of 12_printing.md; 0] -/
  count : HeadCount := {}
  deriving DecidableEq, Repr, Inhabited

/-- An accepted item (R328-R331). -/
structure PrintItem where
  index : Nat
  epoch : Nat
  itemId : Nat
  row : Nat
  slot : Nat
  symb : Nat
  knockout : Bool
  /-- first group line -/
  first : Nat
  height : Nat
  width : Nat
  xpos : Nat
  bitmap : Nat
  stride : Nat
  dataAddr : Nat
  dataLen : Nat
  /-- rows that have arrived: row and its bits -/
  rows : List (Nat × Nat) := []
  reject : Bool := false
  /-- a line of it has fired -/
  fired : Bool := false
  /-- a line of it has begun -/
  started : Bool := false
  /-- heads whose last line of it has triggered -/
  done : List Nat := []
  /-- shift at its first line, and whether it changed since -/
  shift : Option Int := none
  shifted : Bool := false
  /-- CODE runs: PRINT_VERIFY and VERIFY at the trigger of its first line (R347) -/
  verify : Bool := false
  /-- trigger of its first line has happened -/
  begun : Bool := false
  /-- a swap took lines of it (R332) -/
  cut : Bool := false
  deriving DecidableEq, Repr, Inhabited

/-- An item queue of a group lead (R326-R328). -/
structure ItemQueue where
  /-- Base; a queue that is not set holds nothing. [40; R341 of 12_printing.md; none] -/
  base : Option Nat := none
  /-- SIZE_LOG2. [5; R341 of 12_printing.md; 0] -/
  sizeLog2 : Nat := 0
  /-- Read index. [16; R340 of 12_printing.md; 0] -/
  read : Nat := 0
  /-- Entries withdrawn ahead of the read index. [list; R331 of 12_printing.md; empty] -/
  skip : List Nat := []
  /-- Items accepted and not done, in queue order. [list; R328 of 12_printing.md; empty] -/
  items : List PrintItem := []
  /-- Grid epoch, expected row and slot, and the last line at which entries were inspected. [state; R328 of 12_printing.md; none] -/
  expect : Option (Nat × Nat × Nat × Int) := none
  /-- DECK_ID, ROW and SLOT of the last entry that the fetcher took. [model; R327 of 12_printing.md; none] -/
  lastKey : Option (Nat × Nat × Nat) := none
  deriving DecidableEq, Repr, Inhabited

/-- The print block. -/
structure PrintState where
  /-- Heads 0-7. [8; R312 of 12_printing.md; as fields] -/
  head : List Head := List.replicate 8 {}
  /-- Grids in use, by group lead and epoch. [list; R314 of 12_printing.md; empty] -/
  grids : List Grid := []
  /-- Lateral shift s of each group by its lead. [8 signed; R325 of 12_printing.md; DC 0 (log 1)] -/
  shift : List Int := List.replicate 8 0
  /-- Item queues by lead. [8; R326 of 12_printing.md; not set] -/
  queue : List ItemQueue := List.replicate 8 {}
  /-- WEB_ABSENT asserted. [1; R336 of 12_printing.md; DC false (log 1)] -/
  webAbsent : Bool := false
  /-- JAM asserted. [1; R336 of 12_printing.md; DC false (log 1)] -/
  jam : Bool := false
  /-- ESTOP asserted. [1; R336 of 12_printing.md; DC false (log 1)] -/
  estop : Bool := false
  /-- ESTOP gate waits for PRINT_REARM. [1; R336 of 12_printing.md; false] -/
  estopHeld : Bool := false
  /-- Speed level of each group by its lead. [8 × 0-4; R333 of 12_printing.md; 0] -/
  level : List Nat := List.replicate 8 0
  /-- SPD_EVC holds level 4. [1; R333 of 12_printing.md; false] -/
  spdHold : Bool := false
  /-- Speed request in mm/s; none = SPD_FULL. [16; R333 of 12_printing.md; SPD_FULL] -/
  request : Option Nat := none
  /-- SPEED_PWM: period and high time in ticks of 10 ns. [2 × 17; R333 of 12_printing.md; high throughout] -/
  pwm : Nat × Nat := (10000, 10000)
  /-- Items that are done and wait for the Comb, oldest first. [queue; R346 of 13_print_verify.md; empty] -/
  verify : List VerItem := []
  /-- Outputs that wait for Wd, oldest first. [queue; R61 of 02_job_decks.md; empty] -/
  later : List LaterOut := []
  deriving DecidableEq, Repr, Inhabited

end Sys2Proof.Machine
end

