-- ==== Sys2Proof/Machine/TypesMotion.lean ====
section
/-! DEFINITION. State types of the axes, the monitor converter and the Viaduct. -/

namespace Sys2Proof.Machine

/-- What a move is for (R531, R534). -/
inductive MoveKind where
  | move | preset
  /-- homing: 1 and 2 its steps, 4 coming to rest between them, 3 and 6 failing in step 1 or 2 (HOME_MAX exceeded), 5 stopped -/
  | home (phase : Nat)
  deriving DecidableEq, Repr, Inhabited

/-- The deck's homing fields as the command took them (R531, R544). -/
structure HomePlan where
  max : Nat := 0
  slow : Nat := 0
  offset : Int := 0
  /-- HOME_DIR is positive -/
  up : Bool := false
  deriving DecidableEq, Repr, Inhabited

/-- A move of a leading axis with its followers (R528-R531). -/
structure Move where
  kind : MoveKind := .move
  lead : Nat
  /-- sense of the leading axis -/
  positive : Bool
  /-- followers: axis, sense, d, err -/
  follow : List (Nat × Bool × Nat × Nat) := []
  /-- |Δ| of the leading axis -/
  total : Nat
  /-- steps still to issue; none for homing, which has no target -/
  rem : Option Nat
  vstart : Nat
  vmax : Nat
  acc : Nat
  dec : Nat
  /-- velocity in 2^-10 steps/s -/
  v : Nat
  frac : Nat := 0
  /-- tick up to which `frac` has been run -/
  base : Nat := 0
  /-- ticks left in the present 1 µs update period -/
  ticks : Nat := 200
  stopping : Bool := false
  /-- steps of a homing command so far, and the tick at which they exceeded HOME_MAX -/
  used : Nat := 0
  failAt : Option Nat := none
  plan : HomePlan := {}
  deriving DecidableEq, Repr, Inhabited

/-- An axis (R526-R532). -/
structure Axis where
  /-- Position in microsteps. [32 signed; R527 of 22_motion_monitor.md; 0] -/
  pos : Int := 0
  /-- EN active. [1; R532 of 22_motion_monitor.md; inactive] -/
  en : Bool := false
  /-- DIR stands for positive steps. [1; R526 of 22_motion_monitor.md; inactive (negative)] -/
  dir : Bool := false
  /-- HOMED. [1; R531 of 22_motion_monitor.md; clear] -/
  homed : Bool := false
  /-- POSITION_VALID. [1; R531 of 22_motion_monitor.md; clear] -/
  valid : Bool := false
  /-- Filtered HOME active. [1; R526 of 22_motion_monitor.md; DC inactive (log 1)] -/
  home : Bool := false
  /-- Tick of the latest activation of EN. [model; R526 of 22_motion_monitor.md; 0] -/
  enAt : Nat := 0
  /-- p0, recorded at the first activation. [32; R532 of 22_motion_monitor.md; none] -/
  p0 : Option Nat := none
  /-- Steps of STEP pulses issued since reset. [model; R526 of 22_motion_monitor.md; 0] -/
  pulses : Nat := 0
  deriving DecidableEq, Repr, Inhabited

/-- The axes. -/
structure MotionState where
  /-- Axes 0-5. [6; R526 of 22_motion_monitor.md; as fields] -/
  axis : List Axis := List.replicate 6 {}
  /-- Moves in progress. [list; R528 of 22_motion_monitor.md; empty] -/
  moves : List Move := []
  /-- Axes of the preset in progress: started, reached, skipped or stopped. [3 masks; R534 of 22_motion_monitor.md; none] -/
  preset : Option (Nat × Nat × Nat) := none
  /-- An AXIS_MOVE of the running command was stopped. [1; R420 of 16_command_reference.md; false] -/
  moveStopped : Bool := false
  /-- An AXIS_HOME of the running command was stopped. [1; R420 of 16_command_reference.md; false] -/
  homeStopped : Bool := false
  /-- HOME_MAX was exceeded on an axis of the running AXIS_HOME. [1; R531 of 22_motion_monitor.md; false] -/
  homeFailed : Bool := false
  deriving DecidableEq, Repr, Inhabited

/-- A monitor channel. -/
structure MonChan where
  /-- latest output -/
  code : Nat := 0
  valid : Bool := false
  /-- latest VALID output, which consumers keep -/
  last : Option Nat := none
  /-- outputs since the converter's last start -/
  outputs : Nat := 0
  deriving DecidableEq, Repr, Inhabited

/-- The monitor converter. -/
structure MonitorState where
  /-- Channels 0-31. [32; R535 of 22_motion_monitor.md; DC 0, not VALID (log 1)] -/
  chan : List MonChan := List.replicate 32 {}
  /-- MON_ECC. [32; R541 of 22_motion_monitor.md; 0] -/
  ecc : Nat := 0
  /-- The converter runs. [1; R538 of 22_motion_monitor.md; true in BOOT] -/
  running : Bool := true
  /-- Running bank. [1; R539 of 22_motion_monitor.md; DC 0 (log 1)] -/
  bank : Nat := 0
  /-- Preset of the banks. [2 × 2; R539 of 22_motion_monitor.md; 1 BALANCED (R545)] -/
  preset : List Nat := [1, 1]
  /-- Decimation D of the banks. [2 × 13; R535 of 22_motion_monitor.md; 512 (R536)] -/
  decim : List Nat := [512, 512]
  /-- Custom coefficients of the banks. [2 × 96 × 24 signed; R539 of 22_motion_monitor.md; none loaded] -/
  coef : List (List Int) := [[], []]
  /-- The bank changes at the next output boundary of channel 0. [1; R540 of 22_motion_monitor.md; false] -/
  swapDue : Bool := false
  deriving DecidableEq, Repr, Inhabited

/-- A union of components across the pair seam that the primary holds (R225, R458, R459): the link account of its segments, own component keys
and labels of the peer that are open, labels whose part of a segment being cut is still to come, the line of that cut, and the pieces
that have arrived, in pair positions with absolute sums. -/
structure SeamUnion where
  acc : Comp
  own : List Nat := []
  peer : List Nat := []
  peerLeft : List Nat := []
  peerDone : List Nat := []
  cutAt : Option Nat := none
  pieces : List Descriptor := []
  deriving DecidableEq, Repr, Inhabited

/-- A seam message: WLN, epoch, STATE, label. -/
structure SeamMsg where
  wln : Nat
  epoch : Nat
  state : Nat
  label : Nat
  /-- PAIR_MERGE is 1 in the peer's deck for the line (R225, R226) -/
  merge : Bool := true
  deriving DecidableEq, Repr, Inhabited

/-- Test state of a lane (R464-R466). -/
structure LaneTest where
  cls : Nat
  lane : Nat
  pattern : Nat := 0
  gen : Bool := false
  check : Bool := false
  loopback : Bool := false
  /-- injections that are still pending (R466) -/
  inject : Nat := 0
  /-- generator register (R464) -/
  reg : Nat := 0
  /-- bits generated -/
  made : Nat := 0
  /-- checker register and the bits loaded into it (R465) -/
  expect : Nat := 0
  loaded : Nat := 0
  /-- consecutive correct predictions before LOCK -/
  run : Nat := 0
  lock : Bool := false
  bits : Nat := 0
  errors : Nat := 0
  /-- BITS at the errors among the last 1,024 bits, latest first -/
  recent : List Nat := []
  deriving DecidableEq, Repr, Inhabited

/-- The Viaduct. -/
structure ViaductState where
  /-- Link state: 0 down, 1 training, 2 up, 3 test. [2; R469 of 18_viaduct_lanes.md; 0] -/
  link : Nat := 0
  /-- Rate in Mb/s at which training runs. [14; R451 of 18_viaduct_lanes.md; 12500] -/
  trainRate : Nat := 12500
  /-- Rate in Mb/s. [14; R469 of 18_viaduct_lanes.md; DC 0 (log 1)] -/
  rate : Nat := 0
  /-- Lanes in use to transmit. [mask 8; R451 of 18_viaduct_lanes.md; 0] -/
  tx : Nat := 0
  /-- Lanes in use to receive. [mask 8; R451 of 18_viaduct_lanes.md; 0] -/
  rx : Nat := 0
  /-- Pair state: 0 unpaired, 1 SPLIT, 2 JOINED. [2; R469 of 18_viaduct_lanes.md; 0] -/
  pair : Nat := 0
  /-- Last split cause. [3; R469 of 18_viaduct_lanes.md; 0] -/
  splitCause : Nat := 0
  /-- LAT_NS. [32; R452 of 18_viaduct_lanes.md; DC 0 (log 1)] -/
  latNs : Nat := 0
  /-- CHIP_ID of the peer. [64; R469 of 18_viaduct_lanes.md; DC 0 (log 1)] -/
  peerChip : Nat := 0
  /-- Protocol version of the peer. [16; R469 of 18_viaduct_lanes.md; DC 0 (log 1)] -/
  peerVersion : Nat := 0
  /-- Role that the peer reports. [2; R454 of 18_viaduct_lanes.md; DC 0 (log 1)] -/
  peerRole : Nat := 0
  /-- WL of the latest PAIRINFO. [17; R462 of 18_viaduct_lanes.md; 0] -/
  wl : Nat := 0
  /-- STITCH PITCH of the latest PAIRINFO. [40; R461 of 18_viaduct_lanes.md; DC 0 (log 1)] -/
  peerPitch : Nat := 0
  /-- POSITION PITCH of the left device's ACTIVE deck. [40; R455 of 18_viaduct_lanes.md; DC 0 (log 1)] -/
  peerPosPitch : Nat := 0
  /-- SYNCERR per receive lane. [9 × 32; R469 of 18_viaduct_lanes.md; 0] -/
  syncErr : List Nat := List.replicate 9 0
  /-- CHKERR per receive lane. [9 × 32; R469 of 18_viaduct_lanes.md; 0] -/
  chkErr : List Nat := List.replicate 9 0
  /-- REPLAY. [32; R469 of 18_viaduct_lanes.md; 0] -/
  replay : Nat := 0
  /-- TRAINS. [32; R469 of 18_viaduct_lanes.md; 0] -/
  trains : Nat := 0
  /-- SPLITS. [32; R469 of 18_viaduct_lanes.md; 0] -/
  splits : Nat := 0
  /-- SEAMLATE. [32; R469 of 18_viaduct_lanes.md; 0] -/
  seamLate : Nat := 0
  /-- ROLECONFLICT. [32; R469 of 18_viaduct_lanes.md; 0] -/
  roleConflict : Nat := 0
  /-- SEQ of the next message. [16; R453 of 18_viaduct_lanes.md; 0] -/
  seq : Nat := 0
  /-- The last 4 KiB of messages, held for replay, latest first: SEQ, TYPE and fields. [4 KiB; R453 of 18_viaduct_lanes.md; empty] -/
  sent : List (Nat × Nat × List Nat) := []
  /-- Seam messages of the peer that wait for this device's line. [queue; R458 of 18_viaduct_lanes.md; empty] -/
  seamIn : List SeamMsg := []
  /-- The SEAM messages of both devices for the line labelled last: own, then the peer's. [pair; R458 of 18_viaduct_lanes.md; none] -/
  seamLast : Option (SeamMsg × SeamMsg) := none
  /-- Unions across the seam that the primary holds. [list; R458 of 18_viaduct_lanes.md; empty] -/
  unions : List SeamUnion := []
  /-- Closed parts whose labels no component of the primary has joined: label and descriptor. [list; R458 of 18_viaduct_lanes.md; empty] -/
  parts : List (Nat × Descriptor) := []
  /-- Own component keys that touched the seam while JOINED, and whether the peer's pixels joined them. [list; R458 of 18_viaduct_lanes.md; empty] -/
  touched : List (Nat × Bool) := []
  /-- Cuts named by the primary: label and line. [list; R458 of 18_viaduct_lanes.md; empty] -/
  cuts : List (Nat × Nat) := []
  /-- Position forwarded by the primary: H, REVERSE, OVERSPEED, FREERUN. [64 + 3; R457 of 18_viaduct_lanes.md; none] -/
  fwd : Option (Int × Bool × Bool × Bool) := none
  /-- Lane tests set. [list; R464 of 18_viaduct_lanes.md; none] -/
  tests : List LaneTest := []
  /-- A LANE_SET took the link out of service until DIAGNOSTIC is left. [1; R467 of 18_viaduct_lanes.md; false] -/
  testMode : Bool := false
  /-- Requests of this device that wait for the peer's answer: SEQ, CMD and the host's request, with Ws of a joint arm. [list; R455 of 18_viaduct_lanes.md; empty] -/
  asked : List (Nat × Nat × Req × Int) := []
  /-- The next entry into a web mode is joint. [1; R455 of 18_viaduct_lanes.md; false] -/
  joinNext : Bool := false
  /-- Epoch of the latest PAIRINFO. [32; R461 of 18_viaduct_lanes.md; DC 0 (log 1)] -/
  peerEpoch : Nat := 0
  /-- A PAIRINFO has arrived since the joint entry was accepted. [model; R456 of 18_viaduct_lanes.md; false] -/
  infoSince : Bool := false
  /-- SEQ of the next request to the peer. [32; R389 of 15_host_interface.md; DC 0 (log 1)] -/
  askSeq : Nat := 0
  /-- Viaduct lanes whose REINSTATE waits for a joint exit. [list; R468 of 18_viaduct_lanes.md; empty] -/
  laneDue : List Nat := []
  deriving DecidableEq, Repr, Inhabited

end Sys2Proof.Machine
end

