-- ==== Sys2Proof/Machine/State.lean ====
section
/-! DEFINITION. The state of the block, its reset value, and the ways a step can stop. -/

namespace Sys2Proof.Machine

/-- A list of (address, byte) pairs in canonical form: addresses strictly rising and no byte equal to 0, which is what an
unlisted address reads as (R249 zeroes the on-chip memories; for DRAM it is this model's choice, log 2). -/
abbrev Memory := List Host.Cell

/-- What the device puts out, in order: messages, frames and pin events that leave it. The list is the model's own
record of them (log 6). The `tag` of a frame of the device's own is its VID and PCP, none untagged (R430). -/
inductive Out where
  /-- the MSI-X message of a vector (R383) -/
  | msix (vector : Nat)
  /-- a mailbox response as a UDP datagram from port 47800 (R393) -/
  | datagram (addr port : Nat) (data : List Byte) (tag : Option (Nat × Nat) := none)
  /-- a peer message from port 47801: destination, TYPE and datagram bytes (R439) -/
  | peer (addr port typ : Nat) (data : List Byte) (tag : Option (Nat × Nat) := none)
  /-- a step pulse (R526): axis, tick, width in ticks, STEP_POL -/
  | stepPulse (axis tick width : Nat) (low : Bool)
  /-- refreshes of a rank of DRAM, per bank or all-bank (R495) -/
  | dramRefresh (rank count : Nat) (perBank : Bool)
  /-- this device's receiver asks its peer for a replay from a SEQ on (R453) -/
  | viaductReplay (first : Nat)
  /-- a message of the pairing link: its TYPE, the fields of its body in order (for MBX the words of the mailbox message), its SEQ, and its bytes as the
  64-bit payloads of blocks by lane (R450, R461) -/
  | viaduct (typ : Nat) (fields : List Nat) (seq : Nat) (blocks : List (Nat × List Byte))
  /-- a pulse of a trigger output: start in ns, width in ns, inverted (R115, R116) -/
  | trigPulse (output startNs widthNs : Nat) (inverted : Bool)
  /-- a register transfer on a sensor-control bus: camera, COMMIT or not, the writes, and the target on its bus (R118, R119) -/
  | sensorWrite (camera : Nat) (commit : Bool) (writes : List (Nat × Nat)) (target : SensorTarget)
  /-- SETDASA assigns an I3C target its static address as dynamic address: bus and address (R118) -/
  | setDasa (bus addr : Nat)
  /-- a head line fires (R323): head, trigger tick, its slots with the offset from the trigger in ticks of 10 ns and the mask of the strobe groups
  that fire in the slot, and its tiers: width in ticks of 10 ns and the elements that conduct for it -/
  | headFire (head tick : Nat) (slots : List (Nat × Nat)) (tiers : List (Nat × Nat))
  /-- an exchange begins on a consumable bus (R356, R358): head, the address of its chip, and the bytes written -/
  | chipWrite (head addr : Nat) (data : List Byte)
  /-- the switch sends a frame on an external port (R429, R437) -/
  | ethFrame (port : Nat) (f : EthFrame)
  /-- a frame of the device's own (ARP, ICMP echo, PTP), as a description: code and words -/
  | ownFrame (data : List Byte) (tag : Option (Nat × Nat) := none)
  /-- the speed request changes on its pin (R333): the pin, the period and the high time in ticks of 10 ns -/
  | speedPwm (pin period high : Nat)
  /-- an edge of a marker output: the marker and the level of its pin (R304, R311) -/
  | markEdge (m : Nat) (level : Bool)
  /-- an edge of a press output: the pin, its level, and whether it is open-drain (R367, R608) -/
  | pinEdge (n : Nat) (level openDrain : Bool)
  /-- the bytes that a BAR2 read returns to the host (R384) -/
  | hostRead (data : List Byte)
  deriving DecidableEq, Repr, Inhabited

/-- Faults: how a step stops. -/
inductive Fault where
  /-- Raised where a command makes a case that the manual names as misuse, whose behaviour R20 leaves undefined; the number is
  the rule that names it. Safe: the machine stops where the device goes on in an undefined way. -/
  | misuse (rule : Nat)
  deriving DecidableEq, Repr, Inhabited

/-- Refusals: a command without a meaning. -/
inductive Refusal where
  /-- Answered only by the arm of a command that this model does not give a meaning yet. Safe. -/
  | notModelled (mnemonic : String)
  /-- Answered by a POKE into the internal register window, for which the manual defines no layout outside BAR0 (R32): the effect of the
  write is that of registers it does not describe. Safe: the machine stops where the device goes on. -/
  | internalRegister
  /-- Answered by a protected test instruction that acts (R589): the manual names internal scan, direct memory access, BIST access and fuse
  programming and does not say what they do. Safe: the machine stops where the device goes on. -/
  | testAccess
  deriving DecidableEq, Repr, Inhabited

/-- The state of the block. -/
structure State where
  /-- 40-bit device memory. [2^40 bytes, sparse; R30 of 01_architecture.md; every byte 0: zeroed at SELFTEST by R249 (on-chip), DC (DRAM, log 2)] -/
  mem : Memory := []
  /-- Mode, firmware identity, reset conditions. -/
  sys : SysState := {}
  /-- Host interface. -/
  hif : Hif := {}
  /-- Command state of the Keeper. -/
  keeper : Keeper := {}
  /-- Decks. -/
  deck : DeckState := {}
  /-- Profile. -/
  profile : ProfileState := {}
  /-- Records path. -/
  recs : RecState := {}
  /-- Markers. -/
  mark : MarkState := {}
  /-- Trestle event fabric. -/
  trestle : TrestleState := {}
  /-- Press I/O. -/
  pio : PioState := {}
  /-- Web position. -/
  pos : PosState := {}
  /-- Camera ports, strips and geometry. -/
  intake : IntakeState := {}
  /-- Span. -/
  span : SpanState := {}
  /-- Statistics stage. -/
  stats : StatsState := {}
  /-- Trim converters and calibration. -/
  cal : CalState := {}
  /-- Reference objects and registration. -/
  reg : RegState := {}
  /-- Compare stage. -/
  cmp : CmpState := {}
  /-- Segmenter. -/
  seg : SegState := {}
  /-- Codec. -/
  codec : CodecState := {}
  /-- Comb. -/
  comb : CombState := {}
  /-- Print block. -/
  print : PrintState := {}
  /-- Axes. -/
  motion : MotionState := {}
  /-- Monitor converter. -/
  mon : MonitorState := {}
  /-- Viaduct. -/
  vd : ViaductState := {}
  /-- Network and clock. -/
  net : NetState := {}
  /-- DRAM controller. -/
  dram : DramState := {}
  /-- Host DMA channels. -/
  dma : DmaState := {}
  /-- Channels, self-test. -/
  fault : FaultState := {}
  /-- Fuses. -/
  fuse : Fuses := {}
  /-- Firmware slots and boot record. -/
  fw : FwState := {}
  /-- Power and temperature. -/
  power : PowerState := {}
  /-- Part number: 0x2440 or 0x2416 (R2). [16; R381 of 15_host_interface.md; DC 0x2440 (log 1)] -/
  part : Nat := 0x2440
  /-- VD_ROLE strap as sampled. [2; R562 of 23_modes_power_boot.md; DC 0 (log 1)] -/
  vdRole : Nat := 0
  /-- BIST_FULL strap as sampled. [1; R562 of 23_modes_power_boot.md; DC 0 (log 1)] -/
  bistFullStrap : Bool := false
  /-- Position tick reached, 5 ns each, since reset release. [model; R69 of 03_web_position.md; 0] -/
  now : Nat := 0
  /-- Counter of the free values drawn. [model; log 3; 0] -/
  free : Nat := 0
  /-- What the device has put out, oldest first. [model; log 6; empty] -/
  out : List Out := []
  /-- Commands that wait, first in, first out. [model; queue of commands; empty] -/
  pending : List Instr := []
  deriving DecidableEq, Repr, Inhabited

/-- The machine right after reset release: mode BOOT, every register at its reset value (log 1 names the values that
the spec does not give), memory with nothing listed, no command waiting. -/
def State.reset : State := {}

end Sys2Proof.Machine
end

