-- ==== Sys2Proof/Machine/Deck.lean ====
section
/-! DEFINITION. Containers: the load-time checks of R52 over a container's bytes, and the fields of deck and profile
sections, each with the default that its chapter gives (R45, R48). -/

namespace Sys2Proof.Machine

/-- The sections of the deck and the profile that this issue defines, with their instances: (ID, instances). A deck ID
lies below 0x8000 and a profile ID at or above it (R39). Every layout has version 1. -/
def sectionIds : List (Nat × Nat) :=
  [(0x0001, 1), (0x0010, 1), (0x0020, 24), (0x0021, 24), (0x0030, 1), (0x0031, 1), (0x0032, 1), (0x0040, 1),
   (0x0041, 1), (0x0050, 1), (0x0051, 1), (0x0060, 1), (0x0061, 1), (0x0070, 1), (0x0071, 1), (0x0080, 8),
   (0x0081, 1), (0x0082, 1), (0x0090, 1), (0x00A0, 1), (0x00A1, 1), (0x00B0, 1), (0x00C0, 1), (0x00D0, 1),
   (0x00E0, 1), (0x8001, 1), (0x8010, 1), (0x8020, 1), (0x8030, 1), (0x8040, 1), (0x8050, 1), (0x8060, 1),
   (0x8070, 1), (0x8080, 1)]

/-- Body length that a chapter fixes for a section ID, for the sections of one length. -/
def fixedLength : List (Nat × Nat) :=
  [(0x0001, 32), (0x0010, 32), (0x0020, 304), (0x0021, 96), (0x0032, 416), (0x0040, 48), (0x0041, 208),
   (0x0050, 32), (0x0051, 16), (0x0070, 16), (0x0071, 144), (0x0081, 72), (0x0082, 24), (0x0090, 960),
   (0x00A0, 352), (0x00A1, 400), (0x00B0, 560), (0x00C0, 64), (0x00D0, 32), (0x00E0, 64), (0x8001, 216),
   (0x8010, 408), (0x8020, 1024), (0x8030, 128), (0x8040, 64), (0x8050, 144), (0x8060, 96), (0x8070, 16),
   (0x8080, 272)]

/-- Body of a section of a container. -/
def Container.sec (c : Container) (id inst : Nat) : Option (List Byte) :=
  (c.sections.find? (fun s => s.id == id && s.inst == inst)).map (·.body)

/-- Does the container hold the section? -/
def Container.has (c : Container) (id inst : Nat) : Bool := (c.sec id inst).isSome

/-- Bits [hi:lo] of the word at `off` of a section, or the default when the section is absent. -/
def Container.f (c : Container) (id inst off hi lo dflt : Nat) : Nat :=
  match c.sec id inst with
  | none => dflt
  | some b => fld (wordAt b off) hi lo

/-- A signed field: bits [hi:lo] in two's complement. -/
def Container.sf (c : Container) (id inst off hi lo : Nat) (dflt : Int) : Int :=
  match c.sec id inst with
  | none => dflt
  | some b => sext (hi + 1 - lo) (fld (wordAt b off) hi lo)

/-- A little-endian number of `n` bytes of a section, or the default. -/
def Container.le (c : Container) (id inst off n dflt : Nat) : Nat :=
  match c.sec id inst with
  | none => dflt
  | some b => leAt b off n

/-- A little-endian signed number of `n` bytes of a section, or the default. -/
def Container.leS (c : Container) (id inst off n : Nat) (dflt : Int) : Int :=
  match c.sec id inst with
  | none => dflt
  | some b => sext (8 * n) (leAt b off n)

/-- A one-bit field. -/
def Container.b (c : Container) (id inst off bit : Nat) (dflt : Bool) : Bool :=
  match c.sec id inst with
  | none => dflt
  | some b => bitAt (wordAt b off) bit

/-- A check's result: the failing STATUS and DETAIL. -/
abbrev Check := Option (Nat × Nat)

/-- DETAIL of a structural failure (R52). -/
def formatDetail (reason id inst : Nat) : Nat := reason * 2 ^ 24 + id * 2 ^ 8 + inst

/-- Remap tables of the positions below NCAM run past TABLE_BYTES (R152); `c` is the container walked so far with the section. -/
def remapOverrun (c : Container) (geo : List Byte) : Bool :=
  let ncam := c.f 0x0032 0 0x00 4 0 1
  (upto ncam).any (fun k =>
    let cam := c.f 0x0032 0 (0x20 + 16 * k) 28 24 k
    let nout := c.f 0x0032 0 (0x24 + 16 * k) 14 0 2048
    let roff := wordAt geo (0x10 + 32 * cam + 0x10)
    roff != 0xFFFFFFFF && decide (roff + 2 * nout > wordAt geo 0))

/-- Does the body length of a section differ from what its chapter defines for version 1 (R52 reason 0x09; R151, R152,
R261, R281, R344)? The remap tables of GEOMETRY are tested at the end of the walk, against the deck's own STITCH (R152). -/
def lengthWrong (id : Nat) (b : List Byte) : Bool :=
  let n := b.length
  if id = 0x0030 then decide (n < 0x610) || decide (n ≠ 0x610 + 0x8000 * fld (wordAt b 0) 3 0 + wordAt b 4)
  else if id = 0x0031 then decide (n < 0x310) || decide (n ≠ 0x310 + wordAt b 0)
  else if id = 0x0060 then
    decide (n < 0x110) || decide (n ≠ 0x110 + wordAt b 4) ||
    (upto (min 16 (fld (wordAt b 0) 4 0))).any (fun s =>
      decide (wordAt b (0x14 + 16 * s) + wordAt b (0x18 + 16 * s) > wordAt b 4))
  else if id = 0x0061 then
    decide (n < 0x230) ||
    decide (n ≠ 0x230 + 8 * fld (wordAt b 0) 31 16 + 16 * fld (wordAt b 4) 13 0 + 62128 * fld (wordAt b 8) 0 0)
  else if id = 0x0080 then
    decide (n < 0x6E0) || decide (n ≠ 0x6E0 + wordAt b 0x54) ||
    decide (wordAt b 0x54 ≠ fld (wordAt b 0x50) 15 0 * ceilDiv (fld (wordAt b 0x48) 15 0) 32 * 4)
  else decide (n ≠ (lookupN id fixedLength).getD n)

/-- The tests of one section in the walk of R52, in their order after OVERRUN: ORDER, UNKNOWN, INSTANCE, SECTION_LENGTH. -/
def sectionTest (isProfile : Bool) (prev : Option (Nat × Nat)) (s : Section) : Check :=
  let key := fun (r : Nat) => some (7, formatDetail r s.id s.inst)
  if (match prev with
      | none => false
      | some (pi, pn) => decide (s.id < pi) || (decide (s.id = pi) && decide (s.inst ≤ pn))) then key 0x06
  else match lookupN s.id sectionIds with
    | none => key 0x07
    | some k =>
      if decide (0x8000 ≤ s.id) != isProfile then key 0x07
      else if s.inst ≥ k then key 0x08
      else if s.ver = 1 && lengthWrong s.id s.body then key 0x09
      else none

/-- The section walk of R52 over the bytes before LENGTH: `n` sections are left to take, `bs` the bytes left. -/
def walk (isProfile : Bool) : Nat → List Byte → Option (Nat × Nat) → List Section → Check × List Section
  | 0, bs, _, acc => if bs.isEmpty then (none, acc.reverse) else (some (7, formatDetail 0x05 0 0), acc.reverse)
  | n + 1, bs, prev, acc =>
    if bs.isEmpty then (some (7, formatDetail 0x0B 0 0), acc.reverse) else
    let id := leAt bs 0 2
    let inst := leAt bs 2 1
    if bs.length < 8 ∨ bs.length < 8 + leAt bs 4 4 then (some (7, formatDetail 0x04 id inst), acc.reverse) else
    let s : Section := { id := id, inst := inst, ver := leAt bs 3 1, body := (bs.drop 8).take (leAt bs 4 4) }
    match sectionTest isProfile prev s with
    | some e => (some e, acc.reverse)
    | none => walk isProfile n (bs.drop (8 + leAt bs 4 4)) (some (id, inst)) (s :: acc)

/-- Cameras that the deck uses: those that STITCH places at positions below NCAM (R45). -/
def camerasPlaced (c : Container) : List Nat :=
  (upto (min 24 (c.f 0x0032 0 0x00 4 0 1))).map (fun k => c.f 0x0032 0 (0x20 + 16 * k) 28 24 k)

/-- Step 7 of R52: the first required section that a deck lacks (R45). The order GLOBAL, STITCH, CAMERA is a reading
(DEDUCED, log 20). -/
def missingSection (c : Container) : Option (Nat × Nat) :=
  if !c.has 0x0001 0 then some (0x0001, 0)
  else if c.f 0x0001 0 0x08 0 0 1 = 1 ∨ c.f 0x0001 0 0x08 2 2 0 = 1 then
    if !c.has 0x0032 0 then some (0x0032, 0)
    else match (camerasPlaced c).find? (fun k => !c.has 0x0020 k) with
      | some k => some (0x0020, k)
      | none => none
  else none

/-- The load-time checks of R52 in order over the transferred bytes: the failing status and detail, or the container. -/
def parseContainer (isProfile : Bool) (bs : List Byte) : Check × Container :=
  let len := wordAt bs 0x08
  let c0 : Container := {}
  if wordAt bs 0 ≠ (if isProfile then 0x464F5250 else 0x4B434544) then (some (7, formatDetail 0x01 0 0), c0)
  else if len % 4 ≠ 0 ∨ len < 64 ∨ len > 16777216 ∨ len > bs.length then (some (7, formatDetail 0x02 0 0), c0)
  else
    let b := bs.take len
    let zeroed := b.take 0x0C ++ [0, 0, 0, 0] ++ b.drop 0x10
    let minor := leAt b 4 2
    let major := leAt b 6 2
    let count := leAt b 0x10 2
    if wordAt b 0x0C ≠ crc32 zeroed then (some (7, formatDetail 0x03 0 0), c0)
    else if !((major = 1 && minor = 0) || major = 0) then
      (some (3, 0x01 * 2 ^ 24 + major * 2 ^ 8 + min minor 0xFF), c0)
    else if count = 0 ∨ count > 1024 then (some (7, formatDetail 0x0B 0 0), c0)
    else
      let (e, secs) := walk isProfile count (b.drop 0x40) none []
      let c : Container := { length := len, deckId := wordAt b 0x14, deckRev := wordAt b 0x18, created := leAt b 0x20 8,
                             name := bytesAt b 0x28 24, sections := secs }
      match e with
      | some x => (some x, c)
      | none =>
        if (match c.sections.find? (fun s => s.id == 0x0031) with
            | some g => decide (g.ver = 1) && remapOverrun c g.body
            | none => false) then (some (7, formatDetail 0x09 0x0031 0), c)
        else match c.sections.find? (fun s => s.ver != 1) with
          | some s => (some (3, 0x02 * 2 ^ 24 + s.id * 2 ^ 8 + s.ver), c)
          | none =>
            if isProfile then (none, c)
            else match missingSection c with
              | some (i, n) => (some (7, formatDetail 0x0A i n), c)
              | none => (none, c)

/- Named fields of the GLOBAL section (R55). -/

/-- JOB_ID. -/
def Container.jobId (c : Container) : Nat := c.f 0x0001 0 0x00 31 0 0
/-- OVSCALE as the divisor s of R36: 4 or 8. -/
def Container.ovScale (c : Container) : Nat := if c.f 0x0001 0 0x08 6 6 0 = 1 then 8 else 4
/-- OVERVIEW. -/
def Container.overview (c : Container) : Bool := c.b 0x0001 0 0x08 5 true
/-- LOOKBACK. -/
def Container.lookback (c : Container) : Bool := c.b 0x0001 0 0x08 4 true
/-- REFCMP. -/
def Container.refcmp (c : Container) : Bool := c.b 0x0001 0 0x08 3 true
/-- VERIFY. -/
def Container.verify (c : Container) : Bool := c.b 0x0001 0 0x08 2 false
/-- PRINT. -/
def Container.printEn (c : Container) : Bool := c.b 0x0001 0 0x08 1 false
/-- INSPECT. -/
def Container.inspectEn (c : Container) : Bool := c.b 0x0001 0 0x08 0 true
/-- MAX_LINE_RATE. -/
def Container.maxLineRate (c : Container) : Nat := c.f 0x0001 0 0x0C 31 0 400000
/-- STRIP_LINES. -/
def Container.stripLines (c : Container) : Nat := c.f 0x0001 0 0x10 12 0 1024
/-- PLANES. -/
def Container.planes (c : Container) : Nat := c.f 0x0001 0 0x14 7 0 3
/-- SWAP_MARGIN. -/
def Container.swapMargin (c : Container) : Nat := c.f 0x0001 0 0x18 31 0 0
/-- REPEAT_LINES. -/
def Container.repeatLines (c : Container) : Nat := c.f 0x0001 0 0x1C 20 0 0

/- Named fields of POSITION (R97) and STITCH (R153). -/

/-- The set points of a DRAM type (R489): TYPE 0 is LPDDR5. -/
def dramPoints (type : Nat) : List Nat := [1600, 3200, 4267, 5500, 6400] ++ (if type = 1 then [7500, 8533] else [])

/-- RATE0 or RATE1 is no set point of a DRAM type, or RATE1 lies above RATE0 (R500). -/
def Container.ratesBad (p : Container) (type : Nat) : Bool :=
  let r0 := p.f 0x8040 0 0x04 15 0 8533
  let r1 := p.f 0x8040 0 0x04 31 16 4267
  !(dramPoints type).contains r0 || !(dramPoints type).contains r1 || decide (r1 > r0)

/-- PITCH of POSITION, the line pitch in 2^-16 nm. -/
def Container.pitch (c : Container) : Nat := c.f 0x0010 0 0x04 31 0 0xA55D5555 + 2 ^ 32 * c.f 0x0010 0 0x08 7 0 0
/-- SOURCE. -/
def Container.source (c : Container) : Nat := c.f 0x0010 0 0x00 3 0 0
/-- ALT. -/
def Container.alt (c : Container) : Nat := c.f 0x0010 0 0x00 7 4 0xF
/-- REF_SOURCE. -/
def Container.refSource (c : Container) : Nat := c.f 0x0010 0 0x00 11 8 0xF
/-- INTERP. -/
def Container.interp (c : Container) : Bool := c.b 0x0010 0 0x00 16 true
/-- SETTLE_LINES. -/
def Container.settleLines (c : Container) : Nat := c.f 0x0010 0 0x0C 31 16 256
/-- REV_COUNTS. -/
def Container.revCounts (c : Container) : Nat := c.f 0x0010 0 0x0C 15 0 64
/-- OVERSPEED_LINES. -/
def Container.overspeedLines (c : Container) : Nat := c.f 0x0010 0 0x10 7 0 4
/-- STALL_US. -/
def Container.stallUs (c : Container) : Nat := c.f 0x0010 0 0x14 15 0 1000
/-- NCAM. -/
def Container.ncam (c : Container) : Nat := c.f 0x0032 0 0x00 4 0 1
/-- WIDTH of the stitched line. -/
def Container.width (c : Container) : Nat := c.f 0x0032 0 0x04 16 0 2048
/-- PITCH of STITCH, the pixel pitch in 2^-16 nm (R10). -/
def Container.pxPitch (c : Container) : Nat := c.f 0x0032 0 0x08 31 0 0xA55D5555 + 2 ^ 32 * c.f 0x0032 0 0x0C 7 0 0

/- Named fields of the INSTALL profile section (R96). -/

/-- SCALE of source k: 0 ENC0, 1 ENC1, 2 SENC0, 3 SENC1. -/
def Container.scale (c : Container) (k : Nat) : Nat :=
  c.f 0x8001 0 (0x10 + 8 * k) 31 0 0 + 2 ^ 32 * c.f 0x8001 0 (0x14 + 8 * k) 7 0 0
/-- Station offset of tooth train k. -/
def Container.tthOff (c : Container) (k : Nat) : Int := c.leS 0x8001 0 (0x48 + 8 * k) 8 0
/-- Station offset of head port h. -/
def Container.headOff (c : Container) (h : Nat) : Int := c.leS 0x8001 0 (0x58 + 8 * h) 8 0
/-- Station offset of marker m. -/
def Container.markOff (c : Container) (m : Nat) : Int := c.leS 0x8001 0 (0x98 + 8 * m) 8 0

/- Named fields of RECORDS (R310) and MARKERS (R311). -/

/-- Ring of a record type: NOTIFY always 0, else the route nibble or the default of R284. -/
def Container.ringOf (c : Container) (typ : Nat) : Nat :=
  let dflt := if typ = 0x0A then 0 else if typ = 0x01 ∨ typ = 0x03 ∨ typ = 0x04 then 1 else if typ = 0x02 then 2
    else if typ = 0x05 ∨ typ = 0x06 ∨ typ = 0x09 then 3 else if typ = 0x07 ∨ typ = 0x08 then 4
    else if typ = 0x0C then 5 else 6
  if typ = 0x0A then 0 else
  let n := if typ ≤ 8 then c.f 0x0070 0 0x00 (4 * (typ - 1) + 3) (4 * (typ - 1)) 0xF
           else c.f 0x0070 0 0x04 (4 * (typ - 9) + 3) (4 * (typ - 9)) 0xF
  if n = 0xF then dflt else n
/-- FAULT_TRANSIENT. -/
def Container.faultTransient (c : Container) : Bool := c.b 0x0070 0 0x08 1 false
/-- CROP_POLICY: reuse oldest. -/
def Container.cropReuse (c : Container) : Bool := c.b 0x0070 0 0x08 0 false
/-- Marker m enabled. -/
def Container.markEn (c : Container) (m : Nat) : Bool := c.b 0x0071 0 0x00 m false
/-- Marker POL. -/
def Container.markPol (c : Container) (m : Nat) : Bool := c.b 0x0071 0 (0x10 + 16 * m) 2 false
/-- Marker MODE. -/
def Container.markMode (c : Container) (m : Nat) : Nat := c.f 0x0071 0 (0x10 + 16 * m) 1 0 0
/-- Marker LEAD. -/
def Container.markLead (c : Container) (m : Nat) : Int := c.sf 0x0071 0 (0x14 + 16 * m) 31 0 0
/-- Marker TRAIL. -/
def Container.markTrail (c : Container) (m : Nat) : Int := c.sf 0x0071 0 (0x18 + 16 * m) 31 0 0
/-- Marker WIDTH. -/
def Container.markWidth (c : Container) (m : Nat) : Nat := c.f 0x0071 0 (0x1C + 16 * m) 23 0 1000

/- Fields of the FAULT section (R590). -/

/-- N of a block. -/
def Container.faultN (c : Container) (block : Nat) : Nat := if block = 0 then 0 else c.f 0x00E0 0 (4 * block) 7 0 4
/-- WIN_MS of a block. -/
def Container.faultWin (c : Container) (block : Nat) : Nat := c.f 0x00E0 0 (4 * block) 31 16 1000

/- IO (R608). -/

/-- Pin of function k: 0 ESTOP, 1 WEB_ABSENT, 2 JAM, 3 SPEED_PWM; 0xFF none. -/
def Container.ioPin (p : Container) (k : Nat) : Nat := p.f 0x8050 0 0x00 (8 * k + 7) (8 * k) 0xFF
/-- EN of pin n. -/
def Container.ioEn (p : Container) (n : Nat) : Bool := p.b 0x8050 0 (0x10 + 4 * n) 31 false
/-- OUT of pin n. -/
def Container.ioOut (p : Container) (n : Nat) : Bool := p.b 0x8050 0 (0x10 + 4 * n) 30 false
/-- POL of pin n. -/
def Container.ioPol (p : Container) (n : Nat) : Bool := p.b 0x8050 0 (0x10 + 4 * n) 29 false
/-- OD of pin n. -/
def Container.ioOd (p : Container) (n : Nat) : Bool := p.b 0x8050 0 (0x10 + 4 * n) 28 false
/-- Is pin n a press input: used, and no output? -/
def Container.ioInput (p : Container) (n : Nat) : Bool := p.ioEn n && !p.ioOut n
/-- Is pin n a press output? -/
def Container.ioOutput (p : Container) (n : Nat) : Bool := p.ioEn n && p.ioOut n

end Sys2Proof.Machine
end

