-- ==== Sys2Proof/Machine/Ops.lean ====
section
/-! DEFINITION. The shared operations: memory, the address map, the clock, modes and epochs, interrupts, records and their
rings, notifications, fault occurrences, and answering a Zaster command. -/

namespace Sys2Proof.Machine

/-- The outcome of a command or a step. -/
abbrev Outcome := Host.Outcome State Fault Refusal

/- Memory. -/

/-- The canonical form: addresses strictly rising from `lo` on, and no byte equal to 0. -/
def Memory.wfFrom : Nat → Memory → Bool
  | _, [] => true
  | lo, (a, b) :: r => decide (lo ≤ a) && b != 0 && Memory.wfFrom (a + 1) r

/-- The canonical form of memory: addresses strictly rising, and no entry equal to what an unlisted address reads as. -/
def Memory.wf (m : Memory) : Bool := Memory.wfFrom 0 m

/-- The byte at an address; an unlisted address reads as 0 (log 2). -/
def memByte : Memory → Nat → Byte
  | [], _ => 0
  | (k, b) :: r, a => if k = a then b else memByte r a

/-- The cells that bytes at consecutive addresses list: none for a byte 0. -/
def cellsOf : Nat → List Byte → Memory
  | _, [] => []
  | a, b :: bs => if b = 0 then cellsOf (a + 1) bs else (a, b) :: cellsOf (a + 1) bs

/-- The entries below an address. -/
def memBelow : Memory → Nat → Memory
  | [], _ => []
  | (k, b) :: r, a => if k < a then (k, b) :: memBelow r a else []

/-- The entries at or above an address. -/
def memFrom : Memory → Nat → Memory
  | [], _ => []
  | (k, b) :: r, a => if k < a then memFrom r a else (k, b) :: r

/-- Bytes written at an address. The canonical form is kept. -/
def memWrite (m : Memory) (a : Nat) (bs : List Byte) : Memory :=
  memBelow m a ++ cellsOf a bs ++ memFrom m (a + bs.length)

/-- `n` bytes set to 0 at an address. The canonical form is kept. -/
def memClear (m : Memory) (a n : Nat) : Memory := memBelow m a ++ memFrom m (a + n)

/-- `n` bytes read from consecutive addresses; the list walks memory once. -/
def memReadFrom : Nat → Nat → Memory → List Byte
  | 0, _, _ => []
  | n + 1, a, m =>
    let r := memFrom m a
    (match r with
     | (k, b) :: _ => if k = a then b else 0
     | [] => 0) :: memReadFrom n (a + 1) r

/-- `n` bytes read at an address. -/
def memRead (m : Memory) (a n : Nat) : List Byte := memReadFrom n a m

/-- The 32-bit word at an address. -/
def memWord (m : Memory) (a : Nat) : Nat := ofLe (memRead m a 4)

/-- `n` bytes read from the device memory of a state. -/
def State.read (s : State) (a n : Nat) : List Byte := memRead s.mem a n

/-- Bytes written to the device memory of a state. -/
def State.write (s : State) (a : Nat) (bs : List Byte) : State := { s with mem := memWrite s.mem a bs }

/-- Bytes of the device memory set to 0. -/
def State.clear (s : State) (a n : Nat) : State := { s with mem := memClear s.mem a n }

/-- Capacity of the fitted DRAM in bytes. -/
def State.dramBytes (s : State) : Nat := s.dram.capacityMib * 2 ^ 20

/-- The ranges of R30 as first address, size and a code: 0 ROM, 1 Keeper RAM, 2 internal registers, 3 frame stores, 4 cell
memory, 5 line store, 6 DRAM. -/
def State.ranges (s : State) : List (Nat × Nat × Nat) :=
  [(0x0000000000, 0xC0000, 0), (0x0001000000, 0x100000, 1), (0x0010000000, 0x10000000, 2)] ++
  (upto 16).map (fun f => (0x0100000000 + f * 0x200000, 0x200000, 3)) ++
  (upto 256).map (fun c => (0x0110000000 + c * 0x40000, 0x40000, 4)) ++
  [(0x0200000000, 0x6000000, 5), (0x1000000000, s.dramBytes, 6)]

/-- Code of the range that holds all of [a, a + n), or none: an unmapped address, a run past the end of a range, or DRAM
beyond the fitted capacity (R32). -/
def State.rangeOf (s : State) (a n : Nat) : Option Nat :=
  (s.ranges.find? (fun r => decide (r.1 ≤ a) && decide (a + n ≤ r.1 + r.2.1) && decide (a < r.1 + r.2.1))).map (·.2.2)

/-- Base of DRAM region r (R492). -/
def State.regionBase (s : State) (r : Nat) : Nat := (getN s.dram.regions r (0, 0)).1

/-- Size of DRAM region r in bytes. -/
def State.regionSize (s : State) (r : Nat) : Nat := (getN s.dram.regions r (0, 0)).2

/-- Does [a, a + n) lie in DRAM region r? -/
def State.inRegion (s : State) (r a n : Nat) : Bool :=
  decide (s.regionBase r ≤ a) && decide (a + n ≤ s.regionBase r + s.regionSize r)

/- Time and position. -/

/-- PTP ticks of 4 ns whose edge lies at or before position tick t (5 ns each). -/
def ptpAt (t : Nat) : Nat := 5 * t / 4

/-- The clock advanced to the PTP ticks of position tick t (R431: each tick adds INCR). -/
def NetState.advanceTo (n : NetState) (t : Nat) : NetState :=
  { n with clock := (n.clock + (ptpAt t - n.ptpTick) * n.incr) % 2 ^ 96, ptpTick := max n.ptpTick (ptpAt t) }

/-- The state advanced to position tick t. Time does not run back. -/
def State.advance (s : State) (t : Nat) : State := { s with now := max s.now t, net := s.net.advanceTo t }

/-- The integer part of a clock value as reported: bit 63 is 1 until the clock has been set (R431). -/
def reportTime (set : Bool) (clock : Nat) : Nat :=
  if set then clock / 2 ^ 32 % 2 ^ 64 else 2 ^ 63 + clock / 2 ^ 32 % 2 ^ 63

/-- The present time (R431). -/
def State.time (s : State) : Nat := reportTime s.net.set s.net.clock

/-- The time of a line triggered at the present tick: the clock at the first PTP tick at or after the trigger (R432; the
crossing allowance is taken as 0, the one fixed value that keeps the stated 0 to 8 ns, DEDUCED, log 21). -/
def State.lineTime (s : State) : Nat :=
  reportTime s.net.set (s.net.clock + (ceilDiv (5 * s.now) 4 - s.net.ptpTick) * s.net.incr)

/-- Code of a mode (R546). -/
def Mode.code : Mode → Nat
  | .boot => 0 | .selftest => 1 | .standby => 2 | .configure => 3 | .diagnostic => 4 | .calibrate => 5
  | .learn => 6 | .makeready => 7 | .inspect => 8 | .print => 9 | .printVerify => 10 | .safeHold => 11

/-- The mode of a code, where one has it. -/
def modeOf : Nat → Option Mode
  | 0 => some .boot | 1 => some .selftest | 2 => some .standby | 3 => some .configure | 4 => some .diagnostic
  | 5 => some .calibrate | 6 => some .learn | 7 => some .makeready | 8 => some .inspect | 9 => some .print
  | 10 => some .printVerify | 11 => some .safeHold | _ => none

/-- Web modes (R22): LEARN, MAKEREADY, INSPECT, PRINT, PRINT_VERIFY. -/
def Mode.isWeb : Mode → Bool
  | .learn | .makeready | .inspect | .print | .printVerify => true
  | _ => false

/-- PRINT or PRINT_VERIFY. -/
def Mode.isPrint : Mode → Bool
  | .print | .printVerify => true
  | _ => false

/-- HIF_MODE (R381). -/
def State.hifMode (s : State) : Nat := s.sys.mode.code + b2n s.sys.transit * 16 + s.sys.target.code * 256

/-- Do line triggers run: is the mode that lines latch a web mode? -/
def State.webRunning (s : State) : Bool := s.sys.lineMode.isWeb

/-- A range inside one of a list of reservations. -/
def inBlocks (l : List (Nat × Nat)) (a n : Nat) : Bool := l.any (fun b => decide (b.1 ≤ a) && decide (a + n ≤ b.1 + b.2))

/-- Blocks that the host has reserved with REF_ALLOC and may write (R181, R486). -/
def State.refWritable (s : State) : List (Nat × Nat) :=
  (s.reg.slots.filter (fun o => o.st == .allocated || o.st == .failed)).map (fun o => (o.addr, o.len))

/-- The rule whose misuse a destination named by the host is, for what a command writes there: outside the map or past the end of its range
(R32), or outside region 11 and the blocks that the host has reserved (R427). -/
def State.destMisuse (s : State) (a n : Nat) : Option Nat :=
  if n = 0 then none
  else if (s.rangeOf a n).isNone then some 32
  else if s.inRegion 11 a n || inBlocks s.refWritable a n then none else some 427

/-- The live WPOS: floor(I / 2^16), a signed 48-bit number (R82). -/
def State.liveWpos (s : State) : Int := wpos48 (s.pos.i / 65536)

/-- floor(H / 2^16) in whole nm, as the 64-bit H holds it (R82). The high-water WPOS is its signed 48-bit value (R6); the device measures
distances from it (R9). -/
def State.highWpos (s : State) : Int := s.pos.h / 65536

/-- WPOS of the next line to trigger: floor(T / 2^16) (R6, R85). -/
def State.nextWpos (s : State) : Int := wpos48 (s.pos.t / 65536)

/-- The deck of an epoch; the empty container, every field at its default, where none is known. -/
def State.deckOf (s : State) (epoch : Nat) : Container := (lookupN epoch s.deck.epochs).getD {}

/-- The deck of the camera-bar epoch. -/
def State.camDeck (s : State) : Container := s.deckOf s.deck.epoch

/-- The container in a library slot. -/
def State.slotDeck (s : State) (k : Nat) : Option Container := (getN s.deck.slots k {}).deck

/-- The deck with the ACTIVE role. -/
def State.activeDeck (s : State) : Option Container := s.deck.active.bind s.slotDeck

/-- The deck with the STAGED role. -/
def State.stagedDeck (s : State) : Option Container := s.deck.staged.bind s.slotDeck

/-- The epoch after this one: after 0xFFFF_FFFF comes 1 (R60). -/
def nextEpoch (e : Nat) : Nat := if e ≥ 0xFFFFFFFF then 1 else e + 1

/- Free values. -/

/-- The state after one free value is drawn (log 3). -/
def State.drawn (s : State) : State := { s with free := s.free + 1 }

/- Interrupts. -/

/-- Is vector v masked in the MSI-X table? -/
def Hif.vecMasked (h : Hif) (v : Nat) : Bool := bitAt (getN h.msixTable (4 * v + 3) 0) 0

/-- Something that leaves the device. -/
def State.emit (s : State) (o : Out) : State := { s with out := s.out ++ [o] }

/-- The message of vector v falls due (R383): sent, or pending in the PBA while the vector is masked or the link is down (R380),
or nothing with MASK = 1 or MSI-X disabled. -/
def State.sendVector (s : State) (v : Nat) : State :=
  if bitAt s.hif.irqMask v || !s.hif.msixEnable then s
  else if s.hif.vecMasked v || !s.hif.linkUp then { s with hif.pba := setBit s.hif.pba v }
  else s.emit (.msix v)

/-- Status bit v of HIF_IRQ_STATUS sets; a rise from 0 to 1 sends the message (R383). -/
def State.raiseIrq (s : State) (v : Nat) : State :=
  if bitAt s.hif.irqStatus v then s
  else ({ s with hif.irqStatus := setBit s.hif.irqStatus v }).sendVector v

/- Records and rings (R284-R288). -/

/-- Device address of entry i of a ring. -/
def Ring.entry (r : Ring) (i : Nat) : Nat := r.baseHi * 2 ^ 32 + r.baseLo + 64 * i

/-- Number of entries; 0 while the ring is disabled. -/
def Ring.size (r : Ring) : Nat := if r.sizeLog2 = 0 then 0 else 2 ^ r.sizeLog2

/-- The index `k` entries after PROD. -/
def Ring.ahead (r : Ring) (k : Nat) : Nat := if r.size = 0 then 0 else (r.prod + k) % r.size

/-- Ring k of a state. -/
def State.ring (s : State) (k : Nat) : Ring := getN s.recs.rings k {}

/-- Ring k replaced by its image. -/
def State.updRing (s : State) (k : Nat) (f : Ring → Ring) : State := { s with recs.rings := updAt s.recs.rings k f }

/-- Is the entry `k` after PROD device-owned, and not taken by a record in flight? -/
def State.entryFree (s : State) (r : Ring) (k : Nat) : Bool :=
  decide (k < r.size) && bitAt (memWord s.mem (r.entry (r.ahead k))) 31

/-- Does ring k carry GAP records (R288), under the deck of the camera-bar epoch, or of the epoch whose lines the records path still takes? -/
def State.carriesGap (s : State) (k : Nat) : Bool :=
  s.camDeck.ringOf 0x02 == k || (match s.seg.epoch with
    | some e => (s.deckOf e).ringOf 0x02 == k
    | none => false)

/-- The entries of the record rings. -/
def State.ringRanges (s : State) : List (Nat × Nat) := (s.recs.rings.filter (fun r => r.size != 0)).map (fun r => (r.entry 0, 64 * r.size))

/-- Does a range overlap one of a list of blocks? -/
def overlapsBlocks (l : List (Nat × Nat)) (a n : Nat) : Bool := l.any (fun b => b.2 != 0 && decide (n ≠ 0) && decide (a < b.1 + b.2) && decide (b.1 < a + n))

/-- Does a range touch an entry with OWN = 1 among `size` entries of `step` bytes from `base` on? -/
def State.ownedBy (s : State) (step base size a n : Nat) : Bool :=
  let lo := (max a base - base) / step
  let hi := min size (ceilDiv (a + n - base) step)
  decide (base < a + n) && decide (n ≠ 0) && (natsFrom (hi - lo) lo).any (fun i => bitAt (memWord s.mem (base + step * i)) 31)

/-- Does a range touch an entry with OWN = 1 among `size` entries of 64 bytes from `base` on? -/
def State.ownedIn (s : State) (base size a n : Nat) : Bool := s.ownedBy 64 base size a n

/-- Free entries of a ring's spill queue. -/
def Ring.spillFree (r : Ring) : Nat := 4096 - r.spill.length

/-- A block that a record points to, or would have pointed to, is freed (R285, R288). -/
def RecState.freeBlock (r : RecState) : BlockRef → RecState
  | .stats k => { r with statsUsed := r.statsUsed.filter (fun p => p.1 != k) }
  | .meas a _ => { r with measUsed := r.measUsed.filter (fun p => p.1 != a) }
  | .value k => { r with measUsed := r.measUsed.filter (fun p => p.1 != k) }
  | .crop h => { r with cropHeld := r.cropHeld.filter (fun k => k != h % 65536) }

/-- Blocks freed one after the other. -/
def RecState.freeBlocks (r : RecState) : List BlockRef → RecState
  | [] => r
  | b :: bs => (r.freeBlock b).freeBlocks bs

/-- Is the record lost on ring k (R288, R386)? `typ` 0x02 is GAP, which is never lost. -/
def State.recordLost (s : State) (k typ : Nat) : Bool :=
  let r := s.ring k
  if typ = 0x02 then false
  else if r.size = 0 then true
  else if r.spill.isEmpty && s.entryFree r r.inflight.length then false
  else if s.carriesGap k then decide (r.spillFree ≤ 64)
  else decide (r.spillFree = 0)

/-- A record takes the next SEQ of ring k and is written, queued or lost (R287, R288). -/
def State.postTo (s : State) (k : Nat) (rec : Rec) : State :=
  let r := s.ring k
  let rec' := { rec with seq := r.seq }
  let seq' := (r.seq + 1) % 2 ^ 64
  if s.recordLost k rec.typ then
    let s1 := s.updRing k (fun r => { r with
      seq := seq', lost := satInc r.lost,
      lossRun := some (match r.lossRun with | none => (rec'.seq, 1) | some (f, n) => (f, satInc n)) })
    { s1 with recs := s1.recs.freeBlocks rec.blocks }
  else if r.spill.isEmpty && s.entryFree r r.inflight.length then
    s.updRing k (fun r => { r with seq := seq', inflight := r.inflight ++ [rec'], lossRun := none })
  else
    s.updRing k (fun r => { r with
      seq := seq', spill := r.spill ++ [rec'], lossRun := none,
      spillHwm := max r.spillHwm (r.spill.length + 1) })

/-- Words 0x10-0x3F of a NOTIFY record (R297). -/
def notifyWords (code arg0 arg1 wln : Nat) (wpos : Int) (time job arg2 : Nat) : List Nat :=
  [code, arg0 % 2 ^ 32] ++ lohi arg1 ++ lohi (wln % 2 ^ 48) ++ lohi (truncN 48 wpos) ++ lohi time ++ [job, arg2 % 2 ^ 32]

/-- A NOTIFY record in an epoch, for a line or (wln 0, wpos 0) for none. -/
def State.notifyIn (s : State) (epoch code arg0 arg1 arg2 wln : Nat) (wpos : Int) (time : Nat) : State :=
  s.postTo 0 { typ := 0x0A, epoch := epoch,
               words := notifyWords code arg0 arg1 wln wpos time (s.deckOf epoch).jobId arg2 }

/-- A NOTIFY record tied to no line, at the present time, in the camera-bar epoch (R286, R297). -/
def State.notify (s : State) (code arg0 arg1 arg2 : Nat) : State :=
  s.notifyIn s.deck.epoch code arg0 arg1 arg2 0 0 s.time

/-- The run of losses of ring k ends: NOTIFY RING_LOSS with the ring, the first lost SEQ and the count; on ring 0 LOST alone
reports it (R288). -/
def State.endLossRun (s : State) (k : Nat) (run : Option (Nat × Nat)) : State :=
  match run with
  | none => s
  | some (f, n) => if k = 0 then s else s.notify 0x0002 k f n

/-- A record goes to a ring; where it is not lost and ends a run of losses, RING_LOSS is issued (R288). -/
def State.postRing (s : State) (k : Nat) (rec : Rec) : State :=
  if s.recordLost k rec.typ then s.postTo k rec
  else (s.postTo k rec).endLossRun k (s.ring k).lossRun

/-- A record goes to the ring that the RECORDS section of its epoch routes it to (R284). -/
def State.post (s : State) (rec : Rec) : State := s.postRing ((s.deckOf rec.epoch).ringOf rec.typ) rec

/-- SEQ that the next record of a type takes in an epoch. -/
def State.nextSeq (s : State) (epoch typ : Nat) : Nat := (s.ring ((s.deckOf epoch).ringOf typ)).seq

/-- Bytes of a ring entry's words 1-15 (R286). -/
def Rec.tailBytes (r : Rec) : List Byte :=
  wordsBytes ([r.epoch, r.seq % 2 ^ 32, r.seq / 2 ^ 32] ++ r.words ++ List.replicate (12 - r.words.length) 0)

/-- Word 0 of a ring entry with OWN = 0 (R286). -/
def Rec.word0 (r : Rec) : Nat := r.typ * 2 ^ 24 + r.flags % 2 ^ 24

/- Fault records and occurrences (R298, R573). -/

/-- The line of a fault that concerns no line: the next line to trigger and its threshold WPOS, or 0 outside web modes
(R298). -/
def State.faultLine (s : State) : Nat × Int := if s.webRunning then (s.pos.wln, s.nextWpos) else (0, 0)

/-- A FAULT record (R298). -/
def State.faultRecord (s : State) (kind block inst code count detail : Nat) (line : Nat × Int) (arg : Nat) : State :=
  s.post { typ := 0x0B, epoch := s.deck.epoch,
           words := [inst * 2 ^ 16 + block * 2 ^ 8 + kind, code, count, detail] ++ lohi (line.1 % 2 ^ 48) ++
                    lohi (truncN 48 line.2) ++ lohi s.time ++ lohi arg }

/-- The history of a channel; a fresh one where none is kept. -/
def State.channel (s : State) (block inst : Nat) : Channel :=
  (s.fault.channels.find? (fun c => c.block == block && c.inst == inst)).getD { block := block, inst := inst }

/-- The channel's history replaced. -/
def FaultState.setChannel (f : FaultState) (c : Channel) : FaultState :=
  { f with channels := f.channels.filter (fun d => !(d.block == c.block && d.inst == c.inst)) ++ [c] }

/-- Is a channel out of service: retired, or unusable since a self-test (R581)? -/
def State.isRetired (s : State) (block inst : Nat) : Bool :=
  let c := s.channel block inst
  c.retired || c.unusable

/-- Ticks of 5 ns in a millisecond. -/
def msTicks : Nat := 200000

/-- One transient occurrence against a channel at the present tick (R573): it counts, unless the channel is out of service.
The FAULT record of KIND 1 follows R298. The Boolean says whether this occurrence is permanent; the channel is
then retired and the FAULT record of KIND `kind` posted, and the caller adds what its block does. -/
def State.occurKind (s : State) (kind block inst code detail : Nat) (line : Nat × Int) : Bool × State :=
  if s.isRetired block inst then (false, s) else
  let c := s.channel block inst
  let d := s.camDeck
  let win := d.faultWin block * msTicks
  let occ := s.now :: c.occ.filter (fun t => decide (s.now < t + win))
  if d.faultN block ≠ 0 ∧ occ.length ≥ d.faultN block then
    let s1 := { s with fault := s.fault.setChannel { c with occ := occ, retired := true, sinceRecord := 0, lastRecord := none } }
    (true, s1.faultRecord kind block inst code occ.length detail line 0)
  else
    let due := d.faultTransient && (match c.lastRecord with
      | none => true
      | some t => decide (t + msTicks ≤ s.now))
    let c' := { c with occ := occ, sinceRecord := if due then 0 else satInc c.sinceRecord,
                       lastRecord := if due then some s.now else c.lastRecord }
    let s1 := { s with fault := s.fault.setChannel c' }
    (false, if due then s1.faultRecord 1 block inst code (satInc c.sinceRecord) detail line 0 else s1)

/-- One transient occurrence against a channel that retires when it is permanent (KIND 2). -/
def State.occur (s : State) (block inst code detail : Nat) (line : Nat × Int) : Bool × State :=
  s.occurKind 2 block inst code detail line

/-- Channel of a DRAM address (R490). -/
def dramChannel (a : Nat) : Nat := Nat.xor (Nat.xor (a / 2 ^ 8) (a / 2 ^ 16)) (a / 2 ^ 24) % 8

/-- Is an address checked: in a region under ECC_MASK (R496)? -/
def State.eccChecked (s : State) (a : Nat) : Bool := (upto 12).any (fun r => bitAt s.dram.eccMask r && s.inRegion r a 1)

/-- An uncorrectable error (R497): counted, and one occurrence against its channel; a permanent one is the failure of the controller. -/
def State.dramUnc (s : State) (a : Nat) : State :=
  let c := dramChannel a
  let s1 : State := { s with dram := { s.dram with eccUnc := updAt s.dram.eccUnc c satInc } }
  let r := s1.occurKind 5 0x0C c 1 0 s1.faultLine
  if r.1 then { r.2 with sys := { r.2.sys with failed := true }, dram := { r.2.dram with failed := true } } else r.2

/-- An uncorrectable error that a reader of a device address meets: DRAM counts it where its region is checked (R496, R497). -/
def State.readUnc (s : State) (a : Nat) : State := if s.eccChecked a then s.dramUnc a else s

/-- A corrected error at a device address, in a region that is checked (R496). -/
def State.readCorr (s : State) (a : Nat) : State :=
  if s.eccChecked a then { s with dram := { s.dram with eccCorr := updAt s.dram.eccCorr (dramChannel a) satInc } } else s

/-- One transient occurrence against an essential block (R574): a permanent one is its failure (KIND 5), and SAFE_HOLD follows. -/
def State.occurEssential (s : State) (block inst code detail : Nat) (line : Nat × Int) : State :=
  let r := s.occurKind 5 block inst code detail line
  if r.1 then { r.2 with sys := { r.2.sys with failed := true } } else r.2

/-- A channel retired at once, with its FAULT record of KIND 2 (R560, R575, R579). -/
def State.retireNow (s : State) (block inst code : Nat) : State :=
  if s.isRetired block inst then s else
  ({ s with fault := s.fault.setChannel { s.channel block inst with retired := true } }).faultRecord
    2 block inst code 0 0 s.faultLine 0

/-- A channel returns to service: its history is cleared (R578) and a FAULT record of KIND 3 is posted (R298). -/
def State.returnChannel (s : State) (block inst : Nat) : State :=
  ({ s with fault := s.fault.setChannel { block := block, inst := inst } }).faultRecord 3 block inst 0 0 0 s.faultLine 0

/- Zaster commands (R391, R398-R404). -/

/-- Status codes of R614. -/
inductive Status where
  | ok | accepted | badLength | version | unknownCmd | badState | denied | deckFormat | resource | notFound | busy
  | tooLate | authFail | retired | internal
  deriving DecidableEq, Repr, Inhabited

/-- The 16-bit code of a status (R614). -/
def Status.code : Status → Nat
  | .ok => 0 | .accepted => 1 | .badLength => 2 | .version => 3 | .unknownCmd => 4 | .badState => 5 | .denied => 6
  | .deckFormat => 7 | .resource => 8 | .notFound => 9 | .busy => 10 | .tooLate => 11 | .authFail => 12
  | .retired => 13 | .internal => 14

/-- What a command answers: STATUS, DETAIL and payload. -/
structure Reply where
  status : Nat := 0
  detail : Nat := 0
  payload : List Byte := []
  deriving DecidableEq, Repr, Inhabited

/-- Status OK with a payload. -/
def Reply.ok (p : List Byte) : Reply := { payload := p }

/-- Status ACCEPTED. -/
def Reply.accepted : Reply := { status := 1 }

/-- A status with DETAIL. -/
def Reply.fail (st : Status) (detail : Nat) : Reply := { status := st.code, detail := detail }

/-- Mailbox n. -/
def State.mailbox (s : State) (n : Nat) : Mailbox := getN s.hif.mbx n {}

/-- Mailbox n replaced by its image. -/
def State.updMbx (s : State) (n : Nat) (f : Mailbox → Mailbox) : State := { s with hif.mbx := updAt s.hif.mbx n f }

/-- The first element that satisfies a test is removed. -/
def removeFirst {α : Type} (p : α → Bool) : List α → List α
  | [] => []
  | x :: r => if p x then r else x :: removeFirst p r

/-- The command's response joins its mailbox's executed requests, and the request it answers leaves the taken ones
(R390). -/
def State.respond (s : State) (code : Nat) (q : Req) (r : Reply) : State :=
  s.updMbx q.mbx (fun m => { m with
    taken := removeFirst (fun t => t.seq == q.seq && t.cmd == code) m.taken,
    executed := m.executed ++ [{ status := r.status, cmd := code, seq := q.seq, detail := r.detail,
                                 payload := r.payload, srcAddr := q.srcAddr, srcPort := q.srcPort }] })

/-- The sets of the Modes column (R399). -/
inductive ModeSet where
  | nb | op | ops | ns | nw | web | lm | prt | cfg | diag | cal | webCal | cfgWeb | cfgDiag
  deriving DecidableEq, Repr, Inhabited

/-- Is a mode in the set (R399)? -/
def ModeSet.has : ModeSet → Mode → Bool
  | .nb, m => m != .boot
  | .op, m => m != .boot && m != .selftest && m != .safeHold
  | .ops, m => m != .boot && m != .selftest && m != .safeHold && m != .standby
  | .ns, m => m != .boot && m != .selftest && m != .standby
  | .nw, m => m != .boot && m != .selftest && m != .safeHold && !m.isWeb
  | .web, m => m.isWeb
  | .lm, m => m == .learn || m == .makeready
  | .prt, m => m.isPrint
  | .cfg, m => m == .configure
  | .diag, m => m == .diagnostic
  | .cal, m => m == .calibrate
  | .webCal, m => m.isWeb || m == .calibrate
  | .cfgWeb, m => m == .configure || m.isWeb
  | .cfgDiag, m => m == .configure || m == .diagnostic

/-- Checks 5 and 6 of R391: the mode, and for MBX1 the urgent mark. A firmware error ends the command with INTERNAL, and it changes no device state
(R400). -/
def admission (s : State) (q : Req) (modes : ModeSet) (urgent : Bool) : Option Reply :=
  if !modes.has s.sys.mode then some (.fail .badState s.hifMode)
  else if q.mbx = 1 && !urgent then some (.fail .denied 0)
  else q.fwError.map (fun c => .fail .internal (c % 2 ^ 16))

/-- Does a command use DRAM (R552)? -/
def usesDram (code : Nat) : Bool :=
  code == 0x0003 || code == 0x0100 || code == 0x0101 || code == 0x0201 || code == 0x0304 || code == 0x0522 || code == 0x0B03 || code == 0x0B04

/-- An access to DRAM in STANDBY brings the controller out of self-refresh (R552). -/
def State.wakeDram (s : State) : State :=
  if s.sys.mode = .standby ∧ s.dram.selfRefresh then { s with dram := { s.dram with selfRefresh := false, awake := true } } else s

/-- A Zaster command: checks 5 and 6 of R391, then the command's own refusals, then its effect; the response joins the
mailbox (R390, R404). -/
def runCmd (code : Nat) (q : Req) (modes : ModeSet) (urgent : Bool) (refuse : Option Reply) (effect : State × Reply)
    (s : State) : Outcome :=
  match admission s q modes urgent with
  | some r => .next (s.respond code q r)
  | none =>
    match refuse with
    | some r => .next (s.respond code q r)
    | none => .next ((if usesDram code then effect.1.wakeDram else effect.1).respond code q effect.2)

/-- Is an ACCEPTED command of this code running (R402)? -/
def State.isRunning (s : State) (code : Nat) : Bool := s.keeper.running.any (fun r => r.code == code)

/-- The running command of a code. -/
def State.runningCmd (s : State) (code : Nat) : Option Running := s.keeper.running.find? (fun r => r.code == code)

/-- An ACCEPTED command starts running. -/
def State.start (s : State) (code : Nat) (q : Req) (args : List Nat) : State :=
  { s with keeper.running := s.keeper.running ++ [{ code := code, req := q, args := args }] }

/-- BUSY 0x05 while a command of this code runs (R402). -/
def busyIfRunning (s : State) (code : Nat) : Option Reply :=
  if s.isRunning code then some (.fail .busy 5) else none

/-- Next SEQ of a peer message type to a destination (R439). -/
def NetState.peerSeqOf (n : NetState) (typ addr port : Nat) : Nat :=
  ((n.peerSeq.find? (fun p => p.1 == (typ, addr, port))).map (·.2)).getD 0

/-- Tag of the device's own frames: VID and PCP with VLAN_EN = 1 (R430, R448). -/
def State.ownTag (s : State) : Option (Nat × Nat) :=
  let p := s.profile.current
  if p.b 0x8030 0 0x10 28 false then some (p.f 0x8030 0 0x10 27 16 0, p.f 0x8030 0 0x10 31 29 0) else none

/-- A frame of the device's own leaves by every port whose link is up (DEDUCED, log 49), where TX counts it; with the links down it is dropped and
DROP counts it (R440, R446). -/
def State.sendOwn (s : State) (o : Out) : State :=
  if s.fault.netUnusable then s
  else if s.net.ports.any (·.link) then
    ({ s with net := { s.net with ports := s.net.ports.map (fun (p : NetPort) => if p.link then { p with tx := satInc p.tx } else p) } }).emit o
  else { s with net := { s.net with ports := s.net.ports.map (fun (p : NetPort) => { p with drop := satInc p.drop }) } }

/-- Peer protocol version of a message to an address: the lower of 1.0 and that of the destination's latest HELLO (R443). -/
def NetState.peerVersion (n : NetState) (addr : Nat) : Nat × Nat :=
  match n.hellos.find? (fun h => h.addr == addr) with
  | some h => if h.pmajor < 1 then (h.pmajor, h.pminor) else (1, 0)
  | none => (1, 0)

/-- A peer message (R439-R443): header and payload as one datagram, SEQ per type and destination, counted in PEER_TX; with
address 0 or without an own address nothing is sent (R448, R449). -/
def State.sendPeer (s : State) (typ addr port : Nat) (payload : List Byte) : State :=
  if addr = 0 ∨ s.profile.current.f 0x8030 0 0x0C 31 0 0 = 0 ∨ s.fault.netUnusable then s else
  let seq := s.net.peerSeqOf typ addr port
  let ver := s.net.peerVersion addr
  let hdr := leBytes 4 0x52455450 ++ leBytes 4 (ver.1 * 2 ^ 24 + ver.2 * 2 ^ 16 + typ) ++ leBytes 4 seq ++ leBytes 4 payload.length ++
    leBytes 8 s.fuse.chipId ++ leBytes 8 s.time
  let n := { s.net with
    peerSeq := ((typ, addr, port), (seq + 1) % 2 ^ 32) :: s.net.peerSeq.filter (fun p => p.1 != (typ, addr, port)),
    peerTx := insertN typ (satInc ((lookupN typ s.net.peerTx).getD 0)) s.net.peerTx }
  ({ s with net := n } : State).sendOwn (.peer addr port typ (hdr ++ payload) s.ownTag)

/-- An ACCEPTED command completes (R402): it stops running and NOTIFY COMPLETE carries its status, code, request SEQ and
DETAIL; over UDP the source takes a COMPLETE message too (R394). -/
def State.complete (s : State) (r : Running) (st : Status) (detail : Nat) : State :=
  let s1 := { s with keeper.running := s.keeper.running.filter (fun x => !(x.code == r.code)) }
  let s2 := s1.notify 0x0001 (st.code * 65536 + r.code) r.req.seq detail
  if r.req.mbx = 2 then
    s2.sendPeer 0x02 r.req.srcAddr r.req.srcPort
      (leBytes 4 (st.code * 65536 + r.code) ++ leBytes 4 r.req.seq ++ leBytes 4 detail)
  else s2

/-- The running command of a code completes, if one runs. -/
def State.completeCode (s : State) (code : Nat) (st : Status) (detail : Nat) : State :=
  match s.runningCmd code with
  | none => s
  | some r => s.complete r st detail

/-- The running command of a code stops running without COMPLETE: its row names another notification (R402). -/
def State.endRunning (s : State) (code : Nat) : State :=
  { s with keeper.running := s.keeper.running.filter (fun x => !(x.code == code)) }

/-- BAD_STATE for a reason other than the mode (R401): bit 31, the reason and HIF_MODE. -/
def badState (s : State) (reason : Nat) : Reply := .fail .badState (2 ^ 31 + reason * 2 ^ 16 + s.hifMode)

/-- RESOURCE with a reason (R53, R401). -/
def resource (reason detail : Nat) : Reply := .fail .resource (reason * 2 ^ 24 + min detail 0xFFFFFF)

/- The pairing link (R454-R461). -/

/-- Widths of a message's body fields (R461); an MBX message is a sequence of words, PART 32 words and a label. -/
def vdWidths (typ : Nat) (fields : List Nat) : List Nat :=
  match typ with
  | 0x01 => [16, 8, 9, 64, 32]
  | 0x02 => [32, 17, 40]
  | 0x04 => [8, 16]
  | 0x10 => [64, 3]
  | 0x11 => [48, 48, 32, 64, 32, 32, 1]
  | 0x20 => [48, 32, 2, 16]
  | 0x21 => List.replicate 32 32 ++ [16]
  | 0x22 => [16, 48]
  | _ => fields.map (fun _ => 32)

/-- Fields packed from the least significant bit up (log 179). -/
def packFields : List (Nat × Nat) → Nat
  | [] => 0
  | (w, v) :: r => v % 2 ^ w + 2 ^ w * packFields r

/-- The bytes of a message (R461): the header word, the body, zeros up to 8-byte units, and the CRC-32 of R42 over what precedes it (log 179). -/
def vdBytes (typ seq : Nat) (fields : List Nat) : List Byte :=
  let ws := vdWidths typ fields
  let bodyLen := (sumN ws + 7) / 8
  let units := (bodyLen + 15) / 8
  let bs := leBytes 4 (seq % 2 ^ 16 + units % 256 * 2 ^ 16 + typ * 2 ^ 24) ++ leBytes (8 * units - 8) (packFields (ws.zip fields))
  bs ++ leBytes 4 (crc32 bs)

/-- Bytes as the 64-bit payloads of 66-bit blocks over lanes, lowest lane first (R450). -/
def stripe (lanes : List Nat) : Nat → Nat → List Byte → List (Nat × List Byte)
  | 0, _, _ => []
  | k + 1, i, bs => (getN lanes (i % lanes.length) 0, bs.take 8) :: stripe lanes k (i + 1) (bs.drop 8)

/-- A message on the data lanes in use to transmit (R450, R461). -/
def State.vdOut (s : State) (seq typ : Nat) (fields : List Nat) : Out :=
  let bs := vdBytes typ seq fields
  .viaduct typ fields seq (stripe (bitsSet 8 s.vd.tx) (bs.length / 8) 0 bs)

/-- The messages held for replay: the latest that fit 4 KiB (R453). -/
def trimSent : Nat → List (Nat × Nat × List Nat) → List (Nat × Nat × List Nat)
  | _, [] => []
  | room, m :: r =>
    let n := (vdBytes m.2.1 m.1 m.2.2).length
    if n ≤ room then m :: trimSent (room - n) r else []

/-- A message of the pairing link (R453, R461): it takes the next SEQ and is held for replay. -/
def State.sendVd (s : State) (typ : Nat) (fields : List Nat) : State :=
  ({ s with vd := { s.vd with
      seq := (s.vd.seq + 1) % 2 ^ 16, sent := trimSent 4096 ((s.vd.seq, typ, fields) :: s.vd.sent) } } : State).emit (s.vdOut s.vd.seq typ fields)

/-- Training of the pairing link begins, at 12.5 Gb/s (R451). -/
def State.beginTraining (s : State) : State := { s with vd := { s.vd with link := 1, tx := 0, rx := 0, trainRate := 12500 } }

/-- Is this device the primary of a JOINED pair (R454, R455)? -/
def State.leads (s : State) : Bool := s.vdRole == 1 && s.vd.pair == 2

/-- Is this device the secondary of a JOINED pair (R454, R455)? -/
def State.follows (s : State) : Bool := s.vdRole == 2 && s.vd.pair == 2

/-- REVERSE, OVERSPEED and FREERUN as POS carries them (R461). -/
def PosState.flagBits (p : PosState) : Nat := b2n p.reverse + 2 * b2n p.overspeed + 4 * b2n p.freeRun

/-- A POS message of the primary (R457). -/
def State.sendPos (s : State) : State := if s.leads then s.sendVd 0x10 [truncN 64 s.pos.h, s.pos.flagBits] else s

/-- A change of REVERSE, OVERSPEED or free-run is forwarded at once (R457). -/
def State.posChange (s : State) (before : PosState) : State := if s.pos.flagBits = before.flagBits then s else s.sendPos

/- Trestle (R363-R369). -/

/-- Does the fabric run (R363), and is Trestle usable (R374)? -/
def State.fabricRuns (s : State) : Bool :=
  s.sys.mode != .boot && s.sys.mode != .selftest && s.sys.mode != .standby && !s.fault.trestleUnusable

/-- Channel on which a producer publishes under a deck; none for 0xFF (R364, R377). -/
def Container.pubChannel (d : Container) (p : Nat) : Option Nat :=
  let c := d.le 0x0090 0 (0x010 + p) 1 0xFF
  if c < 64 then some c else none

/-- Counters of channel c replaced by their image. -/
def TrestleState.updChannel (t : TrestleState) (c : Nat) (f : ChannelCount → ChannelCount) : TrestleState :=
  { t with channels := updAt t.channels c f }

/-- Epoch under which a station acts (R34). -/
def State.epochAt (s : State) (st : Station) : Nat :=
  match s.deck.stationEpoch.find? (fun p => p.1 == st) with
  | some p => p.2
  | none => s.deck.epoch

/-- Is group g enabled for a publication in a fabric cycle (R369)? In the cycle of a change publications see the old state. -/
def TrestleState.groupOn (t : TrestleState) (cycle g : Nat) : Bool := bitAt (if cycle ≤ t.groupsCycle then t.groupsOld else t.groups) g

/-- The groups change in a fabric cycle; `byEvent` says which of them an event changed (R369). -/
def TrestleState.setGroups (t : TrestleState) (cycle groups byEvent : Nat) : TrestleState :=
  let same := t.groupsCycle == cycle
  { t with
    groups := groups, groupsCycle := cycle
    groupsOld := if same then t.groupsOld else t.groups
    groupsEvt := if same then Nat.lor t.groupsEvt byEvent else byEvent }

/-- A publication on a channel: PUBLISHED counts it; while its group is disabled it is dropped and BLOCKED counts it (R369);
else it joins the fabric in its cycle. -/
def TrestleState.publishOn (t : TrestleState) (p : Pub) : TrestleState :=
  let t1 := { t with published := insertN p.producer (satInc ((lookupN p.producer t.published).getD 0)) t.published }
  if t.groupOn p.cycle (p.channel / 8) then { t1 with bus := t1.bus ++ [p] }
  else t1.updChannel p.channel (fun c => { c with blocked := satInc c.blocked })

/-- A producer publishes with HOP 1 and its own ID as ORIGIN, at the camera-bar epoch; outside web modes TAG is 0 (R364, R366). -/
def State.publish (s : State) (producer : Nat) (tag : Int) : State :=
  if !s.fabricRuns then s else
  match s.camDeck.pubChannel producer with
  | none => s
  | some c =>
    let p : Pub := { producer := producer, channel := c, hop := 1, origin := producer, epoch := s.deck.epoch,
                     tag := if s.webRunning then wpos48 tag else 0, cycle := ptpAt s.now }
    { s with trestle := s.trestle.publishOn p }

end Sys2Proof.Machine
end

