-- ==== Sys2Proof/Machine/Markers.lean ====
section
/-! DEFINITION. The markers (R304, R305): decisions, the gate or pulse at the output, and the activation of the EVENTS section (R373). -/

namespace Sys2Proof.Machine

/-- GROUP_INIT (R377). -/
def Container.groupInit (d : Container) : Nat := d.f 0x0090 0 0x000 7 0 0xFF
/-- EV_LEN of marker m. -/
def Container.evLen (d : Container) (m : Nat) : Nat := d.f 0x0090 0 (0x300 + 8 * m) 31 0 1000000

/-- The edge of a press output as its pin shows it (R367, R608): POL 1 is active low, and a pin that is no output shows none. -/
def Container.pinEdge (p : Container) (n : Nat) (active : Bool) : List Out :=
  if p.ioOutput n then [.pinEdge n (active != p.ioPol n) (p.ioOd n)] else []

/-- The EVENTS section takes effect (R373): the groups, and what relays and pins have in progress goes. -/
def State.activateTrestle (s : State) (d : Container) : State :=
  { s with
    trestle := { s.trestle with groups := d.groupInit, groupsOld := d.groupInit, groupsEvt := 0, relays := List.replicate 16 {} }
    pio := { s.pio with outActive := List.replicate 32 false }
    out := s.out ++ ((upto 32).filter (fun n => getN s.pio.outActive n false)).flatMap (fun n => s.profile.current.pinEdge n false) }

/-- Marker m. -/
def State.marker (s : State) (m : Nat) : Marker := getN s.mark.marker m {}

/-- Marker m replaced by its image. -/
def State.updMarker (s : State) (m : Nat) (f : Marker → Marker) : State := { s with mark := { s.mark with marker := updAt s.mark.marker m f } }

/-- A decision's points reduced by Wd (R305). -/
def MarkDecision.rebase (wd : Int) (d : MarkDecision) : MarkDecision := { d with p0 := d.p0 - wd, p1 := d.p1 - wd }

/-- At the camera-bar switch line queued points are reduced by Wd together with H (R305). -/
def MarkState.rebase (k : MarkState) (wd : Int) : MarkState :=
  { k with marker := k.marker.map (fun m => { m with queue := m.queue.map (MarkDecision.rebase wd), gates := m.gates.map (MarkDecision.rebase wd) }) }

/-- Has H reached a point p + d of marker m? -/
def State.reached (s : State) (m : Nat) (p : Int) : Bool :=
  decide (wposDiff s.highWpos (p + s.profile.current.markOff m) ≥ 0)

/-- The output of a marker shows its state after a change (R304, R311): POL 1 of the MARKERS section at its station is active low. -/
def State.markShow (s pre : State) (m : Nat) : State :=
  if (s.marker m).active == (pre.marker m).active then s
  else s.emit (.markEdge m ((s.marker m).active != (s.deckOf (s.epochAt (.marker m))).markPol m))

/-- A decision acts at the output (R304): gate mode opens the gate while H has not passed its end, pulse mode starts or extends the pulse
of WIDTH × 100 ns. -/
def State.markStart (s : State) (m : Nat) (dec : MarkDecision) : State :=
  let d := s.deckOf dec.epoch
  if d.markMode m = 1 then
    if s.reached m dec.p1 then s
    else (s.updMarker m (fun k => { k with gates := k.gates ++ [dec], active := true })).markShow s m
  else
    let stop := s.now + 20 * d.markWidth m
    (s.updMarker m (fun k => { k with
      active := true
      pulseEnd := some (match k.pulseEnd with
        | some e => max e stop
        | none => stop) })).markShow s m

/-- A decision that is not marked (R305): MARK_MISSED counts, with a NOTIFY. -/
def State.markMissed (s : State) (m : Nat) (dec : MarkDecision) (why : Nat) : State :=
  (s.updMarker m (fun k => { k with missed := satInc k.missed })).notify 0x0008 m (if dec.event then 0 else dec.defectSeq) why

/-- A decision is evaluated at its commit (R305). A marker that the MARKERS section of the decision's epoch does not enable takes none
(DEDUCED, log 35). A commit in the tick at which H reaches p0 + d stands before that tick's rows and is queued (log 36). -/
def State.markDecide (s : State) (m : Nat) (dec : MarkDecision) : State :=
  if !(s.deckOf dec.epoch).markEn m then s
  else if s.reached m dec.p1 then s.markMissed m dec 1
  else if s.reached m dec.p0 then (s.updMarker m (fun k => { k with late := satInc k.late })).markStart m dec
  else if (s.marker m).queue.length ≥ 256 then s.markMissed m dec 2
  else s.updMarker m (fun k => { k with queue := k.queue ++ [dec] })

/-- Points of a decision from its WPOS range under the MARKERS section of its epoch (R304, R371); a point of the epoch before the camera
bar's current one is reduced by that swap's Wd. -/
def State.markPoints (s : State) (m epoch : Nat) (a b : Int) : Int × Int :=
  let d := s.deckOf epoch
  let wd := if epoch = s.deck.epoch then 0 else s.deck.lastWd
  (wpos48 (a - d.markLead m - wd), wpos48 (b + d.markTrail m - wd))

/-- Decisions acted on one after the other. -/
def State.markStarts (s : State) (m : Nat) : List MarkDecision → State
  | [] => s
  | d :: r => (s.markStart m d).markStarts m r

/-- MARKER_ACTIVATE (R304): the queued decisions whose p0 + d H has reached act. Without one nothing happens. -/
def execMarkerActivate (m : Nat) (s : State) : Outcome :=
  let due := (s.marker m).queue.filter (fun q => s.reached m q.p0)
  .next ((s.updMarker m (fun k => { k with queue := k.queue.filter (fun q => !s.reached m q.p0) })).markStarts m due)

/-- MARKER_DEACTIVATE (R304): H has reached p1 + d of open gates, or the pulse's width has ended; the output goes inactive with the last
of them. -/
def execMarkerDeactivate (m : Nat) (s : State) : Outcome :=
  let k := s.marker m
  let open' := k.gates.filter (fun q => !s.reached m q.p1)
  let s1 := if open'.length = k.gates.length then
      (match k.pulseEnd with
       | some e => (s.advance e).updMarker m (fun k => { k with pulseEnd := none })
       | none => s)
    else s.updMarker m (fun k => { k with gates := open' })
  .next ((s1.updMarker m (fun k => { k with active := !k.gates.isEmpty || k.pulseEnd.isSome })).markShow s1 m)

end Sys2Proof.Machine
end

