-- ==== Sys2Proof/Config.lean ====
section
/-! DEFINITION. The free values of the model: constants with no body, so that nothing can be proved of their values.
Each is applied to the counter `free` of the state (a fresh value each time) or to the operands it depends on.
Assumption log: 3 (free values), and the entry named at each constant. -/

namespace Sys2Proof

/-- A natural number that the spec leaves open; the first argument is the draw counter of the state (log 3). -/
opaque Config.freeNat : Nat → Nat

/-- A signed number that the spec leaves open (log 3). -/
opaque Config.freeInt : Nat → Int

/-- Bytes that the spec leaves open, as many as the second argument says (log 3). The length is imposed by the user. -/
opaque Config.freeByte : Nat → Nat → Byte

/-- The device's random source (R356): byte `i` of the nonce drawn at counter `n` (log 12). -/
opaque Config.nonceByte : Nat → Nat → Byte

/-- ECDSA P-256 over SHA-256 as FIPS 186-5 defines it (R565): does the signature verify under the public key over the
message? The spec names the standard and gives no arithmetic (log 13). -/
opaque Config.ecdsaVerify : List Byte → List Byte → List Byte → Bool

/-- Symbol decoding of the CODE operator (R277, R278): the spec names the symbologies and the ISO standards, not their
arithmetic. From the crop samples (rows) and the parameters it gives the symbology read (0 none), the decoded
bytes, the overall grade, the parameter grades and the parameter values (log 14). -/
opaque Config.decodeSymbol : List (List (Option Nat)) → List Nat → Nat × List Byte × Nat × List Nat × List Int

/-- CIELAB and CIEDE2000 in double precision (R275): from the number of pixels averaged, the sums of tX, tY and tZ over them and the target
(L*, a*, b*) in 1/100, to (L*, a*, b*, dE00) in 1/100 units. A host may differ by one unit; the last unit is open (log 15). -/
opaque Config.colourLab : Nat → List Nat → List Int → Int × Int × Int × Nat

/-- The peer's part of the IEEE 1588 best master clock comparison (R434: default BMCA): does the announced data set
beat the device's own? The data sets of IEEE 1588-2019 are not reproduced in the spec (log 17). -/
opaque Config.bmcaBetter : List Nat → List Nat → Bool

/-- The wire form of an Ethernet or PTP frame, ARP or ICMP reply (R428, R430, R434): the standards' frame layouts are not
reproduced in the spec; the model sends a description of the frame, and this is its byte form (log 18). -/
opaque Config.frameBytes : List Nat → List Byte

end Sys2Proof
end

