-- ==== Sys2Proof/Machine/Correct.lean ====
section
/-! DEFINITION. The pixel arithmetic of the web path: unpacking of CSI-2 payloads (R104, R105), the correction stage
(R129-R134), down-web delays and remap (R136, R139) and Span's blend (R141, R142). -/

namespace Sys2Proof.Machine

/- Sections of the camera side: PORTS (R127), CAMERA (R128), CORRECTION (R151), GEOMETRY (R152). -/

/-- Camera c wired. -/
def Container.portsEn (p : Container) (c : Nat) : Bool := p.b 0x8010 0 (0x18 + 16 * c) 31 false
/-- BOND of camera c. -/
def Container.bond (p : Container) (c : Nat) : Bool := p.b 0x8010 0 (0x18 + 16 * c) 30 false
/-- Port of camera c. -/
def Container.portOf (p : Container) (c : Nat) : Nat := p.f 0x8010 0 (0x18 + 16 * c) 20 16 c
/-- Trigger output of camera c. -/
def Container.trigOf (p : Container) (c : Nat) : Nat := p.f 0x8010 0 (0x18 + 16 * c) 12 8 c
/-- Data lanes of a camera's ports (R127). -/
def Container.laneCount (p : Container) (c : Nat) : Nat :=
  match p.f 0x8010 0 (0x18 + 16 * c) 25 24 2 with
  | 0 => 1
  | 1 => 2
  | _ => 4
/-- Physical lane of logical data lane i of camera c (LMAP, R100): 4-7 lie on the odd port of a bonded pair. -/
def Container.lmap (p : Container) (c i : Nat) : Nat := p.f 0x8010 0 (0x20 + 16 * c) (3 * i + 2) (3 * i) i
/-- Physical data lanes that camera c uses, counted from lane 0 of its port (R98, R100, R101). -/
def Container.lanesOf (p : Container) (c : Nat) : List Nat :=
  (upto (p.laneCount c * (if p.bond c then 2 else 1))).map (p.lmap c)
/-- The sensor of camera c on its control bus (R118, R127). -/
def Container.sensorTarget (p : Container) (c : Nat) : SensorTarget :=
  let bus := p.f 0x8010 0 (0x1C + 16 * c) 18 16 (c / 4)
  let i3c := p.b 0x8010 0 (0x18 + 16 * c) 7 false
  { bus := bus, addr := p.f 0x8010 0 (0x18 + 16 * c) 6 0 0, i3c := i3c,
    khz := if i3c then p.f 0x8010 0 (4 * bus) 31 16 12500 else p.f 0x8010 0 (4 * bus) 15 0 400 }
/-- Camera EN of the deck. -/
def Container.camEn (d : Container) (c : Nat) : Bool := d.b 0x0020 c 0x00 16 false
/-- LNUM. -/
def Container.lnum (d : Container) (c : Nat) : Bool := d.b 0x0020 c 0x00 15 true
/-- DT. -/
def Container.camDt (d : Container) (c : Nat) : Nat := d.f 0x0020 c 0x00 13 8 0x24
/-- VC. -/
def Container.camVc (d : Container) (c : Nat) : Nat := d.f 0x0020 c 0x00 3 0 0
/-- LINE_PX. -/
def Container.linePx (d : Container) (c : Nat) : Nat := d.f 0x0020 c 0x04 14 0 2048
/-- LN_START. -/
def Container.lnStart (d : Container) (c : Nat) : Nat := d.f 0x0020 c 0x08 31 16 1
/-- LN_INC. -/
def Container.lnInc (d : Container) (c : Nat) : Nat := d.f 0x0020 c 0x08 15 0 1
/-- LATE_LINES. -/
def Container.lateLines (d : Container) (c : Nat) : Nat := d.f 0x0020 c 0x0C 31 24 8
/-- TMODE. -/
def Container.tmode (d : Container) (c : Nat) : Nat := d.f 0x0020 c 0x10 31 30 0
/-- Trigger DELAY, ns. -/
def Container.trigDelay (d : Container) (c : Nat) : Nat := d.f 0x0020 c 0x10 19 0 0
/-- TWIDTH, ns. -/
def Container.twidth (d : Container) (c : Nat) : Nat := d.f 0x0020 c 0x14 19 0 500
/-- FWIDTH, ns. -/
def Container.fwidth (d : Container) (c : Nat) : Nat := d.f 0x0020 c 0x18 19 0 1000
/-- POL of the trigger output. -/
def Container.trigPol (d : Container) (c : Nat) : Bool := d.b 0x0020 c 0x1C 31 false
/-- LATCH. -/
def Container.latch (d : Container) (c : Nat) : Bool := d.b 0x0020 c 0x20 0 true
/-- A register write as the camera takes it: address of AW bits and value of DW bits (R128, R173). -/
def Container.busWrite (d : Container) (c : Nat) (w : Nat × Nat) : Nat × Nat :=
  (w.1 % 2 ^ (8 * 2 ^ d.f 0x0020 c 0x20 11 10 1), w.2 % 2 ^ (8 * 2 ^ d.f 0x0020 c 0x20 9 8 0))
/-- Nreg: NREG of EXPOSURE with LATCH = 1, 0 with LATCH = 0 (R119, R173). -/
def Container.nreg (d : Container) (c : Nat) : Nat := if d.latch c then d.f 0x0021 c 0x00 3 0 0 else 0
/-- Cameras that the deck enables. -/
def Container.camsOn (d : Container) : List Nat := (upto 24).filter d.camEn
/-- DLY of plane p of camera c (R152). -/
def Container.dly (d : Container) (c p : Nat) : Nat :=
  if p = 3 then d.f 0x0031 0 (0x14 + 32 * c) 9 0 0 else d.f 0x0031 0 (0x10 + 32 * c) (10 * p + 9) (10 * p) 0
/-- XSHIFT of plane p of camera c. -/
def Container.xshift (d : Container) (c p : Nat) : Int :=
  d.sf 0x0031 0 (0x18 + 32 * c + 4 * (p / 2)) (16 * (p % 2) + 15) (16 * (p % 2)) 0
/-- Largest DLY of camera c in the planes in use (R156). -/
def Container.dlyMaxCam (d : Container) (c : Nat) : Nat := maxN ((upto d.planes).map (d.dly c))
/-- DLYmax: over the enabled cameras and the planes in use (R137). -/
def Container.dlyMax (d : Container) : Nat := maxN (d.camsOn.map d.dlyMaxCam)
/-- Dbuf = ceil(DLYmax / 16) (R137). -/
def Container.dbuf (d : Container) : Nat := ceilDiv d.dlyMax 16
/-- Largest Nreg among the deck's EXPOSURE sections of enabled cameras (R58, R107). -/
def Container.nregMax (d : Container) : Nat := maxN (d.camsOn.map d.nreg)
/-- Displacement d[j] of camera c's remap table; 0 without a table (R139). -/
def Container.remap (d : Container) (c j : Nat) : Int :=
  let roff := d.f 0x0031 0 (0x20 + 32 * c) 31 0 0xFFFFFFFF
  if roff = 0xFFFFFFFF then 0 else d.leS 0x0031 0 (0x310 + roff + 2 * j) 2 0
/-- Camera at position k, X0, NOUT, SEAM, RAMP (R153). -/
def Container.camAt (d : Container) (k : Nat) : Nat := d.f 0x0032 0 (0x20 + 16 * k) 28 24 k
/-- X0 of position k. -/
def Container.x0At (d : Container) (k : Nat) : Nat := d.f 0x0032 0 (0x20 + 16 * k) 16 0 0
/-- NOUT of position k. -/
def Container.noutAt (d : Container) (k : Nat) : Nat := d.f 0x0032 0 (0x24 + 16 * k) 14 0 2048
/-- SEAM of position k. -/
def Container.seamAt (d : Container) (k : Nat) : Nat := d.f 0x0032 0 (0x28 + 16 * k) 16 0 0
/-- RAMP of position k. -/
def Container.rampAt (d : Container) (k : Nat) : Nat := d.f 0x0032 0 (0x2C + 16 * k) 8 0 0

/- Unpacking (R104, R105). -/

/-- Bits per pixel of a data type; 0 for one outside the table of R104. -/
def dtBits (dt : Nat) : Nat :=
  if dt = 0x2A then 8 else if dt = 0x2B then 10 else if dt = 0x2C then 12 else if dt = 0x24 then 24
  else if dt = 0x30 ∨ dt = 0x34 then 32 else if dt = 0x31 ∨ dt = 0x35 then 40 else if dt = 0x32 ∨ dt = 0x36 then 48 else 0

/-- Byte `i` of a payload as a number. -/
def byteN (bs : List Byte) (i : Nat) : Nat := (bs.getD i 0).toNat

/-- Monochrome sample of pixel x at its own width, in the CSI-2 packing of RAW8, RAW10 and RAW12 (PRESUMED from the CSI-2
standard, log 23). -/
def rawSample (dt : Nat) (bs : List Byte) (x : Nat) : Nat :=
  if dt = 0x2A then byteN bs x
  else if dt = 0x2B then
    byteN bs (5 * (x / 4) + x % 4) * 4 + fld (byteN bs (5 * (x / 4) + 4)) (2 * (x % 4) + 1) (2 * (x % 4))
  else byteN bs (3 * (x / 2) + x % 2) * 16 + fld (byteN bs (3 * (x / 2) + 2)) (4 * (x % 2) + 3) (4 * (x % 2))

/-- Sample i (0-3, in the order of the type) of pixel x of a four-plane type (R105). -/
def quadSample (bits : Nat) (bs : List Byte) (x i : Nat) : Nat :=
  if bits = 8 then byteN bs (4 * x + i)
  else if bits = 10 then byteN bs (5 * x + i) * 4 + fld (byteN bs (5 * x + 4)) (2 * i + 1) (2 * i)
  else byteN bs (6 * x + i) * 16 + fld (byteN bs (6 * x + 4 + i / 2)) (4 * (i % 2) + 3) (4 * (i % 2))

/-- The 12-bit sample s × 2^(12 − b) of plane p of pixel x (R104). RGB888 packs B, G, R in ascending bytes (PRESUMED, log 23). -/
def sample12 (dt : Nat) (bs : List Byte) (x p : Nat) : Nat :=
  if dt = 0x2A ∨ dt = 0x2B ∨ dt = 0x2C then
    if p = 3 then 0 else rawSample dt bs x * 2 ^ (12 - dtBits dt)
  else if dt = 0x24 then if p = 3 then 0 else byteN bs (3 * x + (2 - p)) * 16
  else
    let b := dtBits dt / 4
    let i := if dt ≥ 0x34 then (if p = 3 then 0 else p + 1) else p
    quadSample b bs x i * 2 ^ (12 - b)

/-- The planes of a camera line's payload: `n` pixels, `planes` planes. -/
def unpackLine (dt planes n : Nat) (bs : List Byte) : List (List Nat) :=
  (upto planes).map (fun p => (upto n).map (fun x => sample12 dt bs x p))

/- Correction (R130-R133). Table words of a port pixel are four numbers, one per plane (R151). -/

/-- clamp to 0-4,095 (R129). -/
def clamp12 (v : Int) : Nat := (clampI 0 4095 v).toNat

/-- Dark subtraction and gain of one sample (R130). -/
def darkGain (s dark gain k : Nat) (boff : Int) : Nat :=
  let a : Int := (s : Int) - dark - boff
  let g := min 0xFFFF ((gain * k + 2048) / 4096)
  clamp12 ((a * g + 2048) / 4096)

/-- The nearest pixel with DP clear among the `n` next ones of a list of (DP, value). -/
def nearestGood : Nat → List (Bool × Nat) → Option Nat
  | 0, _ => none
  | _ + 1, [] => none
  | n + 1, (dp, v) :: r => if dp then nearestGood n r else some v

/-- Substitution of one plane (R131): `left` holds the pixels already passed, nearest first. The second result counts pixels
that keep their own value for want of a neighbour. -/
def substitute (reach : Nat) : List (Bool × Nat) → List (Bool × Nat) → List Nat × Nat
  | _, [] => ([], 0)
  | left, (dp, v) :: r =>
    let (rest, kept) := substitute reach ((dp, v) :: left) r
    if !dp then (v :: rest, kept)
    else match nearestGood reach left, nearestGood reach r with
      | some a, some b => ((a + b + 1) / 2 :: rest, kept)
      | some a, none => (a :: rest, kept)
      | none, some b => (b :: rest, kept)
      | none, none => (v :: rest, kept + 1)

/-- Colour matrix of one pixel (R132): rows of M and OFF; the clamp takes the shifted value (DEDUCED, log 24). -/
def matrixRow (m0 m1 m2 off : Int) (c0 c1 c2 : Nat) : Nat :=
  clamp12 ((m0 * c0 + m1 * c1 + m2 * c2 + off * 4096 + 2048) / 4096)

/-- M[i][j] of camera c (R151): nine signed values packed two to a word row by row, with M22 alone. -/
def Container.matM (d : Container) (c i j : Nat) : Int :=
  let n := 3 * i + j
  d.sf 0x0030 0 (0x10 + 64 * c + 0x0C + 4 * (n / 2)) (16 * (n % 2) + 15) (16 * (n % 2)) (if i = j then 0x1000 else 0)

/-- OFF[i] of camera c. -/
def Container.matOff (d : Container) (c i : Nat) : Int :=
  d.sf 0x0030 0 (0x10 + 64 * c + 0x20 + 4 * (i / 2)) (16 * (i % 2) + 15) (16 * (i % 2)) 0

/-- LUT output of plane p (R133). -/
def Container.lutOut (d : Container) (c p v : Nat) : Nat :=
  let set := d.f 0x0030 0 (0x10 + 64 * c) 7 0 0xFF
  if set = 0xFF then v else d.le 0x0030 0 (0x610 + 0x8000 * set + 0x2000 * p + 2 * v) 2 v % 4096

/-- Table words of the four planes of a port pixel (R135): identity, from the deck, or the port's calibration table. `half` is 1
for the odd port of a bonded camera. -/
def tableWords (d : Container) (calTable : List (List Nat)) (c half x : Nat) : List Nat :=
  let ident := [0x10000000, 0x10000000, 0x10000000, 0x10000000]
  let src := if half = 1 then d.f 0x0030 0 (0x10 + 64 * c) 29 28 2 else d.f 0x0030 0 (0x10 + 64 * c) 31 30 2
  if src = 1 then
    let base := 0x610 + 0x8000 * d.f 0x0030 0 0 3 0 0 + d.f 0x0030 0 (0x14 + 64 * c + 4 * half) 31 0 0 + 16 * x
    (upto 4).map (fun p => d.le 0x0030 0 (base + 4 * p) 4 0x10000000)
  else if src = 2 then calTable.getD x ident
  else ident

/-- Is a defective pixel marked: DP of the plane-0 word (R151)? -/
def wordsDp (ws : List Nat) : Bool := bitAt (ws.getD 0 0) 15

/-- Corrected planes of one port's half line, before matrix and LUT, with the count of DPKEEP (R130, R131). -/
def correctHalf (reach planes : Nat) (k : List Nat) (boff : List Int) (words : List (List Nat)) (raw : List (List Nat)) :
    List (List Nat) × Nat :=
  let out := (upto planes).map (fun p =>
    let kp := k.getD p 4096
    let bp := boff.getD p 0
    substitute reach [] (List.zipWith (fun ws s =>
      (wordsDp ws, darkGain s (ws.getD p 0x10000000 % 4096) (ws.getD p 0x10000000 / 65536) kp bp)) words (raw.getD p [])))
  (out.map (·.1), (out.getD 0 ([], 0)).2)

/-- A whole camera line through the correction stage of its port or ports (R129, R134), under the deck of the web line that it
feeds, with the DPKEEP count of each port. `cal` gives the calibration tables by port. -/
def correctLine (d p : Container) (cal : List (List (List Nat))) (c : Nat) (l : CamLine) : List (List Nat) × Nat × Nat :=
  let n := d.linePx c
  let planes := d.planes
  let reach := d.f 0x0030 0 (0x10 + 64 * c) 19 16 4
  let port := p.portOf c
  let part := fun (half lo cnt : Nat) =>
    correctHalf reach planes l.k l.boff ((upto cnt).map (tableWords d (getN cal (port + half) []) c half))
      (l.raw.map (fun r => (r.drop lo).take cnt))
  let (pl, kept, keptOdd) :=
    if p.bond c then
      let a := part 0 0 (n / 2)
      let b := part 1 (n / 2) (n - n / 2)
      (List.zipWith (· ++ ·) a.1 b.1, a.2, b.2)
    else let a := part 0 0 n; (a.1, a.2, 0)
  let c0 := pl.getD 0 []
  let c1 := pl.getD 1 []
  let c2 := pl.getD 2 []
  let mats := (upto 3).map (fun i =>
    (upto n).map (fun x => matrixRow (d.matM c i 0) (d.matM c i 1) (d.matM c i 2) (d.matOff c i)
      (c0.getD x 0) (c1.getD x 0) (c2.getD x 0)))
  let all := mats ++ (if planes = 4 then [pl.getD 3 []] else [])
  ((upto planes).map (fun q => (getN all q []).map (d.lutOut c q)), kept, keptOdd)

/- Geometry (R136, R139). -/

/-- The down-web step (R136): lines n - q and n - q - 1 weighted by r. -/
def downWeb (r a b : Nat) : Nat := if r = 0 then a else ((16 - r) * a + r * b + 8) / 16

/-- Source position of output pixel j in 1/64 px, clamped, and whether the clamp acted (R139). -/
def remapPos (px j : Nat) (disp xshift : Int) : Nat × Bool :=
  let u : Int := 64 * (j : Int) + disp + xshift
  let v := clampI 0 (64 * ((px : Int) - 1)) u
  (v.toNat, decide (u ≠ v))

/-- The remap of one plane (R139). -/
def remapAt (l : List Nat) (u : Nat) : Nat :=
  let i := u / 64
  let f := u % 64
  if f = 0 then l.getD i 0 else ((64 - f) * l.getD i 0 + f * l.getD (i + 1) 0 + 32) / 64

/- Span (R141, R142). -/

/-- Ramp weight of the right position at ramp pixel t (R141). -/
def rampWeight (t ramp : Nat) : Nat := ((2 * t + 1) * 128) / ramp

/-- The blend of one ramp pixel (R141). -/
def rampBlend (t ramp a b : Nat) : Nat := ((256 - rampWeight t ramp) * a + rampWeight t ramp * b + 128) / 256

/-- Order of causes at a pixel that two positions leave VOID (R142): RETIRED, RESYNC, OVERSPEED, VOID. -/
def firstCause (a b : Nat) : Nat :=
  if a = 6 ∨ b = 6 then 6 else if a = 2 ∨ b = 2 then 2 else if a = 3 ∨ b = 3 then 3 else 1

/-- Position whose span, and no smaller one, holds stitched pixel x: the lowest k with X0 ≤ x < X0 + NOUT. -/
def leftPos (d : Container) (x : Nat) : Option Nat :=
  (upto d.ncam).find? (fun k => decide (d.x0At k ≤ x) && decide (x < d.x0At k + d.noutAt k))

/-- Does position k + 1 also hold pixel x? -/
def inNext (d : Container) (k x : Nat) : Bool :=
  decide (k + 1 < d.ncam) && decide (d.x0At (k + 1) ≤ x) && decide (x < d.x0At (k + 1) + d.noutAt (k + 1))

/-- The part of a position. -/
def spanOf (parts : List CamSpan) (k : Nat) : CamSpan := (parts.find? (fun q => q.pos == k)).getD { pos := k, void := some 1 }

/-- Value of plane p at stitched pixel x, or the cause that voids it (R141, R142). -/
def spanPixel (d : Container) (parts : List CamSpan) (p x : Nat) : Except Nat Nat :=
  match leftPos d x with
  | none => .error 1
  | some k =>
    let a := spanOf parts k
    let va := (getN a.planes p []).getD (x - d.x0At k) 0
    if inNext d k x then
      let b := spanOf parts (k + 1)
      let vb := (getN b.planes p []).getD (x - d.x0At (k + 1)) 0
      match a.void, b.void with
      | some ca, some cb => .error (firstCause ca cb)
      | some _, none => .ok vb
      | none, some _ => .ok va
      | none, none =>
        let ramp := d.rampAt k
        let lo := d.seamAt k - ramp / 2
        if x < lo then .ok va
        else if x < lo + ramp then .ok (rampBlend (x - lo) ramp va vb)
        else .ok vb
    else match a.void with
      | some ca => .error ca
      | none => .ok va

/-- Maximal runs of equal cause among per-pixel causes (R142, R143), counted from pixel x. -/
def causeRuns : Nat → List (Option Nat) → List Interval
  | _, [] => []
  | x, none :: r => causeRuns (x + 1) r
  | x, some c :: r =>
    match causeRuns (x + 1) r with
    | iv :: rest => if iv.x0 = x + 1 ∧ iv.cause = c then { iv with x0 := x } :: rest else { x0 := x, x1 := x, cause := c } :: iv :: rest
    | [] => [{ x0 := x, x1 := x, cause := c }]

/-- Does a pixel lie in the range of position k or k + 1, or in their overlap (R142, R148)? -/
def inSeam (d : Container) (k x : Nat) : Bool :=
  leftPos d x == some k || (leftPos d x == some (k + 1) && !inNext d (k + 1) x)

/-- As `spanPixel`, after an uncorrectable error in the overlap buffer of a seam: VOID over both ranges and the overlap (R148). -/
def seamPixel (d : Container) (parts : List CamSpan) (seam : Option Nat) (p x : Nat) : Except Nat Nat :=
  if seam.any (fun k => inSeam d k x) then .error 1 else spanPixel d parts p x

/-- The cause of each stitched pixel; VOID is the same for every plane. -/
def spanCauses (d : Container) (parts : List CamSpan) (seam : Option Nat) : List (Option Nat) :=
  (upto d.width).map (fun x => match seamPixel d parts seam 0 x with
    | .error c => some c
    | .ok _ => none)

/-- PORT of a VOID interval (R293): the port of the one position whose own range it is, else 0xFF. -/
def intervalPort (d p : Container) (parts : List CamSpan) (seam : Option Nat) (iv : Interval) : Nat :=
  if seam.any (fun k => inSeam d k iv.x0 || inSeam d k iv.x1) then 0xFF else
  match (upto d.ncam).filter (fun k => (spanOf parts k).void.isSome && decide (d.x0At k ≤ iv.x1) &&
      decide (iv.x0 < d.x0At k + d.noutAt k)) with
  | [k] => p.portOf (d.camAt k)
  | _ => 0xFF

/-- The planes and VOID intervals of a web line (R141-R143, R148). -/
def spanLine (d p : Container) (parts : List CamSpan) (seam : Option Nat := none) : List (List Nat) × List Interval :=
  ((upto d.planes).map (fun q => (upto d.width).map (fun x => match seamPixel d parts seam q x with
      | .ok v => v
      | .error _ => 0)),
   (causeRuns 0 (spanCauses d parts seam)).map (fun iv => { iv with port := intervalPort d p parts seam iv }))

/-- Seams at which one side of the overlap is VOID and the other is not (R142). -/
def fallbackSeams (d : Container) (parts : List CamSpan) : List Nat :=
  (upto (d.ncam - 1)).filter (fun k => decide (d.x0At (k + 1) < d.x0At k + d.noutAt k) &&
    (spanOf parts k).void.isSome != (spanOf parts (k + 1)).void.isSome)

end Sys2Proof.Machine
end

