-- ==== Sys2Proof/Machine/Position.lean ====
section
/-! DEFINITION. The position block's arithmetic (R69-R94): quadrature, tooth references, serial words, C, I, H and T, the
source in service. Functions of the block's own state; the commands that use them are in PositionCmds. -/

namespace Sys2Proof.Machine

/-- Stall interval in ticks (R83). -/
def Container.stallTicks (d : Container) : Nat := d.stallUs * 200

/-- I after the stepless ticks up to and including tick t (R83), in closed form: v acts on the ticks that lie within the stall
interval after the last forward step, and I never runs more than one step ahead of C. -/
def PosState.iAt (p : PosState) (d : Container) (t : Nat) : Int :=
  let live := match p.lastForward with
    | none => 0
    | some f => min (t - p.upTo) (f + d.stallTicks - p.upTo)
  if d.interp then min (p.i + live * p.v) (p.c + p.slast) else p.c

/-- v after the stepless ticks up to and including tick t (R83): 0 once the stall interval has passed. -/
def PosState.vAt (p : PosState) (d : Container) (t : Nat) : Int :=
  match p.lastForward with
  | none => 0
  | some f => if f + d.stallTicks < t then 0 else p.v

/-- C, I and H over the stepless ticks up to and including tick t (R83): H follows I. The values before tick t are kept, for a step of
that tick that is given later. -/
def PosState.idleTo (p : PosState) (d : Container) (t : Nat) : PosState :=
  if t ≤ p.upTo then p else
  let i := p.iAt d t
  { p with
    i := i, h := max p.h i, v := p.vAt d t, upTo := t
    before := if t - 1 ≤ p.upTo then (p.i, p.h, p.v) else (p.iAt d (t - 1), max p.h (p.iAt d (t - 1)), p.vAt d (t - 1)) }

/-- The quantities before the update of tick t (R83): each tick is updated once, so a step that is given after tick t was evaluated
without one starts from the values before that evaluation. -/
def PosState.beforeTick (p : PosState) (d : Container) (t : Nat) : PosState :=
  if p.upTo < t then p.idleTo d (t - 1) else { p with i := p.before.1, h := p.before.2.1, v := p.before.2.2 }

/-- One step of `s` (2^-16 nm) at tick t (R83). -/
def PosState.stepAt (p0 : PosState) (d : Container) (s : Int) (t : Nat) : PosState :=
  let p := p0.beforeTick d t
  let c := p.c + s
  if s > 0 then
    let v := match p.lastForward with
      | none => 0
      | some f => if p.prevForward && decide (t - f ≤ d.stallTicks) then s / ((t - f : Nat) : Int) else 0
    let i0 := max p.i c
    let i := if d.interp then min (i0 + v) (c + s) else c
    { p with c := c, v := v, slast := s, i := i, h := max p.h i, lastForward := some t, prevForward := true, upTo := max p.upTo t, before := (i, max p.h i, v) }
  else
    let i := if d.interp then min p.i (c + p.slast) else c
    { p with c := c, v := 0, i := i, h := max p.h i, prevForward := false, upTo := max p.upTo t, before := (i, max p.h i, 0) }

/-- The digital filter of one input (R69): its level, and how many consecutive samples have differed from it. -/
structure Filter where
  level : Bool := false
  run : Nat := 0
  deriving DecidableEq, Repr, Inhabited

/-- One sample through the filter (R69): the sampled level becomes the filtered one with the (N + 1)-th consecutive equal sample. -/
def Filter.sample (n : Nat) (f : Filter) (raw : Bool) : Filter :=
  if raw = f.level then { f with run := 0 }
  else if f.run ≥ n then { level := raw, run := 0 } else { f with run := f.run + 1 }

/-- Can the filter bring a change at tick t when its latest one was at tick `last` (R69, R72)? The level that the latest change brought
and the one that returns each need N + 1 samples, so two changes of a signal lie at least N + 1 ticks apart: a pulse that returns
sooner never leaves the filter. (The law that says so of `Filter.sample` is filter_changes_apart.) -/
def filterPasses (n : Nat) (last : Option Nat) (t : Nat) : Bool :=
  match last with
  | none => true
  | some l => decide (l + n + 1 ≤ t)

/-- Can a rising edge leave the filter at tick t? A falling edge lies between two of them (R69). -/
def risePasses (n : Nat) (last : Option Nat) (t : Nat) : Bool := filterPasses (2 * n + 1) last t

/-- Count of a quadrature change from (a, b) to (a', b') (R70): forward when A leads B. `none` where both changed (R71). -/
def quadCount (a b a' b' : Bool) : Option Int :=
  if a = a' ∧ b = b' then some 0
  else if a ≠ a' ∧ b ≠ b' then none
  else if a ≠ a' then (if a' ≠ b then some 1 else some (-1))
  else (if a = b' then some 1 else some (-1))

/-- Gray code to binary over n bits, from the top bit. -/
def grayToBin : Nat → Nat → Nat
  | 0, g => g
  | k + 1, g => Nat.xor g (grayToBin k (g / 2))

/-- One bit, most significant first, into the BiSS-C CRC register, polynomial x^6 + x + 1 (R80). -/
def bissBit (c : Nat) (b : Bool) : Nat :=
  let top := bitAt c 5 != b
  let sh := (c * 2) % 64
  if top then Nat.xor sh 0x03 else sh

/-- Bits of a number, most significant of n first, into the CRC register. -/
def bissFold : Nat → Nat → Nat → Nat
  | 0, _, c => c
  | n + 1, w, c => bissFold n w (bissBit c (bitAt w n))

/-- The six CRC bits that a BiSS-C encoder transmits: the inverted remainder over the position bits, nE and nW (R80). -/
def bissCrc (bits pos : Nat) (nE nW : Bool) : Nat :=
  Nat.xor (bissBit (bissBit (bissFold bits pos 0) nE) nW) 0x3F

/-- The step of a serial encoder: the difference modulo 2^BITS as a signed number (R81). -/
def serialDelta (bits new old : Nat) : Int := sext bits (truncN bits ((new : Int) - old))

/-- Is edge interval t_k a reference (R74)? Mode 1 missing with M missing teeth, mode 2 extra. -/
def isReference (mode m tk tp : Nat) : Bool :=
  if mode = 1 then decide (2 * tk ≥ (2 * m + 1) * tp)
  else if mode = 2 then decide (4 * tk ≤ 3 * tp)
  else false

/-- Expected edges between two references (R75). -/
def expectedEdges (mode teeth m : Nat) : Nat := if mode = 1 then teeth - m else teeth + 1

/-- Is an input a source of position: ENC0, ENC1, SENC0, SENC1 are sources 0-3 and inputs 0, 1, 4, 5 (R97, R574). -/
def sourceInput (src : Nat) : Nat := if src ≤ 1 then src else src + 2

/-- The backlog b: thresholds at or below H that have not fired (R89). -/
def PosState.backlog (p : PosState) (pitch : Nat) : Nat :=
  if p.h < p.t ∨ pitch = 0 then 0 else ((p.h - p.t) / pitch).toNat + 1

/-- Pmin in ticks (R85). -/
def Container.pmin (d : Container) : Nat := ceilDiv 200000000 d.maxLineRate

/-- Does R85 allow a normal trigger at tick t? -/
def PosState.mayFire (p : PosState) (d : Container) (t : Nat) : Bool :=
  (if p.strictStart then decide (p.h > p.t) else decide (p.h ≥ p.t)) &&
  (match p.lastTrig with
   | none => true
   | some l => decide (l + d.pmin ≤ t))

/-- ROFF at a line: the distance from the label that took effect last, or all ones before the first (R11). Where more than 2^32 − 1 nm lie
since that label, the spec states no value: the distance is cut to its low 32 bits (DESIGN CHOICE, log 139). -/
def PosState.roffAt (p : PosState) (wpos : Int) : Nat :=
  match p.curLabel with
  | none => 0xFFFFFFFF
  | some l => truncN 32 (wpos - l)

/-- The labels that a line at `wpos` reaches leave the queue: RIDX counts them, the last becomes current (R77). -/
def takeLabels (wpos : Int) : List Int → Nat → Option Int → List Int × Nat × Option Int
  | [], r, c => ([], r, c)
  | l :: q, r, c => if wposDiff wpos l ≥ 0 then takeLabels wpos q ((r + 1) % 2 ^ 32) (some l) else (l :: q, r, c)

/-- Position after a line took its labels. -/
def PosState.reachLabels (p : PosState) (wpos : Int) : PosState :=
  let x := takeLabels wpos p.refQueue p.ridx p.curLabel
  { p with refQueue := x.1, ridx := x.2.1, curLabel := x.2.2 }

/-- The label that takes effect at a line at `wpos`, if one does. -/
def PosState.labelAt (p : PosState) (wpos : Int) : Option Int :=
  if (p.reachLabels wpos).ridx = p.ridx then none else (p.reachLabels wpos).curLabel

/-- A label enters the queue (R77); its distance from the label before it is the measured length of that label's repeat (R187). -/
def PosState.pushLabel (p : PosState) (label : Int) : PosState :=
  let q : PosState := { p with refQueue := p.refQueue ++ [label] }
  match (match p.refQueue.getLast? with
    | some l => some l
    | none => p.curLabel) with
  | none => q
  | some l => { q with
      repeatNm := some (wposDiff label l),
      repeatLens := (((p.ridx + p.refQueue.length) % 2 ^ 32, wposDiff label l) :: eraseN ((p.ridx + p.refQueue.length) % 2 ^ 32) p.repeatLens).take 80 }

/-- Entry into a web mode (R84, R86): C, I, H and T at 0, the next line is WLN 0 and waits for H > 0, references start again. -/
def PosState.enterWeb (p : PosState) (src : Option Nat) : PosState :=
  { p with
    c := 0, i := 0, h := 0, t := 0, v := 0, slast := 0, lastForward := none, prevForward := false,
    inService := src, freeRun := src.isNone, wln := 0, lastTrig := none, period := none, trigCount := 0, strictStart := true,
    reverse := false, settle := 0, overspeed := false, refQueue := [], ridx := 0, curLabel := none,
    repeatNm := none, repeatOld := none, repeatLens := [], revFirst := false, before := (0, 0, 0), tth := p.tth.map (fun h => { h with haveRef := false, edges := 0, lastLabel := none }) }

/-- Tooth trains start afresh: the first reference after entry into a mode is taken without a count check (R75). -/
def PosState.teethAfresh (p : PosState) : PosState :=
  { p with tth := p.tth.map (fun h => { h with haveRef := false, edges := 0 }) }

/-- Tooth trains stop (R78): the edges before the pause time none after it (DEDUCED, log 140). -/
def PosState.teethIdle (p : PosState) : PosState :=
  { p with tth := p.tth.map (fun h => { h with lastEdge := none, lastInterval := none }) }

/-- The camera-bar switch line rebases position (R87 steps 1 and 2): Wd = floor(T / 2^16) leaves C, I, H, T and every label. -/
def PosState.rebase (p : PosState) (wd : Int) : PosState :=
  { p with
    repeatNm := none, repeatOld := p.repeatNm, trigCount := 0, period := none, c := p.c - wd * 65536, i := p.i - wd * 65536, h := p.h - wd * 65536, t := p.t - wd * 65536,
    before := (p.before.1 - wd * 65536, p.before.2.1 - wd * 65536, p.before.2.2),
    refQueue := p.refQueue.map (· - wd), curLabel := p.curLabel.map (· - wd),
    tth := p.tth.map (fun h => { h with lastLabel := h.lastLabel.map (· - wd) }) }

/-- Free-run starts (R93): the period is the one between the last two triggers of the epoch, none with fewer than two. -/
def PosState.startFreeRun (p : PosState) : PosState := { p with inService := none, freeRun := true, v := 0 }

/-- A source takes service (R84, R93): position goes on from the present values. -/
def PosState.serve (p : PosState) (src : Nat) : PosState :=
  { p with inService := some src, freeRun := false, v := if p.freeRun then 0 else p.v, prevForward := if p.freeRun then false else p.prevForward }

/-- WPOS of the next line, floor(T / 2^16) as a signed 48-bit number (R6, R9, R85). -/
def PosState.nextWpos (p : PosState) : Int := wpos48 (p.t / 65536)

/-- The OVERSPEED flag follows the backlog (R89). -/
def PosState.noteBacklog (p : PosState) (pitch : Nat) : PosState := { p with overspeed := decide (p.backlog pitch > 1) }

/-- Free-run sets C, I and H to the threshold of its line, with v = 0 (R93); the deficit is then 0, so REVERSE clears (R91). -/
def PosState.toThreshold (p : PosState) (t : Nat) : PosState :=
  { p with c := p.t, i := p.t, h := p.t, v := 0, upTo := max p.upTo t, before := (p.t, p.t, 0), reverse := false }

/-- The line slot of the next line, before its trigger effects (R85, R77, R91). `trig` is false for a line issued without a
camera trigger (R89). -/
def PosState.nextSlot (p : PosState) (epoch time tick : Nat) (mode : Mode) (overspeed : Bool) : LineSlot :=
  let wpos := p.nextWpos
  let q := p.reachLabels wpos
  { wln := p.wln, wpos := wpos, epoch := epoch, time := time, tick := tick, ridx := q.ridx, roff := q.roffAt wpos,
    mode := mode, overspeed := overspeed, reverse := decide (p.settle > 0), revFirst := p.revFirst, posLost := p.freeRun,
    refLabel := p.labelAt wpos }

/-- The block after the next line fires: T advances by PITCH, WLN by one, the REVERSE gap by one line, and a trigger updates
the spacing (R85, R91, R93). -/
def PosState.fired (p : PosState) (pitch tick : Nat) (overspeed : Bool) : PosState :=
  let q := p.reachLabels p.nextWpos
  let q1 := { q with t := p.t + pitch, wln := (p.wln + 1) % 2 ^ 48, strictStart := false, revFirst := false, settle := p.settle - 1 }
  if overspeed then q1
  else { q1 with
    lastTrig := some tick, trigCount := min 2 (p.trigCount + 1),
    period := match p.lastTrig with
      | none => none
      | some l => if p.trigCount = 0 then none else some (max 1 (tick - l)) }

end Sys2Proof.Machine
end

