-- ==== Sys2Proof/Machine/Intake.lean ====
section
/-! DEFINITION. Camera intake (R98-R126): strips, frames, the placement of packets as camera lines, deadlines, VOID lines,
port faults and retirement. -/

namespace Sys2Proof.Machine

/-- Camera c. -/
def State.cam (s : State) (c : Nat) : Camera := getN s.intake.cam c {}

/-- Camera c replaced by its image. -/
def State.updCam (s : State) (c : Nat) (f : Camera → Camera) : State := { s with intake.cam := updAt s.intake.cam c f }

/-- A function applied for each number of a list in turn. -/
def forEach (f : Nat → State → State) : List Nat → State → State
  | [], s => s
  | c :: r, s => forEach f r (f c s)

/-- The camera whose stream a port receives: the enabled camera of the profile with that PORT (R123). -/
def State.camOfPort (s : State) (port : Nat) : Option Nat :=
  (upto 24).find? (fun c => s.profile.current.portsEn c && s.profile.current.portOf c == port)

/-- The port of a camera. -/
def State.portOf (s : State) (c : Nat) : Nat := s.profile.current.portOf c

/-- Do the strip rules apply: a web mode or CALIBRATE (R114)? -/
def State.stripsRun (s : State) : Bool := s.sys.lineMode.isWeb || s.sys.lineMode == .calibrate

/-- A strip by its id. -/
def State.strip (s : State) (id : Nat) : Option Strip := s.intake.strips.find? (fun p => p.id == id)

/-- A strip replaced by its image. -/
def State.updStrip (s : State) (id : Nat) (f : Strip → Strip) : State :=
  { s with intake.strips := s.intake.strips.map (fun p => if p.id = id then f p else p) }

/-- The camera line with a serial, as far as the port has it. -/
def Camera.lineAt (m : Camera) (ser : Nat) : Option CamLine := m.lines.find? (fun l => l.ser == ser)

/-- A counter set of a camera replaced by its image. -/
def Camera.tally (m : Camera) (f : PortCount → PortCount) : Camera := { m with count := f m.count }

/-- The settings of a camera at a line (R129, R156): those of the latest change at or before it. -/
def Camera.setAt (m : Camera) (ser : Nat) : SetAt := (m.setLog.find? (fun x => decide (x.ser ≤ ser))).getD {}

/-- A camera line becomes VOID with a cause, unless the port has it already (R109-R113); VOIDLINES counts it. -/
def Camera.voidLine (m : Camera) (ser cause : Nat) : Camera :=
  match m.lineAt ser with
  | some _ => m
  | none => { m with
      lines := m.lines ++ [{ ser := ser, void := some cause, gen := (m.setAt ser).gen }],
      count := { m.count with voidlines := satInc m.count.voidlines } }

/-- Camera lines become VOID, one after the other. -/
def Camera.voidLines (m : Camera) (cause : Nat) : List Nat → Camera
  | [] => m
  | ser :: r => (m.voidLine ser cause).voidLines cause r

/-- State of the frame of a strip at a camera. -/
def Camera.frameOf (m : Camera) (id : Nat) : FrameSt := (lookupN id m.frames).getD .closed

/-- Serials of the lines of a strip that have been triggered, from line k on and below line n. -/
def stripSers (p : Strip) (k n : Nat) : List Nat := natsFrom (min n p.lines - k) (p.startSer + k)

/-- Strips whose frame has not closed at a camera. -/
def State.openStrips (s : State) (c : Nat) : List Strip := s.intake.strips.filter (fun p => (s.cam c).frameOf p.id != .closed)

/-- The frame of a strip closes for good; a line of it that is triggered later takes `cause` unless an earlier cause stands (R109, R110, R124). -/
def Camera.shut (m : Camera) (id cause : Nat) : Camera :=
  { m with
    openStrip := if m.openStrip = some id then none else m.openStrip
    killed := m.killed && decide (m.openStrip ≠ some id)
    lineNo := if m.openStrip = some id then none else m.lineNo
    frames := m.frames.map (fun (f : Nat × FrameSt) => if f.1 = id then (f.1, FrameSt.closed) else f)
    fates := if (lookupN id m.fates).isSome then m.fates else m.fates ++ [(id, cause)] }

/-- The port's range is VOID with cause RETIRED from here on: every camera line that it has not received, triggered or not (R124). Lines already
received keep their data. -/
def Camera.retire (m : Camera) (strips : List Strip) : Camera :=
  let m1 := strips.foldl (fun m p => (m.voidLines 6 (stripSers p 0 p.lines)).shut p.id 6) m
  { m1 with dropping := false, lines := m1.lines.map (fun l => { l with held := false }) }

/-- Optically black sums of a received line (R155): Σ a over OB_FIRST to OB_LAST per plane, and the number of pixels. -/
def obSums (d p : Container) (cal : List (List (List Nat))) (c : Nat) (l : CamLine) : List Int × Nat :=
  let first := d.f 0x00B0 0 (0x174 + 8 * c) 14 0 1
  let last := d.f 0x00B0 0 (0x174 + 8 * c) 30 16 0
  if first > last then ([0, 0, 0, 0], 0) else
  let xs := natsFrom (last + 1 - first) first
  let half := fun (x : Nat) => if p.bond c && decide (x ≥ d.linePx c / 2) then 1 else 0
  let word := fun (x q : Nat) =>
    (tableWords d (getN cal (p.portOf c + half x) []) c (half x) (if half x = 1 then x - d.linePx c / 2 else x)).getD q 0x10000000
  ((upto 4).map (fun q => if q < d.planes then
      sumI (xs.map (fun x => ((l.raw.getD q []).getD x 0 : Int) - (word x q % 4096 : Nat) - l.boff.getD q 0)) else 0),
   xs.length)

/-- The sums of a line added to a strip's. -/
def addOb (id : Nat) (o : List Int × Nat) (l : List (Nat × List Int × Nat)) : List (Nat × List Int × Nat) :=
  match lookupN id l with
  | none => l ++ [(id, o)]
  | some q => insertN id (List.zipWith (· + ·) q.1 o.1, q.2 + o.2) l

/-- Number that the next line will have: its WLN, or its CLN in CALIBRATE (R168). -/
def State.nextNumber (s : State) : Nat := if s.sys.lineMode == .calibrate then s.cal.cln else s.pos.wln

/-- Serial of line number w of the current epoch. -/
def State.serOfWln (s : State) (w : Nat) : Nat := s.intake.ser + w - s.nextNumber

/-- Serial of the switch line of an armed swap (R145). -/
def State.switchSerial (s : State) : Option Nat :=
  match s.deck.swap with
  | some w => if w.cameraDone || !s.webRunning then none else some (s.serOfWln w.switchLine)
  | none => none

/-- Is a camera line corrected under two decks: one of the Ndbl lines before the switch line of an armed swap, or of the last one (R145)?
An activation in CALIBRATE corrects no line twice (R146). -/
def State.doubled (s : State) (p : Strip) (ser : Nat) : Bool :=
  let near (w : Nat) (d : Container) : Bool := decide (ser < w) && decide (w ≤ ser + d.dbuf)
  !p.cal && ((match s.deck.swap, s.switchSerial with
    | some w, some x => near x ((s.slotDeck w.slot).getD {})
    | _, _ => false) ||
  (match s.intake.switchSer with
    | some (x, _) => near x s.camDeck
    | none => false))

/-- A camera line that is received goes through correction: DPKEEP and DOUBLE count at its ports, and its optically black pixels enter the strip's sums
(R131, R145, R155). A VOID line is passed on (R134), and a strip-held one waits for its frame (R112). -/
def State.correct (s : State) (c : Nat) (p : Strip) (ser : Nat) : State :=
  match (s.cam c).lineAt ser with
  | none => s
  | some l =>
    if l.void.isSome || l.held then s else
    let d := s.deckOf p.epoch
    let kept := (correctLine d s.profile.current s.cal.inUse c l).2
    let twice := b2n (s.doubled p ser)
    let odd := b2n (s.profile.current.bond c)
    s.updCam c (fun m => { m with
      count := { m.count with
        dpkeep := satAdd m.count.dpkeep kept.1, dpkeepOdd := satAdd m.count.dpkeepOdd kept.2
        double := satAdd m.count.double twice, doubleOdd := satAdd m.count.doubleOdd (odd * twice) }
      obAcc := addOb p.id (obSums d s.profile.current s.cal.inUse c l) m.obAcc })

/-- Serials of the lines of a strip that are received and wait for its frame (R112). -/
def Camera.heldLines (m : Camera) (p : Strip) : List Nat :=
  (m.lines.filter (fun l => l.held && decide (p.startSer ≤ l.ser) && decide (l.ser < p.startSer + p.len))).map (·.ser)

/-- Retirement reaches the frames and lines of a camera (R124); strip-held lines that it has received go through correction. -/
def State.voidRetired (s : State) (c : Nat) : State :=
  let held := (s.openStrips c).map (fun p => (p, (s.cam c).heldLines p))
  held.foldl (fun s h => h.2.foldl (fun s x => s.correct c h.1 x) s) (s.updCam c (fun m => m.retire (s.openStrips c)))

/-- The port of a camera is retired: its pair retires with it (R123, R124). -/
def State.portRetired (s : State) (c code : Nat) : State :=
  let s1 := if s.profile.current.bond c then s.retireNow 1 (s.portOf c + 1) code else s
  s1.voidRetired c

/-- One transient occurrence against a camera's port (R123). -/
def State.portOccur (s : State) (c code : Nat) (line : Nat × Int) : State :=
  let r := s.occur 1 (s.portOf c) code 0 line
  if r.1 then r.2.portRetired c code else r.2

/-- One transient occurrence against the correction stage of a camera's port (R147, R574); a permanent one retires the port. -/
def State.tableOccur (s : State) (c : Nat) (line : Nat × Int) : State :=
  let r := s.occur 2 (s.portOf c) 1 0 line
  if r.1 then (r.2.retireNow 1 (s.portOf c) 1).portRetired c 1 else r.2

/-- The line that a fault on camera c concerns: the latest line triggered, or the next to trigger (R298). -/
def State.portLine (s : State) : Nat × Int := s.faultLine

/-- WLN and WPOS of a line whose packet fails (R298): those of its slot, or the next line where it has none. -/
def State.lineOfSer (s : State) (ser : Nat) : Nat × Int :=
  match s.intake.slots.find? (fun (x : Nat × Nat × LineSlot) => x.1 == ser) with
  | some (_, _, l) => if s.webRunning then (l.wln, l.wpos) else (0, 0)
  | none => s.faultLine

/- Strips (R107). -/

/-- The strip that holds the latest line. -/
def State.curStrip (s : State) : Option Strip := s.intake.strips.getLast?

/-- Does a new strip start with a line: no strip yet, a new epoch's first line, or the strip has its L lines? -/
def startsStrip (cur : Option Strip) (epoch wln : Nat) : Bool :=
  match cur with
  | none => true
  | some p => p.ended || p.epoch != epoch || wln == 0 || decide (p.lines ≥ p.len)

/-- The strip in progress ends before its L lines: at a switch line, an activation in CALIBRATE or an exit (R62, R111, R157). A boundary that a break
had set does not come. -/
def Strip.cut (p : Strip) : Strip := if p.ended then p else { p with ended := true, short := true, brk := false, len := p.lines }

/-- Length and break mark of a strip that starts at a WLN, under a boundary that a break has set (R107). -/
def breakLen (breakEnd : Option Nat) (wln len : Nat) : Nat × Bool :=
  match breakEnd with
  | some e => if wln ≤ e ∧ e < wln + len - 1 then (e - wln + 1, true) else (len, false)
  | none => (len, false)

/-- Frames of a new strip: every enabled camera of its deck waits for one (R108), but at a port out of service (R124). -/
def State.openFrames (s : State) (id : Nat) (cams : List Nat) : State :=
  forEach (fun c s =>
    let out := s.isRetired 1 (s.portOf c)
    s.updCam c (fun m => { m with
      frames := m.frames ++ [(id, if out then FrameSt.closed else FrameSt.waiting)], fates := if out then m.fates ++ [(id, 6)] else m.fates })) cams s

/-- A port returns to service, and with it the channel of its correction stage, whose permanent fault retired the port too (R574, R578). -/
def State.portBack (s : State) (port : Nat) : State :=
  let s1 := s.returnChannel 1 port
  if s.isRetired 2 port then s1.returnChannel 2 port else s1

/-- A reinstated port resumes at a strip boundary, or outside the modes with strips at once (R124): the channel returns and REINSTATE
completes. -/
def State.portReturns (s : State) (c : Nat) : State :=
  let port := s.portOf c
  let s1 := s.portBack port
  let s2 := if s.profile.current.bond c then s1.portBack (port + 1) else s1
  let s3 := s2.updCam c (fun m => { m with returning := false, openStrip := none, dropping := false, killed := false })
  match s3.runningCmd 0x0009 with
  | some r => if r.args = [1, port] then s3.complete r .ok 0 else s3
  | none => s3

/-- The ports that wait for a strip boundary return. -/
def State.portsReturn (s : State) : State := forEach (fun c s => if (s.cam c).returning then s.portReturns c else s) (upto 24) s

/-- Strips that are settled everywhere leave the list: their statistics are written and every camera's frame has closed. -/
def State.pruneStrips (s : State) : State :=
  let live := s.intake.strips.filter (fun p => !p.done || !p.ended || s.intake.cam.any (fun m => m.frameOf p.id != .closed))
  let on (id : Nat) : Bool := live.any (fun p => p.id == id)
  { s with intake := { s.intake with
      strips := live
      cam := s.intake.cam.map (fun (m : Camera) => { m with
        frames := m.frames.filter (fun (f : Nat × FrameSt) => on f.1), fates := m.fates.filter (fun (f : Nat × Nat) => on f.1) }) } }

/-- The line of a slot enters its strip; at a boundary a new strip starts. -/
def State.placeInStrip (s : State) (slot : LineSlot) (ser : Nat) : State :=
  if startsStrip s.curStrip slot.epoch slot.wln then
    let d := s.deckOf slot.epoch
    let idx := if slot.wln = 0 then 0 else s.intake.stripIndex
    let bl := breakLen s.intake.breakEnd slot.wln d.stripLines
    let p : Strip := { id := s.intake.nextStrip, epoch := slot.epoch, index := idx, startSer := ser, startWln := slot.wln,
                       startTime := slot.time, lines := 1, len := bl.1, brk := bl.2, short := bl.2,
                       cal := slot.mode == .calibrate, ended := bl.1 == 1 }
    let s1 : State := { s with
      intake.strips := (s.intake.strips.map Strip.cut) ++ [p], intake.nextStrip := s.intake.nextStrip + 1,
      intake.stripIndex := (idx + 1) % 2 ^ 32 }
    s1.portsReturn.openFrames p.id d.camsOn
  else
    match s.curStrip with
    | none => s
    | some p =>
      let s1 := s.updStrip p.id (fun q => { q with lines := q.lines + 1, ended := decide (q.lines + 1 ≥ q.len) })
      match s.intake.breakEnd with
      | some e => if slot.wln ≥ e then { s1 with intake.breakEnd := none } else s1
      | none => s1

/- Frames (R108-R111). -/

/-- The frame of a strip closes at FE, by NOFE or at its deadline (R109, R110): the lines triggered and not received become VOID, and those still to be
triggered will be. With LNUM = 0 a frame with fewer than L lines voids every line of the strip, and SHORT counts; the Boolean says so. -/
def Camera.closeFrame (m : Camera) (p : Strip) (lnum : Bool) : Camera × Bool :=
  let own := decide (m.openStrip = some p.id)
  let sers := stripSers p 0 p.lines
  let cause := (lookupN p.id m.fates).getD 1
  let inside (l : CamLine) : Bool := decide (p.startSer ≤ l.ser) && decide (l.ser < p.startSer + p.len)
  let free (l : CamLine) : CamLine := if inside l then { l with held := false } else l
  if lnum || (own && (m.killed || decide (m.nextK ≥ p.len))) then
    ((({ m with lines := m.lines.map free } : Camera).voidLines cause sers).shut p.id 1, false)
  else
    let drop (l : CamLine) : Bool := inside l && l.held && l.void.isNone
    let lost := (m.lines.filter drop).length
    let m1 : Camera := { m with
      lines := m.lines.map (fun l => if drop l then { l with void := some 1, held := false, raw := [] } else free l)
      count := { m.count with voidlines := satAdd m.count.voidlines lost, short := satInc m.count.short } }
    ((m1.voidLines 1 sers).shut p.id 1, true)

/-- The frame of a strip closes at camera c, with the occurrence of SHORT (R123 code 7) where it counts; strip-held lines go through correction
(R112). -/
def State.closeFrame (s : State) (c : Nat) (p : Strip) : State :=
  let held := (s.cam c).heldLines p
  let r := (s.cam c).closeFrame p ((s.deckOf p.epoch).lnum c)
  let s1 := s.updCam c (fun _ => r.1)
  let s2 := held.foldl (fun s x => s.correct c p x) s1
  if r.2 then s2.portOccur c 7 s2.portLine else s2

/-- The open frame closes without FE: NOFE counts and is one occurrence (R108, code 6). -/
def State.closeNofe (s : State) (c : Nat) : State :=
  match (s.cam c).openStrip.bind s.strip with
  | none => s
  | some p =>
    let s1 := s.closeFrame c p
    (s1.updCam c (fun m => m.tally (fun t => { t with nofe := satInc t.nofe }))).portOccur c 6 s1.portLine

/-- The deadline that the trigger of serial `ser` brings for camera c in a strip (R111): that of line ser - LATE_LINES, and, where it is the strip's
last line, of the frame. Inside a strip a line not received becomes VOID with LNUM = 1. -/
def State.deadlineIn (s : State) (c ser : Nat) (p : Strip) : State :=
  let d := s.deckOf p.epoch
  let line := ser - d.lateLines c
  if !d.camEn c || decide (ser < p.startSer + d.lateLines c) || decide (p.startSer + p.lines ≤ line) then s else
  let s1 := if d.lnum c then s.updCam c (fun m => m.voidLine line 1) else s
  if p.ended && decide (line + 1 = p.startSer + p.len) then
    match (s1.cam c).frameOf p.id with
    | .closed => s1
    | .opened => s1.closeNofe c
    | .waiting => s1.closeFrame c p
  else s1

/-- The deadlines that the trigger of serial `ser` brings for camera c, in every strip whose frame has not closed (R111). -/
def State.deadline (s : State) (c ser : Nat) : State := (s.openStrips c).foldl (fun s p => s.deadlineIn c ser p) s

/-- The frame of the oldest strip that has none opens at FS (R108). -/
def State.frameStart (s : State) (c : Nat) : State :=
  let s1 := if (s.cam c).openStrip.isSome then s.closeNofe c else s
  let s2 := s1.updCam c (fun m => { m with dropping := false })
  match ((s2.cam c).frames.find? (fun f => f.2 == FrameSt.waiting)).map (·.1) with
  | none => s2.updCam c (fun m => { m with dropping := true, count := { m.count with spurious := satInc m.count.spurious } })
  | some id => s2.updCam c (fun m => { m with
      openStrip := some id, killed := false, lastK := none, nextK := 0, lineNo := none,
      frames := m.frames.map (fun f => if f.1 = id then (id, FrameSt.opened) else f) })

/-- Does a settings change leave line `ser` unconfirmed (R120, R122)? -/
def Camera.unsettled (m : Camera) (ser : Nat) : Bool :=
  m.unsure.any (fun r => decide (r.1 ≤ ser) && (match r.2 with
    | some e => decide (ser < e)
    | none => true))

/-- A camera line is received or VOID at its place (R109, R110), with the settings of its own generation (R129); a line that a settings change leaves
unconfirmed is VOID (R120, R122). A place that is settled already stays as it is. -/
def Camera.putLine (m : Camera) (ser : Nat) (void : Option Nat) (held : Bool) (raw : List (List Nat)) : Camera :=
  if (m.lineAt ser).isSome then m else
  let v := if m.unsettled ser then some (void.getD 1) else void
  let x := m.setAt ser
  let l : CamLine := { ser := ser, void := v, held := held, gen := x.gen, k := x.set.k, boff := x.set.boff, raw := if v.isSome then [] else raw }
  { m with
    lines := m.lines ++ [l]
    count := if v.isSome then { m.count with voidlines := satInc m.count.voidlines } else m.count }

/-- Payload bytes of a line of camera c (R106). -/
def Container.lineBytes (d : Container) (c : Nat) : Nat := d.linePx c * dtBits (d.camDt c) / 8

/-- Does an uncorrectable error of a table word or of the line in its buffer void the line of a packet (R147)? -/
def eccVoid (p : CsiPacket) : Bool := p.hits.any (·.unc)

/-- A pixel line of the open frame at strip line k (R103-R106, R109, R110): it is placed, or VOID where the FIFO could not take it (R26), its CRC or its
length fails, or an uncorrectable error meets it (R147). -/
def State.placeLine (s : State) (c : Nat) (p : Strip) (k : Nat) (pk : CsiPacket) : State :=
  let d := s.deckOf p.epoch
  let bad := pk.overflow || !pk.crcOk || decide (pk.wc < d.lineBytes c) || eccVoid pk
  let raw := unpackLine (d.camDt c) d.planes (d.linePx c) pk.payload
  (s.updCam c (fun m => m.putLine (p.startSer + k) (if bad then some 1 else none) (!d.lnum c) raw)).correct c p (p.startSer + k)

/-- Strip line k = (N - LN_START) / LN_INC of a line number (R109); none where it is no integer or is below 0. -/
def Container.stripLine (d : Container) (c n : Nat) : Option Nat :=
  if n < d.lnStart c ∨ (n - d.lnStart c) % d.lnInc c ≠ 0 then none else some ((n - d.lnStart c) / d.lnInc c)

/-- A long packet of the camera in the open frame of strip p (R109, R110, R111). A packet for a line that is VOID already, whether its deadline or a SYNC
made it so, is dropped and counts LATE (DESIGN CHOICE for the SYNC, log 151). -/
def State.pixelPacket (s : State) (c : Nat) (p : Strip) (pk : CsiPacket) : State :=
  let d := s.deckOf p.epoch
  let m := s.cam c
  let count := fun (f : PortCount → PortCount) => s.updCam c (fun m => { m.tally f with lineNo := none })
  if m.killed then s
  else if d.lnum c then
    match m.lineNo.bind (d.stripLine c) with
    | none => count (fun t => { t with seq := satInc t.seq })
    | some k =>
      if m.lastK.any (fun j => decide (k ≤ j)) then count (fun t => { t with seq := satInc t.seq })
      else if k ≥ p.len then count (fun t => { t with long := satInc t.long })
      else if (m.lineAt (p.startSer + k)).isSome then count (fun t => { t with late := satInc t.late })
      else
        let from_ := match m.lastK with
          | some j => j + 1
          | none => 0
        let s1 := s.updCam c (fun m => { m.voidLines 1 (stripSers p from_ k) with lastK := some k, lineNo := none })
        s1.placeLine c p k pk
  else
    let k := m.nextK
    let s1 := s.updCam c (fun m => { m with nextK := k + 1 })
    if k ≥ p.len then s1.updCam c (fun m => m.tally (fun t => { t with long := satInc t.long }))
    else s1.placeLine c p k pk

/-- The rest of the open frame is lost (LNUM = 0, R110): the lines accepted keep their places, every later line of the strip is
VOID with `cause`, and SHORT counts (code 7). -/
def State.killFrame (s : State) (c cause : Nat) : State :=
  match (s.cam c).openStrip.bind s.strip with
  | none => s
  | some p =>
    if (s.deckOf p.epoch).lnum c || (s.cam c).killed then s else
    let s1 := s.updCam c (fun m =>
      ({ m with killed := true, fates := m.fates ++ [(p.id, cause)] }.voidLines cause (stripSers p m.nextK p.lines)).tally
        (fun t => { t with short := satInc t.short }))
    s1.portOccur c 7 s1.portLine

/-- The header of a packet (R103): a 1-bit error is corrected and counted; a 2-bit error drops the packet, counts ECC2 and is one
occurrence (code 2). A short packet that the port FIFO could not take is lost (R26). `none` where the packet is dropped. -/
def State.packetHeader (s : State) (c : Nat) (pk : CsiPacket) (short : Bool) : Option State × State :=
  if pk.overflow && short then (none, s)
  else if pk.ecc = 0 then (some s, s)
  else if pk.ecc = 1 then
    let s1 := s.updCam c (fun m => m.tally (fun t => { t with ecc1 := satInc t.ecc1 }))
    (some s1, s1)
  else
    let s1 := s.updCam c (fun m => m.tally (fun t => { t with ecc2 := satInc t.ecc2 }))
    (none, (s1.killFrame c 1).portOccur c 2 s1.portLine)

/-- A packet of another VC or DT is dropped and counted (R103, R104). -/
def State.otherPacket (s : State) (c : Nat) : State :=
  s.updCam c (fun m => m.tally (fun t => { t with other := satInc t.other }))

/-- The deck under which a port decodes: the one of its open strip, else of the strip whose frame comes next, else of the camera-bar epoch. -/
def State.portDeck (s : State) (c : Nat) : Container :=
  match ((s.cam c).openStrip.bind s.strip).or (s.openStrips c).head? with
  | some p => s.deckOf p.epoch
  | none => s.camDeck

/-- A packet reaches the packet decoder of port `port` (R103, R114): none for a port without a camera, in DIAGNOSTIC, or out of
service. -/
def State.decodes (s : State) (port : Nat) : Option Nat :=
  if s.sys.mode == .diagnostic || s.sys.mode == .boot || s.sys.mode == .selftest || s.isRetired 1 port then none
  else s.camOfPort port

/-- An FE packet closes the open frame (R108); the FE of a dropped frame ends it. -/
def State.csiFrameEnd (s : State) (port : Nat) (p : CsiPacket) : State :=
  match s.decodes port with
  | none => s
  | some c =>
    match s.packetHeader c p true with
    | (none, s1) => s1
    | (some s1, _) =>
      if p.vc ≠ (s1.portDeck c).camVc c then s1.otherPacket c
      else if (s1.cam c).dropping then s1.updCam c (fun m => { m with dropping := false })
      else match (s1.cam c).openStrip.bind s1.strip with
        | none => s1
        | some q => s1.closeFrame c q

/-- A Line Start packet supplies the line number of the next long packet (R103, R109). -/
def State.csiLineStart (s : State) (port : Nat) (p : CsiPacket) : State :=
  match s.decodes port with
  | none => s
  | some c =>
    match s.packetHeader c p true with
    | (none, s1) => s1
    | (some s1, _) =>
      if p.vc ≠ (s1.portDeck c).camVc c then s1.otherPacket c
      else s1.updCam c (fun m => { m with lineNo := some p.number })

/-- The line that a long packet concerns (R298): the one of its strip line, or the port's line where it has none. -/
def State.packetLine (s : State) (c : Nat) : Nat × Int :=
  match (s.cam c).openStrip.bind s.strip with
  | none => s.portLine
  | some p =>
    let d := s.deckOf p.epoch
    match (if d.lnum c then (s.cam c).lineNo.bind (d.stripLine c) else some (s.cam c).nextK) with
    | some k => s.lineOfSer (p.startSer + k)
    | none => s.portLine

/-- The counters of a long packet's payload (R103, R106, R125, R147). -/
def payloadTally (p : CsiPacket) (need : Nat) (t : PortCount) : PortCount :=
  let n (f : EccHit → Bool) : Nat := (p.hits.filter f).length
  { t with
    crc := if p.crcOk then t.crc else satInc t.crc
    length := if p.wc = need then t.length else satInc t.length
    eccCorr := satAdd t.eccCorr (n (fun h => !h.odd && !h.unc)), eccCorrOdd := satAdd t.eccCorrOdd (n (fun h => h.odd && !h.unc))
    eccUnc := satAdd t.eccUnc (n (fun h => !h.odd && h.unc)), eccUncOdd := satAdd t.eccUncOdd (n (fun h => h.odd && h.unc)) }

/-- The occurrences of a long packet's payload: CRC (code 3), short LENGTH (code 4), and an uncorrectable table word (R123, R147). -/
def State.payloadOccur (s : State) (c need : Nat) (p : CsiPacket) (line : Nat × Int) : State :=
  let s1 := if p.crcOk then s else s.portOccur c 3 line
  let s2 := if p.wc < need then s1.portOccur c 4 line else s1
  (p.hits.filter (fun h => h.table && h.unc)).foldl (fun s _ => s.tableOccur c line) s2

/-- A long packet (R103-R111): one of a dropped frame, of another VC or DT, outside a frame, or a camera line. Its payload is checked in each case
but the first two. -/
def State.csiLongPacket (s : State) (port : Nat) (p : CsiPacket) : State :=
  match s.decodes port with
  | none => s
  | some c =>
    match s.packetHeader c p false with
    | (none, s1) => s1
    | (some s1, _) =>
      let d := s1.portDeck c
      let need := d.lineBytes c
      if p.vc ≠ d.camVc c then s1.otherPacket c
      else if (s1.cam c).dropping then s1
      else if p.dt ≠ d.camDt c then s1.otherPacket c
      else
        let line := s1.packetLine c
        let s2 := if p.overflow then s1 else s1.updCam c (fun m => m.tally (payloadTally p need))
        let s3 := match (s2.cam c).openStrip.bind s2.strip with
          | none => if p.overflow then s2 else
            (s2.updCam c (fun m => m.tally (fun t => { t with nofs := satInc t.nofs }))).portOccur c 5 s2.portLine
          | some q => s2.pixelPacket c q p
        if p.overflow then s3 else s3.payloadOccur c need p line

/-- Any other packet (R103): Line End is ignored on the camera's VC; every other VC or DT is dropped and counted as OTHER, but a long packet of a dropped
frame is discarded without a count (R108). -/
def State.csiOtherPacket (s : State) (port : Nat) (p : CsiPacket) : State :=
  match s.decodes port with
  | none => s
  | some c =>
    match s.packetHeader c p false with
    | (none, s1) => s1
    | (some s1, _) =>
      let own := decide (p.vc = (s1.portDeck c).camVc c)
      if own && (p.dt == 0x03 || ((s1.cam c).dropping && decide (p.dt ≥ 0x10))) then s1 else s1.otherPacket c

/-- Lines in flight at a SYNC with LNUM = 1: triggered and not received (R123; DEDUCED, log 26). -/
def State.inFlight (s : State) (c : Nat) : List Nat := ((s.openStrips c).map (fun p => stripSers p 0 p.lines)).flatten

/-- SYNC at a port (R123): the receiver resynchronises, SYNC counts and is one occurrence (code 1). With LNUM = 1 the lines in
flight become VOID with cause RESYNC; with LNUM = 0 the rest of the strip. -/
def State.csiSyncError (s : State) (port : Nat) : State :=
  match s.decodes port with
  | none => s
  | some c =>
    let s1 := s.updCam c (fun m => { m.tally (fun t => { t with sync := satInc t.sync }) with lineNo := none })
    let s2 := if (s1.portDeck c).lnum c then s1.updCam c (fun m => m.voidLines 2 (s1.inFlight c)) else s1.killFrame c 2
    s2.portOccur c 1 s2.portLine

/-- 1 ms after an exit from the web modes or CALIBRATE (R111): every triggered line not received becomes VOID, and every open frame
closes with NOFE. Lines of a mode entered since then have their own deadlines. -/
def State.exitCloses (s : State) : State :=
  if !s.intake.exitPending then s else
  let old (p : Strip) : Bool := !s.stripsRun || decide (p.startSer < s.intake.firstSer)
  let close := fun (c : Nat) (s : State) => ((s.openStrips c).filter old).foldl (fun s p =>
    match (s.cam c).frameOf p.id with
    | .closed => s
    | .opened => s.closeNofe c
    | .waiting => s.closeFrame c p) s
  { forEach close (upto 24) s with intake.exitPending := false }

/-- A Trestle strip break sets its boundary (R107): after line n + N + 1, n the line latest triggered when the break arrived and N
the largest Nreg of the deck; not before the 64th line of the strip that holds it; nothing where that line already ends
its strip. Without a break that has arrived nothing happens. -/
def State.strikeBreak (s : State) : State :=
  match s.intake.breakLine, s.curStrip with
  | some n, some p =>
    let d := s.camDeck
    let b := n + d.nregMax + 1
    let len := max 1 d.stripLines
    let start := if b < p.startWln + p.len then p.startWln else p.startWln + p.len + (b - p.startWln - p.len) / len * len
    let last := if start = p.startWln then p.startWln + p.len - 1 else start + len - 1
    let e := max b (start + 63)
    let s1 : State := { s with intake.breakLine := none }
    if b = last ∨ e ≥ last then s1
    else if start = p.startWln then
      ({ s1 with intake.breakEnd := some e } : State).updStrip p.id (fun q => { q with len := e - start + 1, brk := true, short := true })
    else { s1 with intake.breakEnd := some e }
  | _, _ => { s with intake.breakLine := none }

/-- An I3C in-band interrupt is acknowledged and counted (R118). -/
def execSensorIbi (camera : Nat) (s : State) : Outcome :=
  .next (s.updCam camera (fun m => m.tally (fun t => { t with ibi := satInc t.ibi })))

end Sys2Proof.Machine
end

