-- ==== Sys2Proof/Machine/Sensor.lean ====
section
/-! DEFINITION. Camera settings (R119-R122, R156, R160-R163): changes on their way to a strip boundary, the bus writes, trim
converters, and the trigger outputs (R115-R117). -/

namespace Sys2Proof.Machine

/- EXPOSURE (R173), CALIBRATION (R174). -/

/-- The settings of camera c in a deck's EXPOSURE section (R173). -/
def Container.expSet (d : Container) (c : Nat) : ExpSet :=
  { exposureNs := d.f 0x0021 c 0x04 19 0 500
    k := [d.f 0x0021 c 0x08 15 0 4096, d.f 0x0021 c 0x08 31 16 4096, d.f 0x0021 c 0x0C 15 0 4096, d.f 0x0021 c 0x0C 31 16 4096]
    boff := [d.sf 0x0021 c 0x10 15 0 0, d.sf 0x0021 c 0x10 31 16 0, d.sf 0x0021 c 0x14 15 0 0, d.sf 0x0021 c 0x14 31 16 0]
    regs := (upto (d.f 0x0021 c 0x00 7 4 0)).map (fun i => d.busWrite c (d.f 0x0021 c (0x20 + 8 * i) 15 0 0, d.f 0x0021 c (0x24 + 8 * i) 31 0 0)) }
/-- The INIT list of camera c (R128). -/
def Container.initList (d : Container) (c : Nat) : List (Nat × Nat) :=
  (upto (min 32 (d.f 0x0020 c 0x2C 5 0 0))).map (fun i => d.busWrite c (d.f 0x0020 c (0x30 + 8 * i) 15 0 0, d.f 0x0020 c (0x34 + 8 * i) 31 0 0))
/-- COMMIT_ADDR and COMMIT_VAL. -/
def Container.commitWrite (d : Container) (c : Nat) : Nat × Nat := d.busWrite c (d.f 0x0020 c 0x24 15 0 0, d.f 0x0020 c 0x28 31 0 0)
/-- LIGHT of camera c; 0xF = none. -/
def Container.lightOf (d : Container) (c : Nat) : Nat := d.f 0x00B0 0 (0x170 + 8 * c) 3 0 0xF
/-- LTDAC of light l; 0x3F = unused. -/
def Container.ltdac (d : Container) (l : Nat) : Nat := d.f 0x00B0 0 (0x30 + 8 * l) 21 16 0x3F
/-- Converter of the light that lights camera c (R174): none with LIGHT 0xF or LTDAC 0x3F. -/
def Container.lightDac (d : Container) (c : Nat) : Option Nat :=
  if d.lightOf c = 0xF ∨ d.ltdac (d.lightOf c) ≥ 48 then none else some (d.ltdac (d.lightOf c))
/-- MODE of trim converter t. -/
def Container.tdacMode (d : Container) (t : Nat) : Nat := d.f 0x00B0 0 (0xB0 + 4 * t) 31 30 0
/-- CODE of trim converter t. -/
def Container.tdacCode (d : Container) (t : Nat) : Nat := d.f 0x00B0 0 (0xB0 + 4 * t) 11 0 0
/-- CARRY. -/
def Container.carry (d : Container) : Bool := d.b 0x00B0 0 0x00 3 false
/-- OB_FIRST and OB_LAST of camera c. -/
def Container.obRange (d : Container) (c : Nat) : Nat × Nat := (d.f 0x00B0 0 (0x174 + 8 * c) 14 0 1, d.f 0x00B0 0 (0x174 + 8 * c) 30 16 0)

/- Trim converters (R163, R170). -/

/-- The light that a converter drives under the camera-bar deck. -/
def State.lightOfTdac (s : State) (t : Nat) : Option Nat := (upto 16).find? (fun l => s.camDeck.ltdac l == t)

/-- A converter takes a code; a change of a light's code counts for that light, with its time (R170). -/
def State.setCode (s : State) (t code : Nat) : State :=
  if getN s.cal.code t 0 = code then s else
  let c1 := { s.cal with code := setAt s.cal.code t code }
  match s.lightOfTdac t with
  | none => { s with cal := c1 }
  | some l => { s with cal := { c1 with
      lightCount := updAt c1.lightCount l satInc, lightTime := setAt c1.lightTime l s.time } }

/-- A CALIBRATION record (R171). Fields that the manual does not state for a KIND are free (log 86). -/
def State.calRecord (s : State) (kind : Nat) (port cam count dp gmax gmin dark code : Option Nat) : State :=
  let v (i w : Nat) (o : Option Nat) : Nat := o.getD (Config.freeNat (s.free + i) % 2 ^ w)
  let r : Rec := {
    typ := 0x09, epoch := s.deck.epoch
    words := [kind + v 0 8 port * 2 ^ 8 + v 1 8 cam * 2 ^ 16, v 2 32 count] ++ lohi s.time ++
      [v 3 32 dp, v 4 16 gmax * 2 ^ 16 + v 5 16 gmin, v 6 12 dark * 2 ^ 16 + v 7 12 code] }
  ({ s with free := s.free + 8 } : State).post r

/-- Codes applied one after the other. -/
def State.setCodes (s : State) : List (Nat × Nat) → State
  | [] => s
  | (t, v) :: r => (s.setCode t v).setCodes r

/-- The codes that an activation of deck d sets: MODE 1 takes CODE, MODE 2 its starting CODE, except a light that CARRY keeps
from deck `old` (R163, R167). -/
def activationCodes (d : Container) (old : Option Container) : List (Nat × Nat) :=
  ((upto 48).filter (fun t =>
    d.tdacMode t == 1 || (d.tdacMode t == 2 && !(match old with
      | some o => d.carry && (upto 16).any (fun l => d.ltdac l == t && o.ltdac l == t)
      | none => false)))).map (fun t => (t, d.tdacCode t))

/- Boundaries (R107, R119, R162). -/

/-- First boundary of a chain `base, base + len, …` at or after a serial. -/
def chainAt (base len least : Nat) : Nat := if least ≤ base then base else base + ceilDiv (least - base) (max 1 len) * max 1 len

/-- First strip boundary at or after a serial: the planned end of the strip in progress and every STRIP_LINES from it, a break's
boundary, and the switch line (R107). -/
def State.boundaryFrom (s : State) (least : Nat) : Nat :=
  let len := s.camDeck.stripLines
  let base := match s.curStrip with
    | none => s.intake.ser
    | some p => if p.ended then s.intake.ser else p.startSer + p.len
  let r := chainAt base len least
  let r1 := match s.intake.breakEnd with
    | none => r
    | some e =>
      let b := s.serOfWln (e + 1)
      if r > b then (if least ≤ b then b else chainAt b len least) else r
  match s.switchSerial with
  | some w => if r1 > w then (if least ≤ w then w else chainAt w ((s.stagedDeck.getD {}).stripLines) least) else r1
  | none => r1

/- Changes. -/

/-- Does a change write on the sensor bus? A change without INIT and register values writes nothing (DEDUCED, log 27). -/
def Change.onBus (ch : Change) : Bool := ch.init || ch.hasRegs

/-- First boundary that a change of camera c still reaches (R119, R162): with LATCH = 1 its COMMIT starts Nreg + 1 lines
ahead. -/
def State.reachable (s : State) (onBus latch : Bool) (nreg : Nat) : Nat :=
  s.boundaryFrom (if onBus && latch then s.intake.ser + nreg + 1 else s.intake.ser)

/-- Does a change still wait for its writes to be confirmed? -/
def Change.busy (ch : Change) : Bool := ch.onBus && !ch.confirmed

/-- The change whose writes come next on the sensor bus: PREPARE of a change goes out after the previous COMMIT of that camera (R119). -/
def Camera.busChange (m : Camera) : Option Change := m.changes.find? (·.busy)

/-- That change replaced by its image. -/
def mapBus (f : Change → Change) : List Change → List Change
  | [] => []
  | ch :: r => if ch.busy then f ch :: r else ch :: mapBus f r

/-- The PREPARE of the change that comes next goes out (R119). -/
def State.pump (s : State) (c : Nat) : State :=
  match (s.cam c).busChange with
  | some ch =>
    if ch.sent then s
    else (s.updCam c (fun m => { m with changes := mapBus (fun x => { x with sent := true }) m.changes })).emit
      (.sensorWrite c false (ch.initRegs ++ ch.edit.regs.getD []) (s.profile.current.sensorTarget c))
  | none => s

/-- The COMMIT of the change that comes next starts, once PREPARE has completed (R119). -/
def State.startCommit (s : State) (c : Nat) : State :=
  match (s.cam c).busChange with
  | some ch =>
    if ch.prepared && !ch.commitStarted then
      (s.updCam c (fun m => { m with changes := mapBus (fun x => { x with commitStarted := true }) m.changes })).emit
        (.sensorWrite c true [ch.commit] (s.profile.current.sensorTarget c))
    else s
  | none => s

/-- SETDASA goes to each I3C target of the profile (R118). -/
def State.assignTargets (s : State) : State :=
  let ts := (((upto 24).filter s.profile.current.portsEn).map s.profile.current.sensorTarget).filter (·.i3c)
  ts.foldl (fun s t => s.emit (.setDasa t.bus t.addr)) s

/-- Has the FS of the strip before a boundary come (R119)? A frame that closed without one counts as begun (DEDUCED, log 153). -/
def State.fsSeen (s : State) (c target : Nat) : Bool :=
  s.intake.strips.any (fun p => decide (p.startSer < target) && decide (target ≤ p.startSer + p.len) && (s.cam c).frameOf p.id != .waiting)

/-- LATCH = 0: COMMIT goes out after the FS of the strip before the boundary (R119), or once the boundary has passed. -/
def State.commitAtFrame (s : State) (c : Nat) : State :=
  match (s.cam c).busChange with
  | some ch => if !ch.latch && (ch.applied || s.fsSeen c ch.target) then s.startCommit c else s
  | none => s

/-- A change joins a camera's list in the order of boundaries. -/
def insertChange (ch : Change) : List Change → List Change
  | [] => [ch]
  | x :: r => if ch.target < x.target then ch :: x :: r else x :: insertChange ch r

/-- As `insertChange`, for a change older than the others of its boundary; an activation stays in front. -/
def insertOlder (ch : Change) : List Change → List Change
  | [] => [ch]
  | x :: r => if ch.target < x.target || (ch.target == x.target && x.source != .activation) then ch :: x :: r else x :: insertOlder ch r

/-- As `insertChange`, for an activation: in front of the others of its boundary. -/
def insertActivation (ch : Change) : List Change → List Change
  | [] => [ch]
  | x :: r => if ch.target ≤ x.target then ch :: x :: r else x :: insertActivation ch r

/-- Two changes of hosts or loops that meet at one boundary (R162): two host changes field by field, the later winning; a host change in place of a
loop result; a loop result gives way to what is there. -/
def Change.meet (a b : Change) : Change :=
  match a.source, b.source with
  | .host, .host => { a with
      edit := b.edit.over a.edit, codes := b.codes.foldl (fun l x => insertN x.1 x.2 l) a.codes, hasRegs := a.hasRegs || b.hasRegs
      sent := a.sent && !b.hasRegs, prepared := if b.hasRegs then false else a.prepared }
  | .loop, .host => b
  | _, _ => a

/-- Do two neighbours of a list meet: one boundary, not an activation, and nothing of it on its way that the second would add to? -/
def Change.meets (a b : Change) : Bool :=
  a.target == b.target && a.source != .activation && b.source != .activation && !a.applied && !b.applied && (!b.hasRegs || !a.commitStarted)

/-- A change behind the last one of a list in reverse, which it may meet. -/
def joinChange (acc : List Change) (b : Change) : List Change :=
  match acc with
  | a :: r => if a.meets b then a.meet b :: r else b :: a :: r
  | [] => [b]

/-- The changes of a camera with those that meet joined (R162). -/
def mergeChanges (l : List Change) : List Change := (l.foldl joinChange []).reverse

/-- The code that a loop result at a boundary gives a converter is discarded (R162). -/
def State.dropLoopCodes (s : State) (target tdac : Nat) : State :=
  { s with intake := { s.intake with cam := s.intake.cam.map (fun (m : Camera) => { m with changes := m.changes.map (fun ch =>
      if ch.target = target && ch.source == .loop then { ch with codes := eraseN tdac ch.codes } else ch) }) } }

/-- Boundaries at which a host change meets a loop result of the camera, which is discarded with its lights (R162). -/
def loopMeets (l : List Change) : List Nat :=
  (l.filter (fun x => x.source == .loop && l.any (fun y => y.source == .host && y.target == x.target))).map (·.target)

/-- The changes of a camera that meet are joined, and the discarded loop results give up the codes of its light. -/
def State.settleMeets (s : State) (c : Nat) : State :=
  let met := loopMeets (s.cam c).changes
  let s1 := s.updCam c (fun m => { m with changes := mergeChanges m.changes })
  match s.camDeck.lightDac c with
  | some t => met.foldl (fun s b => s.dropLoopCodes b t) s1
  | none => s1

/-- A change of camera c at a boundary (R162). -/
def State.addChange (s : State) (c : Nat) (source : ChangeFrom) (edit : ExpEdit) (hasRegs : Bool) (codes : List (Nat × Nat)) (target : Nat) : State :=
  let d := s.camDeck
  let ch : Change := { source := source, target := target, edit := edit, codes := codes, hasRegs := hasRegs, nreg := d.nreg c,
                       latch := d.latch c, commit := d.commitWrite c, prepared := !hasRegs }
  ((s.updCam c (fun m => { m with changes := insertChange ch m.changes })).settleMeets c).pump c

/-- Does CARRY of deck d keep K and BOFF of camera c from deck `old` (R167)? -/
def Container.keeps (d : Container) (old : Option Container) (c : Nat) : Bool :=
  match old with
  | some o => d.carry && o.lightOf c == d.lightOf c && o.obRange c == d.obRange c && o.lightDac c == d.lightDac c
  | none => false

/-- The change that an activation of deck d makes at camera c (R156, R160): the deck's EXPOSURE values, but for K and BOFF where CARRY keeps those present
at its line (R167), with the INIT list. -/
def Container.activation (d : Container) (old : Option Container) (target c : Nat) : Change :=
  let x := d.expSet c
  let keep := d.keeps old c
  { source := .activation, target := target,
    edit := { exposureNs := some x.exposureNs, k := if keep then none else some x.k, boff := if keep then none else some x.boff, regs := some x.regs },
    init := decide ((d.initList c).length > 0), hasRegs := decide (x.regs.length > 0), initRegs := d.initList c, nreg := d.nreg c,
    latch := d.latch c, commit := d.commitWrite c }

/-- The activation of deck d reaches camera c. Ahead of a switch line the changes on their way stay, and those of that line settle when it comes;
an activation for the next line takes the place of every change that has not applied. -/
def State.activateCam (s : State) (d : Container) (old : Option Container) (target : Nat) (c : Nat) : State :=
  let ch := d.activation old target c
  (s.updCam c (fun m => { m with changes :=
    if target > s.intake.ser then insertActivation ch m.changes else m.changes.filter (·.applied) ++ [ch] })).pump c

/-- The ranges of unconfirmed lines with one that begins at a serial, unless one is open (R120, R122). -/
def openUnsure (ser : Nat) (l : List (Nat × Option Nat)) : List (Nat × Option Nat) := if l.any (·.2.isNone) then l else l ++ [(ser, none)]

/-- The open range of unconfirmed lines ends before a serial. -/
def closeUnsure (e : Nat) (l : List (Nat × Option Nat)) : List (Nat × Option Nat) :=
  l.filterMap (fun r => if r.2.isSome then some r else if r.1 < e then some (r.1, some e) else none)

/-- Lines for which the settings of a line, and its place, are kept: a strip of 4,096 lines and the longest deadline. -/
def lineSpan : Nat := 4096 + 256

/-- The entries of a log, newest first, down to the one that governs a serial. -/
def keepFrom (ser : Nat) : List SetAt → List SetAt
  | [] => []
  | x :: r => if x.ser ≤ ser then [x] else x :: keepFrom ser r

/-- New settings from a line on: the generation increments once at a line (R156); `inside` says that the line is no boundary (MIXED, R162). -/
def Camera.newGen (m : Camera) (ser : Nat) (inside : Bool) (set : ExpSet) : Camera :=
  match m.setLog.head? with
  | some x =>
    if x.ser = ser then { m with cur := set, setLog := { x with set := set } :: m.setLog.tail }
    else { m with cur := set, gen := (m.gen + 1) % 2 ^ 32, setLog := keepFrom (ser - lineSpan) ({ ser := ser, inside := inside, gen := (m.gen + 1) % 2 ^ 32, set := set } :: m.setLog) }
  | none => { m with cur := set, gen := (m.gen + 1) % 2 ^ 32, setLog := [{ ser := ser, inside := inside, gen := (m.gen + 1) % 2 ^ 32, set := set }] }

/-- The changes that take effect at their boundary line (R119, R156): the camera's digital values, the generation and the codes; until a COMMIT
is confirmed the lines from here on are VOID (R122). -/
def State.applyChange (s : State) (c ser : Nat) : State :=
  let m := s.cam c
  let due := m.changes.filter (fun ch => decide (ch.target ≤ ser) && !ch.applied)
  if due.isEmpty then s else
  let set := due.foldl (fun x ch => ch.edit.on x) m.cur
  let left := (m.changes.map (fun ch => if ch.target ≤ ser then { ch with applied := true } else ch)).filter (fun ch => !ch.applied || ch.busy)
  let wait := left.any (·.applied)
  let s1 := s.updCam c (fun m => { m.newGen ser false set with
    unsure := if wait then openUnsure ser m.unsure else closeUnsure ser m.unsure, changes := left })
  (s1.setCodes (due.map (·.codes)).flatten).pump c

/-- A trigger-width change that applies at the next line (R162): inside a strip it sets MIXED. -/
def State.applyImmediate (s : State) (c ser : Nat) (boundary : Bool) : State :=
  match (s.cam c).immediate with
  | none => s
  | some ns => s.updCam c (fun m => { m.newGen ser (!boundary) { m.cur with exposureNs := ns } with immediate := none })

/-- Changes that a test picks move to other boundaries and meet what is there. -/
def State.moveChanges (s : State) (c : Nat) (pick : Change → Bool) (place : Change → Nat) : State :=
  (s.updCam c (fun m => { m with changes :=
    (m.changes.filter pick).foldr (fun ch l => insertOlder { ch with target := place ch } l) (m.changes.filter (fun ch => !pick ch)) })).settleMeets c

/-- A change outside a swap whose PREPARE has not completed when COMMIT is due moves to the next boundary, and DEFERRED counts (R121). With LATCH = 1
COMMIT is due at the trigger of line S - Nreg - 1; with LATCH = 0 it must end before line S (DEDUCED, log 153). -/
def State.deferLate (s : State) (c ser : Nat) (latch : Bool) : State :=
  let late (ch : Change) : Bool := ch.busy && !ch.prepared && ch.source != .activation && ch.latch == latch &&
    decide ((if latch then ser + ch.nreg + 1 else ser) = ch.target) && !ch.applied
  let n := ((s.cam c).changes.filter late).length
  if n = 0 then s else
  (s.moveChanges c late (fun ch => s.boundaryFrom (ch.target + 1))).updCam c (fun m => m.tally (fun t => { t with deferred := satAdd t.deferred n }))

/-- What the trigger of serial `ser` brings for the changes of camera c (R119, R121): COMMIT Nreg + 1 lines ahead, or the move to the next boundary. -/
def State.commitDue (s : State) (c ser : Nat) : State :=
  match (s.cam c).busChange with
  | none => s
  | some ch =>
    let s1 := if ch.latch then (if ser + ch.nreg + 1 ≥ ch.target then s.startCommit c else s) else s.commitAtFrame c
    s1.deferLate c ser true

/-- The change whose transfer failed is retried as a whole at the next strip boundary (R122); the lines from its boundary on are VOID. -/
def State.retryChange (s : State) (c : Nat) : State :=
  match (s.cam c).busChange with
  | none => s
  | some ch =>
    let next := s.boundaryFrom (max (ch.target + 1) (s.intake.ser + ch.nreg + 1))
    let again : Change := { ch with target := next, sent := false, prepared := false, commitStarted := false, applied := false }
    let s1 := s.updCam c (fun m => { m with
      changes := insertOlder again (removeFirst (·.busy) m.changes), unsure := openUnsure ch.target m.unsure })
    (s1.settleMeets c).pump c

/-- First line that a COMMIT whose STOP fell at a tick reaches (R119): m + Nreg, m the first line triggered at or after it, or the
next line. -/
def State.reachedBy (s : State) (stopTick nreg : Nat) : Nat :=
  let m := match s.intake.trigTicks.reverse.find? (fun x => decide (stopTick ≤ x.2)) with
    | some x => x.1
    | none => s.intake.ser
  m + nreg

/-- A COMMIT is confirmed (R119, R120, R122): `first` is the first line that it reaches. Lines from the boundary up to it are VOID, and LATECOMMIT
counts with LATCH = 1; the lines that waited for the confirmation are VOID no longer. -/
def State.commitDone (s : State) (c : Nat) (ch : Change) (first : Nat) : State :=
  let late := decide (first > ch.target)
  let s1 := s.updCam c (fun m => { m with
    changes := (mapBus (fun x => { x with confirmed := true }) m.changes).filter (fun x => !x.applied || x.busy)
    unsure := if ch.applied then closeUnsure first m.unsure
              else closeUnsure s.intake.ser m.unsure ++ (if late then [(ch.target, some first)] else []) })
  let s2 := if late && ch.latch then s1.updCam c (fun m => m.tally (fun t => { t with latecommit := satInc t.latecommit })) else s1
  s2.pump c

/-- A PREPARE or COMMIT transfer ends (R119-R122). A failed one is a transient occurrence (code 8) and the change is retried. Without a
transfer under way nothing happens. -/
def execSensorTransferDone (r : SensorResult) (s : State) : Outcome :=
  let c := r.camera
  match (s.cam c).busChange with
  | none => .next s
  | some ch =>
    if !ch.sent || (r.commit && !ch.commitStarted) then .next s
    else if !r.ok then .next ((s.retryChange c).portOccur c 8 s.portLine)
    else if !r.commit then
      let s1 := s.updCam c (fun m => { m with changes := mapBus (fun x => { x with prepared := true }) m.changes })
      -- a COMMIT already due, or one of an activation outside a swap, starts at once
      let due := ch.latch && decide (s.intake.ser + ch.nreg + 1 > ch.target)
      .next (if due || (ch.source == .activation && s.deck.swap.isNone) then s1.startCommit c else s1.commitAtFrame c)
    else
      .next (s.commitDone c ch (if ch.latch then s.reachedBy r.stopTick ch.nreg else if ch.applied then s.intake.ser else ch.target))

/- Trigger outputs (R115-R117). -/

/-- Width in ns of the pulse of camera c at a line (R115): its own width in TMODE 2, the frame pulse at the first line of a strip in
TMODE 1. -/
def State.pulseWidth (s : State) (d : Container) (c : Nat) (first : Bool) : Nat :=
  if d.tmode c = 2 then (s.cam c).cur.exposureNs
  else if d.tmode c = 1 ∧ first then d.fwidth c else d.twidth c

/-- The pulse of camera c at tick t, or SKIPTRIG while its previous pulse runs (R116, R117). `base` is the shared part of t_o. -/
def State.pulse (s : State) (d : Container) (t base : Nat) (first : Bool) (c : Nat) : State :=
  if 5 * t < (s.cam c).pulseEndNs then s.updCam c (fun m => m.tally (fun q => { q with skiptrig := satInc q.skiptrig }))
  else
    let start := 5 * t + d.trigDelay c + base + Config.freeNat s.free % 3
    let w := s.pulseWidth d c first
    (s.drawn.updCam c (fun m => { m with pulseEndNs := start + w })).emit (.trigPulse (s.profile.current.trigOf c) start w (d.trigPol c))

/-- The pulses of a line trigger: t_o lies in 15-25 ns, with a skew of at most 2 ns between outputs (R116; the value is free, log 3). -/
def State.pulses (s : State) (d : Container) (t : Nat) (first : Bool) : State :=
  forEach (fun c s => s.pulse d t (15 + Config.freeNat s.free % 9) first c) d.camsOn s.drawn

/- The effects of a line on strips, cameras and triggers. -/

/-- The activation of deck d reaches the cameras (R156). -/
def State.activateCams (s : State) (d : Container) (old : Option Container) (target : Nat) : State :=
  forEach (fun c s => s.activateCam d old target c) d.camsOn s

/-- A line (or timed trigger) passes the intake and the trigger outputs: settings that apply at it, its strip, its pulses, the VOID
lines it implies, and the deadlines it brings (R88, R107, R111, R115-R121). -/
def State.lineIntake (s : State) (slot : LineSlot) (trig : Bool) : State :=
  let d := s.deckOf slot.epoch
  let ser := s.intake.ser
  let first := startsStrip s.curStrip slot.epoch slot.wln
  let s1 := ({ s with cal.codeNext := [] }).setCodes s.cal.codeNext
  let s2 := forEach (fun c s => (s.deferLate c ser false).applyChange c ser) (upto 24) s1.pruneStrips
  let s3 := forEach (fun c s => s.applyImmediate c ser first) (upto 24) s2
  let s4 := s3.placeInStrip slot ser
  let s5 := if trig then s4.pulses d slot.tick first
            else forEach (fun c s => s.updCam c (fun m => m.voidLine ser 3)) d.camsOn s4
  let strip := match s5.curStrip with
    | some p => p.id
    | none => 0
  let s6 := forEach (fun c s => match lookupN strip (s.cam c).fates with
    | some cause => s.updCam c (fun m => m.voidLine ser cause)
    | none => s) d.camsOn s5
  let s7 : State := { s6 with
    intake := { s6.intake with
      slots := s6.intake.slots ++ [(ser, strip, slot)], ser := ser + 1,
      trigTicks := ((ser, slot.tick) :: s6.intake.trigTicks).take 64 } }
  let s8 := forEach (fun c s => s.commitDue c ser) (upto 24) s7
  let s9 := forEach (fun c s => s.deadline c ser) (upto 24) s8
  if first then s9.publish 0x06 slot.wpos else s9

/-- An FS packet (R103, R108); with LATCH = 0 it lets a COMMIT go out (R119). -/
def State.csiFrameStart (s : State) (port : Nat) (p : CsiPacket) : State :=
  match s.decodes port with
  | none => s
  | some c =>
    match s.packetHeader c p true with
    | (none, s1) => s1
    | (some s1, _) => if p.vc ≠ (s1.portDeck c).camVc c then s1.otherPacket c else (s1.frameStart c).commitAtFrame c

/-- Changes whose COMMIT has not started move to the first boundary that they reach under the boundaries in effect now (R107, R162). -/
def State.retarget (s : State) (c : Nat) : State :=
  s.moveChanges c (fun ch => !ch.commitStarted && !ch.applied && ch.source != .activation)
    (fun ch => s.reachable ch.onBus ch.latch ch.nreg)

/-- A Trestle strip break sets a boundary (R107); settings changes follow the boundary. -/
def execStripBreak (s : State) : Outcome :=
  .next (forEach (fun c s => s.retarget c) (upto 24) s.strikeBreak)

end Sys2Proof.Machine
end

