-- ==== Sys2Proof/Machine/PositionCmds.lean ====
section
/-! DEFINITION. The commands of the web position block (R69-R94): encoder, tooth and serial inputs, reversal, failover, and stalls. -/

namespace Sys2Proof.Machine

/- INSTALL fields (R96). -/

/-- ENk enabled. -/
def Container.encEn (p : Container) (k : Nat) : Bool := p.b 0x8001 0 0x00 (8 * k) false
/-- DIRk. -/
def Container.encDir (p : Container) (k : Nat) : Bool := p.b 0x8001 0 0x00 (8 * k + 1) false
/-- ZENk. -/
def Container.encZen (p : Container) (k : Nat) : Bool := p.b 0x8001 0 0x00 (8 * k + 3) false
/-- N of ENCk: its filter setting for A, B and Z (R69). -/
def Container.encN (p : Container) (k : Nat) : Nat := p.f 0x8001 0 0x04 (8 * k + 7) (8 * k) 3
/-- N of TTHk: its filter setting (R74). -/
def Container.tthN (p : Container) (k : Nat) : Nat := p.f 0x8001 0 0x04 (8 * k + 23) (8 * k + 16) 3
/-- ENCk_ZREV. -/
def Container.zrev (p : Container) (k : Nat) : Nat := p.f 0x8001 0 (0x08 + 4 * k) 31 0 0
/-- MISSING of TTHk. -/
def Container.tthMissing (p : Container) (k : Nat) : Nat := p.f 0x8001 0 (0x30 + 4 * k) 17 16 1
/-- MODE of TTHk. -/
def Container.tthMode (p : Container) (k : Nat) : Nat := p.f 0x8001 0 (0x30 + 4 * k) 15 14 0
/-- TEETH of TTHk. -/
def Container.tthTeeth (p : Container) (k : Nat) : Nat := p.f 0x8001 0 (0x30 + 4 * k) 12 0 96
/-- BITS of SENCk. -/
def Container.sencBits (p : Container) (k : Nat) : Nat := p.f 0x8001 0 (0x38 + 8 * k) 21 16 24
/-- DIR of SENCk. -/
def Container.sencDir (p : Container) (k : Nat) : Bool := p.b 0x8001 0 (0x38 + 8 * k) 3 false
/-- GRAY of SENCk. -/
def Container.sencGray (p : Container) (k : Nat) : Bool := p.b 0x8001 0 (0x38 + 8 * k) 2 false
/-- PROTO of SENCk: true = BiSS-C. -/
def Container.sencBiss (p : Container) (k : Nat) : Bool := p.b 0x8001 0 (0x38 + 8 * k) 1 false
/-- EN of SENCk. -/
def Container.sencEn (p : Container) (k : Nat) : Bool := p.b 0x8001 0 (0x38 + 8 * k) 0 false

/-- Does the position block run? It tracks its encoders and serial inputs at all times outside reset (R84, R552). -/
def State.posRuns (s : State) : Bool := !s.sys.inReset

/-- Do the tooth trains run: in every mode except BOOT, SELFTEST and STANDBY (R78)? -/
def State.teethRun (s : State) : Bool := s.posRuns && s.sys.mode != .boot && s.sys.mode != .selftest && s.sys.mode != .standby

/-- Encoder k replaced by its image. -/
def State.updEnc (s : State) (k : Nat) (f : Encoder → Encoder) : State := { s with pos.enc := updAt s.pos.enc k f }
/-- Tooth train k replaced by its image. -/
def State.updTth (s : State) (k : Nat) (f : Tooth → Tooth) : State := { s with pos.tth := updAt s.pos.tth k f }
/-- Serial input k replaced by its image. -/
def State.updSenc (s : State) (k : Nat) (f : Serial → Serial) : State := { s with pos.senc := updAt s.pos.senc k f }

/-- Is a source named and not retired? -/
def State.sourceOk (s : State) (src : Nat) : Bool := decide (src ≤ 3) && !s.isRetired 0x0A (sourceInput src)

/-- The source that takes service under a deck: SOURCE when it is not retired, else ALT, else none (R84). -/
def State.sourceFor (s : State) (d : Container) : Option Nat :=
  if s.sourceOk d.source then some d.source else if s.sourceOk d.alt then some d.alt else none

/-- A position input is retired (R93): when it fed the source in service, the other source takes service at the same tick, or
free-run starts. -/
def State.inputRetired (s : State) (inst : Nat) : State :=
  match s.pos.inService with
  | none => s
  | some src =>
    if sourceInput src ≠ inst then s else
    match s.sourceFor s.camDeck with
    | some o => { s with pos := s.pos.serve o }
    | none => ({ s with pos := s.pos.startFreeRun } : State).posChange s.pos

/-- One transient occurrence against a position input (R92). -/
def State.inputOccur (s : State) (inst code : Nat) : State :=
  let r := s.occur 0x0A inst code 0 s.faultLine
  if r.1 then r.2.inputRetired inst else r.2

/-- The FIFO of a position input overflows (R26): the block records it, and the input is treated as having had a transient fault. R574 gives
that occurrence no code (DESIGN CHOICE, log 141: a free value). -/
def State.inputOverflow (s : State) (inst : Nat) : State :=
  ({ s.drawn with pos.overflows := updAt s.pos.overflows inst satInc } : State).inputOccur inst (Config.freeNat s.free % 2 ^ 32)

/-- A reinstated position input returns at once (R408); in free-run the first of the two sources to return takes service (R84). -/
def State.inputReturns (s : State) (inst : Nat) : State :=
  let s1 := s.returnChannel 0x0A inst
  let s2 := if inst = 2 ∨ inst = 3 then s1.updTth (inst - 2) (fun h => { h with haveRef := false, edges := 0 }) else s1
  let d := s2.camDeck
  match [d.source, d.alt].find? (fun src => decide (src ≤ 3) && sourceInput src == inst) with
  | some src => if s2.pos.freeRun && !s2.follows then ({ s2 with pos := s2.pos.serve src } : State).posChange s2.pos else s2
  | none => s2

/-- Scale of the source in service. -/
def State.srcScale (s : State) : Nat :=
  match s.pos.inService with
  | some src => s.profile.current.scale src
  | none => 0

/-- REVERSE after a step (R91): it clears when the deficit H − C has returned to 0, and sets when the deficit reaches REV_COUNTS × SCALE,
which publishes POS_REVERSE and issues NOTIFY REVERSE with the live WPOS. `h` is H before the step. -/
def State.reverseCheck (s : State) (h : Int) : State :=
  if s.pos.reverse && decide (s.pos.c ≥ h) then { s with pos := { s.pos with reverse := false } }
  else if !s.pos.reverse && decide (s.srcScale > 0) && decide (s.pos.h - s.pos.c ≥ s.camDeck.revCounts * s.srcScale) then
    let s1 : State := { s with pos := { s.pos with
      reverse := true, revFirst := true, settle := s.camDeck.settleLines, reverseCount := satInc s.pos.reverseCount } }
    let s2 := s1.publish 0x03 s1.liveWpos
    s2.notifyIn s2.deck.epoch 0x0005 0 0 0 0 s2.liveWpos s2.time
  else s

/-- The OVERSPEED flag follows the backlog while lines trigger (R89). -/
def State.backlogFlag (s : State) : State :=
  if s.webRunning && !s.follows then { s with pos := s.pos.noteBacklog s.camDeck.pitch } else s

/-- `n` counts of the source in service at the present tick (R82, R83). -/
def State.posStep (s : State) (n : Int) : State :=
  if n = 0 then s
  else
    let h := (s.pos.beforeTick s.camDeck s.now).h
    ((({ s with pos := s.pos.stepAt s.camDeck (n * s.srcScale) s.now } : State).backlogFlag).reverseCheck h).posChange s.pos

/-- A level that the filter passes at tick t, or the level before where it cannot (R69, R72). -/
def passLevel (n : Nat) (last : Option Nat) (t : Nat) (old new : Bool) : Bool := if filterPasses n last t then new else old

/-- The count with the sense that DIR gives it (R70). -/
def Container.senseOf (p : Container) (k : Nat) (n : Int) : Int := if p.encDir k then -n else n

/-- The levels of an encoder after a change of its filtered inputs at tick t: changes that the filter cannot bring are none (R69, R72). -/
def Container.encLevels (p : Container) (k : Nat) (e : Encoder) (a b : Bool) (t : Nat) : Bool × Bool :=
  (passLevel (p.encN k) e.lastA t e.a a, passLevel (p.encN k) e.lastB t e.b b)

/-- The encoder with its new filtered levels and the ticks of their changes. -/
def Encoder.levels (e : Encoder) (l : Bool × Bool) (t : Nat) : Encoder :=
  { e with a := l.1, b := l.2, lastA := if l.1 = e.a then e.lastA else some t, lastB := if l.2 = e.b then e.lastB else some t }

/-- A count of an encoder at tick t enters the Z period: the one that a Z edge of the same tick closed has been checked with it, and no
other period holds it (R73). -/
def Encoder.zAdd (e : Encoder) (n : Int) (t : Nat) : Encoder :=
  let e1 := { e with lastCount := some (t, n) }
  if e.lastZ = some t then e1 else { e1 with zNet := e.zNet + n, zBack := e.zBack || decide (n < 0) }

/-- A filtered level change of A or B (R70, R71): one count, or ILLEGAL and an occurrence where both changed. The count enters C when
the encoder is in service (R84). With `overflow` the entry is lost in the input's FIFO (R26). -/
def execEncoderEdge (k : Nat) (a b : Bool) (t : Nat) (s : State) (overflow : Bool := false) : Outcome :=
  if k ≥ 2 ∨ !s.profile.current.encEn k ∨ !s.posRuns then .next s else
  let s0 := s.advance t
  if overflow then .next (s0.inputOverflow k) else
  let e := getN s0.pos.enc k {}
  let l := s0.profile.current.encLevels k e a b s0.now
  match quadCount e.a e.b l.1 l.2 with
  | none => .next ((s0.updEnc k (fun e => { e.levels l s0.now with illegal := satInc e.illegal })).inputOccur k 1)
  | some n0 =>
    if n0 = 0 then .next s0 else
    let n := s0.profile.current.senseOf k n0
    let s1 := s0.updEnc k (fun e => (e.levels l s0.now).zAdd n s0.now)
    .next (if s1.pos.inService = some k then s1.posStep n else s1)

/-- The count that a waiting level change of encoder k brings in the present tick: it belongs to the Z period that an edge of this tick closes
(R73), whichever of the two commands stands first. -/
def State.sameTickCount (s : State) (k : Nat) : Int :=
  let e := getN s.pos.enc k {}
  match s.pending.findSome? (fun c => match c with
    | .encoderEdge j a b t false => if j = k ∧ max s.now t = s.now then some (a, b) else none
    | _ => none) with
  | none => 0
  | some (a, b) =>
    let l := s.profile.current.encLevels k e a b s.now
    s.profile.current.senseOf k ((quadCount e.a e.b l.1 l.2).getD 0)

/-- A rising edge of the filtered Z (R73): POS_Zk is published; the counts since the last one are checked against ZREV, unless one of
them was backward. -/
def execEncoderZEdge (k t : Nat) (s : State) : Outcome :=
  if k ≥ 2 ∨ !s.profile.current.encEn k ∨ !s.profile.current.encZen k ∨ !s.posRuns then .next s else
  let s0 := s.advance t
  let e := getN s0.pos.enc k {}
  if !risePasses (s0.profile.current.encN k) e.lastZ s0.now then .next s0 else
  let zr := s.profile.current.zrev k
  let m := s0.sameTickCount k
  let bad := decide (zr ≠ 0) && e.zSeen && !e.zBack && decide (m ≥ 0) && decide (e.zNet + m ≠ (zr : Int))
  let s1 := s0.updEnc k (fun e => { e with
    zNet := 0, zSeen := true, zBack := false, lastZ := some s0.now,
    zcount := if bad then satInc e.zcount else e.zcount })
  let s2 := s1.publish (0x04 + k) s1.highWpos
  .next (if bad then s2.inputOccur k 2 else s2)

/-- STALL_US passes without a forward step (R83): interpolation has stopped at the end of the interval. -/
def execStallTimeout (t : Nat) (s : State) : Outcome :=
  if !s.posRuns then .next s else
  let s0 := s.advance t
  .next ((({ s0 with pos := s0.pos.idleTo s0.camDeck s0.now } : State).backlogFlag).posChange s0.pos)

/-- A reference of tooth train k at the present tick (R75, R77): the count of edges is checked after the first one; the label enters
the queue when k is REF_SOURCE and not retired. -/
def State.toothReference (s : State) (k : Nat) : Outcome :=
  let p := s.profile.current
  let h := getN s.pos.tth k {}
  let expect := expectedEdges (p.tthMode k) (p.tthTeeth k) (p.tthMissing k)
  let bad := h.haveRef && decide (h.edges ≠ expect)
  let s0 : State := { s with pos := s.pos.idleTo s.camDeck s.now }
  let label := s0.liveWpos - p.tthOff k
  let s1 := s0.updTth k (fun h => { h with
    edges := 0, haveRef := true, lastLabel := some label, tcount := if bad then satInc h.tcount else h.tcount })
  let s2 := if bad then s1.inputOccur (2 + k) 3 else s1
  if s2.camDeck.refSource = k ∧ !s2.isRetired 0x0A (2 + k) then
    if s2.pos.refQueue.length ≥ 16 then .fault (.misuse 77)
    else .next { s2 with pos := s2.pos.pushLabel label }
  else .next s2

/-- A rising filtered tooth edge (R69, R74, R75). With `overflow` the entry is lost in the input's FIFO (R26). -/
def execToothEdge (k t : Nat) (s : State) (overflow : Bool := false) : Outcome :=
  let p := s.profile.current
  if k ≥ 2 ∨ p.tthMode k = 0 ∨ !s.teethRun then .next s else
  let s0 := s.advance t
  if overflow then .next (s0.inputOverflow (2 + k)) else
  let h := getN s0.pos.tth k {}
  if !risePasses (p.tthN k) h.lastEdge s0.now then .next s0 else
  let tk := match h.lastEdge with
    | none => none
    | some l => some (s0.now - l)
  let s1 := s0.updTth k (fun h => { h with lastEdge := some s0.now, lastInterval := tk, edges := h.edges + 1 })
  match tk, h.lastInterval with
  | some x, some y => if isReference (p.tthMode k) (p.tthMissing k) x y then s1.toothReference k else .next s1
  | _, _ => .next s1

/-- The POLL timer starts a read of serial encoder k (R79). -/
def execSerialPoll (k t : Nat) (s : State) : Outcome :=
  if k ≥ 2 ∨ !s.profile.current.sencEn k ∨ !s.posRuns then .next s else
  let s0 := s.advance t
  .next (s0.updSenc k (fun e => { e with busy := true, reread := false, since := s0.now }))

/-- A failed read of serial encoder k (R81): its counter and an occurrence, then one re-read at once; a failed re-read is an occurrence
with code 7 and skips the poll (DEDUCED, log 28). -/
def State.serialFail (s : State) (k code : Nat) (f : Serial → Serial) : State :=
  let again := (getN s.pos.senc k {}).reread
  let s1 := s.updSenc k (fun e => { f e with busy := !again, reread := !again, since := s.now })
  s1.inputOccur (4 + k) (if again then 7 else code)

/-- The step of a serial encoder's word (R81). The first valid word has none before it, and the spec states no step for it: 0 counts
(DESIGN CHOICE, log 142). -/
def Serial.step (e : Serial) (bits pos : Nat) : Int :=
  match e.lastPos with
  | none => 0
  | some o => serialDelta bits pos o

/-- A serial word completes (R80, R81). Without a read in progress nothing happens. With `overflow` the word is lost in the input's FIFO
(R26). -/
def execSerialWord (k : Nat) (w : SerialWordIn) (t : Nat) (s : State) : Outcome :=
  if k ≥ 2 ∨ !s.posRuns ∨ !(getN s.pos.senc k {}).busy then .next s else
  let p := s.profile.current
  let s0 := s.advance t
  if w.overflow then .next (s0.inputOverflow (4 + k)) else
  let bits := p.sencBits k
  let biss := p.sencBiss k
  if biss && decide (w.crc ≠ bissCrc bits w.pos w.nE w.nW) then
    .next (s0.serialFail k 4 (fun e => { e with crc := satInc e.crc }))
  else
    let s1 := if biss && !w.nW then s0.updSenc k (fun e => { e with warn := satInc e.warn }) else s0
    if biss && !w.nE then .next (s1.serialFail k 5 (fun e => { e with nerr := satInc e.nerr }))
    else
      let raw := w.pos % 2 ^ bits
      let pos := if !biss && p.sencGray k then grayToBin bits raw else raw
      let n0 := (getN s1.pos.senc k {}).step bits pos
      let n := if p.sencDir k then -n0 else n0
      let s2 := s1.updSenc k (fun e => { e with lastPos := some pos, busy := false, reread := false })
      .next (if s2.pos.inService = some (2 + k) then s2.posStep n else s2)

/-- No start bit within TIMEOUT µs (R80, R81). Without a read in progress nothing happens, and a read that begins in this tick has not timed
out: the word that ended the read before it has won (R21). -/
def execSerialTimeout (k t : Nat) (s : State) : Outcome :=
  if k ≥ 2 ∨ !s.posRuns ∨ !(getN s.pos.senc k {}).busy ∨ max s.now t ≤ (getN s.pos.senc k {}).since then .next s else
  .next ((s.advance t).serialFail k 6 (fun e => { e with timeout := satInc e.timeout }))

end Sys2Proof.Machine
end

