-- ==== Sys2Proof/Machine/Swaps.lean ====
section
/-! DEFINITION. The deck swap at its stations (R57-R64), activations (R60), and the line triggers of the position block (R85-R93,
R168): the lines that R28 to R33 hang everything else on. -/

namespace Sys2Proof.Machine

/-- Reference slot k. -/
def State.refSlot (s : State) (k : Nat) : RefSlot := getN s.reg.slots k {}

/-- The object bound by the deck of an epoch, with its slot (R200). -/
def State.boundRef (s : State) (epoch : Nat) : Option (Nat × RefSlot) := lookupN epoch s.reg.binds

/-- The deck of an epoch takes its binding (R200): the present object of the slot stays the one that its lines are compared with. -/
def State.bindEpoch (s : State) (epoch : Nat) (slot : Option Nat) : State :=
  match slot with
  | none => s
  | some k => { s with reg := { s.reg with binds := ((epoch, k, s.refSlot k) :: eraseN epoch s.reg.binds).take 8 } }

/-- A new epoch with its deck (R60). -/
def DeckState.addEpoch (k : DeckState) (e : Nat) (d : Container) : DeckState :=
  { k with epochs := (e, d) :: eraseN e k.epochs }

/-- Handle of a library slot (R49). -/
def State.handle (s : State) (slot : Nat) : Nat := (getN s.deck.slots slot {}).gen * 2 ^ 16 + slot

/-- Epoch that the swap under way brings. -/
def State.swapEpoch (s : State) (w : Swap) : Nat := if w.cameraDone then s.deck.epoch else nextEpoch s.deck.epoch

/-- The first station switches (R57, R64): the swap is in transit, the staged deck has its epoch, and SWAP_BEGUN is issued. -/
def State.swapBegins (s : State) (w : Swap) : State :=
  if w.begun then s
  else ({ s with deck := { (s.deck.addEpoch (s.swapEpoch w) ((s.slotDeck w.slot).getD {})) with swap := some { w with begun := true } } } :
    State).notify 0x0102 0 0 0

/-- A participating station switches (R57, R64): SWAP_BEGUN at the first one, SWAP_DONE and the release of the old deck at the last. -/
def State.stationDone (s : State) (st : Station) : State :=
  match s.deck.swap with
  | none => s
  | some w =>
    let new := s.swapEpoch w
    let s1 := s.swapBegins w
    let w1 := { w with begun := true, waiting := w.waiting.filter (fun x => x != st), cameraDone := w.cameraDone || st == .camera }
    let own := s1.deck.stationEpoch.filter (fun p => p.1 != st)
    let s2 : State := { s1 with deck := { s1.deck with
      swap := some w1, stationEpoch := if st == .camera || w.cameraDone then own else own ++ [(st, new)] } }
    if w1.waiting.isEmpty then ({ s2 with deck := { s2.deck with swap := none, stationEpoch := [] } } : State).notify 0x0104 0 0 0
    else s2

/-- PAIRINFO of the left device at link-up and at each activation (R461). -/
def State.sendPairInfo (s : State) : State :=
  if s.vdRole = 1 ∧ s.vd.link = 2 ∧ s.vd.peerRole ≠ 1 then s.sendVd 0x02 [s.deck.epoch, s.camDeck.width, s.camDeck.pxPitch] else s

/-- The camera bar switches (R61, R62, R64, R87): the staged deck becomes ACTIVE under the next epoch, position is rebased by Wd,
SOURCE or ALT of the new deck takes service, and SWAP_CAMERA is issued and published. -/
def State.cameraSwitch (s0 : State) (w0 : Swap) : State :=
  let s := s0.swapBegins w0
  let w : Swap := { w0 with begun := true }
  let old := s.deck.epoch
  let new := nextEpoch old
  let d := (s.slotDeck w.slot).getD {}
  let wd := s.pos.t / 65536
  let oldDeck := s.camDeck
  let s1 : State := { s with
    deck := { (s.deck.addEpoch new d) with
      active := some w.slot, staged := none, refActive := s.deck.refStaged, refStaged := none, epoch := new, prevEpoch := old, lastWd := wd
      stationEpoch := (s.deck.stationEpoch.filter (fun p => p.2 != new)) ++
        ((w.waiting.filter (fun x => x != .camera)).map (fun x => (x, old)))
      swap := some { w with oldSlot := s.deck.active, base := wd } }
    mark := s.mark.rebase wd
    pos := { (s.pos.rebase wd) with wln := 0 } }
  let s2 : State := if s1.follows then s1 else match s1.sourceFor d with
    | some src => if s1.pos.freeRun && !(s.sourceFor d).isSome then s1 else { s1 with pos := s1.pos.serve src }
    | none => if s1.pos.freeRun then s1 else { s1 with pos := s1.pos.startFreeRun }
  let s3 := s2.notifyIn new 0x0103 new (truncN 64 (wpos48 wd)) 0 0 s2.nextWpos s2.time
  let s4 := (s3.activateTrestle d).publish 0x07 0
  let s5 : State := { s4 with intake := { s4.intake with
    switchSer := some (s4.intake.ser, old), stripIndex := 0,
    breakEnd := none, breakLine := none, strips := s4.intake.strips.map Strip.cut } }
  (((s5.bindEpoch new s.deck.refStaged).setCodes (activationCodes d (some oldDeck))).stationDone .camera).sendPairInfo

/-- The changes of a camera that meet the activation of the switch line `ser` (R162): a loop result is discarded, and of a host change the fields stay
that the new deck does not set (those that CARRY keeps; DESIGN CHOICE, log 154). -/
def meetSwitch (ser : Nat) (l : List Change) : List Change :=
  let here (ch : Change) : Bool := decide (ch.target ≤ ser) && !ch.applied && ch.source != .activation
  let hosts := (l.filter (fun ch => here ch && ch.source == .host)).reverse
  (l.filter (fun ch => !here ch)).map (fun ch =>
    if ch.source == .activation && ch.target == ser then { ch with edit := hosts.foldl (fun e h => e.over h.edit) ch.edit } else ch)

/-- The cameras of the new deck take its settings at the switch line (R156, R160); changes still on their way go to the boundaries of its strips. -/
def State.switchCams (s : State) (d old : Container) : State :=
  forEach (fun c s =>
    if (s.cam c).changes.any (fun ch => ch.source == .activation && ch.target == s.intake.ser) then
      (s.updCam c (fun m => { m with changes := meetSwitch s.intake.ser m.changes })).retarget c
    else s.activateCam d (some old) s.intake.ser c) d.camsOn s

/-- The swap whose switch line is the next line, if one is armed. -/
def State.switchDue (s : State) : Option Swap :=
  match s.deck.swap with
  | some w => if !w.cameraDone && decide (w.switchLine = s.pos.wln) then some w else none
  | none => none

/-- The LINE message of the primary for a line (R457). -/
def State.sendLine (s : State) (l : LineSlot) : State :=
  if s.leads then s.sendVd 0x11 [l.wln, truncN 48 l.wpos, l.epoch, l.time, l.ridx, l.roff, b2n l.overspeed] else s

/-- The compare stage or the segmenter is retired (R212, R228). -/
def State.compareRetired (s : State) : Bool := s.isRetired 4 0 || s.isRetired 5 0

/-- The next line fires (R85, R89): with a camera trigger, or without one under overspeed. -/
def State.fireLine (s : State) (overspeed : Bool) : State :=
  let s1 := match s.switchDue with
    | some w => (s.cameraSwitch w).switchCams ((s.slotDeck w.slot).getD {}) s.camDeck
    | none => s
  let d := s1.camDeck
  let p0 := if s1.pos.freeRun then s1.pos.toThreshold s1.now else s1.pos
  let slot := { p0.nextSlot s1.deck.epoch s1.lineTime s1.now s1.sys.lineMode overspeed with
    switchLine := s.switchDue.isSome, retired := s.compareRetired }
  let s2 : State := { s1 with pos := { p0.fired d.pitch s1.now overspeed with lastLine := some slot } }
  let s3 := match slot.refLabel with
    | some l => s2.publish 0x02 l
    | none => s2
  ((s3.publish 0x01 slot.wpos).lineIntake slot (!overspeed)).sendLine slot

/-- Lines issued at once, with no trigger, until the backlog equals OVERSPEED_LINES (R89). -/
def State.forceLines : Nat → State → State
  | 0, s => s
  | n + 1, s =>
    if s.pos.backlog s.camDeck.pitch > s.camDeck.overspeedLines then (s.fireLine true).forceLines n else s

/-- Bound of the lines that can be issued at once in a tick: T rises by at least 1 with each, also across a switch to a smaller PITCH. -/
def PosState.forceBound (p : PosState) : Nat := (p.h - p.t).toNat + 1

/-- The normal trigger of the oldest pending line, when R85 allows it; while the flag is set it counts in OVERSPEED_LINES_LATE (R89). Lines issued at
once have no trigger and do not count (DESIGN CHOICE, log 143). -/
def State.triggerNow (s : State) : State :=
  if s.pos.mayFire s.camDeck s.now then
    (if s.pos.overspeed then { s with pos := { s.pos with overspeedLate := satInc s.pos.overspeedLate } } else s).fireLine false
  else s

/-- One tick of the line trigger (R85, R89): the normal trigger first, then the lines beyond OVERSPEED_LINES. The OVERSPEED flag
follows the backlog, before the trigger and after it. -/
def State.triggerTick (s : State) : State :=
  let s0 := (s.backlogFlag).posChange s.pos
  let s1 := s0.triggerNow
  let s2 := s1.forceLines s1.pos.forceBound
  s2.backlogFlag.posChange s2.pos

/-- A free-run line fires at the period of the epoch's last two triggers (R93). -/
def State.freeRunTick (s : State) : State :=
  match s.pos.period, s.pos.lastTrig with
  | some p, some l =>
    if l + p ≤ s.now then
      let s1 := (s.fireLine false).backlogFlag
      s1.posChange s.pos
    else s
  | _, _ => s

/-- Slot of a timed trigger in CALIBRATE (R168): it carries the CLN, and no WPOS. -/
def State.calSlot (s : State) : LineSlot :=
  { wln := s.cal.cln, wpos := 0, epoch := s.deck.epoch, time := s.lineTime, tick := s.now, ridx := 0, roff := 0xFFFFFFFF,
    mode := .calibrate }

/-- A timed trigger (R168): it pulses the triggers and advances CLN; sections of a deck activated since the last one govern from
here. -/
def State.calTick (s : State) : State :=
  let s1 := s.lineIntake s.calSlot true
  { s1 with cal := { s1.cal with cln := (s1.cal.cln + 1) % 2 ^ 48, lastTrig := some s1.now } }

end Sys2Proof.Machine
end

