-- ==== Sys2Proof/Machine/Calib.lean ====
section
/-! DEFINITION. Calibration (R168-R171) and the camera commands (R414-R416). -/

namespace Sys2Proof.Machine

/-- FF_LOG2. -/
def Container.ffLog2 (d : Container) : Nat := d.f 0x00B0 0 0x18 3 0 10
/-- FF_TARGET. -/
def Container.ffTarget (d : Container) : Nat := d.f 0x00B0 0 0x18 27 16 3300
/-- GMIN. -/
def Container.gmin (d : Container) : Nat := d.f 0x00B0 0 0x1C 15 0 2048
/-- GMAX. -/
def Container.gmax (d : Container) : Nat := d.f 0x00B0 0 0x1C 31 16 16384
/-- DMAX. -/
def Container.dmax (d : Container) : Nat := d.f 0x00B0 0 0x20 11 0 1024

/-- The camera that uses a port, and 1 for the odd port of a bonded one. -/
def Container.portCam (p : Container) (port : Nat) : Option (Nat × Nat) :=
  (upto 24).findSome? (fun c =>
    if !p.portsEn c then none
    else if p.portOf c = port then some (c, 0)
    else if p.bond c && p.portOf c + 1 == port then some (c, 1)
    else none)


/- CAL_FLAT (R169). -/

/-- Lines of a phase. -/
def Container.ffLines (d : Container) : Nat := 2 ^ d.ffLog2

/-- Raw samples of one port of a camera line: the half that the port carries. -/
def portRaw (d p : Container) (c half : Nat) (raw : List (List Nat)) : List (List Nat) :=
  let n := d.linePx c
  if !p.bond c then raw
  else if half = 0 then raw.map (·.take (n / 2))
  else raw.map (·.drop (n / 2))

/-- Sums per plane and pixel with a line added. -/
def addSums : List (List Nat) → List (List Nat) → List (List Nat)
  | [], raw => raw
  | sums, raw => List.zipWith (fun a b => List.zipWith (· + ·) a b) sums raw

/-- Has a port of the phase ended: all lines taken, or failed? -/
def CalPhase.ended (ph : CalPhase) (n port : Nat) : Bool :=
  bitAt ph.failed port || (ph.sums.any (fun (x : Nat × Nat × List (List Nat)) => x.1 == port && decide (x.2.1 ≥ n)))

/-- The lines taken and sums of a port. -/
def CalPhase.sumOf (ph : CalPhase) (port : Nat) : Nat × List (List Nat) := (lookupN port ph.sums).getD (0, [])

/-- The next camera line of the phase at one port, once it is settled (R169): its raw samples add up, and a VOID line fails the phase with a record. -/
def State.calPort (s : State) (port : Nat) : State :=
  match s.cal.phase, s.profile.current.portCam port with
  | some ph, some (c, half) =>
    let d := s.camDeck
    if !bitAt ph.ports port || ph.ended d.ffLines port then s else
    match ph.first.bind (fun f => (s.cam c).lineAt (f + (ph.sumOf port).1)) with
    | none => s
    | some l =>
      if l.held then s
      else if l.void.isSome then
        ({ s with cal := { s.cal with phase := some { ph with failed := setBit ph.failed port } } } : State).calRecord
          4 (some port) (some c) (some (getN s.cal.count port 0)) none none none none none
      else
        let x := ph.sumOf port
        { s with cal := { s.cal with phase := some { ph with
            sums := insertN port (x.1 + 1, addSums x.2 (portRaw d s.profile.current c half l.raw)) ph.sums } } }
  | _, _ => s

/-- The settled camera lines of a phase at one port, in order; `n` bounds how many have come since. -/
def State.calTake : Nat → Nat → State → State
  | 0, _, s => s
  | n + 1, port, s => State.calTake n port (s.calPort port)

/-- A timed line of CALIBRATE leaves geometry: the phase in progress takes the camera lines that are settled, once the next full strip has been
discarded (R169). -/
def State.calLine (s : State) (strip : Nat) : State :=
  match s.cal.phase with
  | none => s
  | some ph =>
    if ph.skipStrip.all (fun k => decide (strip ≤ k)) then s else
    let first := ph.first.or ((s.strip strip).map (·.startSer))
    let s1 : State := { s with cal := { s.cal with phase := some { ph with first := first } } }
    forEach (fun p s => State.calTake (s.intake.ser - (first.getD 0 + (ph.sumOf p).1)) p s) (upto 24) s1

/-- dark, gain and DP of one sample (R169). -/
def flatWord (d : Container) (n lg sd sw : Nat) : Nat × Nat × Bool :=
  let dark := (sd + n / 2) / 2 ^ lg
  let w := (sw + n / 2) / 2 ^ lg
  if w > dark then
    let x := w - dark
    let g := min 0xFFFF ((d.ffTarget * 4096 + x / 2) / x)
    (dark, g, decide (g < d.gmin) || decide (g > d.gmax) || decide (dark > d.dmax))
  else (dark, 4096, true)

/-- Table words of a pixel from its (dark, gain, DP) per plane: DP in the plane-0 word when any plane has it (R151, R169). -/
def flatPixel (ws : List (Nat × Nat × Bool)) : List Nat :=
  let dp := ws.any (fun w => w.2.2)
  (upto 4).map (fun p =>
    match ws[p]? with
    | some w => w.2.1 * 2 ^ 16 + (if p = 0 then b2n dp * 2 ^ 15 else 0) + w.1 % 4096
    | none => 0x10000000)

/-- The table of a port from its dark and white sums. -/
def flatTable (d : Container) (dark white : List (List Nat)) : List (List Nat) :=
  let n := d.ffLines
  let px := (getN white 0 []).length
  (upto px).map (fun x => flatPixel ((upto white.length).map (fun p =>
    flatWord d n d.ffLog2 ((getN dark p []).getD x 0) ((getN white p []).getD x 0))))

/-- The end of the phase at a port that did not fail: DARK keeps the sums, WHITE writes the table, each with its record (R169-R171). -/
def State.calPortDone (s : State) (ph : CalPhase) (port : Nat) : State :=
  if !bitAt ph.ports port || bitAt ph.failed port then s else
  let d := s.camDeck
  let sums := (ph.sumOf port).2
  let cam := match s.profile.current.portCam port with
    | some (c, _) => c
    | none => 0
  if !ph.white then
    ({ s with cal := { s.cal with dark := insertN port sums s.cal.dark } } : State).calRecord 1 (some port) (some cam) (some (getN s.cal.count port 0)) none none none
      (some (maxN ((sums.flatten).map (fun v => (v + d.ffLines / 2) / d.ffLines)))) none
  else
    let tab := flatTable d ((lookupN port s.cal.dark).getD []) sums
    let good := tab.filter (fun w => !wordsDp w)
    let gains := (good.map (fun w => (w.take sums.length).map (fun v => v / 2 ^ 16))).flatten
    let darks := (tab.map (fun w => (w.take sums.length).map (fun v => v % 4096))).flatten
    let cnt := satInc (getN s.cal.count port 0)
    let s1 : State := { s with cal := { s.cal with
      table := setAt s.cal.table port tab, count := setAt s.cal.count port cnt, time := setAt s.cal.time port s.time } }
    let found (v : Nat) : Option Nat := if gains.isEmpty then none else some v
    s1.calRecord 2 (some port) (some cam) (some cnt) (some (tab.length - good.length)) (found (maxN gains)) (found (minN 0xFFFF gains)) (some (maxN darks)) none

/-- A phase ends when it has ended on every named port (R169, R415): the tables are written and COMPLETE carries the failed ports. Until
then nothing happens. -/
def execCalPhaseDone (s : State) : Outcome :=
  match s.cal.phase with
  | none => .next s
  | some ph =>
    if (bitsSet 24 ph.ports).all (fun p => ph.ended s.camDeck.ffLines p) then
      let s1 := forEach (fun p s => s.calPortDone ph p) (upto 24) s
      .next (({ s1 with cal := { s1.cal with phase := none } } : State).completeCode 0x0302 .ok ph.failed)
    else .next s

/-- CAL_FLAT (R169, R415). -/
def calFlatRefuse (white : Bool) (ports : Nat) (s : State) : Option Reply :=
  if (bitsSet 24 ports).any (fun p => (s.profile.current.portCam p).isNone) then some (.fail .notFound 3)
  else if white && (bitsSet 24 ports).any (fun p => (lookupN p s.cal.dark).isNone) then some (badState s 2)
  else busyIfRunning s 0x0302

/-- The start of a phase: every MODE 2 converter takes code 0 for DARK and its CODE for WHITE; the next full strip is discarded. -/
def calFlatStart (q : Req) (white : Bool) (ports : Nat) (s : State) : State :=
  let d := s.camDeck
  let s1 := s.setCodes (((upto 48).filter (fun t => d.tdacMode t == 2)).map (fun t => (t, if white then d.tdacCode t else 0)))
  ({ s1 with cal := { s1.cal with phase := some { white := white, ports := ports, skipStrip := some s1.intake.nextStrip } } } : State).start
    0x0302 q [ports]

/-- CAL_FLAT. -/
def execCalFlat (q : Req) (white : Bool) (ports : Nat) (s : State) : Outcome :=
  runCmd 0x0302 q .cal false (calFlatRefuse white ports s) (calFlatStart q white ports s, .accepted) s

/- EXPOSURE_SET (R162, R414). -/

/-- The refusals of EXPOSURE_SET. -/
def exposureRefuse (e : ExposureReq) (s : State) : Option Reply :=
  if !s.profile.current.portsEn e.camera then some (.fail .notFound 3)
  else if e.immediate && (decide (e.mask ≠ 1) || decide (s.camDeck.tmode e.camera ≠ 2)) then some (.fail .denied 1)
  else none

/-- The change that the fields selected by MASK make (R414). -/
def exposureEdit (e : ExposureReq) (d : Container) : ExpEdit :=
  { exposureNs := if bitAt e.mask 0 then some e.exposureNs else none
    k := if bitAt e.mask 1 then some e.k else none
    boff := if bitAt e.mask 2 then some e.boff else none
    regs := if bitAt e.mask 3 then some (e.regs.map (d.busWrite e.camera)) else none }

/-- Line number that the line of a serial will have: WLN in a web mode, CLN in CALIBRATE. -/
def State.numberOf (s : State) (ser : Nat) : Nat := s.nextNumber + (ser - s.intake.ser)

/-- The effect of EXPOSURE_SET: S is the line at which the change applies (R414). -/
def exposureEffect (e : ExposureReq) (s : State) : State × Reply :=
  if e.immediate then
    (s.updCam e.camera (fun m => { m with immediate := some e.exposureNs }), .ok (leBytes 8 (s.numberOf s.intake.ser)))
  else
    let d := s.camDeck
    let regs := bitAt e.mask 3
    let t := s.reachable regs (d.latch e.camera) (d.nreg e.camera)
    (s.addChange e.camera .host (exposureEdit e d) regs [] t, .ok (leBytes 8 (s.numberOf t)))

/-- EXPOSURE_SET. -/
def execExposureSet (q : Req) (e : ExposureReq) (s : State) : Outcome :=
  runCmd 0x0300 q .webCal false (exposureRefuse e s) (exposureEffect e s) s

/- TDAC_SET (R163, R415). -/

/-- The refusals of TDAC_SET. -/
def tdacRefuse (t : Nat) (s : State) : Option Reply :=
  if t ≥ 48 then some (.fail .notFound 3) else if s.camDeck.tdacMode t ≠ 0 then some (.fail .denied 5) else none

/-- TDAC_SET: at the next line trigger in a web mode, else at once. -/
def execTdacSet (q : Req) (tdac code : Nat) (s : State) : Outcome :=
  runCmd 0x0301 q .ops false (tdacRefuse tdac s)
    (if s.webRunning then { s with cal := { s.cal with codeNext := insertN tdac code s.cal.codeNext } } else s.setCode tdac code, .ok []) s

/- CAL_QUERY, CAL_TABLE_READ, SENSOR_XFER. -/

/-- The response of CAL_QUERY (R416). -/
def calQueryBytes (s : State) : List Byte :=
  ((upto 24).map (fun p => leBytes 4 (getN s.cal.count p 0) ++ leBytes 4 0 ++ leBytes 8 (getN s.cal.time p 0))).flatten ++
  ((upto 16).map (fun l => leBytes 4 (getN s.cal.lightCount l 0) ++ leBytes 4 (getN s.cal.code (s.camDeck.ltdac l) 0) ++
    leBytes 8 (getN s.cal.lightTime l 0))).flatten

/-- CAL_QUERY. -/
def execCalQuery (q : Req) (s : State) : Outcome :=
  runCmd 0x0303 q .nb false none (s, .ok (calQueryBytes s)) s

/-- What CAL_TABLE_READ answers without a transfer. -/
def State.tableReadRefuse (s : State) (port : Nat) : Option Reply :=
  if (s.profile.current.portCam port).isNone then some (.fail .notFound 3) else busyIfRunning s 0x0304

/-- CAL_TABLE_READ starts a transfer of 16,384 entries of 16 bytes (R415). -/
def execCalTableRead (q : Req) (dest port : Nat) (s : State) : Outcome :=
  match (if (admission s q .op false).isNone && (s.tableReadRefuse port).isNone then s.destMisuse dest 262144 else none) with
  | some r => .fault (.misuse r)
  | none =>
  runCmd 0x0304 q .op false (s.tableReadRefuse port)
    (({ s with cal := { s.cal with reading := some (dest, port) } } : State).start 0x0304 q [dest, port], .accepted) s

/-- The 16,384 entries of a port's table as bytes; entries beyond its pixels read as identity words (R415). -/
def tableBytes (tab : List (List Nat)) : List Byte :=
  ((upto 16384).map (fun x => wordsBytes (tab.getD x [0x10000000, 0x10000000, 0x10000000, 0x10000000]))).flatten

/-- The transfer of a calibration table ends (R415). Without one under way nothing happens. -/
def execCalTableReadDone (s : State) : Outcome :=
  match s.cal.reading with
  | none => .next s
  | some (dest, port) =>
    let s1 := s.write dest (tableBytes (getN s.cal.table port []))
    .next (({ s1 with cal := { s1.cal with reading := none } } : State).completeCode 0x0304 .ok 0)

/-- SENSOR_XFER (R415): one transfer; `reply` is the register value of a read, or none for a NACK. The response to a write carries a
value that the manual does not state (free, log 3). -/
def execSensorXfer (q : Req) (camera : Nat) (write : Bool) (aw dw addr value : Nat) (reply : Option Nat) (s : State) : Outcome :=
  let mask := 2 ^ (8 * 2 ^ dw)
  let s1 := if write then s.emit (.sensorWrite camera false [(addr % 2 ^ (8 * 2 ^ aw), value % mask)] (s.profile.current.sensorTarget camera)) else s
  runCmd 0x0305 q .cfgDiag false (if !s.profile.current.portsEn camera then some (.fail .notFound 3) else none)
    (match reply with
     | none => (s1, .fail .notFound 4)
     | some v => if write then (s1.drawn, .ok (leBytes 4 (Config.freeNat s1.free))) else (s1, .ok (leBytes 4 (v % mask)))) s

end Sys2Proof.Machine
end

