-- ==== Sys2Proof/Machine/RefObj.lean ====
section
/-! DEFINITION. Reference objects in DRAM (R175-R181): their header, indices, tiles, tolerance classes, and the checks of a commit. -/

namespace Sys2Proof.Machine

/- REFERENCE (R204) and TOLERANCE (R205). -/

/-- REF_ID. -/
def Container.refId (d : Container) : Nat := d.f 0x0040 0 0x00 31 0 0
/-- REF_REV. -/
def Container.refRev (d : Container) : Nat := d.f 0x0040 0 0x04 31 0 0
/-- B, band half-depth. -/
def Container.bandB (d : Container) : Nat := d.f 0x0040 0 0x08 23 16 128
/-- START. -/
def Container.regStart (d : Container) : Nat := d.f 0x0040 0 0x08 1 0 0
/-- ORIGIN in nm. -/
def Container.origin (d : Container) : Nat := d.f 0x0040 0 0x0C 31 0 0
/-- XOFF in 1/64 px. -/
def Container.xoff (d : Container) : Int := d.sf 0x0040 0 0x10 31 0 0
/-- LAG. -/
def Container.fieldLag (d : Container) : Nat := d.f 0x0040 0 0x14 31 16 512
/-- F. -/
def Container.fieldLines (d : Container) : Nat := d.f 0x0040 0 0x14 15 0 256
/-- LOSS_FRAC. -/
def Container.lossFrac (d : Container) : Nat := d.f 0x0040 0 0x18 31 24 64
/-- LOCK_FRAC. -/
def Container.lockFrac (d : Container) : Nat := d.f 0x0040 0 0x18 23 16 192
/-- CONF_MIN. -/
def Container.confMin (d : Container) : Nat := d.f 0x0040 0 0x18 15 8 128
/-- ALPHA. -/
def Container.alpha (d : Container) : Nat := d.f 0x0040 0 0x18 7 0 64
/-- LIMX. -/
def Container.limx (d : Container) : Nat := d.f 0x0040 0 0x1C 31 24 32
/-- LIMY. -/
def Container.limy (d : Container) : Nat := d.f 0x0040 0 0x1C 23 16 8
/-- LOSS_ROWS. -/
def Container.lossRows (d : Container) : Nat := d.f 0x0040 0 0x1C 15 8 4
/-- LOCK_ROWS. -/
def Container.lockRows (d : Container) : Nat := d.f 0x0040 0 0x1C 7 0 2
/-- ACQ_Y. -/
def Container.acqY (d : Container) : Nat := d.f 0x0040 0 0x20 31 16 64
/-- JUMP. -/
def Container.jump (d : Container) : Nat := d.f 0x0040 0 0x20 15 0 256
/-- STRETCH_MAX. -/
def Container.stretchMax (d : Container) : Nat := d.f 0x0040 0 0x24 31 16 655
/-- ACQ_X. -/
def Container.acqX (d : Container) : Nat := d.f 0x0040 0 0x24 15 0 64
/-- UNSEEN_CLASS. -/
def Container.unseenClass (d : Container) : Nat := d.f 0x0040 0 0x28 23 20 15
/-- LEARN_CLASS. -/
def Container.learnClass (d : Container) : Nat := d.f 0x0040 0 0x28 19 16 1
/-- LSTEP of learning. -/
def Container.learnStep (d : Container) : Nat := d.f 0x0040 0 0x28 15 8 4
/-- NREP. -/
def Container.nrep (d : Container) : Nat := d.f 0x0040 0 0x28 7 0 8
/-- NX: nodes of the field (R188). -/
def Container.nodes (d : Container) : Nat := ceilDiv d.width 256
/-- UNIFORM. -/
def Container.tolUniform (d : Container) : Bool := d.b 0x0041 0 0x00 4 false
/-- DEFAULT_CLASS. -/
def Container.tolDefault (d : Container) : Nat := d.f 0x0041 0 0x00 3 0 1
/-- HARD of class k. -/
def Container.hard (d : Container) (k : Nat) : Nat := d.f 0x0041 0 (0x10 + 4 * k) 31 16 0xFFFF
/-- SOFT of class k. -/
def Container.soft (d : Container) (k : Nat) : Nat := d.f 0x0041 0 (0x10 + 4 * k) 15 0 0xFFFF

/-- The class that the override rectangles give a reference pixel: the last enabled one that contains it (R205). -/
def Container.rectClass (d : Container) (x y cls : Nat) : Nat :=
  (upto 8).foldl (fun c q =>
    if d.b 0x0041 0 (0x50 + 16 * q) 31 false && decide (d.f 0x0041 0 (0x50 + 16 * q) 16 0 0 ≤ x) &&
       decide (x ≤ d.f 0x0041 0 (0x54 + 16 * q) 16 0 0) && decide (d.f 0x0041 0 (0x58 + 16 * q) 19 0 0 ≤ y) &&
       decide (y ≤ d.f 0x0041 0 (0x5C + 16 * q) 19 0 0)
    then d.f 0x0041 0 (0x50 + 16 * q) 20 17 0 else c) cls

/-- Reference slot k replaced by its image. -/
def State.updRef (s : State) (k : Nat) (f : RefSlot → RefSlot) : State := { s with reg := { s.reg with slots := updAt s.reg.slots k f } }

/-- The READY object that DECK_STAGE binds a deck to (R200): the lowest slot with its REF_ID and REF_REV. -/
def State.boundSlot (s : State) (d : Container) : Option Nat :=
  if !d.refcmp then none
  else (upto 8).find? (fun k => (s.refSlot k).st == .ready && (s.refSlot k).refId == d.refId && (s.refSlot k).refRev == d.refRev)

/-- Entry of tile number i of an index: offset and length (R176). -/
def State.tileEntry (s : State) (o : RefSlot) (index i : Nat) : Nat × Nat :=
  let e := ofLe (s.read (o.addr + index + 8 * i) 8)
  (e % 2 ^ 40, e / 2 ^ 40)

/-- Bytes of tile (tx, ty) of an index. -/
def State.tileBytes (s : State) (o : RefSlot) (index tx ty : Nat) : List Byte :=
  let e := s.tileEntry o index (ty * ceilDiv o.width 256 + tx)
  s.read (o.addr + e.1) e.2

/-- Columns of tile column tx (R176). -/
def tileWidth (o : RefSlot) (tx : Nat) : Nat := min 256 (o.width - 256 * tx)

/-- Lines of tile row ty (R176). -/
def tileLines (o : RefSlot) (ty : Nat) : Nat := min 256 (o.lines - 256 * ty)

/-- Reference line y of an object: three planes of 8-bit samples (R177). -/
def State.refLine (s : State) (o : RefSlot) (y : Nat) : List (List Nat) :=
  let parts := (upto (ceilDiv o.width 256)).map (fun tx =>
    match decodeTile (tileWidth o tx) (tileLines o (y / 256)) (s.tileBytes o o.imgIndex tx (y / 256)) with
    | some ls => getN ls (y % 256) []
    | none => List.replicate 3 (List.replicate (tileWidth o tx) 0))
  (upto 3).map (fun p => (parts.map (fun l => getN l p [])).flatten)

/-- Classes of a tolerance tile's pixels in mode 0: runs of a class (R178). -/
def tolRuns : Nat → List Byte → List Nat
  | 0, _ => []
  | f + 1, bs =>
    if bs.isEmpty then [] else
    let w := leAt bs 0 2
    List.replicate (w % 4096 + 1) (w / 4096) ++ tolRuns f (bs.drop 2)

/-- Classes of a tolerance tile's pixels (R178). -/
def tolTile (bs : List Byte) : List Nat :=
  if leAt bs 0 2 = 0 then tolRuns (bs.length / 2) (bs.drop 2)
  else ((bs.drop 2).map (fun b => [b.toNat % 16, b.toNat / 16])).flatten

/-- Is a tolerance tile of `n` pixels well formed (R178): a mode that exists, and runs that fill the tile exactly? Another one is misuse (R203). -/
def tolTileOk (bs : List Byte) (n : Nat) : Bool :=
  (leAt bs 0 2 == 0 && (tolRuns (bs.length / 2) (bs.drop 2)).length == n) || (leAt bs 0 2 == 1 && bs.length == 2 + ceilDiv n 2)

/-- Does a deck read an object's tolerance map (R179, R205)? -/
def Container.usesMap (d : Container) (o : RefSlot) : Bool := o.tolIndex != 0 && !d.tolUniform

/-- Classes of reference line y from the object's tolerance map (R178, R179). -/
def State.tolLine (s : State) (o : RefSlot) (y : Nat) : List Nat :=
  ((upto (ceilDiv o.width 256)).map (fun tx =>
    let w := tileWidth o tx
    (((tolTile (s.tileBytes o o.tolIndex tx (y / 256))).drop (w * (y % 256))).take w))).flatten

/-- Are the image tiles, and the tolerance tiles where the deck reads the map, of tile row ty well formed (R177, R178, R203)? -/
def State.tilesOk (s : State) (d : Container) (o : RefSlot) (ty : Nat) : Bool :=
  (upto (ceilDiv o.width 256)).all (fun tx =>
    (decodeTile (tileWidth o tx) (tileLines o ty) (s.tileBytes o o.imgIndex tx ty)).isSome &&
    (!d.usesMap o || tolTileOk (s.tileBytes o o.tolIndex tx ty) (tileWidth o tx * tileLines o ty)))

/-- A copy of an object's bytes with the CRC field taken as zero (R175). -/
def zeroAt (bs : List Byte) (off n : Nat) : List Byte := bs.take off ++ List.replicate n 0 ++ bs.drop (off + n)

/-- First tile whose index entry does not lie inside LENGTH, of `n` tiles of an index (R181). -/
def badTile (obj : List Byte) (length index : Nat) : Nat → Option Nat
  | 0 => none
  | n + 1 =>
    match badTile obj length index n with
    | some i => some i
    | none =>
      let e := leAt obj (index + 8 * n) 8
      let off := e % 2 ^ 40
      let len := e / 2 ^ 40
      if index + 8 * n + 8 > length ∨ len = 0 ∨ off + len > length then some n else none

/-- Places (offset and length) of the tiles of an index. -/
def tilePlaces (obj : List Byte) (index n : Nat) : List (Nat × Nat) :=
  (upto n).map (fun i => (leAt obj (index + 8 * i) 8 % 2 ^ 40, leAt obj (index + 8 * i) 8 / 2 ^ 40))

/-- Does some range of a list overlap a later one? -/
def overlapping : List (Nat × Nat) → Bool
  | [] => false
  | a :: r => r.any (fun b => decide (a.1 < b.1 + b.2) && decide (b.1 < a.1 + a.2)) || overlapping r

/-- Misuse of an object that passes the checks of a commit: reserved header bits that are not 0 (R15), or tiles that overlap (R176, R203). -/
def objectMisuse (obj : List Byte) : Option Nat :=
  let n := leAt obj 0x38 2 * leAt obj 0x3A 2
  if leAt obj 0x2D 3 ≠ 0 ∨ leAt obj 0x35 3 ≠ 0 ∨ leAt obj 0x1E 2 ≠ 0 ∨ wordAt obj 0x3C ≠ 0 ∨ leAt obj 0x60 32 ≠ 0 then some 15
  else if overlapping (tilePlaces obj (leAt obj 0x40 8) n ++ (if leAt obj 0x48 8 = 0 then [] else tilePlaces obj (leAt obj 0x48 8) n)) then some 203
  else none

/-- The checks of a commit, in their order (R181): the status and DETAIL of a failure. -/
def checkObject (obj : List Byte) (reserved : Nat) : Option (Status × Nat) :=
  let fmt (r x : Nat) : Option (Status × Nat) := some (.deckFormat, r * 2 ^ 24 + x)
  let length := leAt obj 8 8
  let w := wordAt obj 0x20
  let l := wordAt obj 0x24
  let tx := leAt obj 0x38 2
  let ty := leAt obj 0x3A 2
  let major := leAt obj 6 2
  let minor := leAt obj 4 2
  if wordAt obj 0 ≠ 0x4F464552 then fmt 0x01 0
  else if length % 4 ≠ 0 ∨ length < 128 ∨ length > reserved then fmt 0x02 0
  else if crc32 (zeroAt (obj.take length) 0x10 4) ≠ wordAt obj 0x10 then fmt 0x03 0
  else if !((major = 1 ∧ minor = 0) ∨ major = 0) then some (.version, 0x01 * 2 ^ 24 + major * 2 ^ 8 + min minor 0xFF)
  else if wordAt obj 0x1C % 256 ≠ 3 ∨ w < 16 ∨ w > 98304 ∨ l < 256 ∨ l > 1048576 ∨ tx ≠ ceilDiv w 256 ∨ ty ≠ ceilDiv l 256 then
    fmt 0x0C 0
  else
    let img := leAt obj 0x40 8
    let tol := leAt obj 0x48 8
    match badTile obj length img (tx * ty) with
    | some i => fmt 0x04 i
    | none =>
      if tol = 0 then none
      else match badTile obj length tol (tx * ty) with
        | some i => fmt 0x04 i
        | none => none

end Sys2Proof.Machine
end

