-- ==== Sys2Proof/Machine/Recipe.lean ====
section
/-! DEFINITION. The recipe of a deck (R256-R263, R281): stages with their parameter blocks, and the parameter set of R241. -/

namespace Sys2Proof.Machine

/-- A stage of a recipe (R261). -/
structure Stage where
  op : Nat
  trig : Nat
  prio : Nat
  rank : Nat := 0
  evc : Nat := 0
  poff : Nat := 0
  param : List Byte := []
  deriving DecidableEq, Repr, Inhabited

/-- The stage with index i of a RECIPE body. -/
def stageAt (b : List Byte) (i : Nat) : Stage :=
  let w := wordAt b (0x10 + 16 * i)
  let off := wordAt b (0x14 + 16 * i)
  { op := fld w 31 24, trig := fld w 23 20, prio := fld w 19 16, rank := fld w 15 12, evc := fld w 5 0, poff := off
    param := bytesAt b (0x110 + off) (wordAt b (0x18 + 16 * i)) }

/-- The recipe that a deck without RECIPE takes (R262), with its operators' parameter defaults (R264, R268, R272, R279). -/
def Container.defaultStages (d : Container) : List Stage :=
  (if d.refcmp then [{ op := 0x01, trig := 1, prio := 0, param := wordsBytes [4 * 2 ^ 16 + 16 * 2 ^ 8 + 1, 0] }] else []) ++
  (if d.verify then [{ op := 0x20, trig := 3, prio := 1, param := wordsBytes [10 * 2 ^ 24 + 3 * 2 ^ 16 + 16 * 2 ^ 8 + 1, 3300] }] else []) ++
  [{ op := 0x10, trig := 0, prio := 2, param := wordsBytes [0] },
   { op := 0x13, trig := 0, prio := 2, param := wordsBytes [0, 2 ^ 20 + 1] }]

/-- The stages of a deck (R261, R262). -/
def Container.stages (d : Container) : List Stage :=
  match d.sec 0x0060 0 with
  | none => d.defaultStages
  | some b => (upto (min 16 (fld (wordAt b 0) 4 0))).map (stageAt b)

/-- Offsets of consecutive parameter blocks. -/
def blockOffsets : Nat → List Stage → List Nat
  | _, [] => []
  | o, st :: r => o :: blockOffsets (o + st.param.length) r

/-- The RECIPE body as placed: the section, or the body of the defaults that an absent one takes (R241, R262). -/
def Container.recipeBody (d : Container) : List Byte :=
  match d.sec 0x0060 0 with
  | some b => b
  | none =>
    let ss := d.defaultStages
    let ps := (ss.map (·.param)).flatten
    let offs := blockOffsets 0 ss
    let ents := (List.zipWith (fun (st : Stage) (o : Nat) =>
      wordsBytes [st.op * 2 ^ 24 + st.trig * 2 ^ 20 + st.prio * 2 ^ 16, o, st.param.length, 0]) ss offs).flatten
    wordsBytes [ss.length, ps.length, 0, 0] ++ ents ++ List.replicate (256 - ents.length) 0 ++ ps

/-- The CLASSIFIER body as placed; an absent one takes every default (R241, R281). -/
def Container.classifierBody (d : Container) : List Byte :=
  match d.sec 0x0061 0 with
  | some b => b
  | none => leBytes 0x210 0 ++ ((upto 4).map (fun _ => wordsBytes [1, 1])).flatten

/-- The parameter set of a deck (R241). -/
def Container.paramSet (d : Container) : List Byte := d.recipeBody ++ d.classifierBody

/-- First address of parameter half `half` of frame f (R241). -/
def paramAddr (f half : Nat) : Nat := 0x0100000000 + f * 0x200000 + half * 0x80000

/-- A section's body replaced. -/
def Container.withBody (d : Container) (id : Nat) (b : List Byte) : Container :=
  { d with sections := d.sections.filter (fun s => s.id != id) ++ [{ id := id, inst := 0, ver := 1, body := b }] }

/-- Stage indices of an operator or trigger. -/
def Container.stagesWhere (d : Container) (p : Stage → Bool) : List Nat := (upto 16).filter (fun i => match d.stages[i]? with
  | some st => p st
  | none => false)

/-- Stage i of a deck. -/
def Container.stage (d : Container) (i : Nat) : Option Stage := d.stages[i]?

/-- First stage of the blob chain with an operator (R258). -/
def Container.chainStage (d : Container) (op : Nat) : Option (Nat × Stage) :=
  match d.stagesWhere (fun st => st.op == op && st.trig == 0) with
  | [] => none
  | i :: _ => (d.stage i).map (fun st => (i, st))

/-- The triggers that an operator accepts (R256). -/
def opTriggers : Nat → List Nat
  | 0x01 => [1] | 0x02 => [2, 5] | 0x03 => [2, 5] | 0x10 => [0] | 0x11 => [0] | 0x12 => [0] | 0x13 => [0] | 0x20 => [3] | 0x30 => [4, 5]
  | _ => []

/-- The length of the parameter block that an operator defines (R264, R268-R270, R272, R276, R279, R280). -/
def opLength (op : Nat) (param : List Byte) : Nat :=
  match op with
  | 0x01 => 8
  | 0x02 => 8 + 32 * fld (wordAt param 0) 6 0
  | 0x03 => 8 + 32 * fld (wordAt param 0) 6 0
  | 0x10 => 4
  | 0x12 => 8
  | 0x13 => 8 + 32 * fld (wordAt param 0) 6 0
  | 0x20 => 8
  | 0x30 => 16
  | _ => 0

/-- Does a rule or the default of a RULES block have the CROP action (R263, R267)? -/
def rulesCrop (param : List Byte) : Bool :=
  bitAt (wordAt param 4) 1 || (upto (fld (wordAt param 0) 6 0)).any (fun r => bitAt (wordAt param (8 + 32 * r + 0x18)) 1)

/-- Does a stage read image data from the look-back ring (R263)? -/
def Stage.readsImage (st : Stage) : Bool :=
  st.op == 0x01 || st.op == 0x02 || st.op == 0x03 || st.op == 0x20 || st.op == 0x30 || st.op == 0x12 ||
  (st.op == 0x10 && bitAt (wordAt st.param 0) 0) || (st.op == 0x13 && rulesCrop st.param)

/-- NNODES, NTREES, F_SHIFT, NLEAVES, C_SHIFT, CNN_PRESENT of CLASSIFIER (R281). -/
def Container.nNodes (d : Container) : Nat := d.f 0x0061 0 0x00 31 16 0
/-- NTREES. -/
def Container.nTrees (d : Container) : Nat := d.f 0x0061 0 0x00 15 8 0
/-- F_SHIFT. -/
def Container.fShift (d : Container) : Nat := d.f 0x0061 0 0x00 7 0 0
/-- NLEAVES. -/
def Container.nLeaves (d : Container) : Nat := d.f 0x0061 0 0x04 13 0 0
/-- C_SHIFT. -/
def Container.cShift (d : Container) : Nat := d.f 0x0061 0 0x08 15 8 0
/-- CNN_PRESENT. -/
def Container.cnnPresent (d : Container) : Bool := d.b 0x0061 0 0x08 0 false

/-- First stage index that satisfies a test, as the DETAIL of R263. -/
def firstStage (ss : List Stage) (p : Nat → Stage → Bool) : Option Nat :=
  (upto ss.length).find? (fun i => match ss[i]? with
    | some st => p i st
    | none => false)

/-- The refusals of R263 in the order of its list: bits [23:0] of DETAIL. -/
def Container.recipeError (d : Container) : Option Nat :=
  let ss := d.stages
  let n := d.f 0x0060 0 0x00 4 0 ss.length
  if n = 0 ∨ n > 16 then some 0xFFFFFE else
  let chain := ss.filter (fun st => st.trig == 0)
  let count (op : Nat) : Nat := (chain.filter (fun st => st.op == op)).length
  let second (i : Nat) (st : Stage) : Bool := st.trig == 0 && (ss.take i).any (fun x => x.trig == 0 && x.op == st.op)
  match firstStage ss (fun _ st => !(opTriggers st.op).contains st.trig) with
  | some i => some i
  | none =>
  match firstStage ss second with
  | some i => some i
  | none =>
  if !chain.isEmpty && (count 0x10 = 0 || count 0x13 = 0) then some 0xFFFFFF else
  match firstStage ss (fun _ st => (st.op == 0x10 || st.op == 0x13) && st.rank != 0) with
  | some i => some i
  | none =>
  match firstStage ss (fun i st => st.rank != 0 && (ss.take i).any (fun x => x.rank == st.rank)) with
  | some i => some i
  | none =>
  if d.inspectEn && chain.isEmpty then some 0xFFFFFF
  else if d.inspectEn && d.refcmp && !ss.any (fun st => st.op == 0x01) then some 0xFFFFFF
  else if d.verify && !ss.any (fun st => st.op == 0x20) then some 0xFFFFFF else
  match firstStage ss (fun _ st => !d.lookback && st.readsImage) with
  | some i => some i
  | none =>
  match firstStage ss (fun _ st => st.trig == 2 && decide (d.refSource > 1) && !d.refcmp && d.repeatLines == 0) with
  | some i => some i
  | none =>
  match firstStage ss (fun _ st => (st.op == 0x11 && d.nTrees == 0) || (st.op == 0x12 && !d.cnnPresent)) with
  | some i => some i
  | none => firstStage ss (fun _ st => st.param.length != opLength st.op st.param)

/-- L of R257 for an epoch: the LINES of the bound object, else REPEAT_LINES. -/
def State.repeatL (s : State) (d : Container) (epoch : Nat) : Nat :=
  match s.boundRef epoch with
  | some b => b.2.lines
  | none => d.repeatLines

end Sys2Proof.Machine
end

