-- ==== Sys2Proof/Machine/Rings.lean ====
section
/-! DEFINITION. The look-back and overview rings (R301, R504, R514-R522): groups, records, the directory, and reading an area back. -/

namespace Sys2Proof.Machine

/- CODEC (R525). -/

/-- LB_NEAR or OV_NEAR. -/
def Container.ringNear (d : Container) (ov : Bool) : Nat := if ov then d.f 0x00C0 0 0x00 11 8 8 else d.f 0x00C0 0 0x00 3 0 8
/-- LB_STATIC or OV_STATIC. -/
def Container.ringStatic (d : Container) (ov : Bool) : Bool := if ov then d.b 0x00C0 0 0x00 20 false else d.b 0x00C0 0 0x00 19 false
/-- LB_K or OV_K as 128 bits. -/
def Container.ringK (d : Container) (ov : Bool) : Nat :=
  d.le 0x00C0 0 (if ov then 0x20 else 0x10) 16 0x44444444444444444444444444444444
/-- RESET_LINES. -/
def Container.resetLines (d : Container) : Nat := d.f 0x00C0 0 0x04 15 0 256

/-- Lines between reset groups, counted in rows of the ring (R515). -/
def Container.resetRows (d : Container) (ov : Bool) : Nat := if ov then ceilDiv d.resetLines d.ovScale else d.resetLines

/-- Width of a ring's lines (R516). -/
def Container.ringWidth (d : Container) (ov : Bool) : Nat := if ov then ceilDiv d.width d.ovScale else d.width

/-- Coder parameters of a ring's streams. -/
def Container.ringParams (d : Container) (ov : Bool) : CodecParams :=
  { depth := 12, near := d.ringNear ov, planes := d.planes, table := if d.ringStatic ov then some (nibbles 32 (d.ringK ov)) else none }

/-- The ring: look-back or overview. -/
def CodecState.ring (c : CodecState) (ov : Bool) : RingCodec := if ov then c.ov else c.lb

/-- A ring of the codec replaced by its image. -/
def State.updCodec (s : State) (ov : Bool) (f : RingCodec → RingCodec) : State :=
  if ov then { s with codec := { s.codec with ov := f s.codec.ov } } else { s with codec := { s.codec with lb := f s.codec.lb } }

/-- DRAM region of a ring (R427). -/
def ringRegion (ov : Bool) : Nat := if ov then 4 else 3

/-- Base of a ring (R514). -/
def State.ringBase (s : State) (ov : Bool) : Nat := s.regionBase (ringRegion ov)

/-- Bytes of the learn buffer before its seen map (R184). -/
def Learn.bufBytes (l : Learn) : Nat := l.width * l.lines * 3

/-- Bytes of the seen map (R184). -/
def Learn.seenBytes (l : Learn) : Nat := ceilDiv (l.width * l.lines) 8

/-- Bytes of the look-back region that learning takes, in units of 64 (R184). -/
def Learn.taken (l : Learn) : Nat := ceilDiv (l.bufBytes + l.seenBytes) 64 * 64

/-- Bytes in the data ring (R514); learning shortens the look-back ring (R184). -/
def State.ringData (s : State) (ov : Bool) : Nat :=
  s.regionSize (ringRegion ov) - 0x201000 - (if ov then 0 else (s.reg.learn.map Learn.taken).getD 0)

/-- The ring header as the layout of the regions writes it (R514). -/
def State.initRing (s : State) (ov : Bool) : State :=
  s.write (s.ringBase ov) (leBytes 4 (if ov then 0x4752564F else 0x4752424C) ++ leBytes 4 1 ++ leBytes 8 0x201000 ++
    leBytes 8 (s.ringData ov) ++ leBytes 8 0 ++ leBytes 8 0 ++ leBytes 24 0)

/- Units and load (R502, R504, R505, R522). -/

/-- Width of column j of a line of W pixels (R503). -/
def columnWidth (w j : Nat) : Nat := min 256 (w - 256 * j)

/-- A stream: its source (0 reference, 1 look-back, 2 overview), column, rate in samples/s and context bytes (R503, R505). -/
structure Stream where
  src : Nat
  col : Nat
  rate : Nat
  ctx : Nat
  deriving DecidableEq, Repr, Inhabited

/-- Streams of one source. -/
def sourceStreams (src w planes depth rate : Nat) : List Stream :=
  (upto (ceilDiv w 256)).map (fun j =>
    { src := src, col := j, rate := planes * columnWidth w j * rate, ctx := 32 + planes * (32 + 32 * depth) })

/-- The streams of a deck: references, look-back and overview (R503-R505). -/
def Container.streams (d : Container) (lb ov : Bool) : List Stream :=
  (if d.refcmp then sourceStreams 0 d.width 3 8 d.maxLineRate else []) ++
  (if lb && d.lookback then sourceStreams 1 d.width d.planes 12 d.maxLineRate else []) ++
  (if ov && d.overview then sourceStreams 2 (d.ringWidth true) d.planes 12 (d.maxLineRate / d.ovScale) else [])

/-- Insertion in descending order of rate, equal rates in order. -/
def insertStream (x : Stream) : List Stream → List Stream
  | [] => [x]
  | y :: r => if y.rate < x.rate then x :: y :: r else y :: insertStream x r

/-- The first least of three loads. -/
def leastGroup (a b c : Nat) : Nat := if a ≤ b ∧ a ≤ c then 0 else if b ≤ c then 1 else 2

/-- The streams given one by one to the least-loaded codec group (R504): each stream with its group. `l` are the loads so far. -/
def assignStreams : List Stream → List Nat → List (Stream × Nat)
  | [], _ => []
  | x :: r, l =>
    let k := leastGroup (getN l 0 0) (getN l 1 0) (getN l 2 0)
    (x, k) :: assignStreams r (updAt l k (· + x.rate))

/-- The streams of a deck with their codec groups. -/
def Container.placed (d : Container) (lb ov : Bool) : List (Stream × Nat) :=
  assignStreams ((d.streams lb ov).foldl (fun l x => insertStream x l) []) [0, 0, 0]

/-- Load in samples/s and context bytes of each codec group under a deck. -/
def Container.groupLoads (d : Container) (lb ov : Bool) : List (Nat × Nat) :=
  let p := d.placed lb ov
  (upto 3).map (fun k =>
    let g := p.filter (fun x => x.2 == k)
    (sumN (g.map (fun x => x.1.rate)), sumN (g.map (fun x => x.1.ctx))))

/-- Units of codec group k in service. -/
def State.unitsOf (s : State) (k : Nat) : List Nat := (natsFrom 8 (8 * k)).filter (fun u => !s.isRetired 6 u)

/-- Is some codec group beyond its rate of 4 Gsample/s per unit, or its context memory too small (R522)? Each unit gives its 1/24 of the
context capacity of R502 (DEDUCED, log 33). -/
def State.codecOver (s : State) (lb ov : Bool) : Bool :=
  let g := s.camDeck.groupLoads lb ov
  (upto 3).any (fun k =>
    let n := (s.unitsOf k).length
    decide ((getN g k (0, 0)).1 > 4000000000 * n) || decide ((getN g k (0, 0)).2 > 55296 * n))

/-- The unit of a codec group that takes the next block: the one in service with the fewest blocks coded. R504 says the next idle unit,
which is a matter of timing (DESIGN CHOICE, log 34). -/
def State.nextUnit (s : State) (units : List Nat) : Option Nat :=
  units.foldl (fun a u => match a with
    | none => some u
    | some v => if getN s.codec.blocks u 0 < getN s.codec.blocks v 0 then some u else some v) none

/-- A block of a stream of each of these codec groups is coded: the units count them. -/
def State.countBlocks : List Nat → State → State
  | [], s => s
  | k :: r, s =>
    match s.nextUnit (s.unitsOf k) with
    | some u => State.countBlocks r { s with codec := { s.codec with blocks := updAt s.codec.blocks u satInc } }
    | none => State.countBlocks r s

/- Lines to the rings (R301). -/

/-- Runs of pixels that are not coded. -/
def voidRuns (l : List (Option Nat)) : List (Nat × Nat) := (causeRuns 0 (l.map (fun v => if v.isNone then some 1 else none))).map (fun i => (i.x0, i.x1))

/-- A web line as a look-back row. -/
def WebLine.row (w : WebLine) (planes width : Nat) : RingRow :=
  let void (x : Nat) : Bool := w.voids.any (fun i => decide (i.x0 ≤ x) && decide (x ≤ i.x1))
  { epoch := w.slot.epoch, y := w.slot.wln, time := w.slot.time
    planes := (upto planes).map (fun p => (upto width).map (fun x => if void x then none else some ((getN w.planes p []).getD x 0)))
    voids := w.voids.map (fun i => (i.x0, i.x1)) }

/-- Mean of the values of an overview pixel, none without a value (R301). -/
def ovMean (vs : List Nat) : Option Nat := if vs.isEmpty then none else some ((sumN vs + vs.length / 2) / vs.length)

/-- Values of a plane row over the s columns of each overview pixel. -/
def chunks : Nat → Nat → List (Option Nat) → List (List (Option Nat))
  | 0, _, _ => []
  | n + 1, k, l => l.take k :: chunks n k (l.drop k)

/-- The overview row of the gathered lines (R301). -/
def overviewRow (d : Container) (lines : List WebLine) : Option RingRow :=
  match lines with
  | [] => none
  | w :: _ =>
    let rows := lines.map (fun l => l.row d.planes d.width)
    let planes := (upto d.planes).map (fun p =>
      let cs := rows.map (fun r => chunks (d.ringWidth true) d.ovScale (getN r.planes p []))
      (upto (d.ringWidth true)).map (fun j => ovMean ((cs.map (fun c => getN c j [])).flatten.filterMap id)))
    some { epoch := w.slot.epoch, y := w.slot.wln / d.ovScale, time := w.slot.time, planes := planes
           voids := voidRuns (getN planes 0 []) }

/-- The gathered lines become an overview row. -/
def State.closeOverview (s : State) : State :=
  match s.codec.ovLines with
  | [] => s
  | w :: r =>
    let d := s.deckOf w.slot.epoch
    let s0 : State := { s with codec := { s.codec with ovLines := [] } }
    match overviewRow d (w :: r) with
    | some row => s0.updCodec true (fun k => { k with rows := k.rows ++ [row] })
    | none => s0

/-- Lines of a ring that is shed are not written (R522). -/
def State.shedRow (s : State) : State :=
  { s with codec := { s.codec with shedLines := satInc s.codec.shedLines }, dram := { s.dram with lbDrop := satInc s.dram.lbDrop } }

/-- A web line reaches the codec (R301): a look-back row, and a line of an overview row. -/
def State.codecLine (s : State) (w : WebLine) : State :=
  let d := s.deckOf w.slot.epoch
  let s1 := if !d.lookback then s
    else if s.codec.lb.shed then s.shedRow
    else s.updCodec false (fun k => { k with rows := k.rows ++ [w.row d.planes d.width] })
  if !d.overview then s1
  else
    let s2 := if s1.codec.ovLines.any (fun x => x.slot.epoch != w.slot.epoch) then s1.closeOverview else s1
    let s3 : State := { s2 with codec := { s2.codec with ovLines := s2.codec.ovLines ++ [w] } }
    if w.slot.wln % d.ovScale = d.ovScale - 1 then
      (if s3.codec.ov.shed then { s3.shedRow with codec := { s3.shedRow.codec with ovLines := [] } } else s3.closeOverview)
    else s3

/-- No further line of an epoch will reach the codec. -/
def State.epochDone (s : State) (e : Nat) : Bool :=
  (e != s.deck.epoch || !s.webRunning || (match s.deck.swap with
    | some w => !w.cameraDone && decide (w.switchLine = s.pos.wln)
    | none => false)) &&
  s.intake.slots.all (fun x => x.2.2.epoch != e) && s.span.fromGeometry.all (fun x => x.2.2.1.epoch != e)

/- Groups (R515-R517). -/

/-- Rows of the group that is being gathered: at most 16 of one epoch. -/
def RingCodec.groupRows (k : RingCodec) : List RingRow :=
  match k.rows with
  | [] => []
  | r :: _ => (k.rows.takeWhile (fun x => x.epoch == r.epoch)).take 16

/-- The samples of column j of a row's planes. -/
def columnOf (j : Nat) (planes : List (List (Option Nat))) : List (List (Option Nat)) :=
  planes.map (fun l => (l.drop (256 * j)).take 256)

/-- A ring's blocks for a group: bytes, histories and escapes, column by column. -/
def codeColumns (c : CodecParams) (rows : List RingRow) : Nat → List (List PlaneCtx) → List (List Byte) × List (List PlaneCtx) × Nat
  | _, [] => ([], [], 0)
  | j, x :: xs =>
    let r := codeLines c (rows.map (fun l => columnOf j l.planes)) x
    let t := codeColumns c rows (j + 1) xs
    (blockBytes r.1 :: t.1, r.2.2.1 :: t.2.1, r.2.2.2 + t.2.2)

/-- Column offsets from a start, given the blocks. -/
def offsetsFrom : Nat → List (List Byte) → List Nat
  | _, [] => []
  | o, b :: r => o :: offsetsFrom (o + b.length) r

/-- Void entries of a group's lines, from line `i` on (R516). -/
def voidEntries : Nat → List RingRow → List (List Nat)
  | _, [] => []
  | i, r :: rs => r.voids.map (fun v => [i * 2 ^ 28 + v.1, v.2]) ++ voidEntries (i + 1) rs

/-- The record of a group (R516). -/
def groupRecord (d : Container) (ov reset last : Bool) (g : Nat) (rows : List RingRow) (blocks : List (List Byte)) : List Byte :=
  let c := d.ringParams ov
  let v := voidEntries 0 rows
  let w := d.ringWidth ov
  let head := 0x50 + 4 * blocks.length + 8 * v.length
  let body := blocks.flatten
  let r0 := rows.headD { epoch := 0, y := 0, time := 0, planes := [] }
  wordsBytes [0x5052474C,
    rows.length + 2 ^ 8 * c.planes + 2 ^ 12 * c.near + 2 ^ 16 * b2n reset + 2 ^ 17 * b2n (d.ringStatic ov) + 2 ^ 18 * b2n last +
      2 ^ 19 * b2n ov + 2 ^ 24] ++
  leBytes 8 g ++ wordsBytes [r0.epoch, w + 2 ^ 24 * (if ov then d.ovScale else 1)] ++ leBytes 8 r0.y ++ leBytes 8 r0.time ++
  wordsBytes [v.length, blocks.length, head + body.length, 0, 0, 0] ++
  leBytes 16 (if d.ringStatic ov then d.ringK ov else 0) ++ wordsBytes (offsetsFrom head blocks) ++ wordsBytes v.flatten ++ body

/-- A directory entry (R517). -/
def dirEntry (g epoch lines : Nat) (reset dropped last : Bool) (y0 off len : Nat) : List Byte :=
  leBytes 8 g ++ wordsBytes [epoch, lines + 2 ^ 16 * b2n reset + 2 ^ 17 * b2n dropped + 2 ^ 18 * b2n last] ++ leBytes 8 y0 ++
  wordsBytes [off / 64, len]

/-- The groups still held when bytes [off, off + len) and the directory entry of group g are about to be written: the newest group
concerned and all older ones go (R517). -/
def RingCodec.evict (k : RingCodec) (g off len : Nat) : List (Nat × Nat × Nat) :=
  let hit (h : Nat × Nat × Nat) : Bool := decide (h.1 + 65536 ≤ g) || (decide (h.2.1 < off + len) && decide (off < h.2.1 + h.2.2))
  let last := maxN ((k.held.filter hit).map (fun h => h.1 + 1))
  k.held.filter (fun h => decide (last ≤ h.1))

/-- A group's parts are written in the order of R517: OLDEST, the record, the directory entry, NEXT. -/
def State.placeGroup (s : State) (ov : Bool) (off : Nat) (record entry : List Byte) : State :=
  let k := s.codec.ring ov
  let g := k.next
  let held := k.evict g off record.length
  let oldest := ((held.head?).map (·.1)).getD g
  let b := s.ringBase ov
  let s1 := s.write (b + 0x20) (leBytes 8 oldest)
  let s2 := s1.write (b + 0x201000 + off) record
  let s3 := s2.write (b + 0x1000 + 32 * (g % 65536)) entry
  let s4 := s3.write (b + 0x18) (leBytes 8 (g + 1))
  s4.updCodec ov (fun k => { k with
    next := g + 1, oldest := oldest, off := if record.isEmpty then k.off else ceilDiv (off + record.length) 64 * 64,
    held := held ++ [(g, off, record.length)] })

/-- A ring at a group boundary (R522): it is shed, look-back only after overview, or it returns with a reset group. Rows of a ring that is shed are not
written. -/
def State.shedRing (s : State) (ov : Bool) : State :=
  let full := s.codecOver true true && (ov || (s.codec.ov.shed && s.codecOver true false))
  let k := s.codec.ring ov
  let lost := if full then k.rows.length else 0
  let s1 := s.updCodec ov (fun k => { k with
    shed := full, mustReset := k.mustReset || (k.shed && !full), rows := if full then [] else k.rows })
  { s1 with
    codec := { s1.codec with shedLines := satAdd s1.codec.shedLines lost }
    dram := { s1.dram with lbDrop := satAdd s1.dram.lbDrop lost } }

/-- Shedding, overview first (R522): each ring at its group boundary, which a ring without rows is at. -/
def State.shedAt (s : State) (at' : Bool → Bool) : State :=
  let s1 := if at' true || s.codec.ov.rows.isEmpty then s.shedRing true else s
  if at' false || s1.codec.lb.rows.isEmpty then s1.shedRing false else s1

/-- Shedding when a unit leaves or returns (R522). -/
def State.shedCodec (s : State) : State := s.shedAt (fun _ => false)

/-- An uncorrectable error in a codec unit (R521, R574): code 1 in a context or block buffer of a ring stream, 2 in decoding. -/
def State.codecOccur (s : State) (unit code : Nat) (line : Nat × Int) : State :=
  let r := s.occur 6 unit code 0 line
  if r.1 then r.2.shedCodec else r.2

/-- The group that is being gathered closes (R515): written, or DROPPED (R517). -/
def State.closeGroup (s : State) (ov dropped : Bool) : State :=
  let k := s.codec.ring ov
  let rows := k.groupRows
  match rows with
  | [] => s
  | r0 :: _ =>
    let d := s.deckOf r0.epoch
    let rest := k.rows.drop rows.length
    let last := rest.all (fun x => x.epoch != r0.epoch) && s.epochDone r0.epoch && (!ov || s.codec.ovLines.all (fun x => x.slot.epoch != r0.epoch))
    let reset := k.mustReset || k.epoch != some r0.epoch || decide (k.sinceReset ≥ d.resetRows ov)
    let ncol := ceilDiv (d.ringWidth ov) 256
    let since := if reset then rows.length else k.sinceReset + rows.length
    if dropped then
      let s1 := s.placeGroup ov k.off [] (dirEntry k.next r0.epoch rows.length reset true last r0.y k.off 0)
      let s2 := s1.updCodec ov (fun k => { k with rows := rest, epoch := some r0.epoch, mustReset := true, ctx := [], sinceReset := 0 })
      ({ s2 with dram := { s2.dram with lbDrop := satAdd s2.dram.lbDrop rows.length } } : State).shedAt (· == ov)
    else
      let ctx := if reset then List.replicate ncol (freshStream (d.ringParams ov)) else k.ctx
      let coded := codeColumns (d.ringParams ov) rows 0 ctx
      let record := groupRecord d ov reset last k.next rows coded.1
      let off := if k.off + record.length > s.ringData ov then 0 else k.off
      let s1 := s.placeGroup ov off record (dirEntry k.next r0.epoch rows.length reset false last r0.y off record.length)
      let s2 := s1.updCodec ov (fun k => { k with
        rows := rest, epoch := some r0.epoch, mustReset := false, ctx := if last then [] else coded.2.1, sinceReset := since })
      let groups := (d.placed true true).filterMap (fun x => if x.1.src = (if ov then 2 else 1) then some x.2 else none)
      let s3 := State.countBlocks groups s2
      ({ s3 with codec := { s3.codec with escapes := satAdd s3.codec.escapes coded.2.2 } } : State).shedAt (· == ov)

/-- The group closes, with the units that corrected an error in a context or block buffer of it, and the one that met an error it could not correct: the
group is then DROPPED, and the next one is a reset group (R521). -/
def State.closeCoded (s : State) (ov : Bool) (error : Option Nat) (corrected : List Nat) : State :=
  let s1 : State := { s with codec := { s.codec with eccCorr := corrected.foldl (fun l u => updAt l u satInc) s.codec.eccCorr } }
  match error with
  | none => s1.closeGroup ov false
  | some u =>
    let s2 := s1.closeGroup ov true
    ({ s2 with codec := { s2.codec with eccUnc := updAt s2.codec.eccUnc u satInc } } : State).codecOccur u 1 s2.faultLine

/-- The last overview row of an epoch uses only the lines that exist (R301). -/
def State.endOverview (s : State) : State :=
  match s.codec.ovLines with
  | [] => s
  | w :: _ => if s.epochDone w.slot.epoch then s.closeOverview else s

/-- CODEC_GROUP_CLOSE (R515): a group closes when it holds 16 lines or reaches the last line of its epoch. Otherwise nothing happens. -/
def execCodecGroupClose (overview : Bool) (s : State) (error : Option Nat := none) (corrected : List Nat := []) : Outcome :=
  let s1 := if overview then s.endOverview else s
  let rows := (s1.codec.ring overview).groupRows
  match rows with
  | [] => .next s1
  | r0 :: _ =>
    let more := ((s1.codec.ring overview).rows.drop rows.length).any (fun x => x.epoch != r0.epoch)
    if rows.length = 16 || more || s1.epochDone r0.epoch then .next (s1.closeCoded overview error corrected) else .next s1

/-- CODEC_FLUSH_TIMEOUT (R515): FLUSH_US after the emission of its first line the group closes. -/
def execCodecFlushTimeout (overview : Bool) (s : State) (error : Option Nat := none) (corrected : List Nat := []) : Outcome :=
  .next (if (s.codec.ring overview).rows.isEmpty then s else s.closeCoded overview error corrected)

/-- RING_WRITE_TIMEOUT (R494, R517): a group of which a line was not written within 1 ms of its emission is DROPPED. -/
def execRingWriteTimeout (overview : Bool) (s : State) : Outcome := .next (s.closeGroup overview true)

/- Reading the rings (R303, R518, R519). -/

/-- A directory entry read back: epoch, lines, RESET, DROPPED, LAST, Y0. -/
structure DirEntry where
  epoch : Nat
  lines : Nat
  reset : Bool
  dropped : Bool
  last : Bool
  y0 : Nat
  deriving DecidableEq, Repr, Inhabited

/-- The directory entry of group g. -/
def State.dirOf (s : State) (ov : Bool) (g : Nat) : DirEntry :=
  let b := s.read (s.ringBase ov + 0x1000 + 32 * (g % 65536)) 32
  let w := wordAt b 0x0C
  { epoch := wordAt b 8, lines := w % 32, reset := bitAt w 16, dropped := bitAt w 17, last := bitAt w 18, y0 := leAt b 0x10 8 }

/-- The groups held with their entries, oldest first. -/
def State.heldGroups (s : State) (ov : Bool) : List ((Nat × Nat × Nat) × DirEntry) :=
  (s.codec.ring ov).held.map (fun h => (h, s.dirOf ov h.1))

/-- Groups from the newest reset group at or before a group, up to it; none where a DROPPED group or the end of the ring comes first
(R518). The list runs from the group backwards. -/
def resetChain : List ((Nat × Nat × Nat) × DirEntry) → Option (List ((Nat × Nat × Nat) × DirEntry))
  | [] => none
  | h :: r =>
    if h.2.dropped then none
    else if h.2.reset then some [h]
    else (resetChain r).map (fun l => l ++ [h])

/-- Does a group hold line y of epoch e? -/
def DirEntry.holds (en : DirEntry) (e y : Nat) : Bool := en.epoch == e && decide (en.y0 ≤ y) && decide (y < en.y0 + en.lines)

/-- The chain of groups to decode for line y of epoch e. -/
def State.chainFor (s : State) (ov : Bool) (e y : Nat) : Option (List ((Nat × Nat × Nat) × DirEntry)) :=
  let l := (s.heldGroups ov).reverse.dropWhile (fun h => !h.2.holds e y)
  resetChain l

/-- Is line y of epoch e held (R517, R518)? -/
def State.lineHeld (s : State) (ov : Bool) (e y : Nat) : Bool := (s.chainFor ov e y).isSome

/-- Is line y past the last line of epoch e, as its LAST group shows? -/
def State.pastEpoch (s : State) (ov : Bool) (e y : Nat) : Bool :=
  (s.heldGroups ov).any (fun h => h.2.epoch == e && h.2.last && decide (h.2.y0 + h.2.lines ≤ y))

/-- VOID marks of a group's lines over a column, from its void entries (R516). -/
def voidMarks (rec : List Byte) (lines width j : Nat) : List (List Bool) :=
  let nv := wordAt rec 0x28
  let ncol := wordAt rec 0x2C
  let ents := (upto nv).map (fun v => (wordAt rec (0x50 + 4 * ncol + 8 * v), wordAt rec (0x54 + 4 * ncol + 8 * v)))
  (upto lines).map (fun i => (natsFrom (columnWidth width j) (256 * j)).map (fun x =>
    ents.any (fun e => decide (fld e.1 31 28 = i) && decide (e.1 % 2 ^ 17 ≤ x) && decide (x ≤ e.2 % 2 ^ 17))))

/-- Column j of the lines of a chain of groups: samples per line and plane, none where VOID. An error that could not be corrected leaves the column empty
until the next reset group (R521). -/
def State.decodeChain (s : State) (ov : Bool) (j : Nat) :
    List ((Nat × Nat × Nat) × DirEntry) → List PlaneCtx → List (Nat × List (List (Option Nat)))
  | [], _ => []
  | h :: r, ctx =>
    let rec' := s.read (s.ringBase ov + 0x201000 + h.1.2.1) h.1.2.2
    let w1 := wordAt rec' 4
    let c : CodecParams := { depth := 12, near := fld w1 15 12, planes := fld w1 11 8
                             table := if bitAt w1 17 then some (nibbles 32 (leAt rec' 0x40 16)) else none }
    let marks := voidMarks rec' h.2.lines (wordAt rec' 0x14 % 2 ^ 17) j
    let bits := unpackBits (rec'.drop (wordAt rec' (0x50 + 4 * j)))
    if s.codec.bad.contains (j, h.1.1) then [] else
    match decodeLines c marks (if h.2.reset then freshStream c else ctx) bits with
    | none => []
    | some (ls, ctx1, _) =>
      (List.zipWith (fun i (x : List (List Nat) × List Bool) =>
        (h.2.y0 + i, x.1.map (fun p => List.zipWith (fun v (m : Bool) => if m then none else some v) p x.2)))
        (upto h.2.lines) (ls.zip marks)) ++ s.decodeChain ov j r ctx1

/-- The decode of the running command meets errors that could not be corrected (R521): unit, column and group of each. -/
def State.withBad (s : State) (bad : List (Nat × Nat × Nat)) : State :=
  bad.foldl (fun (s : State) b => s.codecOccur b.1 2 s.faultLine) { s with codec := { s.codec with bad := bad.map (·.2) } }

/-- The command's decode is over. -/
def State.endBad (s : State) : State := { s with codec := { s.codec with bad := [] } }

/-- Lines y to y + n − 1 of epoch e over columns of pixels [x, x + m): each line its planes of m samples, none where VOID, outside the
epoch or the line, or not held. -/
def State.ringArea (s : State) (ov : Bool) (e : Nat) (y : Int) (n : Nat) (x : Int) (m : Nat) : List (List (List (Option Nat))) :=
  let d := s.deckOf e
  let planes := d.planes
  let w := d.ringWidth ov
  let ys : List Int := (upto n).map (fun (i : Nat) => y + i)
  let cols : List Nat := (upto (ceilDiv w 256)).filter (fun (j : Nat) => decide (x < 256 * j + 256) && decide ((256 * j : Int) < x + m))
  let chains := (ys.filterMap (fun (i : Int) => if i < 0 then none else s.chainFor ov e i.toNat)).eraseDups
  let long := chains.filter (fun c => !chains.any (fun c2 => decide (c.length < c2.length) && c.isPrefixOf c2))
  let data := cols.map (fun (j : Nat) => (j, (long.map (fun c => s.decodeChain ov j c [])).flatten))
  ys.map (fun (i : Int) => (upto planes).map (fun p => (upto m).map (fun (k : Nat) =>
    let q : Int := x + k
    if q < 0 || i < 0 || decide (q ≥ (w : Int)) then none
    else match lookupN (q.toNat / 256) data with
      | none => none
      | some ls => match lookupN i.toNat ls with
        | none => none
        | some l => (getN l p []).getD (q.toNat % 256) none)))

end Sys2Proof.Machine
end

