-- ==== Sys2Proof/Machine/Span.lean ====
section
/-! DEFINITION. Geometry and Span as commands (R136-R148): a web line leaves geometry, and Span emits it to its consumers. -/

namespace Sys2Proof.Machine

/-- Offsets of the camera lines that a web line reads for camera c: q, and q + 1 where r is not 0, over the planes in use (R136). -/
def Container.lineReads (d : Container) (c : Nat) : List Nat :=
  ((upto d.planes).map (fun p => let y := d.dly c p; if y % 16 = 0 then [y / 16] else [y / 16, y / 16 + 1])).flatten

/-- Does camera line `m` of camera c exist (R138)? Not before the epoch begun at mode entry, nor before the switch line for a
camera that the old deck did not enable. -/
def State.lineExists (s : State) (c m : Nat) : Bool :=
  decide (s.intake.firstSer ≤ m) && (match s.intake.switchSer with
    | some (sw, old) => decide (sw ≤ m) || (s.deckOf old).camEn c
    | none => true)

/-- Is camera line `ser - off` settled for the web line: received or VOID, or not existing (R137)? -/
def State.lineSettled (s : State) (c ser off : Nat) : Bool :=
  if ser < off ∨ !s.lineExists c (ser - off) then true
  else match (s.cam c).lineAt (ser - off) with
    | some l => !l.held
    | none => false

/-- May the web line at the head leave geometry (R112, R137)? With LNUM = 0 on any camera every port waits for the strip's frames. -/
def State.geometryReady (s : State) (ser strip : Nat) (d : Container) : Bool :=
  d.camsOn.all (fun c => (d.lineReads c).all (fun o => s.lineSettled c ser o)) &&
  (d.camsOn.all d.lnum || d.camsOn.all (fun c => (s.cam c).frameOf strip == FrameSt.closed))

/-- The camera line `ser - off` as geometry reads it: a line that does not exist is VOID (R138). -/
def State.readLine (s : State) (c ser off : Nat) : CamLine :=
  if ser < off ∨ !s.lineExists c (ser - off) then { ser := ser - off, void := some 1 }
  else ((s.cam c).lineAt (ser - off)).getD { ser := ser - off, void := some 1 }

/-- The cause that the camera lines read leave to a web line: of several VOID lines with different causes the first in the order that R142 gives for
two positions (DESIGN CHOICE, log 156). -/
def State.voidCause (s : State) (d : Container) (c ser : Nat) : Option Nat :=
  (d.lineReads c).foldl (fun a o =>
    match a, (s.readLine c ser o).void with
    | some x, some y => some (firstCause x y)
    | some x, none => some x
    | none, v => v) none

/-- Plane p of camera c for a web line, before the remap (R136). -/
def planeLine (d : Container) (c p : Nat) (lines : List (Nat × List (List Nat))) : List Nat :=
  let y := d.dly c p
  let a := getN ((lookupN (y / 16) lines).getD []) p []
  let b := getN ((lookupN (y / 16 + 1) lines).getD []) p []
  if y % 16 = 0 then a else List.zipWith (downWeb (y % 16)) a b

/-- Settings generation of the latest camera line that a web line reads (R143). -/
def State.readGen (s : State) (d : Container) (c ser : Nat) : Nat := ((s.cam c).setAt (ser - minN 1023 (d.lineReads c))).gen

/-- A camera's part of a web line, and whether a source position was clamped (R136-R139). -/
def State.camSpan (s : State) (d : Container) (ser k : Nat) : CamSpan × Bool :=
  let c := d.camAt k
  match s.voidCause d c ser with
  | some v => ({ pos := k, void := some v, gen := s.readGen d c ser }, false)
  | none =>
    let lines := (d.lineReads c).eraseDups.map (fun o =>
      (o, (correctLine d s.profile.current s.cal.inUse c (s.readLine c ser o)).1))
    let pos := (upto (d.noutAt k)).map (fun j => (upto d.planes).map (fun p => remapPos (d.linePx c) j (d.remap c j) (d.xshift c p)))
    let planes := (upto d.planes).map (fun p =>
      let l := planeLine d c p lines
      pos.map (fun u => remapAt l (u.getD p (0, false)).1))
    ({ pos := k, planes := planes, gen := s.readGen d c ser },
     pos.any (fun u => u.any (·.2)))

/-- Camera lines that no web line can read any more leave the line store: 66 lines hold every line of the largest DLY (R137). That the port has
them is remembered while their strip can be open (R109). -/
def Camera.trim (m : Camera) (ser : Nat) : Camera :=
  { m with
    lines := m.lines.filterMap (fun l =>
      if ser < l.ser + 66 then some l else if ser < l.ser + lineSpan then some { l with raw := [] } else none)
    unsure := m.unsure.filter (fun r => r.2.all (fun e => decide (ser < e + lineSpan))) }

/-- As `Camera.trim`, for every camera. -/
def State.trimLines (s : State) (ser : Nat) : State :=
  { s with intake := { s.intake with cam := s.intake.cam.map (fun m => m.trim ser) } }

/-- An ECC error that the geometry stage meets at camera c as it forms web line `ser` (R147): a corrected one counts in ECC_CORR; an uncorrectable one
in ECC_UNC, and the camera line becomes VOID; in a table word it is an occurrence against the port. -/
def State.geometryHit (s : State) (d : Container) (ser : Nat) (x : Nat × EccHit) : State :=
  let c := x.1
  let h := x.2
  let at_ := ser - h.off
  let s1 := s.updCam c (fun m => m.tally (fun t =>
    if h.unc then (if h.odd then { t with eccUncOdd := satInc t.eccUncOdd } else { t with eccUnc := satInc t.eccUnc })
    else if h.odd then { t with eccCorrOdd := satInc t.eccCorrOdd } else { t with eccCorr := satInc t.eccCorr }))
  if !h.unc || !d.camEn c then s1 else
  let hit (l : CamLine) : Bool := l.ser == at_ && l.void.isNone && !l.held
  let s2 := s1.updCam c (fun m => { m with
    lines := m.lines.map (fun l => if hit l then { l with void := some 1, raw := [] } else l)
    count := if m.lines.any hit then { m.count with voidlines := satInc m.count.voidlines } else m.count })
  if h.table then s2.tableOccur c (s2.lineOfSer at_) else s2

/-- A web line leaves geometry (R137), after the ECC errors that the stage meets on the way (R147). In CALIBRATE a phase of CAL_FLAT takes the camera
lines that have come. Until the line is ready nothing happens. -/
def State.geometryLeaves (s0 : State) (hits : List (Nat × EccHit)) : State :=
  match s0.intake.slots with
  | [] => s0
  | (ser, strip, slot) :: rest =>
    let d := s0.deckOf slot.epoch
    if !s0.geometryReady ser strip d then s0 else
    let s := hits.foldl (fun s h => s.geometryHit d ser h) s0
    let parts := (upto d.ncam).map (fun k => s.camSpan d ser k)
    let s1 := if slot.mode == .calibrate then s.calLine strip else s
    let s2 := forEach (fun k s => if ((getN parts k default).2) then
        s.updCam (d.camAt k) (fun m => { m with remapClip := satInc m.remapClip }) else s) (upto d.ncam) s1
    ({ s2 with
      intake := { s2.intake with slots := rest }
      span := { s2.span with fromGeometry := s2.span.fromGeometry ++ [(ser, strip, slot, parts.map (·.1))] } } : State).trimLines ser

/-- The generation of each camera in a web line (R143). -/
def lineGens (d : Container) (parts : List CamSpan) : List (Nat × Nat) := parts.map (fun p => (d.camAt p.pos, p.gen))

/-- An essential block fails (R553, R575): the FAULT record of KIND 5. The device enters SAFE_HOLD when the command that found it has
taken effect (`State.settle`). -/
def State.failEssential (s : State) (block inst code : Nat) : State :=
  let s1 := if s.dram.failed then s else s.faultRecord 5 block inst code 1 0 s.faultLine 0
  { s1 with sys := { s1.sys with failed := true } }

/-- Span emits the oldest web line to the codec, the compare stage and the statistics stage (R143); a CALIBRATE line goes to
the statistics stage alone. A line of R89 is VOID across the full width; an uncorrectable error in the overlap buffer of a seam voids the ranges of its
two positions and their overlap (R148). -/
def State.spanEmit (s : State) (bufferError : Option Nat) : State :=
  match s.span.fromGeometry with
  | [] => s
  | (ser, strip, slot, parts) :: rest =>
    let d := s.deckOf slot.epoch
    let out := spanLine d s.profile.current parts bufferError
    let voids := if slot.overspeed then [{ x0 := 0, x1 := d.width - 1, cause := 3 }] else out.2
    let w : WebLine := { ser := ser, strip := strip, slot := slot, planes := out.1, voids := voids, gens := lineGens d parts }
    let fb := fallbackSeams d parts
    let sp := { s.span with
      fromGeometry := rest
      fallback := (upto 24).map (fun k => if fb.contains k then satInc (getN s.span.fallback k 0) else getN s.span.fallback k 0)
      unc := if bufferError.isSome then satInc s.span.unc else s.span.unc
      toStats := s.span.toStats ++ [w] }
    let s1 : State := if slot.mode == .calibrate then { s with span := sp }
      else ({ s with span := { sp with toCompare := sp.toCompare ++ [w] } } : State).codecLine w
    match bufferError with
    | none => s1
    | some _ =>
      s1.occurEssential 3 0 1 0 (slot.wln, slot.wpos)

end Sys2Proof.Machine
end

