-- ==== Sys2Proof/Machine/Compare.lean ====
section
/-! DEFINITION. Registration line by line (R186-R199), the compare stage (R206-R213) and learning (R183-R185). -/

namespace Sys2Proof.Machine

/- Colour and difference (R207-R211). -/

/-- METRIC. -/
def Container.metric (d : Container) : Nat := d.f 0x0050 0 0x00 1 0 1
/-- WL, WA, WB. -/
def Container.weights (d : Container) : Nat × Nat × Nat :=
  (d.f 0x0050 0 0x04 15 0 256, d.f 0x0050 0 0x04 31 16 256, d.f 0x0050 0 0x08 15 0 256)
/-- The matrix A, row by row (R231). -/
def Container.matA (d : Container) : List Int :=
  [d.sf 0x0050 0 0x0C 15 0 1777, d.sf 0x0050 0 0x0C 31 16 1541, d.sf 0x0050 0 0x10 15 0 778,
   d.sf 0x0050 0 0x10 31 16 871, d.sf 0x0050 0 0x14 15 0 2929, d.sf 0x0050 0 0x14 31 16 296,
   d.sf 0x0050 0 0x18 15 0 73, d.sf 0x0050 0 0x18 31 16 448, d.sf 0x0050 0 0x1C 15 0 3575]

/-- Row i of A applied to a triple (R207). -/
def tristim (a : List Int) (i : Nat) (p0 p1 p2 : Nat) : Nat :=
  clamp12 ((getN a (3 * i) 0 * p0 + getN a (3 * i + 1) 0 * p1 + getN a (3 * i + 2) 0 * p2 + 2048) / 4096)

/-- The largest y of at most 12 bits with y³ ≤ n, by bisection. -/
def cubeRoot : Nat → Nat → Nat → Nat
  | 0, _, acc => acc
  | f + 1, n, acc => if (acc + 2 ^ f) ^ 3 ≤ n then cubeRoot f n (acc + 2 ^ f) else cubeRoot f n acc

/-- The function F (R208). -/
def labF (t : Nat) : Nat := if t ≤ 36 then 565 + (t * 31896 + 2048) / 4096 else cubeRoot 12 (t * 16769025) 0

/-- L, a, b in units of 1/64 (R209). -/
def labOf (a : List Int) (p0 p1 p2 : Nat) : Int × Int × Int :=
  let fx : Int := labF (tristim a 0 p0 p1 p2)
  let fy : Int := labF (tristim a 1 p0 p1 p2)
  let fz : Int := labF (tristim a 2 p0 p1 p2)
  ((7424 * fy + 2048) / 4096 - 1024, (32000 * (fx - fy) + 2048) / 4096, (12800 * (fy - fz) + 2048) / 4096)

/-- The difference value D of two Lab triples (R210). METRIC 3 is misuse (R230). -/
def diffValue (metric : Nat) (w : Nat × Nat × Nat) (x y : Int × Int × Int) : Nat :=
  let el := (w.1 * (x.1 - y.1).natAbs + 128) / 256
  let ea := (w.2.1 * (x.2.1 - y.2.1).natAbs + 128) / 256
  let eb := (w.2.2 * (x.2.2 - y.2.2).natAbs + 128) / 256
  let d := if metric = 0 then el + ea + eb
    else if metric = 1 then isqrt (el * el + ea * ea + eb * eb)
    else max el (isqrt (ea * ea + eb * eb))
  min d 0xFFFE

/-- STATE of a compared pixel: 2 hard, 1 soft, 0 pass (R211). -/
def pixelState (d : Container) (cls dv : Nat) : Nat := if dv ≥ d.hard cls then 2 else if dv ≥ d.soft cls then 1 else 0

/- Coarse registration (R186). -/

/-- What registration works against: lines per repeat and the nominal repeat length in nm. -/
structure RegObject where
  slot : Nat
  lines : Nat
  nominal : Int
  obj : RefSlot

/-- The object bound by the deck of an epoch (R186, R200). -/
def State.boundObject (s : State) (epoch : Nat) : Option RegObject :=
  (s.boundRef epoch).map (fun b =>
    { slot := b.1, lines := b.2.lines, nominal := ((b.2.lines * b.2.pitchY / 65536 : Nat) : Int), obj := b.2 })

/-- The learning that has begun its first repeat and not ended its last (R183). -/
def RegState.learning (r : RegState) : Option Learn := r.learn.filter (fun k => k.rep.isSome && !k.encoding)

/-- What the lines of an epoch register against: while learning, LINES of the command and floor(LINES × PITCH ÷ 2^16); else the object
bound (R183, R186, R200). -/
def State.regObject (s : State) (d : Container) (epoch : Nat) : Option RegObject :=
  match s.reg.learning with
  | some k => some { slot := k.slot, lines := k.lines, nominal := ((k.lines * d.pitch / 65536 : Nat) : Int), obj := s.refSlot k.slot }
  | none => s.boundObject epoch

/-- roff and lrep of a line (R186); the last measured length is that of the line's own epoch. -/
def State.coarse (s : State) (d : Container) (o : RegObject) (l : LineSlot) : Int × Int :=
  let last := (if l.epoch = s.deck.epoch then s.pos.repeatNm else s.pos.repeatOld).getD o.nominal
  if l.roff = 0xFFFFFFFF ∨ d.refSource > 1 then (l.wpos, last)
  else (l.roff, (lookupN l.ridx s.pos.repeatLens).getD last)

/-- yc in 1/64 line (R186). -/
def coarseY (origin : Nat) (lines : Nat) (roff lrep : Int) : Int :=
  if lrep ≤ 0 then 0 else (((roff - origin) % lrep) * lines * 64) / lrep

/- The field (R188-R192). -/

/-- The update of one node (R189): new node, whether it is valid, an outlier, and the number of clamps. -/
def nodeUpdate (d : Container) (locked : Bool) (node : Int × Int) (m : Int × Int × Nat) : (Int × Int) × Bool × Bool × Nat :=
  let conf := decide (m.2.2 ≥ d.confMin)
  let near := decide ((m.1 - node.1).natAbs ≤ d.jump) && decide ((m.2.1 - node.2).natAbs ≤ d.jump)
  let ok := conf && (!locked || near)
  let alpha : Int := if locked then d.alpha else 256
  let raw := if ok then (node.1 + ((m.1 - node.1) * alpha + 128) / 256, node.2 + ((m.2.1 - node.2) * alpha + 128) / 256) else node
  let new := (clampI (-64 * d.limx) (64 * d.limx) raw.1, clampI (-64 * d.limy) (64 * d.limy) raw.2)
  (new, ok, conf && !ok, b2n (decide (new.1 ≠ raw.1)) + b2n (decide (new.2 ≠ raw.2)))

/-- Insertion into an ascending list of integers. -/
def insertI (x : Int) : List Int → List Int
  | [] => [x]
  | y :: r => if x ≤ y then x :: y :: r else y :: insertI x r

/-- A list of integers in ascending order. -/
def sortI (l : List Int) : List Int := l.foldr insertI []

/-- The lower median of a list of integers (R190); 0 of none. -/
def lowerMedian (l : List Int) : Int := (sortI l).getD ((l.length - 1) / 2) 0

/-- A rebase by k lines (R190). -/
def RegState.rebase (r : RegState) (g : Int) : RegState :=
  let k := (g + 32) / 64
  { r with
    coff := r.coff + 64 * k, field := r.field.map (fun n => (n.1, n.2 - 64 * k)),
    count := { r.count with rebase := satInc r.count.rebase } }

/-- A committed row takes force: the field, the valid fraction and the counters (R189), and the median g of the valid nodes. ALPHA and the jump test go by the
state at the line at which the row takes force (DESIGN CHOICE, log 161). -/
def RegState.takeRow (r : RegState) (d : Container) (row : List (Int × Int × Nat)) : RegState × Int × Bool :=
  let ups := List.zipWith (nodeUpdate d (r.st == 2)) r.field row
  let valid := ups.filter (fun u => u.2.1)
  let g := lowerMedian (valid.map (fun u => u.1.2))
  ({ r with
     field := ups.map (·.1), frac := 256 * valid.length / max 1 d.nodes,
     count := { r.count with
       outlier := satAdd r.count.outlier (ups.filter (fun u => u.2.2.1)).length,
       fieldclip := satAdd r.count.fieldclip (sumN (ups.map (fun u => u.2.2.2))) } }, g, !valid.isEmpty)

/-- The row that takes force at line n (R191). -/
def rowAt (d : Container) (n : Nat) : Option Nat :=
  let f := d.fieldLines
  if f = 0 ∨ n < f + d.fieldLag ∨ (n - d.fieldLag) % f ≠ 0 then none else some ((n - d.fieldLag) / f - 1)

/-- Loss of lock at a line (R192): the state is ACQUIRE, LOSSES counts, REG_LOST is issued with its cause and published. -/
def State.loseLock (s : State) (l : LineSlot) (cause : Nat) : State :=
  let s1 : State := { s with reg := { s.reg with
    st := 1, lockRun := 0, lossRun := 0, count := { s.reg.count with losses := satInc s.reg.count.losses } } }
  (s1.notifyIn l.epoch 0x0203 cause 0 0 l.wln l.wpos l.time).publish 0x08 l.wpos

/-- A field row takes force at its line (R189-R192), or is discarded as late. In state OFF, where only learning measures rows, the state stays (log 160). -/
def State.rowForce (s : State) (d : Container) (l : LineSlot) (j : Nat) : State :=
  let late := (lookupN j s.reg.rows).isNone
  let x : RegState × Int × Bool := match lookupN j s.reg.rows with
    | some row => s.reg.takeRow d row
    | none => ({ s.reg with frac := 0, count := { s.reg.count with latefield := satInc s.reg.count.latefield } }, 0, false)
  let r0 : RegState := { x.1 with rows := s.reg.rows.filter (fun (y : Nat × List (Int × Int × Nat)) => decide (y.1 > j)) }
  let reb := !late && x.2.2 && decide (x.2.1.natAbs > 32 * d.limy)
  if r0.st = 0 then { s with reg := if reb then r0.rebase x.2.1 else r0 }
  else if r0.st = 1 then
    let run := if r0.frac ≥ d.lockFrac then r0.lockRun + 1 else 0
    if run ≥ d.lockRows then
      let r1 := r0.rebase x.2.1
      let s1 : State := { s with reg := { r1 with st := 2, lockRun := 0, lossRun := 0, count := { r1.count with locks := satInc r1.count.locks } } }
      s1.notifyIn l.epoch 0x0202 0 0 0 l.wln l.wpos l.time
    else { s with reg := { (if reb then r0.rebase x.2.1 else r0) with lockRun := run } }
  else
    let run := if r0.frac < d.lossFrac then r0.lossRun + 1 else 0
    let s1 : State := { s with reg := { (if reb then r0.rebase x.2.1 else r0) with lossRun := run } }
    if run ≥ d.lossRows then s1.loseLock l 1 else s1

/-- LOCKS and LOSSES of a change of state (R202). -/
def RegState.countFrom (r : RegState) (st : Nat) : RegState :=
  { r with count := { r.count with
    locks := if st ≠ 2 ∧ r.st = 2 then satInc r.count.locks else r.count.locks,
    losses := if st = 2 ∧ r.st ≠ 2 then satInc r.count.losses else r.count.losses } }

/-- Registration state at WLN 0 of an epoch (R199): START, with START 2 carried only across a swap between equal decks. RIDX goes on across a swap, and so do
the stretch tests already made (R187). -/
def RegState.begin (r : RegState) (old d : Container) (swap : Bool) (epoch : Nat) : RegState :=
  let same := d.refId == old.refId && d.refRev == old.refRev && d.origin == old.origin && decide (d.xoff = old.xoff) &&
    d.width == old.width && d.fieldLines == old.fieldLines
  let zero := List.replicate d.nodes ((0 : Int), (0 : Int))
  let r1 := { r with
    epoch := epoch, rows := [], lockRun := 0, lossRun := 0, log := [], starts := [], tested := if swap then r.tested else [] }
  let r2 :=
    if !d.refcmp then { r1 with st := 0, field := zero, coff := 0 }
    else if d.regStart = 1 then { r1 with st := 2, field := zero, coff := 0 }
    else if d.regStart = 2 ∧ swap ∧ same ∧ r.st ≠ 0 then { r1 with field := if r.field.isEmpty then zero else r.field }
    else { r1 with st := 1, field := zero, coff := 0 }
  r2.countFrom r.st

/-- The stretch test of the repeats that have begun and been measured (R187). -/
def State.stretchTest (s : State) (d : Container) (o : RegObject) (l : LineSlot) : State :=
  let due := s.pos.repeatLens.filter (fun (x : Nat × Int) => decide (x.1 ≤ l.ridx) && !s.reg.tested.contains x.1)
  let bad := due.filter (fun x => decide ((x.2 - o.nominal).natAbs * 65536 > d.stretchMax * o.nominal.natAbs))
  let s1 : State := { s with reg := { s.reg with
    tested := ((due.map (·.1)) ++ s.reg.tested).take 128,
    count := { s.reg.count with stretch := satAdd s.reg.count.stretch bad.length } } }
  if !bad.isEmpty && s1.reg.st == 2 then s1.loseLock l 2 else s1

/-- The repeat that a line belongs to, and the learning state after it: a repeat starts where RIDX increments, or every LINES lines from the first line after the
command with REF_SOURCE none (R183). Lines triggered before the command do not learn. -/
def Learn.advance (k : Learn) (d : Container) (ser : Nat) (l : LineSlot) : Learn :=
  let starts := if d.refSource > 1 then (match k.nextStart with
      | none => true
      | some n => decide (l.wln ≥ n))
    else l.refLabel.isSome
  if !starts || k.encoding || decide (ser < k.since) then k
  else
    let rep := match k.rep with
      | none => 0
      | some r => r + 1
    { k with
      rep := some rep, ridx := l.ridx, seenRep := [], encoding := decide (rep ≥ k.nrep),
      nextStart := if d.refSource > 1 then some (l.wln + k.lines) else none }

/-- Learning follows a line; as its first repeat starts the field and COFF are 0 (R184). -/
def RegState.learnLine (r : RegState) (d : Container) (ser : Nat) (l : LineSlot) : RegState :=
  match r.learn with
  | none => r
  | some k =>
    let k1 := k.advance d ser l
    if k.rep.isNone && k1.rep.isSome then { r with learn := some k1, field := r.field.map (fun _ => (0, 0)), coff := 0 }
    else { r with learn := some k1 }

/-- Does the first repeat run, in which the field and COFF stay 0 (R184)? A row due in it takes no force and counts nowhere (DEDUCED, log 160). -/
def RegState.firstRepeat (r : RegState) : Bool := r.learning.any (fun k => k.rep == some 0)

/-- Registration as a line reaches the compare stage: the epoch's start, learning, reversal, stretch, the row that takes force, and the marks that
later field rows search from (R183-R192, R199). In state OFF only a learned repeat is registered. -/
def State.regLine (s : State) (ser : Nat) (l : LineSlot) : State :=
  let d := s.deckOf l.epoch
  let r := if s.reg.epoch = l.epoch then s.reg else s.reg.begin (s.deckOf s.reg.epoch) d l.switchLine l.epoch
  let s0 : State := { s with
    reg := r.learnLine d ser l
    cmp := if s.reg.epoch = l.epoch then s.cmp else { s.cmp with ivlfull := 0 } }
  let s1 := if l.revFirst && s0.reg.st == 2 then s0.loseLock l 3 else s0
  match s1.regObject d l.epoch with
  | none => s1
  | some o =>
    let s2 := if s1.reg.st = 0 then s1 else s1.stretchTest d o l
    let s3 := match rowAt d l.wln with
      | some j => if s2.reg.firstRepeat then s2 else s2.rowForce d l j
      | none => s2
    let c := s3.coarse d o l
    let start : List RowStart := if d.fieldLines ≠ 0 ∧ l.wln % d.fieldLines = 0 then
      [{ row := l.wln / d.fieldLines, locked := s3.reg.st == 2, field := s3.reg.field }] else []
    { s3 with reg := { s3.reg with
      lrep := c.2, log := ((l.wln, coarseY d.origin o.lines c.1 c.2, s3.reg.coff) :: s3.reg.log).take 8192,
      starts := (start ++ s3.reg.starts).take 80 } }

/- The warp (R195-R197). -/

/-- Displacement at pixel x (R195). -/
def fieldAt (field : List (Int × Int)) (x : Nat) : Int × Int :=
  let nx := field.length
  if nx ≤ 1 then getN field 0 (0, 0)
  else
    let i0 := if x < 128 then 0 else min ((x - 128) / 256) (nx - 2)
    let fx := clampI 0 256 ((x : Int) - 128 - 256 * i0)
    let a := getN field i0 (0, 0)
    let b := getN field (i0 + 1) (0, 0)
    (((256 - fx) * a.1 + fx * b.1 + 128) / 256, ((256 - fx) * a.2 + fx * b.2 + 128) / 256)

/-- The reads of one live pixel: xi, xj, ax, yi, yj, ay, nearest (xq, yq), and whether xr was clamped (R196, R197). -/
structure Warp where
  xi : Nat
  xj : Nat
  ax : Nat
  yi : Nat
  yj : Nat
  ay : Nat
  xq : Nat
  yq : Nat
  clamped : Bool

/-- The warp of pixel x (R196, R197). -/
def warpAt (xoff ycoff : Int) (width lines : Nat) (field : List (Int × Int)) (x : Nat) : Warp :=
  let f := fieldAt field x
  let xr0 := 64 * (x : Int) + xoff + f.1
  let xr := (clampI 0 (64 * ((width : Int) - 1)) xr0).toNat
  let yr := ycoff + f.2
  let yi := ((yr / 64) % lines).toNat
  { xi := xr / 64, xj := min (xr / 64 + 1) (width - 1), ax := xr % 64, yi := yi, yj := (yi + 1) % max 1 lines, ay := (yr % 64).toNat,
    xq := (xr + 32) / 64, yq := (((yr + 32) / 64) % lines).toNat, clamped := decide (xr0 ≠ xr) }

/-- The 12-bit reference sample (R197). -/
def refSample (w : Warp) (top bot : List Nat) : Nat :=
  let t := (64 - w.ax) * top.getD w.xi 0 + w.ax * top.getD w.xj 0
  let b := (64 - w.ax) * bot.getD w.xi 0 + w.ax * bot.getD w.xj 0
  min 4095 ((((64 - w.ay) * t + w.ay * b) * 257 + 32768) / 65536)

/-- Is reference line y inside a band of half-depth B about a centre (R193)? -/
def inBand (b lines : Nat) (centre : Int) (y : Nat) : Bool := decide (((y : Int) - centre + b) % lines < 2 * b)

/-- The reference lines of a band of half-depth B about a centre (R193, R194). -/
def bandLines (b lines : Nat) (centre : Int) : List Nat :=
  ((upto (2 * b)).map (fun (i : Nat) => ((centre - (b : Int) + (i : Int)) % ((max 1 lines : Nat) : Int)).toNat)).eraseDups

/-- Half-depth of the tolerance band (R194). -/
def tolHalf : Nat := 16

/-- The band of an epoch. -/
def RegState.bandOf (r : RegState) (epoch : Nat) : Option Band := r.bands.find? (fun b => b.epoch == epoch)

/-- The codec brings the band of an epoch to a centre: lines held already stay, the others are decoded (R193, R194). The bands of the two newest epochs
are held (R62, R199). -/
def State.decodeBand (s : State) (d : Container) (epoch : Nat) (o : RefSlot) (centre : Int) : State :=
  let old := (s.reg.bandOf epoch).getD { epoch := epoch, centre := centre }
  let band : Band := {
    epoch := epoch, centre := centre
    lines := (bandLines d.bandB o.lines centre).map (fun y => (y, (lookupN y old.lines).getD (s.refLine o y)))
    classes := if d.usesMap o then (bandLines tolHalf o.lines centre).map (fun y => (y, (lookupN y old.classes).getD (s.tolLine o y))) else [] }
  { s with reg := { s.reg with bands := (band :: s.reg.bands.filter (fun b => b.epoch != epoch)).take 2 } }

/-- Does a band hold all that a warp reads (R193, R194, R198)? -/
def Band.holds (b : Band) (d : Container) (o : RefSlot) (w : Warp) : Bool :=
  inBand d.bandB o.lines b.centre w.yi && inBand d.bandB o.lines b.centre w.yj && (!d.usesMap o || inBand tolHalf o.lines b.centre w.yq)

/- Causes (R212, R213, R291). -/

/-- Rank of a cause code; a lower rank applies first (R291). -/
def causeRank : Nat → Nat
  | 0x07 => 1 | 0x08 => 2 | 0x09 => 3 | 0x05 => 4 | 0x06 => 5 | 0x02 => 6 | 0x03 => 7 | 0x0A => 8 | 0x04 => 9 | 0x01 => 10 | _ => 11

/-- The cause of lower rank. -/
def lowerCause (a b : Nat) : Nat := if causeRank b < causeRank a then b else a

/-- The first cause of a list in rank, if any. -/
def bestCause : List Nat → Option Nat
  | [] => none
  | c :: r => match bestCause r with
    | none => some c
    | some d => some (lowerCause c d)

/-- The causes that keep a line from being compared over its full width (R91, R93, R212, R228, R192). RETIRED goes by the line's trigger, and by a
retirement since. -/
def State.fullCauses (s : State) (d : Container) (l : LineSlot) : List Nat :=
  (if l.mode == .makeready then [7] else []) ++
  (if l.mode == .learn || l.mode == .print || !d.inspectEn || !d.refcmp then [8] else []) ++
  (if l.posLost then [9] else []) ++ (if l.reverse then [5] else []) ++
  (if l.retired || s.compareRetired then [6] else []) ++
  (if s.reg.st ≠ 2 then [4] else [])

/-- The cause of each pixel: the lowest rank among the full-width causes, its VOID intervals, and REG_LOCK where it is invalid. -/
def pixelCause (full : Option Nat) (voids : List Interval) (invalid : Bool) (x : Nat) : Option Nat :=
  let v := (voids.filter (fun i => decide (i.x0 ≤ x) && decide (x ≤ i.x1))).map (·.cause)
  bestCause (full.toList ++ v ++ (if invalid then [4] else []))

/-- The normalised intervals of a line (R291) with the ports of the VOID intervals they repeat (R293); above 32 of them one full-width
interval takes their place (R213), and the Boolean says so. -/
def normalise (width : Nat) (full : Option Nat) (voids : List Interval) (causes : List (Option Nat)) : List Interval × Bool :=
  let runs := (causeRuns 0 causes).map (fun r =>
    match voids.find? (fun v => v.x0 == r.x0 && v.x1 == r.x1 && v.cause == r.cause) with
    | some v => v
    | none => r)
  if runs.length > 32 then
    ([{ x0 := 0, x1 := width - 1, cause := match full with
        | some c => lowerCause c 4
        | none => 4 }], true)
  else (runs, false)

/-- Is a band pixel invalid? -/
def BadBand.covers (b : BadBand) (x y : Nat) : Bool := decide (b.x0 ≤ x) && decide (x ≤ b.x1) && decide (b.y0 ≤ y) && decide (y ≤ b.y1)

/-- Does a live pixel's warp read a band pixel that is invalid (R201)? -/
def warpInvalid (bad : List BadBand) (epoch : Nat) (w : Warp) : Bool :=
  bad.any (fun b => b.epoch == epoch && (b.covers w.xi w.yi || b.covers w.xj w.yi || b.covers w.xi w.yj || b.covers w.xj w.yj))

/-- The field and yc + COFF with which a line is warped (R196). -/
def State.warpBase (s : State) (n : Nat) : Int × List (Int × Int) :=
  match s.reg.log.find? (fun (x : Nat × Int × Int) => x.1 == n) with
  | some (_, yc, coff) => (yc + coff, s.reg.field)
  | none => (s.reg.coff, s.reg.field)

/-- The pixels of a line that is compared (R206-R211): STATE, D, CLASS. -/
def comparePixels (d : Container) (band : Band) (w : WebLine) (warps : List Warp) (skip : List Bool) : List (Nat × Nat × Nat) :=
  let a := d.matA
  let p0 := getN w.planes 0 []
  let p1 := getN w.planes 1 []
  let p2 := getN w.planes 2 []
  (upto d.width).map (fun x =>
    if skip.getD x true then (3, 0, 0) else
    match warps[x]? with
    | none => (3, 0, 0)
    | some q =>
      let top := (lookupN q.yi band.lines).getD []
      let bot := (lookupN q.yj band.lines).getD []
      let r (p : Nat) : Nat := refSample q (getN top p []) (getN bot p [])
      let cls := d.rectClass q.xq q.yq (((lookupN q.yq band.classes).getD []).getD q.xq d.tolDefault)
      let dv := diffValue d.metric d.weights (labOf a (p0.getD x 0) (p1.getD x 0) (p2.getD x 0)) (labOf a (r 0) (r 1) (r 2))
      (pixelState d cls dv, dv, cls))

/- Learning (R183, R184). -/

/-- One live pixel of a learned repeat (R184): the 8-bit samples enter the buffer where the pixel is the first of this repeat to reach
its reference pixel. -/
def State.learnPixel (s : State) (k : Learn) (step rep : Nat) (idx : Nat) (v : List Nat) : State :=
  if k.seenRep.contains idx then s else
  let a := k.buf + 3 * idx
  let old := s.read a 3
  let new := (upto 3).map (fun p =>
    let s8 := min 255 ((v.getD p 0 + 8) / 16)
    let r := (old.getD p 0).toNat
    if rep = 0 then s8 else ((r : Int) + clampI (-(step : Int)) step ((s8 : Int) - r)).toNat)
  let sa := k.buf + k.bufBytes + idx / 8
  let seen := (s.read sa 1).headD 0
  let s1 := (s.write a (new.map (fun n => BitVec.ofNat 8 n))).write sa [BitVec.ofNat 8 (setBit seen.toNat (idx % 8))]
  { s1 with reg := { s1.reg with learn := some { k with seenRep := idx :: k.seenRep } } }

/-- The live pixels of a line enter the learn buffer (R184). Pixels that are VOID, or in a gap of a cause that names the image, do not. -/
def State.learnPixels (s : State) (step : Nat) (w : WebLine) (causes : List (Option Nat)) (warps : List Warp) : List Nat → State
  | [] => s
  | x :: r =>
    let s1 := match s.reg.learn, warps[x]? with
      | some k, some q =>
        match k.rep with
        | none => s
        | some rep =>
          let block := match causes.getD x none with
            | some c => [1, 2, 3, 5, 6, 9].contains c
            | none => false
          let isVoid := w.voids.any (fun i => decide (i.x0 ≤ x) && decide (x ≤ i.x1))
          if block || isVoid || k.encoding then s
          else s.learnPixel k step rep (q.yq * k.width + q.xq) (w.planes.map (fun (p : List Nat) => p.getD x 0))
      | _, _ => s
    s1.learnPixels step w causes warps r

/- The compare stage. -/

/-- The warps of a line, or none with no object. -/
def State.lineWarps (s : State) (d : Container) (l : LineSlot) : List Warp :=
  match s.regObject d l.epoch with
  | none => []
  | some o =>
    if o.lines = 0 then [] else
    let b := s.warpBase l.wln
    (upto d.width).map (warpAt d.xoff b.1 d.width o.lines b.2)

/-- At a switch line the band of the new deck is complete (R199). -/
def State.switchBand (s : State) (d : Container) (l : LineSlot) : State :=
  match l.switchLine, s.boundRef l.epoch with
  | true, some b => s.decodeBand d l.epoch b.2 ((s.warpBase l.wln).1 / 64)
  | _, _ => s

/-- Errors of band words met while a line is compared (R201): a corrected one counts in BAND_ECC, an uncorrectable one leaves its pixels invalid and
is an occurrence of the codec unit. -/
def State.bandErrors (s : State) (l : LineSlot) : List BandHit → State
  | [] => s
  | h :: rest =>
    let s1 : State :=
      if h.uncorrectable then
        (({ s with reg := { s.reg with bad := s.reg.bad ++ [{ epoch := l.epoch, y0 := h.y, y1 := h.y, x0 := h.x0, x1 := h.x1 }] } } :
          State).codecOccur h.codecUnit 2 (l.wln, l.wpos))
      else { s with reg := { s.reg with count := { s.reg.count with bandEcc := satInc s.reg.count.bandEcc } } }
    s1.bandErrors l rest

/-- The line of the compare stage (R206-R213) with its learning (R184), for a line whose registration is up to date. `force` names a cause
that covers the whole line because of a buffer error (R228). -/
def State.compareOne (s : State) (w : WebLine) (force : Option Nat) : State × CompLine :=
  let l := w.slot
  let d := s.deckOf l.epoch
  let warps := s.lineWarps d l
  let full0 := s.fullCauses d l
  let band : Option Band := match s.boundRef l.epoch, s.reg.bandOf l.epoch with
    | some o, some b => if warps.all (b.holds d o.2) then some b else none
    | _, _ => none
  let late := full0.isEmpty && band.isNone
  let full := bestCause (full0 ++ force.toList ++ if late then [4] else [])
  let invalid := warps.map (warpInvalid s.reg.bad l.epoch)
  let causes := (upto d.width).map (fun x => pixelCause full w.voids (full.isNone && invalid.getD x false) x)
  let norm := normalise d.width full w.voids causes
  let compared := full.isNone && !norm.2
  let cells := match band with
    | some b => if compared then comparePixels d b w warps (causes.map (·.isSome)) else List.replicate d.width (3, 0, 0)
    | none => List.replicate d.width (3, 0, 0)
  let s1 : State := { s with
    reg := { s.reg with count := { s.reg.count with
      bandlate := if late then satInc s.reg.count.bandlate else s.reg.count.bandlate,
      edgeclamp := if warps.any (·.clamped) then satInc s.reg.count.edgeclamp else s.reg.count.edgeclamp } }
    cmp := { s.cmp with ivlfull := if norm.2 then satInc s.cmp.ivlfull else s.cmp.ivlfull } }
  (s1.learnPixels d.learnStep w causes warps (upto d.width),
   { ser := w.ser, strip := w.strip, slot := l, cells := cells, ivs := norm.1 })

/-- One line through the compare stage (R206): the oldest web line is registered, compared, and passed to the segmenter. `hits` are errors of band words (R201); `corrected` single-bit errors of the working buffers count in SEG_ECC (R228). A compare buffer error leaves it not
compared with cause VOID (R228), and a gap-state error makes the records path close and reopen its gaps (R308); each is an occurrence of the compare stage. Without a
line nothing happens. -/
def State.compareStep (bufferError gapStateError : Bool) (hits : List BandHit) (corrected : Nat) (s : State) : State :=
  match s.span.toCompare with
  | [] => s
  | w :: rest =>
    let s0 : State := { s with
      span := { s.span with toCompare := rest }
      seg := { s.seg with count := { s.seg.count with segEcc := satAdd s.seg.count.segEcc corrected } } }
    let d := s0.deckOf w.slot.epoch
    let s1 := ((s0.regLine w.ser w.slot).switchBand d w.slot).bandErrors w.slot hits
    let r := s1.compareOne w (if bufferError then some 1 else none)
    let s2 : State := { r.1 with cmp := { r.1.cmp with out := r.1.cmp.out ++ [r.2], gapError := r.1.cmp.gapError || gapStateError } }
    let s3 := if bufferError then (s2.occur 4 0 1 0 (w.slot.wln, w.slot.wpos)).2 else s2
    if gapStateError then (s3.occur 4 0 2 0 (w.slot.wln, w.slot.wpos)).2 else s3

/-- Tiles whose bad pixels a restart clears. -/
def badTiles (bad : List BadBand) : Nat := ((bad.map (fun b => (b.x0 / 256, b.y0 / 256))).eraseDups).length

/-- BAND_DECODE (R193, R194, R201, R521): the codec brings the band to the line that is next to be compared. Tiles with invalid pixels restart, and a centre outside the
lines already decoded restarts the tiles of the row that the band begins in, one for each tile column (DEDUCED, log 163). An error that the codec meets in a tile leaves its
pixels invalid until the next restart, and is an occurrence of the codec unit. A corrupt tile is misuse (R203); with no object bound nothing is
decoded. -/
def execBandDecode (error : Option (Nat × Nat)) (s : State) (codecUnit : Nat := 0) : Outcome :=
  let slot := match s.span.toCompare with
    | w :: _ => some w.slot
    | [] => s.pos.lastLine
  match slot with
  | none => .next s
  | some l =>
    let d := s.deckOf l.epoch
    match s.boundObject l.epoch with
    | none => .next s
    | some o =>
      let c := s.coarse d o l
      let centre := (coarseY d.origin o.lines c.1 c.2 + s.reg.coff) / 64
      if !((bandLines d.bandB o.lines centre).map (· / 256)).eraseDups.all (s.tilesOk d o.obj) then .fault (.misuse 203) else
      let mine (b : BadBand) : Bool := b.epoch == l.epoch
      let jumped : Bool := match s.reg.bandOf l.epoch with
        | some b => !inBand d.bandB (max 1 o.lines) b.centre (centre % (max 1 o.lines : Nat)).toNat
        | none => false
      let restarts := badTiles (s.reg.bad.filter mine) + (if jumped then ceilDiv o.obj.width 256 else 0)
      let s1 := s.decodeBand d l.epoch o.obj centre
      let bad := s.reg.bad.filter (fun b => !mine b) ++ (match error with
        | some (tx, ty) => [{ epoch := l.epoch, x0 := 256 * tx, x1 := 256 * tx + 255, y0 := 256 * ty, y1 := 256 * ty + 255 }]
        | none => [])
      let s2 : State := { s1 with
        reg := { s1.reg with bad := bad }
        codec := { s1.codec with tileRestarts := satAdd s1.codec.tileRestarts restarts } }
      .next (if error.isSome then s2.codecOccur codecUnit 2 s2.faultLine else s2)

end Sys2Proof.Machine
end

