-- ==== Sys2Proof/Machine/Segment.lean ====
section
/-! DEFINITION. The segmenter (R214-R228): components, links, swarms, and the descriptor queue. -/

namespace Sys2Proof.Machine

/-- MIN_AREA. -/
def Container.minArea (d : Container) : Nat := d.f 0x0051 0 0x00 31 0 1
/-- MIN_HARD. -/
def Container.minHard (d : Container) : Nat := d.f 0x0051 0 0x04 31 0 1
/-- PAIR_MERGE. -/
def Container.pairMerge (d : Container) : Bool := d.b 0x0051 0 0x08 16 true
/-- MAX_OPEN. -/
def Container.maxOpen (d : Container) : Nat := d.f 0x0051 0 0x08 15 0 32768
/-- STREAK_LINES. -/
def Container.streakLines (d : Container) : Nat := d.f 0x0051 0 0x0C 31 16 65535

/-- A flag bit added to a flags word. -/
def addFlag (f b : Nat) (on : Bool) : Nat := if on then setBit f b else f

/-- Union of two descriptors of one epoch, with sums taken absolutely: the box, the counts, the largest D with the first pixel on ties,
and the time of the earlier first line (R218, R223). -/
def mergeDesc (a b : Descriptor) : Descriptor :=
  if a.area = 0 then { b with flags := Nat.lor a.flags b.flags, link := a.link, segment := a.segment, linkY0 := a.linkY0 }
  else if b.area = 0 then a
  else
    let aFirst := decide (a.maxD > b.maxD) || (a.maxD == b.maxD && (decide (a.maxY < b.maxY) || (a.maxY == b.maxY && decide (a.maxX ≤ b.maxX))))
    let m := if aFirst then a else b
    let top := if a.y0 < b.y0 ∨ (a.y0 = b.y0 ∧ a.fx ≤ b.fx) then a else b
    { a with
      flags := Nat.lor a.flags b.flags, y0 := top.y0, fx := top.fx, time := top.time, wpos := top.wpos, y1 := max a.y1 b.y1,
      x0 := min a.x0 b.x0, x1 := max a.x1 b.x1, area := a.area + b.area, hardArea := a.hardArea + b.hardArea,
      sumD := a.sumD + b.sumD, maxD := m.maxD, maxClass := m.maxClass, maxX := m.maxX, maxY := m.maxY,
      sumX := a.sumX + b.sumX, sumY := a.sumY + b.sumY, classMask := Nat.lor a.classMask b.classMask }

/-- The descriptor of one soft pixel, with absolute sums. -/
def pixelDesc (l : LineSlot) (x : Nat) (c : Nat × Nat × Nat) : Descriptor :=
  { epoch := l.epoch, y0 := l.wln, y1 := l.wln, x0 := x, x1 := x, area := 1, hardArea := b2n (decide (c.1 = 2)), sumD := c.2.1,
    maxD := c.2.1, maxClass := c.2.2, maxX := x, maxY := l.wln, sumX := x, sumY := l.wln, classMask := 2 ^ c.2.2, time := l.time, wpos := l.wpos, fx := x }

/-- Maximal runs of soft pixels of a line: X0, X1 and the run's descriptor (R214). -/
def softRuns (l : LineSlot) : Nat → List (Nat × Nat × Nat) → List (Nat × Nat × Descriptor)
  | _, [] => []
  | x, c :: r =>
    let rest := softRuns l (x + 1) r
    if c.1 = 1 ∨ c.1 = 2 then
      match rest with
      | (a, b, d) :: t => if a = x + 1 then (x, b, mergeDesc (pixelDesc l x c) d) :: t else (x, x, pixelDesc l x c) :: rest
      | [] => [(x, x, pixelDesc l x c)]
    else rest

/-- Maximal ranges of pixels not compared (STATE 3). -/
def notRuns : Nat → List (Nat × Nat × Nat) → List (Nat × Nat)
  | _, [] => []
  | x, c :: r =>
    let rest := notRuns (x + 1) r
    if c.1 = 3 then
      match rest with
      | (a, b) :: t => if a = x + 1 then (x, b) :: t else (x, x) :: rest
      | [] => [(x, x)]
    else rest

/-- Do two ranges of adjacent lines hold 8-neighbours (R214)? -/
def touches (a0 a1 b0 b1 : Nat) : Bool := decide (a0 ≤ b1 + 1) && decide (b0 ≤ a1 + 1)

/-- Two components become one (R214, R220, R222): the lower link survives with its numbering, and the union is a swarm when either is. -/
def Comp.merge (a b : Comp) : Comp :=
  let keep := if b.d.link ≠ 0 ∧ (a.d.link = 0 ∨ b.d.link < a.d.link) then b else a
  let both := decide (a.d.link ≠ 0) && decide (b.d.link ≠ 0) && decide (a.d.link ≠ b.d.link)
  let d := mergeDesc a.d b.d
  let members := (if a.swarm then a.members else 1) + (if b.swarm then b.members else 1)
  { id := min a.id b.id, swarm := a.swarm || b.swarm
    first := if a.d.area = 0 then b.first else if b.d.area = 0 then a.first
      else if a.first.1 < b.first.1 ∨ (a.first.1 = b.first.1 ∧ a.first.2 ≤ b.first.2) then a.first else b.first
    d := { d with
      flags := addFlag (Nat.lor d.flags (keep.d.flags)) 4 both,
      link := keep.d.link, segment := keep.d.segment, linkY0 := keep.d.linkY0 }
    linkHard := a.linkHard || b.linkHard
    unsent := keep.unsent, sent := keep.sent, members := if a.swarm || b.swarm then members else 0 }

/-- The segmenter's count changed. -/
def SegState.tally (g : SegState) (f : SegCount → SegCount) : SegState := { g with count := f g.count }

/-- Fields of a descriptor as R218 gives them: the sums become relative to the box, and the edge flags of R219 are set. -/
def finishDesc (width : Nat) (d : Descriptor) : Descriptor :=
  { d with
    sumX := d.sumX - d.x0 * d.area, sumY := d.sumY - d.y0 * d.area, linkY0 := if d.link = 0 then d.y0 else d.linkY0,
    flags := addFlag (addFlag d.flags 5 (d.x0 == 0)) 6 (decide (d.x1 + 1 = width)) }

/-- A descriptor as its table lays it out (R218): 128 bytes. -/
def descBytes (b : Descriptor) : List Byte :=
  wordsBytes [b.epoch, b.flags] ++ leBytes 8 b.seq ++ leBytes 8 b.y0 ++ leBytes 8 b.y1 ++ wordsBytes [b.x0, b.x1] ++ leBytes 8 b.area ++
    leBytes 8 b.hardArea ++ leBytes 8 b.sumD ++ wordsBytes [b.maxClass * 2 ^ 16 + b.maxD, b.maxX] ++ leBytes 8 b.maxY ++ leBytes 8 b.sumX ++
    leBytes 8 b.sumY ++ wordsBytes [b.classMask, b.link, b.segment, b.prior] ++ leBytes 8 b.linkY0 ++ leBytes 8 b.time

/-- A descriptor enters the queue and takes SEQ (R215, R218). -/
def SegState.enqueue (g : SegState) (d : Descriptor) : SegState :=
  let old := decide (d.epoch ≠ g.seqEpoch)
  { g with
    queue := g.queue ++ [{ d with seq := if old then g.prevSeq else g.seq }]
    seq := if old then g.seq else g.seq + 1, prevSeq := if old then g.prevSeq + 1 else g.prevSeq
    count := { g.count with blobs := satInc g.count.blobs } }

/-- Insertion in ascending order of the first pixel: WLN, then XPOS. -/
def insertDesc (x : Descriptor) : List Descriptor → List Descriptor
  | [] => [x]
  | y :: r => if x.y0 < y.y0 ∨ (x.y0 = y.y0 ∧ x.fx < y.fx) then x :: y :: r else y :: insertDesc x r

/-- Descriptors in ascending order of their first pixel, under the SEQ values that they hold together. -/
def orderSeq (l : List Descriptor) : List Descriptor :=
  List.zipWith (fun (d : Descriptor) (q : Nat) => { d with seq := q }) (l.foldr insertDesc []) (l.map (·.seq))

/-- The descriptors that one line or message brought, those after the first `n` of the queue, take the order of R215 in each epoch: a union of the pair seam
stands among the blobs of this device. -/
def SegState.orderNew (g : SegState) (n : Nat) : SegState :=
  let new := g.queue.drop n
  { g with queue := g.queue.take n ++ orderSeq (new.filter (fun d => d.epoch != g.seqEpoch)) ++ orderSeq (new.filter (fun d => d.epoch == g.seqEpoch)) }

/-- Is a queue entry free for a swarm (R223)? -/
def SegState.entryFree (g : SegState) : Bool := g.waiting.isEmpty && decide (g.queue.length < 4096)

/-- An emitted descriptor reaches the queue (R223): a swarm may use the last 4 entries, or waits; another one goes to the queue swarm when
4,092 entries are full, which takes the union of the fields; its LINK is 0 (DESIGN CHOICE, log 165). `d` still has absolute sums. -/
def SegState.push (g : SegState) (width : Nat) (swarm : Bool) (d : Descriptor) : SegState :=
  if swarm then
    let g1 := g.tally (fun c => { c with swarms := satInc c.swarms })
    if g1.entryFree then g1.enqueue (finishDesc width d)
    else { g1 with waiting := g1.waiting ++ [finishDesc width d] }
  else if g.queue.length < 4092 then g.enqueue (finishDesc width d)
  else
    let q := match g.qswarm with
      | none => { d with link := 0, segment := 0, prior := 1, first := false }
      | some q => { mergeDesc q d with prior := satInc q.prior }
    { g with qswarm := some q, count := { g.count with queuefull := satInc g.count.queuefull } }

/-- Does a component touch the web edge that is a pair seam (R226)? -/
def SegState.onSeam (g : SegState) (width : Nat) (c : Comp) : Bool :=
  (g.seamEdge == 1 && decide (c.d.x1 + 1 = width)) || (g.seamEdge == 2 && c.d.x0 == 0)

/-- The outcome of a closed or cut segment (R216, R221, R222): emitted, or counted. `flags` are added, `minima` says whether R216's minima
apply, and `width` is the line's. The Boolean says whether it was emitted. -/
def SegState.finishIn (g : SegState) (d : Container) (width : Nat) (c : Comp) (cut minima : Bool) (flags : Nat) : SegState × Bool :=
  let hard := c.linkHard || decide (c.d.hardArea > 0)
  let out : Descriptor := { c.d with
    flags := addFlag (addFlag (addFlag (addFlag (Nat.lor c.d.flags flags) 0 c.swarm) 2 cut) 3 (decide (c.d.segment > 0))) 9 (g.onSeam width c),
    prior := if c.swarm then min c.members 0xFFFFFFFF else if c.sent then 0 else c.unsent,
    first := !c.sent && (c.swarm || decide (c.d.link ≠ 0)) }
  let g1 := if cut then g.tally (fun n => { n with streaks := satInc n.streaks }) else g
  if !hard then
    (g1.tally (fun n => if cut then { n with softcut := satInc n.softcut } else { n with noseed := satInc n.noseed }), false)
  else if c.d.link = 0 ∧ !c.swarm ∧ minima ∧ (c.d.area < d.minArea ∨ c.d.hardArea < d.minHard) then
    (g1.tally (fun n => { n with small := satInc n.small }), false)
  else (g1.push width c.swarm out, true)

/-- As `finishIn` for a component of this device's line; one that belongs to the pair seam goes there (R458). -/
def SegState.finish (g : SegState) (d : Container) (c : Comp) (cut minima : Bool) (flags : Nat) : SegState × Bool :=
  if g.divert.contains c.id && !c.swarm then
    ({ g with diverted := g.diverted ++ [({ c with d := { c.d with flags := Nat.lor c.d.flags flags } }, cut)] }, false)
  else g.finishIn d d.width c cut minima flags

/-- Insertion in ascending order of the first pixel (R215). -/
def insertFirst (x : Comp × Bool) : List (Comp × Bool) → List (Comp × Bool)
  | [] => [x]
  | y :: r =>
    if x.1.first.1 < y.1.first.1 ∨ (x.1.first.1 = y.1.first.1 ∧ x.1.first.2 < y.1.first.2) then x :: y :: r else y :: insertFirst x r

/-- Segments in ascending order of their first pixel. -/
def sortFirst (l : List (Comp × Bool)) : List (Comp × Bool) := l.foldr insertFirst []

/-- Segments that close (false) or are cut (true) while one line is labelled, in the order of R215. -/
def SegState.finishAll (d : Container) (minima : Bool) (flags : Comp → Nat) : List (Comp × Bool) → SegState → SegState × List (Nat × Bool)
  | [], g => (g, [])
  | (c, cut) :: r, g =>
    let (g1, sent) := g.finish d c cut minima (flags c)
    let (g2, l) := SegState.finishAll d minima flags r g1
    (g2, (c.id, sent) :: l)

/-- Every open component closes at the last labelled line (R227, R228). -/
def SegState.closeAll (g : SegState) (d : Container) (minima : Bool) (flag : Comp → Nat) : SegState :=
  let x := SegState.finishAll d minima flag (sortFirst (g.comps.map (fun c => (c, false)))) g
  { x.1 with comps := [], prev := [], prevNot := [] }

/-- The queue swarm is enqueued with QSWARM (R223). -/
def SegState.sendQswarm (g : SegState) (width : Nat) : SegState :=
  match g.qswarm with
  | none => g
  | some q =>
    { ((g.enqueue (finishDesc width { q with flags := setBit q.flags 1 })).tally (fun n => { n with qswarms := satInc n.qswarms })) with
      qswarm := none, qswarmDue := false }

/-- The epoch's end (R223, R227): every component closes, blobs with a pixel on its last line carry EPOCH_CUT, and the queue swarm is enqueued, or falls
due when no entry is free. -/
def SegState.endEpoch (g : SegState) (d : Container) : SegState :=
  let g1 := g.closeAll d true (fun c => if some c.d.y1 = g.last then 2 ^ 10 else 0)
  let g2 := if g1.entryFree then g1.sendQswarm d.width else g1
  { g2 with epoch := none, qswarmDue := g2.qswarm.isSome, last := none }

/-- The segmenter at the first line of an epoch: SEQ, LINK numbering and counters restart (R227, R229). -/
def SegState.startEpoch (g : SegState) (e : Nat) : SegState :=
  { g with epoch := some e, seq := 0, seqEpoch := e, prevSeq := g.seq, nextLink := 1, count := {}, comps := [], prev := [], prevNot := [], last := none,
           divert := [], cutNow := [], merged := [] }

/-- GAP_ADJ for a component that touches one of the ranges not compared. -/
def adjFlag (nots : List (Nat × Nat)) (x0 x1 : Nat) : Nat := if nots.any (fun n => touches x0 x1 n.1 n.2) then 2 ^ 7 else 0

/-- Flags added to a component. -/
def orFlags (comps : List Comp) (id f : Nat) : List Comp :=
  if f = 0 then comps else comps.map (fun c => if c.id = id then { c with d := { c.d with flags := Nat.lor c.d.flags f } } else c)

/-- The components that line n continues: keys of the previous line's runs that a run of this line touches. -/
def continuing (runs : List (Nat × Nat × Descriptor)) (prev : List (Nat × Nat × Nat)) : List Nat :=
  ((prev.filter (fun p => runs.any (fun r => touches r.1 r.2.1 p.1 p.2.1))).map (fun p => p.2.2)).eraseDups

/-- Components to be cut at line n, with LINK IDs given in the order of R215 to those that have none (R220). -/
def linkCuts : List Comp → Nat → List Comp × Nat
  | [], n => ([], n)
  | c :: r, n =>
    if c.d.link = 0 then
      let x := linkCuts r (n + 1)
      ({ c with d := { c.d with link := n, linkY0 := c.d.y0 } } :: x.1, x.2)
    else
      let x := linkCuts r n
      (c :: x.1, x.2)

/-- The component that goes on after a cut: the same label and link, the next segment, no pixel yet (R220, R221). -/
def Comp.afterCut (c : Comp) (sent : Bool) : Comp :=
  { c with
    d := { epoch := c.d.epoch, link := c.d.link, linkY0 := c.d.linkY0, segment := c.d.segment + 1 }
    linkHard := c.linkHard || decide (c.d.hardArea > 0), sent := c.sent || sent, unsent := if c.sent || sent then c.unsent else c.unsent + 1 }

/-- One run of the line labelled (R214, R222). State: components, labels in use, next key, the previous line's runs with their present
keys, and this line's runs so far. -/
structure Labelling where
  comps : List Comp
  used : Nat
  nextId : Nat
  prev : List (Nat × Nat × Nat)
  row : List (Nat × Nat × Nat) := []
  merged : List (Nat × Nat) := []

/-- Keys of merged components renamed. -/
def rename (ids : List Nat) (m : Nat) (l : List (Nat × Nat × Nat)) : List (Nat × Nat × Nat) :=
  l.map (fun p => if ids.contains p.2.2 then (p.1, p.2.1, m) else p)

/-- One run joins the components that it touches, or is a new one, or takes the label swarm when no label is free. -/
def Labelling.add (s : Labelling) (maxOpen : Nat) (r : Nat × Nat × Descriptor) : Labelling :=
  let hit := ((s.prev.filter (fun p => touches r.1 r.2.1 p.1 p.2.1)).map (fun p => p.2.2)).eraseDups
  let fresh : Comp := { id := s.nextId, first := (r.2.2.y0, r.1), d := r.2.2 }
  match s.comps.filter (fun c => hit.contains c.id) with
  | [] =>
    if s.used < maxOpen then
      { s with comps := s.comps ++ [fresh], used := s.used + 1, nextId := s.nextId + 1, row := s.row ++ [(r.1, r.2.1, s.nextId)] }
    else
      match s.comps.find? (fun c => c.swarm) with
      | some w =>
        { s with comps := s.comps.map (fun c => if c.id = w.id then { (w.merge fresh) with id := w.id } else c), row := s.row ++ [(r.1, r.2.1, w.id)] }
      | none =>
        { s with comps := s.comps ++ [{ fresh with swarm := true, members := 1 }], nextId := s.nextId + 1, row := s.row ++ [(r.1, r.2.1, s.nextId)] }
  | c :: cs =>
    let all := cs.foldl Comp.merge c
    let ids := (c :: cs).map (·.id)
    let m : Comp := { all with d := mergeDesc all.d r.2.2, first := if all.d.area = 0 then fresh.first else all.first }
    { s with
      comps := s.comps.filter (fun x => !ids.contains x.id) ++ [m]
      prev := rename ids m.id s.prev, row := rename ids m.id s.row ++ [(r.1, r.2.1, m.id)]
      merged := s.merged ++ (ids.filter (· != m.id)).map (fun i => (i, m.id)) }

/-- The runs of a line labelled from left to right. -/
def Labelling.addAll (maxOpen : Nat) : List (Nat × Nat × Descriptor) → Labelling → Labelling
  | [], s => s
  | r :: rs, s => Labelling.addAll maxOpen rs (s.add maxOpen r)

/-- Does a component's link, or its present segment, hold a hard pixel (R221)? -/
def Comp.hard (c : Comp) : Bool := c.linkHard || decide (c.d.hardArea > 0)

/-- The components that go on in line n (R215, R222): those that its runs touch, and the label swarm also where a component without a label takes it in
line n. -/
def SegState.goesOn (g : SegState) (maxOpen : Nat) (runs : List (Nat × Nat × Descriptor)) (comps : List Comp) : List Nat :=
  let cont := continuing runs g.prev
  match comps.find? (fun c => c.swarm) with
  | none => cont
  | some w =>
    if cont.contains w.id then cont
    else
      let lab := Labelling.addAll maxOpen runs {
        comps := comps.filter (fun c => cont.contains c.id || c.swarm), used := (comps.filter (fun c => !c.swarm)).length
        nextId := g.nextId, prev := g.prev }
      if lab.row.any (fun r => r.2.2 == w.id) then w.id :: cont else cont

/-- One line labelled (R214-R223). A label swarm that would close or be cut with a descriptor stays open while no reserved entry is free. -/
def SegState.label (g : SegState) (d : Container) (l : LineSlot) (cells : List (Nat × Nat × Nat)) : SegState :=
  let runs := softRuns l 0 cells
  let nots := notRuns 0 cells
  -- GAP_ADJ of the pixels of the line above
  let comps0 := g.prev.foldl (fun cs p => orFlags cs p.2.2 (adjFlag nots p.1 p.2.1)) g.comps
  let cont := g.goesOn d.maxOpen runs comps0
  let seam (c : Comp) : Bool := g.divert.contains c.id && !c.swarm
  let held (c : Comp) : Bool := c.swarm && c.hard && !g.entryFree
  let long := comps0.filter (fun c => cont.contains c.id && !seam c && !held c && decide (c.d.y0 + d.streakLines ≤ l.wln))
  let own := linkCuts ((sortFirst (long.map (fun c => (c, true)))).map (·.1)) g.nextLink
  let cuts := (own.1 ++ comps0.filter (fun c => cont.contains c.id && seam c && g.cutNow.contains c.id), own.2)
  let closed := comps0.filter (fun c => !cont.contains c.id && !held c)
  let fin := SegState.finishAll d true (fun _ => 0)
    (sortFirst (cuts.1.map (fun c => (c, true)) ++ closed.map (fun c => (c, false)))) { g with nextLink := cuts.2 }
  let open1 := (comps0.filter (fun c => cont.contains c.id || held c)).map (fun c =>
    match cuts.1.find? (fun x => x.id == c.id) with
    | some x => x.afterCut ((lookupN x.id (fin.2)).getD false)
    | none => { c with due := held c && !cont.contains c.id })
  let used := (comps0.filter (fun c => !c.swarm)).length
  let lab := Labelling.addAll d.maxOpen runs { comps := open1, used := used, nextId := g.nextId, prev := g.prev }
  let comps2 := lab.row.foldl (fun cs p => orFlags cs p.2.2 (Nat.lor (adjFlag g.prevNot p.1 p.2.1) (adjFlag nots p.1 p.2.1))) lab.comps
  { fin.1 with comps := comps2, nextId := lab.nextId, prev := lab.row, prevNot := nots, last := some l.wln, merged := lab.merged }

/-- QSWARM_ENQUEUE (R223): a waiting swarm enters a free entry, or a label swarm that an entry kept open closes; else the queue swarm is enqueued once the queue
has fallen to 2,048 or at the end of its epoch. Otherwise nothing happens. -/
def SegState.qswarmEnqueue (g : SegState) (deckOf : Nat → Container) : SegState :=
  if g.queue.length ≥ 4096 then g
  else match g.waiting with
    | w :: r => { (g.enqueue w) with waiting := r }
    | [] =>
      match g.comps.find? (fun c => c.swarm && c.due) with
      | some c =>
        let d := deckOf c.d.epoch
        ({ g with comps := g.comps.filter (fun x => x.id != c.id) }.finishIn d d.width c false true 0).1
      | none =>
        match g.qswarm with
        | none => g
        | some q => if g.queue.length ≤ 2048 ∨ g.qswarmDue then g.sendQswarm (deckOf q.epoch).width else g

/-- QSWARM_ENQUEUE. -/
def execQswarmEnqueue (s : State) : Outcome :=
  .next { s with seg := s.seg.qswarmEnqueue s.deckOf }

/-- A descriptor whose 64-bit word k of R218 is lost: its fields take the value that the ECC leaves, which is open (R228). -/
def lostWord (d : Descriptor) (k v : Nat) : Descriptor :=
  let lo := v % 2 ^ 32
  let hi := v / 2 ^ 32 % 2 ^ 32
  match k with
  | 0 => { d with epoch := lo, flags := hi % 2 ^ 12 }
  | 1 => { d with seq := v % 2 ^ 64 }
  | 2 => { d with y0 := v % 2 ^ 48 }
  | 3 => { d with y1 := v % 2 ^ 48 }
  | 4 => { d with x0 := lo % 2 ^ 18, x1 := hi % 2 ^ 18 }
  | 5 => { d with area := v % 2 ^ 64 }
  | 6 => { d with hardArea := v % 2 ^ 64 }
  | 7 => { d with sumD := v % 2 ^ 64 }
  | 8 => { d with maxD := lo % 2 ^ 16, maxClass := lo / 2 ^ 16 % 16, maxX := hi % 2 ^ 18 }
  | 9 => { d with maxY := v % 2 ^ 48 }
  | 10 => { d with sumX := v % 2 ^ 64 }
  | 11 => { d with sumY := v % 2 ^ 64 }
  | 12 => { d with classMask := lo % 2 ^ 16, link := hi }
  | 13 => { d with segment := lo }
  | 14 => { d with linkY0 := v % 2 ^ 48 }
  | _ => { d with time := v % 2 ^ 64 }

/-- An uncorrectable error in word k of queue entry i (R228): the entry becomes a queue swarm with MEMBERS 1 and the fields that the ECC preserves; what the lost word
holds is open (log 3). An entry that a task holds has been read already. -/
def State.queueEntryError (s : State) (i k : Nat) : State :=
  match s.seg.queue[i]? with
  | none => s
  | some q =>
    if s.comb.tasks.any (fun t => match t.input with
      | .blob b => b.epoch == q.epoch && b.seq == q.seq
      | _ => false) then s
    else
      let d : Descriptor := { lostWord q k (Config.freeNat s.free) with prior := 1 }
      let g := { s.seg with queue := updAt s.seg.queue i (fun _ => { d with flags := setBit d.flags 1 }) }
      { s.drawn with seg := g.tally (fun n => { n with qswarms := satInc n.qswarms }) }

/-- The segmenter retires (R228): everything open closes at the last labelled line with FAULT_CUT and without minima. -/
def State.segmenterRetired (s : State) : State :=
  { s with seg := s.seg.closeAll (s.deckOf (s.seg.epoch.getD 0)) false (fun _ => 2 ^ 11) }

end Sys2Proof.Machine
end

