-- ==== Sys2Proof/Machine/Operators.lean ====
section
/-! DEFINITION. The operators of the Comb (R256, R264-R281) as functions of their inputs: tile registration, the blob chain, register marks,
colour patches, codes and element mapping. -/

namespace Sys2Proof.Machine

/- Tile registration (R264-R266). -/

/-- What the search of one field node works on: width and height of the window, live samples by line and column, reference line and
reference sample by line and column, and XOFF >> 6 with the window's first column. -/
structure NodeWin where
  w : Nat
  h : Nat
  x0 : Nat
  shift : Int
  live : List (List (Option Nat))
  /-- reference line paired with each live line -/
  yl : List Int
  lines : Nat
  width : Nat
  /-- reference rows that the search may read -/
  rows : List (Nat × List Nat)
  deriving Repr, Inhabited

/-- Live sample of a window. -/
def NodeWin.u (n : NodeWin) (x y : Nat) : Option Nat := (getN n.live y []).getD x none

/-- Reference sample for window pixel (x, y) under an offset; none outside 0 to WIDTH − 1 (R265). -/
def NodeWin.r (n : NodeWin) (ox oy : Int) (x y : Nat) : Option Nat :=
  let c : Int := (n.x0 : Int) + x + n.shift + ox
  let l : Int := (getN n.yl y 0 + oy) % (max 1 n.lines : Nat)
  if c < 0 ∨ c ≥ (n.width : Int) then none else some (((lookupN l.toNat n.rows).getD []).getD c.toNat 0)

/-- Sum of a list of values, none when any is missing. -/
def sumAll : List (Option Nat) → Option Nat
  | [] => some 0
  | none :: _ => none
  | some v :: r => (sumAll r).map (v + ·)

/-- The 16 positions of block (bx, by). -/
def blockCells (bx yb : Nat) : List (Nat × Nat) := ((upto 4).map (fun j => (upto 4).map (fun i => (4 * bx + i, 4 * yb + j)))).flatten

/-- A score (R265): the sum of absolute differences times 256 over the count; too few positions give the largest score. -/
def scoreOf (ds : List (Option Nat)) : Nat :=
  let used := ds.filterMap id
  if ds.isEmpty ∨ used.length * 2 < ds.length ∨ used.isEmpty then 0xFFFFFFFF else sumN used * 256 / used.length

/-- Score of an offset at level 2 (R265). -/
def NodeWin.score2 (n : NodeWin) (ox oy : Int) : Nat :=
  scoreOf (((upto (n.h / 4)).map (fun yb => (upto (n.w / 4)).map (fun bx =>
    let cells := blockCells bx yb
    match sumAll (cells.map (fun c => n.u c.1 c.2)), sumAll (cells.map (fun c => n.r ox oy c.1 c.2)) with
    | some a, some b => some (absDiff ((a + 8) / 16) ((b + 8) / 16))
    | _, _ => none))).flatten)

/-- The central area: first column, first line, width, height (R265). -/
def NodeWin.centre (n : NodeWin) : Nat × Nat × Nat × Nat :=
  ((n.w - min 64 n.w) / 2, (n.h - min 64 n.h) / 2, min 64 n.w, min 64 n.h)

/-- Score of an offset at level 0 (R265). -/
def NodeWin.score0 (n : NodeWin) (ox oy : Int) : Nat :=
  let (cx, cy, cw, ch) := n.centre
  scoreOf (((natsFrom ch cy).map (fun y => (natsFrom cw cx).map (fun x =>
    match n.u x y, n.r ox oy x y with
    | some a, some b => some (absDiff a b)
    | _, _ => none))).flatten)

/-- Is candidate (s, a, b) better than (t, c, d): lower score, then smaller |a| + |b|, smaller b, smaller a (R265)? -/
def betterOffset (s : Nat) (a b : Int) (t : Nat) (c d : Int) : Bool :=
  decide (s < t) || (s == t && (decide (a.natAbs + b.natAbs < c.natAbs + d.natAbs) || (a.natAbs + b.natAbs == c.natAbs + d.natAbs &&
    (decide (b < d) || (decide (b = d) && decide (a < c))))))

/-- The best of scored offsets. -/
def bestOffset : List (Nat × Int × Int) → Option (Nat × Int × Int)
  | [] => none
  | x :: r => match bestOffset r with
    | none => some x
    | some y => if betterOffset x.1 x.2.1 x.2.2 y.1 y.2.1 y.2.2 then some x else some y

/-- Integers from c − r to c + r. -/
def around (c : Int) (r : Nat) : List Int := (upto (2 * r + 1)).map (fun (i : Nat) => c - r + i)

/-- The sub-pixel step (R266). -/
def subPixel (sm s0 sp : Nat) : Int :=
  let den : Int := (sm : Int) - 2 * s0 + sp
  if den > 0 ∧ sm ≠ 0xFFFFFFFF ∧ sp ≠ 0xFFFFFFFF then clampI (-32) 32 (Int.tdiv (32 * ((sm : Int) - sp)) den) else 0

/-- Texture of the level-0 live set (R266). -/
def NodeWin.texture (n : NodeWin) : Nat :=
  let (cx, cy, cw, ch) := n.centre
  let ds := ((natsFrom ch cy).map (fun y => (natsFrom cw cx).map (fun x =>
    let at' (i j : Nat) : Option Nat := if i < cx + cw ∧ j < cy + ch then n.u i j else none
    match at' x y with
    | none => []
    | some v => ([at' (x + 1) y, at' x (y + 1)]).filterMap (fun o => o.map (absDiff v))))).flatten.flatten
  if ds.isEmpty then 0 else sumN ds / ds.length

/-- The measurement of a node over its search ranges (R265, R266): centre and radius of a and b at level 2. -/
def NodeWin.measure (n : NodeWin) (texMin : Nat) (xoff : Int) (a0 b0 : Int) (ra rb : Nat) : Int × Int × Nat :=
  let offs := ((around b0 rb).map (fun b => (around a0 ra).map (fun a => (n.score2 (4 * a) (4 * b), a, b)))).flatten
  match bestOffset offs with
  | none => (0, 0, 0)
  | some (s02, a, b) =>
    let fine := ((around (4 * b) 3).map (fun y => (around (4 * a) 3).map (fun x => (n.score0 x y, x, y)))).flatten
    match bestOffset fine with
    | none => (0, 0, 0)
    | some (s0, bx, yb) =>
      let dx := subPixel (n.score0 (bx - 1) yb) s0 (n.score0 (bx + 1) yb)
      let dy := subPixel (n.score0 bx (yb - 1)) s0 (n.score0 bx (yb + 1))
      let dist (o : Nat × Int × Int) : Nat := max (o.2.1 - a).natAbs (o.2.2 - b).natAbs
      let far := offs.filter (fun o => decide (dist o ≥ 2))
      let near := offs.filter (fun o => dist o == 1)
      let s2 := minN 0xFFFFFFFF ((if far.isEmpty then near else far).map (·.1))
      let t := n.texture
      let conf := if t < texMin ∨ s2 = 0 ∨ s2 = 0xFFFFFFFF ∨ s02 = 0xFFFFFFFF ∨ offs.length ≤ 1 then 0
        else min 255 (255 * (s2 - s02) / s2)
      (64 * bx + dx - xoff % 64, 64 * yb + dy, conf)

/-- Plane `p` of reference line y: of the object, or of the learn buffer while learning (R184, R265). -/
def State.refPlane (s : State) (o : RegObject) (p y : Nat) : List Nat :=
  match s.reg.learning with
  | some k => (upto k.width).map (fun x => (memByte s.mem (k.buf + 3 * (y * k.width + x) + p)).toNat)
  | none => getN (s.refLine o.obj y) p []

/-- The window of node i of row j of an epoch (R265). -/
def State.nodeWin (s : State) (d : Container) (o : RegObject) (epoch row i plane ry : Nat) : NodeWin :=
  let f := d.fieldLines
  let h := min f 256
  let x0 := 256 * i
  let w := min 256 (d.width - x0)
  let area := s.ringArea false epoch (row * f) h x0 w
  let live := area.map (fun l => (getN l plane []).map (fun v => v.map (fun s => min 255 ((s + 8) / 16))))
  let yl : List Int := (natsFrom h (row * f)).map (fun n =>
    match s.reg.log.find? (fun (e : Nat × Int × Int) => e.1 == n) with
    | some e => ((e.2.1 + e.2.2) / 64) % (max 1 o.lines : Nat)
    | none => 0)
  let reach : List Int := ((yl.map (fun y => (around 0 (ry + 4)).map (fun (k : Int) => (y + k) % (max 1 o.lines : Nat)))).flatten).eraseDups
  { w := w, h := h, x0 := x0, shift := d.xoff / 64, live := live, yl := yl, lines := o.lines, width := d.width
    rows := reach.map (fun y => (y.toNat, s.refPlane o plane y.toNat)) }

/-- TILE_REG over nodes of a row (R264-R266). -/
def State.runTileReg (s : State) (d : Container) (st : Stage) (epoch row first n : Nat) : List (Int × Int × Nat) :=
  match s.regObject d epoch with
  | none => List.replicate n (0, 0, 0)
  | some o =>
    let start := s.reg.starts.find? (fun r => r.row == row)
    let locked := match start with
      | some r => r.locked
      | none => s.reg.st == 2
    let field := match start with
      | some r => r.field
      | none => s.reg.field
    let w0 := wordAt st.param 0
    (natsFrom n first).map (fun i =>
      let node := getN field i (0, 0)
      let a0 := if locked then (node.1 + 128) / 256 else 0
      let b0 := if locked then (node.2 + 128) / 256 else 0
      let ra := if locked then ceilDiv d.limx 4 else ceilDiv d.acqX 4
      let rb := if locked then ceilDiv d.limy 4 else ceilDiv d.acqY 4
      let win := s.nodeWin d o epoch row i (fld w0 1 0) (4 * (rb + b0.natAbs))
      win.measure (fld w0 23 16) d.xoff a0 b0 ra rb)

/- The blob chain (R267-R273). -/

/-- lg of R268. -/
def lgOf (v : Nat) : Int := if v = 0 then 0 else
  let k := log2N v
  (256 * k + (v - 2 ^ k) * 256 / 2 ^ k : Nat)

/-- A value saturated to 16 signed bits. -/
def sat16 (v : Int) : Int := clampI (-32768) 32767 v

/-- Quotient that truncates toward 0; 0 by a zero divisor. -/
def quo (a b : Int) : Int := Int.tdiv a b

/-- Centre of a descriptor (R267). -/
def descCx (b : Descriptor) : Nat := b.x0 + b.sumX / max 1 b.area
/-- Centre line of a descriptor. -/
def descCy (b : Descriptor) : Nat := b.y0 + b.sumY / max 1 b.area

/-- Is a descriptor a swarm (R219)? -/
def descSwarm (b : Descriptor) : Bool := bitAt b.flags 0 || bitAt b.flags 1

/-- What pair positions are less by on this device: WL where it is the right device (R225, R462). -/
def State.pairBase (s : State) : Nat := if s.vdRole = 2 then s.vd.wl else 0

/-- The crop of a descriptor: 64 rows of 64 columns of planes 0-2, 0xFFFF where empty (R267, R299, R519). -/
def State.cropOf (s : State) (b : Descriptor) : List (List (List Nat)) :=
  let x : Int := ((descCx b) : Int) - 32 - (if bitAt b.flags 8 then (s.pairBase : Int) else 0)
  let y : Int := ((descCy b) : Int) - 32
  (s.ringArea false b.epoch y 64 x 64).map (fun l => (upto 64).map (fun c => (upto 3).map (fun p => ((getN l p []).getD c none).getD 0xFFFF)))

/-- Is some line of a crop held (R267)? -/
def State.cropHeld (s : State) (b : Descriptor) : Bool :=
  (upto 64).any (fun r => decide ((descCy b) + r ≥ 32) && s.lineHeld false b.epoch ((descCy b) + r - 32))

/-- Is a crop position empty? -/
def emptyPos (v : List Nat) : Bool := v.getD 0 0xFFFF == 0xFFFF

/-- l, ca and cb of a crop position (R207-R209, R268). -/
def cropLab (d : Container) (v : List Nat) : Int × Int × Int := labOf d.matA (v.getD 0 0) (v.getD 1 0) (v.getD 2 0)

/-- Mean of integers, truncated toward 0. -/
def meanI (l : List Int) : Int := quo (sumI l) l.length

/-- Non-empty crop positions with their place: inner ones lie in the bounding box (R268). -/
def cropParts (b : Descriptor) (crop : List (List (List Nat))) (inner : Bool) : List (List Nat) :=
  ((List.zipWith (fun (row : List (List Nat)) (r : Nat) => (List.zipWith (fun (v : List Nat) (c : Nat) =>
    let x : Int := ((descCx b) : Int) - 32 + c
    let y : Int := ((descCy b) : Int) - 32 + r
    let box := decide ((b.x0 : Int) ≤ x) && decide (x ≤ b.x1) && decide ((b.y0 : Int) ≤ y) && decide (y ≤ b.y1)
    if !emptyPos v && (box == inner) then [v] else []) row (upto 64)).flatten) crop (upto 64))).flatten

/-- The features f0-f23 (R268). `c15` is c(Y0); `crop` is none without a crop. -/
def features (d : Container) (b : Descriptor) (wl lines : Nat) (c15 : Int) (crop : Option (List (List (List Nat)))) : List Int :=
  let w := b.x1 - b.x0 + 1
  let h := b.y1 - b.y0 + 1
  let a : Int := b.area
  let base : List Int :=
    [lgOf b.area, lgOf b.hardArea, quo ((b.hardArea : Int) * 4096) a, lgOf w, lgOf h, quo (a * 4096) ((w * h : Nat) : Int),
     lgOf w - lgOf h, quo b.sumD a, ((b.maxD / 2 : Nat) : Int), b.maxClass, ((popcount 16 b.classMask : Nat) : Int), ((fld b.flags 7 5 : Nat) : Int),
     quo ((b.sumX : Int) * 4096) (a * w), quo ((b.sumY : Int) * 4096) (a * h),
     quo (((b.x0 : Int) * a + b.sumX) * 4096) (a * wl), quo (c15 * 4096) lines]
  let cf : List Int := match crop with
    | none => List.replicate 8 0
    | some k =>
      let inn := (cropParts b k true).map (cropLab d)
      let out := (cropParts b k false).map (cropLab d)
      if inn.isEmpty then List.replicate 8 0 else
      let f16 := meanI (inn.map (·.1))
      let f17 := meanI (inn.map (·.2.1))
      let f18 := meanI (inn.map (·.2.2))
      let f19 := if out.isEmpty then f16 else meanI (out.map (·.1))
      [f16, f17, f18, f19, f16 - f19, meanI (inn.map (fun v => ((v.1 - f16).natAbs : Int))),
       if out.isEmpty then f17 else meanI (out.map (·.2.1)), if out.isEmpty then f18 else meanI (out.map (·.2.2))]
  (base ++ cf).map sat16

/-- A walk of one tree (R269): the leaf index, or none after 32 nodes without a leaf. -/
def walkTree (cls : List Byte) (f : List Int) : Nat → Nat → Option Nat
  | 0, _ => none
  | n + 1, i =>
    let w := wordAt cls (0x230 + 8 * i)
    if bitAt w 31 then some (fld w 12 0)
    else
      let l := wordAt cls (0x234 + 8 * i)
      if getN f (fld w 20 16) 0 ≤ sext 16 (fld w 15 0) then walkTree cls f n (fld l 15 0) else walkTree cls f n (fld l 31 16)

/-- Index of the largest of a list, ties to the lowest, and the margin over the second (R269, R271). -/
def argmax (l : List Int) : Nat × Int × Int :=
  let top := maxI (l.headD 0) l
  let k := (upto l.length).find? (fun i => getN l i 0 == top) |>.getD 0
  let rest := l.eraseIdx k
  (k, top, maxI (rest.headD 0) rest)

/-- FOREST (R269): CLASS and CSCORE, or none where a walk traps. -/
def runForest (d : Container) (f : List Int) : Option (Nat × Nat) :=
  let cls := d.classifierBody
  let leaves := (upto (min 128 d.nTrees)).map (fun t => walkTree cls f 32 (fld (wordAt cls (0x10 + 4 * t)) 15 0))
  if leaves.any (·.isNone) then none else
  let base := 0x230 + 8 * d.nNodes
  let sums : List Int := (upto 16).map (fun k => sext 32 (truncN 32 (sumI ((leaves.filterMap id).map (fun l => sext 8 (leAt cls (base + 16 * l + k) 1))))))
  let a := argmax sums
  some (a.1, min 255 (((a.2.1 - a.2.2) / (2 ^ d.fShift : Nat)).toNat))

/-- A signed byte of the network's weights. -/
def weightAt (cls : List Byte) (base i : Nat) : Int := sext 8 (leAt cls (base + i) 1)

/-- A value of a plane stack `x[y][x][i]` with zero padding. -/
def padAt (x : List (List (List Int))) (y c : Int) (i : Nat) : Int :=
  if y < 0 ∨ c < 0 then 0 else ((getN (getN x y.toNat []) c.toNat [])).getD i 0

/-- A convolution layer with requantisation (R271): 3 × 3, zero padding 1, `n` outputs from `ci` inputs. -/
def convLayer (cls : List Byte) (bias wbase : Nat) (m : Int) (sh ci n size : Nat) (x : List (List (List Int))) : List (List (List Int)) :=
  (upto size).map (fun (y : Nat) => (upto size).map (fun (c : Nat) => (upto n).map (fun (o : Nat) =>
    let acc := sext 32 (leAt cls (bias + 4 * o) 4) + sumI (((upto 3).map (fun ky => (upto 3).map (fun kx => (upto ci).map (fun i =>
      weightAt cls wbase (((o * 3 + ky) * 3 + kx) * ci + i) * padAt x ((y : Int) + ky - 1) ((c : Int) + kx - 1) i)))).flatten.flatten)
    let acc32 := sext 32 (truncN 32 acc)
    clampI 0 127 ((acc32 * m + (2 ^ (sh - 1) : Nat)) / (2 ^ sh : Nat)))))

/-- 2 × 2 max pooling (R271). -/
def maxPool (n size : Nat) (x : List (List (List Int))) : List (List (List Int)) :=
  (upto (size / 2)).map (fun (y : Nat) => (upto (size / 2)).map (fun (c : Nat) => (upto n).map (fun (o : Nat) =>
    max (max (padAt x (2 * y) (2 * c) o) (padAt x (2 * y) (2 * c + 1) o)) (max (padAt x (2 * y + 1) (2 * c) o) (padAt x (2 * y + 1) (2 * c + 1) o)))))

/-- Input channels of a crop position (R271). -/
def cnnInput (d : Container) (v : List Nat) : List Int :=
  if emptyPos v then [0, 0, 0] else
  let l := cropLab d v
  [clampI (-128) 127 ((l.1 - 2688) / 32), clampI (-128) 127 (l.2.1 / 32), clampI (-128) 127 (l.2.2 / 32)]

/-- CNN (R271): CLASS and CSCORE. -/
def runCnn (d : Container) (crop : List (List (List Nat))) : Nat × Nat :=
  let cls := d.classifierBody
  let net := 0x230 + 8 * d.nNodes + 16 * d.nLeaves
  let w := net + 768
  let m (l : Nat) : Int := sext 32 (wordAt cls (0x210 + 8 * l))
  let sh (l : Nat) : Nat := fld (wordAt cls (0x214 + 8 * l)) 5 0
  let x0 := crop.map (fun r => r.map (cnnInput d))
  let x1 := maxPool 16 64 (convLayer cls net w (m 0) (sh 0) 3 16 64 x0)
  let x2 := maxPool 32 32 (convLayer cls (net + 64) (w + 432) (m 1) (sh 1) 16 32 32 x1)
  let x3 := maxPool 64 16 (convLayer cls (net + 192) (w + 5040) (m 2) (sh 2) 32 64 16 x2)
  let x4 := convLayer cls (net + 448) (w + 23472) (m 3) (sh 3) 64 64 8 x3
  let g := (upto 64).map (fun c => (sumI ((x4.map (fun r => r.map (fun v => v.getD c 0))).flatten) + 32) / 64)
  let logits := (upto 16).map (fun o => sext 32 (truncN 32 (sext 32 (leAt cls (net + 704 + 4 * o) 4) +
    sumI ((upto 64).map (fun i => weightAt cls (w + 60336) (o * 64 + i) * getN g i 0)))))
  let a := argmax logits
  (a.1, min 255 (((a.2.1 - a.2.2) / (2 ^ d.cShift : Nat)).toNat))

/-- What RULES tests. -/
structure RuleIn where
  classified : Bool
  cls : Nat
  cscore : Nat
  maxD : Nat
  area : Nat
  cx : Nat
  flags : Nat
  deriving Repr, Inhabited

/-- Does rule r of a RULES block match (R272)? -/
def ruleMatches (p : List Byte) (r : Nat) (i : RuleIn) : Bool :=
  let q := 8 + 32 * r
  let w0 := wordAt p q
  let w1 := wordAt p (q + 4)
  let w7 := wordAt p (q + 0x1C)
  bitAt w0 31 && (if i.classified then bitAt w0 i.cls else bitAt w0 27) && (!i.classified || decide (i.cscore ≥ fld w1 7 0)) &&
  decide (i.maxD ≥ fld w1 31 16) && decide (wordAt p (q + 8) ≤ i.area) && decide (i.area ≤ wordAt p (q + 0x0C)) &&
  decide (fld (wordAt p (q + 0x10)) 17 0 ≤ i.cx) && decide (i.cx ≤ fld (wordAt p (q + 0x14)) 17 0) &&
  Nat.land i.flags (fld w7 11 0) == fld w7 27 16

/-- RULES (R272): matching rule or 0x7F, severity, actions, markers. -/
def runRules (p : List Byte) (i : RuleIn) : Nat × Nat × Nat × Nat :=
  match (upto (min 64 (fld (wordAt p 0) 6 0))).find? (fun r => ruleMatches p r i) with
  | some r =>
    let q := 8 + 32 * r
    (r, fld (wordAt p q) 30 28, fld (wordAt p (q + 0x18)) 3 0, fld (wordAt p (q + 0x18)) 31 24)
  | none => (0x7F, fld (wordAt p 4) 22 20, fld (wordAt p 4) 3 0, fld (wordAt p 4) 31 24)

/-- c(Y0) of R193 with the yc and COFF that were in force when line Y0 was compared; 0 when REFCMP = 0 (R268). -/
def State.centreOf (s : State) (d : Container) (y0 : Nat) : Int :=
  if !d.refcmp then 0 else
  match s.reg.log.find? (fun (e : Nat × Int × Int) => e.1 == y0) with
  | some e => (e.2.1 + e.2.2) / 64
  | none => 0

/-- The blob chain over a descriptor (R258, R267-R273). `shed` says whether FOREST and CNN are shed for it. -/
def State.runBlob (s : State) (d : Container) (b : Descriptor) (shedF shedC : Bool) : TaskOut :=
  let feat := d.chainStage 0x10
  let forest := d.chainStage 0x11
  let cnn := d.chainStage 0x12
  let rules := match d.chainStage 0x13 with
    | some x => x.2.param
    | none => []
  let cropEn := match feat with
    | some x => bitAt (wordAt x.2.param 0) 0
    | none => false
  let fetch := !(descSwarm b) && (cropEn || cnn.isSome || rulesCrop rules)
  let held := fetch && s.cropHeld b
  let crop := if held then s.cropOf b else []
  let inner := !(cropParts b crop true).isEmpty
  let nocrop := fetch && (!held || !inner)
  let wl := if bitAt b.flags 8 then d.width + s.vd.wl else d.width
  let lines := match s.boundObject b.epoch with
    | some o => o.lines
    | none => 1
  let f := features d b wl (max 1 lines) (s.centreOf d b.y0) (if nocrop || !fetch then none else some crop)
  let useF := !(descSwarm b) && forest.isSome && !shedF
  let fr : Option (Option (Nat × Nat)) := if useF then some (runForest d f) else none
  match fr with
  | some none => .trap
  | _ =>
    let fcls : Option (Nat × Nat) := match fr with
      | some (some x) => some x
      | _ => none
    let useC : Bool := match cnn with
      | none => false
      | some x =>
        !(descSwarm b) && !shedC && !nocrop && decide (b.area ≥ wordAt x.2.param 4) &&
        (match fcls with
         | some y => bitAt (fld (wordAt x.2.param 0) 31 16) y.1
         | none => true)
    let res : Nat × Nat × Nat := if useC then (let y := runCnn d crop
                                               (2, y.1, y.2))
      else match fcls with
        | some y => (1, y.1, y.2)
        | none => (0, 0, 0)
    let r := runRules rules { classified := decide (res.1 ≠ 0), cls := res.2.1, cscore := res.2.2, maxD := b.maxD, area := b.area,
                              cx := (descCx b), flags := b.flags }
    .blob { cls := res.2.1, csrc := res.1, cscore := res.2.2, rule := r.1, sev := r.2.1, actions := r.2.2.1, markers := r.2.2.2
            shed := b2n (forest.isSome && shedF && !(descSwarm b)) + 2 * b2n (cnn.isSome && shedC && !(descSwarm b)), nocrop := nocrop
            crop := if bitAt r.2.2.1 1 && held then some crop else none }

/- Register marks and colour patches (R274-R276). -/

/-- Region of entry k of a MARK_REG or COLOUR_PATCH block: X0, X1, Y0, Y1. -/
def regionOf (p : List Byte) (k : Nat) : Nat × Nat × Nat × Nat :=
  let e := 8 + 32 * k
  (fld (wordAt p e) 16 0, fld (wordAt p (e + 4)) 16 0, fld (wordAt p (e + 8)) 19 0, fld (wordAt p (e + 0x0C)) 19 0)

/-- Number of entries of a block. -/
def regionCount (p : List Byte) : Nat := fld (wordAt p 0) 6 0

/-- Last line that the regions of a block need, from the repeat start (R257). -/
def lastRegionLine (p : List Byte) : Nat := maxN ((upto (regionCount p)).map (fun k => (regionOf p k).2.2.2))

/-- The samples of a region of a repeat: lines × planes × columns. -/
def State.regionArea (s : State) (r : RepeatStart) (g : Nat × Nat × Nat × Nat) : List (List (List (Option Nat))) :=
  s.ringArea false r.epoch ((r.wln + g.2.2.1 : Nat) : Int) (g.2.2.2 + 1 - g.2.2.1) g.1 (g.2.1 + 1 - g.1)

/-- Does an area hold a VOID pixel? -/
def areaVoid (a : List (List (List (Option Nat)))) : Bool := a.any (fun l => l.any (fun p => p.any (·.isNone)))

/-- Mass and centre of a mark (R274): M, Σ x·d, Σ y·d. -/
def markSums (thresh x0 y0 plane : Nat) (a : List (List (List (Option Nat)))) : Nat × Nat × Nat :=
  let cells := (List.zipWith (fun (l : List (List (Option Nat))) (j : Nat) =>
    List.zipWith (fun (v : Option Nat) (i : Nat) => (thresh - v.getD thresh, x0 + i, y0 + j)) (getN l plane []) (upto (getN l plane []).length))
    a (upto a.length)).flatten
  (sumN (cells.map (·.1)), sumN (cells.map (fun c => c.1 * c.2.1)), sumN (cells.map (fun c => c.1 * c.2.2)))

/-- MARK_REG (R274). -/
def State.runMarks (s : State) (d : Container) (st : Stage) (r : RepeatStart) : TaskOut :=
  let p := st.param
  let n := regionCount p
  let areas := (upto n).map (fun k => s.regionArea r (regionOf p k))
  let raw : List MarkOut := List.zipWith (fun (k : Nat) (a : List (List (List (Option Nat)))) =>
    let e := 8 + 32 * k
    let g := regionOf p k
    let w := wordAt p (e + 0x10)
    let m := markSums (fld w 27 16) g.1 g.2.2.1 (fld w 31 30) a
    if m.1 < wordAt p (e + 0x1C) ∨ m.1 = 0 then { mass := m.1 }
    else { found := true, cx := ((64 * m.2.1 + m.1 / 2) / m.1 : Nat), cy := ((64 * m.2.2 + m.1 / 2) / m.1 : Nat), mass := m.1 }) (upto n) areas
  let master := fld (wordAt p 0) 12 8
  let mm := getN raw master {}
  let exp (k off : Nat) : Int := wordAt p (8 + 32 * k + off)
  let out := List.zipWith (fun (k : Nat) (m : MarkOut) =>
    if !m.found || !mm.found || k == master then m
    else { m with
      ex := Int.tdiv (((m.cx - mm.cx) - (exp k 0x14 - exp master 0x14)) * d.pxPitch) (64 * 65536)
      ey := Int.tdiv (((m.cy - mm.cy) - (exp k 0x18 - exp master 0x18)) * d.pitch) (64 * 65536) }) (upto n) raw
  .marks (areas.any areaVoid) out

/-- The tristimulus values of the pixels of a patch (R207, R275). -/
def patchPixels (d : Container) (a : List (List (List (Option Nat)))) : List (Nat × Nat × Nat) :=
  (a.map (fun l => (upto (getN l 0 []).length).filterMap (fun i =>
    match (getN l 0 []).getD i none, (getN l 1 []).getD i none, (getN l 2 []).getD i none with
    | some x, some y, some z => some (tristim d.matA 0 x y z, tristim d.matA 1 x y z, tristim d.matA 2 x y z)
    | _, _, _ => none))).flatten

/-- COLOUR_PATCH (R275). The colour computation in double precision is that of the standards named there (log 15). -/
def State.runPatches (s : State) (d : Container) (st : Stage) (r : RepeatStart) : TaskOut :=
  let p := st.param
  let n := regionCount p
  let parts := (upto n).map (fun k =>
    let g := regionOf p k
    let i := fld (wordAt p (8 + 32 * k + 0x18)) 7 0
    let empty := decide (g.1 + 2 * i > g.2.1) || decide (g.2.2.1 + 2 * i > g.2.2.2)
    (k, if empty then [] else s.regionArea r (g.1 + i, g.2.1 - i, g.2.2.1 + i, g.2.2.2 - i)))
  let out : List PatchOut := parts.map (fun (x : Nat × List (List (List (Option Nat)))) =>
    let e := 8 + 32 * x.1
    let px := patchPixels d x.2
    if px.isEmpty then { empty := true } else
    let w0 := wordAt p (e + 0x10)
    let w1 := wordAt p (e + 0x14)
    let lab := Config.colourLab px.length [sumN (px.map (·.1)), sumN (px.map (·.2.1)), sumN (px.map (·.2.2))]
      [sext 16 (fld w0 15 0), sext 16 (fld w0 31 16), sext 16 (fld w1 15 0)]
    { pass := decide (lab.2.2.2 ≤ fld w1 31 16), l := lab.1, a := lab.2.1, b := lab.2.2.1, de := lab.2.2.2, pixels := px.length })
  .patches (parts.any (fun x => areaVoid x.2)) out

/- Codes (R277-R279, R346-R349). -/

/-- GRADE_MIN (R362). -/
def Container.gradeMin (d : Container) : Nat := d.f 0x0082 0 0x00 31 24 15

/-- Smallest XPOS whose XNM (R10, R462) is at least v, by the inverse of the pitch. -/
def xposFrom (pitch wl : Nat) (v : Int) : Int := ceilDivI (ceilDivI (v * 131072) (max 1 pitch : Nat) - 1) 2 - wl

/-- The box of an item in lines and pixels of its epoch: first and last line, first and last XPOS (R346). -/
def State.itemBox (s : State) (i : VerItem) : Option (Nat × Nat × Int × Int) :=
  let d := s.deckOf i.epoch
  let ls := s.comb.lines.filter (fun l => l.epoch == i.epoch && decide (wposDiff l.wpos i.y0 ≥ 0) && decide (wposDiff i.y1 l.wpos ≥ 0))
  match ls with
  | [] => none
  | a :: r =>
    let ws := (a :: r).map (·.wln)
    let wl := if s.vdRole = 2 then s.vd.wl else 0
    some (minN a.wln ws, maxN ws, xposFrom d.pxPitch wl i.x0, xposFrom d.pxPitch wl (i.x1 + 1) - 1)

/-- First differing offset of two byte strings; the length of the shorter when they differ only in length, 0xFFFF when they match (R349). -/
def mismatchAt (n : Nat) : List Byte → List Byte → Nat
  | [], [] => 0xFFFF
  | a :: x, b :: y => if a = b then mismatchAt (n + 1) x y else n
  | _, _ => n

/-- CODE over an item's box (R277, R278, R348, R349). Decoding and grading follow the standards named there (log 14). -/
def State.runCode (s : State) (d : Container) (st : Stage) (i : VerItem) : CodeOut :=
  match s.itemBox i with
  | none => { reason := 6 }
  | some (y0, y1, x0, x1) =>
    let w0 := wordAt st.param 0
    let margin := fld w0 15 8
    let plane := fld w0 1 0
    let cols := (x1 - x0 + 1).toNat + 2 * margin
    let rows := y1 - y0 + 1 + 2 * margin
    if cols * rows > 262144 then { reason := 3 }
    else
      let box := s.ringArea false i.epoch (y0 : Int) (y1 - y0 + 1) x0 ((x1 - x0 + 1).toNat)
      let lost := (natsFrom (y1 - y0 + 1) y0).any (fun y => !s.lineHeld false i.epoch y && !s.pastEpoch false i.epoch y)
      let outside := (natsFrom (y1 - y0 + 1) y0).any (fun y => s.pastEpoch false i.epoch y)
      if outside then { reason := 6 }
      else if lost then { reason := 5 }
      else if box.any (fun l => (getN l plane []).any (·.isNone)) then { reason := 4 }
      else
        let crop := (s.ringArea false i.epoch ((y0 : Int) - margin) rows (x0 - margin) cols).map (fun l => getN l plane [])
        let r := Config.decodeSymbol crop [i.symb, fld w0 31 24, fld w0 23 16, fld (wordAt st.param 4) 11 0, margin]
        let base : CodeOut := { overall := r.2.2.1, symbRead := r.1, decodedLen := r.2.1.length, grades := (r.2.2.2.1 ++ List.replicate 8 0xFF).take 8
                                values := (r.2.2.2.2 ++ List.replicate 8 0).take 8 }
        if r.1 = 0 then { result := 5 }
        else if r.1 ≠ i.symb then { base with result := 4 }
        else if r.2.1 ≠ i.data then { base with result := 3, mismatchAt := mismatchAt 0 r.2.1 i.data }
        else if r.2.2.1 < d.gradeMin then { base with result := 2 }
        else { base with result := 1 }

/- Element mapping (R280). -/

/-- The camera line nearest a WPOS in an epoch, as its WLN. -/
def nearestLine (ls : List LineMark) (epoch : Nat) (w : Int) : Option Nat :=
  (ls.foldl (fun (b : Option (Nat × Nat)) l =>
    if l.epoch ≠ epoch then b else
    let dist := (wposDiff l.wpos w).natAbs
    match b with
    | none => some (dist, l.wln)
    | some x => if dist < x.1 ∨ (dist = x.1 ∧ l.wln < x.2) then some (dist, l.wln) else b) none).map (·.2)

/-- XPOS nearest a cross-web point in units of 2^-8 nm (R10); ties to the lower. -/
def nearestXpos (pitch wl : Nat) (c : Int) : Int :=
  let u := c * 256 - (pitch / 2 : Nat)
  let k := u / (max 1 pitch : Nat)
  (if 2 * (u - k * pitch) > (pitch : Int) then k + 1 else k) - wl

/-- G0, ELEMENTS, XDIR, EPITCH, GXNM0 of head h. -/
def Container.headG0 (d : Container) (h : Nat) : Nat := d.f 0x0080 h 0x000 15 0 0
/-- GROUP_LEAD of head h. -/
def Container.groupLead (d : Container) (h : Nat) : Nat := d.f 0x0080 h 0x000 28 26 h
/-- GXNM0 of a lead. -/
def Container.gxnm0 (d : Container) (h : Nat) : Nat := d.f 0x0080 h 0x040 31 0 0 + 2 ^ 32 * d.f 0x0080 h 0x044 7 0 0
/-- ELEMENTS of head h (HEADS). -/
def Container.elements (p : Container) (h : Nat) : Nat := p.f 0x8020 0 (128 * h) 11 0 2560
/-- XDIR of head h. -/
def Container.xdir (p : Container) (h : Nat) : Bool := p.b 0x8020 0 (128 * h) 30 false
/-- EPITCH of head h. -/
def Container.epitch (p : Container) (h : Nat) : Nat := p.f 0x8020 0 (128 * h + 0x0C) 31 0 21674667
/-- HPITCH of a lead. -/
def Container.hpitch (d : Container) (h : Nat) : Nat := d.f 0x0080 h 0x008 31 0 0x858D5553 + 2 ^ 32 * d.f 0x0080 h 0x00C 7 0 4

/-- Group position of element e of head h (R324). -/
def Container.posOf (d p : Container) (h e : Nat) : Nat := if p.xdir h then d.headG0 h + p.elements h - 1 - e else d.headG0 h + e

/-- Centre of element e of head h in 2^-8 nm (R324). -/
def Container.elemCentre (d p : Container) (h e : Nat) : Int :=
  (d.gxnm0 (d.groupLead h) * 256 + d.posOf p h e * p.epitch (d.groupLead h) + p.epitch (d.groupLead h) / 2 : Nat)

/-- The judgements of a head's window (R280): each element judged, true for dead. -/
def State.mapHead (s : State) (d : Container) (st : Stage) (h first last : Nat) (epoch : Nat) : Int × List (Nat × Bool) :=
  let p := s.profile.current
  let hd := getN s.print.head h {}
  let ls := hd.log.filter (fun l => l.epoch == epoch && decide (first ≤ l.k) && decide (l.k ≤ last))
  let half : Int := ((d.hpitch (d.groupLead h) / 131072 : Nat) : Int)
  let wl := if s.vdRole = 2 then s.vd.wl else 0
  let w0 := wordAt st.param 0
  let w1 := wordAt st.param 4
  let rows := ls.map (fun l =>
    let area := match nearestLine s.comb.lines epoch (l.label + half) with
      | some y => s.ringArea false epoch (y : Int) 1 0 d.width
      | none => []
    (l.fired, getN (getN area 0 []) (fld w1 1 0) []))
  let judge (e : Nat) : Option (Nat × Bool) :=
    let x := nearestXpos d.pxPitch wl (d.elemCentre p h e)
    let seen := rows.filterMap (fun r => if !bitAt r.1 e then none else
      (if x < 0 then none else r.2.getD x.toNat none).map (fun v => decide (v ≤ fld w0 11 0)))
    let n := seen.length
    let o := (seen.filter id).length
    if n < fld w1 31 16 then none else some (e, decide (o * 256 < fld w1 15 8 * n))
  (match ls.reverse with
   | l :: _ => l.label
   | [] => 0, (upto (p.elements h)).filterMap judge)

end Sys2Proof.Machine
end

