-- ==== Sys2Proof/Machine/NetCore.lean ====
section
/-! DEFINITION. The NETWORK section (R449) and the outgoing peer messages of the web side: REGISTER, SPEED and DEFECT (R440, R441). -/

namespace Sys2Proof.Machine

/-- HANDOFF_EN. -/
def Container.handoffEn (d : Container) : Bool := d.b 0x00D0 0 0x00 2 false
/-- SPEED_EN. -/
def Container.speedEn (d : Container) : Bool := d.b 0x00D0 0 0x00 1 false
/-- REG_EN. -/
def Container.regEn (d : Container) : Bool := d.b 0x00D0 0 0x00 0 false
/-- REG_ADDR, SPD_ADDR, HO_ADDR at 0x04, 0x0C, 0x14. -/
def Container.netAddr (d : Container) (off : Nat) : Nat := d.f 0x00D0 0 off 31 0 0
/-- REG_PORT, SPD_PORT, HO_PORT at 0x08, 0x10, 0x18. -/
def Container.netPort (d : Container) (off : Nat) : Nat := d.f 0x00D0 0 off 15 0 47801
/-- HO_SEVMIN. -/
def Container.hoSevMin (d : Container) : Nat := d.f 0x00D0 0 0x18 18 16 0

/-- XNM of a pixel (R10); in a pair the right-hand device counts from the pair's datum (R462). -/
def State.xnm (s : State) (d : Container) (x : Nat) : Nat := (2 * (x + if s.vdRole = 2 then s.vd.wl else 0) + 1) * d.pxPitch / 2 ^ 17

/-- A REGISTER message for a MARK record (R440, R441). -/
def State.sendRegister (s : State) (r : RepeatStart) (master : Nat) (l : List MarkOut) : State :=
  let d := s.deckOf r.epoch
  if !d.regEn then s else
  s.sendPeer 0x10 (d.netAddr 0x04) (d.netPort 0x08)
    (wordsBytes ([r.epoch, r.ridx] ++ lohiS (wpos48 r.wpos) ++ [l.length + master * 2 ^ 8 + b2n (!(getN l master {}).found) * 2 ^ 16, 0] ++
      (l.map (fun m => [b2n m.found, truncN 32 m.ex, truncN 32 m.ey])).flatten))

/-- A DEFECT message for the record of a blob (R440, R441). RIDX and ROFF of a line that is held no more have no stated value (free, log 3). -/
def State.sendDefect (s : State) (b : Descriptor) (typ cls sev cscore markers seq : Nat) (endWpos : Int) : State :=
  let d := s.deckOf b.epoch
  if !d.handoffEn || decide (sev < d.hoSevMin) then s else
  let line := s.comb.lines.find? (fun l => l.epoch == b.epoch && l.wln == b.y0)
  let at' : Nat × Nat := match line with
    | some l => (l.ridx, l.roff)
    | none => (Config.freeNat s.free % 2 ^ 32, Config.freeNat s.free % 2 ^ 32)
  let s1 := s.sendPeer 0x30 (d.netAddr 0x14) (d.netPort 0x18)
    (wordsBytes ([b.epoch, d.jobId, typ + cls % 16 * 2 ^ 8 + sev % 8 * 2 ^ 12 + cscore % 256 * 2 ^ 16 + markers % 256 * 2 ^ 24, at'.1] ++ lohi seq ++
      lohiS (wpos48 b.wpos) ++ lohiS (wpos48 endWpos) ++ [at'.2, min b.area 0xFFFFFFFF] ++ lohi (s.xnm d b.x0) ++ lohi (s.xnm d b.x1) ++ lohi b.time))
  if line.isNone then s1.drawn else s1

/-- A SPEED message (R440, R441): request, level, the leads at it, HOLD, IDLE; SPEED follows the camera-bar epoch. -/
def State.sendSpeed (s : State) (request level leads : Nat) (hold : Bool) : State :=
  let d := s.camDeck
  if !d.speedEn then s else
  s.sendPeer 0x20 (d.netAddr 0x0C) (d.netPort 0x10)
    (wordsBytes [request, level + leads * 2 ^ 8 + b2n hold * 2 ^ 16 + b2n (!s.sys.lineMode.isPrint) * 2 ^ 17, s.deck.epoch])

end Sys2Proof.Machine
end

