-- ==== Sys2Proof/Machine/Mailbox.lean ====
section
/-! DEFINITION. Mailboxes (R389-R395): GO and ACK, the Keeper taking a request with the checks of R391, writing a response,
and requests that arrive over UDP. -/

namespace Sys2Proof.Machine

/-- A row of the command tables of 16_command_reference.md: code, payload length (none for POKE, whose length depends on COUNT),
modes, the U mark and the A mark. -/
structure CmdRow where
  code : Nat
  len : Option Nat
  modes : ModeSet
  urgent : Bool := false
  abortable : Bool := false
  deriving DecidableEq, Repr, Inhabited

/-- The command tables, first half. -/
def cmdTableA : List CmdRow :=
  [⟨0x0000, some 0, .nb, true, false⟩, ⟨0x0001, some 0, .nb, true, false⟩, ⟨0x0002, some 0, .nb, true, false⟩,
   ⟨0x0003, some 20, .nb, false, false⟩, ⟨0x0004, some 4, .nb, false, false⟩, ⟨0x0005, some 0, .nb, true, false⟩,
   ⟨0x0006, some 4, .nb, true, false⟩, ⟨0x0007, some 4, .nb, true, false⟩, ⟨0x0008, some 4, .nb, false, false⟩,
   ⟨0x0009, some 4, .op, false, false⟩,
   ⟨0x0100, some 16, .op, false, true⟩, ⟨0x0101, some 4, .op, false, true⟩, ⟨0x0102, some 0, .op, false, false⟩,
   ⟨0x0103, some 8, .web, false, false⟩, ⟨0x0104, some 0, .web, false, false⟩, ⟨0x0105, some 0, .nw, false, false⟩,
   ⟨0x0106, some 0, .nb, false, false⟩, ⟨0x0107, some 4, .op, false, false⟩, ⟨0x0108, some 12, .cfg, false, true⟩,
   ⟨0x0200, some 8, .op, false, false⟩, ⟨0x0201, some 4, .op, false, false⟩, ⟨0x0202, some 4, .op, false, false⟩,
   ⟨0x0203, some 0, .nb, false, false⟩, ⟨0x0204, some 12, .lm, false, false⟩, ⟨0x0205, some 0, .lm, false, false⟩,
   ⟨0x0300, some 88, .webCal, false, false⟩, ⟨0x0301, some 4, .ops, false, false⟩, ⟨0x0302, some 8, .cal, false, false⟩,
   ⟨0x0303, some 0, .nb, false, false⟩, ⟨0x0304, some 12, .op, false, false⟩, ⟨0x0305, some 12, .cfgDiag, false, false⟩,
   ⟨0x0400, some 16, .op, false, false⟩, ⟨0x0401, some 8, .prt, false, false⟩, ⟨0x0402, some 0, .nb, false, false⟩,
   ⟨0x0403, some 4, .web, false, false⟩, ⟨0x0410, some 4, .nb, false, false⟩, ⟨0x0411, some 4, .prt, false, false⟩,
   ⟨0x0412, some 4, .op, false, false⟩, ⟨0x0413, some 4, .op, false, false⟩, ⟨0x0414, some 0, .nb, false, false⟩,
   ⟨0x0415, some 4, .op, false, false⟩]

/-- The command tables, second half. -/
def cmdTableB : List CmdRow :=
  [⟨0x0500, some 0, .nb, false, false⟩, ⟨0x0520, some 4, .op, false, false⟩, ⟨0x0521, some 0, .nb, false, false⟩,
   ⟨0x0522, some 40, .op, false, false⟩, ⟨0x0523, some 0, .op, false, false⟩,
   ⟨0x0600, some 28, .ops, false, false⟩, ⟨0x0601, some 4, .ops, false, false⟩, ⟨0x0602, some 4, .nb, true, false⟩,
   ⟨0x0603, some 0, .nb, false, false⟩, ⟨0x0604, some 4, .ops, false, false⟩,
   ⟨0x0700, some 0, .nb, false, false⟩, ⟨0x0701, some 8, .ops, false, false⟩, ⟨0x0702, some 20, .ops, false, false⟩,
   ⟨0x0703, some 0, .nb, false, false⟩,
   ⟨0x0800, some 12, .diag, false, false⟩, ⟨0x0801, none, .diag, false, false⟩, ⟨0x0802, some 8, .diag, false, false⟩,
   ⟨0x0803, some 4, .diag, false, false⟩, ⟨0x0804, some 4, .diag, false, false⟩, ⟨0x0805, some 0, .nb, false, false⟩,
   ⟨0x0900, some 0, .nb, false, false⟩, ⟨0x0901, some 20, .cfgWeb, false, true⟩, ⟨0x0902, some 4, .op, false, false⟩,
   ⟨0x0903, some 36, .cfg, false, false⟩, ⟨0x0904, some 0, .nb, false, false⟩, ⟨0x0905, some 8, .cfg, false, false⟩,
   ⟨0x0A00, some 0, .nb, false, false⟩, ⟨0x0A01, some 0, .nb, false, false⟩, ⟨0x0A02, some 16, .ns, false, false⟩,
   ⟨0x0A03, some 4, .ns, false, false⟩,
   ⟨0x0B00, some 0, .nb, false, false⟩, ⟨0x0B01, some 8, .op, false, false⟩, ⟨0x0B02, some 4, .op, false, false⟩,
   ⟨0x0B03, some 20, .op, false, false⟩, ⟨0x0B04, some 12, .op, false, false⟩]

/-- The row of a command code. -/
def cmdRow (code : Nat) : Option CmdRow := (cmdTableA ++ cmdTableB).find? (fun r => r.code == code)

/-- Is a declared HIF_HOST_VERSION word served: nothing declared, 1.0, or major 0 (R395)? -/
def versionServed (v : Nat) : Bool :=
  let major := fld v 31 24
  let minor := fld v 23 16
  major == 0 || (major == 1 && minor == 0)

/-- Does a declared HELLO version pass check 2 (R444): major 1 with any minor, or major 0? -/
def helloServed (v : Nat) : Bool := fld v 31 24 == 0 || fld v 31 24 == 1

/-- Is mailbox n's source served (R395, R444)? -/
def State.served (s : State) (n : Nat) (r : Request) : Bool :=
  if n ≤ 1 then versionServed r.hostVersion
  else if n = 2 then (match s.net.hellos.find? (fun h => h.addr == r.srcAddr) with
    | none => true
    | some h => helloServed h.hifVersion)
  else true

/-- Payload length of a command against a request: does LEN equal it, and what length does DETAIL name (R391 check 4)? -/
def lenCheck (row : CmdRow) (r : Request) : Option Nat :=
  match row.len with
  | some n => if r.len = n then none else some n
  | none =>
    let count := leAt r.payload 8 4
    if 1 ≤ count ∧ count ≤ 1016 ∧ r.len = 12 + 4 * count then none else some (12 + 4 * 1016)

/-- The checks of R391 in order: the first failure's reply. -/
def State.requestCheck (s : State) (n : Nat) (r : Request) : Option Reply :=
  if (match r.dgLen with
      | some d => d != r.len
      | none => false) then some (.fail .badLength (r.dgLen.getD 0))
  else if r.len > 4080 then some (.fail .badLength 4080)
  else if !s.served n r then some (.fail .version 0x01000000)
  else match cmdRow r.cmd with
    | none => some (.fail .unknownCmd 0)
    | some row =>
      match lenCheck row r with
      | some n => some (.fail .badLength n)
      | none => admission s { mbx := n, seq := r.seq } row.modes row.urgent

/-- A request header and payload as a request (R389). -/
def requestOf (bs : List Byte) (version srcAddr srcPort : Nat) (dg : Option Nat) : Request :=
  { cmd := leAt bs 0 2, flags := leAt bs 2 2, seq := leAt bs 4 4, len := leAt bs 8 4, arg := leAt bs 12 4,
    payload := (bs.drop 16).take (min (leAt bs 8 4) 4080), hostVersion := version, srcAddr := srcAddr, srcPort := srcPort,
    dgLen := dg }

/-- The request that mailbox n would hand over: from its buffer, or the oldest of its queue. -/
def State.offered (s : State) (n : Nat) : Option Request :=
  if n ≤ 1 then
    if (s.mailbox n).reqBusy then
      some (requestOf (memRead s.hif.buf (0x1000 + 0x2000 * n) 4096) (s.mailbox n).goVersion 0 0 none)
    else none
  else if n = 2 then s.hif.udpQueue.head?
  else if n = 3 then s.hif.peerQueue.head?
  else none

/-- Requests of a mailbox whose responses have not been acknowledged (R390). -/
def Mailbox.held (m : Mailbox) : Nat := m.taken.length + m.executed.length + b2n m.rspValid

/-- May the Keeper take a request of mailbox n now (R390, R392)? -/
def State.takable (s : State) (n : Nat) : Bool :=
  s.sys.mode != .boot && (s.offered n).isSome && decide ((s.mailbox n).held < 2)

/-- The mailbox that the Keeper serves next: MBX1 first, then MBX0, MBX2 and MBX3 in rotation (R392). -/
def State.keeperNext (s : State) : Option Nat :=
  if s.takable 1 then some 1
  else
    let order := if s.hif.rotation = 2 then [2, 3, 0] else if s.hif.rotation = 3 then [3, 0, 2] else [0, 2, 3]
    order.find? s.takable

/-- The mailbox after n in the rotation. -/
def rotationAfter (n : Nat) : Nat := if n = 0 then 2 else if n = 2 then 3 else 0

/-- The request leaves the buffer or queue; a buffer's REQ_BUSY clears, which sets the FREE cause (R390, R382). -/
def State.takeFrom (s : State) (n : Nat) : State :=
  let s1 := if n = 1 then s else { s with hif.rotation := rotationAfter n }
  if n ≤ 1 then (s1.updMbx n (fun m => { m with reqBusy := false })).raiseIrq (2 + n)
  else if n = 2 then { s1 with hif.udpQueue := s1.hif.udpQueue.drop 1 }
  else { s1 with hif.peerQueue := s1.hif.peerQueue.drop 1 }

/-- The payload words that R398 names in part (R402-R427): offset, and the mask of the bits named. Every other word of a payload is named whole. -/
def payloadNamed : Nat → List (Nat × Nat)
  | 0x0003 => [(0x10, 0xFFFF)]
  | 0x0004 => [(0x00, 0xF)]
  | 0x0006 => [(0x00, 0x3)]
  | 0x0009 => [(0x00, 0xFFFF00FF)]
  | 0x0100 => [(0x0C, 0xFF)]
  | 0x0204 => [(0x08, 0x1FFFFF)]
  | 0x0300 => (0x00, 0x0F0F011F) :: (upto 8).map (fun i => (0x18 + 8 * i, 0xFFFF))
  | 0x0301 => [(0x00, 0x0FFF003F)]
  | 0x0302 => [(0x00, 0x1), (0x04, 0xFFFFFF)]
  | 0x0304 => [(0x08, 0x1F)]
  | 0x0305 => [(0x00, 0x0F1F), (0x04, 0xFFFF)]
  | 0x0400 => [(0x00, 0x1F07), (0x04, 0x0)]
  | 0x0401 => [(0x00, 0x7)]
  | 0x0403 => [(0x00, 0xFFFF0007)]
  | 0x0410 => [(0x00, 0x7)]
  | 0x0411 => [(0x00, 0x0FFF0107)]
  | 0x0412 => [(0x00, 0xFFFF0007)]
  | 0x0413 => [(0x00, 0x7)]
  | 0x0415 => [(0x00, 0x7)]
  | 0x0522 => [(0x00, 0x1), (0x1C, 0x0)]
  | 0x0600 => [(0x00, 0x000F033F)]
  | 0x0601 => [(0x00, 0x3F)]
  | 0x0602 => [(0x00, 0x13F)]
  | 0x0604 => [(0x00, 0x3F3F)]
  | 0x0702 => [(0x10, 0x3)]
  | 0x0802 => [(0x00, 0x1FFF03)]
  | 0x0803 => [(0x00, 0xFF03)]
  | 0x0804 => [(0x00, 0x1)]
  | 0x0901 => [(0x0C, 0xFFFFFF), (0x10, 0x3)]
  | 0x0902 => [(0x00, 0x101)]
  | 0x0903 => [(0x00, 0x7)]
  | 0x0905 => [(0x00, 0x7)]
  | 0x0A02 => [(0x00, 0x3F), (0x04, 0x0)]
  | 0x0A03 => [(0x00, 0xFFFF)]
  | 0x0B03 => [(0x10, 0xFFFFFF)]
  | 0x0B04 => [(0x08, 0xFFFFFF)]
  | _ => []

/-- Does a request set a reserved bit: in its FLAGS, which no command defines, or in its payload (R15, R389, R398)? -/
def Request.reservedSet (r : Request) : Bool :=
  r.flags != 0 || (payloadNamed r.cmd).any (fun x => Nat.land (leAt r.payload x.1 4) (Nat.xor 0xFFFFFFFF x.2) != 0)

/-- GO (R389, R390): ignored on MBX2 and MBX3; while REQ_BUSY is 1 it sets DBERR; else it hands the request buffer over.
A non-zero reserved bit is misuse (R15). -/
def execMailboxGo (n value : Nat) (s : State) : Outcome :=
  if value ≥ 2 then .fault (.misuse 15)
  else if n ≥ 2 ∨ value = 0 then .next s
  else if (s.mailbox n).reqBusy then .next (s.updMbx n (fun m => { m with dberr := true }))
  else .next (s.updMbx n (fun m => { m with reqBusy := true, goVersion := s.hif.hostVersion }))

/-- ACK (R389, R390): ignored on MBX2 and MBX3 and while RSP_VALID is 0; else RSP_VALID clears. -/
def execMailboxAck (n value : Nat) (s : State) : Outcome :=
  if value ≥ 2 then .fault (.misuse 15)
  else if n ≥ 2 ∨ value = 0 then .next s
  else .next (s.updMbx n (fun m => { m with rspValid := false }))

/-- A response's bytes: header and payload (R389). -/
def Response.bytes (r : Response) : List Byte :=
  leBytes 2 r.status ++ leBytes 2 r.cmd ++ leBytes 4 r.seq ++ leBytes 4 r.payload.length ++ leBytes 4 r.detail ++ r.payload

/-- The Keeper writes the response of the oldest executed request (R390 step 5): into the buffer with RSP_VALID and its
interrupt, as a datagram to the source (R393, R394), or to the Viaduct peer. While RSP_VALID is 1, or with nothing
executed, nothing happens. A response that FLR or hot reset discarded is dropped (R380). -/
def execMailboxResponse (n : Nat) (s : State) : Outcome :=
  match (s.mailbox n).executed with
  | [] => .next s
  | r :: rest =>
    if (s.mailbox n).discard > 0 then
      .next (s.updMbx n (fun m => { m with executed := rest, discard := m.discard - 1 }))
    else if n ≤ 1 then
      if (s.mailbox n).rspValid then .next s
      else
        let s1 := { s with hif.buf := memWrite s.hif.buf (0x2000 + 0x2000 * n) r.bytes }
        .next ((s1.updMbx n (fun m => { m with executed := rest, rspValid := true, done := satInc m.done })).raiseIrq n)
    else if n = 2 then
      let s1 := s.updMbx 2 (fun m => { m with executed := rest, done := satInc m.done })
      let key := (r.srcAddr, r.srcPort)
      .next ({ s1 with hif.udpLast := (key, r) :: s1.hif.udpLast.filter (fun p => p.1 != key) }.sendOwn
        (.datagram r.srcAddr r.srcPort r.bytes s.ownTag))
    else
      .next ((s.updMbx n (fun m => { m with executed := rest, done := satInc m.done })).sendVd 0x03 (groupWords 1024 r.bytes))

/-- Does an address match an enabled ALLOW entry of the NETWORK profile section (R430)? -/
def Container.allows (p : Container) (addr : Nat) : Bool :=
  (upto 8).any (fun a =>
    let pre := min 32 (p.f 0x8030 0 (0x44 + 8 * a) 5 0 32)
    p.b 0x8030 0 (0x44 + 8 * a) 31 false &&
    decide (addr / 2 ^ (32 - pre) = p.f 0x8030 0 (0x40 + 8 * a) 31 0 0 / 2 ^ (32 - pre)))

/-- A whole datagram at port 47800 (R393, R394): a repeated SEQ takes the kept response again; a SEQ still queued or running
is dropped; beyond 8 queued requests BUSY 0x06 answers without execution. -/
def State.udpDatagram (s : State) (addr port : Nat) (data : List Byte) : State :=
  let r := requestOf data s.hif.hostVersion addr port (some (data.length - 16))
  match s.hif.udpLast.find? (fun p => p.1 == (addr, port) && p.2.seq == r.seq) with
  | some p => s.sendOwn (.datagram addr port p.2.bytes s.ownTag)
  | none =>
    let same := fun (q : Request) => q.srcAddr == addr && q.srcPort == port && q.seq == r.seq
    if s.hif.udpQueue.any same || (s.mailbox 2).taken.any same ||
       (s.mailbox 2).executed.any (fun x => x.srcAddr == addr && x.srcPort == port && x.seq == r.seq) then s
    else if s.hif.udpQueue.length ≥ 8 then
      s.sendOwn (.datagram addr port ({ status := 10, cmd := r.cmd, seq := r.seq, detail := 6 : Response }).bytes s.ownTag)
    else { s with hif.udpQueue := s.hif.udpQueue ++ [r] }

/-- A datagram, or a fragment of one, from a source to port 47800 (R393, R430): accepted only from an allowed source and while
the device has an IPv4 address. One fragmented datagram of up to 4,096 bytes is reassembled at a time; the first fragment
of another while one is open is not taken (DESIGN CHOICE, log 22). -/
def execUdpRequest (srcAddr srcPort : Nat) (data : List Byte) (firstFragment lastFragment : Bool) (s : State) : Outcome :=
  let p := s.profile.current
  if p.f 0x8030 0 0x0C 31 0 0 = 0 then .next s
  else if !p.allows srcAddr then .next { s with net.deniedSrc := satInc s.net.deniedSrc }
  else if firstFragment && lastFragment then .next (s.udpDatagram srcAddr srcPort data)
  else match s.hif.fragments with
    | none =>
      if firstFragment then
        .next { s with hif.fragments := some { srcAddr := srcAddr, srcPort := srcPort, data := data } }
      else .next s
    | some g =>
      if firstFragment || g.srcAddr != srcAddr || g.srcPort != srcPort then .next s
      else if (g.data ++ data).length > 4096 then .next { s with hif.fragments := none }
      else if lastFragment then
        .next (({ s with hif.fragments := none } : State).udpDatagram srcAddr srcPort (g.data ++ data))
      else .next { s with hif.fragments := some { g with data := g.data ++ data } }

/-- 10 ms after its first fragment an incomplete datagram is discarded (R393). -/
def execFragmentTimeout (s : State) : Outcome := .next { s with hif.fragments := none }

end Sys2Proof.Machine
end

