-- ==== Sys2Proof/Machine/Reset.lean ====
section
/-! DEFINITION. Resets (R380, R561): what each reset returns to its reset value and what it keeps. -/

namespace Sys2Proof.Machine

/-- What every reset keeps (R561): fuses, flash, the part, and the model's own fields. Memory reads as after reset: on-chip
memories are zeroed at SELFTEST (R249) and DRAM contents are not kept (DESIGN CHOICE, log 2). -/
def State.cold (s : State) : State :=
  { State.reset with
    fuse := { s.fuse with keyRam := List.replicate 8 none, testOpened := false }
    fw := { s.fw with writing := none, bootNotes := [] }
    profile := { State.reset.profile with stored := s.profile.stored }
    part := s.part
    power := { State.reset.power with down := s.power.down, hot := s.power.hot }
    free := s.free
    out := s.out
    pending := s.pending }

/-- PORST_N low, or VIN below UVLO falling: everything resets (R557, R561); reset stays asserted until RESET_RELEASE. -/
def State.porst (s : State) : State := { s.cold with sys.inReset := true }

/-- HIF_RESET and SYS_RESET: as PORST_N, which alone ends the hold of a protected instruction (R589), except the PCIe controller: the link, configuration space and the MSI-X table are
kept (R381, R561). -/
def State.hifReset (s : State) : State :=
  { s.porst with
    sys := { s.porst.sys with heldInReset := s.sys.heldInReset }
    hif := { s.porst.hif with msixEnable := s.hif.msixEnable, msixTable := s.hif.msixTable, linkUp := s.hif.linkUp, perst := s.hif.perst } }

/-- FLR, hot reset and PERST# on the items of R380: configuration space, MSI-X table and PBA, HIF_IRQ_STATUS, HIF_IRQ_MASK, the
window registers and HIF_HOST_VERSION return to their reset values; requests of MBX0 and MBX1 in progress complete and
their responses are discarded, and REQ_BUSY and RSP_VALID read 0. -/
def Hif.flr (h : Hif) : Hif :=
  { h with
    msixEnable := false, msixTable := Hif.msixTable {}, pba := 0, irqStatus := 0, irqMask := 0xFFFFFFFF,
    winLo := 0, winHi := 0x10, winLoHeld := 0, hostVersion := 1,
    mbx := [0, 1, 2, 3].map (fun n =>
      let m := getN h.mbx n {}
      if n ≤ 1 then { m with reqBusy := false, rspValid := false, executed := [], discard := m.taken.length } else m) }

end Sys2Proof.Machine
end

