-- ==== Sys2Proof/Machine/HostIf.lean ====
section
/-! DEFINITION. BAR0 registers of the host interface (R379-R388, R395), interrupts, the window base, the record rings. -/

namespace Sys2Proof.Machine

/-- HIF_RESET (R381): 0x0000_0A5A resets the device; other values are ignored. -/
def execHifReset (value : Word) (s : State) : Outcome :=
  if value = 0x0A5A then .next s.hifReset else .next s

/-- The bits of a list raised one after the other. -/
def State.raiseAll (s : State) : List Nat → State
  | [] => s
  | v :: r => (s.raiseIrq v).raiseAll r

/-- HIF_IRQ_STATUS (R382, R383): a 1 clears the bit. Writing a 1 to a bit that is never set has no effect. A cause in `same` recurs in the cycle of
the write: its bit stays 1 and its message is sent again (R17). -/
def execIrqStatusClear (value : Word) (s : State) (same : Word := 0) : Outcome :=
  .next (({ s with hif.irqStatus := Nat.land s.hif.irqStatus (Nat.xor 0xFFFFFFFF value.toNat) } : State).raiseAll (bitsSet 22 same.toNat))

/-- HIF_IRQ_FORCE (R383): a 1 sets the cause bit under the same rule. Bits 31:22 are never set (R382). -/
def execIrqForce (value : Word) (s : State) : Outcome := .next (s.raiseAll (bitsSet 22 value.toNat))

/-- Vector v unmasked in the MSI-X table (R383): a pending message is sent if its status bit is still 1. -/
def State.unmask (s : State) (v : Nat) : State :=
  let s1 := { s with hif.msixTable := updAt s.hif.msixTable (4 * v + 3) (fun w => clearBit w 0) }
  if bitAt s.hif.pba v then
    let s2 := { s1 with hif.pba := clearBit s.hif.pba v }
    if bitAt s.hif.irqStatus v then s2.sendVector v else s2
  else s1

/-- The host unmasks a vector in the MSI-X table (R383). -/
def execMsixUnmask (vector : Nat) (s : State) : Outcome := .next (if vector < 32 then s.unmask vector else s)

/-- HIF_WIN_BASE_LO (R384): held until the next write to HIF_WIN_BASE_HI; reserved bits are misuse (R15). -/
def execWinBaseLoWrite (value : Word) (s : State) : Outcome :=
  if value.toNat % 2 ^ 20 ≠ 0 then .fault (.misuse 15)
  else .next { s with hif.winLoHeld := value.toNat / 2 ^ 20 }

/-- HIF_WIN_BASE_HI (R384): applies BASE_LO and BASE_HI together; reserved bits are misuse (R15). -/
def execWinBaseHiWrite (value : Word) (s : State) : Outcome :=
  if value.toNat ≥ 2 ^ 8 then .fault (.misuse 15)
  else .next { s with hif.winHi := value.toNat, hif.winLo := s.hif.winLoHeld }

/-- HIF_HOST_VERSION (R395): the declared version; SERVED clears when it is not served. SERVED itself ignores the write. -/
def execHostVersionWrite (value : Word) (s : State) : Outcome :=
  if fld value.toNat 15 1 ≠ 0 then .fault (.misuse 15)
  else
    let d := value.toNat / 2 ^ 16 * 2 ^ 16
    .next { s with hif.hostVersion := d + b2n (versionServed d) }

/- Rings. -/

/-- The blocks that an entry keeps reserved until its return (R285); a crop slot stays held until CROP_RELEASE or reuse (R300). -/
def entryBlocks (bs : List BlockRef) : List BlockRef :=
  bs.filter (fun b => match b with
    | .crop _ => false
    | _ => true)

/-- The device writes the record at the head of ring k's writes to entry PROD: words 1-15, then word 0 with OWN = 0 (R285). PROD
advances (R387), the moderation rule of R388 counts the entry, and a FAULT record of KIND 2, 3 or 5 sets the FAULT cause
(R382). -/
def State.writeRecord (s : State) (k : Nat) : State :=
  let r := s.ring k
  match r.inflight with
  | [] => s
  | rec :: rest =>
    let a := r.entry r.prod
    let s1 := (s.wakeDram.write (a + 4) rec.tailBytes).write a (leBytes 4 rec.word0)
    let due := r.announced + 1 ≥ max 1 r.count
    let s2 := s1.updRing k (fun q => { q with
      inflight := rest, prod := r.ahead 1,
      held := if (entryBlocks rec.blocks).isEmpty then q.held else insertN r.prod (entryBlocks rec.blocks) q.held,
      announced := if due then 0 else r.announced + 1,
      firstAt := if due then none else some (r.firstAt.getD s.now) })
    let s3 := if due then s2.raiseIrq (4 + k) else s2
    if rec.typ = 0x0B ∧ getN rec.words 0 0 % 256 ∈ [2, 3, 5] then s3.raiseIrq 20 else s3

/-- A record is written to its ring entry (R285-R288). With no record in flight on the ring nothing happens. -/
def execRecordWrite (ring : Nat) (s : State) : Outcome := .next (s.writeRecord ring)

/-- A returned entry lets the oldest spilled record of the ring move into it, in SEQ order (R288). -/
def execSpillDrain (ring : Nat) (s : State) : Outcome :=
  let r := s.ring ring
  match r.spill with
  | [] => .next s
  | rec :: rest =>
    if s.entryFree r r.inflight.length then
      .next (s.updRing ring (fun q => { q with spill := rest, inflight := q.inflight ++ [rec] }))
    else .next s

/-- The host hands entry `index` of a ring to the device with one write of word 0 (R285, R286): OWN = 1, and the blocks that the
entry pointed to are released. -/
def State.returnEntry (s : State) (k index : Nat) : State :=
  let r := s.ring k
  let s1 := s.write (r.entry index) (leBytes 4 0x80000000)
  let s2 := { s1 with recs := s1.recs.freeBlocks ((lookupN index r.held).getD []) }
  s2.updRing k (fun q => { q with held := eraseN index q.held })

/-- The host writes OWN = 1 to hand a ring entry back (R285). An entry beyond the ring, or a ring that is disabled, holds
nothing to return. -/
def execRingEntryReturn (ring index : Nat) (s : State) : Outcome :=
  if index < (s.ring ring).size then .next (s.returnEntry ring index) else .next s

/-- TIMER_US µs after the first unannounced entry the ring's status bit sets (R388). With TIMER_US = 0 or nothing unannounced,
nothing happens. -/
def execRingTimerExpiry (ring : Nat) (s : State) : Outcome :=
  let r := s.ring ring
  if r.timerUs = 0 ∨ r.announced = 0 then .next s
  else .next ((s.updRing ring (fun q => { q with announced := 0, firstAt := none })).raiseIrq (4 + ring))

/-- A ring wholly in fitted DRAM (R397). -/
def State.ringInDram (s : State) (r : Ring) (sz : Nat) : Bool :=
  decide (0x1000000000 ≤ r.entry 0) && decide (r.entry 0 + 64 * 2 ^ sz ≤ 0x1000000000 + s.dramBytes)

/-- The ring is disabled (R386): the entry in progress completes, records behind it wait in the spill queue. -/
def State.disableRing (s : State) (k : Nat) : State :=
  let s1 := s.writeRecord k
  s1.updRing k (fun q => { q with sizeLog2 := 0, spill := q.inflight ++ q.spill, inflight := [] })

/-- A write to BASE_LO, BASE_HI or SIZE_LOG2 of a ring (R385, R386, R397). -/
def execRingConfigWrite (ring offset : Nat) (value : Word) (s : State) : Outcome :=
  let r := s.ring ring
  let v := value.toNat
  let cfgerr : Outcome := .next (s.updRing ring (fun q => { q with cfgErr := true }))
  if ring ≥ 8 then .next s
  else if offset = 0x00 then
    if v % 64 ≠ 0 then .fault (.misuse 15)
    else if r.sizeLog2 ≠ 0 then cfgerr
    else .next (s.updRing ring (fun q => { q with baseLo := v }))
  else if offset = 0x04 then
    if v ≥ 256 then .fault (.misuse 15)
    else if r.sizeLog2 ≠ 0 then cfgerr
    else .next (s.updRing ring (fun q => { q with baseHi := v }))
  else if offset = 0x08 then
    if v ≥ 32 then .fault (.misuse 15)
    else if v = 0 then .next (if r.sizeLog2 = 0 then s else s.disableRing ring)
    else if r.sizeLog2 ≠ 0 then cfgerr
    else if v < 6 ∨ v > 20 ∨ !s.ringInDram r v then .fault (.misuse 397)
    else .next (s.updRing ring (fun q => { q with sizeLog2 := v, prod := 0 }))
  else .next s

/-- A BAR0 write to a ring register without behaviour of its own: the moderation word and CFGERR (R385). -/
def State.ringRegWrite (s : State) (ring offset v : Nat) : Outcome :=
  if offset = 0x10 then .next (s.updRing ring (fun q => { q with timerUs := v / 65536, count := v % 65536 }))
  else if offset = 0x1C then
    if v ≥ 2 then .fault (.misuse 15)
    else .next (if v = 1 then s.updRing ring (fun q => { q with cfgErr := false }) else s)
  else if offset ≥ 0x28 ∧ v ≠ 0 then .fault (.misuse 15)
  else .next s

/-- A BAR0 write to a word of the MSI-X table: clearing the mask bit of a control word unmasks its vector. -/
def State.msixWrite (s : State) (i v : Nat) : State :=
  if i % 4 = 3 then
    if bitAt v 0 then { s with hif.msixTable := updAt s.hif.msixTable i (fun w => setBit w 0) } else s.unmask (i / 4)
  else { s with hif.msixTable := setAt s.hif.msixTable i v }

/-- A BAR0 write to a word of a mailbox buffer (R389, R397). -/
def State.bufWrite (s : State) (offset v : Nat) : Outcome :=
  let n := (offset - 0x1000) / 0x2000
  if n ≥ 2 ∨ (offset - 0x1000) % 0x2000 ≥ 0x1000 then .fault (.misuse 397)
  else if (s.mailbox n).reqBusy then .fault (.misuse 397)
  else .next { s with hif.buf := memWrite s.hif.buf offset (leBytes 4 v) }

/-- A BAR0 write to a register without behaviour of its own (R16, R379, R381): an RW register takes the value, a W1C bit clears
on a 1, a read-only register and a reserved offset ignore the write. -/
def execRegisterWrite (offset : Nat) (value : Word) (s : State) : Outcome :=
  let v := value.toNat
  if offset % 4 ≠ 0 ∨ offset ≥ 0x10000 then .fault (.misuse 397)
  else if offset = 0x0044 then .next { s with hif.irqMask := v }
  else if 0x0200 ≤ offset ∧ offset < 0x0400 then s.ringRegWrite ((offset - 0x200) / 0x40) ((offset - 0x200) % 0x40) v
  else if 0x0400 ≤ offset ∧ offset < 0x0500 ∧ offset % 0x20 = 0x0C then
    if v ≥ 16 then .fault (.misuse 15)
    else .next { s with dma := { s.dma with chan := updAt s.dma.chan ((offset - 0x400) / 0x20) (fun k =>
      { k with err := k.err && !bitAt v 3, cfgErr := k.cfgErr && !bitAt v 2 }) } }
  else if 0x0800 ≤ offset ∧ offset < 0x0880 ∧ (offset - 0x800) % 0x20 = 4 then
    if v ≥ 8 then .fault (.misuse 15)
    else .next (if bitAt v 2 then s.updMbx ((offset - 0x800) / 0x20) (fun m => { m with dberr := false }) else s)
  else if 0x0800 ≤ offset ∧ offset < 0x0880 ∧ (offset - 0x800) % 0x20 ≥ 0x10 ∧ v ≠ 0 then .fault (.misuse 15)
  else if 0x0C00 ≤ offset ∧ offset < 0x0E00 then .next (s.msixWrite ((offset - 0xC00) / 4) v)
  else if 0x1000 ≤ offset ∧ offset < 0x9000 then s.bufWrite offset v
  else .next s

/-- Every 1 ms the Keeper increments HIF_HEARTBEAT, which wraps (R381). -/
def execHeartbeat (s : State) : Outcome := .next { s with hif.heartbeat := (s.hif.heartbeat + 1) % 2 ^ 32 }

/-- Link loss without reset changes no register (R380). -/
def execPcieLinkLoss (s : State) : Outcome := .next { s with hif.linkUp := false }

/-- The pending vectors whose status bit is 1 and that are not masked are sent, others stay as they are. -/
def State.sendPending (s : State) : List Nat → State
  | [] => s
  | v :: r =>
    if bitAt s.hif.pba v && !s.hif.vecMasked v && !bitAt s.hif.irqMask v then
      (({ s with hif.pba := clearBit s.hif.pba v } : State).emit (.msix v)).sendPending r
    else s.sendPending r

/-- The PCIe link trains (R380): messages that fell due while it was down, held in the PBA, are sent. While PERST# is low the
link cannot train. -/
def execPcieLinkUp (s : State) : Outcome :=
  if s.hif.perst then .next s
  else .next (({ s with hif.linkUp := true } : State).sendPending (if s.hif.msixEnable then upto 32 else []))

/-- PERST# rises: the PCIe controller is ready for link training (R566). -/
def execPerstRelease (s : State) : Outcome := .next { s with hif.perst := false }

end Sys2Proof.Machine
end

