-- ==== Sys2Proof/Machine/RecCmds.lean ====
section
/-! DEFINITION. Commands of the records path and the web recorder (R299-R303, R419), and the crop store. -/

namespace Sys2Proof.Machine

/-- RING_QUERY (R419). -/
def State.ringReply (s : State) : Reply :=
  .ok ((upto 8).map (fun k =>
    let r := s.ring k
    wordsBytes [r.baseLo, r.baseHi, r.sizeLog2, r.prod, r.lost, r.spill.length] ++ leBytes 8 r.seq)).flatten

/-- RING_QUERY reports the ring registers. -/
def execRingQuery (q : Req) (s : State) : Outcome := runCmd 0x0500 q .nb false none (s, s.ringReply) s

/- Crops (R299, R300). -/

/-- Number of crop slots (R299). -/
def State.cropSlots (s : State) : Nat := min 65535 (s.regionSize 8 / 24832)

/-- Device address of a crop slot. -/
def State.cropAddr (s : State) (slot : Nat) : Nat := s.regionBase 8 + 24832 * slot

/-- Present generation of a crop slot; 0 before its first use. -/
def RecState.cropGenOf (r : RecState) (slot : Nat) : Nat := (lookupN slot r.cropGen).getD 0

/-- The lowest slot that is not held, of `n` slots from `i` on. -/
def freeSlot (held : List Nat) : Nat → Nat → Option Nat
  | 0, _ => none
  | n + 1, i => if held.contains i then freeSlot held n (i + 1) else some i

/-- A slot for a new crop (R300): a free one; under CROP_POLICY 1 the oldest otherwise. The choice among free slots is open: the lowest
(DESIGN CHOICE, log 37). -/
def State.takeCropSlot (s : State) (reuse : Bool) : Option Nat × State :=
  let slot := match freeSlot s.recs.cropHeld (min s.cropSlots (s.recs.cropHeld.length + 1)) 0 with
    | some k => some k
    | none => if reuse then s.recs.cropHeld.head? else none
  match slot with
  | none => (none, s)
  | some k =>
    let g := if s.recs.cropGenOf k ≥ 0xFFFF then 1 else s.recs.cropGenOf k + 1
    (some (g * 65536 + k), { s with recs := { s.recs with
      cropGen := insertN k g s.recs.cropGen, cropHeld := s.recs.cropHeld.filter (· != k) ++ [k] } })

/-- Does a handle name a held crop slot of its generation? -/
def State.cropValid (s : State) (handle : Nat) : Bool :=
  s.recs.cropHeld.contains (handle % 65536) && decide (handle / 65536 ≠ 0) && s.recs.cropGenOf (handle % 65536) == handle / 65536

/-- CROP_RELEASE (R300): the slot of the handle is free again; NOT_FOUND when the handle is not current. -/
def execCropRelease (q : Req) (handle : Nat) (s : State) : Outcome :=
  runCmd 0x0520 q .op false (if s.cropValid handle then none else some (.fail .notFound 0))
    ({ s with recs := { s.recs with cropHeld := s.recs.cropHeld.filter (· != handle % 65536) } }, {}) s

/- The web recorder (R302, R303, R419). -/

/-- Oldest line held: the first line of the oldest held reset group (R517). -/
def State.oldestHeld (s : State) (ov : Bool) : Option DirEntry :=
  ((s.heldGroups ov).map (·.2)).find? (fun e => e.reset && !e.dropped)

/-- Newest line held: the last line of the newest group that can be decoded. -/
def State.newestHeld (s : State) (ov : Bool) : Option DirEntry :=
  ((s.heldGroups ov).reverse.map (·.2)).find? (fun e => !e.dropped && s.lineHeld ov e.epoch e.y0)

/-- Entry of LOOKBACK_QUERY for a ring (R419). -/
def State.lookbackEntry (s : State) (ov : Bool) : List Byte :=
  match s.oldestHeld ov, s.newestHeld ov with
  | some a, some b => wordsBytes [a.epoch, b.epoch] ++ leBytes 8 a.y0 ++ leBytes 8 (b.y0 + b.lines - 1) ++ leBytes 8 0
  | _, _ => leBytes 24 0 ++ leBytes 8 1

/-- LOOKBACK_QUERY (R419). -/
def execLookbackQuery (q : Req) (s : State) : Outcome :=
  runCmd 0x0521 q .nb false none (s, .ok (s.lookbackEntry false ++ s.lookbackEntry true)) s

/-- Is every line of an area held, or outside its epoch (R303)? -/
def State.areaHeld (s : State) (ov : Bool) (e first lines : Nat) : Bool :=
  (natsFrom lines first).all (fun y => s.lineHeld ov e y || s.pastEpoch ov e y)

/-- The rule that the destination of a look-back fetch breaks: no place that the host may name (R32, R427), or one that overlaps a record ring or a
reference object slot (R309). -/
def State.fetchMisuse (s : State) (dest n : Nat) : Option Nat :=
  match s.destMisuse dest n with
  | some r => some r
  | none => if overlapsBlocks (s.ringRanges ++ s.refWritable) dest n then some 309 else none

/-- LOOKBACK_FETCH (R303): ACCEPTED; whether the area is held is settled at acceptance. -/
def execLookbackFetch (q : Req) (overview : Bool) (epoch first lines xpos pixels dest : Nat) (s : State) : Outcome :=
  match (if (admission s q .op false).isNone && (busyIfRunning s 0x0522).isNone then
      s.fetchMisuse dest (lines * pixels * (s.deckOf epoch).planes * 2) else none) with
  | some r => .fault (.misuse r)
  | none =>
    runCmd 0x0522 q .op false (busyIfRunning s 0x0522)
      (s.start 0x0522 q [b2n overview, epoch, first, lines, xpos, pixels, dest, b2n (s.areaHeld overview epoch first lines)], .accepted) s

/-- The fetched samples in destination order: 16 bits each, 0xFFFF where there is none (R303). -/
def areaBytes (area : List (List (List (Option Nat)))) (planes pixels : Nat) : List Byte :=
  (area.map (fun l => ((upto pixels).map (fun c => ((upto planes).map (fun p =>
    leBytes 2 (((getN l p []).getD c none).getD 0xFFFF))).flatten)).flatten)).flatten

/-- Bytes of a free content at an address: the destination of a failed fetch is not defined (R303; free, log 3). -/
def State.writeFree (s : State) (a n : Nat) : State :=
  (s.write a ((upto n).map (fun i => Config.freeByte s.free i))).drawn

/-- LOOKBACK_FETCH_DONE (R303, R521): the area is written and COMPLETE carries OK, or NOT_FOUND where lines were not held at acceptance (0x01) or
have been overwritten since (0x02), or where part of the area could not be decoded and reads empty (0x03). `bad` names unit, column and group of each error. -/
def execLookbackFetchDone (s : State) (bad : List (Nat × Nat × Nat) := []) : Outcome :=
  match s.runningCmd 0x0522 with
  | none => .next s
  | some r =>
    match r.args with
    | [ov, e, first, lines, xpos, pixels, dest, held] =>
      let o := decide (ov = 1)
      let planes := (s.deckOf e).planes
      let n := lines * pixels * planes * 2
      if held = 0 then .next ((s.writeFree dest n).complete r .notFound 1)
      else if !s.areaHeld o e first lines then .next ((s.writeFree dest n).complete r .notFound 2)
      else
        let s1 := s.withBad bad
        let s2 := s1.endBad.write dest (areaBytes (s1.ringArea o e first lines xpos pixels) planes pixels)
        .next (if bad.isEmpty then s2.complete r .ok 0 else s2.complete r .notFound 3)
    | _ => .next s

/-- LOOKBACK_ABORT (R302): the fetch ends with COMPLETE BUSY 0x04; NOT_FOUND with none running. -/
def execLookbackAbort (q : Req) (s : State) : Outcome :=
  runCmd 0x0523 q .op false (if s.isRunning 0x0522 then none else some (.fail .notFound 0)) (s.completeCode 0x0522 .busy 4, {}) s

end Sys2Proof.Machine
end

