-- ==== Sys2Proof/Machine/Gaps.lean ====
section
/-! DEFINITION. The records path (R291-R295, R308): gaps, gap hold, strip accounts, the statistics entries that wait for them, and the
segmenter's command. -/

namespace Sys2Proof.Machine

/-- A GAP record (R293). `y1` is its last line; `more` says that it continues into the next strip. -/
def OpenGap.record (g : OpenGap) (width y1 : Nat) (more : Bool) : Rec :=
  { typ := 0x02, epoch := g.epoch
    flags := b2n g.cont + 2 * b2n more + 4 * b2n g.hold + 8 * b2n (g.x0 == 0 && decide (g.x1 + 1 = width))
    words := lohi g.y0 ++ lohi y1 ++ [g.x0, g.x1] ++ lohi (truncN 48 g.wpos) ++ lohi g.time ++
      [(if g.hold then g.causes * 2 ^ 16 else 0) + g.port * 2 ^ 8 + g.cause, g.strip] }

/-- A gap is written, closing at line y1. The lines of a hold gap are kept for the HOLD flag of the defect records (R290). -/
def State.writeGap (s : State) (y1 : Nat) (more : Bool) (g : OpenGap) : State :=
  let s1 : State := if g.hold then { s with recs := { s.recs with holdGaps := s.recs.holdGaps ++ [(g.epoch, g.y0, y1)] } } else s
  s1.post (g.record (s.deckOf g.epoch).width y1 more)

/-- Gaps written in order. -/
def State.writeGaps (s : State) (y1 : Nat) (more : OpenGap → Bool) : List OpenGap → State
  | [] => s
  | g :: r => (s.writeGap y1 (more g) g).writeGaps y1 more r

/-- The gap ring under the deck of an epoch, and its free spill entries (R295). -/
def State.gapFree (s : State) (epoch : Nat) : Nat := (s.ring ((s.deckOf epoch).ringOf 0x02)).spillFree

/-- Every open gap closes at the last line of its epoch (R292, R295); the SEQ of a hold gap is kept for GAP_RELEASE. -/
def State.closeGaps (s : State) : State :=
  match s.recs.lastLine with
  | none => s
  | some (_, y, _, _) =>
    let g := s.recs.gaps
    let held := g.find? (fun x => x.hold)
    let s0 : State := match held with
      | some x => { s with recs := { s.recs with holdSeq := s.nextSeq x.epoch 0x02 } }
      | none => s
    let s1 := s0.writeGaps y (fun _ => false) g
    { s1 with recs := { s1.recs with gaps := [] } }

/-- A hold gap opens at a line (R295). -/
def holdGap (l : LineSlot) (width : Nat) : OpenGap :=
  { epoch := l.epoch, y0 := l.wln, x0 := 0, x1 := width - 1, cause := 0x0A, wpos := l.wpos, time := l.time, hold := true }

/-- Bits of the causes of a line's intervals (R293). -/
def causeBits (ivs : List Interval) : Nat := ivs.foldl (fun a i => setBit a i.cause) 0

/-- Gap hold is entered or left as a line reaches the records path (R295). It ends at the last line before this one, which GAP_RELEASE names. -/
def State.holdCheck (s : State) (l : LineSlot) : State :=
  let free := s.gapFree l.epoch
  if !s.recs.hold && decide (free ≤ 64) then
    let y := match s.recs.lastLine with
      | some (_, y, _, _) => y
      | none => l.wln
    let s1 := s.writeGaps y (fun _ => false) s.recs.gaps
    let s2 : State := { s1 with recs := { s1.recs with
      gaps := [holdGap l (s.deckOf l.epoch).width], hold := true, holds := satInc s1.recs.holds } }
    s2.notifyIn l.epoch 0x0003 free 0 0 l.wln l.wpos l.time
  else if s.recs.hold && decide (free ≥ 1024) then
    let seq := if s.recs.gaps.isEmpty then s.recs.holdSeq else s.nextSeq l.epoch 0x02
    let at' := s.recs.lastLine.getD (l.epoch, l.wln, l.wpos, l.time)
    let s1 := s.writeGaps at'.2.1 (fun _ => false) s.recs.gaps
    let s2 : State := { s1 with recs := { s1.recs with gaps := [], hold := false, holdSeq := seq } }
    s2.notifyIn at'.1 0x0004 0 seq 0 at'.2.1 at'.2.2.1 at'.2.2.2
  else if s.recs.hold && s.recs.gaps.isEmpty then { s with recs := { s.recs with gaps := [holdGap l (s.deckOf l.epoch).width] } }
  else s

/-- Does an interval continue a gap: the same X0, X1 and cause (R292)? -/
def OpenGap.matches (g : OpenGap) (i : Interval) : Bool := g.x0 == i.x0 && g.x1 == i.x1 && g.cause == i.cause

/-- The gaps of a line outside a hold (R292, R308): an open gap with an equal interval goes on; the others close at the line before. At a
strip's first line, and after a gap-state error, every open gap closes and goes on as a new record. -/
def State.gapLine (s : State) (l : LineSlot) (strip : Nat) (ivs : List Interval) (split err : Bool) : State :=
  let open0 := s.recs.gaps
  let y := match s.recs.lastLine with
    | some (_, y, _, _) => y
    | none => l.wln
  let goesOn (g : OpenGap) : Bool := ivs.any g.matches
  let close := if split || err then open0 else open0.filter (fun g => !goesOn g)
  let keep := if split || err then [] else open0.filter goesOn
  let s1 := s.writeGaps y (fun g => split && goesOn g) close
  let fresh := (ivs.filter (fun i => !keep.any (fun g => g.matches i))).map (fun i =>
    ({ epoch := l.epoch, y0 := l.wln, x0 := i.x0, x1 := i.x1, cause := i.cause, port := i.port, strip := strip, wpos := l.wpos, time := l.time,
       cont := split && open0.any (fun g => g.matches i) } : OpenGap))
  { s1 with recs := { s1.recs with gaps := keep ++ fresh } }

/-- Area of a line's intervals. -/
def ivArea (ivs : List Interval) : Nat := sumN (ivs.map (fun i => i.x1 + 1 - i.x0))

/-- The strip account takes a line (R292). -/
def RecState.account (r : RecState) (p : Strip) (area : Nat) : RecState :=
  match r.strips.find? (fun a => a.id == p.id) with
  | some a => { r with strips := r.strips.map (fun b => if b.id = a.id then { b with lines := b.lines + 1, gapPx := b.gapPx + area } else b) }
  | none => { r with strips := r.strips ++ [{ epoch := p.epoch, strip := p.index, first := p.startWln, lines := 1, gapPx := area, id := p.id }] }

/-- A STATS ring entry (R157): the block at `buf`, or NOBUF. -/
def statsRecord (p : Strip) (inspected : Nat) (buf : Option (Nat × Nat)) : Rec :=
  { typ := 0x0C, epoch := p.epoch
    flags := b2n p.short + 2 * b2n p.brk + 4 * b2n buf.isNone + 8 * b2n p.cal
    words := lohi p.startWln ++ [p.lines, p.index] ++ lohi inspected ++ lohi (buf.getD (0, 0)).1 ++ [(buf.getD (0, 0)).2, 0] ++ lohi p.startTime
    blocks := match buf with
      | some b => [.stats b.1]
      | none => [] }

/-- First address of a region where `len` bytes are free, above the blocks in use; `n` bounds the search. -/
def allocIn : Nat → List (Nat × Nat) → Nat → Nat → Nat → Option Nat
  | 0, _, _, _, _ => none
  | n + 1, used, a, stop, len =>
    if a + len > stop then none
    else match used.find? (fun (u : Nat × Nat) => decide (u.1 < a + len) && decide (a < u.1 + u.2)) with
      | some u => allocIn n used (u.1 + ceilDiv u.2 64 * 64) stop len
      | none => some a

/-- A 64-byte aligned block of a DRAM region. -/
def State.allocBlock (s : State) (region : Nat) (used : List (Nat × Nat)) (len : Nat) : Option Nat :=
  allocIn (used.length + 1) used (s.regionBase region) (s.regionBase region + s.regionSize region) len

/-- The STATS entries of the strips whose statistics are complete and whose last line has passed the records path, in order (R157, R159). In
CALIBRATE no records path runs and every pair counts (DEDUCED, log 31). -/
def State.flushStats : Nat → State → State
  | 0, s => s
  | n + 1, s =>
    match s.stats.waiting with
    | [] => s
    | (p, st, bytes) :: rest =>
      let acc := s.recs.strips.find? (fun a => a.id == p.id)
      let ready := p.cal || (match acc with
        | some a => decide (a.lines ≥ p.lines)
        | none => false)
      if !ready then s else
      let gap := match acc with
        | some a => a.gapPx
        | none => 0
      let inspected := p.lines * (s.deckOf p.epoch).width - gap
      let a := s.allocBlock 6 s.recs.statsUsed bytes.length
      let s1 : State := match a with
        | some b => { s.write b bytes with recs := { s.recs with statsUsed := s.recs.statsUsed ++ [(b, bytes.length)] } }
        | none => s
      let s2 := s1.post (statsRecord p inspected (a.map (fun b => (b, bytes.length))))
      State.flushStats n { s2 with
        stats := { s2.stats with waiting := rest, latest := if a.isSome then some st else s2.stats.latest }
        recs := { s2.recs with strips := s2.recs.strips.filter (fun x => x.id != p.id) }
        intake := { s2.intake with strips := s2.intake.strips.map (fun x => if x.id = p.id then { x with done := true } else x) } }

/-- The STATS entries that have become complete. -/
def State.statsReady (s : State) : State := (State.flushStats (s.stats.waiting.length) s).pruneStrips

/-- A line passes the records path: gap hold, gaps, and the strip account (R291-R295). -/
def State.recordsLine (s : State) (c : CompLine) : State :=
  let l := c.slot
  let p := (s.strip c.strip).getD { id := c.strip, epoch := l.epoch, index := 0, startSer := c.ser, startWln := l.wln, startTime := l.time, len := 1 }
  let split := s.recs.lastLine.isSome && l.wln == p.startWln
  let s1 := s.holdCheck l
  let s2 : State := if s1.recs.hold then
      { s1 with recs := { s1.recs with gaps := s1.recs.gaps.map (fun g => { g with causes := Nat.lor g.causes (causeBits c.ivs) }) } }
    else s1.gapLine l p.index c.ivs split s1.cmp.gapError
  let area := if s2.recs.hold then (s.deckOf l.epoch).width else ivArea c.ivs
  ({ s2 with
    recs := { (s2.recs.account p area) with lastLine := some (l.epoch, l.wln, l.wpos, l.time) }
    cmp := { s2.cmp with gapError := false } } : State).statsReady

/-- The end of an epoch at the segmenter and the records path (R227, R292). -/
def State.endEpochPath (s : State) : State :=
  let d := s.deckOf (s.seg.epoch.getD 0)
  ({ s with seg := s.seg.endEpoch d } : State).closeGaps

/-- No line is on its way to the segmenter. -/
def State.pathEmpty (s : State) : Bool :=
  s.intake.slots.isEmpty && s.span.fromGeometry.isEmpty && s.span.toCompare.isEmpty && s.cmp.out.isEmpty

/-- The epoch ends when the web modes have been left and its last line has passed (R292; for the segmenter DEDUCED, log 32). -/
def State.endIfIdle (s : State) : State :=
  if !s.webRunning && s.pathEmpty && s.seg.epoch.isSome then s.endEpochPath else s

/-- GAP_ADJ and FAULT_CUT of a component that a fault closes before a line that is not compared (R219, R228). -/
def faultFlags (last : Option Nat) (c : Comp) : Nat := 2 ^ 11 + (if some c.d.y1 = last then 2 ^ 7 else 0)

/-- The errors of the segmenter's memories (R228): corrected ones count in SEG_ECC, and an uncorrectable queue entry is an occurrence. -/
def State.segErrors (s : State) (corrected : Nat) (queueError : Option (Nat × Nat)) : State :=
  let s1 : State := { s with seg := s.seg.tally (fun n => { n with segEcc := satAdd n.segEcc corrected }) }
  match queueError with
  | none => s1
  | some (i, k) =>
    let r := (s1.queueEntryError i k).occur 5 0 2 0 s1.faultLine
    if r.1 then r.2.segmenterRetired else r.2

/-- SEGMENT_LINE (R215): the oldest compared line is labelled and passes the records path. A label error closes every open component at the
line before with FAULT_CUT and leaves the line not compared with cause VOID (R228); it is an occurrence of the segmenter. A retired segmenter labels nothing:
the line is not compared, with cause RETIRED. Without a line nothing happens. -/
def State.segmentStep (labelError : Bool) (s : State) : State :=
  match s.cmp.out with
  | [] => s
  | c :: rest =>
    let s0 : State := { s with cmp := { s.cmp with out := rest } }
    let l := c.slot
    let d := s0.deckOf l.epoch
    let s1 := if s0.seg.epoch ≠ some l.epoch ∧ s0.seg.epoch.isSome then s0.endEpochPath else s0
    let g0 := if s1.seg.epoch = some l.epoch then s1.seg else s1.seg.startEpoch l.epoch
    let blocked : Option Nat := bestCause ((if labelError then [1] else []) ++ (if s0.isRetired 5 0 then [6] else []))
    let cells := if blocked.isSome then List.replicate d.width ((3, 0, 0) : Nat × Nat × Nat) else c.cells
    let g1 := if labelError then g0.closeAll d false (faultFlags g0.last) else g0
    let ivs := match blocked with
      | some k => (normalise d.width none [] ((upto d.width).map (fun x => pixelCause (some k) c.ivs false x))).1
      | none => c.ivs
    let s2 : State := { s1 with seg := g1.label d l cells }
    let s3 := s2.recordsLine { c with cells := cells, ivs := ivs }
    let r := if labelError then s3.occur 5 0 1 0 (l.wln, l.wpos) else (false, s3)
    (if r.1 then r.2.segmenterRetired else r.2).endIfIdle

end Sys2Proof.Machine
end

