-- ==== Sys2Proof/Machine/Stats.lean ====
section
/-! DEFINITION. The statistics stage (R154-R159) and the calibration loops (R164-R167). -/

namespace Sys2Proof.Machine

/-- NZONE. -/
def Container.nzone (d : Container) : Nat := d.f 0x00B0 0 0x20 31 24 16
/-- LOOP_STRIPS. -/
def Container.loopStrips (d : Container) : Nat := d.f 0x00B0 0 0x00 15 8 1
/-- WPLANE. -/
def Container.wplane (d : Container) : Nat := d.f 0x00B0 0 0x00 5 4 1
/-- KTRIM_EN, WHITE_EN, BLACK_EN. -/
def Container.ktrimEn (d : Container) : Bool := d.b 0x00B0 0 0x00 2 false
/-- WHITE_EN. -/
def Container.whiteEn (d : Container) : Bool := d.b 0x00B0 0 0x00 1 false
/-- BLACK_EN. -/
def Container.blackEn (d : Container) : Bool := d.b 0x00B0 0 0x00 0 false
/-- WFRAC. -/
def Container.wfrac (d : Container) : Nat := d.f 0x00B0 0 0x08 31 16 3277
/-- WTARGET. -/
def Container.wtarget (d : Container) : Nat := d.f 0x00B0 0 0x08 11 0 3300
/-- BSTEP. -/
def Container.bstep (d : Container) : Nat := d.f 0x00B0 0 0x0C 31 24 4
/-- BTARGET. -/
def Container.btarget (d : Container) : Nat := d.f 0x00B0 0 0x0C 11 0 64
/-- KMAX. -/
def Container.kmax (d : Container) : Nat := d.f 0x00B0 0 0x10 31 16 8192
/-- KMIN. -/
def Container.kmin (d : Container) : Nat := d.f 0x00B0 0 0x10 15 0 2048
/-- KSTEP. -/
def Container.kstep (d : Container) : Nat := d.f 0x00B0 0 0x14 15 0 41
/-- LSTEP of light l. -/
def Container.lstep (d : Container) (l : Nat) : Nat := d.f 0x00B0 0 (0x30 + 8 * l) 31 24 32
/-- LGAIN of light l. -/
def Container.lgain (d : Container) (l : Nat) : Int := d.sf 0x00B0 0 (0x30 + 8 * l) 15 0 4096
/-- LMAX of light l. -/
def Container.lmax (d : Container) (l : Nat) : Nat := d.f 0x00B0 0 (0x34 + 8 * l) 27 16 4095
/-- LMIN of light l. -/
def Container.lmin (d : Container) (l : Nat) : Nat := d.f 0x00B0 0 (0x34 + 8 * l) 11 0 0

/- Statistics of a line (R154-R156). -/

/-- Does the statistics stage leave a web line out for camera c, because its generation changed at a boundary shortly before (R156)? -/
def State.genExcluded (s : State) (d : Container) (c ser : Nat) : Bool :=
  (s.cam c).setLog.any (fun g => !g.inside && decide (g.ser ≤ ser) && decide (ser < g.ser + ceilDiv (d.dlyMaxCam c) 16))

/-- Stitched pixels of a position's own range (R142). -/
def ownRange (d : Container) (k : Nat) : List Nat :=
  (natsFrom (d.noutAt k) (d.x0At k)).filter (fun x => leftPos d x == some k && !inNext d k x)

/-- Is a pixel of a web line VOID? -/
def WebLine.isVoid (w : WebLine) (x : Nat) : Bool := w.voids.any (fun i => decide (i.x0 ≤ x) && decide (x ≤ i.x1))

/-- Histogram bins with samples added (R154). -/
def addHist (h : List Nat) : List Nat → List Nat
  | [] => h
  | v :: r => addHist (updAt h (v / 16) satInc) r

/-- The entry of the camera at position k takes a line. -/
def State.camStats (s : State) (d : Container) (w : WebLine) (k : Nat) (e : CamStats) : CamStats :=
  let c := d.camAt k
  let gen := (lookupN c w.gens).getD e.gen
  if e.cam ≠ c then e
  else if s.genExcluded d c w.ser then { e with gen := gen }
  else
    let xs := (ownRange d k).filter (fun x => !w.isVoid x)
    { e with
      gen := gen, lines := satInc e.lines, pixels := satAdd e.pixels xs.length
      hist := (upto 4).map (fun p => addHist (getN e.hist p []) (if p < d.planes then xs.map (fun x => (getN w.planes p []).getD x 0) else [])) }

/-- Zone z takes a line (R154). -/
def zoneAdd (d : Container) (w : WebLine) (z : Nat) (e : Nat × List Nat) : Nat × List Nat :=
  let lo := z * d.width / d.nzone
  let hi := (z + 1) * d.width / d.nzone
  let xs := (natsFrom (hi - lo) lo).filter (fun x => !w.isVoid x)
  (e.1 + xs.length, (upto 4).map (fun p => getN e.2 p 0 + (if p < d.planes then sumN (xs.map (fun x => (getN w.planes p []).getD x 0)) else 0)))

/-- Statistics of a strip before its first line. -/
def freshStats (d : Container) (w : WebLine) : StripStats :=
  { strip := w.strip, epoch := w.slot.epoch, cams := d.camsOn.map (fun c => { cam := c })
    zones := List.replicate d.nzone (0, [0, 0, 0, 0]) }

/-- A strip's statistics take a line. -/
def State.addLine (s : State) (st : StripStats) (w : WebLine) : StripStats :=
  let d := s.deckOf w.slot.epoch
  { st with
    lines := st.lines + 1
    cams := (upto d.ncam).foldl (fun cs k => cs.map (s.camStats d w k)) st.cams
    zones := (upto d.nzone).map (fun z => zoneAdd d w z (getN st.zones z (0, [0, 0, 0, 0]))) }

/-- OBm of the four planes (R155). -/
def obMeans (d : Container) (acc : Option (List Int × Nat)) : List Int :=
  match acc with
  | none => [0, 0, 0, 0]
  | some (sums, n) => if n = 0 then [0, 0, 0, 0] else
      (upto 4).map (fun p => if p < d.planes then (16 * getN sums p 0 + (n / 2 : Nat)) / (n : Int) else 0)

/-- The entries of a strip as they stand at its end: OBm and MIXED (R155, R156). -/
def State.closeStats (s : State) (p : Strip) (st : StripStats) : StripStats :=
  let d := s.deckOf p.epoch
  { st with cams := st.cams.map (fun e => { e with
      ob := obMeans d (lookupN p.id (s.cam e.cam).obAcc)
      mixed := (s.cam e.cam).setLog.any (fun g => g.inside && decide (p.startSer ≤ g.ser) && decide (g.ser < p.startSer + p.lines)) }) }

/-- The statistics block (R158). An OBm that does not fit 16 bits is truncated (DESIGN CHOICE, log 157). -/
def statsBytes (d : Container) (st : StripStats) : List Byte :=
  wordsBytes [st.cams.length, d.nzone, d.planes, 0] ++
  (st.cams.map (fun e =>
    wordsBytes [e.cam + 256 * b2n e.mixed, e.gen, e.lines, e.pixels] ++
    ((upto 4).map (fun p => leBytes 2 (truncN 16 (getN e.ob p 0)))).flatten ++ leBytes 8 0 ++
    ((upto 4).map (fun p => wordsBytes (getN e.hist p []))).flatten)).flatten ++
  (st.zones.map (fun z => leBytes 8 z.1 ++ ((upto 4).map (fun p => leBytes 8 (getN z.2 p 0))).flatten)).flatten

/-- Are the camera lines of a strip settled at every camera of its deck, so that its optically black sums are complete (R155)? -/
def State.stripSettled (s : State) (p : Strip) : Bool :=
  (s.deckOf p.epoch).camsOn.all (fun c => (s.cam c).frameOf p.id == .closed ||
    (natsFrom p.lines p.startSer).all (fun x => ((s.cam c).lineAt x).any (fun l => !l.held)))

/-- The strip in the statistics stage ends once its last web line has passed and its camera lines are settled (R157; the latter DEDUCED, log 158): its
block is formed, its entry waits for the account of the records path, and the loop counts it (R164). -/
def State.endStrip (s : State) : State :=
  match s.stats.cur with
  | none => s
  | some st =>
    match s.strip st.strip with
    | none => { s with stats := { s.stats with cur := none } }
    | some p =>
      if !p.ended || decide (st.lines < p.lines) || !s.stripSettled p then s else
      let st1 := s.closeStats p st
      let d := s.deckOf p.epoch
      let due := !p.cal && decide (s.stats.sinceLoop + 1 ≥ max 1 d.loopStrips)
      ({ s with
        stats := { s.stats with
          cur := none, waiting := s.stats.waiting ++ [(p, st1, statsBytes d st1)]
          sinceLoop := if p.cal then s.stats.sinceLoop else if due then 0 else s.stats.sinceLoop + 1
          loopDue := s.stats.loopDue || (due && (d.blackEn || d.whiteEn)) }
        intake := { s.intake with cam := s.intake.cam.map (fun (m : Camera) => { m with
          obAcc := eraseN p.id m.obAcc }) } } : State).statsReady

/-- STATS_LINE (R154): the oldest web line enters its strip's statistics. With the stage unusable (R581), and without a line, nothing is
measured. -/
def execStatsLine (s : State) : Outcome :=
  match s.span.toStats with
  | [] => .next s
  | w :: rest =>
    let s0 : State := { s with span := { s.span with toStats := rest } }
    if s.fault.statsUnusable then .next s0 else
    let s1 := match s0.stats.cur with
      | some st => if st.strip ≠ w.strip then s0.endStrip else s0
      | none => s0
    let st := match s1.stats.cur with
      | some x => if x.strip = w.strip then x else freshStats (s1.deckOf w.slot.epoch) w
      | none => freshStats (s1.deckOf w.slot.epoch) w
    .next (({ s1 with stats := { s1.stats with cur := some (s1.addLine st w) } } : State).endStrip)

/- The loops (R164-R167). -/

/-- Wm of one plane: 16b + 8 for the largest bin b whose bins b to 255 sum to at least q (R166). -/
def whiteMean (q : Nat) (hist : List Nat) : Int :=
  16 * (((upto 256).filter (fun b => decide (sumN (hist.drop b) ≥ q))).getLast?.getD 0 : Nat) + 8

/-- Does a camera take part in the white loop: T of at least 4,096? -/
def CamStats.takesPart (e : CamStats) : Bool := decide (e.pixels ≥ 4096)

/-- Wm of a camera and plane. -/
def CamStats.wm (e : CamStats) (d : Container) (p : Nat) : Int := whiteMean (ceilDiv (e.pixels * d.wfrac) 65536) (getN e.hist p [])

/-- BOFF after the black loop (R165). -/
def blackLoop (d : Container) (ob boff : List Int) : List Int :=
  (upto 4).map (fun p =>
    if p < d.planes then
      clampI (-2048) 2047 (getN boff p 0 + clampI (-(d.bstep : Int)) d.bstep ((getN ob p 0 - 16 * d.btarget + 8) / 16))
    else getN boff p 0)

/-- The code of light l after the white loop, and its step (R166); none where no camera takes part, and for a converter that the loop does not move: its MODE
is 2 (R163). No camera names light 15: LIGHT 0xF is none (R174). -/
def State.lightLoop (s : State) (d : Container) (st : StripStats) (l : Nat) : Option (Nat × Int) :=
  let es := st.cams.filter (fun e => e.takesPart && d.lightOf e.cam == l)
  if es.isEmpty ∨ l ≥ 15 ∨ d.ltdac l ≥ 48 ∨ d.tdacMode (d.ltdac l) ≠ 2 then none else
  let wl := sumI (es.map (fun e => e.wm d d.wplane)) / (es.length : Int)
  let step := clampI (-(d.lstep l : Int)) (d.lstep l) ((((d.wtarget : Int) - wl) * d.lgain l + 2048) / 4096)
  some ((clampI (d.lmin l) (d.lmax l) ((getN s.cal.code (d.ltdac l) 0 : Nat) + step)).toNat, step)

/-- K of one plane after the trim, and its step (R166); the division truncates toward 0. -/
def kTrim (d : Container) (k : Nat) (wm : Int) : Nat × Int :=
  let step := clampI (-(d.kstep : Int)) d.kstep (Int.tdiv ((k : Int) * ((d.wtarget : Int) - wm)) wm)
  ((clampI d.kmin d.kmax ((k : Int) + step)).toNat, step)

/-- A CALIBRATION record of kind LIMIT for a light (R167, R171). -/
def State.lightRecord (s : State) (light code : Nat) : State := s.calRecord 3 (some light) none none none none none none (some code)

/-- A CALIBRATION record of kind LIMIT for a camera, with its port (R167, R171). -/
def State.gainRecord (s : State) (c : Nat) : State :=
  s.calRecord 3 (some (s.portOf c)) (some c) (some (getN s.cal.count (s.portOf c) 0)) none none none none none

/-- The lights held at a limit after a run; one that enters it writes its record (R167). -/
def State.lightLimits (s : State) (d : Container) (res : List (Nat × Nat × Int)) : List Nat → State
  | [] => s
  | l :: r =>
    let s1 := match lookupN l res with
      | none => s
      | some (code, step) =>
        let held := decide (step ≠ 0) && code == getN s.cal.code (d.ltdac l) 0 && (code == d.lmin l || code == d.lmax l)
        let was := s.cal.lightLimit.contains l
        let s0 : State := { s with cal := { s.cal with
          lightLimit := if held then insertSorted l s.cal.lightLimit else s.cal.lightLimit.filter (· != l) } }
        if held && !was then s0.lightRecord l code else s0
    s1.lightLimits d res r

/-- As `lightLimits`, for the cameras whose K is held at KMIN or KMAX. -/
def State.kLimits (s : State) (d : Container) : List (Nat × List (Nat × Nat × Int)) → State
  | [] => s
  | (c, ks) :: r =>
    let held := ks.any (fun x => decide (x.2.2 ≠ 0) && x.1 == x.2.1 && (x.2.1 == d.kmin || x.2.1 == d.kmax))
    let was := s.cal.kLimit.contains c
    let s0 : State := { s with cal := { s.cal with
      kLimit := if held then insertSorted c s.cal.kLimit else s.cal.kLimit.filter (· != c) } }
    (if held && !was then s0.gainRecord c else s0).kLimits d r

/-- The result of one loop run (R165-R167): changes of BOFF, K and codes at the first boundary whose first line triggers after it; a
result that meets a host change, or a switch line, is discarded (R162; the latter as the line comes, `meetSwitch`). -/
def State.loopRun (s : State) (st : StripStats) : State :=
  let d := s.deckOf st.epoch
  let target := s.boundaryFrom s.intake.ser
  let lights := if d.whiteEn then (upto 16).filterMap (fun l => (s.lightLoop d st l).map (fun r => (l, r))) else []
  let moved (l : Nat) : Bool := match lookupN l lights with
    | some r => decide (r.1 ≠ getN s.cal.code (d.ltdac l) 0)
    | none => false
  let host (c : Nat) : Bool := (s.cam c).changes.any (fun ch => ch.target == target && ch.source != .loop)
  let deadLight (l : Nat) : Bool := d.camsOn.any (fun c => d.lightOf c == l && host c)
  let stays (c : Nat) : Bool := d.lightOf c == 0xF || !moved (d.lightOf c)
  let trims := if d.whiteEn && d.ktrimEn then
      (st.cams.filter (fun e => e.takesPart && stays e.cam)).map (fun e =>
        (e.cam, (upto d.planes).map (fun p =>
          let k := getN (s.cam e.cam).cur.k p 4096
          (k, kTrim d k (e.wm d p)))))
    else []
  let apply (e : CamStats) (s : State) : State :=
    let ob := d.obRange e.cam
    let cur : ExpSet := (s.cam e.cam).cur
    let boff : List Int := if d.blackEn && decide (ob.1 ≤ ob.2) then blackLoop d e.ob cur.boff else cur.boff
    let ks : List Nat := match lookupN e.cam trims with
      | some l => (upto 4).map (fun p => match l[p]? with
        | some x => x.2.1
        | none => getN cur.k p 4096)
      | none => cur.k
    let l := d.lightOf e.cam
    let codes : List (Nat × Nat) := if l ≠ 0xF && moved l && !deadLight l then [(d.ltdac l, ((lookupN l lights).map (·.1)).getD 0)] else []
    if boff = cur.boff ∧ ks = cur.k ∧ codes.isEmpty then s
    else s.addChange e.cam .loop { k := some ks, boff := some boff } false codes target
  let s1 : State := st.cams.foldl (fun s e => apply e s) s
  (s1.lightLimits d lights (upto 16)).kLimits d (trims.map (fun t => (t.1, t.2.map (fun x => (x.1, x.2.1, x.2.2)))))

/-- LOOP_RESULT_READY (R164): a run that is due uses the latest block whose generations are all current and none mixed; until one exists the
run waits. -/
def execLoopResultReady (s : State) : Outcome :=
  match s.stats.latest with
  | none => .next s
  | some st =>
    if s.stats.loopDue && s.webRunning && st.cams.all (fun e => !e.mixed && e.gen == (s.cam e.cam).gen) then
      .next (({ s with stats := { s.stats with loopDue := false } } : State).loopRun st)
    else .next s

end Sys2Proof.Machine
end

