-- ==== Sys2Proof/Machine/Trestle.lean ====
section
/-! DEFINITION. The Trestle event fabric (R363-R377): delivery of a fabric cycle, consumer inputs, relays, and its commands. -/

namespace Sys2Proof.Machine

/- EVENTS (R377). -/

/-- Channels that input i subscribes to. -/
def Container.subs (d : Container) (i : Nat) : List Nat :=
  ((upto 4).map (fun j => d.f 0x0090 0 (0x090 + 4 * i) (8 * j + 7) (8 * j) 0xFF)).filter (fun c => decide (c < 64))
/-- DIV of relay r. -/
def Container.relayDiv (d : Container) (r : Nat) : Nat := d.f 0x0090 0 (0x200 + 16 * r) 15 0 1
/-- MODE of relay r. -/
def Container.relayHeld (d : Container) (r : Nat) : Bool := d.b 0x0090 0 (0x204 + 16 * r) 0 false
/-- DLY_NM of relay r. -/
def Container.relayDly (d : Container) (r : Nat) : Nat := d.f 0x0090 0 (0x208 + 16 * r) 31 0 0
/-- PWIDTH of press output n. -/
def Container.pwidth (d : Container) (n : Nat) : Nat := d.f 0x0090 0 (0x340 + 4 * n) 23 0 1000
/-- SPD_EVC (R345). -/
def Container.spdEvc (d : Container) : Nat := d.f 0x0081 0 0x40 23 16 0xFF

/-- Input i of the fabric replaced by its image. -/
def State.updInput (s : State) (i : Nat) (f : InputCount → InputCount) : State :=
  { s with trestle := { s.trestle with inputs := updAt s.trestle.inputs i f } }

/-- Relay r of the fabric. -/
def State.relay (s : State) (r : Nat) : Relay := getN s.trestle.relays r {}

/-- Relay r replaced by its image. -/
def State.updRelay (s : State) (r : Nat) (f : Relay → Relay) : State :=
  { s with trestle := { s.trestle with relays := updAt s.trestle.relays r f } }

/-- Channel c replaced by its image. -/
def State.updChan (s : State) (c : Nat) (f : ChannelCount → ChannelCount) : State := { s with trestle := s.trestle.updChannel c f }

/-- An event of one channel in a fabric cycle: the event, its channel, and whether publications merged (R365). -/
structure Carried where
  chan : Nat
  ev : Event
  merged : Bool
  deriving DecidableEq, Repr, Inhabited

/-- The publication that gives a merged event its HOP, ORIGIN, EPOCH and TAG (R365): the largest HOP, ties to the lower producer. -/
def leadPub : List Pub → Option Pub
  | [] => none
  | p :: r => match leadPub r with
    | none => some p
    | some q => if p.hop > q.hop ∨ (p.hop = q.hop ∧ p.producer ≤ q.producer) then some p else some q

/-- The event that a channel carries for the publications of one fabric cycle (R365). -/
def carriedOf (pubs : List Pub) (c : Nat) : Option Carried :=
  let ps := pubs.filter (fun p => p.channel == c)
  (leadPub ps).map (fun p =>
    { chan := c, ev := { hop := p.hop, origin := p.origin, epoch := p.epoch, tag := p.tag, cycle := p.cycle + 1 }, merged := decide (ps.length > 1) })

/-- Event tasks of a stage that have not committed, with the events that are still to become tasks (R367). -/
def State.eventsOpen (s : State) (stage : Nat) : Nat :=
  (s.comb.events.filter (fun e => e.stage == stage)).length + (s.comb.tasks.filter (fun t => t.event && t.stage == stage && !t.withdrawn)).length

/-- Is a consumer input busy (R367)? -/
def State.inputBusy (s : State) (i : Nat) : Bool :=
  if i = 0 then s.intake.breakLine.isSome || s.intake.breakEnd.isSome
  else if i ≤ 8 then decide ((s.marker (i - 1)).queue.length ≥ 256)
  else if 0x29 ≤ i ∧ i ≤ 0x48 then getN s.pio.outActive (i - 0x29) false && decide (s.now < getN s.pio.outEnd (i - 0x29) 0)
  else if 0x49 ≤ i ∧ i ≤ 0x58 then decide ((s.relay (i - 0x49)).pending.length ≥ 16)
  else false

/-- A marker decision from an event (R371). A TAG of the epoch that a swap under way begins is brought back by the Wd that its switch line
will have (DEDUCED, log 38). -/
def State.markEvent (s : State) (m : Nat) (e : Event) : State :=
  let d := s.camDeck
  let coming := match s.deck.swap with
    | some w => !w.cameraDone && e.epoch == nextEpoch s.deck.epoch && e.epoch != s.deck.epoch && decide (w.switchLine ≥ s.pos.wln)
    | none => false
  let wd : Option Int :=
    if e.epoch = s.deck.epoch then some 0
    else if e.epoch = s.deck.prevEpoch then some s.deck.lastWd
    else match s.deck.swap with
      | some w => if coming then some (-((s.pos.t + (w.switchLine - s.pos.wln : Nat) * (d.pitch : Int)) / 65536)) else none
      | none => none
  match wd with
  | none => s.updMarker m (fun k => { k with stale := satInc k.stale })
  | some wd =>
    s.markDecide m {
      p0 := wpos48 (e.tag - wd - d.markLead m), p1 := wpos48 (e.tag - wd + d.evLen m + d.markTrail m), epoch := s.deck.epoch, event := true }

/-- The newest uncommitted EVENT task of a stage is withdrawn (R247, R372): an event that is not a task yet and a task before its dispatch are
removed, a running one will discard its outputs. -/
def State.withdrawTask (s : State) (stage : Nat) : State :=
  match (s.comb.events.filter (fun e => e.stage == stage)).length with
  | 0 =>
    match (s.comb.tasks.reverse).find? (fun t => t.event && t.stage == stage && !t.withdrawn) with
    | none => s
    | some t =>
      if t.cell.isNone then { s with comb := { s.comb with tasks := s.comb.tasks.filter (fun x => x.id != t.id) } }
      else { s with comb := { s.comb with tasks := s.comb.tasks.map (fun x => if x.id = t.id then { x with withdrawn := true } else x) } }
  | _ + 1 =>
    { s with comb := { s.comb with events := (removeFirst (fun (e : StageEvent) => e.stage == stage) s.comb.events.reverse).reverse } }

/-- The relay input takes an event (R366, R370): HOP 8 is dropped, and every DIVth of the others waits to be republished. -/
def State.relayTake (s : State) (r chan : Nat) (e : Event) : State :=
  if e.hop ≥ 8 then
    let s1 := s.updChan chan (fun c => { c with loopdrop := satInc c.loopdrop })
    { s1 with trestle := { s1.trestle with loops := insertSorted e.origin s1.trestle.loops } }
  else
    let n := (s.relay r).count + 1
    if n ≥ s.camDeck.relayDiv r then s.updRelay r (fun k => { count := 0, pending := k.pending ++ [e] })
    else s.updRelay r (fun k => { k with count := n })

/-- A pulse of PWIDTH × 100 ns starts on a press output (R367). -/
def State.startPulse (s : State) (n : Nat) : State :=
  { s with
    pio := { s.pio with outActive := setAt s.pio.outActive n true, outEnd := setAt s.pio.outEnd n (s.now + 20 * s.camDeck.pwidth n) }
    out := s.out ++ (if getN s.pio.outActive n false then [] else s.profile.current.pinEdge n true) }

/-- What a consumer input does with an event that it takes (R367). -/
def State.inputAct (s : State) (i chan : Nat) (e : Event) : State :=
  if i = 0 then
    if s.stripsRun && decide (s.nextNumber > 0) then
      { s with intake := { s.intake with breakLine := some (s.nextNumber - 1) } }
    else s
  else if i ≤ 8 then s.markEvent (i - 1) e
  else if i ≤ 0x10 then { s with trestle := s.trestle.setGroups e.cycle (setBit s.trestle.groups (i - 9)) (2 ^ (i - 9)) }
  else if i ≤ 0x18 then { s with trestle := s.trestle.setGroups e.cycle (clearBit s.trestle.groups (i - 0x11)) (2 ^ (i - 0x11)) }
  else if i ≤ 0x28 then s.withdrawTask (i - 0x19)
  else if i ≤ 0x48 then s.startPulse (i - 0x29)
  else s.relayTake (i - 0x49) chan e

/-- Events of a fabric cycle at one input (R367, R368): none, one, or several that coalesce into one trigger. Which of several gives the trigger
its event is not stated (free, log 3). -/
def State.deliverInput (s : State) (i : Nat) (cs : List Carried) : State :=
  match cs with
  | [] => s
  | c :: r =>
    let coinc := !r.isEmpty || c.merged
    if s.inputBusy i then s.updInput i (fun k => { k with ovr := satInc k.ovr })
    else
      let one := r.isEmpty
      let pick := if one then c else getN cs (Config.freeNat s.free % cs.length) c
      let s0 := if one then s else s.drawn
      (s0.updInput i (fun k => { k with taken := satInc k.taken, coinc := k.coinc || coinc })).inputAct i pick.chan pick.ev

/-- The inputs of R367 take the events of a fabric cycle, in the order of their IDs, so that GEN acts before GDIS (R369). -/
def State.deliverInputs (s : State) (cs : List Carried) : List Nat → State
  | [] => s
  | i :: r => (s.deliverInput i (cs.filter (fun c => (s.camDeck.subs i).contains c.chan))).deliverInputs cs r

/-- Stage triggers take their events (R367): an event becomes a task when its lines are readable. Busy with 16 uncommitted event tasks of the
stage. -/
def State.deliverStages (s : State) (cs : List Carried) : List Nat → State
  | [] => s
  | i :: r =>
    let s1 : State := match s.camDeck.stage i with
      | none => s
      | some st =>
        if st.trig ≠ 5 then s else
        match cs.find? (fun (c : Carried) => c.chan == st.evc) with
        | none => s
        | some (c : Carried) =>
          if s.eventsOpen i ≥ 16 then s else
          let l : Nat × Nat := match s.pos.lastLine with
            | some l => (l.epoch, l.wln)
            | none => (s.deck.epoch, 0)
          let e : StageEvent := { stage := i, epoch := l.1, wln := l.2, tag := c.ev.tag }
          { s with comb := { s.comb with events := s.comb.events ++ [e] } }
    s1.deliverStages cs r

/-- The speed input (R333, R367): an event on SPD_EVC holds level 4, anew with each event. -/
def State.deliverSpeed (s : State) (cs : List Carried) : State :=
  if cs.any (fun c => c.chan == s.camDeck.spdEvc) then { s with print := { s.print with spdHold := true } } else s

/-- The oldest fabric cycle of the publications under way. -/
def oldestCycle (b : List Pub) (c : Nat) : Nat := b.foldl (fun m q => min m q.cycle) c

/-- The parity errors of a delivery are transient occurrences against Trestle, which is never retired (R374, R575). -/
def State.parityErrors (s : State) : Nat → State
  | 0 => s
  | n + 1 => ((s.occur 0 0 0x10 0 s.faultLine).2).parityErrors n

/-- The publications of the oldest fabric cycle are delivered (R363-R368). `parity` names channels whose transfer has a parity error: their
event is dropped, PARITY counts, and each is an occurrence (R374). -/
def State.deliver (s : State) (parity : List Nat) : State :=
  match s.trestle.bus with
  | [] => s
  | p :: _ =>
    let k := oldestCycle s.trestle.bus p.cycle
    let now := s.trestle.bus.filter (fun q => q.cycle == k)
    let rest := s.trestle.bus.filter (fun q => q.cycle != k)
    let all := (upto 64).filterMap (carriedOf now)
    let cs := all.filter (fun c => !parity.contains c.chan)
    let t0 := { s.trestle with bus := rest }
    let t1 := all.foldl (fun (t : TrestleState) c => if parity.contains c.chan
      then t.updChannel c.chan (fun k => { k with parity := satInc k.parity })
      else t.updChannel c.chan (fun k => { k with carried := satInc k.carried })) t0
    if s.fault.trestleUnusable then { s with trestle := { s.trestle with bus := rest } }
    else (((({ s with trestle := t1 } : State).parityErrors (all.length - cs.length)).deliverInputs cs (upto 89)).deliverStages cs (upto 16)).deliverSpeed cs

/-- EVENT_DELIVERY (R366): a hop from the channels to the subscribed inputs. -/
def execEventDelivery (parity : List Nat) (s : State) : Outcome := .next (s.deliver parity)

/-- May relay r republish its oldest event: MODE 0, or H ≥ TAG + DLY_NM (R370)? -/
def State.relayReady (s : State) (r : Nat) (e : Event) : Bool :=
  !s.camDeck.relayHeld r || decide (wposDiff s.highWpos (e.tag + s.camDeck.relayDly r) ≥ 0)

/-- RELAY_FIRE (R366, R370): relay r republishes its oldest event with HOP + 1, in the fabric cycle after it was taken, or with MODE 1 after the
condition first holds. Until it may, nothing happens. -/
def execRelayFire (r : Nat) (s : State) : Outcome :=
  match (s.relay r).pending with
  | [] => .next s
  | e :: rest =>
    if !s.relayReady r e then .next s else
    let s1 := s.updRelay r (fun k => { k with pending := rest })
    match s.camDeck.pubChannel (0x40 + r) with
    | none => .next s1
    | some c =>
      if !s1.fabricRuns then .next s1 else
      .next { s1 with trestle := s1.trestle.publishOn {
        producer := 0x40 + r, channel := c, hop := e.hop + 1, origin := e.origin, epoch := e.epoch, tag := e.tag,
        cycle := if s.camDeck.relayHeld r then ptpAt s1.now + 1 else e.cycle + 1 } }

/-- PIN_OUT_PULSE_END (R367): the pulse of press output n has lasted PWIDTH × 100 ns, and the output returns to inactive. Without a pulse nothing
happens. -/
def execPinOutPulseEnd (n : Nat) (s : State) : Outcome :=
  if !getN s.pio.outActive n false then .next s
  else
    let s1 := s.advance (getN s.pio.outEnd n 0)
    .next { s1 with
      pio := { s1.pio with outActive := setAt s1.pio.outActive n false }
      out := s1.out ++ s1.profile.current.pinEdge n false }

/-- PIN_INPUT_EDGE (R364, R608, R609): the filtered level of press input i; the rising edge of its polarity-corrected level publishes PIN_INi with H. A
pin that the profile in force does not use as an input publishes nothing. -/
def execPinInputEdge (pin : Nat) (level : Bool) (s : State) : Outcome :=
  let was := getN s.pio.inLevel pin false
  let pol := s.profile.current.ioPol pin
  let s1 : State := { s with pio := { s.pio with inLevel := setAt s.pio.inLevel pin level } }
  .next (if (level != pol) && (was == pol) && s.profile.current.ioInput pin && decide (pin < 32) then s1.publish (0x20 + pin) s1.highWpos else s1)

/- Commands (R375, R426). -/

/-- EVT_QUERY response (R426). -/
def State.evtBytes (s : State) : List Byte :=
  let t := s.trestle
  wordsBytes [t.groups, 0, 0, 0] ++
  ((upto 128).map (fun p => wordsBytes [(lookupN p t.published).getD 0, b2n (t.loops.contains p)])).flatten ++
  ((upto 64).map (fun c => let k := getN t.channels c {}
                           wordsBytes [k.carried, k.blocked, k.loopdrop, k.parity])).flatten ++
  ((upto 89).map (fun i => let k := getN t.inputs i {}
                           wordsBytes [k.taken, k.ovr, b2n k.coinc])).flatten ++
  wordsBytes ((upto 8).map (fun m => (s.marker m).stale))

/-- EVT_QUERY (R426). -/
def execEvtQuery (q : Req) (s : State) : Outcome := runCmd 0x0A00 q .nb false none (s, .ok s.evtBytes) s

/-- LOOP, COINC and the counters cleared (R375). -/
def State.evtClear (s : State) : State :=
  let s1 : State := { s with trestle := { s.trestle with
    published := [], loops := [], channels := List.replicate 64 {}, inputs := List.replicate 89 {} } }
  { s1 with mark := { s1.mark with marker := s1.mark.marker.map (fun m => { m with stale := 0 }) } }

/-- EVT_CLEAR (R375). -/
def execEvtClear (q : Req) (s : State) : Outcome := runCmd 0x0A01 q .nb false none (s.evtClear, {}) s

/-- EVT_INJECT (R375, R426): HOST publishes on a channel, with the camera-bar epoch. A Trestle marked unusable delivers nothing (R374). -/
def execEvtInject (q : Req) (channel : Nat) (tag : Int) (s : State) : Outcome :=
  if channel ≥ 64 then .fault (.misuse 376) else
  let p : Pub := { producer := 0x7E, channel := channel, hop := 1, origin := 0x7E, epoch := s.deck.epoch,
                   tag := if s.webRunning then wpos48 tag else 0, cycle := ptpAt s.now }
  runCmd 0x0A02 q .ns false none (if s.fault.trestleUnusable then s else { s with trestle := s.trestle.publishOn p }, {}) s

/-- The groups after ENABLE and then DISABLE: a group named in both ends disabled (R426). -/
def groupsAfter (g enable disable : Nat) : Nat := Nat.land (Nat.lor g (enable % 256)) (Nat.xor 0xFF (disable % 256))

/-- EVT_GROUP (R369, R426): ENABLE, then DISABLE; a group that an event changed in the same fabric cycle stays as the event left it. The response
gives the groups enabled. -/
def execEvtGroup (q : Req) (enable disable : Nat) (s : State) : Outcome :=
  let t := s.trestle
  let cycle := ptpAt s.now
  let kept := if t.groupsCycle = cycle then t.groupsEvt else 0
  let g := Nat.lor (Nat.land (groupsAfter t.groups enable disable) (Nat.xor 0xFF kept)) (Nat.land t.groups kept)
  runCmd 0x0A03 q .ns false none ({ s with trestle := t.setGroups cycle g 0 }, .ok (leBytes 4 g)) s

end Sys2Proof.Machine
end

