-- ==== Sys2Proof/Machine/PrintCore.lean ====
section
/-! DEFINITION. Shared parts of the print block: the fields of HEADS, PRINT, PRINT_SAFETY and VERIFY (R343-R345, R362), line grids (R314),
print events (R338, R352), entry write-backs (R327), the CODE_VERIFY record (R347-R351), element states (R354, R355). -/

namespace Sys2Proof.Machine

/- Fields of the HEADS profile section (R343). -/

/-- EN of HEADS. -/
def Container.headWired (p : Container) (h : Nat) : Bool := p.b 0x8020 0 (128 * h) 31 false
/-- Thermistor B fitted, thermistor A fitted: the monitor channels of the fitted ones. -/
def Container.thermistors (p : Container) (h : Nat) : List Nat :=
  (if p.b 0x8020 0 (128 * h) 27 false then [3 * h] else []) ++ (if p.b 0x8020 0 (128 * h) 28 false then [3 * h + 1] else [])
/-- Number of data lines DL. -/
def Container.dataLines (p : Container) (h : Nat) : Nat := 2 ^ p.f 0x8020 0 (128 * h) 21 20 2
/-- DIV. -/
def Container.headDiv (p : Container) (h : Nat) : Nat := p.f 0x8020 0 (128 * h + 4) 31 24 0
/-- LSU. -/
def Container.lsu (p : Container) (h : Nat) : Nat := p.f 0x8020 0 (128 * h + 4) 23 16 5
/-- LW. -/
def Container.latchW (p : Container) (h : Nat) : Nat := p.f 0x8020 0 (128 * h + 4) 15 8 10
/-- Number of strobe groups. -/
def Container.strobeGroups (p : Container) (h : Nat) : Nat := p.f 0x8020 0 (128 * h) 18 16 7 + 1
/-- R_ELEM in 0.1 Ω. -/
def Container.rElem (p : Container) (h : Nat) : Nat := p.f 0x8020 0 (128 * h + 8) 31 16 30000
/-- AUTH_ADDR. -/
def Container.authAddr (p : Container) (h : Nat) : Nat := p.f 0x8020 0 (128 * h + 8) 14 8 0x50
/-- VSCALE. -/
def Container.vscale (p : Container) (h : Nat) : Nat := p.f 0x8020 0 (128 * h + 0x10) 31 0 0
/-- TEMP of curve point i. -/
def Container.curveT (p : Container) (h i : Nat) : Int := p.sf 0x8020 0 (128 * h + 0x40 + 4 * i) 31 16 0
/-- CODE of curve point i. -/
def Container.curveC (p : Container) (h i : Nat) : Nat := p.f 0x8020 0 (128 * h + 0x40 + 4 * i) 15 0 0
/-- TLOAD of a head in ticks of 10 ns (R313). -/
def Container.tload (p : Container) (h : Nat) : Nat :=
  2 * (p.headDiv h + 1) * ceilDiv (p.elements h) (p.dataLines h) + p.lsu h + p.latchW h

/- Fields of the PRINT section (R344). -/

/-- EN of PRINT. -/
def Container.headEn (d : Container) (h : Nat) : Bool := d.b 0x0080 h 0x000 31 false
/-- PAIR of a lead. -/
def Container.pair (d : Container) (h : Nat) : Bool := d.b 0x0080 h 0x000 30 false
/-- NSLOT. -/
def Container.nslot (d : Container) (h : Nat) : Nat := 2 ^ d.f 0x0080 h 0x000 25 24 0
/-- LOADS as the number of tiers. -/
def Container.loads (d : Container) (h : Nat) : Nat := d.f 0x0080 h 0x000 21 20 0 + 1
/-- SHIFT_SRC of a lead. -/
def Container.shiftSrc (d : Container) (h : Nat) : Nat := d.f 0x0080 h 0x000 19 18 0
/-- T_line in ticks of 10 ns (R314). -/
def Container.tline (d : Container) (h : Nat) : Nat := 100000000 / d.f 0x0080 h 0x004 31 16 48000
/-- GUARD. -/
def Container.guard (d : Container) (h : Nat) : Nat := d.f 0x0080 h 0x004 15 0 100
/-- wcap (R319). -/
def Container.wcap (d p : Container) (h : Nat) : Int := ((d.tline h : Int) - d.guard h) / (d.nslot h : Int) - p.latchW h
/-- BASE of class j. -/
def Container.baseW (d : Container) (h j : Nat) : Nat := d.f 0x0080 h (0x010 + 4 * j) 17 0 1000
/-- HIST of history state j. -/
def Container.histF (d : Container) (h j : Nat) : Nat := d.le 0x0080 h (0x020 + 2 * j) 2 4096
/-- TSTEP, T0. -/
def Container.tstep (d : Container) (h : Nat) : Nat := d.f 0x0080 h 0x028 31 16 80
/-- T0. -/
def Container.t0 (d : Container) (h : Nat) : Int := d.sf 0x0080 h 0x028 15 0 0
/-- VSTEP. -/
def Container.vstep (d : Container) (h : Nat) : Nat := d.f 0x0080 h 0x02C 31 16 250
/-- V0. -/
def Container.v0 (d : Container) (h : Nat) : Nat := d.f 0x0080 h 0x02C 15 0 10000
/-- SLOT_FIRST, signed 48 bits. -/
def Container.slotFirst (d : Container) (h : Nat) : Int := sext 48 (d.f 0x0080 h 0x030 31 0 0 + 2 ^ 32 * d.f 0x0080 h 0x034 15 0 0)
/-- SLOT_PITCH. -/
def Container.slotPitch (d : Container) (h : Nat) : Nat := d.f 0x0080 h 0x038 31 0 0
/-- SLOT_MASK. -/
def Container.slotMask (d : Container) (h : Nat) : Nat := d.f 0x0080 h 0x03C 31 24 0
/-- FETCH_LEAD. -/
def Container.fetchLead (d : Container) (h : Nat) : Nat := d.f 0x0080 h 0x03C 15 0 64
/-- GW. -/
def Container.groupW (d : Container) (h : Nat) : Nat := d.f 0x0080 h 0x048 15 0 2560
/-- SHIFT_HYST. -/
def Container.shiftHyst (d : Container) (h : Nat) : Nat := d.f 0x0080 h 0x04C 31 16 16
/-- SHIFT_MAX. -/
def Container.shiftMax (d : Container) (h : Nat) : Nat := d.f 0x0080 h 0x04C 15 0 64
/-- BG_LINES. -/
def Container.bgLines (d : Container) (h : Nat) : Nat := d.f 0x0080 h 0x050 15 0 0
/-- OVL. -/
def Container.ovl (d : Container) (h : Nat) : Nat := d.f 0x0080 h 0x058 8 0 0
/-- KTV[ti][vi]. -/
def Container.ktv (d : Container) (h ti vi : Nat) : Int := (d.le 0x0080 h (0x060 + 32 * ti + 2 * vi) 2 4096 : Nat)
/-- Class of element e. -/
def Container.elemClass (d : Container) (h e : Nat) : Nat := fld (d.le 0x0080 h (0x260 + e / 4) 1 0) (2 * (e % 4) + 1) (2 * (e % 4))
/-- Bit o of row r of the ownership mask. -/
def Container.ownBit (d : Container) (h r o : Nat) : Bool := bitAt (d.le 0x0080 h (0x4E0 + 32 * r + o / 8) 1 0) (o % 8)
/-- Background row b as a mask over positions. -/
def Container.bgRow (d : Container) (h b : Nat) : Nat :=
  let n := ceilDiv (d.groupW h) 32 * 4
  d.le 0x0080 h (0x6E0 + b * n) n 0 % 2 ^ d.groupW h

/-- Is head h used by a deck: PRINT = 1 and the head enabled in HEADS and PRINT (R337)? -/
def Container.headUsed (d p : Container) (h : Nat) : Bool := d.printEn && d.headEn h && p.headWired h

/-- Heads of a group (R314). -/
def Container.groupHeads (d p : Container) (lead : Nat) : List Nat := (upto 8).filter (fun h => d.headUsed p h && d.groupLead h == lead)

/- Fields of PRINT_SAFETY (R345) and VERIFY (R362). -/

/-- MAXFIRE. -/
def Container.maxFire (d : Container) : Nat := d.f 0x0081 0 0x00 31 16 65535
/-- WIN_E. -/
def Container.winE (d : Container) : Nat := d.f 0x0081 0 0x00 15 0 65535
/-- WIN_H. -/
def Container.winH (d : Container) : Nat := d.f 0x0081 0 0x04 31 16 1024
/-- EMAX_H. -/
def Container.emaxH (d : Container) : Nat := d.f 0x0081 0 0x08 31 0 0xFFFFFFFF
/-- REJ_SCALE. -/
def Container.rejScale (d : Container) : Nat := d.f 0x0081 0 0x0C 31 16 3686
/-- TLIMIT. -/
def Container.tlimit (d : Container) : Int := d.f 0x0081 0 0x10 31 16 1120
/-- THYST. -/
def Container.thyst (d : Container) : Int := d.f 0x0081 0 0x10 15 0 80
/-- VMAX. -/
def Container.vmax (d : Container) : Nat := d.f 0x0081 0 0x14 31 16 65535
/-- VMIN. -/
def Container.vmin (d : Container) : Nat := d.f 0x0081 0 0x14 15 0 0
/-- SPD_FULL. -/
def Container.spdFull (d : Container) : Nat := d.f 0x0081 0 0x18 31 16 65535
/-- CHYST in mm. -/
def Container.chyst (d : Container) : Nat := d.f 0x0081 0 0x1C 31 0 100
/-- CTH of step i in mm. -/
def Container.cth (d : Container) (i : Nat) : Nat := d.f 0x0081 0 (0x20 + 8 * i) 31 0 0
/-- SPD of step i. -/
def Container.spd (d : Container) (i : Nat) : Nat := d.f 0x0081 0 (0x24 + 8 * i) 15 0 65535
/-- SPD_TDAC. -/
def Container.spdTdac (d : Container) : Nat := d.f 0x0081 0 0x40 31 24 0x3F
/-- REJ_MARKERS. -/
def Container.rejMarkers (d : Container) : Nat := d.f 0x0082 0 0x00 23 16 0
/-- SUB_MODE. -/
def Container.subMode (d : Container) : Nat := d.f 0x0082 0 0x00 3 2 1
/-- AUTH_POLICY: 1 = block. -/
def Container.authBlock (d : Container) : Bool := d.f 0x0082 0 0x00 1 0 0 == 1
/-- DEAD_WINDOWS. -/
def Container.deadWindows (d : Container) : Nat := d.f 0x0082 0 0x04 31 24 2
/-- Key slot of head h. -/
def Container.keySlot (d : Container) (h : Nat) : Nat := d.f 0x0082 0 0x04 (3 * h + 2) (3 * h) 0
/-- USAGE_WB. -/
def Container.usageWb (d : Container) : Nat := d.f 0x0082 0 0x08 31 0 1000000
/-- USAGE_MAX; all ones = no limit. -/
def Container.usageMax (d : Container) : Nat := d.f 0x0082 0 0x0C 31 0 0xFFFFFFFF + 2 ^ 32 * d.f 0x0082 0 0x10 15 0 0xFFFF

/- Heads and grids (R314). -/

/-- Head h. -/
def State.head (s : State) (h : Nat) : Head := getN s.print.head h {}

/-- Head h replaced by its image. -/
def State.updHead (s : State) (h : Nat) (f : Head → Head) : State := { s with print := { s.print with head := updAt s.print.head h f } }

/-- Counters of head h replaced by their image. -/
def State.headTally (s : State) (h : Nat) (f : HeadCount → HeadCount) : State := s.updHead h (fun k => { k with count := f k.count })

/-- Is an epoch one that a swap brings and whose Wd is not known yet (R61)? -/
def State.epochComing (s : State) (e : Nat) : Bool :=
  match s.deck.swap with
  | some w => !w.cameraDone && e == nextEpoch s.deck.epoch
  | none => false

/-- The web location Ws of the swap under way in the coordinates of the present H. -/
def Swap.here (w : Swap) : Int := w.ws - w.base

/-- The first line of a grid at or beyond a point, as its q. -/
def Grid.firstQ (g : Grid) (p : Int) : Int := g.q0 + max 0 (ceilDivI (p * 65536 - g.q0) (max 1 g.pitch : Nat)) * g.pitch

/-- The grid of a lead in an epoch. -/
def State.gridOf (s : State) (lead epoch : Nat) : Option Grid := s.print.grids.find? (fun g => g.lead == lead && g.epoch == epoch)

/-- The grid of a lead in an epoch, as it begins where none exists: at 0 in an epoch begun at entry, at the first old-grid line at or beyond Ws
in one that a swap begins (R314); without an old grid it begins at Ws (DESIGN CHOICE, log 39). -/
def State.gridFor (s : State) (lead epoch : Nat) : Grid :=
  match s.gridOf lead epoch with
  | some g => g
  | none =>
    let entry : Grid := { lead := lead, epoch := epoch, q0 := 0, pitch := (s.deckOf epoch).hpitch lead, origin := 0 }
    match s.deck.swap with
    | none => entry
    | some w =>
      let new := if w.cameraDone then s.deck.epoch else nextEpoch s.deck.epoch
      let old := if w.cameraDone then s.deck.prevEpoch else s.deck.epoch
      if epoch ≠ new then entry else
      let od := s.deckOf old
      let nd := if w.cameraDone then s.camDeck else (s.slotDeck w.slot).getD {}
      let g0 : Option Grid := match s.gridOf lead old with
        | some g => some g
        | none => if (od.groupHeads s.profile.current lead).isEmpty || w.cameraDone then none
          else some { lead := lead, epoch := old, q0 := 0, pitch := od.hpitch lead, origin := 0 }
      { lead := lead, epoch := epoch, pitch := nd.hpitch lead, origin := w.here
        q0 := match g0 with
          | some g => g.firstQ w.here
          | none => w.here * 65536 }

/-- The grid of a lead in an epoch is kept from here on. -/
def State.keepGrid (s : State) (lead epoch : Nat) : State :=
  match s.gridOf lead epoch with
  | some _ => s
  | none => { s with print := { s.print with grids := s.print.grids ++ [s.gridFor lead epoch] } }

/-- q of line k. -/
def Grid.q (g : Grid) (k : Nat) : Int := g.q0 + k * g.pitch

/-- Label of line k as records state it, once Wd is known (R314). -/
def Grid.label (g : Grid) (k : Nat) : Int := g.q k / 65536 + g.adj

/-- H at which line k of a head triggers (R314). -/
def State.lineAtH (s : State) (g : Grid) (h k : Nat) : Int := g.q k + s.profile.current.headOff h * 65536

/-- Deck under which a head prints; the camera bar's for a head that runs no lines. -/
def State.headDeck (s : State) (h : Nat) : Container := if (s.head h).on then s.deckOf (s.head h).epoch else s.camDeck

/-- Grid of a head. -/
def State.headGrid (s : State) (h : Nat) : Grid := s.gridFor ((s.headDeck h).groupLead h) (s.head h).epoch

/-- The switch line of a group: the first group line that no head of the group has begun to prepare, in the newest grid that one of them runs
(R355); none while no head of the group runs. -/
def State.switchOf (s : State) (h : Nat) : Option (Nat × Nat) :=
  let lead := (s.headDeck h).groupLead h
  let run := (upto 8).filter (fun x => (s.head x).on && (s.headDeck x).groupLead x == lead)
  match run with
  | [] => none
  | _ =>
    let e := maxN (run.map (fun x => (s.head x).epoch))
    some (e, maxN ((run.filter (fun x => (s.head x).epoch == e)).map (fun x => (s.head x).k + b2n (s.head x).prep.isSome)))

/- Print events (R338, R352). -/

/-- Words 0x10-0x3F of a PRINT_EVENT record (R352). -/
def OpenEvent.words (e : OpenEvent) (head : Nat) : List Nat :=
  [e.kind * 2 ^ 24 + head * 2 ^ 16, min e.lines 0xFFFFFFFF] ++ lohi (truncN 48 e.first) ++ lohi (truncN 48 e.last) ++ lohi (e.item.getD 0) ++
    lohi e.time ++ [e.arg0, e.arg1]

/-- A print event is written, and published as PRINT_REJECT when it rejects (R352, R364). While its epoch's Wd is open it waits (R61). -/
def State.writeEvent (s : State) (head : Nat) (e : OpenEvent) : State :=
  if s.epochComing e.epoch then { s with print := { s.print with later := s.print.later ++ [.event head e] } }
  else
    let s1 := s.post { typ := 0x08, epoch := e.epoch, flags := b2n e.reject + 2 * b2n e.item.isSome, words := e.words head }
    if e.reject then s1.publish 0x13 e.first else s1

/-- Print events written in order. -/
def State.writeEvents (s : State) (head : Nat) : List OpenEvent → State
  | [] => s
  | e :: r => (s.writeEvent head e).writeEvents head r

/-- Open events of a head are written: those that a test names. -/
def State.closeEvents (s : State) (h : Nat) (p : OpenEvent → Bool) : State :=
  let k := s.head h
  (s.updHead h (fun k => { k with events := k.events.filter (fun e => !p e) })).writeEvents h (k.events.filter p)

/-- What a line of a head reports: kind, REJECT, the item that it concerns, ARG0 and ARG1. -/
structure LineNote where
  kind : Nat
  reject : Bool
  item : Option PrintItem := none
  elem : Option Nat := none
  deriving DecidableEq, Repr, Inhabited

/-- Does a note belong to an open event (R338)? FETCH_LATE is kept per item and ELEM_DEAD per element (DEDUCED, log 40). -/
def OpenEvent.takes (e : OpenEvent) (n : LineNote) (epoch k : Nat) : Bool :=
  e.kind == n.kind && e.epoch == epoch && e.lastK + 1 == k &&
  (if n.kind = 4 then e.item == n.item.map (·.itemId) else if n.kind = 0x10 then some e.arg0 == n.elem else true)

/-- One note of a line joins an open event or opens one. -/
def addNote (epoch k : Nat) (label : Int) (time : Nat) (n : LineNote) : List OpenEvent → List OpenEvent
  | [] => [{ kind := n.kind, reject := n.reject, epoch := epoch, first := label, last := label, lines := 1, item := n.item.map (·.itemId), time := time
             arg0 := match n.elem, n.item with
               | some e, _ => e
               | none, some i => i.row
               | none, none => 0
             arg1 := match n.elem, n.item with
               | some _, _ => 0
               | none, some i => i.slot
               | none, none => 0
             lastK := k }]
  | e :: r => if e.takes n epoch k then { e with last := label, lines := e.lines + 1, lastK := k, reject := e.reject || n.reject } :: r
    else e :: addNote epoch k label time n r

/-- Line k of a head reports its notes: open events that it does not continue are written (R338). -/
def State.noteLine (s : State) (h epoch k : Nat) (label : Int) (time : Nat) (notes : List LineNote) : State :=
  let s1 := s.closeEvents h (fun e => !notes.any (fun n => e.takes n epoch k))
  s1.updHead h (fun x => { x with events := notes.foldl (fun es n => addNote epoch k label time n es) x.events })

/-- A print event that covers no lines, or that is complete at once, at the present time. -/
def State.eventNow (s : State) (head kind : Nat) (reject : Bool) (epoch : Nat) (first last : Int) (lines : Nat) (item : Option Nat) (arg0 arg1 : Nat) :
    State :=
  s.writeEvent head { kind := kind, reject := reject, epoch := epoch, first := first, last := last, lines := lines, item := item, time := s.time
                      arg0 := arg0, arg1 := arg1 }

/- Queue entries and verification (R327, R346-R351). -/

/-- A queue entry is written back: WPOS, EPOCH and STATUS, and OWN cleared (R327). -/
def State.writeEntry (s : State) (addr status : Nat) (label : Int) (epoch : Nat) : State :=
  if s.epochComing epoch then { s with print := { s.print with later := s.print.later ++ [.entry addr status label epoch] } }
  else
    let w0 := memWord s.mem addr
    (s.write (addr + 0x38) (leBytes 8 (truncN 48 label + epoch % 65536 * 2 ^ 48))).write addr
      (leBytes 4 (w0 % 2 ^ 16 + status * 2 ^ 16 + fld w0 30 24 * 2 ^ 24))

/-- Time of the camera line at y0 (R350): the first line of the epoch at or past it. Before the camera has reached y0 the rule gives no value
(free, log 3). -/
def State.timeAt (s : State) (epoch : Nat) (y0 : Int) : Nat :=
  match (s.comb.lines.filter (fun l => l.epoch == epoch && decide (wposDiff l.wpos y0 ≥ 0))).getLast? with
  | some l => l.time
  | none => Config.freeNat s.free % 2 ^ 64

/-- Decisions of the markers in a mask, one after the other (R304). -/
def State.decideAll (s : State) (epoch seq : Nat) (a b : Int) : List Nat → State
  | [] => s
  | m :: r =>
    let p := s.markPoints m epoch a b
    (s.markDecide m { p0 := p.1, p1 := p.2, epoch := epoch, defectSeq := seq }).decideAll epoch seq a b r

/-- The value block of a CODE_VERIFY record (R350): parameters that the task did not measure have no stated value (free, log 3). -/
def State.valueBytes (s : State) (c : CodeOut) : List Byte :=
  ((upto 8).map (fun k => if getN c.grades k 0xFF = 0xFF then (upto 4).map (fun i => Config.freeByte s.free (4 * k + i))
    else leBytes 4 (truncN 32 (getN c.values k 0)))).flatten

/-- The CODE_VERIFY record of an item with what follows a rejected one (R350, R351). -/
def State.verifyRecord (s : State) (i : VerItem) (c : CodeOut) : State :=
  let d := s.deckOf i.epoch
  let rej := i.preject || decide (c.result ≠ 1)
  let a := s.allocBlock 7 s.recs.measUsed 32
  let s1 : State := match a with
    | some b => { s.write b (s.valueBytes c) with recs := { s.recs with measUsed := s.recs.measUsed ++ [(b, 32)] } }
    | none => s
  let seq := s1.nextSeq i.epoch 0x07
  let s2 := s1.post {
    typ := 0x07, epoch := i.epoch, flags := b2n a.isNone + 2 * b2n i.preject + 4 * b2n rej + 8 * b2n i.shifted
    words := lohi i.itemId ++ lohi (truncN 48 i.y0) ++ lohi (s.timeAt i.epoch i.y0) ++
      [c.result * 2 ^ 24 + c.reason * 2 ^ 16 + c.overall * 2 ^ 8 + c.symbRead, c.mismatchAt * 2 ^ 16 + c.decodedLen] ++
      lohi (ofLe ((c.grades.take 8).map (BitVec.ofNat 8))) ++ lohi (a.getD 0)
    blocks := match a with
      | some b => [.value b]
      | none => [] }
  if rej then ((s2.publish 0x11 i.y0).decideAll i.epoch seq i.y0 (i.y1 + 1) (bitsSet 8 d.rejMarkers)).drawn else s2.drawn

/-- An item passes to verification (R346, R347): to the Comb when CODE runs, else its record is written at once with NOT_CHECKED, MODE. -/
def State.passItem (s : State) (v : VerItem) (code : Bool) : State :=
  if s.epochComing v.epoch then { s with print := { s.print with later := s.print.later ++ [.item v code] } }
  else if code then { s with print := { s.print with verify := s.print.verify ++ [v] } }
  else s.verifyRecord v { reason := 1 }

/-- Outputs that waited for Wd leave, their labels reduced by it (R61, R314). -/
def State.flushLater (s : State) (wd : Int) : List LaterOut → State
  | [] => s
  | .event h e :: r => (s.writeEvent h { e with first := e.first - wd, last := e.last - wd }).flushLater wd r
  | .entry a st l ep :: r => (s.writeEntry a st (l - wd) ep).flushLater wd r
  | .item v c :: r => (s.passItem { v with y0 := v.y0 - wd, y1 := v.y1 - wd } c).flushLater wd r

/-- Wd becomes known: every output that waited leaves. -/
def State.wdKnown (s : State) (wd : Int) : State :=
  ({ s with print := { s.print with later := [] } } : State).flushLater wd s.print.later

/- Items (R327, R346). -/

/-- Queue of a lead. -/
def State.queueOf (s : State) (lead : Nat) : ItemQueue := getN s.print.queue lead {}

/-- Queue of a lead replaced by its image. -/
def State.updQueue (s : State) (lead : Nat) (f : ItemQueue → ItemQueue) : State :=
  { s with print := { s.print with queue := updAt s.print.queue lead f } }

/-- Device address of entry i. -/
def ItemQueue.addr (q : ItemQueue) (i : Nat) : Nat := q.base.getD 0 + 64 * i

/-- The box of an item as the Comb takes it (R346). -/
def State.verItem (s : State) (lead : Nat) (i : PrintItem) (preject : Bool) : VerItem :=
  let d := s.deckOf i.epoch
  let g := s.gridFor lead i.epoch
  let q := g.q i.first
  let sh := i.shift.getD 0
  let ep : Int := s.profile.current.epitch lead
  { epoch := i.epoch, itemId := i.itemId, symb := i.symb, data := s.read i.dataAddr i.dataLen
    y0 := q / 65536 + g.adj, y1 := (q + i.height * g.pitch) / 65536 - 1 + g.adj
    x0 := d.gxnm0 lead + (i.xpos + sh) * ep / 256, x1 := d.gxnm0 lead + (i.xpos + sh + i.width) * ep / 256 - 1
    preject := preject, shifted := i.shifted }

/-- An item ends with a STATUS (R327); a printed one with a symbol passes to verification (R346). -/
def State.finishItem (s : State) (lead : Nat) (i : PrintItem) (status : Nat) : State :=
  let g := s.gridFor lead i.epoch
  let s1 := (s.updQueue lead (fun q => { q with items := q.items.filter (fun x => x.index != i.index) })).writeEntry
    ((s.queueOf lead).addr i.index) status (g.label i.first) i.epoch
  if status ≤ 2 ∧ i.symb ≠ 0 then s1.passItem (s.verItem lead i (decide (status = 2))) i.verify else s1

/-- STATUS of an item whose last line has triggered at every head (R326): PRINTED_REJECT where a swap cut it (R332), NOT_PRINTED where no line
of it fired (DEDUCED, log 41). -/
def PrintItem.status (i : PrintItem) : Nat := if i.cut then 2 else if !i.fired then 6 else if i.reject then 2 else 1

/-- Items of a lead that cover line k of an epoch, in queue order. -/
def State.itemsAt (s : State) (lead epoch k : Nat) : List PrintItem :=
  (s.queueOf lead).items.filter (fun i => i.epoch == epoch && decide (i.first ≤ k) && decide (k < i.first + i.height))

/-- Items changed. -/
def State.mapItems (s : State) (lead : Nat) (f : PrintItem → PrintItem) : State :=
  s.updQueue lead (fun q => { q with items := q.items.map f })

/- Element states (R354, R355). -/

/-- State code of an element, with 16 added where UNCOVERED leaves ownership with the partner. -/
def Head.elemState (k : Head) (e : Nat) : Nat := (lookupN e k.elems).getD 0

/-- Is line (epoch, k) below a switch line? -/
def lineBelow (epoch k epoch' ks : Nat) : Bool := decide (epoch < epoch') || (epoch == epoch' && decide (k < ks))

/-- State of an element at a line (R355). -/
def Head.elemAt (x : Head) (e epoch k : Nat) : Nat :=
  match x.changes.find? (fun c => c.element == e && lineBelow epoch k c.epoch c.ks) with
  | some c => c.state
  | none => x.elemState e

/-- An element takes a state at its group's switch line (R355). -/
def State.setElem (s : State) (h e st : Nat) (at' : Option (Nat × Nat)) : State :=
  s.updHead h (fun x =>
    let els := if st = 0 then eraseN e x.elems else insertN e st x.elems
    match at' with
    | none => { x with elems := els }
    | some (ep, ks) => { x with elems := els, changes := x.changes ++ [{ element := e, state := x.elemState e, epoch := ep, ks := ks }] })

/-- Label of a group's switch line. -/
def State.switchLabel (s : State) (h : Nat) (at' : Option (Nat × Nat)) : Int :=
  match at' with
  | some (e, k) => (s.gridFor ((s.deckOf e).groupLead h) e).label k
  | none => 0

/-- The other head of a pair (R324), where the group of head h is one, and whether h is its owning head. -/
def State.partnerOf (s : State) (h : Nat) : Option (Nat × Bool) :=
  let d := s.headDeck h
  let lead := d.groupLead h
  if !d.pair lead then none else
  match (d.groupHeads s.profile.current lead).filter (· != h) with
  | b :: _ => some (b, decide (h < b))
  | [] => none

/-- State that an element takes on leaving OK (R354). -/
def State.deadState (s : State) (d : Container) (h e : Nat) : Nat :=
  match s.partnerOf h with
  | some (b, true) =>
    if (s.head b).elemState e ≠ 0 || s.isRetired 9 b then 4
    else if d.subMode = 1 then 3 else if d.subMode = 2 then 2 else 1
  | _ => 1

/-- The events of an element that leaves OK (R355). `first` is the first label of the run's first dead window. -/
def State.deadEvents (s : State) (h e st : Nat) (first : Int) (at' : Option (Nat × Nat)) : State :=
  let part := match s.partnerOf h with
    | some (b, _) => b
    | none => 0
  let ep := match at' with
    | some x => x.1
    | none => s.deck.epoch
  let g := s.gridFor ((s.deckOf ep).groupLead h) ep
  let last := match at' with
    | some (_, k) => (g.q k - g.pitch) / 65536 + g.adj
    | none => first
  let lines := (((last - first) * 65536 + (g.pitch / 2 : Nat)) / (max 1 g.pitch : Nat) + 1).toNat
  let s1 := s.eventNow h 0x10 true ep first last lines none e 0
  if st = 3 then s1.eventNow h 0x11 false ep (s.switchLabel h at') (s.switchLabel h at') 0 none e part
  else if st = 2 then s1.eventNow h 0x12 false ep (s.switchLabel h at') (s.switchLabel h at') 0 none e part
  else s1

/-- An element of a pair's other head becomes UNCOVERED when its partner is judged dead; ownership stays with the partner (R354). -/
def State.uncoverPartner (s : State) (h e : Nat) (at' : Option (Nat × Nat)) : State :=
  match s.partnerOf h with
  | some (a, false) =>
    let st := (s.head a).elemState e
    if st = 3 then s.setElem a e 20 at' else if st = 2 then s.setElem a e 4 at' else s
  | _ => s

/-- One judgement of an ELEM_MAP window (R354): a live one ends the run, a dead one extends it, and DEAD_WINDOWS of them end OK. -/
def State.judge (s : State) (d : Container) (h : Nat) (first : Int) (at' : Option (Nat × Nat)) (j : Nat × Bool) : State :=
  let runs := (s.head h).runs.filter (fun r => r.1 != j.1)
  if !j.2 then s.updHead h (fun x => { x with runs := runs })
  else
    let run := ((s.head h).runs.find? (fun r => r.1 == j.1)).getD (j.1, 0, first)
    let n := min 255 (run.2.1 + 1)
    let s1 := s.updHead h (fun x => { x with runs := runs ++ [(j.1, n, run.2.2)] })
    if (s.head h).elemState j.1 ≠ 0 || decide (n < d.deadWindows) then s1
    else
      let st := s1.deadState d h j.1
      ((s1.setElem h j.1 st at').deadEvents h j.1 st run.2.2 at').uncoverPartner h j.1 at'

/-- Judgements of one head in order. -/
def State.judgeAll (s : State) (d : Container) (h : Nat) (first : Int) (at' : Option (Nat × Nat)) : List (Nat × Bool) → State
  | [] => s
  | j :: r => (s.judge d h first at' j).judgeAll d h first at' r

/-- An ELEM_MAP result commits to the element-state tables (R354). A label of the epoch before the camera bar's is brought to the present one. -/
def State.commitElems (s : State) (epoch : Nat) : List (Nat × Int × List (Nat × Bool)) → State
  | [] => s
  | (h, first, js) :: r =>
    let f := if epoch ≠ s.deck.epoch ∧ epoch = s.deck.prevEpoch then first - s.deck.lastWd else first
    (s.judgeAll (s.deckOf epoch) h f (s.switchOf h) js).commitElems epoch r

end Sys2Proof.Machine
end

