-- ==== Sys2Proof/Machine/Consumables.lean ====
section
/-! DEFINITION. Consumable chips (R356-R359, R418): SHA-256 and HMAC as FIPS 180-4 and FIPS 198-1 define them (PRESUMED: the spec names the
standards, log 43), the exchanges on a head's chip bus, the usage count, and their commands. -/

namespace Sys2Proof.Machine

/- SHA-256 and HMAC-SHA-256 (PRESUMED: FIPS 180-4 and FIPS 198-1, log 43). -/

/-- The primes below 312, of which there are 64: FIPS 180-4 takes its constants from their roots. -/
def shaPrimes : List Nat := (natsFrom 310 2).filter (fun p => (natsFrom 16 2).all (fun q => decide (p ≤ q) || decide (p % q ≠ 0)))

/-- Round constants: 32 bits of the fraction of each prime's cube root. -/
def shaRoundKeys : List Nat := shaPrimes.map (fun p => cubeRoot 35 (p * 2 ^ 96) 0 % 2 ^ 32)

/-- Initial hash value: 32 bits of the fraction of the square roots of the first eight primes. -/
def shaStart : List Nat := (shaPrimes.take 8).map (fun p => isqrt (p * 2 ^ 64) % 2 ^ 32)

/-- Exclusive or of a word turned right by each of a list of distances. -/
def shaTurns (x : Nat) (ns : List Nat) : Nat := ns.foldl (fun a n => Nat.xor a ((x / 2 ^ n + x * 2 ^ (32 - n)) % 2 ^ 32)) 0

/-- The chain of FIPS 180-4 as two sequences, newest first: the values that `a` has held, and those that `e` has held, four of each. The schedule is a window of 16
words, oldest first, that moves on by one word at each step. -/
structure ShaChain where
  top : List Nat
  low : List Nat
  window : List Nat

/-- One step of the chain under a round constant. -/
def ShaChain.step (c : ShaChain) (key : Nat) : ShaChain :=
  let a := getN c.top
  let e := getN c.low
  let w := getN c.window
  let choice := Nat.xor (e 2 0) (Nat.land (e 0 0) (Nat.xor (e 1 0) (e 2 0)))
  let majority := Nat.lor (Nat.land (a 0 0) (a 1 0)) (Nat.land (a 2 0) (Nat.lor (a 0 0) (a 1 0)))
  let mix := e 3 0 + shaTurns (e 0 0) [6, 11, 25] + choice + key + w 0 0
  let word := w 0 0 + Nat.xor (shaTurns (w 1 0) [7, 18]) (w 1 0 / 2 ^ 3) + w 9 0 + Nat.xor (shaTurns (w 14 0) [17, 19]) (w 14 0 / 2 ^ 10)
  { top := (mix + shaTurns (a 0 0) [2, 13, 22] + majority) % 2 ^ 32 :: c.top.take 3
    low := (a 3 0 + mix) % 2 ^ 32 :: c.low.take 3
    window := c.window.drop 1 ++ [word % 2 ^ 32] }

/-- The hash value after one block of 64 bytes. -/
def shaFold (h : List Nat) (block : List Byte) : List Nat :=
  let c := shaRoundKeys.foldl ShaChain.step
    { top := h.take 4, low := h.drop 4, window := (upto 16).map (fun i => ofBe (bytesAt block (4 * i) 4)) }
  List.zipWith (fun x y => (x + y) % 2 ^ 32) h (c.top ++ c.low)

/-- SHA-256 of a byte string. -/
def sha256 (m : List Byte) : List Byte :=
  let fill := (119 - m.length % 64) % 64
  let padded := m ++ (0x80 : Byte) :: (List.replicate fill 0 ++ beBytes 8 (8 * m.length))
  let blocks := (upto (padded.length / 64)).map (fun i => bytesAt padded (64 * i) 64)
  ((blocks.foldl shaFold shaStart).map (beBytes 4)).flatten

/-- HMAC-SHA-256. -/
def hmac (key m : List Byte) : List Byte :=
  let k0 := if key.length > 64 then sha256 key else key
  let k := k0 ++ List.replicate (64 - k0.length) 0
  sha256 (k.map (· ^^^ 0x5C) ++ sha256 (k.map (· ^^^ 0x36) ++ m))

/- Exchanges (R356-R359). -/

/-- Consumable state of head h replaced by its image. -/
def State.updChip (s : State) (h : Nat) (f : Consumable → Consumable) : State := s.updHead h (fun k => { k with chip := f k.chip })

/-- The key of a head's key slot; none when the slot is empty (R356). -/
def State.headKey (s : State) (h : Nat) : Option (List Byte) := getN s.fuse.keyRam ((s.headDeck h).keySlot h) none

/-- Kc of a chip under a key (R356). -/
def chipKey (key : List Byte) (chipId : Nat) : List Byte := hmac key (leBytes 8 chipId)

/-- A MAC or TAG: HMAC under Kc over its code, nonce, CHIP_ID and COUNT (R356, R358). -/
def chipMac (code : Byte) (key nonce : List Byte) (chipId count : Nat) : List Byte :=
  hmac (chipKey key chipId) (code :: nonce ++ leBytes 8 chipId ++ leBytes 6 count)

/-- A challenge goes out with a fresh nonce, and the response is asked for (R356). -/
def State.challenge (s : State) (h : Nat) : State :=
  let n := (upto 32).map (Config.nonceByte s.free)
  ((s.drawn.updChip h (fun c => { c with nonce := n })).emit (.chipWrite h (s.profile.current.authAddr h) (0x01 :: n))).emit (.chipWrite h (s.profile.current.authAddr h) [0x02])

/-- An authentication starts (R356, R357). -/
def State.beginAuth (s : State) (h : Nat) : State :=
  (s.updChip h (fun c => { c with phase := 1, attempts := 0, authDue := false })).challenge h

/-- A consumable event (R353). -/
def State.chipEvent (s : State) (h kind a0 a1 : Nat) : State := s.eventNow h kind false s.deck.epoch 0 0 0 none a0 a1

/-- USAGE_WRITTEN, USAGE_WRITE_FAIL or USAGE_LIMIT with a count. -/
def State.countEvent (s : State) (h kind count : Nat) : State := s.chipEvent h kind (count % 2 ^ 32) (count / 2 ^ 32 % 2 ^ 16)

/-- PRINT_USAGE_WRITE or PRINT_AUTH of a head completes. -/
def State.chipDone (s : State) (h code : Nat) (st : Status) (detail : Nat) : State :=
  match s.runningCmd code with
  | some r => if r.args == [h] then s.complete r st detail else s
  | none => s

/-- A usage write starts (R358): COUNT and its TAG under the nonce of the latest success, then a fresh authentication. Without a success so far
there is no such nonce: the write fails (DEDUCED, log 44). -/
def State.beginWrite (s : State) (h : Nat) : State :=
  let c := (s.head h).chip
  match s.headKey h, c.chipId with
  | some key, some id =>
    let s1 := s.updChip h (fun c => { c with phase := 2, attempts := 0, writeDue := false, written := c.count })
    (s1.emit (.chipWrite h (s.profile.current.authAddr h) (0x03 :: leBytes 6 c.count ++ [0, 0] ++ chipMac 0x57 key c.okNonce id c.count))).challenge h
  | _, _ =>
    ((s.updChip h (fun c => { c with writeDue := false })).countEvent h 0x23 c.count).chipDone h 0x0415 .authFail 5

/-- The next exchange that waits on an idle bus starts: a write before an authentication (R359). -/
def State.nextExchange (s : State) (h : Nat) : State :=
  let c := (s.head h).chip
  if c.phase ≠ 0 then s
  else if c.writeDue then
    let s1 := s.beginWrite h
    if (s1.head h).chip.phase = 0 ∧ c.authDue then s1.beginAuth h else s1
  else if c.authDue then s.beginAuth h else s

/-- An authentication of a head falls due (R357). -/
def State.authDue (s : State) (h : Nat) : State := (s.updChip h (fun c => { c with authDue := true })).nextExchange h

/-- A usage write falls due (R358). -/
def State.writeDue (s : State) (h : Nat) : State := (s.updChip h (fun c => { c with writeDue := true, sinceWb := 0 })).nextExchange h

/-- A usage write at HSEN low or after USAGE_WB lines: only a head that has had a success keeps a count (R358). -/
def State.autoWrite (s : State) (h : Nat) : State := if (s.head h).chip.chipId.isNone then s else s.writeDue h

/-- USAGE_LIMIT once the count reaches USAGE_MAX (R358). -/
def State.checkLimit (s : State) (h : Nat) : State :=
  let m := (s.headDeck h).usageMax
  let c := (s.head h).chip
  if m = 2 ^ 48 - 1 ∨ c.count < m then s.updChip h (fun c => { c with limitSent := false })
  else if c.limitSent then s
  else (s.updChip h (fun c => { c with limitSent := true })).countEvent h 0x24 c.count

/-- Has the head's count reached the limit? -/
def State.atLimit (s : State) (h : Nat) : Bool :=
  let m := (s.headDeck h).usageMax
  decide (m ≠ 2 ^ 48 - 1) && decide (m ≤ (s.head h).chip.count)

/-- A line fired counts (R358): without a success there is no count. -/
def State.countLine (s : State) (h : Nat) : State :=
  if (s.head h).chip.chipId.isNone then s else
  let s1 := (s.updChip h (fun c => { c with count := min (c.count + 1) (2 ^ 48 - 1), sinceWb := c.sinceWb + 1 })).checkLimit h
  if (s1.head h).chip.sinceWb ≥ (s.headDeck h).usageWb then s1.writeDue h else s1

/-- A CHIP_ID different from the head's previous one returns every element to OK (R354). -/
def State.chipRead (s : State) (h id : Nat) : State :=
  match (s.head h).chip.chipId with
  | none => s
  | some old =>
    if old = id then s else
    let at' := s.switchOf h
    let s1 := ((s.head h).elems.map (·.1)).foldl (fun (s : State) e => s.setElem h e 0 at') s
    s1.updHead h (fun x => { x with runs := [] })

/-- An authentication fails with a reason (R356). -/
def State.authFailed (s : State) (h reason id : Nat) : State :=
  let s1 := s.updChip h (fun c => { c with phase := 0, auth := 2, reason := reason, failedNow := true })
  ((s1.chipEvent h 0x21 reason (id % 2 ^ 32)).chipDone h 0x0413 .authFail reason).nextExchange h

/-- An authentication succeeds: COUNT is adopted (R358). -/
def State.authOk (s : State) (h id count : Nat) : State :=
  let s1 := s.updChip h (fun c => { c with
    phase := 0, auth := 1, okNonce := c.nonce, chipId := some id, count := count, confirmed := count, okSinceEntry := true, failedNow := false })
  (((s1.chipEvent h 0x20 0 (id % 2 ^ 32)).checkLimit h).chipDone h 0x0413 .ok 0).nextExchange h

/-- A usage write ends (R358): confirmed, or failed and tried again at the next write point, after HOPENh clears where it is asserted (R359). -/
def State.writeEnds (s : State) (h : Nat) (ok : Bool) : State :=
  let c := (s.head h).chip
  if ok then
    (((s.updChip h (fun c => { c with phase := 0, confirmed := c.written, okNonce := c.nonce })).countEvent h 0x22 c.written).chipDone
      h 0x0415 .ok 0).nextExchange h
  else
    let o := (s.head h).hopen
    (((s.updChip h (fun c => { c with phase := 0, retry := c.retry || o })).countEvent h 0x23 c.written).chipDone h 0x0415 .authFail 5).nextExchange h

/-- An attempt fails by NACK, arbitration loss or timeout (R356): three fail the authentication; else a new challenge goes out. -/
def State.attemptFailed (s : State) (h : Nat) : State :=
  let c := (s.head h).chip
  if c.attempts ≥ 2 then (if c.phase = 2 then s.writeEnds h false else s.authFailed h 1 0)
  else (s.updChip h (fun c => { c with attempts := c.attempts + 1 })).challenge h

/-- Does an answer authenticate, under the key of the head's slot (R356)? -/
def State.macOk (s : State) (h id count : Nat) (mac : List Byte) : Bool :=
  match s.headKey h with
  | none => false
  | some key => mac == chipMac 0x41 key (s.head h).chip.nonce id count

/-- A chip's reply to the response read (R356). While it NACKs, the read is repeated. -/
def State.chipReply (s : State) (h : Nat) (r : ChipReply) : State :=
  match r with
  | .nack => s.emit (.chipWrite h (s.profile.current.authAddr h) [0x02])
  | .busError => s.attemptFailed h
  | .answer id count mac =>
    let c := (s.head h).chip
    let s1 := s.chipRead h id
    if c.phase = 2 then s1.writeEnds h (s.macOk h id count mac && c.chipId == some id && decide (count = c.written))
    else if (s.headKey h).isNone then s1.authFailed h 4 id
    else if !s.macOk h id count mac then s1.authFailed h 2 id
    else if c.chipId = some id ∧ count < c.count then s1.authFailed h 3 id
    else s1.authOk h id count

/-- AUTH_RESPONSE: during an authentication. -/
def execAuthResponse (h : Nat) (r : ChipReply) (s : State) : Outcome :=
  .next (if (s.head h).chip.phase = 1 then s.chipReply h r else s)

/-- USAGE_WRITE_DONE: the fresh authentication of a usage write. -/
def execUsageWriteDone (h : Nat) (r : ChipReply) (s : State) : Outcome :=
  .next (if (s.head h).chip.phase = 2 then s.chipReply h r else s)

/-- AUTH_RETRY_TIMEOUT: 50 ms of NACK pass (R356). -/
def execAuthRetryTimeout (h : Nat) (s : State) : Outcome :=
  .next (if (s.head h).chip.phase = 0 then s else s.attemptFailed h)

/- Commands (R360, R417, R418). -/

/-- NOT_FOUND 0x03 for a head that the profile does not provide. -/
def headRefuse (h : Nat) (s : State) : Option Reply := if s.profile.current.headWired h then none else some (.fail .notFound 3)

/-- Refusals of PRINT_AUTH and PRINT_USAGE_WRITE. -/
def chipRefuse (code h : Nat) (s : State) : Option Reply :=
  match headRefuse h s with
  | some r => some r
  | none => if s.isRunning code || decide ((s.head h).chip.phase ≠ 0) then some (.fail .busy 5) else none

/-- PRINT_AUTH. -/
def execPrintAuth (q : Req) (head : Nat) (s : State) : Outcome :=
  runCmd 0x0413 q .op false (chipRefuse 0x0413 head s) ((s.start 0x0413 q [head]).authDue head, .accepted) s

/-- PRINT_USAGE_WRITE. -/
def execPrintUsageWrite (q : Req) (head : Nat) (s : State) : Outcome :=
  runCmd 0x0415 q .op false (chipRefuse 0x0415 head s) ((s.start 0x0415 q [head]).writeDue head, .accepted) s

/-- AUTH of R418: blocked where AUTH_POLICY is 1 and a failure or the usage limit suppresses lines. -/
def State.authCode (s : State) (h : Nat) : Nat :=
  let c := (s.head h).chip
  if (s.headDeck h).authBlock && (c.failedNow || s.atLimit h) then 3 else c.auth

/-- PRINT_USAGE_QUERY response (R418). -/
def State.usageBytes (s : State) : List Byte :=
  ((upto 8).map (fun h =>
    let c := (s.head h).chip
    wordsBytes (lohi (c.chipId.getD 0) ++ lohi c.count ++ lohi c.confirmed ++ [c.reason * 256 + s.authCode h, 0]))).flatten

/-- PRINT_USAGE_QUERY. -/
def execPrintUsageQuery (q : Req) (s : State) : Outcome := runCmd 0x0414 q .nb false none (s, .ok s.usageBytes) s

end Sys2Proof.Machine
end

