-- ==== Sys2Proof/Machine/PrintLine.lean ====
section
/-! DEFINITION. Preparing a head line (R316-R325, R329, R330): composition, suppression, duty, history, widths, energy, tiers. -/

namespace Sys2Proof.Machine

/- Temperature and supply (R317). -/

/-- A thermistor code converted through the curve; none out of range (R317). -/
def Container.thermOf (p : Container) (h c : Nat) : Option Int :=
  if c < p.curveC h 0 ∨ c > p.curveC h 15 then none
  else
    let i := ((upto 15).filter (fun i => decide (p.curveC h i ≤ c))).getLast?.getD 0
    some (p.curveT h i + ((((c : Int) - p.curveC h i) * (p.curveT h (i + 1) - p.curveT h i)).tdiv ((p.curveC h (i + 1) : Int) - p.curveC h i)))

/-- Latest VALID code of a monitor channel, output >> 8 (R535, R541). -/
def State.monCode (s : State) (ch : Nat) : Option Nat := (getN s.mon.chan ch {}).last.map (· / 256)

/-- θ of a head: the largest of its fitted thermistors in range; T0 with none fitted (R317). None before an output in range. -/
def State.headTheta (s : State) (h : Nat) : Option Int :=
  let p := s.profile.current
  match p.thermistors h with
  | [] => some ((s.headDeck h).t0 h)
  | cs =>
    match cs.filterMap (fun c => (s.monCode c).bind (p.thermOf h)) with
    | [] => none
    | t :: ts => some (maxI t ts)

/-- V of a head in mV (R317). -/
def State.headVolt (s : State) (h : Nat) : Option Nat := (s.monCode (3 * h + 2)).map (fun c => (c * s.profile.current.vscale h + 32768) / 65536)

/-- Have the fitted thermistors and the supply channel of a head each given a VALID output (R538; each of them: DEDUCED, log 45)? -/
def State.headMeasured (s : State) (h : Nat) : Bool :=
  (s.profile.current.thermistors h).all (fun c => (s.monCode c).isSome) && (s.monCode (3 * h + 2)).isSome

/- Suppression (R316 step 2, R334-R339, R357, R358, R538). -/

/-- Is a head gated (R336), or held by the brown-out warning (R556)? -/
def State.headGated (s : State) (h : Nat) : Bool :=
  let k := s.head h
  k.hopen || k.hopenHeld || k.webHeld || s.print.webAbsent || s.print.jam || s.print.estop || s.print.estopHeld || s.power.brownout

/-- The print-event kind that suppresses a line at the present tick; 0 for none. -/
def State.whyNow (s : State) (h : Nat) : Nat :=
  let k := s.head h
  let d := s.headDeck h
  if s.isRetired 9 h then 0x0C
  else if s.headGated h then 0x07
  else if !k.hsen || !k.ready || !s.headMeasured h then 0x0D
  else if d.authBlock && (k.chip.failedNow || s.atLimit h) then 0x0E
  else if d.authBlock && !k.chip.okSinceEntry then 0x0D
  else if k.hold || !k.outOfRange.isEmpty then 0x05
  else 0

/-- V outside VMIN to VMAX at line start (R335). -/
def State.supplyBad (s : State) (h : Nat) : Bool :=
  let d := s.headDeck h
  match s.headVolt h with
  | some v => decide (v < d.vmin) || decide (v > d.vmax)
  | none => false

/-- Of two suppressions, the one that is reported: the earlier in the order of `whyNow`, then SUPPLY, then 0x20, an error of the line
buffer (R339), for which R338 has no kind of event. -/
def firstWhy (a b : Nat) : Nat :=
  ([0x0C, 0x07, 0x0D, 0x0E, 0x05, 0x06, 0x20].find? (fun w => a == w || b == w)).getD 0

/- Composition (R324, R329, R330). -/

/-- A composed group line: its bits by position, the items of which a row is missing, and each item's own bits at their positions. -/
structure Composed where
  bits : Nat := 0
  late : List Nat := []
  own : List (Nat × Nat) := []
  deriving DecidableEq, Repr, Inhabited

/-- One item applied to the composed line (R329); a row that has not arrived is absent (R330). -/
def Composed.apply (c : Composed) (gw k : Nat) (i : PrintItem) : Composed :=
  match lookupN (k - i.first) i.rows with
  | none => { c with late := c.late ++ [i.index] }
  | some row =>
    let put := row % 2 ^ i.width * 2 ^ i.xpos % 2 ^ gw
    let box := (2 ^ i.width - 1) * 2 ^ i.xpos % 2 ^ gw
    let base := if i.knockout then c.bits - Nat.land c.bits box else c.bits
    { c with bits := Nat.lor base put, own := c.own ++ [(i.index, put)] }

/-- Group line k of an epoch, composed (R329). -/
def State.composeLine (s : State) (d : Container) (lead epoch k : Nat) : Composed :=
  let gw := d.groupW lead
  let bg := if d.bgLines lead = 0 then 0 else d.bgRow lead (k % d.bgLines lead)
  (s.itemsAt lead epoch k).foldl (fun (c : Composed) i => c.apply gw k i) { bits := bg }

/-- Does head h own the position of its element e at a line (R324, R354)? -/
def State.ownsElem (s : State) (d : Container) (h e epoch k : Nat) : Bool :=
  let p := s.profile.current
  let lead := d.groupLead h
  let others := (d.groupHeads p lead).filter (· != h)
  if d.pair lead then
    match others with
    | [] => true
    | b :: _ =>
      let st := (s.head (min h b)).elemAt e epoch k
      let moved := st == 3 || st == 20
      if h < b then !moved else moved
  else
    let pos := d.posOf p h e
    let left := decide (d.headG0 h ≤ pos) && decide (pos < d.headG0 h + d.ovl h) && d.ownBit h (k % 16) (pos - d.headG0 h) &&
      others.any (fun a => decide (d.headG0 a < d.headG0 h))
    let right := others.any (fun b => decide (d.headG0 h < d.headG0 b) && decide (d.headG0 b ≤ pos) && decide (pos < d.headG0 b + d.ovl b) &&
      !d.ownBit b (k % 16) (pos - d.headG0 b))
    !left && !right

/-- Bit of a line at the position of element e under a shift; positions outside 0 to GW − 1 read 0 (R324). -/
def lineBit (gw bits : Nat) (pos : Nat) (shift : Int) : Bool :=
  let q := (pos : Int) - shift
  decide (0 ≤ q) && decide (q < gw) && bitAt bits q.toNat

/-- Elements of a head that a composed line sets (R324). -/
def State.lineElems (s : State) (d : Container) (h epoch k bits : Nat) (shift : Int) : List Nat :=
  let p := s.profile.current
  let gw := d.groupW (d.groupLead h)
  (upto (p.elements h)).filter (fun e => lineBit gw bits (d.posOf p h e) shift && s.ownsElem d h e epoch k)

/-- Elements of a head that are DEAD, PENDING or UNCOVERED at a line (R355). -/
def Head.deadAt (x : Head) (epoch k : Nat) : List Nat :=
  ((x.elems.map (·.1) ++ x.changes.map (·.element)).eraseDups).filter (fun e => [1, 2, 4].contains (x.elemAt e epoch k % 16))

/- Widths (R318-R322). -/

/-- The temperature-voltage factor k (R318). A TSTEP or VSTEP of 0 leaves it unstated (free, log 3). -/
def Container.kFactor (d : Container) (h : Nat) (theta volt : Int) (free : Nat) : Int :=
  let ts : Int := d.tstep h
  let vs : Int := d.vstep h
  if ts = 0 ∨ vs = 0 then (Config.freeNat free : Nat) else
  let ft := clampI 0 (15 * ts) (theta - d.t0 h)
  let ti := min (ft / ts) 14
  let tf := (ft - ti * ts) * 256 / ts
  let fv := clampI 0 (15 * vs) (volt - d.v0 h)
  let vi := min (fv / vs) 14
  let vf := (fv - vi * vs) * 256 / vs
  let t := ti.toNat
  let v := vi.toNat
  let top := (256 - tf) * d.ktv h t v + tf * d.ktv h (t + 1) v
  let bot := (256 - tf) * d.ktv h t (v + 1) + tf * d.ktv h (t + 1) (v + 1)
  ((256 - vf) * top + vf * bot + 32768) / 65536

/-- Target width of an element before its clamp: history state j, factor k (R319). -/
def Container.rawWidth (d : Container) (h e j : Nat) (k : Int) : Int :=
  let w := ((d.baseW h (d.elemClass h e) : Int) * k + 2048) / 4096
  (w * d.histF h j + 2048) / 4096

/-- Upper clamp of a width (R319). -/
def Container.widthMax (d p : Container) (h : Nat) : Int := min 200000 (d.wcap p h)

/-- History state of an element (R319). -/
def histState (hist : List (Nat × Nat)) (e : Nat) : Nat := 2 * b2n (bitAt (getN hist 0 (0, 0)).1 e) + b2n (bitAt (getN hist 1 (0, 0)).1 e)

/-- Energy in nJ of a total width (R321). An R_ELEM of 0 leaves it unstated (free, log 3). -/
def lineEnergy (r volt width free : Nat) : Nat := if r = 0 then Config.freeNat free else volt * volt * width / (10000 * r)

/-- Elements that may fire under MAXFIRE (R320): those that fired fewer than MAXFIRE times in the WIN_E − 1 lines before. -/
def Container.dutyOk (d : Container) (hist : List (Nat × Nat)) (e : Nat) : Bool :=
  if d.winE - 1 < d.maxFire then true
  else decide (((hist.take (d.winE - 1)).filter (fun l => bitAt l.1 e)).length < d.maxFire)

/-- Distinct widths in ascending order. -/
def distinctWidths (l : List (Nat × Nat)) : List Nat := l.foldl (fun u x => insertSorted x.2 u) []

/-- Tiers above the first (R322): those at least TLOAD apart, up to LOADS in all. -/
def moreTiers (tload loads : Nat) : List Nat → List Nat → List Nat
  | [], t => t
  | u :: r, t =>
    if t.length < loads ∧ tload ≤ getN t 0 0 ∧ getN t (t.length - 1) 0 + tload ≤ u then moreTiers tload loads r (t ++ [u])
    else moreTiers tload loads r t

/-- Tiers of a line (R322). -/
def tierWidths (tload loads : Nat) (widths : List (Nat × Nat)) : List Nat :=
  match distinctWidths widths with
  | [] => []
  | u :: r => moreTiers tload loads r [u]

/-- Actual width of an element: the largest tier at or below its target. -/
def tierOf (tiers : List Nat) (w : Nat) : Nat := maxN (tiers.filter (fun t => decide (t ≤ w)))

/-- Elements as a bit mask. -/
def maskOf (l : List Nat) : Nat := sumN (l.map (fun e => 2 ^ e))

/-- What the width engine makes of the elements to fire: tiers and what was clipped (R320-R322). -/
def Container.lineWidths (d p : Container) (h : Nat) (hist : List (Nat × Nat)) (elems : List Nat) (theta : Int) (volt free : Nat) (l : PrepLine) :
    PrepLine :=
  let ok := elems.filter (d.dutyOk hist)
  let k := d.kFactor h theta volt free
  let cap := d.widthMax p h
  let raw := ok.map (fun e => (e, d.rawWidth h e (histState hist e) k))
  let target := raw.map (fun x => (x.1, (clampI 20 cap x.2).toNat))
  let et := lineEnergy (p.rElem h) volt (sumN (target.map (·.2))) free
  let used := sumN ((hist.take (d.winH - 1)).map (·.2))
  let limit := d.emaxH * 1000
  let clip := decide (et + used > limit)
  let c := if used ≥ limit then 0 else (limit - used) * 4096 / et
  let firing := if clip then (target.map (fun x => (x.1, x.2 * c / 4096))).filter (fun x => decide (20 ≤ x.2)) else target
  let ts := tierWidths (p.tload h) (d.loads h) firing
  let actual := firing.map (fun x => (x.1, tierOf ts x.2))
  { l with
    tiers := ts.map (fun t => (t, maskOf ((actual.filter (fun x => x.2 == t)).map (·.1))))
    fired := maskOf (actual.map (·.1))
    energy := lineEnergy (p.rElem h) volt (sumN (actual.map (·.2))) free
    timeClip := raw.any (fun x => decide (cap < x.2) && decide (d.wcap p h ≤ 200000))
    dutyClip := decide (ok.length < elems.length)
    energyClip := clip
    energyReject := decide (c < d.rejScale) }

/-- The next line of a head prepared at the present tick (R316). A suppressed line is composed and fires nothing. Items that cover it have
started (R331). -/
def State.prepare (s : State) (h : Nat) : State :=
  let x := s.head h
  let d := s.headDeck h
  let p := s.profile.current
  let lead := d.groupLead h
  let shift := getN s.print.shift lead 0
  let c := s.composeLine d lead x.epoch x.k
  let gw := d.groupW lead
  let dead := x.deadAt x.epoch x.k
  let hit := (c.own.filter (fun o => dead.any (fun e => lineBit gw (Nat.land o.2 c.bits) (d.posOf p h e) shift))).map (·.1)
  let why := firstWhy (s.whyNow h) (if s.supplyBad h then 0x06 else 0)
  let l0 : PrepLine := { epoch := x.epoch, k := x.k, start := s.now, why := why, shift := shift, late := c.late, deadHit := hit }
  let l := if why ≠ 0 then l0
    else d.lineWidths p h x.hist (s.lineElems d h x.epoch x.k c.bits shift) ((s.headTheta h).getD 0) ((s.headVolt h).getD 0) s.free l0
  let s1 := (s.updHead h (fun k => { k with prep := some l })).mapItems lead (fun i =>
    if i.epoch = x.epoch ∧ i.first ≤ x.k ∧ x.k < i.first + i.height then { i with started := true } else i)
  if why = 0 ∧ (d.tstep h = 0 ∨ d.vstep h = 0 ∨ p.rElem h = 0) then s1.drawn else s1

end Sys2Proof.Machine
end

