-- ==== Sys2Proof/Machine/PrintItems.lean ====
section
/-! DEFINITION. The item fetcher (R326-R331), withdrawal, coverage and the speed-limit request (R333). -/

namespace Sys2Proof.Machine

/- Rows and slots (R328). -/

/-- Origin of a row in nm, in the coordinates of the present H (R328). -/
def rowOrigin (d : Container) (g : Grid) (row : Nat) : Int := g.origin + d.slotFirst g.lead + (row * d.slotPitch g.lead : Nat)

/-- First line of a row: the first line of the grid, continued below its line 0, at or beyond the row's origin. -/
def rowLine (d : Container) (g : Grid) (row : Nat) : Int := ceilDivI (rowOrigin d g row * 65536 - g.q0) (max 1 g.pitch : Nat)

/-- Line at whose start a row's slots have their fetch point (R328). -/
def fetchPoint (d : Container) (g : Grid) (row : Nat) : Int := rowLine d g row - d.fetchLead g.lead

/-- The first row whose fetch point is line k or later. With SLOT_PITCH 0 only row 0 is expected (DEDUCED, log 46). -/
def firstRow (d : Container) (g : Grid) (k : Int) : Nat :=
  let sp : Int := (d.slotPitch g.lead : Nat)
  if sp = 0 then 0
  else (((k + d.fetchLead g.lead - 1) * g.pitch + g.q0 - (g.origin + d.slotFirst g.lead) * 65536) / (65536 * sp) + 1).toNat

/-- The next expected slot at or after (row, slot); none when no slot is expected. -/
def nextSlotAt (d : Container) (lead row slot : Nat) : Option (Nat × Nat) :=
  let m := bitsSet 8 (d.slotMask lead)
  if d.slotPitch lead = 0 ∧ row > 0 then none
  else match m.find? (fun b => decide (slot ≤ b)) with
    | some b => some (row, b)
    | none => if d.slotPitch lead = 0 then none else m.head?.map (fun b => (row + 1, b))

/-- Is (row, slot) before (row', slot')? -/
def keyBefore (a b : Nat × Nat) : Bool := decide (a.1 < b.1) || (a.1 == b.1 && decide (a.2 < b.2))

/- Queue entries. -/

/-- The fields of a device-owned queue entry (R326). -/
structure Entry where
  deckId : Nat
  itemId : Nat
  row : Nat
  slot : Nat
  symb : Nat
  knockout : Bool
  width : Nat
  xpos : Nat
  height : Nat
  bitmap : Nat
  stride : Nat
  dataAddr : Nat
  dataLen : Nat
  /-- a reserved field of the entry is not 0 (R15) -/
  reserved : Bool := false
  deriving DecidableEq, Repr, Inhabited

/-- Entries of a queue. -/
def ItemQueue.size (q : ItemQueue) : Nat := if q.base.isSome then 2 ^ q.sizeLog2 else 0

/-- Is entry i device-owned? -/
def State.entryOwned (s : State) (q : ItemQueue) (i : Nat) : Bool := decide (i < q.size) && bitAt (memWord s.mem (q.addr i)) 31

/-- Entry i as it stands in memory. -/
def State.entryAt (s : State) (q : ItemQueue) (i : Nat) : Entry :=
  let b := s.read (q.addr i) 64
  { deckId := wordAt b 4, itemId := leAt b 8 8, row := wordAt b 0x10, slot := wordAt b 0x14 % 8
    symb := fld (wordAt b 0) 15 8, knockout := bitAt (wordAt b 0) 0, width := fld (wordAt b 0x18) 31 16, xpos := wordAt b 0x18 % 2 ^ 16
    height := wordAt b 0x1C % 2 ^ 16, bitmap := leAt b 0x20 8, stride := wordAt b 0x28, dataLen := wordAt b 0x2C, dataAddr := leAt b 0x30 8
    reserved := fld (wordAt b 0) 30 24 != 0 || fld (wordAt b 0) 7 1 != 0 || fld (wordAt b 0x14) 31 3 != 0 || fld (wordAt b 0x1C) 31 16 != 0 }

/-- Bytes of an item's bitmap: from its first row to the last byte of its last one (R326). -/
def Entry.bitmapLen (e : Entry) : Nat := (e.height - 1) * e.stride + ceilDiv e.width 8

/-- Is an entry a case of misuse: a field outside its range or a reserved one that is not 0 (R15, R326, R342), or a bitmap or data that does not lie
in the memory map (R32)? -/
def State.entryMisuse (s : State) (e : Entry) : Bool :=
  e.reserved || decide (e.symb > 5) || decide (e.dataLen > 3072) || decide (e.width = 0) || decide (e.width > 20480) || decide (e.height = 0) ||
  e.stride % 4 != 0 || (s.rangeOf e.bitmap e.bitmapLen).isNone || (e.dataLen != 0 && (s.rangeOf e.dataAddr e.dataLen).isNone)

/-- The read index after entries withdrawn ahead of it are passed over. -/
def skipEntries : Nat → Nat → ItemQueue → ItemQueue
  | 0, _, q => q
  | n + 1, sz, q => if q.skip.contains q.read then skipEntries n sz { q with skip := q.skip.filter (· != q.read), read := (q.read + 1) % max 1 sz } else q

/-- The entry at the read index, where it is device-owned. -/
def State.nextEntry (s : State) (lead : Nat) : Option Entry :=
  let q0 := s.queueOf lead
  let q := skipEntries q0.skip.length q0.size q0
  if s.entryOwned q q.read then some (s.entryAt q q.read) else none

/-- The read index moves past the entry just taken. -/
def State.passEntry (s : State) (lead : Nat) (e : Entry) : State :=
  s.updQueue lead (fun q =>
    let q1 := skipEntries q.skip.length q.size q
    { q1 with read := (q1.read + 1) % max 1 q1.size, lastKey := some (e.deckId, e.row, e.slot) })

/-- Index of the entry at the read index. -/
def State.readIndex (s : State) (lead : Nat) : Nat :=
  let q := s.queueOf lead
  (skipEntries q.skip.length q.size q).read

/-- An event of an item or slot that has no lines: FIRST and LAST are the label of its first line. -/
def State.itemEvent (s : State) (g : Grid) (kind : Nat) (line : Int) (item : Option Nat) (row slot : Nat) : State :=
  let label := (g.q0 + line * g.pitch) / 65536 + g.adj
  s.eventNow g.lead kind true g.epoch label label 0 item row slot

/-- An entry is accepted (R328). An item of a group with a retired head is rejected from the start (R339). -/
def State.acceptEntry (s : State) (g : Grid) (line : Nat) (e : Entry) : State :=
  let i := s.readIndex g.lead
  let bad := (upto 8).any (fun h => (s.head h).on && (s.headDeck h).groupLead h == g.lead && s.isRetired 9 h)
  (s.passEntry g.lead e).updQueue g.lead (fun q => { q with items := q.items ++ [{
    index := i, epoch := g.epoch, itemId := e.itemId, row := e.row, slot := e.slot, symb := e.symb, knockout := e.knockout, first := line
    height := e.height, width := e.width, xpos := e.xpos, bitmap := e.bitmap, stride := e.stride, dataAddr := e.dataAddr, dataLen := e.dataLen
    reject := bad }] })

/-- An entry ends without an item: LATE or OTHER_DECK (R326, R328). WPOS of an entry of another deck has no stated value (free, log 3). -/
def State.endEntry (s : State) (g : Grid) (e : Entry) (status : Nat) (line : Int) : State :=
  let a := (s.queueOf g.lead).addr (s.readIndex g.lead)
  let label := if status = 5 then Config.freeInt s.free else (g.q0 + line * g.pitch) / 65536 + g.adj
  let s1 := (s.passEntry g.lead e).writeEntry a status label g.epoch
  if status = 5 then s1.drawn else s1

/-- What the fetcher does in one turn at the start of line k: none when an entry is misuse (R32, R342), else the state and whether it goes on. -/
def State.fetchTurn (s : State) (d : Container) (g : Grid) (k : Nat) : Option (State × Bool) :=
  let lead := g.lead
  match (s.queueOf lead).expect with
  | none => some (s, false)
  | some (ep, row, slot, last) =>
    let goOn (s : State) (r c : Nat) : State := s.updQueue lead (fun q => { q with expect := some (ep, r, c, last) })
    let want := nextSlotAt d lead row slot
    let due (r : Nat) : Bool := decide (fetchPoint d g r ≤ (k : Int))
    let missing (r c : Nat) : Option (State × Bool) :=
      some (goOn (((s.itemEvent g 1 (rowLine d g r) none r c).headTally lead (fun n => { n with missing := satInc n.missing }))) r (c + 1), true)
    let none' : Option (State × Bool) := match want with
      | some (r, c) => if due r then missing r c else some (s, false)
      | none => some (s, false)
    match s.nextEntry lead with
    | none => none'
    | some e =>
      let active := s.activeDeck.map (·.deckId)
      let staged := s.stagedDeck.map (·.deckId)
      let key := (e.row, e.slot)
      if some e.deckId ≠ active ∧ some e.deckId ≠ staged ∧ e.deckId ≠ d.deckId then some (s.endEntry g e 5 0, true)
      else if s.entryMisuse e ∨ (match (s.queueOf lead).lastKey with
          | some (i, r, c) => i == e.deckId && !keyBefore (r, c) key
          | none => false) = true then none
      else if e.deckId ≠ d.deckId ∧ (some e.deckId = staged ∨ !(s.epochComing g.epoch) && some e.deckId = active) then none'
      else
        let late := e.deckId ≠ d.deckId ∨ fetchPoint d g e.row ≤ last ∨ (d.slotMask lead ≠ 0 ∧ keyBefore key (row, slot) = true) ∨ rowLine d g e.row < 0
        if late then
          some (((s.endEntry g e 3 (rowLine d g e.row)).itemEvent g 2 (rowLine d g e.row) (some e.itemId) e.row e.slot).headTally lead
            (fun n => { n with late := satInc n.late }), true)
        else if due e.row then
          match want with
          | some (r, c) => if keyBefore (r, c) key then missing r c
            else some (goOn (s.acceptEntry g (rowLine d g e.row).toNat e) e.row (e.slot + 1), true)
          | none => some (goOn (s.acceptEntry g (rowLine d g e.row).toNat e) e.row (e.slot + 1), true)
        else match want with
          | some (r, c) => if due r && keyBefore (r, c) key then missing r c else some (s, false)
          | none => some (s, false)

/-- The fetcher's turns; the fuel bounds entries and slots that one line start can concern. -/
def State.fetchTurns (d : Container) (g : Grid) (k : Nat) : Nat → State → Option State
  | 0, s => some s
  | n + 1, s => match s.fetchTurn d g k with
    | none => none
    | some (s1, more) => if more then s1.fetchTurns d g k n else some s1

/-- The fetcher at the start of line k of a group (R328): its expectation begins with the grid. None for misuse. -/
def State.fetch (s : State) (lead epoch k : Nat) : Option State :=
  let d := s.deckOf epoch
  let g := s.gridFor lead epoch
  let fresh : Nat × Nat × Nat × Int := (epoch, firstRow d g k, 0, (k : Int) - 1)
  let s0 := s.updQueue lead (fun q =>
    if (match q.expect with
      | some x => x.1 == epoch
      | none => false) then q
    else { q with expect := some fresh, lastKey := none })
  let last := match (s0.queueOf lead).expect with
    | some x => x.2.2.2
    | none => (k : Int)
  let rows := (firstRow d g (k + 1)) - (firstRow d g last)
  let q := s0.queueOf lead
  (s0.fetchTurns d g k (8 * (rows + 2) + q.size + 1)).map (fun s => s.updQueue lead (fun q => { q with expect := q.expect.map (fun x =>
    (x.1, x.2.1, x.2.2.1, max x.2.2.2 (k : Int))) }))

/- Bursts and withdrawal (R330, R331). -/

/-- A row of an item's bitmap as it stands in memory (R326). -/
def State.bitmapRow (s : State) (i : PrintItem) (row : Nat) : Nat :=
  ofLe (s.read (i.bitmap + row * i.stride) (ceilDiv i.width 8)) % 2 ^ i.width

/-- A burst of an accepted item arrives (R330). -/
def State.burst (s : State) (lead itemId row : Nat) : State :=
  match (s.queueOf lead).items.find? (fun i => i.itemId == itemId && decide (row < i.height) && (lookupN row i.rows).isNone) with
  | none => s
  | some i => s.mapItems lead (fun x => if x.index = i.index then { x with rows := x.rows ++ [(row, s.bitmapRow i row)] } else x)

/-- PRINT_WITHDRAW (R331, R417): the state, and BURST; or TOO_LATE or NOT_FOUND. -/
def State.withdraw (s : State) (lead index : Nat) : State × Reply :=
  let q := s.queueOf lead
  match q.items.find? (fun i => i.index == index) with
  | some i =>
    if i.started then (s, .fail .tooLate 0)
    else
      let g := s.gridFor lead i.epoch
      let s1 := (s.finishItem lead i 4).headTally lead (fun n => { n with withdrawn := satInc n.withdrawn })
      (s1.itemEvent g 3 i.first (some i.itemId) i.row i.slot, .ok (leBytes 4 (b2n (decide (i.rows.length < i.height)))))
  | none =>
    if !s.entryOwned q index then (s, .fail .notFound 0)
    else
      let e := s.entryAt q index
      let ep := s.deck.epoch
      let g := s.gridFor lead ep
      let d := s.deckOf ep
      let line := rowLine d g e.row
      let s1 := (s.updQueue lead (fun q => { q with skip := q.skip ++ [index] })).writeEntry (q.addr index) 4 ((g.q0 + line * g.pitch) / 65536 + g.adj) ep
      (s1.itemEvent g 3 line (some e.itemId) e.row e.slot, .ok (leBytes 4 0))

/-- PRINT_WITHDRAW. -/
def execPrintWithdraw (q : Req) (lead index : Nat) (s : State) : Outcome :=
  let r := s.withdraw lead index
  runCmd 0x0401 q .prt false (if r.2.status = 0 then none else some r.2) r s

/-- Entries that the device holds: device-owned in memory. -/
def State.ownedEntries (s : State) (q : ItemQueue) : List Nat := (upto q.size).filter (s.entryOwned q)

/-- PRINT_QUEUE_SET refusals (R341): a head that the profile does not provide, a queue that holds device-owned entries, more than 65,536 in all. -/
def queueRefuse (lead sizeLog2 : Nat) (s : State) : Option Reply :=
  let total := sumN ((upto 8).map (fun l => if l = lead then 2 ^ sizeLog2 else (s.queueOf l).size))
  if !s.profile.current.headWired lead then some (.fail .notFound 3)
  else if !(s.ownedEntries (s.queueOf lead)).isEmpty then some (.fail .busy 5)
  else if total > 65536 then some (resource 0x0E total)
  else none

/-- A queue whose size is outside 64 to 65,536 entries, or that does not lie in fitted DRAM (R32, R326). -/
def State.queueMisuse (s : State) (sizeLog2 base : Nat) : Bool :=
  decide (sizeLog2 < 6) || decide (sizeLog2 > 16) || s.rangeOf base (64 * 2 ^ sizeLog2) != some 6

/-- PRINT_QUEUE_SET (R341). -/
def execPrintQueueSet (q : Req) (lead sizeLog2 base : Nat) (s : State) : Outcome :=
  if (admission s q .op false).isNone && (queueRefuse lead sizeLog2 s).isNone && s.queueMisuse sizeLog2 base then .fault (.misuse 326)
  else runCmd 0x0400 q .op false (queueRefuse lead sizeLog2 s)
    (s.updQueue lead (fun _ => { base := some base, sizeLog2 := sizeLog2 }), {}) s

/-- ITEM_ENTRY_HANDOVER (R327): the host writes OWN = 1 to an entry that it has filled. -/
def execItemEntryHandover (lead index : Nat) (s : State) : Outcome :=
  let q := s.queueOf lead
  if index ≥ q.size then .next s
  else if s.entryOwned q index then .fault (.misuse 342)
  else
    let w := memWord s.mem (q.addr index)
    .next (s.write (q.addr index) (leBytes 4 (setBit (w % 2 ^ 32) 31)))

/- Coverage and the speed request (R333). -/

/-- Device-owned entries from the read index on, in order, for a deck. -/
def State.entriesAhead (s : State) (q : ItemQueue) (deckId : Nat) : Nat → Nat → List Entry
  | 0, _ => []
  | n + 1, i =>
    if q.skip.contains i then s.entriesAhead q deckId n ((i + 1) % max 1 q.size)
    else if s.entryOwned q i then
      let e := s.entryAt q i
      let r := s.entriesAhead q deckId n ((i + 1) % max 1 q.size)
      if e.deckId = deckId then e :: r else r
    else []

/-- The first expected slot without an entry. -/
def uncovered (d : Container) (lead : Nat) (keys : List (Nat × Nat)) : Nat → Nat → Nat → Option (Nat × Nat)
  | 0, r, c => nextSlotAt d lead r c
  | n + 1, r, c => match nextSlotAt d lead r c with
    | none => none
    | some x => if keys.contains x then uncovered d lead keys n x.1 (x.2 + 1) else some x

/-- The coverage C of a group in nm (R333). Where the point that it ends at does not exist (no device-owned item, no slot left), the rule states
no value (free, log 3): the Boolean says so. -/
def State.coverage (s : State) (lead : Nat) : Int × Bool :=
  let x := s.head lead
  let d := s.headDeck lead
  let g := s.gridFor (d.groupLead lead) x.epoch
  let q := s.queueOf g.lead
  let label := s.highWpos - s.profile.current.headOff lead
  let es := s.entriesAhead q d.deckId q.size (skipEntries q.skip.length q.size q).read
  let stop' : Option Int :=
    if d.slotMask g.lead ≠ 0 then
      let at' : Nat × Nat := match q.expect with
        | some (e, r, c, _) => if e = x.epoch then (r, c) else (firstRow d g x.k, 0)
        | none => (firstRow d g x.k, 0)
      (uncovered d g.lead (es.map (fun e => (e.row, e.slot))) es.length at'.1 at'.2).map (fun u => rowOrigin d g u.1)
    else
      match es.getLast?, (q.items.filter (fun i => i.epoch == x.epoch)).getLast? with
      | some e, _ => some ((g.q0 + (rowLine d g e.row + (e.height : Nat)) * g.pitch) / 65536)
      | none, some i => some ((g.q0 + ((i.first + i.height : Nat) : Int) * g.pitch) / 65536)
      | none, none => none
  match stop' with
  | some p => (p - label, false)
  | none => (Config.freeInt s.free, true)

/-- The level of a group from its coverage (R333); a threshold of 0 is a step never taken. -/
def Container.speedLevel (d : Container) (c : Int) (lvl : Nat) : Nat :=
  let down := ((upto 4).filter (fun i => decide (d.cth i ≠ 0) && decide (c < (d.cth i * 1000000 : Nat)))).length
  let up := ((upto 4).filter (fun i => decide (c < ((d.cth i + d.chyst) * 1000000 : Nat)))).length
  if down > lvl then down else min lvl up

/-- Leads of groups that print. -/
def State.leadsOn (s : State) : List Nat :=
  (upto 8).filter (fun l => (s.head l).on && (s.headDeck l).groupLead l == l)

/-- Levels of the groups of some leads evaluated (R333). -/
def State.evalLevels (s : State) : List Nat → State
  | [] => s
  | l :: r =>
    let c := s.coverage l
    let s1 := if c.2 then s.drawn else s
    let lvl := (s.headDeck l).speedLevel c.1 (getN s.print.level l 0)
    ({ s1 with print := { s1.print with level := setAt s1.print.level l lvl } } : State).evalLevels r

/-- The request of a level (R333). -/
def Container.levelSpeed (d : Container) (lvl : Nat) : Nat := if lvl = 0 then d.spdFull else d.spd (lvl - 1)

/-- The device-wide request with its level and the leads at it (R333). -/
def State.speedRequest (s : State) : Nat × Nat × Nat :=
  let d := s.camDeck
  let ls := s.leadsOn
  if !s.sys.lineMode.isPrint then (d.spdFull, 0, 0)
  else
    let lv := maxN (ls.map (fun l => getN s.print.level l 0))
    let all := (ls.map (fun l => d.levelSpeed (getN s.print.level l 0))) ++ (if s.print.spdHold then [d.levelSpeed 4] else [])
    (minN (match all with
      | [] => d.spdFull
      | x :: _ => x) all, (if s.print.spdHold then 4 else lv), maskOf (ls.filter (fun l => getN s.print.level l 0 == (if s.print.spdHold then 4 else lv))))

/-- The request is delivered: PWM, converter, and the peer message when it changes (R333, R440). -/
def State.deliverRequest (s : State) : State :=
  let d := s.camDeck
  let r := s.speedRequest
  let full := d.spdFull
  let period := 100000 / d.f 0x0081 0 0x18 15 0 10
  let free := decide (full = 0)
  let part (n : Nat) : Nat := if free then Config.freeNat s.free % (n + 1) else n * r.1 / full
  let changed := decide (s.print.request.getD full ≠ r.1)
  let s1 : State := { s with print := { s.print with
    request := if s.sys.lineMode.isPrint then some r.1 else none, pwm := (period, part period) } }
  let pin := s.profile.current.ioPin 3
  let s1 := if pin < 32 ∧ s.print.pwm ≠ (period, part period) then s1.emit (.speedPwm pin period (part period)) else s1
  let s2 := if d.spdTdac < 48 then s1.setCode d.spdTdac (part 4095) else s1
  let s3 := if free then s2.drawn else s2
  if changed then s3.sendSpeed r.1 r.2.1 r.2.2 s.print.spdHold else s3

/-- SPEED_EVALUATION (R333). -/
def execSpeedEvaluation (s : State) : Outcome :=
  .next ((if s.sys.lineMode.isPrint then s.evalLevels s.leadsOn else s).deliverRequest)

/-- SPD_HOLD_EXPIRY (R333): the hold ends; the next evaluation delivers the request. -/
def execSpdHoldExpiry (s : State) : Outcome := .next { s with print := { s.print with spdHold := false } }

/-- SPD_REFRESH_TIMER (R440): the SPEED message is repeated. -/
def execSpdRefreshTimer (s : State) : Outcome :=
  let r := s.speedRequest
  .next (s.sendSpeed (s.print.request.getD s.camDeck.spdFull) r.2.1 r.2.2 s.print.spdHold)

end Sys2Proof.Machine
end

