-- ==== Sys2Proof/Machine/Print.lean ====
section
/-! DEFINITION. Head lines at their starts and triggers (R314-R316, R323, R332, R338), the deck switch of heads (R57, R62), the gates (R336),
entry into and exit from the print modes (R337), thermal hold and retirement of heads (R334, R339), and the print commands. -/

namespace Sys2Proof.Machine

/- Items of a line (R326, R332, R346). -/

/-- Items whose last line has triggered at every running head of the group end (R327). -/
def State.endDone (s : State) (lead : Nat) : List PrintItem → State
  | [] => s
  | i :: r =>
    let heads := (upto 8).filter (fun h => (s.head h).on && ((s.headDeck h).groupLead h == lead || (s.deckOf i.epoch).groupLead h == lead))
    (if heads.all i.done.contains then s.finishItem lead i i.status else s).endDone lead r

/-- Every item of a lead that is done ends. -/
def State.settleItems (s : State) (lead : Nat) : State := s.endDone lead (s.queueOf lead).items

/-- A line of a head has passed: items that cover it take its mark, its shift and, at its last line, the head (R326, R346, R347). -/
def State.itemsPass (s : State) (h lead epoch k : Nat) (fired : Bool) (shift : Int) (bad : PrintItem → Bool) : State :=
  let d := s.deckOf epoch
  (s.mapItems lead (fun i =>
    if i.epoch = epoch ∧ i.first ≤ k ∧ k < i.first + i.height then
      { i with
        started := true, begun := true, fired := i.fired || fired, reject := i.reject || bad i
        verify := if i.begun then i.verify else s.sys.lineMode == .printVerify && d.verify
        shifted := i.shifted || (match i.shift with
          | some x => decide (x ≠ shift)
          | none => false)
        shift := match i.shift with
          | some x => some x
          | none => some shift
        done := if k + 1 = i.first + i.height then i.done ++ [h] else i.done }
    else i)).settleItems lead

/-- Items of the old deck that lose lines at a head's switch (R332): DECK_CUT for each, and their end once every head has passed them. -/
def State.cutItems (s : State) (h lead epoch k : Nat) (g : Grid) : List PrintItem → State
  | [] => s
  | i :: r =>
    let last := i.first + i.height - 1
    let a := max i.first k
    let s1 : State := if i.epoch ≠ epoch ∨ last < k ∨ i.done.contains h then s
      else (s.eventNow h 0x0B true epoch (g.label a) (g.label last) (last + 1 - a) (some i.itemId) i.row i.slot).mapItems lead (fun x =>
        if x.index = i.index then { x with cut := true, reject := true, done := x.done ++ [h] } else x)
    s1.cutItems h lead epoch k g r

/- Starting and stopping (R314, R337). -/

/-- HSEN goes low (R337): the windows are cleared, and a usage write falls due (R358). -/
def State.hsenLow (s : State) (h : Nat) : State :=
  if !(s.head h).hsen then s
  else (s.updHead h (fun x => { x with hsen := false, ready := false, hist := [], prep := none })).autoWrite h

/-- HSEN goes high where nothing holds it low (R336, R337): the head is ready HSEN_SETTLE later. -/
def State.hsenHigh (s : State) (h : Nat) : State :=
  let x := s.head h
  if !x.on || x.hsen || x.hopen || x.hopenHeld || s.print.estop || s.print.estopHeld || s.power.brownout || (s.isRetired 9 h && !x.returning) then s
  else s.updHead h (fun x => { x with hsen := true, ready := false, hist := [] })

/-- A head begins its lines in an epoch: the first one whose threshold H has not reached (R314). -/
def State.startHead (s : State) (h epoch : Nat) : State :=
  let lead := (s.deckOf epoch).groupLead h
  let s0 := s.keepGrid lead epoch
  let g := s0.gridFor lead epoch
  let k := ((s0.pos.h - s0.lineAtH g h 0) / (max 1 g.pitch : Nat) + 1).toNat
  (s0.updHead h (fun x => { x with on := true, epoch := epoch, k := k, prep := none, busy := none })).hsenHigh h

/-- A head stops (R337): the line in progress completes, open events are written, HSEN goes low. -/
def State.stopHead (s : State) (h : Nat) : State :=
  let s1 := (s.closeEvents h (fun _ => true)).hsenLow h
  s1.updHead h (fun x => { x with on := false, prep := none })

/-- Items that are left when printing ends (R326): NOT_PRINTED before their first line, else PRINTED_REJECT. -/
def State.endItems (s : State) (lead : Nat) : List PrintItem → State
  | [] => s
  | i :: r => (s.finishItem lead i (if i.begun then 2 else 6)).endItems lead r

/-- Entry into PRINT or PRINT_VERIFY (R337, R357): heads that the deck uses start and authenticate. -/
def State.enterPrint (s : State) : State :=
  let hs := (upto 8).filter (fun h => (s.deckOf (s.epochAt (.head h))).headUsed s.profile.current h)
  hs.foldl (fun (s : State) h =>
    (((s.updChip h (fun c => { c with okSinceEntry := false, failedNow := false })).startHead h (s.epochAt (.head h))).authDue h)) s

/-- Exit from PRINT and PRINT_VERIFY (R326, R337). -/
def State.leavePrint (s : State) : State :=
  let s1 := ((upto 8).filter (fun h => (s.head h).on)).foldl State.stopHead s
  let s2 := (upto 8).foldl (fun (s : State) l => s.endItems l (s.queueOf l).items) s1
  let s3 : State := { s2 with print := { s2.print with queue := s2.print.queue.map (fun q => { q with expect := none, lastKey := none }) } }
  s3.deliverRequest

/- The switch of a head (R57, R62, R332). -/

/-- The epoch that the swap under way brings, and its deck, where head h still has to switch. -/
def State.headSwap (s : State) (h : Nat) : Option (Swap × Nat × Container) :=
  match s.deck.swap with
  | none => none
  | some w => if !w.waiting.contains (.head h) then none
    else if w.cameraDone then some (w, s.deck.epoch, s.camDeck)
    else some (w, nextEpoch s.deck.epoch, (s.slotDeck w.slot).getD {})

/-- A head whose next line lies at or beyond Ws goes on in the new grid, where the new deck uses it (R57, R314). -/
def State.toNewGrid (s : State) (h : Nat) : State :=
  match s.headSwap h with
  | none => s
  | some (w, e, d) =>
    let x := s.head h
    if !x.on || x.epoch == e || decide ((s.headGrid h).q x.k < w.here * 65536) || !d.headUsed s.profile.current h then s
    else
      let s0 := s.keepGrid ((s.headDeck h).groupLead h) x.epoch
      let s1 : State := { s0 with deck := s0.deck.addEpoch e d }
      (s1.keepGrid (d.groupLead h) e).updHead h (fun x => { x with epoch := e, k := 0, prep := none })

/-- A head has switched (R57, R332): items of the old deck lose the lines from here on. -/
def State.headSwitched (s : State) (h oldEpoch : Nat) : State :=
  let od := s.deckOf oldEpoch
  let lead := od.groupLead h
  let g := s.gridFor lead oldEpoch
  let ws : Int := match s.deck.swap with
    | some w => w.here
    | none => 0
  let k := (ceilDivI (ws * 65536 - g.q0) (max 1 g.pitch : Nat)).toNat
  ((s.cutItems h lead oldEpoch k g (s.queueOf lead).items).settleItems lead).stationDone (.head h)

/-- Epoch that a head leaves at the swap under way. -/
def State.leavingEpoch (s : State) : Nat :=
  match s.deck.swap with
  | some w => if w.cameraDone then s.deck.prevEpoch else s.deck.epoch
  | none => s.deck.epoch

/-- The first line of the new grid has passed: the head's station has switched. -/
def State.noteSwitch (s : State) (h : Nat) : State :=
  match s.headSwap h with
  | none => s
  | some (_, e, _) => if (s.head h).epoch = e then s.headSwitched h s.leavingEpoch else s

/-- A head that prints no line of the new deck switches once H reaches Ws + d (R57): it stops, or starts where the new deck uses it. -/
def State.idleSwitch (s : State) (h : Nat) : State :=
  match s.headSwap h with
  | none => s
  | some (w, e, d) =>
    let x := s.head h
    let used := d.headUsed s.profile.current h
    if (x.on && used) || decide (s.pos.h < (w.here + s.profile.current.headOff h) * 65536) then s
    else if x.on then ((s.stopHead h).headSwitched h s.leavingEpoch)
    else
      let s1 : State := { s with deck := s.deck.addEpoch e d }
      let s2 := if used && s.sys.lineMode.isPrint then s1.startHead h e else s1
      s2.stationDone (.head h)

/- Occurrences (R339). -/

/-- A head port is retired (R339): HSEN low; items of its group end NOT_PRINTED or PRINTED_REJECT; a partner's elements lose their cover at
later judgements (R354). -/
def State.headRetired (s : State) (h : Nat) : State :=
  let lead := (s.headDeck h).groupLead h
  (s.hsenLow h).mapItems lead (fun i => { i with reject := true })

/-- One occurrence against a head port (R339). -/
def State.headOccur (s : State) (h code : Nat) : State :=
  let r := s.occur 9 h code 0 s.faultLine
  if r.1 then r.2.headRetired h else r.2

/- Triggers (R314, R315, R323). -/

/-- H at which the line after the next one of a head triggers. -/
def State.afterNextAtH (s : State) (h : Nat) : Int :=
  let x := s.head h
  let g := s.headGrid h
  let here := s.lineAtH g h (x.k + 1)
  match s.headSwap h with
  | none => here
  | some (w, e, d) =>
    if x.epoch ≠ e ∧ g.q (x.k + 1) ≥ w.here * 65536 ∧ d.headUsed s.profile.current h then
      s.lineAtH (s.gridFor (d.groupLead h) e) h 0
    else here

/-- WIN of the ELEM_MAP stage of a deck; none without one. -/
def Container.elemWindow (d : Container) : Option Nat :=
  match d.stagesWhere (fun st => st.op == 0x30) with
  | [] => none
  | i :: _ => (d.stage i).map (fun st => max 1 (fld (wordAt st.param 0) 31 16))

/-- Events that cover an ELEM_MAP window's end are written (R353). -/
def State.windowEnd (s : State) (h k : Nat) : State :=
  match (s.headDeck h).elemWindow with
  | some n => if (k + 1) % n = 0 then s.closeEvents h (fun e => e.kind == 0x0E || e.kind == 0x10) else s
  | none => s

/-- ELEM_DEAD notes of a line (R355). -/
def Head.deadNotes (x : Head) (epoch k : Nat) (item : Option PrintItem) : List LineNote :=
  (x.deadAt epoch k).map (fun e => { kind := 0x10, reject := true, item := item, elem := some e })

/-- The head moves on to its next line. -/
def State.nextLine (s : State) (h k : Nat) : State :=
  ((s.windowEnd h k).noteSwitch h).updHead h (fun x => { x with k := k + 1, prep := none })

/-- Line k is skipped (R315): no load, no strobe, reported as OVERSPEED. -/
def State.skipLine (s : State) (h : Nat) : State :=
  let s0 := s.toNewGrid h
  let x := s0.head h
  let lead := (s0.headDeck h).groupLead h
  let g := s0.headGrid h
  let item := (s0.itemsAt lead x.epoch x.k).head?
  let s1 := s0.noteLine h x.epoch x.k (g.label x.k) s0.lineTime
    ({ kind := 0x0A, reject := true, item := item } :: x.deadNotes x.epoch x.k item)
  let s2 := (s1.headTally h (fun c => { c with overspeed := satInc c.overspeed })).updHead h (fun y => { y with
    hist := if y.hsen then ((0, 0) :: y.hist).take 65534 else [] })
  (s2.itemsPass h lead x.epoch x.k false (getN s2.print.shift lead 0) (fun _ => true)).nextLine h x.k

/-- Lines skipped while H has reached the threshold of the line after the next one (R315). -/
def State.skipLines (h : Nat) : Nat → State → State
  | 0, s => s
  | n + 1, s => if s.pos.h ≥ s.afterNextAtH h then (s.skipLine h).skipLines h n else s

/-- Strobe groups that fire in a slot: g & (NSLOT − 1) (R323). -/
def Container.slotGroups (d p : Container) (h slot : Nat) : Nat :=
  maskOf ((upto (p.strobeGroups h)).filter (fun g => g % d.nslot h == slot))

/-- Start of each slot after the trigger, and the line's end, in ticks of 10 ns (R323). -/
def Container.slotStarts (d p : Container) (h : Nat) (tiers : List (Nat × Nat)) : List Nat × Nat :=
  let t := maxN (tiers.map (·.1))
  let delta := max t (p.tload h)
  let st := (upto (d.nslot h)).map (fun i => i * (delta + p.latchW h))
  (st, maxN st + p.latchW h + t)

/-- Notes of a triggered line and whether each covering item is rejected by it (R338, R355, R330). -/
def PrepLine.notes (l : PrepLine) (why limit : Nat) (items : List PrintItem) (dead : List LineNote) : List LineNote :=
  let item := items.head?
  let code : Option Nat := if why = 0x0E then some limit else none
  (if why = 0 ∨ why = 0x20 then [] else [{ kind := why, reject := decide (why ≠ 0x0D), item := item, elem := code }]) ++
  (items.filter (fun i => l.late.contains i.index)).map (fun i => { kind := 0x04, reject := true, item := some i }) ++
  (if why = 0 ∧ l.dutyClip then [{ kind := 0x08, reject := true, item := item }] else []) ++
  (if why = 0 ∧ l.energyClip then [{ kind := 0x09, reject := l.energyReject, item := item }] else []) ++ dead

/-- The counters of a triggered line (R340). -/
def HeadCount.line (c : HeadCount) (l : PrepLine) (why : Nat) : HeadCount :=
  let on (b : Bool) (v : Nat) : Nat := if b then satInc v else v
  let f := decide (why = 0)
  { c with
    lines := on f c.lines, suppressed := on (!f) c.suppressed, timeClip := on (f && l.timeClip) c.timeClip
    dutyClip := on (f && l.dutyClip) c.dutyClip, energyClip := on (f && l.energyClip) c.energyClip, fetchLate := satAdd c.fetchLate l.late.length }

/-- The next line of a head triggers (R314, R323): as it was prepared, unless a hold or gate suppresses it, or an uncorrectable error of the line
buffer (R339), which is an occurrence. -/
def State.triggerLine (s : State) (h : Nat) (bufferError : Bool) : State :=
  let s0 := s.toNewGrid h
  let s1 := if (s0.head h).prep.isSome then s0 else s0.prepare h
  let x := s1.head h
  let l := x.prep.getD { epoch := x.epoch, k := x.k, start := s1.now }
  let d := s1.headDeck h
  let p := s1.profile.current
  let lead := d.groupLead h
  let g := s1.headGrid h
  let why := firstWhy (firstWhy l.why (s1.whyNow h)) (if bufferError then 0x20 else 0)
  let fire := decide (why = 0)
  let items := s1.itemsAt lead x.epoch x.k
  let label := g.label x.k
  let notes := l.notes why (if x.chip.failedNow then 1 else 2) items (x.deadNotes x.epoch x.k items.head?)
  let flags := decide (why ≠ 0 ∧ why ≠ 0x0D) || (fire && (l.dutyClip || (l.energyClip && l.energyReject)))
  let fired := if fire then l.fired else 0
  let slots := d.slotStarts p h l.tiers
  let s2 := (s1.noteLine h x.epoch x.k label s1.lineTime notes).headTally h (fun c => c.line l why)
  let s3 := s2.updHead h (fun y => { y with
    lastTrig := some s1.now, busy := if fire then some (s1.now + 2 * slots.2, x.epoch, x.k) else none
    hist := if y.hsen then ((fired, if fire then l.energy else 0) :: y.hist).take 65534 else []
    log := ({ epoch := x.epoch, k := x.k, label := label, shift := l.shift, fired := fired } :: y.log).take 262144 })
  let s4 := if fire then (s3.emit (.headFire h s1.now (List.zip slots.1 ((upto (d.nslot h)).map (d.slotGroups p h))) l.tiers)).countLine h else s3
  let s5 := (s4.itemsPass h lead x.epoch x.k fire l.shift (fun i => flags || l.late.contains i.index || l.deadHit.contains i.index)).nextLine h x.k
  if bufferError then s5.headOccur h 3 else s5

/-- May the next line of a head trigger: H at its threshold, and T_line since the head's previous trigger (R314)? -/
def State.lineDue (s : State) (h : Nat) : Bool :=
  let x := s.head h
  decide (s.pos.h ≥ s.lineAtH (s.headGrid h) h x.k) && (match x.lastTrig with
    | none => true
    | some t => decide (t + 2 * (s.headDeck h).tline h ≤ s.now))

/-- H and the clock brought to a tick. -/
def State.reachTick (s : State) (t : Nat) : State :=
  let s0 := s.advance t
  { s0 with pos := s0.pos.idleTo s0.camDeck s0.now }

/-- HEAD_LINE_TRIGGER of a running head at the present tick: skipped lines first (R315), then the line that is due (R314). -/
def State.headTick (s : State) (h : Nat) (bufferError : Bool) : State :=
  let s1 := s.idleSwitch h
  let x := s1.head h
  if !x.on then s1
  else
    let g := s1.headGrid h
    let s2 := s1.skipLines h (((s1.pos.h - s1.lineAtH g h x.k) / (max 1 g.pitch : Nat)).toNat + 1)
    let s3 := s2.idleSwitch h
    if (s3.head h).on ∧ (s3.toNewGrid h).lineDue h then s3.triggerLine h bufferError else s3

/-- HEAD_LINE_TRIGGER. -/
def execHeadLineTrigger (h t : Nat) (s : State) (bufferError : Bool := false) : Outcome := .next ((s.reachTick t).headTick h bufferError)

/-- Is a head the most upstream one of its group that runs in its epoch (R328)? -/
def State.isUpstream (s : State) (h : Nat) : Bool :=
  let x := s.head h
  let p := s.profile.current
  let lead := (s.headDeck h).groupLead h
  let gs := (upto 8).filter (fun b => (s.head b).on && (s.headDeck b).groupLead b == lead && (s.head b).epoch == x.epoch)
  gs.all (fun b => decide (p.headOff h < p.headOff b) || (p.headOff h == p.headOff b && decide (h ≤ b)))

/-- A head that was reinstated is back at its next line start, after HSEN_SETTLE (R408). -/
def State.headBack (s : State) (h : Nat) : State :=
  let x := s.head h
  if x.returning && x.ready then ((s.updHead h (fun x => { x with returning := false })).returnChannel 9 h).completeCode 0x0009 .ok 0 else s

/-- A line start of a head (R316, R328, R339): the fetcher inspects its next entry at the most upstream head, then the next line is prepared. An entry that
cannot be read is an occurrence, and is inspected again at the next line start (DEDUCED, log 174). None for misuse (R342). -/
def State.headLineStart (s : State) (h t : Nat) (entryError : Bool) : Option State :=
  let s0 := s.reachTick t
  if !(s0.head h).on || (s0.head h).prep.isSome then some s0 else
  let s1 := (s0.headBack h).toNewGrid h
  let x := s1.head h
  if s1.isUpstream h && entryError then
    let lead := (s1.headDeck h).groupLead h
    let s2 := if (s1.nextEntry lead).isSome then s1.readUnc ((s1.queueOf lead).addr (s1.readIndex lead)) else s1
    some ((s2.headOccur lead 2).prepare h)
  else if s1.isUpstream h then (s1.fetch ((s1.headDeck h).groupLead h) x.epoch x.k).map (fun s => s.prepare h)
  else some (s1.prepare h)

/-- HEAD_LINE_REPREPARE (R316): a line that has not triggered 1 ms after its line start is prepared again. -/
def execHeadLineReprepare (h t : Nat) (s : State) : Outcome :=
  let s0 := s.reachTick t
  match (s0.head h).prep with
  | some l => .next (if l.start + msTicks ≤ s0.now ∧ (s0.head h).on then s0.prepare h else s0)
  | none => .next s0

/- Retirement and thermal hold (R334, R339). -/

/-- The rows of a burst arrive, or an uncorrectable error leaves the row absent (R330, R339). -/
def State.burstDone (s : State) (lead itemId row : Nat) (ok : Bool) : State :=
  if ok then s.burst lead itemId row
  else match (s.queueOf lead).items.find? (fun i => i.itemId == itemId) with
    | some i => (s.readUnc (i.bitmap + i.stride * row)).headOccur lead 2
    | none => s

/-- A head in thermal hold suppresses a prepared line too (R334). -/
def State.holdLine (s : State) (h : Nat) : State :=
  s.updHead h (fun x => { x with prep := x.prep.map (fun l => { l with why := firstWhy l.why 5 }) })

/-- A VALID output of a thermistor of a head (R317, R334). -/
def State.thermistorOutput (s : State) (h ch : Nat) : State :=
  let p := s.profile.current
  let d := s.headDeck h
  match (s.monCode ch).bind (p.thermOf h) with
  | none =>
    let s1 := (s.updHead h (fun x => { x with outOfRange := insertSorted ch x.outOfRange })).headTally h (fun c => { c with thermRange := satInc c.thermRange })
    (s1.holdLine h).headOccur h 1
  | some _ =>
    let s1 := s.updHead h (fun x => { x with outOfRange := x.outOfRange.filter (· != ch) })
    match s1.headTheta h with
    | none => s1
    | some t =>
      if t ≥ d.tlimit then (s1.updHead h (fun x => { x with hold := true })).holdLine h
      else if t < d.tlimit - d.thyst then s1.updHead h (fun x => { x with hold := false })
      else s1

/-- A VALID output of a monitor channel reaches the print block. -/
def State.monitorToPrint (s : State) (ch : Nat) : State :=
  let h := ch / 3
  if ch < 24 ∧ (s.profile.current.thermistors h).contains ch then s.thermistorOutput h ch else s

/- Gates (R336). -/

/-- A line in progress at a head that the gate cuts (R336): it is reported as GATED. -/
def State.cutLine (s : State) (h : Nat) : State :=
  let x := s.head h
  match x.busy with
  | none => s
  | some (e, ep, k) =>
    if e ≤ s.now then s
    else
      let lead := (s.deckOf ep).groupLead h
      let g := s.gridFor lead ep
      let items := s.itemsAt lead ep k
      let s1 := s.updHead h (fun x => { x with
        busy := none, events := addNote ep k (g.label k) s.time { kind := 0x07, reject := true, item := items.head? } x.events })
      s1.mapItems lead (fun i => if items.any (fun j => j.index == i.index) then { i with reject := true } else i)

/-- Heads that the profile wires. -/
def State.wiredHeads (s : State) : List Nat := (upto 8).filter s.profile.current.headWired

/-- Heads gated, and HSEN low where the input says so; each assertion is published with H − d of the lowest head (R336, R364). -/
def State.gateHeads (s : State) (hs : List Nat) (low : Bool) : State :=
  let s1 := hs.foldl (fun (s : State) h => let s1 := s.cutLine h
                                           if low then s1.hsenLow h else s1) s
  match hs with
  | [] => s1
  | h :: _ => s1.publish 0x12 (s1.highWpos - s1.profile.current.headOff h)

/-- Does the profile in force name a pin for gate function k (R608, R609)? With none the gate never asserts. -/
def State.gateWired (s : State) (k : Nat) : Bool := s.profile.current.ioPin k != 0xFF

/-- A gate input asserts (R336). -/
def State.gateAssert (s : State) (inp : GateInput) : State :=
  match inp with
  | .hopen h => if (s.head h).hopen then s else (s.updHead h (fun x => { x with hopen := true })).gateHeads [h] true
  | .webAbsent => if s.print.webAbsent || !s.gateWired 1 then s else ({ s with print := { s.print with webAbsent := true } } : State).gateHeads s.wiredHeads false
  | .jam => if s.print.jam || !s.gateWired 2 then s else ({ s with print := { s.print with jam := true } } : State).gateHeads s.wiredHeads false
  | .estop =>
    if s.print.estop || !s.gateWired 0 then s
    else ({ s with print := { s.print with estop := true, estopHeld := true } } : State).gateHeads s.wiredHeads true

/-- WEB_ABSENT or JAM clears: every head waits for its GATE_REARM. -/
def State.webClears (s : State) : State :=
  (upto 8).foldl (fun (s : State) h => s.updHead h (fun x => { x with webHeld := true })) s

/-- HEAD_GATE_CLEAR (R336, R357, R359): HOPENh also starts an authentication, and retries a usage write that failed meanwhile. -/
def execHeadGateClear (inp : GateInput) (s : State) : Outcome :=
  match inp with
  | .hopen h =>
    if !(s.head h).hopen then .next s else
    let s1 := s.updHead h (fun x => { x with
      hopen := false, hopenHeld := true, chip := { x.chip with writeDue := x.chip.writeDue || x.chip.retry, retry := false } })
    .next (s1.authDue h)
  | .webAbsent => .next (if s.print.webAbsent then ({ s with print := { s.print with webAbsent := false } } : State).webClears else s)
  | .jam => .next (if s.print.jam then ({ s with print := { s.print with jam := false } } : State).webClears else s)
  | .estop => .next { s with print := { s.print with estop := false } }

/-- GATE_REARM_EXPIRY (R336): GATE_REARM has passed for a head since its input cleared; a gate whose input is asserted again stays. -/
def execGateRearmExpiry (h : Nat) (s : State) : Outcome :=
  let clear := !s.print.webAbsent && !s.print.jam
  .next ((s.updHead h (fun x => { x with hopenHeld := x.hopenHeld && x.hopen, webHeld := x.webHeld && !clear })).hsenHigh h)

/-- HSEN_SETTLE_EXPIRY (R316, R337): the head is ready to fire; a line prepared before is prepared afresh at its line start, which is now. -/
def execHsenSettleExpiry (h : Nat) (s : State) : Outcome :=
  .next (s.updHead h (fun x => if x.hsen then { x with ready := true, prep := none } else x))

/-- PRINT_REARM (R336, R341). -/
def execPrintRearm (q : Req) (s : State) : Outcome :=
  runCmd 0x0402 q .nb false (if s.print.estop then some (badState s 4) else none)
    ((upto 8).foldl State.hsenHigh { s with print := { s.print with estopHeld := false } }, {}) s

/- Shift (R325). -/

/-- PRINT_SHIFT (R325, R417). -/
def execPrintShift (q : Req) (lead : Nat) (shift : Int) (s : State) : Outcome :=
  let d := s.camDeck
  let m : Int := d.shiftMax lead
  let v := clampI (-m) m shift
  runCmd 0x0403 q .web false (if d.headUsed s.profile.current lead ∧ d.groupLead lead = lead ∧ d.shiftSrc lead = 2 then none else some (.fail .notFound 3))
    ({ s with print := { s.print with shift := setAt s.print.shift lead v } }, .ok (leBytes 4 (truncN 16 v))) s

/-- dxs of the nodes whose centre XNM lies in a span (R188, R325). -/
def spanDxs (xnm : Nat → Nat) (lo hi : Int) (field : List (Int × Int)) : List Int :=
  (List.zipWith (fun (n : Int × Int) (k : Nat) => (n.1, k)) field (upto field.length)).filterMap (fun x =>
    let c : Int := xnm (x.2 * 256 + 128)
    if lo ≤ c ∧ c < hi then some x.1 else none)

/-- A field row in force moves the shift of a group with SHIFT_SRC 1 (R325). -/
def State.shiftFrom (s : State) (d : Container) (field : List (Int × Int)) (lead : Nat) : State :=
  let ep : Int := s.profile.current.epitch lead
  let lo : Int := d.gxnm0 lead
  let hi : Int := lo + d.groupW lead * ep / 256
  match spanDxs (s.xnm d) lo hi field with
  | [] => s
  | xs =>
    let m := (sumI xs).tdiv (xs.length : Int)
    let sg := (-(m * d.pxPitch)).tdiv (ep * 256)
    let old := getN s.print.shift lead 0
    let mx : Int := d.shiftMax lead
    let new := if sg ≥ 0 then (sg + 32) / 64 else -((-sg + 32) / 64)
    if (sg - 64 * old).natAbs ≥ 32 + d.shiftHyst lead then { s with print := { s.print with shift := setAt s.print.shift lead (clampI (-mx) mx new) } }
    else s

/-- Groups with SHIFT_SRC 1 act on the field in force (R325). -/
def State.shiftField (s : State) (epoch : Nat) : State :=
  let d := s.deckOf epoch
  ((upto 8).filter (fun l => d.headUsed s.profile.current l && d.groupLead l == l && d.shiftSrc l == 1)).foldl
    (fun (s : State) l => s.shiftFrom d s.reg.field l) s

/-- A line through the compare stage; where a field row takes force at it and the state is LOCKED then, the groups'
shifts follow the field (the state after the row's own evaluation, DEDUCED, log 47). -/
def State.comparedLine (s : State) (bufferError gapStateError : Bool) (hits : List BandHit) (corrected : Nat) : State :=
  let s1 := s.compareStep bufferError gapStateError hits corrected
  let row : Bool := match s.span.toCompare with
    | [] => false
    | w :: _ => match rowAt (s.deckOf w.slot.epoch) w.slot.wln with
      | some j => s.reg.epoch == w.slot.epoch && (lookupN j s.reg.rows).isSome && !s1.reg.firstRepeat
      | none => false
  if row ∧ s1.reg.st = 2 then s1.shiftField s1.reg.epoch else s1

/- Elements (R354, R355, R360, R417). -/

/-- PRINT_ELEM_QUERY response (R360, R417). -/
def State.elemBytes (s : State) (h : Nat) : List Byte :=
  let n := s.profile.current.elements h
  let x := s.head h
  let st (e : Nat) : Nat := if e < n then x.elemState e % 16 else 0
  leBytes 4 n ++ (upto 1280).map (fun i => BitVec.ofNat 8 (st (2 * i) + 16 * st (2 * i + 1))) ++
    (upto 2560).map (fun e => BitVec.ofNat 8 (if e < n then (match x.runs.find? (fun r => r.1 == e) with
      | some r => r.2.1
      | none => 0) else 0))

/-- PRINT_ELEM_QUERY. -/
def execPrintElemQuery (q : Req) (head : Nat) (s : State) : Outcome :=
  runCmd 0x0410 q .nb false (headRefuse head s) (s, .ok (s.elemBytes head)) s

/-- PRINT_SUB_CONFIRM (R355, R360). -/
def execPrintSubConfirm (q : Req) (head : Nat) (accept : Bool) (element : Nat) (s : State) : Outcome :=
  let at' := s.switchOf head
  let ep := match at' with
    | some x => x.1
    | none => s.deck.epoch
  let lab := s.switchLabel head at'
  let part := match s.partnerOf head with
    | some (b, _) => b
    | none => 0
  let s1 := s.setElem head element (if accept then 3 else 1) at'
  runCmd 0x0411 q .prt false (if (s.head head).elemState element = 2 then none else some (.fail .notFound 0))
    (s1.eventNow head (if accept then 0x11 else 0x13) false ep lab lab 0 none element part, {}) s

/-- PRINT_ELEM_CLEAR (R354, R360, R417): one element, or all with 0xFFFF, to OK with a run of 0, at the group's switch line. -/
def execPrintElemClear (q : Req) (head element : Nat) (s : State) : Outcome :=
  let at' := s.switchOf head
  let ep := match at' with
    | some x => x.1
    | none => s.deck.epoch
  let lab := s.switchLabel head at'
  let es := if element = 0xFFFF then (s.head head).elems.map (·.1) else [element]
  let s1 := es.foldl (fun (s : State) e => s.setElem head e 0 at') s
  let s2 := s1.updHead head (fun x => { x with runs := x.runs.filter (fun r => !(element == 0xFFFF || r.1 == element)) })
  runCmd 0x0412 q .op false
    (match headRefuse head s with
     | some r => some r
     | none => if element ≠ 0xFFFF ∧ element ≥ s.profile.current.elements head then some (.fail .notFound 3) else none)
    (s2.eventNow head 0x14 false ep lab lab 0 none element 0, .ok (leBytes 8 (truncN 64 (wpos48 lab)))) s

end Sys2Proof.Machine
end

