-- ==== Sys2Proof/Machine/Comb.lean ====
section
/-! DEFINITION. The Comb at work (R243-R260, R289, R290, R296, R299, R304): how tasks arise, run and commit, faults and retirement of cells and
frames, shedding. -/

namespace Sys2Proof.Machine

/- Lines in the look-back ring (R257). -/

/-- Has the look-back ring passed line y of epoch e: does it hold that line's group or a later one of the epoch? -/
def State.lineReached (s : State) (e y : Nat) : Bool :=
  (s.heldGroups false).any (fun h => h.2.epoch == e && decide (y < h.2.y0 + h.2.lines))

/-- No further line of epoch e comes into the look-back ring. -/
def State.epochOver (s : State) (e : Nat) : Bool := s.epochDone e && s.codec.lb.rows.all (fun r => r.epoch != e)

/-- Line y of epoch e will never be reached. -/
def State.lineNever (s : State) (e y : Nat) : Bool := !s.lineReached e y && s.epochOver e

/-- Is (e, y) at or after (e', y')? -/
def atOrAfter (e y e' y' : Nat) : Bool := decide (e' < e) || (e == e' && decide (y' ≤ y))

/-- Is a stage shed for an input line (R251)? -/
def State.isShed (s : State) (stage e y : Nat) : Bool :=
  s.comb.shedSpans.any (fun p => p.stage == stage && atOrAfter e y p.start.1 p.start.2 && (match p.stop with
    | none => true
    | some q => !atOrAfter e y q.1 q.2))

/-- WPOS of the threshold of line n of an epoch (R304): as the line carries it; else that of the line to come, of the switch line in the old
epoch's coordinates, or of a line pitch after the line before. -/
def State.wposOf (s : State) (e n : Nat) (before : Int) : Int :=
  match s.comb.lines.find? (fun l => l.epoch == e && l.wln == n) with
  | some l => l.wpos
  | none =>
    if e = s.deck.epoch ∧ n = s.pos.wln then s.nextWpos
    else if e = s.deck.prevEpoch ∧ e ≠ s.deck.epoch then s.deck.lastWd
    else before + ((s.deckOf e).pitch / 65536 : Nat)

/-- A line that Span emits is noted for the tasks: its place, and the start of a repeat (R257). -/
def State.noteRepeat (s : State) (l : LineSlot) : State :=
  let d := s.deckOf l.epoch
  let n := s.repeatL d l.epoch
  let start := if d.refSource ≤ 1 then l.refLabel.isSome else decide (n ≠ 0) && l.wln % n == 0
  let m : LineMark := { epoch := l.epoch, wln := l.wln, wpos := l.wpos, time := l.time, ridx := l.ridx, roff := l.roff }
  let c := { s.comb with lines := (m :: s.comb.lines).take 262144 }
  if !start then { s with comb := c }
  else { s with comb := { c with
    repeats := c.repeats ++ [{ n := c.nextRepeat, epoch := l.epoch, wln := l.wln, wpos := l.wpos, time := l.time, ridx := l.ridx }]
    nextRepeat := c.nextRepeat + 1 } }

/-- Span emits a line (R143), and what it starts is noted. -/
def State.spanLine (s : State) (bufferError : Option Nat) : State :=
  match s.span.fromGeometry with
  | [] => s
  | (_, _, slot, _) :: _ =>
    let s1 := s.spanEmit bufferError
    if slot.mode == .calibrate then s1 else s1.noteRepeat slot

/- Frames and cells (R243, R248). -/

/-- Is a frame in service? -/
def State.frameUp (s : State) (f : Nat) : Bool := !s.isRetired 8 f

/-- Is a cell in service: it and its frame? -/
def State.cellUp (s : State) (c : Nat) : Bool := !s.isRetired 7 c && s.frameUp (c / 16)

/-- Does a cell run no task? -/
def State.cellIdle (s : State) (c : Nat) : Bool := s.comb.tasks.all (fun t => t.cell != some c)

/-- Tasks queued in a frame: those that no cell runs. -/
def State.frameLoad (s : State) (f : Nat) : Nat := (s.comb.tasks.filter (fun t => t.frame == some f && t.cell.isNone)).length

/-- The frame of fewest tasks, the lowest on a tie. -/
def leastFrame (load : Nat → Nat) : List Nat → Option Nat
  | [] => none
  | f :: r => match leastFrame load r with
    | none => some f
    | some g => if load f ≤ load g then some f else some g

/-- The frame that takes a task (R243). -/
def State.pickFrame (s : State) : Option Nat := leastFrame s.frameLoad ((upto 16).filter s.frameUp)

/-- A key added to a list that holds each key once. -/
def addKey (k : Nat) (l : List Nat) : List Nat := if l.contains k then l else l ++ [k]

/-- A task is created and queued in a frame, whose work area takes its inputs (R243, R244). -/
def State.addTask (s : State) (t : Task) : State :=
  { s with comb := { s.comb with
    tasks := s.comb.tasks ++ [{ t with id := s.comb.nextId, frame := s.pickFrame }], nextId := s.comb.nextId + 1
    usedFrames := match s.pickFrame with
      | some f => addKey f s.comb.usedFrames
      | none => s.comb.usedFrames } }

/- Parameter halves (R239-R243, R248). -/

/-- Parameter half of the deck of an epoch (R243). -/
def CombState.halfOf (c : CombState) (epoch : Nat) : Nat := (lookupN epoch c.halves).getD c.half

/-- The deck that a parameter half holds: the ACTIVE deck's own half; the other one has the STAGED deck, else the deck before the swap, whose half
stays in use until its last task commits (R241, R242). -/
def State.halfDeck (s : State) (half : Nat) : Option Container :=
  if half = s.comb.half then s.activeDeck
  else match s.stagedDeck with
    | some d => some d
    | none => (s.comb.halves.find? (fun h => h.2 == half)).map (fun h => s.deckOf h.1)

/-- Both parameter halves of a frame rewritten from the deck copies (R248, R423). -/
def State.frameParams (s : State) (f : Nat) : State :=
  let put (s : State) (half : Nat) : State := match s.halfDeck half with
    | none => s
    | some c => s.write (paramAddr f half) c.paramSet
  put (put s 0) 1

/-- The deck of a task's epoch with the RECIPE and CLASSIFIER bodies that its frame's parameter half holds (R241, R243). -/
def State.taskDeck (s : State) (t : Task) : Container :=
  let d := s.deckOf t.epoch
  match t.frame with
  | none => d
  | some f =>
    let a := paramAddr f (s.comb.halfOf t.epoch)
    let n := d.recipeBody.length
    (d.withBody 0x0060 (s.read a n)).withBody 0x0061 (s.read (a + n) d.classifierBody.length)

/-- Tasks created in order. -/
def State.addTasks (s : State) : List Task → State
  | [] => s
  | t :: r => (s.addTask t).addTasks r

/-- A task of a stage. -/
def mkTask (stage : Nat) (st : Stage) (epoch wln : Nat) (event : Bool) (input : TaskIn) : Task :=
  { id := 0, stage := stage, op := st.op, prio := st.prio, epoch := epoch, wln := wln, input := input, event := event }

/-- First stage of a deck with an operator and a trigger. -/
def Container.stageOf (d : Container) (op trig : Nat) : Option (Nat × Stage) :=
  match d.stagesWhere (fun st => st.op == op && st.trig == trig) with
  | [] => none
  | i :: _ => (d.stage i).map (fun st => (i, st))

/-- DESCRIPTOR_ACCEPT (R244, R257): the oldest descriptor that no task holds gives a task of the blob chain; its queue entry stays held until
commit. -/
def State.acceptBlob (s : State) : State :=
  let held := s.comb.tasks.filterMap (fun t => match t.input with
    | .blob b => some (b.epoch, b.seq)
    | _ => none)
  match s.seg.queue.find? (fun b => !held.contains (b.epoch, b.seq)) with
  | none => s
  | some b =>
    match (s.deckOf b.epoch).chainStage 0x10 with
    | none => s
    | some (i, st) => s.addTask (mkTask i st b.epoch b.y1 false (.blob b))

/-- DESCRIPTOR_ACCEPT. -/
def execDescriptorAccept (s : State) : Outcome := .next s.acceptBlob

/-- The epoch whose groups follow those of epoch e in the look-back ring. -/
def State.epochAfter (s : State) (e : Nat) : Option Nat :=
  let gs := (s.heldGroups false).map (fun h => h.2.epoch)
  let later := if gs.contains e then (gs.dropWhile (· != e)).filter (· != e) else gs
  later.head?

/-- Starts of the tasks of a field row: first node and number of nodes (R257, R264). -/
def nodeTasks : Nat → Nat → Nat → Nat → List (Nat × Nat)
  | 0, _, _, _ => []
  | f + 1, per, first, nx => if first < nx then (first, min per (nx - first)) :: nodeTasks f per (first + per) nx else []

/-- FIELD_TASK_READY (R257): the next field row whose last line is readable gives its TILE_REG tasks; a row unfinished at the end of its epoch
is discarded. -/
def State.fieldReady (s : State) : State :=
  let cur := s.comb.nextRow
  let lineEnd (e r : Nat) : Nat := (r + 1) * (s.deckOf e).fieldLines - 1
  let at' : Option (Nat × Nat) :=
    if cur.1 ≠ 0 ∧ s.lineReached cur.1 (lineEnd cur.1 cur.2) then some cur
    else match s.epochAfter cur.1 with
      | some e => if s.lineReached e (lineEnd e 0) then some (e, 0) else none
      | none => none
  match at' with
  | none => s
  | some (e, r) =>
    let d := s.deckOf e
    let s1 : State := { s with comb := { s.comb with nextRow := (e, r + 1) } }
    match d.stageOf 0x01 1 with
    | none => s1
    | some (i, st) =>
      let y := lineEnd e r
      if s.isShed i e y then s1
      else s1.addTasks ((nodeTasks d.nodes (max 1 (fld (wordAt st.param 0) 15 8)) 0 d.nodes).map (fun n =>
        mkTask i st e y false (.nodes r n.1 n.2)))

/-- FIELD_TASK_READY. -/
def execFieldTaskReady (s : State) : Outcome := .next s.fieldReady

/-- REPEAT_TASK_READY (R257): the stage's next repeat whose last region line is readable gives its task; an unfinished one of a past epoch is
discarded. -/
def State.repeatReady (s : State) (stage : Nat) : State :=
  let mine (r : RepeatStart) : Option (Stage × Nat) := match (s.deckOf r.epoch).stage stage with
    | some st => if st.trig = 2 then some (st, r.wln + lastRegionLine st.param) else none
    | none => none
  let next := (s.comb.repeats.filter (fun r => decide (getN s.comb.repeatPtr stage 0 ≤ r.n))).dropWhile (fun r => match mine r with
    | some x => s.lineNever r.epoch x.2
    | none => true)
  match next with
  | [] => s
  | r :: _ =>
    match mine r with
    | none => s
    | some (st, y) =>
      if !s.lineReached r.epoch y then s else
      let s1 : State := { s with comb := { s.comb with repeatPtr := setAt s.comb.repeatPtr stage (r.n + 1) } }
      if s.isShed stage r.epoch y then s1 else s1.addTask (mkTask stage st r.epoch y false (.repeats r))

/-- REPEAT_TASK_READY. -/
def execRepeatTaskReady (stage : Nat) (s : State) : Outcome := .next (s.repeatReady stage)

/-- ITEM_TASK_READY (R257, R346): the oldest item whose box with its margin is readable gives its CODE task; with CODE shed it takes NOT_CHECKED,
SHED (R260). A box whose lines will never come is taken too, and its record states EPOCH. -/
def State.itemReady (s : State) : State :=
  match s.print.verify with
  | [] => s
  | i :: rest =>
    match (s.deckOf i.epoch).stageOf 0x20 3 with
    | none => ({ s with print := { s.print with verify := rest } } : State).verifyRecord i { reason := 1 }
    | some (k, st) =>
      let past := s.epochOver i.epoch
      let whole := s.comb.lines.any (fun l => l.epoch == i.epoch && decide (wposDiff l.wpos i.y1 > 0))
      let last : Nat := match s.itemBox i with
        | some b => b.2.1 + fld (wordAt st.param 0) 15 8
        | none => 0
      if !(past || (whole && s.lineReached i.epoch last)) then s else
      let s1 : State := { s with print := { s.print with verify := rest } }
      if s.isShed k i.epoch last then s1.verifyRecord i { reason := 2 }
      else s1.addTask (mkTask k st i.epoch last false (.item i))

/-- ITEM_TASK_READY. -/
def execItemTaskReady (s : State) : Outcome := .next s.itemReady

/-- Camera line at which a head line is sampled (R280), and whether later lines can still be nearer. -/
def State.sampleLine (s : State) (d : Container) (h epoch : Nat) (label : Int) : Option Nat × Bool :=
  let c := label + ((d.hpitch (d.groupLead h) / 131072 : Nat) : Int)
  (nearestLine s.comb.lines epoch c, s.comb.lines.any (fun l => l.epoch == epoch && decide (wposDiff l.wpos c ≥ 0)))

/-- The next window of a stage at a head. -/
def CombState.windowPtr (c : CombState) (stage head : Nat) : WindowPtr :=
  (c.windows.find? (fun w => w.stage == stage && w.head == head)).getD { stage := stage, head := head, epoch := 0, window := 0 }

/-- The next window replaced. -/
def CombState.setWindow (c : CombState) (w : WindowPtr) : CombState :=
  { c with windows := c.windows.filter (fun x => !(x.stage == w.stage && x.head == w.head)) ++ [w] }

/-- The epoch of a head's lines after epoch e. -/
def epochAfterLog (log : List FiredLine) (e : Nat) : Option Nat :=
  let es := log.reverse.map (fun (l : FiredLine) => l.epoch)
  ((if es.contains e then (es.dropWhile (· != e)).filter (· != e) else es)).head?

/-- WINDOW_TASK_READY (R257): a head's next window of WIN lines whose last line is readable gives its task; one unfinished at the end of its
epoch is discarded. -/
def State.windowReady (s : State) (stage head : Nat) : State :=
  let p0 := s.comb.windowPtr stage head
  let log := (s.head head).log
  let win (e : Nat) : Option (Stage × Nat) := match (s.deckOf e).stage stage with
    | some st => if st.trig = 4 && bitAt (wordAt st.param 8) head then some (st, max 1 (fld (wordAt st.param 0) 31 16)) else none
    | none => none
  let lastOf (p : WindowPtr) : Nat := match win p.epoch with
    | some w => (p.window + 1) * w.2 - 1
    | none => 0
  let has (p : WindowPtr) : Option FiredLine := log.find? (fun l => l.epoch == p.epoch && l.k == lastOf p)
  let p : WindowPtr := if (win p0.epoch).isSome && (has p0).isSome then p0 else match epochAfterLog log p0.epoch with
    | some e => { p0 with epoch := e, window := 0 }
    | none => p0
  match win p.epoch, has p with
  | some (st, n), some l =>
    let d := s.deckOf p.epoch
    let smp := s.sampleLine d head p.epoch l.label
    let y := smp.1.getD 0
    let s1 : State := { s with comb := s.comb.setWindow { p with window := p.window + 1 } }
    if !smp.2 && s.epochOver p.epoch then s1
    else if !(smp.2 && s.lineReached p.epoch y) then s
    else
      let used := log.any (fun x => x.epoch == p.epoch && decide (p.window * n ≤ x.k) && decide (x.k < (p.window + 1) * n) && decide (x.fired ≠ 0))
      if !used || s.isShed stage p.epoch y then s1
      else s1.addTask (mkTask stage st p.epoch y false (.window [(head, p.window * n, (p.window + 1) * n - 1)]))
  | _, _ => s

/-- WINDOW_TASK_READY. -/
def execWindowTaskReady (stage head : Nat) (s : State) : Outcome := .next (s.windowReady stage head)

/-- Windows of an EVENT task of ELEM_MAP (R257): for each head mapped, the WIN head lines that end at a camera line. -/
def State.eventWindows (s : State) (d : Container) (st : Stage) (e wln : Nat) : List (Nat × Nat × Nat) :=
  let n := max 1 (fld (wordAt st.param 0) 31 16)
  match s.comb.lines.find? (fun l => l.epoch == e && l.wln == wln) with
  | none => []
  | some m => (bitsSet 8 (wordAt st.param 8)).filterMap (fun h =>
      let half : Int := ((d.hpitch (d.groupLead h) / 131072 : Nat) : Int)
      ((s.head h).log.find? (fun l => l.epoch == e && decide (wposDiff m.wpos (l.label + half) ≥ 0))).map (fun l => (h, l.k + 1 - n, l.k)))

/-- EVENT_TASK (R257, R367): the stage's oldest event becomes a task once the lines that it needs are readable. -/
def State.eventReady (s : State) (stage : Nat) : State :=
  match s.comb.events.find? (fun e => e.stage == stage) with
  | none => s
  | some e =>
    let s1 : State := { s with comb := { s.comb with events := removeFirst (fun (x : StageEvent) => x.stage == stage) s.comb.events } }
    let d := s.deckOf e.epoch
    match d.stage stage with
    | none => s1
    | some st =>
      let r := (s.comb.repeats.filter (fun r => r.epoch == e.epoch && decide (r.wln ≤ e.wln))).getLast?
      let need : Option (Nat × TaskIn) :=
        if st.op = 0x30 then some (e.wln, .window (s.eventWindows d st e.epoch e.wln))
        else r.map (fun r => (r.wln + lastRegionLine st.param, .repeats r))
      match need with
      | none => s1
      | some (y, input) =>
        if s.lineReached e.epoch y then
          (if s.isShed stage e.epoch y then s1 else s1.addTask (mkTask stage st e.epoch y true input))
        else if s.epochOver e.epoch then s1 else s

/-- EVENT_TASK. -/
def execEventTask (stage : Nat) (s : State) : Outcome := .next (s.eventReady stage)

/- Dispatch (R243, R246, R259). -/

/-- Cells that may take a task in its frame, ascending. -/
def State.cellsFor (s : State) (t : Task) : List Nat :=
  match t.frame with
  | none => []
  | some f => (natsFrom 16 (16 * f)).filter (fun c => s.cellUp c && s.cellIdle c && t.avoid != some c)

/-- Does task a go before task b (R259)? -/
def Task.before (a b : Task) : Bool :=
  decide (a.prio < b.prio) || (a.prio == b.prio && (decide (a.epoch < b.epoch) || (a.epoch == b.epoch && (decide (a.wln < b.wln) ||
    (a.wln == b.wln && (decide (a.stage < b.stage) || (a.stage == b.stage && decide (a.id < b.id))))))))

/-- The best of the tasks. -/
def bestTask : List Task → Option Task
  | [] => none
  | t :: r => match bestTask r with
    | none => some t
    | some u => if t.before u then some t else some u

/-- A task in place of the one with its key. -/
def State.setTask (s : State) (t : Task) : State :=
  { s with comb := { s.comb with tasks := s.comb.tasks.map (fun x => if x.id = t.id then t else x) } }

/-- A task leaves. -/
def State.dropTask (s : State) (t : Task) : State := { s with comb := { s.comb with tasks := s.comb.tasks.filter (fun x => x.id != t.id) } }

/-- Result of a task's operator over its inputs, under the parameter half of its epoch in its frame (R243-R245). -/
def State.runTask (s : State) (t : Task) : TaskOut :=
  let d := s.taskDeck t
  match d.stage t.stage with
  | none => .trap
  | some st =>
    let shed (op : Nat) : Bool := match d.chainStage op with
      | some x => s.isShed x.1 t.epoch t.wln
      | none => false
    match t.input with
    | .blob b => s.runBlob d b (shed 0x11) (shed 0x12)
    | .nodes row first n => .nodes (s.runTileReg d st t.epoch row first n)
    | .repeats r => if st.op = 0x02 then s.runMarks d st r else s.runPatches d st r
    | .item i => .code (s.runCode d st i)
    | .window hs => .elems (hs.map (fun (w : Nat × Nat × Nat) =>
        let m := s.mapHead d st w.1 w.2.1 w.2.2 t.epoch
        (w.1, m.1, m.2)))

/-- A task whose frame is not in service, or which no other cell of its frame can re-run, moves to another frame from its source (R246, R248). -/
def State.placeTask (s : State) (t : Task) : Task :=
  let stuck := match t.frame with
    | none => true
    | some f => !s.frameUp f || (t.avoid.isSome && !(natsFrom 16 (16 * f)).any (fun c => s.cellUp c && t.avoid != some c))
  if stuck then
    let others := (upto 16).filter (fun f => s.frameUp f && (t.frame != some f))
    { t with frame := leastFrame s.frameLoad others, avoid := none, out := none }
  else t

/-- TASK_DISPATCH (R259): the best waiting task whose frame has an idle cell runs on the lowest of them. -/
def State.dispatch (s : State) : State :=
  let s0 : State := { s with comb := { s.comb with tasks := s.comb.tasks.map (fun t => if t.cell.isSome then t else s.placeTask t) } }
  match bestTask (s0.comb.tasks.filter (fun t => t.cell.isNone && !(s0.cellsFor t).isEmpty)) with
  | none => s0
  | some t =>
    let s1 := s0.setTask { t with cell := (s0.cellsFor t).head?, out := match t.out with
      | some o => some o
      | none => some (s0.runTask t) }
    { s1 with comb := { s1.comb with
      usedFrames := match t.frame with
        | some f => addKey f s1.comb.usedFrames
        | none => s1.comb.usedFrames
      usedCells := match (s0.cellsFor t).head? with
        | some c => addKey c s1.comb.usedCells
        | none => s1.comb.usedCells } }

/-- TASK_DISPATCH. -/
def execTaskDispatch (s : State) : Outcome := .next s.dispatch

/- Commit (R245, R289, R290, R296, R299). -/

/-- Does a line lie in a hold gap (R290)? -/
def State.inHoldGap (s : State) (e y : Nat) : Bool :=
  s.recs.gaps.any (fun g => g.hold && g.epoch == e && decide (g.y0 ≤ y)) ||
  s.recs.holdGaps.any (fun g => g.1 == e && decide (g.2.1 ≤ y) && decide (y ≤ g.2.2))

/-- A crop block (R299). -/
def cropBytes (b : Descriptor) (crop : List (List (List Nat))) : List Byte :=
  descBytes b ++ leBytes 8 (truncN 64 ((descCy b : Int) - 32)) ++ leBytes 4 (truncN 32 ((descCx b : Int) - 32)) ++ List.replicate 116 0 ++
    (crop.map (fun row => (row.map (fun v => ((upto 3).map (fun p => leBytes 2 (getN v p 0xFFFF))).flatten)).flatten)).flatten

/-- A kept crop takes a slot (R299, R300): its handle, and whether no slot was free. -/
def State.storeCrop (s : State) (b : Descriptor) (crop : Option (List (List (List Nat)))) : Nat × Bool × State :=
  match crop with
  | none => (0, false, s)
  | some k =>
    match s.takeCropSlot (s.deckOf b.epoch).cropReuse with
    | (none, s1) => (0, true, { s1 with recs := { s1.recs with cropFull := satInc s1.recs.cropFull } })
    | (some h, s1) => (h, false, s1.write (s1.cropAddr (h % 65536)) (cropBytes b k))

/-- TYPE of a descriptor's record (R289). -/
def descType (b : Descriptor) : Nat := if descSwarm b then 0x03 else if b.link ≠ 0 then 0x04 else 0x01

/-- Words 0x10-0x3F of a DEFECT, STREAK or SWARM record (R289). -/
def blobWords (b : Descriptor) (r : BlobOut) (handle : Nat) : List Nat :=
  let w := truncN 48 b.wpos
  let t := descType b
  let typed := if t = 0x01 then descCx b % 2 ^ 18 * 2 ^ 12 else if t = 0x04 then min b.segment 0xFFFF * 2 ^ 12 else 0
  [b.y0 % 2 ^ 32, min (b.y1 - b.y0) 0xFFFF * 2 ^ 16 + b.y0 / 2 ^ 32 % 2 ^ 16, w % 2 ^ 32, b.maxD % 2 ^ 16 * 2 ^ 16 + w / 2 ^ 32] ++ lohi b.time ++
  [r.cscore * 2 ^ 24 + r.csrc * 2 ^ 22 + r.cls * 2 ^ 18 + b.x0, r.rule * 2 ^ 25 + r.sev * 2 ^ 22 + b.maxClass * 2 ^ 18 + b.x1, min b.area 0xFFFFFFFF,
   typed + r.actions % 16 * 2 ^ 8 + r.markers,
   (if t = 0x01 then (descCy b - b.y0) % 2 ^ 16 else if t = 0x04 then min (b.y0 - b.linkY0) 0xFFFFFFFF else b.prior),
   (if t = 0x01 then handle else if t = 0x04 then b.link else min (b.y1 - b.y0) 0xFFFFFFFF)]

/-- FLAGS of R290. -/
def State.blobFlags (s : State) (b : Descriptor) (r : BlobOut) (full : Bool) : Nat :=
  b.flags % 2 ^ 12 + r.shed % 4 * 2 ^ 12 + b2n r.nocrop * 2 ^ 14 + b2n b.first * 2 ^ 15 + b2n full * 2 ^ 16 + b2n (s.inHoldGap b.epoch b.y0) * 2 ^ 17

/-- A blob task commits (R272, R289, R304): its record, its event and its marker decisions; the queue entry is released. A crop is kept where
a DEFECT record can carry its handle (DEDUCED, log 42). -/
def State.commitBlob (s : State) (b : Descriptor) (r : BlobOut) : State :=
  let s0 : State := { s with
    seg := { s.seg with queue := s.seg.queue.filter (fun x => !(x.epoch == b.epoch && x.seq == b.seq)) }
    comb := { s.comb with ruleHits := updAt s.comb.ruleHits r.rule satInc } }
  let seq := s0.nextSeq b.epoch (descType b)
  let rec' := bitAt r.actions 0
  let c := if rec' && descType b == 0x01 then s0.storeCrop b r.crop else (0, false, s0)
  let s1 := if rec' then
      c.2.2.post { typ := descType b, epoch := b.epoch, flags := c.2.2.blobFlags b r c.2.1, words := blobWords b r c.1
                   blocks := if c.1 = 0 then [] else [.crop c.1] }
    else s0
  let s1 := if rec' then s1.sendDefect b (descType b) r.cls r.sev r.cscore r.markers seq (s1.wposOf b.epoch (b.y1 + 1) b.wpos) else s1
  let s2 := if bitAt r.actions 3 then s1.publish 0x10 b.wpos else s1
  if bitAt r.actions 2 then s2.decideAll b.epoch (if rec' then seq else 0) b.wpos (s2.wposOf b.epoch (b.y1 + 1) b.wpos) (bitsSet 8 r.markers) else s2

/-- Nodes of a row from its committed parts; none while some are missing. -/
def assembleRow (nx : Nat) (parts : List RowPart) : Option (List (Int × Int × Nat)) :=
  let cells := (upto nx).map (fun i => (parts.find? (fun p => decide (p.first ≤ i) && decide (i < p.first + p.nodes.length))).bind (fun p => p.nodes[i - p.first]?))
  if cells.any (·.isNone) then none else some (cells.filterMap id)

/-- A field task commits (R264): the row commits with its last task, unless the line at which it would take force has passed (R191). -/
def State.commitNodes (s : State) (epoch row first : Nat) (nodes : List (Int × Int × Nat)) : State :=
  let d := s.deckOf epoch
  let parts := s.comb.rowParts ++ [{ epoch := epoch, row := row, first := first, nodes := nodes }]
  let mine := parts.filter (fun p => p.epoch == epoch && p.row == row)
  let more := s.comb.tasks.any (fun t => t.epoch == epoch && (match t.input with
    | .nodes r _ _ => r == row
    | _ => false))
  if more then { s with comb := { s.comb with rowParts := parts } }
  else
    let s1 : State := { s with comb := { s.comb with rowParts := parts.filter (fun p => !(p.epoch == epoch && p.row == row)) } }
    let past : Bool := match s.reg.log with
      | l :: _ => decide (l.1 ≥ (row + 1) * d.fieldLines + d.fieldLag)
      | [] => false
    match assembleRow d.nodes mine with
    | none => s1
    | some r => if epoch ≠ s.reg.epoch ∨ past then s1
      else { s1 with reg := { s1.reg with rows := s1.reg.rows ++ [(row, r)] } }

/-- A MARK or COLOUR record with its block (R296). -/
def State.commitRepeat (s : State) (typ : Nat) (r : RepeatStart) (flag gapped : Bool) (good count : Nat) (block : List Byte) : State :=
  let a := s.allocBlock 7 s.recs.measUsed block.length
  let s1 : State := match a with
    | some b => { s.write b block with recs := { s.recs with measUsed := s.recs.measUsed ++ [(b, block.length)] } }
    | none => s
  s1.post {
    typ := typ, epoch := r.epoch, flags := b2n a.isNone + 2 * b2n flag + 4 * b2n gapped
    words := lohi r.wln ++ [r.ridx, good * 2 ^ 8 + count] ++ lohi (truncN 48 r.wpos) ++ lohi r.time ++ lohi (a.getD 0) ++ [block.length, 0]
    blocks := match a with
      | some b => [.meas b block.length]
      | none => [] }

/-- Block of a MARK record (R296). -/
def markBlock (master : Nat) (l : List MarkOut) : List Byte :=
  (List.zipWith (fun (m : MarkOut) (k : Nat) =>
    wordsBytes [b2n m.found + 2 * b2n (k == master), truncN 32 m.cx, truncN 32 m.cy, truncN 32 m.ex, truncN 32 m.ey, min m.mass 0xFFFFFFFF]) l (upto l.length)).flatten

/-- Block of a COLOUR record (R296). -/
def patchBlock (l : List PatchOut) : List Byte :=
  (l.map (fun p => wordsBytes [truncN 16 p.a * 2 ^ 16 + truncN 16 p.l, min p.de 0xFFFF * 2 ^ 16 + truncN 16 p.b, b2n p.pass + 2 * b2n p.empty, p.pixels])).flatten

/-- A completed task commits (R245). -/
def State.commitTask (s : State) (t : Task) (o : TaskOut) : State :=
  match t.input, o with
  | .blob b, .blob r => s.commitBlob b r
  | .nodes row first _, .nodes l => s.commitNodes t.epoch row first l
  | .repeats r, .marks g l =>
    let master := match (s.deckOf t.epoch).stage t.stage with
      | some st => fld (wordAt st.param 0) 12 8
      | none => 0
    s.commitRepeat 0x05 r (!(getN l master {}).found) g (l.filter (·.found)).length l.length (markBlock master l) |>.sendRegister r master l
  | .repeats r, .patches g l => s.commitRepeat 0x06 r (l.any (fun p => !p.pass)) g (l.filter (·.pass)).length l.length (patchBlock l)
  | .item i, .code c => s.verifyRecord i c
  | .window _, .elems l => s.commitElems t.epoch l
  | _, _ => s

/- Faults of tasks, cells and frames (R246, R248). -/

/-- Line that a task's fault concerns. -/
def State.taskLine (s : State) (t : Task) : Nat × Int :=
  (t.wln, match s.comb.lines.find? (fun l => l.epoch == t.epoch && l.wln == t.wln) with
    | some l => l.wpos
    | none => 0)

/-- SEQ of a task's source: the descriptor's; the row, repeat or item number of the others. -/
def Task.source (t : Task) : Nat := match t.input with
  | .blob b => b.seq
  | .nodes r _ _ => r
  | .repeats r => r.n
  | .item i => i.itemId
  | .window _ => t.wln

/-- A task that faulted three times is dropped (R246, R298): its source entry is released, and an item takes NOT_CHECKED, FAULT. -/
def State.dropFaulted (s : State) (t : Task) (cell code : Nat) : State :=
  let s1 := (s.dropTask t).faultRecord 4 7 cell code 3 0 (s.taskLine t) (t.op * 2 ^ 56 + t.source % 2 ^ 56)
  let s2 : State := { s1 with comb := { s1.comb with dropped := satInc s1.comb.dropped } }
  match t.input with
  | .blob b => { s2 with seg := { s2.seg with queue := s2.seg.queue.filter (fun x => !(x.epoch == b.epoch && x.seq == b.seq)) } }
  | .nodes row _ _ =>
    { s2 with comb := { s2.comb with rowParts := s2.comb.rowParts.filter (fun p => !(p.epoch == t.epoch && p.row == row)) } }
  | .item i => s2.verifyRecord i { reason := 7 }
  | _ => s2

/-- Cells of a frame in service. -/
def State.frameCells (s : State) (f : Nat) : List Nat := (natsFrom 16 (16 * f)).filter (fun c => !s.isRetired 7 c)

/-- Frames with fewer than two cells in service retire (R248). -/
def State.retireFrames (s : State) (code : Nat) : List Nat → State
  | [] => s
  | f :: r => (if s.frameUp f && decide ((s.frameCells f).length < 2) then s.retireNow 8 f code else s).retireFrames code r

/-- Cells out of service, with the cells of frames out of service. -/
def State.cellsOut (s : State) : Nat := ((upto 256).filter (fun c => !s.cellUp c)).length

/-- After a retirement: frames that are left with one cell retire, tasks of cells and frames out of service go back to their sources, and more
than 32 cells out of service are an essential failure (R248, R575). -/
def State.afterRetire (s : State) (code : Nat) : State :=
  let s1 := s.retireFrames code (upto 16)
  let s2 : State := { s1 with comb := { s1.comb with tasks := s1.comb.tasks.map (fun t =>
    match t.cell with
    | some c => if s1.cellUp c then t else { t with cell := none, avoid := none }
    | none => t) } }
  if s2.cellsOut > 32 ∧ !s2.sys.failed then s2.failEssential 0 0 5 else s2

/-- The copy of a parameter set is rewritten from the deck (R239), and PARAM_REWRITE counts it. -/
def State.rewriteParam (s : State) (f epoch : Nat) : State :=
  let s1 := s.write (paramAddr f (s.comb.halfOf epoch)) (s.deckOf epoch).paramSet
  { s1 with comb := { s1.comb with paramRewrite := updAt s1.comb.paramRewrite f satInc } }

/-- One transient occurrence of a running task (R246): against its cell, or against its frame for a frame-store error; the task re-runs on
another cell of the frame, or is dropped at its third fault in a row. A withdrawn task re-runs too, and counts when it is dropped (DEDUCED, log 169). -/
def State.taskFault (s : State) (t : Task) (cell code : Nat) (frameStore : Bool) : State :=
  let f := cell / 16
  let line := s.taskLine t
  let r := if frameStore then s.occur 8 f 1 0 line else s.occur 7 cell code 0 line
  let c := r.2.comb
  let s1 : State := { r.2 with comb :=
    if frameStore then { c with frameFaults := updAt c.frameFaults f satInc, fsEccUnc := updAt c.fsEccUnc f satInc }
    else { c with cellFaults := insertN cell (satInc ((lookupN cell c.cellFaults).getD 0)) c.cellFaults } }
  let s2 := if t.faults ≥ 2 then
      let s3 := s1.dropFaulted t cell code
      if t.withdrawn then { s3 with comb := { s3.comb with withdrawn := satInc s3.comb.withdrawn } } else s3
    else
      let s3 := s1.setTask { t with cell := none, faults := t.faults + 1, avoid := some cell }
      { s3 with comb := { s3.comb with retries := satInc s3.comb.retries } }
  if r.1 then s2.afterRetire (if frameStore then 1 else code) else s2

/-- The task that a cell runs. -/
def State.taskOn (s : State) (cell : Nat) : Option Task := s.comb.tasks.find? (fun t => t.cell == some cell)

/-- TASK_COMPLETE (R245, R247): the task on a cell commits; a withdrawn one is counted and its outputs are discarded; a trap of the operator is a
fault (R246). Without a task nothing happens. -/
def State.taskDone (s : State) (cell : Nat) : State :=
  match s.taskOn cell with
  | none => s
  | some t =>
    match t.out with
    | none => s
    | some .trap => s.taskFault t cell 4 false
    | some o =>
      let s1 := s.dropTask t
      if t.withdrawn then { s1 with comb := { s1.comb with withdrawn := satInc s1.comb.withdrawn } }
      else ({ s1 with comb := { s1.comb with
        tasksDone := insertN cell (satInc ((lookupN cell s1.comb.tasksDone).getD 0)) s1.comb.tasksDone } } : State).commitTask t o

/-- A single-bit error that the ECC corrects (R235, R239): it counts in CM_ECC_CORR of the cell, or in FS_ECC_CORR of its frame. -/
def State.correctedError (s : State) (cell : Nat) (frameStore : Bool) : State :=
  let c := s.comb
  { s with comb :=
    if frameStore then { c with fsEccCorr := updAt c.fsEccCorr (cell / 16) satInc }
    else { c with cmEcc := insertN cell (satInc ((lookupN cell c.cmEcc).getD 0)) c.cmEcc } }

/-- A cell error or watchdog expiry (R246); without a task on the cell nothing happens. -/
def State.cellError (s : State) (cell code : Nat) (frameStore : Bool) : State :=
  match s.taskOn cell with
  | none => s
  | some t => s.taskFault t cell code frameStore

/- Shedding and clocks (R249, R251, R260). -/

/-- Stages that may be shed, with their rank. -/
def Container.sheddable (d : Container) : List (Nat × Nat) :=
  (upto 16).filterMap (fun i => match d.stage i with
    | some st => if st.rank ≠ 0 then some (i, st.rank) else none
    | none => none)

/-- The stage of lowest rank. -/
def lowestRank : List (Nat × Nat) → Option Nat
  | [] => none
  | x :: r => match lowestRank r with
    | none => some x.1
    | some i => if r.all (fun y => decide (x.2 ≤ y.2)) then some x.1 else some i

/-- NOTIFY SHED or UNSHED: stage, and the next line to trigger as the line from which it applies (R251, R297). -/
def State.shedNote (s : State) (code stage : Nat) : State :=
  s.notifyIn s.deck.epoch code stage 0 0 s.pos.wln s.nextWpos s.time

/-- SHED_EVALUATION (R251): the age of the oldest undispatched task of each sheddable stage, in µs, and the busy fraction of the cells. -/
def State.shedEval (s : State) (busyPercent : Nat) (ages : List Nat) : State :=
  let age := maxN ages
  let left := s.camDeck.sheddable.filter (fun x => !s.comb.shed.contains x.1)
  let at' := (s.deck.epoch, s.pos.wln)
  if age > 2000 then
    let s0 : State := { s with comb := { s.comb with calm := 0 } }
    match lowestRank left with
    | none => s0
    | some i =>
      ({ s0 with comb := { s0.comb with
        shed := s0.comb.shed ++ [i], shedSpans := { stage := i, start := at' } :: s0.comb.shedSpans
        sheds := updAt s0.comb.sheds i satInc } } : State).shedNote 0x0006 i
  else if busyPercent < 75 ∧ age < 500 then
    if s.comb.calm + 1 ≥ 10 then
      match s.comb.shed.getLast? with
      | none => { s with comb := { s.comb with calm := 10 } }
      | some i =>
        ({ s with comb := { s.comb with
          calm := 0, shed := s.comb.shed.dropLast
          shedSpans := s.comb.shedSpans.map (fun p => if p.stage = i ∧ p.stop.isNone then { p with stop := some at' } else p) } } : State).shedNote 0x0007 i
    else { s with comb := { s.comb with calm := s.comb.calm + 1 } }
  else { s with comb := { s.comb with calm := 0 } }

/-- SHED_EVALUATION. -/
def execShedEvaluation (busyPercent : Nat) (ages : List Nat) (s : State) : Outcome := .next (s.shedEval busyPercent ages)

/-- Highest frame clock that the derating in force allows (R249, R558). -/
def State.clockLimit (s : State) : Nat := getN [1200, 1000, 800] s.power.derate 600

/-- FRAME_CLOCK_CHANGE (R249): only while no task runs in the frame, to one of the four set points, and never above what derating allows. -/
def execFrameClockChange (frame mhz : Nat) (s : State) : Outcome :=
  if s.comb.tasks.any (fun t => match t.cell with
      | some c => c / 16 == frame
      | none => false) || !([1200, 1000, 800, 600].contains mhz) || decide (mhz > s.clockLimit) then .next s
  else .next { s with comb := { s.comb with clock := setAt s.comb.clock frame mhz } }

/-- Descriptors of epoch e that the Comb has not taken: in the queue, in a swarm that waits, or in a union of the pair seam. -/
def State.blobsPending (s : State) (e : Nat) : Bool :=
  s.seg.queue.any (fun b => b.epoch == e) || s.seg.waiting.any (fun b => b.epoch == e) || s.seg.qswarm.any (fun b => b.epoch == e) ||
  s.vd.unions.any (fun u => u.acc.d.epoch == e) || s.vd.parts.any (fun p => p.2.epoch == e)

/-- Field rows, repeats, items and events of epoch e that will still give tasks (R257). -/
def State.inputsPending (s : State) (e : Nat) : Bool :=
  let d := s.deckOf e
  let row := if s.comb.nextRow.1 = e then s.comb.nextRow.2 else 0
  ((s.comb.nextRow.1 == e || s.epochAfter s.comb.nextRow.1 == some e) && (d.stageOf 0x01 1).isSome &&
    s.lineReached e ((row + 1) * d.fieldLines - 1)) ||
  (upto 16).any (fun i => match d.stage i with
    | some st => st.trig == 2 && s.comb.repeats.any (fun r => r.epoch == e && decide (getN s.comb.repeatPtr i 0 ≤ r.n) &&
        !s.lineNever e (r.wln + lastRegionLine st.param))
    | none => false) ||
  s.print.verify.any (fun i => i.epoch == e) || s.comb.events.any (fun x => x.epoch == e)

/-- Does anything of epoch e still have to commit (R242)? -/
def State.epochPending (s : State) (e : Nat) : Bool :=
  !s.epochOver e || s.comb.tasks.any (fun t => t.epoch == e) || s.blobsPending e || s.inputsPending e || s.seg.epoch == some e ||
  s.span.toCompare.any (fun w => w.slot.epoch == e) || s.cmp.out.any (fun c => c.slot.epoch == e)

/-- Is the half that the staged deck would take still in use by an epoch of a deck before (R242)? -/
def State.oldHalfBusy (s : State) : Bool := s.comb.halves.any (fun h => h.2 != s.comb.half && s.epochPending h.1)

end Sys2Proof.Machine
end

