-- ==== Sys2Proof/Machine/Motion.lean ====
section
/-! DEFINITION. The positioning axes (R526-R534) and the outputs of the monitor converter (R535-R541). -/

namespace Sys2Proof.Machine

/- AXES profile section (R543). -/

/-- EN of axis a. -/
def Container.axisWired (p : Container) (a : Nat) : Bool := p.b 0x8060 0 (16 * a) 31 false
/-- RETAIN of axis a. -/
def Container.retain (p : Container) (a : Nat) : Nat := p.f 0x8060 0 (16 * a) 25 24 1
/-- PHASE_STEPS of axis a. -/
def Container.phaseSteps (p : Container) (a : Nat) : Nat := p.f 0x8060 0 (16 * a) 15 0 1024
/-- VMAX_LIMIT of axis a. -/
def Container.vmaxLimit (p : Container) (a : Nat) : Nat := p.f 0x8060 0 (16 * a + 8) 31 0 4000000

/-- STEP_W of axis a, in ticks. -/
def Container.stepTicks (p : Container) (a : Nat) : Nat := 2 * p.f 0x8060 0 (16 * a + 4) 31 24 10
/-- DIR_SETUP of axis a, in ticks. -/
def Container.dirSetup (p : Container) (a : Nat) : Nat := 200 * p.f 0x8060 0 (16 * a + 4) 23 16 5
/-- EN_SETTLE of axis a, in ticks. -/
def Container.enSettle (p : Container) (a : Nat) : Nat := 200000 * p.f 0x8060 0 (16 * a + 4) 15 8 10
/-- STEP_POL, DIR_POL, EN_POL, HOME_POL of axis a are bits 30 to 27. -/
def Container.axisPol (p : Container) (a k : Nat) : Bool := p.b 0x8060 0 (16 * a) k false

/- MOTION section (R544). -/

/-- VSTART, VMAX, ACCEL, DECEL of profile p. -/
def Container.motionProfile (d : Container) (p : Nat) : Nat × Nat × Nat × Nat :=
  (d.f 0x00A0 0 (16 * p) 31 0 1000, d.f 0x00A0 0 (16 * p + 4) 31 0 100000, d.f 0x00A0 0 (16 * p + 8) 31 0 1000000,
   d.f 0x00A0 0 (16 * p + 12) 31 0 1000000)
/-- AUTO of axis a. -/
def Container.autoAxis (d : Container) (a : Nat) : Bool := d.b 0x00A0 0 (0x100 + 16 * a) 31 false
/-- HOME_DIR of axis a: true = positive. -/
def Container.homeDir (d : Container) (a : Nat) : Bool := d.b 0x00A0 0 (0x100 + 16 * a) 30 false
/-- HOME_PROFILE of axis a. -/
def Container.homeProfile (d : Container) (a : Nat) : Nat := d.f 0x00A0 0 (0x100 + 16 * a) 23 20 0
/-- PRESET_PROFILE of axis a. -/
def Container.presetProfile (d : Container) (a : Nat) : Nat := d.f 0x00A0 0 (0x100 + 16 * a) 19 16 0
/-- HOME_SLOW of axis a. -/
def Container.homeSlow (d : Container) (a : Nat) : Nat := d.f 0x00A0 0 (0x100 + 16 * a) 15 0 1000
/-- HOME_MAX of axis a. -/
def Container.homeMax (d : Container) (a : Nat) : Nat := d.f 0x00A0 0 (0x104 + 16 * a) 31 0 0x7FFFFFFF
/-- HOME_OFFSET of axis a. -/
def Container.homeOffset (d : Container) (a : Nat) : Int := d.sf 0x00A0 0 (0x108 + 16 * a) 31 0 0
/-- PRESET of axis a. -/
def Container.presetPos (d : Container) (a : Nat) : Int := d.sf 0x00A0 0 (0x10C + 16 * a) 31 0 0

/-- The homing fields of axis a. -/
def Container.homePlan (d : Container) (a : Nat) : HomePlan :=
  { max := d.homeMax a, slow := d.homeSlow a, offset := d.homeOffset a, up := d.homeDir a }

/- Axes. -/

/-- Axis a. -/
def State.axis (s : State) (a : Nat) : Axis := getN s.motion.axis a {}

/-- Axis a replaced by its image. -/
def State.updAxis (s : State) (a : Nat) (f : Axis → Axis) : State := { s with motion := { s.motion with axis := updAt s.motion.axis a f } }

/-- Axes that a move steps. -/
def Move.axes (m : Move) : List Nat := m.lead :: m.follow.map (·.1)

/-- Does an axis move? -/
def State.moving (s : State) (a : Nat) : Bool := s.motion.moves.any (fun m => m.axes.contains a)

/-- The move that axis a leads. -/
def State.moveOf (s : State) (a : Nat) : Option Move := s.motion.moves.find? (fun m => m.lead == a)

/-- A move in place of the one of its leading axis. -/
def State.setMove (s : State) (m : Move) : State :=
  { s with motion := { s.motion with moves := s.motion.moves.map (fun x => if x.lead = m.lead then m else x) } }

/-- A step of an axis (R527). -/
def Axis.step (x : Axis) (positive : Bool) : Axis :=
  { x with pos := sext 32 (truncN 32 (if positive then x.pos + 1 else x.pos - 1)), pulses := x.pulses + 1 }

/-- Levels of DIRa and ENa (R526, R543). -/
def State.axisPins (s : State) (a : Nat) : Bool × Bool :=
  let p := s.profile.current
  ((s.axis a).dir != p.axisPol a 29, (s.axis a).en != p.axisPol a 28)

/-- An axis steps (R526, R527). -/
def State.stepAxis (s : State) (a : Nat) (positive : Bool) : State :=
  let p := s.profile.current
  (s.updAxis a (fun x => x.step positive)).emit (.stepPulse a s.now (p.stepTicks a) (p.axisPol a 30))

/-- The tick from which an axis may step (R526): DIR_SETUP after a change of DIR and EN_SETTLE after the latest activation of EN (log 184). -/
def State.startTick (s : State) (a : Nat) (positive : Bool) : Nat :=
  let x := s.axis a
  let p := s.profile.current
  max (s.now + if x.dir = positive then 0 else p.dirSetup a) (x.enAt + p.enSettle a)

/-- A full step counted against 2^10: 200 MHz in units of 2^-10 steps/s (R528). -/
def stepUnit : Nat := 200000000 * 1024

/-- A move of a leading axis under a profile (R528). -/
def State.mkMove (s : State) (kind : MoveKind) (lead : Nat) (delta : Int) (prof : Nat × Nat × Nat × Nat) : Move :=
  let p := s.profile.current
  { kind := kind, lead := lead, base := s.startTick lead (decide (delta ≥ 0)), positive := decide (delta ≥ 0), total := delta.natAbs, rem := some delta.natAbs
    vstart := prof.1, vmax := min 4000000 (min (p.vmaxLimit lead) prof.2.1), acc := prof.2.2.1, dec := prof.2.2.2, v := prof.1 * 1024 }

/-- A move begins; DIR takes its sense. -/
def State.beginMove (s : State) (m : Move) : State :=
  let s1 := s.updAxis m.lead (fun x => { x with dir := m.positive })
  let s2 := m.follow.foldl (fun (s : State) f => s.updAxis f.1 (fun x => { x with dir := f.2.1 })) s1
  { s2 with motion := { s2.motion with moves := s2.motion.moves ++ [m] } }

/-- Are all axes of a mask at rest? -/
def State.allRest (s : State) (mask : Nat) : Bool := (bitsSet 6 mask).all (fun a => !s.moving a)

/-- AXIS_MOVE, AXIS_HOME and the preset complete when their axes are at rest (R420, R534). -/
def State.motionDone (s : State) : State :=
  let s1 := match s.runningCmd 0x0600 with
    | some r => if s.allRest (getN r.args 0 0) then
        s.complete r (if s.motion.moveStopped then .busy else .ok) (if s.motion.moveStopped then 4 else 0) else s
    | none => s
  let s2 := match s1.runningCmd 0x0601 with
    | some r => if s1.allRest (getN r.args 0 0) then
        (if s1.motion.homeFailed then s1.complete r .notFound 0
         else s1.complete r (if s1.motion.homeStopped then .busy else .ok) (if s1.motion.homeStopped then 4 else 0)) else s1
    | none => s1
  match s2.motion.preset with
  | some (started, reached, skipped) =>
    if s2.allRest started then ({ s2 with motion := { s2.motion with preset := none } } : State).notify 0x0600 reached 0 skipped else s2
  | none => s2

/-- A move has ended: reached its target, or stopped. -/
def State.moveEnded (s : State) (m : Move) (reached : Bool) : State :=
  let s1 : State := { s with motion := { s.motion with moves := s.motion.moves.filter (fun x => x.lead != m.lead) } }
  let s2 : State := match m.kind with
    | .move => { s1 with motion := { s1.motion with moveStopped := s1.motion.moveStopped || !reached } }
    | .home n => { s1 with motion := { s1.motion with
        homeStopped := s1.motion.homeStopped || n == 5, homeFailed := s1.motion.homeFailed || n == 3 || n == 6 } }
    | .preset => match s1.motion.preset with
      | some (a, r, k) => { s1 with motion := { s1.motion with
          preset := some (a, (if reached then setBit r m.lead else r), (if reached then k else setBit k m.lead)) } }
      | none => s1
  s2.motionDone

/- The step generator (R528-R531). -/

/-- Velocity after an update (R528). -/
def Move.nextV (m : Move) : Nat :=
  let vv := m.v / 1024
  let brake := m.stopping || (match m.rem with
    | some r => decide ((vv : Int) * vv - (m.vstart : Int) * m.vstart ≥ 2 * m.dec * r)
    | none => false)
  if brake then max (m.vstart * 1024) (m.v - m.dec * 1024 / 1000000) else min (m.vmax * 1024) (m.v + m.acc * 1024 / 1000000)

/-- AXIS_VELOCITY_UPDATE (R528): the rest of the present microsecond passes, and the leading axis takes its next velocity. While a step is still due in
it, or without a move, nothing happens. -/
def execAxisVelocityUpdate (a : Nat) (s : State) : Outcome :=
  match s.moveOf a with
  | none => .next s
  | some m =>
    if m.frac + m.ticks * m.v ≥ stepUnit then .next s
    else .next ((s.advance (m.base + m.ticks)).setMove
      { m with base := m.base + m.ticks, frac := m.frac + m.ticks * m.v, ticks := 200, v := m.nextV })

/-- Steps of the following axes with a step of the leading one (R529). -/
def State.followSteps (s : State) (total : Nat) : List (Nat × Bool × Nat × Nat) → State × List (Nat × Bool × Nat × Nat)
  | [] => (s, [])
  | (a, pos, d, e) :: r =>
    let e1 := e + d
    let go := decide (2 * (e1 : Int) ≥ total)
    let s1 := if go then s.stepAxis a pos else s
    let x := s1.followSteps total r
    (x.1, (a, pos, d, if go then e1 - total else e1) :: x.2)

/-- Step 2 of homing begins (R531): against HOME_DIR at HOME_SLOW, once a step pulse of step 1 has ended. -/
def State.homeBack (s : State) (a used : Nat) (h : HomePlan) : State :=
  let w := h.slow
  s.beginMove { kind := .home 2, lead := a, positive := !h.up, total := 0, rem := none, vstart := w, vmax := w, acc := 0, dec := 0, v := w * 1024, used := used,
                plan := h, base := s.startTick a (!h.up) + if used = 0 then 0 else s.profile.current.stepTicks a }

/-- A move that decelerated has come to rest: homing goes on with step 2 after HOME became active (R531); any other one has ended. -/
def State.moveRest (s : State) (m : Move) : State :=
  if m.kind = .home 4 then
    ({ s with motion := { s.motion with moves := s.motion.moves.filter (fun x => x.lead != m.lead) } } : State).homeBack m.lead m.used m.plan
  else s.moveEnded m false

/-- One step of a move (R528-R531). -/
def State.stepMove (s : State) (m : Move) : State :=
  let s1 := s.stepAxis m.lead m.positive
  let f := s1.followSteps m.total m.follow
  let past : Bool := match m.kind with
    | .home n => (n == 1 || n == 2 || n == 4) && decide (m.used = m.plan.max)
    | _ => false
  let last := m.stopping && decide (m.v ≤ m.vstart * 1024)
  let m1 := { m with follow := f.2, rem := m.rem.map (· - 1), used := m.used + 1 }
  let m2 := if past then { m1 with kind := .home (if m.kind = .home 2 then 6 else 3), stopping := true, failAt := some s.now } else m1
  let s2 := f.1.setMove m2
  if last then s2.moveRest m2
  else if !m.stopping && m2.rem == some 0 then s2.moveEnded m2 true
  else s2

/-- Ticks until the next step of a move, if it comes before the next velocity update (R528). -/
def Move.dueIn (m : Move) : Option Nat :=
  let n := if m.frac ≥ stepUnit then 0 else ceilDiv (stepUnit - m.frac) m.v
  if m.v = 0 ∨ n > m.ticks then none else some n

/-- The move steps n ticks on. -/
def State.takeStep (s : State) (m : Move) (n : Nat) : State :=
  (s.advance (m.base + n)).stepMove { m with base := m.base + n, frac := m.frac + n * m.v - stepUnit, ticks := m.ticks - n }

/-- A step of the present tick that has not been taken yet comes before what else happens in that tick (R530, R531). -/
def State.stepNow (s : State) (m : Move) : State :=
  match m.dueIn with
  | some n => if m.base + n ≤ s.now then s.takeStep m n else s
  | none => s

/-- AXIS_STEP (R528): the accumulator of the leading axis overflows. While it does not overflow before the next velocity update, or without a move,
nothing happens. -/
def execAxisStep (a : Nat) (s : State) : Outcome :=
  match s.moveOf a with
  | none => .next s
  | some m =>
    match m.dueIn with
    | none => .next s
    | some n => .next (s.takeStep m n)

/-- The filtered HOME of an axis moves its homing on (R531); a change in the tick in which HOME_MAX is exceeded is taken (R21). -/
def State.homeChange (s : State) (a : Nat) (level : Bool) : State :=
  match s.moveOf a with
  | none => s
  | some m =>
    let now := m.failAt == some s.now
    if level ∧ (m.kind = .home 1 ∨ (m.kind = .home 3 ∧ now)) then s.setMove { m with kind := .home 4, stopping := true }
    else if !level ∧ (m.kind = .home 2 ∨ (m.kind = .home 6 ∧ now)) then
      (s.updAxis a (fun x => { x with pos := m.plan.offset, homed := true, valid := true })).moveEnded { m with kind := .home 2 } true
    else s

/-- HOME_INPUT_CHANGE (R531): a step of the same tick is counted first. -/
def execHomeInputChange (a : Nat) (level : Bool) (s : State) : Outcome :=
  let s0 := match s.moveOf a with
    | some m => s.stepNow m
    | none => s
  .next ((s0.updAxis a (fun x => { x with home := level })).homeChange a level)

/- Commands (R420, R530-R534). -/

/-- Refusals of AXIS_MOVE and AXIS_HOME (R401, R420). -/
def axesRefuse (code axes : Nat) (interp : Bool) (s : State) : Option Reply :=
  let l := bitsSet 6 axes
  if l.any (fun a => !s.profile.current.axisWired a) then some (.fail .notFound 3)
  else if s.isRunning code || l.any s.moving then some (.fail .busy 5)
  else if interp && decide (l.length > 4) then some (resource 0x0B 0)
  else if l.any (fun a => !(s.axis a).en) then some (badState s 8)
  else none

/-- The axis of largest |Δ|, the lowest number on a tie. -/
def leadAxis : List (Nat × Int) → Option (Nat × Int)
  | [] => none
  | x :: r => match leadAxis r with
    | none => some x
    | some y => if x.2.natAbs ≥ y.2.natAbs then some x else some y

/-- The moves of an AXIS_MOVE (R528, R529). An axis at its target does not move. -/
def State.movesFor (s : State) (l : List (Nat × Int)) (interp : Bool) (prof : Nat × Nat × Nat × Nat) : List Move :=
  let go := l.filter (fun x => x.2 ≠ 0)
  if interp then
    match leadAxis go with
    | none => []
    | some x =>
      [{ s.mkMove .move x.1 x.2 prof with
         base := maxN (go.map (fun y => s.startTick y.1 (decide (y.2 ≥ 0))))
         follow := (go.filter (fun y => y.1 != x.1)).map (fun y => (y.1, decide (y.2 ≥ 0), y.2.natAbs, 0)) }]
  else go.map (fun x => s.mkMove .move x.1 x.2 prof)

/-- Is a motion profile misuse (R542)? -/
def badProfile (p : Nat × Nat × Nat × Nat) : Bool := decide (p.1 > p.2.1) || p.2.1 == 0 || p.2.2.1 == 0 || p.2.2.2 == 0

/-- AXIS_MOVE (R420, R528, R529). -/
def execAxisMove (q : Req) (axes : Nat) (relative interp : Bool) (profile : Nat) (targets : List Int) (s : State) : Outcome :=
  let prof := s.camDeck.motionProfile profile
  let l := (bitsSet 6 axes).map (fun a => (a, if relative then getN targets a 0 else getN targets a 0 - (s.axis a).pos))
  let s1 := (s.movesFor l interp prof).foldl State.beginMove
    (({ s with motion := { s.motion with moveStopped := false } } : State).start 0x0600 q [axes])
  if badProfile prof ∧ (admission s q .ops false).isNone ∧ (axesRefuse 0x0600 axes interp s).isNone then .fault (.misuse 542)
  else runCmd 0x0600 q .ops false (axesRefuse 0x0600 axes interp s) (s1.motionDone, .accepted) s

/-- Homing of one axis begins (R531): step 1 while HOME is inactive, else step 2. -/
def State.beginHome (s : State) (a : Nat) : State :=
  let d := s.camDeck
  if (s.axis a).home then s.homeBack a 0 (d.homePlan a)
  else
    let m := s.mkMove (.home 1) a (if d.homeDir a then 1 else -1) (d.motionProfile (d.homeProfile a))
    s.beginMove { m with rem := none, total := 0, plan := d.homePlan a }

/-- AXIS_HOME (R420, R531). -/
def execAxisHome (q : Req) (axes : Nat) (s : State) : Outcome :=
  let d := s.camDeck
  let l := bitsSet 6 axes
  let bad := l.any (fun a => badProfile (d.motionProfile (d.homeProfile a)) || decide (d.homeSlow a > (d.motionProfile (d.homeProfile a)).1))
  let s1 := l.foldl State.beginHome
    (({ s with motion := { s.motion with homeStopped := false, homeFailed := false } } : State).start 0x0601 q [axes])
  if bad ∧ (admission s q .ops false).isNone ∧ (axesRefuse 0x0601 axes false s).isNone then .fault (.misuse 542)
  else runCmd 0x0601 q .ops false (axesRefuse 0x0601 axes false s) (s1.motionDone, .accepted) s

/-- A move stops with deceleration (R530). -/
def Move.stop (m : Move) : Move :=
  { m with stopping := true, kind := match m.kind with
      | .home n => .home (if n = 3 ∨ n = 6 then n else 5)
      | k => k }

/-- POSITION_VALID and HOMED of axes are cleared. -/
def State.loseAxes (s : State) (l : List Nat) : State := l.foldl (fun (s : State) a => s.updAxis a (fun x => { x with homed := false, valid := false })) s

/-- A move stops at once (R530): above VSTART the position is no longer valid. -/
def State.abruptStop (s : State) (m : Move) : State := (if m.v / 1024 > m.vstart then s.loseAxes m.axes else s).moveEnded m.stop false

/-- Moves whose last step is due in this tick reach their target (R530). -/
def State.lastSteps (s : State) : State :=
  (s.motion.moves.filter (fun m => m.rem == some 1 && !m.stopping)).foldl (fun (s : State) m => s.stepNow m) s

/-- The moves of named axes stop (R530). -/
def State.stopAxes (s0 : State) (axes : Nat) (abrupt : Bool) : State :=
  let s := s0.lastSteps
  let ms := s.motion.moves.filter (fun m => m.axes.any (fun a => bitAt axes a))
  if abrupt then ms.foldl State.abruptStop s else ms.foldl (fun (s : State) m => s.setMove m.stop) s

/-- AXIS_STOP. -/
def execAxisStop (q : Req) (axes : Nat) (abrupt : Bool) (s : State) : Outcome := runCmd 0x0602 q .nb true none (s.stopAxes axes abrupt, {}) s

/-- AXIS_QUERY response (R420). -/
def State.axisBytes (s : State) : List Byte :=
  wordsBytes ((upto 6).map (fun a =>
    let x := s.axis a
    [truncN 32 x.pos, b2n (s.moving a) + 2 * b2n x.homed + 4 * b2n x.en + 8 * b2n x.valid])).flatten

/-- AXIS_QUERY. -/
def execAxisQuery (q : Req) (s : State) : Outcome := runCmd 0x0603 q .nb false none (s, .ok s.axisBytes) s

/-- EN of an axis driven (R532). -/
def State.driveEn (s : State) (a : Nat) (on : Bool) : State :=
  let x := s.axis a
  let n := s.profile.current.phaseSteps a
  if on then s.updAxis a (fun x => { x with en := true, enAt := if x.en then x.enAt else s.now, p0 := match x.p0 with
      | some v => some v
      | none => some (x.pos % (n : Int)).toNat })
  else if !x.en then s
  else
    let keep := match s.profile.current.retain a with
      | 0 => true
      | 2 => decide ((x.pos - (x.p0.getD 0 : Nat)) % (n : Int) = 0)
      | _ => false
    s.updAxis a (fun x => { x with en := false, homed := x.homed && keep, valid := x.valid && keep })

/-- AXIS_ENABLE (R420, R532, R533). -/
def execAxisEnable (q : Req) (axes enable : Nat) (s : State) : Outcome :=
  let l := bitsSet 6 axes
  runCmd 0x0604 q .ops false
    (if s.print.estop then some (badState s 4)
     else if l.any (fun a => !bitAt enable a && s.moving a) then some (.fail .busy 5) else none)
    (l.foldl (fun (s : State) a => s.driveEn a (bitAt enable a && !s.power.brownout)) s, {}) s

/-- ESTOP and SAFE_HOLD at the axes (R533, R553): every axis stops abruptly and every EN goes inactive. -/
def State.dropAxes (s : State) : State := (upto 6).foldl (fun (s : State) a => s.driveEn a false) (s.stopAxes 63 true)

/-- Presets at DECK_ACTIVATE (R534). NOTIFY PRESET_DONE follows where an axis has AUTO = 1. -/
def State.startPresets (s : State) (d : Container) : State :=
  let auto := (upto 6).filter d.autoAxis
  let ok := auto.filter (fun a => (s.axis a).en && (s.axis a).homed && !s.moving a)
  let skip := maskOf (auto.filter (fun a => !ok.contains a))
  let old := s.motion.preset.getD (0, 0, 0)
  let there := maskOf (ok.filter (fun a => d.presetPos a == (s.axis a).pos))
  let go := ok.filter (fun a => d.presetPos a != (s.axis a).pos)
  if auto.isEmpty then s
  else
    let s1 : State := { s with motion := { s.motion with
      preset := some (Nat.lor old.1 (maskOf ok), Nat.lor old.2.1 there, Nat.lor old.2.2 skip) } }
    (go.foldl (fun (s : State) a => s.beginMove (s.mkMove .preset a (d.presetPos a - (s.axis a).pos)
      (d.motionProfile (d.presetProfile a)))) s1).motionDone

/-- HEAD_GATE_ASSERT (R336, R533): a gate input; ESTOP also stops the axes. -/
def execHeadGateAssert (inp : GateInput) (s : State) : Outcome :=
  let s1 := s.gateAssert inp
  .next (if s1.print.estop ∧ !s.print.estop then s1.dropAxes else s1)

/- Monitor converter (R535-R541, R545). -/

/-- PRESET of MONITOR. -/
def Container.monPreset (d : Container) : Nat := d.f 0x00A1 0 0x00 1 0 1
/-- D of MONITOR's preset (R536). -/
def Container.monDecim (d : Container) : Nat := getN [128, 512, 4096] d.monPreset (d.f 0x00A1 0 0x00 31 16 512)
/-- CH_EN of channel k. -/
def Container.monEn (d : Container) (k : Nat) : Bool := d.b 0x00A1 0 0x04 k true
/-- COEF of the 96 taps. -/
def Container.monCoef (d : Container) : List Int := (upto 96).map (fun i => d.sf 0x00A1 0 (0x10 + 4 * i) 23 0 0)

/-- DECK_STAGE loads the stopped bank (R539). -/
def MonitorState.loadBank (m : MonitorState) (d : Container) : MonitorState :=
  let b := 1 - m.bank
  { m with preset := setAt m.preset b d.monPreset, decim := setAt m.decim b d.monDecim
           coef := setAt m.coef b (if d.monPreset = 3 then d.monCoef else []) }

/-- The stopped bank becomes the running one (R540). A change of D clears every state; consumers keep the last VALID outputs. -/
def MonitorState.swapBank (m : MonitorState) : MonitorState :=
  let b := 1 - m.bank
  let m1 := { m with bank := b, swapDue := false }
  if getN m.decim b 0 = getN m.decim m.bank 0 then m1
  else { m1 with chan := m.chan.map (fun c => { c with valid := false, outputs := 0 }) }

/-- The converter restarts with all states cleared (R538). -/
def MonitorState.restart (m : MonitorState) : MonitorState := { m with running := true, chan := List.replicate 32 {} }

/-- One output of a channel (R535, R538, R541). -/
def MonitorState.output (m : MonitorState) (ch code : Nat) (ecc : Bool) : MonitorState :=
  let m1 := { m with
    ecc := if ecc then satInc m.ecc else m.ecc
    chan := updAt m.chan ch (fun c =>
      let n := c.outputs + 1
      if ecc then { c with outputs := n }
      else { code := code % 2 ^ 24, valid := decide (25 ≤ n), outputs := n, last := if 25 ≤ n then some (code % 2 ^ 24) else c.last }) }
  if ch = 0 ∧ m.swapDue then m1.swapBank else m1

/-- MONITOR_OUTPUT (R535): a converter that does not run, or a disabled channel, gives none. -/
def execMonitorOutput (ch code : Nat) (eccError : Bool) (s : State) : Outcome :=
  if s.sys.inReset || !s.mon.running || s.fault.monitorUnusable || decide (ch ≥ 32) || !s.camDeck.monEn ch then .next s
  else
    let n := (getN s.mon.chan ch {}).outputs + 1
    let s1 : State := { s with mon := s.mon.output ch code eccError }
    .next (if !eccError && decide (25 ≤ n) then s1.monitorToPrint ch else s1)

end Sys2Proof.Machine
end

