-- ==== Sys2Proof/Machine/DeckCheck.lean ====
section
/-! DEFINITION. The stage-time checks of a deck (R53, R54, R4, R36, R151, R200, R241, R263, R504, R505) against a profile and behind an ACTIVE
deck. -/

namespace Sys2Proof.Machine

/-- SRC0 and SRC1 of camera c in CORRECTION (R151). -/
def Container.tableSrc (d : Container) (c half : Nat) : Nat := d.f 0x0030 0 (0x10 + 64 * c) (31 - 2 * half) (30 - 2 * half) 2

/-- TOFF0 and TOFF1 of camera c in CORRECTION (R151). -/
def Container.tableOff (d : Container) (c half : Nat) : Nat := d.f 0x0030 0 (0x14 + 64 * c + 4 * half) 31 0 0

/-- The table-extent test of R151: does a camera's embedded table run past TABLE_BYTES? -/
def Container.tableOverrun (d p : Container) : Bool :=
  d.has 0x0030 0 && d.camsOn.any (fun c =>
    (upto (if p.bond c then 2 else 1)).any (fun half =>
      d.tableSrc c half == 1 &&
      decide (d.tableOff c half + d.linePx c / (if p.bond c then 2 else 1) * 16 > d.f 0x0030 0 0x04 31 0 0)))

/-- Web path rate of the part in px/s (R2, R4). -/
def State.partRate (s : State) : Nat := if s.part = 0x2416 then 8000000000 else 16000000000

/-- Camera ports of the part (R2). -/
def State.partPorts (s : State) : Nat := if s.part = 0x2416 then 16 else 24

/-- Bytes of the reference band of a deck (R54). -/
def Container.bandBytes (d : Container) : Nat := if d.refcmp then d.width * (2 * d.bandB) * 3 else 0

/-- Wc × (D + 2) of a deck (R54): the widths of the ports in use sum to the line widths of the cameras. -/
def Container.geometryPx (d : Container) : Nat := sumN (d.camsOn.map d.linePx) * (d.dbuf + 2)

/-- Line-store demand in bytes of deck `d` behind `a` (R54). -/
def Container.lineStore (d a : Container) (behind : Bool) : Nat :=
  (if behind then a.bandBytes else 0) + d.bandBytes + 12 * max (if behind then a.geometryPx else 0) d.geometryPx + 8 * 2 ^ 20

/-- Codec demand of R36 in samples/s, times s². -/
def Container.codecDemand (d : Container) : Nat :=
  d.planes * d.width * d.maxLineRate * ((b2n d.refcmp + b2n d.lookback) * d.ovScale * d.ovScale + b2n d.overview)

/-- n(X) of R505. -/
def Container.refColumns (d : Container) : Nat := if d.refcmp then ceilDiv d.width 256 else 0

/-- L(X) of R505. -/
def Container.ringContexts (d : Container) : Nat :=
  (32 + 416 * d.planes) * (b2n d.lookback * ceilDiv d.width 256 + b2n d.overview * ceilDiv (ceilDiv d.width d.ovScale) 256)

/-- Context demand of R505 in bytes. -/
def Container.contextDemand (d a : Container) (behind : Bool) : Nat :=
  896 * ((if behind then a.refColumns else 0) + d.refColumns) + max (if behind then a.ringContexts else 0) d.ringContexts

/-- Does the profile provide marker m (R53, R311)? No section of the profile enables or omits a marker: the eight marker stations of the part, whose
offsets INSTALL gives, are taken as provided (DESIGN CHOICE, log 148). -/
def Container.markProvided (_p : Container) (m : Nat) : Bool := decide (m < 8)

/-- What a section names that the profile does not provide (R53): the sections are looked at in container order (DEDUCED, log 58). A camera, head,
marker or axis is named by a section that enables it, and a camera by its EXPOSURE section too. Stations are the camera bar, heads and markers of R57. -/
def Container.notProvided (d p : Container) : Option Nat :=
  match d.camsOn.find? (fun c => !p.portsEn c) with
  | some c => some (0x0020 * 256 + c)
  | none =>
  match (upto 24).find? (fun c => d.has 0x0021 c && !p.portsEn c) with
  | some c => some (0x0021 * 256 + c)
  | none =>
  match (upto 8).find? (fun m => d.markEn m && !p.markProvided m) with
  | some _ => some (0x0071 * 256)
  | none =>
  match (upto 8).find? (fun h => d.headEn h && !p.headWired h) with
  | some h => some (0x0080 * 256 + h)
  | none =>
  match (upto 8).find? (fun m => bitAt d.rejMarkers m && !p.markProvided m) with
  | some _ => some (0x0082 * 256)
  | none =>
  match (upto 6).find? (fun a => d.autoAxis a && !p.axisWired a) with
  | some _ => some (0x00A0 * 256)
  | none => none

/-- Ports that a camera uses. -/
def Container.portsOf (p : Container) (c : Nat) : List Nat := if p.bond c then [p.portOf c, p.portOf c + 1] else [p.portOf c]

/-- A used port that the part lacks (R3). -/
def State.lackedPort (s : State) (p : Container) (cams : List Nat) : Option Nat :=
  ((cams.map p.portsOf).flatten).find? (fun x => decide (x ≥ s.partPorts))

/-- Does a deck lack its READY reference object, or does the object's WIDTH differ (R200)? -/
def State.referenceMissing (s : State) (d : Container) : Bool :=
  d.refcmp && (match s.boundSlot d with
    | none => true
    | some k => decide ((s.refSlot k).width ≠ d.width))

/-- The checks of R53 in their order: rate, codec, line store, profile, port, reference, Comb parameters, recipe, codec contexts. `behind` says
whether deck `a` is ACTIVE. The rounding of the RATE and CODEC values is the model's (DESIGN CHOICE, log 61). -/
def State.stageCheck (s : State) (d a : Container) (behind : Bool) (p : Container) : Option Reply :=
  let loads := (d.groupLoads d.lookback d.overview).map (·.1)
  if d.tableOverrun p then some (.fail .deckFormat (formatDetail 0x09 0x0030 0))
  else if d.width * d.maxLineRate > s.partRate then some (resource 0x01 (ceilDiv (d.width * d.maxLineRate) 1000000))
  else if d.codecDemand > 96000000000 * (d.ovScale * d.ovScale) then
    some (resource 0x02 (ceilDiv d.codecDemand (d.ovScale * d.ovScale * 1000000)))
  else if loads.any (fun l => decide (l > 32000000000)) then
    some (resource 0x02 (ceilDiv ((loads.find? (fun l => decide (l > 32000000000))).getD 0) 1000000))
  else if d.lineStore a behind > 96 * 2 ^ 20 - s.fault.lineStoreWithheld * 65536 then some (resource 0x03 (ceilDiv (d.lineStore a behind) 1024))
  else match d.notProvided p with
  | some x => some (resource 0x04 x)
  | none =>
  match s.lackedPort p d.camsOn with
  | some x => some (resource 0x05 x)
  | none =>
  if s.referenceMissing d then some (resource 0x06 (d.refId % 2 ^ 24))
  else if d.paramSet.length > 512 * 1024 then some (resource 0x07 (ceilDiv d.paramSet.length 1024))
  else match d.recipeError with
  | some x => some (resource 0x08 x)
  | none =>
    if d.contextDemand a behind > 1296 * 1024 then some (resource 0x0F (ceilDiv (d.contextDemand a behind) 1024)) else none

/-- The check of a deck behind the deck that is ACTIVE, under the profile in force. -/
def State.stageCheckNow (s : State) (d : Container) : Option Reply :=
  s.stageCheck d (s.activeDeck.getD {}) s.activeDeck.isSome s.profile.current

end Sys2Proof.Machine
end

