-- ==== Sys2Proof/Machine/FieldTable.lean ====
section
/-! DEFINITION. The fields of the deck and profile sections with the values that their tables allow (R15, R46): reserved fields, which are 0, and
fields with a stated range. One row stands for one line of a section's table, repeated where the table repeats it. -/

namespace Sys2Proof.Machine

/-- A field of a section body: bits [hi:lo] of the word at `off`, repeated `n` times at `step` bytes, the values allowed as closed intervals of
the unsigned field, the rule that a breach is misuse under, and the bit that puts the entry to use, where the entry has one: the values of an
entry out of use act on nothing and are not looked at (DEDUCED, log 136). -/
structure FieldRow where
  off : Nat
  hi : Nat
  lo : Nat
  n : Nat
  step : Nat
  ok : List (Nat × Nat)
  rule : Nat
  on : Option (Nat × Nat)
  deriving DecidableEq, Repr, Inhabited

/-- A reserved field (R15). -/
def rsv (off hi lo : Nat) (n : Nat := 1) (step : Nat := 4) : FieldRow :=
  { off := off, hi := hi, lo := lo, n := n, step := step, ok := [(0, 0)], rule := 15, on := none }

/-- A field with a stated range (R46, or the rule of its chapter that names the misuse). -/
def rng (off hi lo a b : Nat) (rule : Nat := 46) (on : Option (Nat × Nat) := none) (n : Nat := 1) (step : Nat := 4) : FieldRow :=
  { off := off, hi := hi, lo := lo, n := n, step := step, ok := [(a, b)], rule := rule, on := on }

/-- A field whose values lie in several intervals. -/
def oneOf (off hi lo : Nat) (ok : List (Nat × Nat)) (rule : Nat := 46) (on : Option (Nat × Nat) := none) (n : Nat := 1) (step : Nat := 4) :
    FieldRow :=
  { off := off, hi := hi, lo := lo, n := n, step := step, ok := ok, rule := rule, on := on }

/-- A field value inside the intervals allowed. -/
def FieldRow.allows (r : FieldRow) (v : Nat) : Bool := r.ok.any (fun p => decide (p.1 ≤ v) && decide (v ≤ p.2))

/-- Does a body break a row in entry i? -/
def FieldRow.breaks (r : FieldRow) (b : List Byte) (i : Nat) : Bool :=
  (match r.on with
    | none => true
    | some (o, bit) => bitAt (wordAt b (o + r.step * i)) bit) &&
  !r.allows (fld (wordAt b (r.off + r.step * i)) r.hi r.lo)

/-- Does a body break a row? -/
def FieldRow.broken (r : FieldRow) (b : List Byte) : Bool := (upto r.n).any (r.breaks b)

/-- The rule of the first row that a body breaks. -/
def rowsMisuse (rows : List FieldRow) (b : List Byte) : Option Nat := (rows.find? (fun r => r.broken b)).map (·.rule)

/- Deck sections. -/

/-- GLOBAL (R55). -/
def rowsGlobal : List FieldRow :=
  [rsv 0x08 31 7, rng 0x0C 31 0 1000 400000, rsv 0x10 31 13, rng 0x10 12 0 64 4096, rsv 0x14 31 8, rng 0x14 7 0 3 4, rsv 0x1C 31 21,
   oneOf 0x1C 20 0 [(0, 0), (256, 1048576)]]

/-- POSITION (R97). -/
def rowsPosition : List FieldRow :=
  [rsv 0x00 31 17, rsv 0x00 15 12, oneOf 0x00 11 8 [(0, 1), (0xF, 0xF)] 97, oneOf 0x00 7 4 [(0, 3), (0xF, 0xF)], rng 0x00 3 0 0 3 97,
   rsv 0x08 31 8, rng 0x0C 15 0 1 65535, rsv 0x10 31 8, rng 0x10 7 0 1 64, rsv 0x14 31 16, rng 0x14 15 0 10 65535, rsv 0x18 31 0 2]

/-- CAMERA (R104, R115, R126, R128). -/
def rowsCamera : List FieldRow :=
  let on := some (0x00, 16)
  [rsv 0x00 31 17, rsv 0x00 14 14, oneOf 0x00 13 8 [(0x24, 0x24), (0x2A, 0x2C), (0x30, 0x32), (0x34, 0x36)] 126 on, rsv 0x00 7 4,
   rsv 0x04 31 15, rng 0x04 14 0 16 16384 126 on, rng 0x08 15 0 1 65535 126 on, rng 0x0C 31 24 1 255 46 on, rsv 0x0C 23 0,
   rng 0x10 31 30 0 2 115 on, rsv 0x10 29 20, rng 0x10 19 0 0 1000000 46 on, rsv 0x14 31 20, rng 0x14 19 0 10 1000000 46 on,
   rsv 0x18 31 20, rng 0x18 19 0 30 1000000 46 on, rsv 0x1C 30 0, rsv 0x20 31 12, rng 0x20 11 10 0 1 46 on, rng 0x20 9 8 0 2 46 on,
   rsv 0x20 7 1, rsv 0x24 31 16, rsv 0x2C 31 6, rng 0x2C 5 0 0 32 126 on, rsv 0x30 31 16 32 8]

/-- EXPOSURE (R173). -/
def rowsExposure : List FieldRow :=
  let boff := [(0, 2047), (0xF800, 0xFFFF)]
  [rsv 0x00 31 8, rng 0x00 7 4 0 8, rsv 0x04 31 20, rng 0x04 19 0 10 1000000, oneOf 0x10 31 16 boff 46 none 2, oneOf 0x10 15 0 boff 46 none 2,
   rsv 0x18 31 0 2, rsv 0x20 31 16 8 8]

/-- CORRECTION (R151); its entries are ranged by the cameras in use. -/
def rowsCorrection : List FieldRow :=
  [rsv 0x00 31 4, rng 0x00 3 0 0 8, rsv 0x08 31 0 2, rsv 0x10 27 20 24 64, rsv 0x10 15 8 24 64, rsv 0x2C 31 16 24 64, rsv 0x34 31 16 24 64] ++
  (upto 6).map (fun j => rsv (0x38 + 4 * j) 31 0 24 64)

/-- GEOMETRY (R152). -/
def rowsGeometry : List FieldRow :=
  [rsv 0x04 31 0 3, rsv 0x10 31 30 24 32, rsv 0x14 31 10 24 32, rsv 0x24 31 0 24 32, rsv 0x28 31 0 24 32, rsv 0x2C 31 0 24 32]

/-- STITCH (R153); its positions are ranged by NCAM. -/
def rowsStitch : List FieldRow :=
  [rsv 0x00 31 5, rng 0x00 4 0 1 24, rsv 0x04 31 17, rng 0x04 16 0 1 98304 150, rsv 0x0C 31 8, rsv 0x10 31 0 4, rsv 0x20 31 29 24 16,
   rsv 0x20 23 17 24 16, rsv 0x24 31 15 24 16, rsv 0x28 31 17 24 16, rsv 0x2C 31 9 24 16]

/-- CALIBRATION (R172, R174). -/
def rowsCalibration : List FieldRow :=
  [rsv 0x00 31 16, rng 0x00 15 8 1 255, rsv 0x00 7 6, rng 0x00 5 4 0 2, rsv 0x04 31 20, rng 0x04 19 0 2500 1000000 172, rsv 0x08 15 12,
   rsv 0x0C 23 12, rsv 0x14 31 16, rsv 0x18 31 28, rsv 0x18 15 4, rng 0x18 3 0 4 12 172, rsv 0x20 23 12, rng 0x20 31 24 1 64 172,
   rsv 0x24 31 0 3, rsv 0x30 23 22 16 8, oneOf 0x30 21 16 [(0, 47), (0x3F, 0x3F)] 46 none 16 8, rsv 0x34 31 28 16 8, rsv 0x34 15 12 16 8,
   rsv 0xB0 29 12 48, rsv 0x170 31 4 24 8, rsv 0x174 31 31 24 8, rsv 0x174 15 15 24 8]

/-- REFERENCE (R203, R204). -/
def rowsReference : List FieldRow :=
  [rsv 0x08 31 24, rng 0x08 23 16 16 128 203, rsv 0x08 15 2, rng 0x08 1 0 0 2 204, rng 0x14 31 16 16 4096, rng 0x14 15 0 64 1024 203,
   rng 0x18 7 0 1 255 203, rng 0x1C 31 24 1 255, rng 0x1C 23 16 1 15 203, rng 0x1C 15 8 1 255, rng 0x1C 7 0 1 255, rng 0x20 31 16 0 120,
   rng 0x24 15 0 1 4096, rsv 0x28 31 24, rng 0x28 15 8 1 255, rng 0x28 7 0 1 16, rsv 0x2C 31 0]

/-- TOLERANCE (R205). -/
def rowsTolerance : List FieldRow :=
  [rsv 0x00 31 5, rsv 0x04 31 0 3, rsv 0x50 30 21 8 16, rsv 0x54 31 17 8 16, rsv 0x58 31 20 8 16, rsv 0x5C 31 20 8 16]

/-- COMPARE (R230, R231). -/
def rowsCompare : List FieldRow := [rsv 0x00 31 2, rng 0x00 1 0 0 2 230, rsv 0x08 31 16, rsv 0x1C 31 16]

/-- SEGMENT (R230, R232). -/
def rowsSegment : List FieldRow :=
  [rng 0x00 31 0 1 0xFFFFFFFF 230, rng 0x04 31 0 1 0xFFFFFFFF, rsv 0x08 31 17, rng 0x08 15 0 256 32768 230, rng 0x0C 31 16 256 65535 230,
   rsv 0x0C 15 0]

/-- RECIPE (R261). -/
def rowsRecipe : List FieldRow := [rsv 0x00 31 5, rsv 0x08 31 0 2, rsv 0x10 11 6 16 16, rsv 0x1C 31 0 16 16]

/-- CLASSIFIER (R281, R283). -/
def rowsClassifier : List FieldRow :=
  [rng 0x00 31 16 0 32768, rng 0x00 15 8 0 128, rng 0x00 7 0 0 31, rsv 0x04 31 14, rng 0x04 13 0 0 8192, rsv 0x08 31 16, rng 0x08 15 8 0 31,
   rsv 0x08 7 1, rsv 0x0C 31 0, rsv 0x10 31 16 128, rsv 0x214 31 6 4 8] ++
  (upto 4).map (fun l => rng (0x214 + 8 * l) 5 0 1 47 283 (some (0x08, 0)) 1)

/-- RECORDS (R309, R310); the nibble of NOTIFY is ignored, and a GAP record goes to ring 2 or 7 or the default. -/
def rowsRecords : List FieldRow :=
  let ring := [(0, 7), (0xF, 0xF)]
  [rsv 0x04 31 16, rsv 0x08 31 2, rsv 0x0C 31 0, oneOf 0x00 7 4 [(2, 2), (7, 7), (0xF, 0xF)] 309] ++
  ([0, 2, 3, 4, 5, 6, 7].map (fun t => oneOf 0x00 (4 * t + 3) (4 * t) ring 309)) ++
  ([0, 2, 3].map (fun t => oneOf 0x04 (4 * t + 3) (4 * t) ring 309))

/-- MARKERS (R309, R311). -/
def rowsMarkers : List FieldRow :=
  [rsv 0x00 31 8, rsv 0x04 31 0 3, rsv 0x10 31 3 8 16, rsv 0x1C 31 24 8 16] ++
  (upto 8).map (fun m => rng (0x10 + 16 * m) 1 0 0 1 309 (some (0, m))) ++
  (upto 8).map (fun m => rng (0x1C + 16 * m) 23 0 1 1000000 309 (some (0, m)))

/-- PRINT (R342, R344); group fields are ranged in the lead's section. -/
def rowsPrint : List FieldRow :=
  let on := some (0x000, 31)
  [rsv 0x000 29 29, rsv 0x000 23 22, rsv 0x000 17 16, rng 0x004 31 16 1000 48000 342 on, rng 0x004 15 0 100 65535 46 on, rsv 0x00C 31 8,
   rsv 0x010 31 18 4, rsv 0x034 31 16, rsv 0x03C 23 16, rsv 0x044 31 8, rsv 0x048 31 16, rsv 0x050 31 16, rsv 0x058 31 9,
   rng 0x058 8 0 0 256 46 on, rsv 0x05C 31 0]

/-- PRINT_SAFETY (R345). -/
def rowsSafety : List FieldRow :=
  [rng 0x04 31 16 1 65535, rsv 0x04 15 0, rsv 0x0C 15 0, rng 0x18 15 0 1 100, rsv 0x24 31 16 4 8,
   oneOf 0x40 31 24 [(0, 47), (0x3F, 0x3F)], oneOf 0x40 23 16 [(0, 63), (0xFF, 0xFF)], rsv 0x44 31 0]

/-- VERIFY (R361, R362). -/
def rowsVerify : List FieldRow :=
  [rng 0x00 31 24 0 40, rsv 0x00 15 4, rng 0x00 3 2 0 2 361, rng 0x00 1 0 0 1 361, rng 0x04 31 24 1 255 361, rng 0x08 31 0 1 0xFFFFFFFF 361,
   rsv 0x10 31 16, rsv 0x14 31 0]

/-- EVENTS (R376, R377). -/
def rowsEvents : List FieldRow :=
  let chan := [(0, 63), (0xFF, 0xFF)]
  [rsv 0x000 31 8, rsv 0x004 31 0 3] ++
  (upto 4).map (fun k => oneOf 0x010 (8 * k + 7) (8 * k) chan 376 none 32) ++
  (upto 4).map (fun k => oneOf 0x090 (8 * k + 7) (8 * k) chan 376 none 89) ++
  [rsv 0x1F4 31 0 3, rsv 0x200 31 16 16 16, rng 0x200 15 0 1 65535 376 none 16 16, rsv 0x204 31 1 16 16, rsv 0x20C 31 0 16 16,
   rng 0x300 31 0 1 0xFFFFFFFF 376 none 8 8, rsv 0x304 31 0 8 8, rsv 0x340 31 24 32, rng 0x340 23 0 1 1000000 376 none 32]

/-- MOTION (R544). -/
def rowsMotion : List FieldRow := [rsv 0x100 29 24 6 16]

/-- MONITOR (R542, R545). -/
def rowsMonitor : List FieldRow :=
  [oneOf 0x00 31 16 [(128, 128), (512, 512), (4096, 4096)] 542, rsv 0x00 15 2, rsv 0x08 31 0 2, rsv 0x10 31 24 96]

/-- CODEC (R524, R525). -/
def rowsCodec : List FieldRow :=
  [rsv 0x00 31 22, rsv 0x00 18 16, rsv 0x00 7 4, rng 0x04 31 16 20 500 524, rng 0x04 15 0 16 65535 524, rsv 0x08 31 0 2, rsv 0x3C 31 0] ++
  (upto 8).map (fun t => rng 0x10 (4 * t + 3) (4 * t) 0 12 524 none 8) ++
  (upto 8).map (fun t => rng 0x30 (4 * t + 3) (4 * t) 0 8 524 none 3)

/-- NETWORK of the deck (R447, R449). -/
def rowsNetDeck : List FieldRow :=
  let port := [(0, 47799), (47801, 65535)]
  [rsv 0x00 31 3, rsv 0x08 31 16, oneOf 0x08 15 0 port 447, rng 0x10 31 16 10 65535, oneOf 0x10 15 0 port 447, rsv 0x18 31 19,
   oneOf 0x18 15 0 port 447, rsv 0x1C 31 0]

/-- FAULT (R590). -/
def rowsFault : List FieldRow := [rsv 0x00 31 0, rng 0x04 31 16 1 65535 46 none 12, rsv 0x04 15 8 12, rsv 0x34 31 0 3]

/- Profile sections. -/

/-- INSTALL (R96). -/
def rowsInstall : List FieldRow :=
  let on := some (0x38, 0)
  [rsv 0x00 31 12, rsv 0x00 7 4, rsv 0x14 31 8 4 8, rsv 0x30 31 18 2, rsv 0x30 13 13 2, rng 0x30 15 14 0 2 96 none 2,
   rng 0x30 17 16 1 3 46 (some (0x30, 14)) 2, rng 0x30 12 0 8 4096 46 (some (0x30, 14)) 2, rng 0x30 12 0 8 4096 46 (some (0x30, 15)) 2,
   rsv 0x38 23 22 2 8, rsv 0x38 15 4 2 8, rng 0x38 31 24 9 255 46 on 2 8, rng 0x38 21 16 8 40 46 on 2 8,
   rng 0x3C 31 24 1 255 46 on 2 8, rng 0x3C 23 16 1 255 46 on 2 8, rng 0x3C 15 0 20 65535 46 on 2 8]

/-- PORTS (R126, R127). -/
def rowsPorts : List FieldRow :=
  let on := some (0x18, 31)
  [rsv 0x18 28 26 24 16, rng 0x18 25 24 0 2 126 on 24 16, rsv 0x18 23 21 24 16, rng 0x18 20 16 0 23 46 on 24 16, rsv 0x18 15 13 24 16,
   rng 0x18 12 8 0 23 46 on 24 16, rsv 0x1C 31 19 24 16, rng 0x1C 18 16 0 5 46 on 24 16, rng 0x1C 15 0 80 6000 46 on 24 16,
   rsv 0x20 31 24 24 16, rsv 0x24 31 0 24 16]

/-- HEADS (R342, R343). -/
def rowsHeads : List FieldRow :=
  let on := some (0x00, 31)
  [rsv 0x00 26 22 8 128, rng 0x00 21 20 0 2 342 on 8 128, rsv 0x00 19 19 8 128, rsv 0x00 15 12 8 128, rng 0x00 11 0 1 2560 342 on 8 128,
   rng 0x04 23 16 1 255 46 on 8 128, rng 0x04 15 8 1 255 46 on 8 128, rng 0x04 7 0 1 255 46 on 8 128, rsv 0x08 15 15 8 128, rsv 0x08 7 0 8 128,
   rsv 0x14 31 16 8 128] ++
  (upto 10).map (fun j => rsv (0x18 + 4 * j) 31 0 8 128)

/-- NETWORK of the profile (R447, R448). -/
def rowsNetProfile : List FieldRow :=
  [rsv 0x00 31 12, rsv 0x00 7 3, rng 0x00 9 8 0 2 447 (some (0x00, 10)), rng 0x00 1 0 0 2 447 (some (0x00, 2)), rsv 0x08 31 16,
   rng 0x10 27 16 1 4094 447 (some (0x10, 28)), rsv 0x10 15 6, rng 0x10 5 0 0 32 447, rng 0x18 31 24 0 127, rsv 0x18 7 5,
   rng 0x18 3 2 0 2 448, rng 0x18 1 0 0 2 448, rng 0x1C 31 16 1 65535, rng 0x1C 15 8 2 255, rsv 0x1C 7 1, rsv 0x2C 31 8, rsv 0x38 31 16,
   rng 0x38 15 0 10 65535, rsv 0x3C 31 16, rsv 0x44 30 6 8 8, rng 0x44 5 0 0 32 447 (some (0x44, 31)) 8 8]

/-- DRAM (R500, R501). -/
def rowsDram : List FieldRow :=
  [rsv 0x00 31 12, rng 0x00 11 8 2 5, rsv 0x00 7 3, rsv 0x08 31 8, rng 0x0C 15 12 0 0 500, rsv 0x10 31 16 12, rng 0x10 3 0 0 0 500 none 12,
   rng 0x1C 15 0 0 0 500]

/-- IO (R608, R610). -/
def rowsIo : List FieldRow :=
  (upto 4).map (fun k => oneOf 0x00 (8 * k + 7) (8 * k) [(0, 31), (0xFF, 0xFF)] 610) ++
  [rsv 0x04 31 0 3, rsv 0x10 27 24 32, rsv 0x10 15 0 32]

/-- AXES (R532, R543). -/
def rowsAxes : List FieldRow :=
  let on := some (0x00, 31)
  [rsv 0x00 26 26 6 16, rng 0x00 25 24 0 2 532 on 6 16, rsv 0x00 23 16 6 16, rng 0x04 31 24 5 100 46 on 6 16, rng 0x04 23 16 1 255 46 on 6 16,
   rng 0x08 31 0 1 4000000 46 on 6 16, rsv 0x0C 31 0 6 16]

/-- SECURITY (R584, R592). -/
def rowsSecurity : List FieldRow :=
  [rsv 0x00 31 18, rsv 0x00 15 1, rsv 0x04 31 16, rsv 0x08 31 0 2] ++ (upto 8).map (fun k => rng 0x04 (2 * k + 1) (2 * k) 0 1 584)

/-- RETIRE (R584, R591). -/
def rowsRetire : List FieldRow := [rsv 0x00 31 7, rng 0x00 6 0 0 64 584, rsv 0x04 31 0 3, rsv 0x10 15 8 64]

/-- The rows of each section. -/
def sectionRows : List (Nat × List FieldRow) :=
  [(0x0001, rowsGlobal), (0x0010, rowsPosition), (0x0020, rowsCamera), (0x0021, rowsExposure), (0x0030, rowsCorrection), (0x0031, rowsGeometry),
   (0x0032, rowsStitch), (0x0040, rowsReference), (0x0041, rowsTolerance), (0x0050, rowsCompare), (0x0051, rowsSegment), (0x0060, rowsRecipe),
   (0x0061, rowsClassifier), (0x0070, rowsRecords), (0x0071, rowsMarkers), (0x0080, rowsPrint), (0x0081, rowsSafety), (0x0082, rowsVerify),
   (0x0090, rowsEvents), (0x00A0, rowsMotion), (0x00A1, rowsMonitor), (0x00B0, rowsCalibration), (0x00C0, rowsCodec), (0x00D0, rowsNetDeck),
   (0x00E0, rowsFault)] ++
  [(0x8001, rowsInstall), (0x8010, rowsPorts), (0x8020, rowsHeads), (0x8030, rowsNetProfile), (0x8040, rowsDram), (0x8050, rowsIo),
   (0x8060, rowsAxes), (0x8070, rowsSecurity), (0x8080, rowsRetire)]

/-- The misuse that the single fields of a container's sections make: the rule of the first row broken, in section order. Sections that REFCMP = 0
sets aside (R204, R231) are not looked at. -/
def Container.rowMisuse (c : Container) : Option Nat :=
  c.sections.findSome? (fun s =>
    if !c.refcmp && (s.id == 0x0040 || s.id == 0x0050) then none
    else rowsMisuse ((lookupN s.id sectionRows).getD []) s.body)

end Sys2Proof.Machine
end

