-- ==== Sys2Proof/Machine/FieldCheck.lean ====
section
/-! DEFINITION. Misuse in the contents of a deck or a profile (R15, R20, R46): the single fields of FieldTable, and the cases that the chapters name
over several fields (R95, R112, R126, R150, R172, R203, R230, R283, R342, R361, R376, R447, R500, R542, R584, R610). The Keeper checks none of them;
the model stops where the deck is staged or the profile loaded (log 136). -/

namespace Sys2Proof.Machine

/-- A case of misuse under a rule. -/
def mis (bad : Bool) (rule : Nat) : Option Nat := if bad then some rule else none

/-- The first case of misuse. -/
def firstMis (l : List (Option Nat)) : Option Nat := l.findSome? id

/-- Does a list name a value twice? -/
def repeats : List Nat → Bool
  | [] => false
  | x :: r => r.contains x || repeats r

/- Profile sections. -/

/-- Is position source k enabled by INSTALL (R95): 0 ENC0, 1 ENC1, 2 SENC0, 3 SENC1? -/
def Container.sourceOn (p : Container) (k : Nat) : Bool := if k < 2 then p.encEn k else p.sencEn (k - 2)

/-- The shortest word of a serial port in ns (R79, R80): one clock for each position bit, and for BiSS-C also nE, nW and the CRC; SSI adds its
recovery time (DEDUCED, log 136). -/
def Container.wordNs (p : Container) (k : Nat) : Nat :=
  let clock := 10 * (p.f 0x8001 0 (0x38 + 8 * k) 31 24 19 + 1)
  if p.sencBiss k then clock * (p.sencBits k + 8) else clock * p.sencBits k + 1000 * p.f 0x8001 0 (0x3C + 8 * k) 23 16 20

/-- POLL of serial port k in ns. -/
def Container.pollNs (p : Container) (k : Nat) : Nat := 100 * p.f 0x8001 0 (0x3C + 8 * k) 15 0 100

/-- The station offsets of INSTALL. -/
def Container.stationOffs (p : Container) : List Int := (upto 2).map p.tthOff ++ (upto 8).map p.headOff ++ (upto 8).map p.markOff

/-- INSTALL (R95). -/
def Container.installMisuse (p : Container) : Option Nat :=
  firstMis
    [mis ((upto 4).any (fun k => p.sourceOn k && p.scale k == 0)) 95,
     mis ((upto 2).any (fun k => p.sencEn k && decide (p.pollNs k < p.wordNs k))) 95,
     mis (p.stationOffs.any (fun o => o != wpos48 o)) 95]

/-- Data lanes in use by a camera: of both ports when bonded. -/
def Container.lanesUsed (p : Container) (c : Nat) : Nat := p.laneCount c * (if p.bond c then 2 else 1)

/-- Does LMAP name a lane outside the port or bonded pair, or one lane twice (R126)? The fields of the lanes in use are looked at: the default of an
unbonded camera names lanes of the next port in the others. -/
def Container.lmapWrong (p : Container) (c : Nat) : Bool :=
  let lanes := (upto (p.lanesUsed c)).map (p.lmap c)
  repeats lanes || (!p.bond c && lanes.any (fun l => decide (l > 3)))

/-- PORTS (R126, R127): the rates of the buses and lanes in use too. -/
def Container.portsMisuse (p : Container) : Option Nat :=
  let on := (upto 24).filter p.portsEn
  let target (c : Nat) : Nat := (p.sensorTarget c).bus * 128 + (p.sensorTarget c).addr
  let bus (c : Nat) : Nat := p.f 0x8010 0 (4 * (p.sensorTarget c).bus) 31 0 (12500 * 2 ^ 16 + 400)
  firstMis
    [mis (repeats (on.map target)) 126,
     mis (on.any (fun c => p.bond c && p.f 0x8010 0 (0x18 + 16 * c) 25 24 2 != 2)) 126,
     mis (on.any p.lmapWrong) 126,
     mis (on.any (fun c => !p.b 0x8010 0 (0x18 + 16 * c) 29 false && decide (p.f 0x8010 0 (0x1C + 16 * c) 15 0 2500 > 4500))) 46,
     mis (on.any (fun c => decide (fld (bus c) 31 16 < 1000) || decide (fld (bus c) 31 16 > 12500))) 46,
     mis (on.any (fun c => !([100, 400, 1000] : List Nat).contains (fld (bus c) 15 0))) 46]

/-- HEADS (R342): the curve of a head with a thermistor rises strictly. -/
def Container.headsMisuse (p : Container) : Option Nat :=
  mis ((upto 8).any (fun h => p.headWired h && !(p.thermistors h).isEmpty &&
    (upto 15).any (fun i => decide (p.curveC h (i + 1) ≤ p.curveC h i)))) 342

/-- NETWORK of the profile (R447): the first octet of the MAC address is bits [47:40]. -/
def Container.networkMisuse (p : Container) : Option Nat :=
  let incr := p.f 0x8030 0 0x28 31 0 0 + 2 ^ 32 * p.f 0x8030 0 0x2C 7 0 4
  firstMis [mis (decide (incr < 0x380000000) || decide (incr > 0x480000000)) 447, mis (bitAt (p.f 0x8030 0 0x08 15 0 0) 8) 447]

/-- DRAM (R500): the rates against the type that the section names. -/
def Container.dramMisuse (p : Container) : Option Nat := mis (p.ratesBad (p.f 0x8040 0 0x00 0 0 1)) 500

/-- IO (R610). -/
def Container.ioMisuse (p : Container) : Option Nat :=
  let gates := ([0, 1, 2].map p.ioPin).filter (· != 0xFF)
  let pwm := p.ioPin 3
  firstMis
    [mis ((gates ++ [pwm]).any (fun n => n != 0xFF && !p.ioEn n)) 610,
     mis (gates.any p.ioOut) 610,
     mis (pwm != 0xFF && !p.ioOut pwm) 610,
     mis (pwm != 0xFF && gates.contains pwm) 610]

/-- AXES (R542). -/
def Container.axesMisuse (p : Container) : Option Nat :=
  mis ((upto 6).any (fun a => p.axisWired a &&
    (decide (p.f 0x8060 0 (16 * a + 4) 31 24 10 * 20 * p.vmaxLimit a > 1000000000) || (p.retain a == 2 && p.phaseSteps a == 0)))) 542

/-- Channels that a block has (R574): 0 for one that RETIRE may not name. -/
def blockInstances : Nat → Nat
  | 0x01 => 24 | 0x02 => 24 | 0x04 => 1 | 0x05 => 1 | 0x06 => 24 | 0x07 => 256 | 0x08 => 16 | 0x09 => 8 | 0x0A => 6 | 0x0B => 9
  | _ => 0

/-- RETIRE (R584). -/
def Container.retireMisuse (p : Container) : Option Nat :=
  mis ((upto (min 64 (p.f 0x8080 0 0x00 6 0 0))).any (fun i =>
    decide (p.f 0x8080 0 (0x10 + 4 * i) 31 16 0 ≥ blockInstances (p.f 0x8080 0 (0x10 + 4 * i) 7 0 0)))) 584

/-- The misuse in a profile. -/
def Container.profileMisuse (p : Container) : Option Nat :=
  firstMis [p.rowMisuse, p.installMisuse, p.portsMisuse, p.headsMisuse, p.networkMisuse, p.dramMisuse, p.ioMisuse, p.axesMisuse, p.retireMisuse]

/- Deck sections. Each case is looked at where the deck holds the section. -/

/-- POSITION against INSTALL (R95). -/
def Container.positionMisuse (d p : Container) : Option Nat :=
  if !d.has 0x0010 0 then none else
  let used := [d.source, d.alt].filter (· < 4)
  firstMis
    [mis (used.any (fun k => !p.sourceOn k)) 95,
     mis (d.refSource < 2 && p.tthMode d.refSource == 0) 95,
     mis (d.pitch == 0) 95,
     mis (used.any (fun k => decide (2 ≤ k) && decide (d.stallUs * 1000 < p.pollNs (k - 2)))) 95]

/-- Bytes of the strip buffers of a strip-held deck (R112): two strips of every camera. -/
def Container.stripBytes (d : Container) : Nat :=
  if d.camsOn.all d.lnum then 0 else sumN (d.camsOn.map (fun c => 2 * d.stripLines * (d.linePx c * dtBits (d.camDt c) / 8)))

/-- CAMERA (R112, R126, R128). `intake` is the size of the intake region, of which the calibration tables take 6 MiB (R492). -/
def Container.cameraMisuse (d p : Container) (intake : Nat) : Option Nat :=
  firstMis
    [mis (d.camsOn.any (fun c => p.bond c && d.linePx c % 2 == 1)) 126,
     mis (d.camsOn.any (fun c => decide (d.fwidth c < d.twidth c + 20))) 46,
     mis (decide (d.stripBytes > 0) && decide (d.stripBytes + 6 * 2 ^ 20 > intake)) 112]

/-- Are reserved bits set in a look-up table word or a table word of a plane (R151)? -/
def tableBits (b : List Byte) (off n : Nat) : Bool :=
  (upto n).any (fun i => fld (wordAt b (off + 4 * i)) 14 12 != 0 || (decide (i % 4 > 0) && bitAt (wordAt b (off + 4 * i)) 15))

/-- CORRECTION of the cameras in use (R150, R151). -/
def Container.correctionMisuse (d p : Container) : Option Nat :=
  match d.sec 0x0030 0 with
  | none => none
  | some b =>
    let luts := fld (wordAt b 0) 3 0
    let halves (c : Nat) : List Nat := upto (if p.bond c then 2 else 1)
    let w (c off : Nat) : Nat := wordAt b (0x10 + 64 * c + off)
    let offWrong (v : Nat) : Bool := decide (4095 < v) && decide (v < 0xF000)
    firstMis
      [mis (wordAt b 4 % 16 != 0) 46,
       mis (d.camsOn.any (fun c => (halves c).any (fun h => d.tableSrc c h == 3))) 150,
       mis (d.camsOn.any (fun c => (halves c).any (fun h => d.tableOff c h % 16 != 0))) 150,
       mis (d.camsOn.any (fun c => fld (w c 0) 7 0 != 0xFF && decide (fld (w c 0) 7 0 + 1 > luts))) 150,
       mis (d.camsOn.any (fun c => fld (w c 0) 19 16 == 0 || decide (fld (w c 0) 19 16 > 8))) 150,
       mis (d.camsOn.any (fun c => offWrong (fld (w c 0x20) 15 0) || offWrong (fld (w c 0x20) 31 16) || offWrong (fld (w c 0x24) 15 0))) 46,
       mis ((upto (0x2000 * luts)).any (fun i => fld (wordAt b (0x610 + 4 * i)) 15 12 != 0 || fld (wordAt b (0x610 + 4 * i)) 31 28 != 0)) 15,
       mis (d.camsOn.any (fun c => (halves c).any (fun h => d.tableSrc c h == 1 &&
         tableBits b (0x610 + 0x8000 * luts + d.tableOff c h) (4 * (d.linePx c / (if p.bond c then 2 else 1)))))) 15]

/-- End of the span of position k. -/
def Container.spanEnd (d : Container) (k : Nat) : Nat := d.x0At k + d.noutAt k

/-- STITCH (R140, R141, R150, R153). -/
def Container.stitchMisuse (d : Container) : Option Nat :=
  match d.sec 0x0032 0 with
  | none => none
  | some b =>
    let n := d.ncam
    let pairs := upto (n - 1)
    let ramp (k : Nat) : Nat := fld (wordAt b (0x2C + 16 * k)) 8 0
    let cams := (upto n).map d.camAt
    firstMis
      [mis ((natsFrom (24 - n) n).any (fun k => (upto 4).any (fun j => wordAt b (0x20 + 16 * k + 4 * j) != 0))) 15,
       mis (cams.any (fun c => decide (c > 23))) 46,
       mis ((upto n).any (fun k => decide (d.noutAt k < 16) || decide (d.noutAt k > 16384))) 150,
       mis (pairs.any (fun k => decide (d.x0At (k + 1) ≤ d.x0At k))) 150,
       mis (d.x0At 0 != 0 || pairs.any (fun k => decide (d.x0At (k + 1) > d.spanEnd k))) 150,
       mis ((upto (n - 2)).any (fun k => decide (d.x0At (k + 2) < d.spanEnd k))) 150,
       mis (d.width != d.spanEnd (n - 1)) 150,
       mis (repeats cams || cams.any (fun c => !d.camEn c)) 150,
       mis (pairs.any (fun k => ramp k % 2 == 1 || decide (ramp k > 256))) 150,
       mis (pairs.any (fun k => decide (ramp k > 0) &&
         (decide (d.seamAt k < d.x0At (k + 1) + ramp k / 2) || decide (d.seamAt k + ramp k / 2 > d.spanEnd k)))) 150]

/-- CALIBRATION (R172). -/
def Container.calibrationMisuse (d : Container) : Option Nat :=
  if !d.has 0x00B0 0 then none else
  let named := ((upto 16).map d.ltdac).filter (· < 48)
  let w (off hi lo : Nat) : Nat := d.f 0x00B0 0 off hi lo 0
  firstMis
    [mis ((upto 48).any (fun t => d.tdacMode t == 2 && !named.contains t)) 172,
     mis (repeats named) 172,
     mis (decide (d.spdTdac < 48) && (d.tdacMode d.spdTdac == 1 || d.tdacMode d.spdTdac == 2)) 172,
     mis (d.camsOn.any (fun c => decide ((d.obRange c).1 ≤ (d.obRange c).2) && decide ((d.obRange c).2 ≥ d.linePx c))) 172,
     mis (decide (w 0x10 15 0 > w 0x10 31 16)) 172,
     mis ((upto 16).any (fun l => decide (d.ltdac l < 48) && decide (w (0x34 + 8 * l) 11 0 > w (0x34 + 8 * l) 27 16))) 172]

/-- REFERENCE and TOLERANCE (R203); `pitch` is PITCH_X and PITCH_Y of the object bound. -/
def Container.referenceMisuse (d : Container) (pitch : Option (Nat × Nat)) : Option Nat :=
  if !d.refcmp then none else
  let rect (q : Nat) : Bool := d.b 0x0041 0 (0x50 + 16 * q) 31 false
  firstMis
    [mis (match pitch with
      | some (x, y) => x != d.pxPitch || y != d.pitch
      | none => false) 203,
     mis (decide (d.acqY + 8 > d.bandB)) 203,
     mis (decide (d.limx > d.acqX)) 203,
     mis ((upto 16).any (fun k => decide (d.soft k > d.hard k))) 203,
     mis ((upto 8).any (fun q => rect q &&
       (decide (d.f 0x0041 0 (0x50 + 16 * q) 16 0 0 > d.f 0x0041 0 (0x54 + 16 * q) 16 0 0) ||
        decide (d.f 0x0041 0 (0x58 + 16 * q) 19 0 0 > d.f 0x0041 0 (0x5C + 16 * q) 19 0 0)))) 203]

/-- COMPARE (R230): no row of the matrix sums to more than 8,192. -/
def Container.compareMisuse (d : Container) : Option Nat :=
  if !d.refcmp then none else
  mis ((upto 3).any (fun r => decide (sumI ((d.matA.drop (3 * r)).take 3) > 8192))) 230

/- Recipe and classifier (R264-R283). -/

/-- The fields of an operator's parameter block (R264, R268, R270, R272, R276, R279, R280). -/
def rowsOp (op n : Nat) : List FieldRow :=
  if op = 0x01 then [rsv 0 31 24, rng 0 15 8 1 64, rsv 0 7 2, rng 0 1 0 0 2, rsv 4 31 0]
  else if op = 0x02 ∨ op = 0x03 then
    [rsv 0 31 13, rsv 0 7 7, rng 0 6 0 1 (if op = 0x02 then 32 else 64), rsv 4 31 0, rsv 0x08 31 17 n 32, rsv 0x0C 31 17 n 32, rsv 0x10 31 20 n 32,
     rsv 0x14 31 20 n 32] ++
    (if op = 0x02 then [rng 0x18 31 30 0 2 46 none n 32, rsv 0x18 29 28 n 32, rsv 0x18 15 0 n 32]
     else [rsv 0 12 8, rsv 0x20 31 8 n 32, rsv 0x24 31 0 n 32])
  else if op = 0x10 then [rsv 0 31 1]
  else if op = 0x12 then [rsv 0 15 0]
  else if op = 0x13 then
    [rsv 0 31 7, rng 0 6 0 0 64, rsv 4 23 23, rsv 4 19 8, rsv 0x08 26 16 n 32, rsv 0x0C 15 8 n 32, rsv 0x18 31 18 n 32, rsv 0x1C 31 18 n 32,
     rsv 0x20 23 8 n 32, rsv 0x20 7 4 n 32, rsv 0x24 31 28 n 32, rsv 0x24 15 12 n 32]
  else if op = 0x20 then [rng 0 31 24 1 20, rng 0 23 16 1 16, rsv 0 7 2, rng 0 1 0 0 2, rsv 4 31 12]
  else if op = 0x30 then [rng 0 31 16 256 65535, rng 0 23 16 0 0 283, rsv 0 15 12, rsv 4 7 2, rng 4 1 0 0 2, rsv 8 31 8, rsv 0x0C 31 0]
  else []

/-- Does region k of a marks or patches block lie outside WIDTH or LINES, or run backwards (R283)? -/
def Container.regionWrong (d : Container) (lines : Option Nat) (b : List Byte) (k : Nat) : Bool :=
  let w (j hi : Nat) : Nat := fld (wordAt b (8 + 32 * k + 4 * j)) hi 0
  decide (w 0 16 > w 1 16) || decide (w 2 19 > w 3 19) || decide (w 1 16 ≥ d.width) ||
  (match lines with
    | some l => decide (w 3 19 ≥ l)
    | none => false)

/-- A stage's parameter block (R283). -/
def Container.stageMisuse (d p : Container) (lines : Option Nat) (st : Stage) : Option Nat :=
  let b := st.param
  let n := fld (wordAt b 0) 6 0
  let marks := st.op == 0x02 || st.op == 0x03
  let rule (k j hi lo : Nat) : Nat := fld (wordAt b (8 + 32 * k + 4 * j)) hi lo
  firstMis
    [rowsMisuse (rowsOp st.op n) b,
     mis (marks && (upto n).any (d.regionWrong lines b)) 283,
     mis (st.op == 0x02 && decide (fld (wordAt b 0) 12 8 ≥ n)) 283,
     mis (st.op == 0x13 && (upto n).any (fun k => bitAt (rule k 0 31 0) 31 &&
       (decide (rule k 4 17 0 > rule k 5 17 0) || decide (rule k 2 31 0 > rule k 3 31 0)))) 283,
     mis (st.op == 0x13 && (bitsSet 8 (fld (wordAt b 4) 31 24)).any (fun m => !p.markProvided m)) 283,
     mis (st.op == 0x13 && (upto n).any (fun k => (bitsSet 8 (rule k 6 31 24)).any (fun m => !p.markProvided m))) 283]

/-- Do two parameter blocks overlap? -/
def blocksOverlap : List Stage → Bool
  | [] => false
  | a :: r => r.any (fun b => decide (a.poff < b.poff + b.param.length) && decide (b.poff < a.poff + a.param.length)) || blocksOverlap r

/-- RECIPE (R261, R283). -/
def Container.recipeMisuse (d p : Container) (lines : Option Nat) : Option Nat :=
  match d.sec 0x0060 0 with
  | none => none
  | some b =>
    let n := min 16 (fld (wordAt b 0) 4 0)
    firstMis
      ([mis (wordAt b 4 % 4 != 0 || d.stages.any (fun st => st.poff % 4 != 0)) 46,
        mis ((natsFrom (16 - n) n).any (fun s => (upto 4).any (fun j => wordAt b (0x10 + 16 * s + 4 * j) != 0))) 15,
        mis (blocksOverlap d.stages) 283] ++ d.stages.map (d.stageMisuse p lines))

/-- The two words of a node of the forest (R281). -/
def classNode (b : List Byte) (i : Nat) : Nat × Nat := (wordAt b (0x230 + 8 * i), wordAt b (0x234 + 8 * i))

/-- Is a node's FEAT, child or leaf outside its table, or a reserved bit of it set (R281, R283)? -/
def nodeMisuse (nodes leaves : Nat) (w : Nat × Nat) : Option Nat :=
  if bitAt w.1 31 then
    firstMis [mis (fld w.1 30 21 != 0 || fld w.1 15 13 != 0 || w.2 != 0) 15, mis (decide (fld w.1 12 0 ≥ leaves)) 283]
  else
    firstMis [mis (fld w.1 30 21 != 0) 15, mis (decide (fld w.1 20 16 > 23)) 283,
      mis (decide (fld w.2 31 16 ≥ nodes) || decide (fld w.2 15 0 ≥ nodes)) 283]

/-- The nodes from which every walk ends within `fuel` steps. -/
def endingNodes (ws : List (Nat × Nat)) : Nat → List Bool
  | 0 => ws.map (fun w => bitAt w.1 31)
  | n + 1 =>
    let ok := endingNodes ws n
    ws.map (fun w => bitAt w.1 31 || (getN ok (fld w.2 31 16) false && getN ok (fld w.2 15 0) false))

/-- CLASSIFIER (R283): indices inside their tables, and no tree with a cycle, that is, every walk from a root ends. -/
def Container.classifierMisuse (d : Container) : Option Nat :=
  match d.sec 0x0061 0 with
  | none => none
  | some b =>
    let ws := (upto d.nNodes).map (classNode b)
    let roots := (upto d.nTrees).map (fun t => fld (wordAt b (0x10 + 4 * t)) 15 0)
    firstMis
      (ws.map (nodeMisuse d.nNodes d.nLeaves) ++
       [mis (roots.any (fun r => decide (r ≥ d.nNodes))) 283,
        mis (roots.any (fun r => !getN (endingNodes ws d.nNodes) r true)) 283])

/- Print (R342, R344, R361). -/

/-- Span of positions of a head in its group (R324). -/
def Container.headSpan (d p : Container) (h : Nat) : Nat × Nat := (d.headG0 h, d.headG0 h + p.elements h)

/-- The overlap of head h with its left neighbour: the head of its group that starts last among those that start before it. -/
def Container.leftOverlap (d p : Container) (h : Nat) : Option Nat :=
  let left := (d.groupHeads p (d.groupLead h)).filter (fun x => decide (d.headG0 x < d.headG0 h))
  let start := maxN (left.map d.headG0)
  (left.find? (fun x => d.headG0 x == start)).map (fun x => (d.headSpan p x).2 - d.headG0 h)

/-- PRINT of head h (R342, R344). -/
def Container.printMisuse (d p : Container) (h : Nat) : Option Nat :=
  if !(d.headEn h && p.headWired h) then none else
  let group := d.groupHeads p (d.groupLead h)
  let lead := d.groupLead h == h
  let covers (x : Nat) : Bool := decide ((d.headSpan p x).1 ≤ d.headG0 h) && decide (d.headG0 h < (d.headSpan p x).2)
  firstMis
    [mis (decide (d.wcap p h < (p.tload h : Nat))) 342,
     mis (!lead && (d.bgLines h != 0 || d.f 0x0080 h 0x054 31 0 0 != 0)) 342,
     mis (lead && d.shiftSrc h == 3) 342,
     mis (lead && (decide (d.fetchLead h < 8) || d.groupW h == 0 || decide (d.groupW h > 20480))) 46,
     mis (lead && d.pair h && d.printEn && group.length != 2) 342,
     mis (!d.pair (d.groupLead h) && (match d.leftOverlap p h with
       | some o => d.ovl h != o
       | none => false)) 342,
     mis (decide ((group.filter covers).length ≥ 3)) 342]

/-- KEYSLOT of the heads in use against PURPOSE (R361, R592). -/
def Container.keyMisuse (d p : Container) : Option Nat :=
  mis (d.has 0x0082 0 && (upto 8).any (fun h => d.headEn h && p.headWired h &&
    p.f 0x8070 0 0x04 (2 * d.keySlot h + 1) (2 * d.keySlot h) 1 != 1)) 361

/- Events, motion and the monitor (R376, R542, R610). -/

/-- Channels that the EVENTS section names for a consumer input. -/
def Container.subNames (d : Container) (i : Nat) : List Nat :=
  ((upto 4).map (fun k => d.f 0x0090 0 (0x90 + 4 * i) (8 * k + 7) (8 * k) 0xFF)).filter (· < 64)

/-- EVENTS against IO (R376, R610). -/
def Container.eventsMisuse (d p : Container) : Option Nat :=
  if !d.has 0x0090 0 then none else
  let out (n : Nat) : Bool := !(d.subNames (0x29 + n)).isEmpty
  firstMis
    [mis ((upto 32).any (fun n => (d.pubChannel (0x20 + n)).isSome && !(p.ioEn n && !p.ioOut n))) 376,
     mis ((upto 32).any (fun n => out n && !(p.ioEn n && p.ioOut n))) 376,
     mis (decide (p.ioPin 3 < 32) && out (p.ioPin 3)) 610]

/-- MOTION (R542). -/
def Container.motionMisuse (d p : Container) : Option Nat :=
  if !d.has 0x00A0 0 then none else
  let w (off : Nat) : Nat := d.f 0x00A0 0 off 31 0 0
  firstMis
    [mis ((upto 16).any (fun k => decide (w (16 * k) > w (16 * k + 4)) || w (16 * k + 4) == 0 || w (16 * k + 8) == 0 || w (16 * k + 12) == 0)) 542,
     mis ((upto 6).any (fun a => p.axisWired a && decide (d.homeSlow a > w (16 * d.homeProfile a)))) 542]

/-- MONITOR (R542): the channels of fitted thermistors and of the supply of each head enabled stay enabled (R317), and custom coefficients sum to
2²² to 2²⁴. -/
def Container.monitorMisuse (d p : Container) : Option Nat :=
  if !d.has 0x00A1 0 then none else
  let need (h : Nat) : List Nat := p.thermistors h ++ [3 * h + 2]
  let total := sumI d.monCoef
  firstMis
    [mis ((upto 8).any (fun h => p.headWired h && (need h).any (fun k => !d.monEn k))) 542,
     mis (d.monPreset == 3 && (decide (total < 2 ^ 22) || decide (total > 2 ^ 24))) 542]

/-- The misuse in a deck under profile `p`, with LINES of a repeat and the pitch of the object bound where they are known, and the intake region's
size. -/
def Container.deckMisuse (d p : Container) (lines : Option Nat) (pitch : Option (Nat × Nat)) (intake : Nat) : Option Nat :=
  firstMis
    ([d.rowMisuse, d.positionMisuse p, d.cameraMisuse p intake, d.correctionMisuse p, mis (d.has 0x0031 0 && d.f 0x0031 0 0 1 0 0 != 0) 46,
      d.stitchMisuse, d.calibrationMisuse, d.referenceMisuse pitch, d.compareMisuse, d.recipeMisuse p lines, d.classifierMisuse] ++
     (upto 8).map (d.printMisuse p) ++ [d.keyMisuse p, d.eventsMisuse p, d.motionMisuse p, d.monitorMisuse p])

/-- The misuse in a deck that is staged under the profile in force. -/
def State.stageMisuse (s : State) (d : Container) : Option Nat :=
  let obj := (s.boundSlot d).map s.refSlot
  let lines := match obj with
    | some o => some o.lines
    | none => if d.repeatLines = 0 then none else some d.repeatLines
  d.deckMisuse s.profile.current lines (obj.map (fun o => (o.pitchX, o.pitchY))) (s.regionSize 10)

end Sys2Proof.Machine
end

