-- ==== Sys2Proof/Machine/Network.lean ====
section
/-! DEFINITION. The network ports and switch (R428-R430), the clock and PTP (R431-R437), peer messages that arrive (R439-R444), and the time
and network commands (R421). -/

namespace Sys2Proof.Machine

/- NETWORK profile section (R448). -/

/-- JUMBO. -/
def Container.jumbo (p : Container) : Bool := p.b 0x8030 0 0x00 11 false
/-- EN of port i. -/
def Container.ethEn (p : Container) (i : Nat) : Bool := p.b 0x8030 0 0x00 (2 + 8 * i) (i == 0)
/-- MODE of port i. -/
def Container.ethMode (p : Container) (i : Nat) : Nat := p.f 0x8030 0 0x00 (1 + 8 * i) (8 * i) 2
/-- MAC; 0 = the fused address. -/
def Container.mac (p : Container) : Nat := p.f 0x8030 0 0x04 31 0 0 + 2 ^ 32 * p.f 0x8030 0 0x08 15 0 0
/-- IPV4. -/
def Container.ipv4 (p : Container) : Nat := p.f 0x8030 0 0x0C 31 0 0
/-- PREFIX of the device's subnet. -/
def Container.ipPrefix (p : Container) : Nat := p.f 0x8030 0 0x10 5 0 24
/-- DOMAIN. -/
def Container.ptpDomain (p : Container) : Nat := p.f 0x8030 0 0x18 31 24 0
/-- PRIORITY1 and PRIORITY2, the device's own data set for BMCA. -/
def Container.ptpOwn (p : Container) : List Nat := [p.f 0x8030 0 0x18 23 16 128, p.f 0x8030 0 0x18 15 8 128]
/-- TC_EN. -/
def Container.tcEn (p : Container) : Bool := p.b 0x8030 0 0x18 4 true
/-- ROLE. -/
def Container.ptpRole (p : Container) : Nat := p.f 0x8030 0 0x18 1 0 0
/-- TRANSPORT. -/
def Container.ptpTransport (p : Container) : Nat := p.f 0x8030 0 0x18 3 2 0
/-- Does the ordinary clock take messages of a transport: over UDP/IPv4, or L2 (R448)? -/
def Container.ptpTakes (p : Container) (udp : Bool) : Bool := p.ptpTransport == 2 || (p.ptpTransport == 1) == udp
/-- LOCK_NS. -/
def Container.lockNs (p : Container) : Nat := p.f 0x8030 0 0x1C 31 16 100
/-- HOST_SERVO. -/
def Container.hostServo (p : Container) : Bool := p.b 0x8030 0 0x1C 0 false
/-- STEP_NS. -/
def Container.stepNs (p : Container) : Nat := p.f 0x8030 0 0x20 31 0 1000000
/-- KI. -/
def Container.servoKi (p : Container) : Nat := p.f 0x8030 0 0x24 31 16 256
/-- KP. -/
def Container.servoKp (p : Container) : Nat := p.f 0x8030 0 0x24 15 0 3072
/-- NOM_INCR. -/
def Container.nomIncr (p : Container) : Nat := p.f 0x8030 0 0x28 31 0 0 + 2 ^ 32 * p.f 0x8030 0 0x2C 7 0 4
/-- EGRESS_LAT of port i. -/
def Container.egressLat (p : Container) (i : Nat) : Nat := p.f 0x8030 0 (0x30 + 4 * i) 31 16 0
/-- INGRESS_LAT of port i. -/
def Container.ingressLat (p : Container) (i : Nat) : Nat := p.f 0x8030 0 (0x30 + 4 * i) 15 0 0
/-- HELLO_S. -/
def Container.helloS (p : Container) : Nat := p.f 0x8030 0 0x3C 15 0 10

/-- Port i of the switch replaced by its image. -/
def State.updPort (s : State) (i : Nat) (f : NetPort → NetPort) : State := { s with net := { s.net with ports := updAt s.net.ports i f } }

/-- The device's own MAC address. -/
def State.ownMac (s : State) : Nat := if s.profile.current.mac = 0 then s.fuse.mac else s.profile.current.mac

/- The switch (R428-R430, R437). -/

/-- Residence time that the transparent clock adds, in 2^-16 ns (R437). -/
def State.residence (s : State) (f : EthFrame) (inPort outPort : Nat) : Nat :=
  let p := s.profile.current
  (f.egressTick - f.ingressTick) * s.net.incr / 65536 + (p.ingressLat inPort + p.egressLat outPort) * 65536

/-- A frame leaves an external port (R429, R437): dropped while its link is down; a PTP event message takes its correction, and over
UDP/IPv4 a checksum of 0. -/
def State.forwardTo (s : State) (inPort : Nat) (f : EthFrame) (outPort : Nat) : State :=
  let p := s.profile.current
  if !(getN s.net.ports outPort {}).link then s.updPort outPort (fun n => { n with drop := satInc n.drop })
  else
    let event := f.ptpEvent == 1 || f.ptpEvent == 2
    let fix := p.tcEn && event && !f.ipv6 && f.domain == p.ptpDomain
    let s1 := s.updPort outPort (fun n => { n with tx := satInc n.tx })
    let s2 : State := { s1 with net := { s1.net with
      tcCorr := if fix then satInc s1.net.tcCorr else s1.net.tcCorr
      tcFwd6 := if f.ipv6 && f.ptpEvent != 0 then satInc s1.net.tcFwd6 else s1.net.tcFwd6 } }
    s2.emit (.ethFrame outPort (if fix then
      { f with correction := f.correction + s.residence f inPort outPort, udpCsumZero := f.udpCsumZero || f.ptpUdp } else f))

/-- An Announce reaches the ordinary clock (R434, R436): the better data set's sender becomes the master. Data sets are compared as IEEE 1588
says (log 17). -/
def State.announced (s : State) (src : Nat) (data : List Nat) : State :=
  let p := s.profile.current
  let n := s.net
  if p.ptpRole = 0 then s
  else if n.master = some src then { s with net := { n with masterData := data } }
  else
    let beats := match n.master with
      | some _ => Config.bmcaBetter data n.masterData
      | none => p.ptpRole != 2 || Config.bmcaBetter data p.ptpOwn
    if beats then { s with net := { n with
      master := some src, masterData := data, mastering := false, locked := false, goodSyncs := 0, delays := [] } }
    else s

/-- A peer message that the receiver does not take counts in PEER_DROP (R443). -/
def State.peerDropped (s : State) : State := { s with net := { s.net with peerDrop := satInc s.net.peerDrop } }

/-- TYPE values of R440. -/
def peerTypes : List Nat := [0x01, 0x02, 0x10, 0x20, 0x30, 0x40, 0x41]

/-- A frame reaches port 2, the device (R430): ARP and echo are answered, a peer message of an unknown TYPE is dropped (R443), an Announce and a
Delay_Resp reach the ordinary clock. Requests to port 47800, HELLO and BULK, and Syncs, arrive by their own rows. -/
def State.deviceFrame (s : State) (f : EthFrame) : State :=
  let p := s.profile.current
  if f.ipOptions then s
  else if f.arpOrEcho then
    (if p.ipv4 = 0 then s else s.sendOwn (.ownFrame (Config.frameBytes (1 :: f.src :: f.payload.map (·.toNat))) s.ownTag))
  else if f.udpPort = 47801 ∧ p.ipv4 ≠ 0 ∧ !peerTypes.contains (leAt f.payload 4 1) then s.peerDropped
  else if f.ptpAnnounce && f.domain == p.ptpDomain && p.ptpTakes f.ptpUdp then s.announced f.src f.announce
  else match (if p.ptpTakes f.ptpUdp then f.delayRespNs else none) with
    | some x => if s.net.delayReqOut then
        { s with net := { s.net with delayReqOut := false, delays := (x :: s.net.delays).take 8 } } else s
    | none => s

/-- Source addresses learned into the table of 1,024 entries (R429); a new address finds no entry in a full table (DESIGN CHOICE, log 50). -/
def learnMac (t : List (Nat × Nat)) (mac port : Nat) : List (Nat × Nat) :=
  if (lookupN mac t).isSome then insertN mac port t else if t.length < 1024 then t ++ [(mac, port)] else t

/-- Ports that a frame from a port goes to (R429): 2 is the device. -/
def State.routes (s : State) (port : Nat) (f : EthFrame) : List Nat :=
  let others := [0, 1, 2].filter (· != port)
  if f.multicast then others
  else if f.dst = s.ownMac then [2]
  else match lookupN f.dst s.net.macTable with
    | some o => if o = port then [] else [o]
    | none => others

/-- A good frame is switched. -/
def State.switchFrame (s : State) (port : Nat) (f : EthFrame) : State :=
  let s1 : State := { s with net := { s.net with macTable := learnMac s.net.macTable f.src port } }
  (s1.routes port f).foldl (fun (s : State) o => if o = 2 then s.deviceFrame f else s.forwardTo port f o) s1

/-- ETH_FRAME_RX (R428, R429, R445). A frame outside the length limits is a bad frame (DEDUCED, log 176); one that finds no space in the switch
buffers counts in DROP, and one that an uncorrectable error of the buffers hits in NET_ECC. -/
def execEthFrameRx (port : Nat) (f : EthFrame) (s : State) : Outcome :=
  let p := s.profile.current
  if port > 1 ∨ s.fault.netUnusable then .next s
  else if !s.net.switchUp || !(getN s.net.ports port {}).link then .next (s.updPort port (fun n => { n with drop := satInc n.drop }))
  else if !f.fcsOk ∨ f.len < 64 ∨ f.len > (if p.jumbo then 9022 else 1522) then .next (s.updPort port (fun n => { n with fcs := satInc n.fcs }))
  else
    let s1 := s.updPort port (fun n => { n with rx := satInc n.rx })
    if f.pause then .next (s1.updPort port (fun n => { n with pause := satInc n.pause }))
    else if f.src = s.ownMac then .next (s1.updPort port (fun n => { n with loopsrc := satInc n.loopsrc }))
    else if f.noSpace then .next (s1.updPort port (fun n => { n with drop := satInc n.drop }))
    else if f.bufferError then .next { s1 with net := { s1.net with netEcc := satInc s1.net.netEcc } }
    else .next (s1.switchFrame port f)

/-- MAC_AGEING (R429, R445): an entry goes by its age, or by an uncorrectable error, which counts in NET_ECC. -/
def execMacAgeing (mac : Nat) (s : State) (eccError : Bool := false) : Outcome :=
  .next { s with net := { s.net with
    macTable := eraseN mac s.net.macTable, netEcc := if eccError then satInc s.net.netEcc else s.net.netEcc } }

/-- ETH_LINK_CHANGE (R428): the link of a port goes up, where the profile enables it, or down. -/
def execEthLinkChange (port : Nat) (up : Bool) (s : State) : Outcome :=
  .next (s.updPort port (fun n => { n with link := up && s.profile.current.ethEn port }))

/-- A profile takes effect at the network (R445): links retrain, the table is cleared, PTP_LOCKED clears; the switch forwards from here on (R429). -/
def NetState.profileTakes (n : NetState) : NetState :=
  { n with ports := n.ports.map (fun p => { p with link := false }), macTable := [], locked := false, goodSyncs := 0, switchUp := true }

/- PTP (R434-R436). -/

/-- The clock stepped by signed nanoseconds (R433); it is set from then on. -/
def NetState.stepClock (n : NetState) (ns : Int) : NetState := { n with clock := truncN 96 ((n.clock : Int) + ns * 2 ^ 32), set := true }

/-- Does the firmware servo steer the clock (R421, R435)? -/
def State.servoActive (s : State) : Bool :=
  !s.profile.current.hostServo && s.profile.current.ptpRole != 0 && s.net.master.isSome && !s.net.mastering

/-- Mean of the last delay measurements (R435), rounded down (DESIGN CHOICE, log 51). -/
def meanDelay (l : List Int) : Int := sumI l / (max 1 l.length : Nat)

/-- The servo and the lock after an offset o (R435, R436). -/
def State.servo (s : State) (o : Int) : State :=
  let p := s.profile.current
  let n0 := { s.net with offset := o }
  let on := s.servoActive
  let step := on && decide (o.natAbs ≥ p.stepNs)
  let acc := clampI (-2147483648) 2147483647 (n0.acc + o)
  let incr := clampI 0x380000000 0x480000000 ((p.nomIncr : Int) - (p.servoKp * o + p.servoKi * acc) / 256)
  let n1 : NetState := if step then { (n0.stepClock (-o)) with acc := 0, steps := satInc n0.steps }
    else if on then { n0 with acc := acc, incr := incr.toNat } else n0
  let good := if o.natAbs < p.lockNs then n1.goodSyncs + 1 else 0
  { s with net :=
    if step then { n1 with locked := false, goodSyncs := 0 }
    else { n1 with
      goodSyncs := min good 8
      locked := if o.natAbs ≥ 4 * p.lockNs then false else n1.locked || decide (good ≥ 8) } }

/-- PTP_SYNC (R435): a Sync from the master that the device follows, at the internal ingress timestamp of its port. Before any delay measurement
the mean path delay has no stated value (free, log 3). -/
def execPtpSync (port : Nat) (masterNs : Int) (fromMaster : Nat) (s : State) (udp : Bool := false) : Outcome :=
  if s.net.master ≠ some fromMaster ∨ !s.profile.current.ptpTakes udp ∨ s.net.mastering ∨ s.profile.current.ptpRole = 0 ∨ s.fault.netUnusable then .next s
  else
    let none' := s.net.delays.isEmpty
    let path := if none' then Config.freeInt s.free else meanDelay s.net.delays
    let slave : Int := (s.net.clock / 2 ^ 32 : Nat) - (s.profile.current.ingressLat port : Nat)
    let s1 := s.servo (slave - masterNs - path)
    .next (if none' then s1.drawn else s1)

/-- PTP_ANNOUNCE_TIMEOUT (R436): the lock clears; with ROLE 2 the device masters (R434). `arrival` says that a Sync or an Announce of the master falls in the same Keeper
cycle, whichever of the two commands stands first: then the arrival wins and the lock holds (R21). -/
def execPtpAnnounceTimeout (s : State) (arrival : Bool := false) : Outcome :=
  if arrival then .next s else
  .next { s with net := { s.net with
    master := none, masterData := [], locked := false, goodSyncs := 0, mastering := s.profile.current.ptpRole == 2 } }

/-- PTP_SYNC_SEND (R434): the ordinary clock that masters sends a one-step Sync. -/
def execPtpSyncSend (s : State) : Outcome :=
  .next (if s.net.mastering && s.profile.current.ptpRole == 2 then s.sendOwn (.ownFrame (Config.frameBytes [2, s.time, s.profile.current.ptpTransport]) s.ownTag) else s)

/-- PTP_DELAY_REQ_SEND (R434, R435): a slave measures the path delay. -/
def execPtpDelayReqSend (s : State) : Outcome :=
  .next (if s.net.master.isSome && !s.net.mastering && s.profile.current.ptpRole != 0 then
      ({ s with net := { s.net with delayReqOut := true } } : State).sendOwn (.ownFrame (Config.frameBytes [3, s.time, s.profile.current.ptpTransport]) s.ownTag)
    else s)

/- Peer messages (R439-R444). -/

/-- HIF_VERSION of this issue, 1.0 (R381). -/
def hifVersion : Nat := 0x01000000

/-- Link protocol version 1.0: major in [15:8], minor in [7:0] (R441, R455). -/
def viaductVersion : Nat := 0x0100

/-- A HELLO message (R441). -/
def State.sendHello (s : State) (addr : Nat) (reply : Bool) : State :=
  s.sendPeer 0x01 addr 47801 (wordsBytes
    [hifVersion, s.sys.fwVersion, s.sys.mode.code + viaductVersion * 2 ^ 16, s.deck.epoch, s.camDeck.jobId, b2n reply])

/-- HELLO (R440, R443, R444): the declared versions are kept, and a HELLO that is no reply is answered. -/
def execHello (srcAddr pmajor pminor len hifVersion : Nat) (reply : Bool) (s : State) : Outcome :=
  if s.profile.current.ipv4 = 0 ∨ s.fault.netUnusable then .next s
  else if pmajor > 1 ∨ len < 24 then .next s.peerDropped
  else
    let h : HelloInfo := { addr := srcAddr, pmajor := pmajor, pminor := pminor, hifVersion := hifVersion }
    let s1 : State := { s with net := { s.net with hellos := h :: s.net.hellos.filter (fun x => x.addr != srcAddr) } }
    .next (if reply then s1 else s1.sendHello srcAddr true)

/-- HELLO_TIMER (R440): HELLO to the subnet's broadcast address. -/
def execHelloTimer (s : State) : Outcome :=
  let p := s.profile.current
  let host := 2 ^ (32 - min 32 p.ipPrefix)
  .next (if p.helloS = 0 then s else s.sendHello (p.ipv4 / host * host + (host - 1)) false)

/-- The reservation that a BULK names: address, length, and whether its state takes data (R442). -/
def State.bulkTarget (s : State) (handle kind : Nat) : Option (Nat × Nat × Bool) :=
  if kind = 0 then
    match (s.reg.slots.zip (upto 8)).find? (fun x => x.1.st != .free && x.1.gen * 2 ^ 16 + x.2 == handle) with
    | some x => some (x.1.addr, x.1.len, x.1.st == .allocated || x.1.st == .failed)
    | none => none
  else (s.dram.hostBlocks.find? (fun b => b.1 == handle)).map (fun b => (b.2.1, b.2.2, true))

/-- BULK (R442, R443): data into a reservation, acknowledged. A message of a major above the device's own, or shorter than its layout, is dropped. -/
def execBulk (srcAddr srcPort handle kind offset : Nat) (data : List Byte) (s : State) (pmajor : Nat := 1) (short : Bool := false) : Outcome :=
  let p := s.profile.current
  if p.ipv4 = 0 ∨ s.fault.netUnusable then .next s
  else if !p.allows srcAddr then .next { s with net := { s.net with deniedSrc := satInc s.net.deniedSrc } }
  else if pmajor > 1 ∨ short then .next s.peerDropped
  else
    let n := data.length
    let r : Status × State := match s.bulkTarget handle kind with
      | none => (.notFound, s)
      | some (a, len, ok) =>
        if n % 4 ≠ 0 ∨ n > (if p.jumbo then 8192 else 1408) ∨ offset + n > len then (.badLength, s)
        else if !ok then (.badState, s)
        else (.ok, s.write (a + offset) data)
    let s1 : State := if r.1 = .ok then r.2 else { r.2 with net := { r.2.net with bulkReject := satInc r.2.net.bulkReject } }
    .next (s1.sendPeer 0x41 srcAddr srcPort (wordsBytes ([handle, r.1.code] ++ lohi offset ++ [n, 0])))

/- Commands (R421). -/

/-- TIME_QUERY. -/
def execTimeQuery (q : Req) (s : State) : Outcome :=
  runCmd 0x0700 q .nb false none (s, .ok (wordsBytes (lohi s.time ++ lohi s.net.incr ++
    [b2n s.net.set + 2 * b2n s.net.locked + 4 * b2n s.profile.current.hostServo, 0] ++ lohiS s.net.offset))) s

/-- TIME_SET: the fraction starts at 0 (DESIGN CHOICE, log 51). -/
def execTimeSet (q : Req) (time : Nat) (s : State) : Outcome :=
  runCmd 0x0701 q .ops false (if s.servoActive then some (badState s 5) else none)
    ({ s with net := { s.net with clock := time % 2 ^ 64 * 2 ^ 32, set := true } }, {}) s

/-- TIME_ADJUST (R433). An INCR outside its range is a case of misuse (R431; DEDUCED, log 177). -/
def execTimeAdjust (q : Req) (step : Int) (incr : Nat) (applyStep applyIncr : Bool) (s : State) : Outcome :=
  let n := if applyStep then s.net.stepClock step else s.net
  if (admission s q .ops false).isNone && !s.servoActive && applyIncr && (decide (incr < 0x380000000) || decide (incr > 0x480000000)) then
    .fault (.misuse 431)
  else runCmd 0x0702 q .ops false (if s.servoActive then some (badState s 5) else none)
    ({ s with net := if applyIncr then { n with incr := incr % 2 ^ 40 } else n }, {}) s

/-- NET_QUERY. -/
def execNetQuery (q : Req) (s : State) : Outcome :=
  runCmd 0x0703 q .nb false none (s, .ok (((upto 2).map (fun i =>
    let n := getN s.net.ports i {}
    wordsBytes [s.profile.current.ethMode i + 4 * b2n n.link, n.rx, n.tx, n.drop, 0, 0, 0, 0])).flatten)) s

end Sys2Proof.Machine
end

