-- ==== Sys2Proof/Machine/Refs.lean ====
section
/-! DEFINITION. Reference slots and learning (R180-R185, R412, R413, R513): the REF_ commands, the commit pass, and the encoding of a learned
object. -/

namespace Sys2Proof.Machine

/-- LEARN_NEAR. -/
def Container.learnNear (d : Container) : Nat := d.f 0x00C0 0 0x00 15 12 1
/-- LEARN_K where LEARN_STATIC is 1. -/
def Container.learnTable (d : Container) : Option Nat :=
  if d.b 0x00C0 0 0x00 21 false then some (d.le 0x00C0 0 0x30 12 0x222222222222222222222222) else none

/-- The generation after this one: never 0 (R49). -/
def nextGen (g : Nat) : Nat := if g ≥ 0xFFFF then 1 else g + 1

/-- Handle of a reference slot (R49, R180). -/
def State.refHandle (s : State) (k : Nat) : Nat := (s.refSlot k).gen * 2 ^ 16 + k

/-- The slot that a handle names, if it holds an object (R49, R180). -/
def State.refOf (s : State) (handle : Nat) : Option Nat :=
  (upto 8).find? (fun k => (s.refSlot k).st != .free && s.refHandle k == handle)

/-- The lowest free reference slot. -/
def State.freeRef (s : State) : Option Nat := (upto 8).find? (fun k => (s.refSlot k).st == .free)

/-- Blocks of the reference region in use. -/
def State.refUsed (s : State) : List (Nat × Nat) :=
  (s.reg.slots.filter (fun o => o.st != .free && o.len != 0)).map (fun o => (o.addr, o.len))

/-- The largest run of free bytes of [base, base + size) beside the blocks in use. -/
def largestFree (used : List (Nat × Nat)) (base size : Nat) : Nat :=
  maxN ((base :: used.map (fun u => u.1 + u.2)).map (fun a =>
    if used.any (fun u => decide (u.1 ≤ a) && decide (a < u.1 + u.2)) then 0
    else (used.filter (fun u => decide (u.1 ≥ a))).foldl (fun m u => min m (u.1 - a)) (base + size - a)))

/-- RESOURCE 0x0A REGION with the largest free block of a region in MiB (R401). -/
def State.regionFull (s : State) (region : Nat) (used : List (Nat × Nat)) : Reply :=
  resource 0x0A (largestFree used (s.regionBase region) (s.regionSize region) / 2 ^ 20)

/-- REF_ALLOC (R180): a free slot and LENGTH contiguous bytes of the reference region. -/
def execRefAlloc (q : Req) (len : Nat) (s : State) : Outcome :=
  let addr := s.allocBlock 2 s.refUsed len
  let k := s.freeRef.getD 0
  let refuse := if s.freeRef.isNone then some (resource 0x09 8)
    else if addr.isNone then some (s.regionFull 2 s.refUsed) else none
  let s1 := s.updRef k (fun o => { gen := nextGen o.gen, st := .allocated, addr := addr.getD 0, len := len })
  runCmd 0x0200 q .op false refuse (s1, .ok (wordsBytes ([s1.refHandle k, 0] ++ lohi (addr.getD 0)))) s

/-- How REF_COMMIT refuses a slot by its state (R181). -/
def commitRefusal (s : State) (k : Nat) : Option Reply :=
  match (s.refSlot k).st with
  | .checking => some (.fail .busy 5)
  | .learning => some (.fail .busy 8)
  | .ready => some (badState s 0x0A)
  | _ => busyIfRunning s 0x0201

/-- REF_COMMIT (R181): the slot is CHECKING until the commit pass ends. -/
def execRefCommit (q : Req) (handle : Nat) (s : State) : Outcome :=
  let refuse := match s.refOf handle with
    | none => some (.fail .notFound 0)
    | some k => commitRefusal s k
  let k := (s.refOf handle).getD 0
  runCmd 0x0201 q .op false refuse
    ((s.updRef k (fun o => { o with st := .checking })).start 0x0201 q [k], .accepted) s

/-- NOTIFY REF_READY of a slot (R181, R297). -/
def State.refReady (s : State) (k : Nat) : State :=
  s.notify 0x0200 (s.refHandle k) ((s.refSlot k).refRev * 2 ^ 32 + (s.refSlot k).refId) 0

/-- NOTIFY REF_FAILED of a handle with a status and DETAIL (R181, R297, R413). -/
def State.refFailed (s : State) (handle : Nat) (st : Status) (detail : Nat) : State :=
  s.notify 0x0201 handle (detail * 2 ^ 32 + st.code) 0

/-- A slot takes what its object's header says. -/
def RefSlot.loaded (o : RefSlot) (obj : List Byte) : RefSlot :=
  { o with
    st := .ready, refId := wordAt obj 0x14, refRev := wordAt obj 0x18, width := wordAt obj 0x20, lines := wordAt obj 0x24
    pitchX := leAt obj 0x28 5, pitchY := leAt obj 0x30 5, length := leAt obj 8 8, imgIndex := leAt obj 0x40 8, tolIndex := leAt obj 0x48 8 }

/-- REF_COMMIT_DONE (R181): READY with REF_READY, or FAILED with REF_FAILED. An object that passes the checks with overlapping tiles or reserved bits set is
misuse (R15, R203). Without a commit that runs nothing happens (log 7). -/
def execRefCommitDone (s : State) : Outcome :=
  match s.runningCmd 0x0201 with
  | none => .next s
  | some r =>
    let k := r.args.headD 0
    let o := s.refSlot k
    let obj := s.read o.addr o.len
    let s1 := s.endRunning 0x0201
    match checkObject obj o.len, objectMisuse obj with
    | none, some r => .fault (.misuse r)
    | none, none => .next ((s1.updRef k (fun o => o.loaded obj)).refReady k)
    | some (st, det), _ => .next ((s1.updRef k (fun o => { o with st := .failed })).refFailed (s.refHandle k) st det)

/-- Is a reference slot bound to the ACTIVE or the STAGED deck (R180, R200)? -/
def State.refInUse (s : State) (k : Nat) : Bool := s.deck.refActive == some k || s.deck.refStaged == some k

/-- REF_DELETE (R180). -/
def execRefDelete (q : Req) (handle : Nat) (s : State) : Outcome :=
  let refuse : Option Reply := match s.refOf handle with
    | none => some (.fail .notFound 0)
    | some k =>
      if (s.refSlot k).st = .checking then some (.fail .busy 5)
      else if (s.refSlot k).st = .learning || s.refInUse k then some (.fail .busy 8)
      else none
  runCmd 0x0202 q .op false refuse (s.updRef ((s.refOf handle).getD 0) (fun o => { gen := o.gen }), {}) s

/-- Code of a reference slot's state (R412). -/
def RefSt.code : RefSt → Nat
  | .free => 0 | .allocated => 1 | .checking => 2 | .ready => 3 | .failed => 4 | .learning => 5

/-- REF_QUERY (R412). -/
def execRefQuery (q : Req) (s : State) : Outcome :=
  runCmd 0x0203 q .nb false none (s, .ok (((upto 8).map (fun k =>
    let o := s.refSlot k
    wordsBytes ([if o.st = .free then 0 else s.refHandle k,
      o.st.code + 2 ^ 8 * b2n (s.deck.refActive == some k) + 2 ^ 9 * b2n (s.deck.refStaged == some k), o.refId, o.refRev] ++
      lohi o.addr ++ lohi (if o.st = .ready then o.length else o.len)))).flatten)) s

/- Learning (R183-R185). -/

/-- The look-back ring after its data ring changed size: DATA_SIZE follows, and the groups up to the last one that no longer lies in it are
no longer held (log 52). -/
def State.resizeRing (s : State) : State :=
  let n := s.ringData false
  let beyond := fun (g : Nat × Nat × Nat) => decide (g.2.1 + g.2.2 > n)
  let keep := (s.codec.lb.held.reverse.takeWhile (fun g => !beyond g)).reverse
  let oldest := match keep with
    | g :: _ => g.1
    | [] => s.codec.lb.next
  let s1 : State := { s with codec := { s.codec with lb := { s.codec.lb with
    held := keep, oldest := oldest, off := if s.codec.lb.off > n then 0 else s.codec.lb.off } } }
  (s1.write (s.ringBase false + 0x10) (leBytes 8 n)).write (s.ringBase false + 0x20) (leBytes 8 oldest)

/-- REF_LEARN (R183, R184): a slot is taken, and the buffer with its seen map at the end of the look-back region. LINES outside 256 to 1,048,576 is
misuse (R203). -/
def execRefLearn (q : Req) (refId refRev lines : Nat) (s : State) : Outcome :=
  let d := s.activeDeck.getD {}
  let k := s.freeRef.getD 0
  let l : Learn := { slot := k, refId := refId, refRev := refRev, lines := lines, width := d.width, nrep := d.nrep, epoch := s.deck.epoch, since := s.intake.ser }
  let refuse : Option Reply := match busyIfRunning s 0x0204 with
    | some r => some r
    | none =>
      if s.freeRef.isNone then some (resource 0x09 8)
      else if l.taken ≥ s.ringData false then some (resource 0x0A (s.ringData false / 2 ^ 20)) else none
  let buf := s.regionBase 3 + s.regionSize 3 - l.taken
  let s1 := s.updRef k (fun o => { gen := nextGen o.gen, st := .learning, refId := refId, refRev := refRev })
  let s2 : State := { s1 with reg := { s1.reg with learn := some { l with buf := buf } } }
  let s3 := (s2.clear (buf + l.bufBytes) l.seenBytes).resizeRing
  if (admission s q .lm false).isNone && refuse.isNone && (decide (lines < 256) || decide (lines > 1048576)) then .fault (.misuse 203) else
  runCmd 0x0204 q .lm false refuse (s3.start 0x0204 q [k], { status := 1, payload := leBytes 4 (s1.refHandle k) }) s

/-- Learning ends without an object (R185, R413): the slot and the look-back space return, and REF_FAILED is issued. -/
def State.learnEnds (s : State) (st : Status) (detail : Nat) : State :=
  match s.reg.learn with
  | none => s
  | some l =>
    let s1 : State := { s with reg := { s.reg with learn := none } }
    let s2 := (s1.updRef l.slot (fun o => { gen := o.gen })).resizeRing
    (s2.endRunning 0x0204).refFailed (s.refHandle l.slot) st detail

/-- REF_LEARN_ABORT (R413). -/
def execRefLearnAbort (q : Req) (s : State) : Outcome :=
  runCmd 0x0205 q .lm false (if s.reg.learn.isNone then some (.fail .notFound 0) else none) (s.learnEnds .busy 4, {}) s

/- A learned object (R185, R513). -/

/-- Samples of plane p of line y of a tile of the learn buffer. -/
def State.learnRow (s : State) (l : Learn) (p x0 w y : Nat) : List Nat :=
  let bs := s.read (l.buf + 3 * (y * l.width + x0)) (3 * w)
  (upto w).map (fun x => (bs.getD (3 * x + p) 0).toNat)

/-- Class of reference pixel number i: LEARN_CLASS where it has been seen, else UNSEEN_CLASS (R185). -/
def State.learnedClass (s : State) (d : Container) (l : Learn) (i : Nat) : Nat :=
  if bitAt ((s.read (l.buf + l.bufBytes + i / 8) 1).headD 0).toNat (i % 8) then d.learnClass else d.unseenClass

/-- Runs of equal classes, at most 4,096 pixels each, newest first. -/
def classRuns (cs : List Nat) : List (Nat × Nat) :=
  cs.foldl (fun (rs : List (Nat × Nat)) c => match rs with
    | (k, n) :: r => if k = c ∧ n < 4096 then (k, n + 1) :: r else (c, 1) :: rs
    | [] => [(c, 1)]) []

/-- Pixel pairs of a literal tolerance tile. -/
def classPairs : List Nat → List Byte
  | [] => []
  | [a] => [BitVec.ofNat 8 a]
  | a :: b :: r => BitVec.ofNat 8 (a + 16 * b) :: classPairs r

/-- A tolerance tile: the shorter of modes 0 and 1, mode 0 when equal (R178, R513). -/
def tolTileBytes (cs : List Nat) : List Byte :=
  let runs := ((classRuns cs).reverse.map (fun r => leBytes 2 (r.1 * 4096 + (r.2 - 1)))).flatten
  let lit := classPairs cs
  if runs.length ≤ lit.length then leBytes 2 0 ++ runs else leBytes 2 1 ++ lit

/-- Tiles laid one after the other on 4-byte boundaries from an offset: their index entries and bytes. -/
def placeTiles : Nat → List (List Byte) → List Byte × List Byte
  | _, [] => ([], [])
  | off, t :: r =>
    let pad := t.length + (4 - t.length % 4) % 4
    let x := placeTiles (off + pad) r
    (leBytes 8 (off + t.length * 2 ^ 40) ++ x.1, t ++ List.replicate (pad - t.length) 0 ++ x.2)

/-- The object that the learn buffer gives (R175, R185, R513), CREATED at the present time. -/
def State.learnedObject (s : State) (d : Container) (l : Learn) : List Byte :=
  let tx := ceilDiv l.width 256
  let ty := ceilDiv l.lines 256
  let o : RefSlot := { width := l.width, lines := l.lines }
  let tiles := ((upto ty).map (fun j => (upto tx).map (fun i => (i, j)))).flatten
  let imgs := tiles.map (fun t => codeTile d.learnNear d.learnTable ((upto (tileLines o t.2)).map (fun y =>
    (upto 3).map (fun p => s.learnRow l p (256 * t.1) (tileWidth o t.1) (256 * t.2 + y)))))
  let tols := tiles.map (fun t => tolTileBytes (((upto (tileLines o t.2)).map (fun y => (upto (tileWidth o t.1)).map (fun x =>
    s.learnedClass d l ((256 * t.2 + y) * l.width + 256 * t.1 + x)))).flatten))
  let n := 8 * (tx * ty)
  let img := placeTiles (0x80 + 2 * n) imgs
  let tol := placeTiles (0x80 + 2 * n + img.2.length) tols
  let body := img.1 ++ tol.1 ++ img.2 ++ tol.2
  let hdr (crc : Nat) : List Byte :=
    leBytes 4 0x4F464552 ++ leBytes 2 0 ++ leBytes 2 1 ++ leBytes 8 (0x80 + body.length) ++ leBytes 4 crc ++
    wordsBytes [l.refId, l.refRev, d.learnNear * 256 + 3, l.width, l.lines] ++ leBytes 8 d.pxPitch ++ leBytes 8 d.pitch ++
    leBytes 2 tx ++ leBytes 2 ty ++ leBytes 4 0 ++ leBytes 8 0x80 ++ leBytes 8 (0x80 + n) ++ leBytes 8 s.time ++ wordsBytes [1, l.nrep] ++
    leBytes 32 0
  hdr (crc32 (hdr 0 ++ body)) ++ body

/-- REF_LEARN_DONE (R185): the learned object takes its place in the reference region, the look-back space returns and REF_READY is issued;
where the region has no room, learning ends with RESOURCE 0x0A (DESIGN CHOICE, log 52). Before the last repeat is complete
nothing happens (log 7). -/
def execRefLearnDone (s : State) : Outcome :=
  match s.reg.learn with
  | none => .next s
  | some l =>
    if !l.encoding then .next s else
    let obj := s.learnedObject (s.deckOf l.epoch) l
    match s.allocBlock 2 s.refUsed obj.length with
    | none => .next (s.learnEnds .resource (s.regionFull 2 s.refUsed).detail)
    | some a =>
      let s1 : State := { s with reg := { s.reg with learn := none } }
      let s2 := ((s1.write a obj).updRef l.slot (fun o => ({ o with addr := a, len := obj.length } : RefSlot).loaded obj)).resizeRing
      .next ((s2.endRunning 0x0204).refReady l.slot)

end Sys2Proof.Machine
end

