-- ==== Sys2Proof/Machine/DeckCmds.lean ====
section
/-! DEFINITION. The deck commands (R49-R67, R127, R411, R412): load, stage, activate, the arm and the cancel of a swap, and PROFILE_LOAD. -/

namespace Sys2Proof.Machine

/- Slots and handles (R49, R50). -/

/-- Does slot k hold the ACTIVE deck, the STAGED deck or a deck in transit (R50)? -/
def State.slotHeld (s : State) (k : Nat) : Bool :=
  s.deck.active == some k || s.deck.staged == some k ||
  (match s.deck.swap with
   | some w => w.slot == k || w.oldSlot == some k
   | none => false)

/-- The slot that a handle names (R49): its generation matches and it holds a deck. -/
def State.slotOf (s : State) (handle : Nat) : Option Nat :=
  (upto 16).find? (fun k => (s.slotDeck k).isSome && s.handle k == handle)

/-- Slot k replaced by its image. -/
def State.updSlot (s : State) (k : Nat) (f : DeckSlot → DeckSlot) : State := { s with deck := { s.deck with slots := updAt s.deck.slots k f } }

/-- The slot that DECK_LOAD takes, or its refusal (R50, R401, R411): 0xFF asks for the lowest free one; a number above 15 names no slot
(DEDUCED, log 59). -/
def State.loadSlot (s : State) (slot : Nat) : Except Reply Nat :=
  if slot = 0xFF then
    match (upto 16).find? (fun k => (s.slotDeck k).isNone && !s.slotHeld k) with
    | some k => .ok k
    | none => .error (resource 0x09 16)
  else if slot ≥ 16 then .error (.fail .notFound 0)
  else if s.slotHeld slot then .error (.fail .busy 8)
  else .ok slot

/-- Device address of a library slot (R49, R492; the layout inside the region is the model's, log 60). -/
def State.slotAddr (s : State) (k : Nat) : Nat := s.regionBase 1 + k * 2 ^ 24

/-- DECK_LOAD's effect: the container is checked; a failed load leaves the slot empty (R52, R411). -/
def State.loadDeck (s : State) (addr len k : Nat) : State × Reply :=
  let bs := s.read addr (min len (2 ^ 24))
  let r := parseContainer false bs
  match r.1 with
  | some e => (s.updSlot k (fun o => { o with deck := none }), { status := e.1, detail := e.2 })
  | none =>
    let s1 := (s.updSlot k (fun o => { gen := nextGen o.gen, deck := some r.2 })).write (s.slotAddr k) (bs.take r.2.length)
    (s1, .ok (wordsBytes [s1.handle k, r.2.deckId, r.2.deckRev]))

/-- A command that reads a container from memory outside fitted DRAM is misuse (R32). -/
def State.containerInDram (s : State) (addr len : Nat) : Bool := len == 0 || s.rangeOf addr (min len (2 ^ 24)) == some 6

/-- Are the reserved fields of a container's header set (R15, R41)? -/
def State.headerReserved (s : State) (addr : Nat) : Bool := leAt (s.read (addr + 0x12) 2) 0 2 != 0 || leAt (s.read (addr + 0x1C) 4) 0 4 != 0

/-- DECK_LOAD (R49-R52, R411). -/
def execDeckLoad (q : Req) (addr len slot : Nat) (s : State) : Outcome :=
  match s.loadSlot slot with
  | .error r => runCmd 0x0100 q .op false (some r) (s, {}) s
  | .ok k =>
    if (admission s q .op false).isNone && !s.containerInDram addr len then .fault (.misuse 32)
    else if (admission s q .op false).isNone && (s.loadDeck addr len k).2.status = 0 && s.headerReserved addr then .fault (.misuse 15)
    else runCmd 0x0100 q .op false none (s.loadDeck addr len k) s

/-- DECK_DELETE (R50). -/
def execDeckDelete (q : Req) (handle : Nat) (s : State) : Outcome :=
  let refuse : Option Reply := match s.slotOf handle with
    | none => some (.fail .notFound 0)
    | some k => if s.slotHeld k then some (.fail .busy 8) else none
  runCmd 0x0107 q .op false refuse (s.updSlot ((s.slotOf handle).getD 0) (fun o => { o with deck := none }), {}) s

/- Staging (R53, R135, R241, R411, R539). -/

/-- The parameter set of a deck is placed in the free half of every frame in service (R241). -/
def State.placeParams (s : State) (d : Container) : State :=
  ((upto 16).filter s.frameUp).foldl (fun (s : State) f => s.write (paramAddr f (1 - s.comb.half)) d.paramSet) s

/-- The check of the placed copies (R241): a copy whose CRC does not match is rewritten, which is an occurrence of its frame; after a second mismatch the
frame retires. -/
def State.checkCopies (s : State) : List (Nat × Bool) → State
  | [] => s
  | (f, twice) :: rest =>
    if !s.frameUp f then s.checkCopies rest
    else
      let r := s.occur 8 f 2 0 s.faultLine
      let s1 : State := { r.2 with comb := { r.2.comb with paramRewrite := updAt r.2.comb.paramRewrite f satInc } }
      let s2 := if r.1 then s1.afterRetire 2 else if twice then (s1.retireNow 8 f 2).afterRetire 2 else s1
      s2.checkCopies rest

/-- The slot takes the STAGED role, with what staging binds and places: the reference object (R200), parameter sets, table sets and the stopped
converter bank. -/
def State.stage (s : State) (k : Nat) : State :=
  let d := (s.slotDeck k).getD {}
  let s1 : State := { s with
    deck := { s.deck with staged := some k, refStaged := s.boundSlot d }
    mon := s.mon.loadBank d
    cal := { s.cal with stagedSet := s.cal.table } }
  s1.placeParams d

/-- Refusals of DECK_STAGE in their order (R53, R242, R411). -/
def State.stageRefuse (s : State) (handle : Nat) : Option Reply :=
  match s.slotOf handle with
  | none => some (.fail .notFound 0)
  | some k =>
    if s.deck.swap.isSome then some (.fail .busy 1)
    else if s.oldHalfBusy then some (.fail .busy 3)
    else s.stageCheckNow ((s.slotDeck k).getD {})

/-- DECK_STAGE (R53, R241, R242, R411). A deck that passes the checks and whose fields are misuse ends in it (R15, R46). `copies` names the frames
whose copy of the parameter set the check finds wrong, once or twice. -/
def execDeckStage (q : Req) (handle : Nat) (s : State) (copies : List (Nat × Bool) := []) : Outcome :=
  let k := (s.slotOf handle).getD 0
  let run := runCmd 0x0101 q .op false (s.stageRefuse handle) ((s.stage k).checkCopies copies, {}) s
  if (admission s q .op false).isSome || (s.stageRefuse handle).isSome then run
  else match s.stageMisuse ((s.slotDeck k).getD {}) with
    | some r => .fault (.misuse r)
    | none => run

/-- DECK_UNSTAGE (R51, R56). -/
def execDeckUnstage (q : Req) (s : State) : Outcome :=
  runCmd 0x0102 q .op false
    (if s.deck.swap.isSome then some (.fail .busy 1) else if s.deck.staged.isNone then some (.fail .notFound 0) else none)
    ({ s with deck := { s.deck with staged := none, refStaged := none } }, {}) s

/-- The DECK_QUERY response (R412). -/
def State.deckBytes (s : State) : List Byte :=
  let ws : Int := match s.deck.swap with
    | some w => w.ws
    | none => 0
  let st := match s.deck.swap with
    | some w => if w.begun then 2 else 1
    | none => 0
  wordsBytes [1 * 2 ^ 16, s.deck.epoch, s.deck.active.getD 0xF + s.deck.staged.getD 0xF * 16 + st * 256, 0] ++
    leBytes 8 (truncN 64 (wpos48 ws)) ++ leBytes 8 0 ++
    ((upto 16).map (fun k => match s.slotDeck k with
      | some c => wordsBytes [s.handle k, c.deckId, c.deckRev, c.length]
      | none => wordsBytes [0, 0, 0, 0])).flatten

/-- DECK_QUERY (R412). -/
def execDeckQuery (q : Req) (s : State) : Outcome := runCmd 0x0106 q .nb false none (s, .ok s.deckBytes) s

/- Activation outside the web modes (R60, R62, R63, R156, R373, R540). -/

/-- The staged deck becomes ACTIVE under the next epoch, and the half of the deck before is free at once (R242): DECK_ACTIVATE, or a swap that the exit from the web modes completes before the
camera bar has switched (R63). Its camera settings govern from the next line or timed trigger on (R156). -/
def State.activate (s : State) (slot : Nat) : State :=
  let d := (s.slotDeck slot).getD {}
  let new := nextEpoch s.deck.epoch
  let s1 : State := { s with
    deck := { (s.deck.addEpoch new d) with
      active := some slot, staged := none, refActive := s.deck.refStaged, refStaged := none, epoch := new, prevEpoch := s.deck.epoch, lastWd := 0 }
    reg := (s.bindEpoch new s.deck.refStaged).reg
    mon := { s.mon with swapDue := true }
    comb := { s.comb with half := 1 - s.comb.half, halves := [(new, 1 - s.comb.half)] }
    cal := { s.cal with inUse := s.cal.stagedSet }
    intake := { s.intake with activation := s.sys.lineMode != .calibrate } }
  let s2 : State :=
    if s.sys.lineMode = .calibrate then
      let a := s1.activateCams d none s.intake.ser
      { a with
        cal := { a.cal with codeNext := activationCodes d none }
        intake := { a.intake with
          stripIndex := 0, breakEnd := none, breakLine := none, switchSer := some (a.intake.ser, s.deck.epoch) } }
    else s1
  (s2.activateTrestle d).sendPairInfo

/-- DECK_ACTIVATE (R51, R60, R534). -/
def execDeckActivate (q : Req) (s : State) : Outcome :=
  let slot := s.deck.staged.getD 0
  let s1 := (s.activate slot).startPresets ((s.slotDeck slot).getD {})
  runCmd 0x0105 q .nw false (if s.deck.staged.isNone then some (.fail .notFound 0) else none) (s1, .ok (leBytes 4 s1.deck.epoch)) s

/- The arm (R56-R58, R66, R145, R463). -/

/-- Stations that take part in a swap (R57). -/
def State.swapStations (s : State) (a d : Container) : List Station :=
  .camera :: (((upto 8).filter (fun h => s.profile.current.headWired h && (a.headEn h || d.headEn h))).map Station.head ++
    ((upto 8).filter (fun m => a.markEn m || d.markEn m)).map Station.marker)

/-- Offset of a station (R57). -/
def Container.stationOff (p : Container) : Station → Int
  | .camera => 0
  | .head h => p.headOff h
  | .marker m => p.markOff m

/-- dup: the most negative offset of the stations (R58). -/
def State.dup (s : State) (stations : List Station) : Int := minI 0 (stations.map s.profile.current.stationOff)

/-- Line pitch in whole nm, as the worked examples of R58 take it. -/
def Container.pitchNm (d : Container) : Nat := d.pitch / 65536

/-- v × t in nm, for t in ns (R58, R59). -/
def Container.travel (d : Container) (ns : Nat) : Nat := d.maxLineRate * d.pitchNm * ns / 1000000000

/-- Lmin in nm (R58), with the 100 µs of a joint swap (R66). -/
def Container.swapLead (a d : Container) (joint : Bool) : Nat :=
  a.travel 2000000 + d.pitchNm * maxN ((d.camsOn.filter d.latch).map d.nreg) + d.swapMargin + (if joint then a.travel 100000 else 0)

/-- S: the first WLN whose threshold lies at or beyond Ws (R145). -/
def State.switchWln (s : State) (ws : Int) : Nat :=
  s.pos.wln + (max 0 (ceilDivI (ws * 65536 - s.pos.t) (max 1 s.camDeck.pitch : Nat))).toNat

/-- Ws as a distance that R9 gives from W0. -/
def State.armWs (s : State) (ws : Int) : Int := s.highWpos + wposDiff ws s.highWpos

/-- The shortfall of an arm at Ws against a lead of at least `lmin` (R58). -/
def State.armShort (s : State) (ws : Int) (lmin : Nat) : Option Reply :=
  match s.stagedDeck with
  | none => none
  | some d =>
    let lead : Int := s.armWs ws + s.dup (s.swapStations s.camDeck d) - s.highWpos
    if lead < lmin then some (.fail .tooLate (min 0xFFFFFFFF (ceilDivI (lmin - lead) 1000).toNat)) else none

/-- Refusals of an arm (R56, R58). -/
def State.armRefuse (s : State) (ws : Int) (joint : Bool) : Option Reply :=
  if s.deck.swap.isSome then some (.fail .busy 1) else
  match s.stagedDeck with
  | none => some (.fail .notFound 0)
  | some d => s.armShort ws (s.camDeck.swapLead d joint)

/-- The response of an accepted arm (R412): W0, Lmin and the switch line. In a joint arm Lmin is the larger of the two devices' (R66). -/
def State.armReply (s : State) (ws : Int) (joint : Bool) (peerLmin : Nat) : Reply :=
  .ok (leBytes 8 (truncN 64 (wpos48 s.highWpos)) ++ leBytes 8 (max peerLmin (s.camDeck.swapLead (s.stagedDeck.getD {}) joint)) ++
    leBytes 8 (s.switchWln (s.armWs ws)))

/-- A swap is armed (R56-R58, R64, R145): its stations wait, SWAP_ARMED is issued, and the cameras of the new deck prepare their settings for
the switch line (R62, R119). -/
def State.armSwap (s : State) (ws : Int) (joint : Bool) : State × Reply :=
  let a := s.camDeck
  let slot := s.deck.staged.getD 0
  let d := (s.slotDeck slot).getD {}
  let w : Swap := { ws := s.armWs ws, switchLine := s.switchWln (s.armWs ws), slot := slot, waiting := s.swapStations a d, joint := joint }
  let s1 : State := { s with deck := { s.deck with swap := some w } }
  let s2 := forEach (fun c s => s.retarget c) (upto 24) (s1.activateCams d (some a) (s.serOfWln w.switchLine))
  (s2.notify 0x0101 (s.handle slot) (truncN 64 (wpos48 w.ws)) 0, s.armReply ws joint 0)

/-- A request of this device goes to the Viaduct peer's MBX3 (R455, R461), and the host's request that waits for the answer is kept. -/
def State.askPeer (s : State) (code arg : Nat) (payload : List Byte) (wait : Option (Req × Int)) : State :=
  let s1 : State := { s with vd := { s.vd with
    askSeq := (s.vd.askSeq + 1) % 2 ^ 32
    asked := match wait with
      | some (q, w) => s.vd.asked ++ [(s.vd.askSeq, code, q, w)]
      | none => s.vd.asked } }
  s1.sendVd 0x03 (groupWords 1024 (leBytes 2 code ++ leBytes 2 0 ++ leBytes 4 s.vd.askSeq ++ leBytes 4 payload.length ++ leBytes 4 arg ++ payload))

/-- Is a request of the joined secondary's own host refused (R456)? Requests of the primary come through MBX3. -/
def State.followRefuse (s : State) (q : Req) : Option Reply := if s.follows && q.mbx != 3 then some (badState s 1) else none

/-- The ARG word of the request that mailbox 3 handed over with a SEQ. -/
def State.peerArg (s : State) (q : Req) : Nat :=
  (((s.mailbox 3).taken.find? (fun t => t.seq == q.seq)).map (·.arg)).getD 0

/-- DECK_ARM_SWAP (R56-R58, R66, R145, R456, R463). On the primary of a joined pair the peer takes the arm first, and the host is answered with the
peer's response. -/
def execDeckArmSwap (q : Req) (ws : Int) (s : State) : Outcome :=
  let joint := s.leads || s.follows
  let refuse : Option Reply := match s.followRefuse q with
    | some r => some r
    | none =>
      match s.armRefuse ws joint with
      | some r => some r
      | none => if s.follows && (s.stagedDeck.map (·.deckId)) != some (s.peerArg q) then some (.fail .notFound 0) else none
  if s.leads && (admission s q .web false).isNone && refuse.isNone then
    .next (s.askPeer 0x0103 ((s.stagedDeck.getD {}).deckId) (leBytes 8 (truncN 64 (wpos48 (s.armWs ws)))) (some (q, s.armWs ws)))
  else runCmd 0x0103 q .web false refuse (s.armSwap ws joint) s

/-- A swap is withdrawn (R59): what it had prepared for the switch line is dropped, heads that wait in the new grid go back to the old one, and
SWAP_CANCELLED is issued. -/
def State.cancelSwap (s : State) : State :=
  let coming := nextEpoch s.deck.epoch
  let target := s.switchSerial
  let s1 : State := { s with
    deck := { s.deck with swap := none, stationEpoch := [] }
    print := { s.print with grids := s.print.grids.filter (fun g => g.epoch != coming) }
    intake := { s.intake with cam := s.intake.cam.map (fun (m : Camera) => { m with
      changes := m.changes.filter (fun ch => !(ch.source == .activation && some ch.target == target)) }) } }
  let back (s : State) (h : Nat) : State :=
    if (s.head h).on ∧ (s.head h).epoch = coming then s.startHead h s.deck.epoch else s
  ((upto 8).foldl back (forEach (fun c s => s.retarget c) (upto 24) s1)).notify 0x0105 0 0 0

/-- Refusals of a cancel (R59, R67, R68). -/
def State.cancelRefuse (s : State) : Option Reply :=
  match s.deck.swap with
  | none => some (.fail .notFound 0)
  | some w =>
    if w.joint && s.vd.link != 2 then some (.fail .busy 2)
    else if w.begun || w.cameraDone || decide (w.ws + s.dup w.waiting - s.highWpos < (s.camDeck.travel 1000000 : Nat)) then some (.fail .tooLate 0)
    else none

/-- DECK_CANCEL_SWAP (R59, R67, R456): a joint cancel goes to the peer too. -/
def execDeckCancelSwap (q : Req) (s : State) : Outcome :=
  let refuse : Option Reply := match s.followRefuse q with
    | some r => some r
    | none => s.cancelRefuse
  let joint := match s.deck.swap with
    | some w => w.joint && s.leads
    | none => false
  runCmd 0x0104 q .web false refuse ((if joint then s.cancelSwap.askPeer 0x0104 0 [] none else s.cancelSwap), {}) s

/- PROFILE_LOAD (R40, R52, R127, R492, R567). -/

/-- The lowest port that two enabled cameras claim (R127). -/
def Container.sharedPort (p : Container) : Option Nat :=
  let en := (upto 24).filter p.portsEn
  (upto 25).find? (fun x => decide ((en.filter (fun c => (p.portsOf c).contains x)).length ≥ 2))

/-- A port that two enabled cameras claim, that a bonded camera names though it is odd, or that the part lacks (R3, R127), with the port that DETAIL
names. Where several of these hold the first in this order is reported, the order in which R127 lists them (DESIGN CHOICE, log 155). -/
def State.portClash (s : State) (p : Container) : Option Nat :=
  let en := (upto 24).filter p.portsEn
  match p.sharedPort with
  | some x => some x
  | none =>
    match en.find? (fun c => p.bond c && p.portOf c % 2 == 1) with
    | some c => some (p.portOf c)
    | none => s.lackedPort p en

/-- SIZEr of the DRAM profile section in MiB (R501). -/
def Container.regionMib (p : Container) (r : Nat) : Nat :=
  p.f 0x8040 0 (0x10 + 4 * r) 15 0 (getN [64, 256, 1024, 0, 256, 64, 128, 64, 256, 64, 128, 512] r 0)

/-- ECC_MASK: regions that lie under ECC (R501). -/
def Container.eccMask (p : Container) : Nat := p.f 0x8040 0 0x0C 15 0 0x0FE7

/-- Size of the ECC store in MiB (R492) under the ECC_MASK of p, for the region sizes of another section where R491 takes them from there; for look-back,
E counts SIZE3 as the section gives it (DEDUCED, log 62). -/
def Container.eccMibOf (p sizes : Container) : Nat :=
  ceilDiv (ceilDiv (sumN (((upto 12).filter (bitAt p.eccMask)).map sizes.regionMib)) 32) 16 * 16

/-- MiB that the layout of R492 leaves for look-back. -/
def Container.lookbackOf (p sizes : Container) (capacity : Nat) : Nat :=
  capacity - sumN (((upto 12).filter (· != 3)).map sizes.regionMib) - p.eccMibOf sizes

/-- MiB that the section's own layout leaves for look-back. -/
def Container.lookbackMib (p : Container) (capacity : Nat) : Nat := p.lookbackOf p capacity

/-- Refusals of PROFILE_LOAD after the checks of R52 (R127, R567, R492). -/
def State.profileRefuse (s : State) (p : Container) : Option Reply :=
  match s.portClash p with
  | some x => some (resource 0x05 x)
  | none =>
    if p.length > 448 * 1024 then some (resource 0x10 (ceilDiv p.length 1024))
    else if p.lookbackMib s.dram.capacityMib < 256 then some (resource 0x11 (p.lookbackMib s.dram.capacityMib))
    else none

/-- PROFILE_LOAD's effect: the checked container takes effect on leaving CONFIGURE (R40). -/
def State.loadProfile (s : State) (addr len : Nat) : State × Reply :=
  let bs := s.read addr (min len (2 ^ 24))
  let r := parseContainer true bs
  match r.1 with
  | some e => (s, { status := e.1, detail := e.2 })
  | none =>
    match s.profileRefuse r.2 with
    | some x => (s, x)
    | none => ({ s with profile := { s.profile with loaded := some r.2, loadedBytes := bs.take r.2.length } }, {})

/-- The misuse in the profile that a load takes: reserved header fields and section fields (R15, R46). -/
def State.loadMisuse (s : State) (addr len : Nat) : Option Nat :=
  if (s.loadProfile addr len).2.status ≠ 0 then none
  else if s.headerReserved addr then some 15
  else (parseContainer true (s.read addr (min len (2 ^ 24)))).2.profileMisuse

/-- PROFILE_LOAD (R40, R52, R127). A profile that is accepted and whose fields are misuse ends in it (R15, R46). -/
def execProfileLoad (q : Req) (addr len : Nat) (s : State) : Outcome :=
  if (admission s q .cfg false).isSome then runCmd 0x0108 q .cfg false none (s.loadProfile addr len) s
  else if !s.containerInDram addr len then .fault (.misuse 32)
  else match s.loadMisuse addr len with
    | some r => .fault (.misuse r)
    | none => runCmd 0x0108 q .cfg false none (s.loadProfile addr len) s

end Sys2Proof.Machine
end

