-- ==== Sys2Proof/Machine/Seam.lean ====
section
/-! DEFINITION. The pair seam (R225, R226, R458-R460): SEAM, PART and CUT, the unions that the primary holds, and the split of a pair. -/

namespace Sys2Proof.Machine

/- Labels and seam columns. -/

/-- The seam column of this device (R458). -/
def State.seamCol (s : State) (d : Container) : Nat := if s.vdRole = 1 then d.width - 1 else 0

/-- Does this device ask for joining across the seam at a line of an epoch (R225)? The peer's deck must ask for it too, which comes with its SEAM
message of the line. -/
def State.merging (s : State) (epoch : Nat) : Bool :=
  (s.vdRole == 1 || s.vdRole == 2) && s.vd.pair == 2 && (s.deckOf epoch).pairMerge

/-- The component that holds column x of the line labelled last; the label swarm is never merged, and has none. -/
def SegState.keyAt (g : SegState) (x : Nat) : Option Nat :=
  match g.prev.find? (fun r => decide (r.1 ≤ x) && decide (x ≤ r.2.1)) with
  | some r => if g.comps.any (fun c => c.id == r.2.2 && !c.swarm) then some r.2.2 else none
  | none => none

/-- The label of a component in messages: 16 bits of its key. -/
def seamLabel (k : Option Nat) : Nat :=
  match k with
  | some id => id % 65536
  | none => 0

/-- Is a STATE that of a soft or hard pixel? -/
def isSoft (st : Nat) : Bool := st == 1 || st == 2

/-- The segmenter after the lines that wait for it, as far as the labels go. -/
def SegState.ahead (deckOf : Nat → Container) : List CompLine → SegState → SegState
  | [], g => g
  | c :: r, g =>
    let g0 := if g.epoch = some c.slot.epoch then g else { g.startEpoch c.slot.epoch with nextId := g.nextId }
    SegState.ahead deckOf r (g0.label (deckOf c.slot.epoch) c.slot c.cells)

/-- The SEAM message for the line that the compare stage has just delivered (R458). -/
def State.sendSeam (s : State) : State :=
  match s.vd.pair == 2, s.cmp.out.getLast? with
  | true, some c =>
    let x := s.seamCol (s.deckOf c.slot.epoch)
    let st := (c.cells.getD x (3, 0, 0)).1
    let k := if isSoft st then (SegState.ahead s.deckOf s.cmp.out { s.seg with divert := [] }).keyAt x else none
    s.sendVd 0x20 [c.slot.wln, c.slot.epoch, st, seamLabel k]
  | _, _ => s

/- Unions (R225, R458, R459). -/

/-- Two unions become one. -/
def SeamUnion.merge (a b : SeamUnion) : SeamUnion :=
  { acc := a.acc.merge b.acc, own := (a.own ++ b.own).eraseDups, peer := (a.peer ++ b.peer).eraseDups
    peerLeft := (a.peerLeft ++ b.peerLeft).eraseDups, peerDone := (a.peerDone ++ b.peerDone).eraseDups
    cutAt := match a.cutAt with
      | some n => some n
      | none => b.cutAt
    pieces := a.pieces ++ b.pieces }

/-- The unions that a test holds for become one with a further one. -/
def joinWhere (p : SeamUnion → Bool) (x : SeamUnion) (us : List SeamUnion) : List SeamUnion :=
  us.filter (fun u => !p u) ++ [(us.filter p).foldl SeamUnion.merge x]

/-- The link account of a component without its pixels. -/
def Comp.account (c : Comp) : Comp :=
  { c with d := { epoch := c.d.epoch, link := c.d.link, segment := c.d.segment, linkY0 := c.d.linkY0 } }

/-- An own component joins a label of the peer (R225). A part of that label that came before is taken in. -/
def State.joinSeam (s : State) (own : Option Nat) (label : Nat) : State :=
  match own with
  | none => s
  | some id =>
    match s.seg.comps.find? (fun c => c.id == id) with
    | none => s
    | some c =>
      let known := s.vd.unions.any (fun u => u.peer.contains label || u.peerDone.contains label)
      let early := s.vd.parts.filter (fun p => p.1 == label)
      let x : SeamUnion := { acc := c.account, own := [id], peer := if known || !early.isEmpty then [] else [label]
                             peerDone := if early.isEmpty then [] else [label], pieces := early.map (·.2) }
      let hit (u : SeamUnion) : Bool := u.own.contains id || u.peer.contains label || u.peerDone.contains label
      if label = 0 ∨ s.vd.unions.any (fun u => u.own.contains id && (u.peer.contains label || u.peerDone.contains label)) then s
      else { s with vd := { s.vd with unions := joinWhere hit x s.vd.unions, parts := s.vd.parts.filter (fun p => p.1 != label) } }

/-- The peer's component with label b has become label a. -/
def State.peerMerged (s : State) (b a : Nat) : State :=
  if a = 0 ∨ b = 0 ∨ a = b ∨ !s.vd.unions.any (fun u => u.peer.contains b) then s
  else
    let ren (l : List Nat) : List Nat := (l.map (fun x => if x = b then a else x)).eraseDups
    let us := s.vd.unions.map (fun u => { u with peer := ren u.peer, peerLeft := ren u.peerLeft })
    let hit (u : SeamUnion) : Bool := u.peer.contains a
    match us.filter hit with
    | [] => s
    | u :: r => { s with vd := { s.vd with unions := us.filter (fun x => !hit x) ++ [r.foldl SeamUnion.merge u] } }

/-- Own components merged while a line was labelled. -/
def State.ownMerged (s : State) : List (Nat × Nat) → State
  | [] => s
  | (old, new) :: r =>
    let us := s.vd.unions.map (fun u => { u with own := (u.own.map (fun x => if x = old then new else x)).eraseDups })
    let hit (u : SeamUnion) : Bool := u.own.contains new
    let us1 := match us.filter hit with
      | [] => us
      | u :: t => us.filter (fun x => !hit x) ++ [t.foldl SeamUnion.merge u]
    let was := s.vd.touched.filter (fun t => t.1 == old || t.1 == new)
    let touched := if was.isEmpty then s.vd.touched
      else s.vd.touched.filter (fun t => t.1 != old && t.1 != new) ++ [(new, was.any (·.2))]
    let s1 : State := { s with vd := { s.vd with unions := us1, touched := touched } }
    let lost := s.vdRole == 2 && s.vd.touched.any (fun t => t.1 == old)
    -- an absorbed label ends with an empty part (log 55)
    (if lost then s1.sendVd 0x21 (groupWords 32 (descBytes {}) ++ [seamLabel (some old)]) else s1).ownMerged r

/-- Own components that have joined the label swarm (R222, R225): their pixels are the swarm's, so they leave their unions; the secondary ends their label
with an empty part (log 55). -/
def State.swarmTakes (s : State) : State :=
  let ids := (s.seg.comps.filter (·.swarm)).map (·.id)
  let s1 : State := { s with vd := { s.vd with unions := s.vd.unions.map (fun u => { u with own := u.own.filter (fun i => !ids.contains i) }) } }
  let gone := s1.vd.touched.filter (fun t => ids.contains t.1)
  let s2 : State := { s1 with vd := { s1.vd with touched := s1.vd.touched.filter (fun t => !ids.contains t.1) } }
  gone.foldl (fun (s : State) t => if s.vdRole = 2 then s.sendVd 0x21 (groupWords 32 (descBytes {}) ++ [seamLabel (some t.1)]) else s) s2

/-- A union's segment is emitted with PAIR_SEAM (R225): the pieces before line `cut`, or all of them. The minima do not apply to a union that a fault cut
(R228). -/
def State.emitUnion (s : State) (u : SeamUnion) (cut : Option Nat) : State × SeamUnion :=
  let now : List Descriptor := match cut with
    | some n => u.pieces.filter (fun (p : Descriptor) => decide (p.y0 < n))
    | none => u.pieces
  let d := now.foldl mergeDesc u.acc.d
  let dk := s.deckOf d.epoch
  let fresh := cut.isSome && decide (d.link = 0)
  let c : Comp := { u.acc with d := if fresh then { d with link := s.seg.nextLink, linkY0 := d.y0 } else d }
  let g := if fresh then { s.seg with nextLink := s.seg.nextLink + 1 } else s.seg
  let r := if d.area = 0 then (g, false) else g.finishIn dk 0 c cut.isSome (!bitAt d.flags 11) (2 ^ 8)
  let g1 := if r.2 then r.1.tally (fun n => { n with pairmerge := satInc n.pairmerge }) else r.1
  let rest : List Descriptor := match cut with
    | some n => u.pieces.filter (fun (p : Descriptor) => !decide (p.y0 < n))
    | none => []
  ({ s with seg := g1 }, { u with acc := c.afterCut r.2, cutAt := none, pieces := rest })

/-- Unions with nothing more to come are emitted, whole or up to their cut (R458). -/
def State.settleUnions (s : State) : List SeamUnion → State
  | [] => s
  | u :: r =>
    let last := s.seg.last.getD 0
    let past (p : Descriptor) : Bool := decide (p.y1 < last) || s.seg.epoch != some p.epoch
    match u.cutAt with
    | some n =>
      if u.peerLeft.isEmpty && decide (n ≤ last) then
        let x := s.emitUnion u (some n)
        let s1 := x.1.settleUnions r
        { s1 with vd := { s1.vd with unions := x.2 :: s1.vd.unions } }
      else
        let s1 := s.settleUnions r
        { s1 with vd := { s1.vd with unions := u :: s1.vd.unions } }
    | none =>
      if u.own.isEmpty && u.peer.isEmpty && u.pieces.all past then (s.emitUnion u none).1.settleUnions r
      else
        let s1 := s.settleUnions r
        { s1 with vd := { s1.vd with unions := u :: s1.vd.unions } }

/-- The unions and the unjoined parts after a line or a message. -/
def State.settleSeam (s : State) : State :=
  let last := s.seg.last.getD 0
  let past (p : Nat × Descriptor) : Bool := decide (p.2.y1 < last) || s.seg.epoch != some p.2.epoch
  let due := s.vd.parts.filter past
  let s1 : State := { s with vd := { s.vd with unions := [], parts := s.vd.parts.filter (fun p => !past p) } }
  let alone := due.map (fun p => ({ acc := { id := 0, d := { epoch := p.2.epoch } }, pieces := [p.2] } : SeamUnion))
  s1.settleUnions (s.vd.unions ++ alone)

/-- Segments of own components that belong to the seam reach the union (primary) or leave as PART messages (secondary). -/
def State.takeDiverted (s : State) : List (Comp × Bool) → State
  | [] => { s with seg := { s.seg with diverted := [] } }
  | (c, cut) :: r =>
    let s1 : State := if s.vdRole = 1 then
        { s with vd := { s.vd with unions := s.vd.unions.map (fun u =>
            if u.own.contains c.id then
              { u with own := if cut then u.own else u.own.filter (· != c.id)
                       acc := { u.acc with linkHard := u.acc.linkHard || c.linkHard }
                       pieces := u.pieces ++ [{ c.d with link := 0, segment := 0, linkY0 := 0 }] }
            else u) } }
      else
        let d := finishDesc (s.deckOf c.d.epoch).width { c.d with flags := addFlag c.d.flags 2 cut }
        let s0 := s.sendVd 0x21 (groupWords 32 (descBytes d) ++ [seamLabel (some c.id)])
        if cut then s0 else { s0 with vd := { s0.vd with touched := s0.vd.touched.filter (fun t => t.1 != c.id) } }
    s1.takeDiverted r

/-- Keys whose segments go to the seam. -/
def State.divertKeys (s : State) : List Nat :=
  if s.vdRole = 1 then (s.vd.unions.map (·.own)).flatten else s.vd.touched.map (·.1)

/-- GAP_ADJ of a component beside a peer pixel that is not compared (R219). -/
def State.seamAdj (s : State) (own : Option Nat) (st : Nat) : State :=
  match own with
  | some id => if st = 3 then { s with seg := { s.seg with comps := orFlags s.seg.comps id (2 ^ 7) } } else s
  | none => s

/-- An own component beside the peer's pixel: the primary joins them, the secondary notes it. -/
def State.meet (s : State) (own : Option Nat) (m : SeamMsg) : State :=
  let s1 := s.seamAdj own m.state
  if !isSoft m.state then s1
  else if s.vdRole = 1 then s1.joinSeam own m.label
  else match own with
    | some id => { s1 with vd := { s1.vd with touched := s1.vd.touched.map (fun t => if t.1 = id then (id, true) else t) } }
    | none => s1

/-- The secondary's component touches the seam while the pair is JOINED (R458). -/
def State.touchSeam (s : State) (own : Option Nat) : State :=
  match own with
  | some id => if s.vdRole = 2 ∧ !s.vd.touched.any (fun t => t.1 == id) then
      { s with vd := { s.vd with touched := s.vd.touched ++ [(id, false)] } } else s
  | none => s

/-- First line of a union's present segment, as far as the primary knows it. -/
def State.unionStart (s : State) (u : SeamUnion) : Option Nat :=
  let ys := u.pieces.map (·.y0) ++ (s.seg.comps.filter (fun c => u.own.contains c.id && decide (c.d.area > 0))).map (·.d.y0)
  match ys with
  | [] => none
  | y :: r => some (r.foldl min y)

/-- Unions that reach STREAK_LINES are cut at line n (R220, R458): their own parts now, the peer's by CUT. -/
def State.cutUnions (s : State) (d : Container) (n : Nat) (go : SeamUnion → Bool) : State :=
  let due (u : SeamUnion) : Bool := u.cutAt.isNone && go u && (match s.unionStart u with
    | some y => decide (y + d.streakLines ≤ n)
    | none => false)
  let hit := s.vd.unions.filter due
  let s1 : State := { s with
    vd := { s.vd with unions := s.vd.unions.map (fun u => if due u then { u with cutAt := some n, peerLeft := u.peer } else u) }
    seg := { s.seg with cutNow := (hit.map (·.own)).flatten } }
  ((hit.map (·.peer)).flatten).foldl (fun (s : State) l => s.sendVd 0x22 [l, n]) s1

/-- The line above beside the peer's pixel of this line: the own label there meets it, and two labels of the peer that continue one another join. -/
def State.seamAbove (s : State) (c : CompLine) (m : SeamMsg) : State :=
  let l := c.slot
  let lastOwn := match s.vd.seamLast with
    | some (o, _) => if o.epoch = l.epoch ∧ isSoft o.state then s.seg.keyAt (s.seamCol (s.deckOf l.epoch)) else none
    | none => none
  let s0 := s.meet lastOwn m
  match s0.vd.seamLast with
  | some (_, p) => if p.epoch = l.epoch ∧ isSoft p.state ∧ isSoft m.state then s0.peerMerged p.label m.label else s0
  | none => s0

/-- The cuts that fall on this line: the left device finds them, the right one takes those that its peer has sent. -/
def State.seamCuts (s : State) (c : CompLine) (m : SeamMsg) : State :=
  let l := c.slot
  let cont := continuing (softRuns l 0 c.cells) s.seg.prev
  if s.vdRole = 1 then s.cutUnions (s.deckOf l.epoch) l.wln (fun u => u.own.any cont.contains || (isSoft m.state && u.peer.contains m.label))
  else
    let now := s.vd.cuts.filter (fun k => decide (k.2 ≤ l.wln))
    { s with
      seg := { s.seg with cutNow := (s.vd.touched.map (·.1)).filter (fun id => now.any (fun k => k.1 == seamLabel (some id))) }
      vd := { s.vd with cuts := s.vd.cuts.filter (fun k => !decide (k.2 ≤ l.wln)) } }

/-- The line labelled: its seam pixels meet, and unions that are complete settle. -/
def State.seamBelow (s : State) (c : CompLine) (m : SeamMsg) (labelError : Bool) : State :=
  let l := c.slot
  let x := s.seamCol (s.deckOf l.epoch)
  let st := if labelError then 3 else (c.cells.getD x (3, 0, 0)).1
  let own := if isSoft st then s.seg.keyAt x else none
  let s1 := (s.touchSeam own).meet own m
  let s2 := match s1.vd.seamLast with
    | some (_, p) => if p.epoch = l.epoch then s1.meet own p else s1
    | none => s1
  ({ s2 with vd := { s2.vd with
      seamLast := some ({ wln := l.wln, epoch := l.epoch, state := st, label := seamLabel own }, m)
      seamIn := s2.vd.seamIn.filter (fun q => !(q.epoch == m.epoch && q.wln == m.wln)) } } : State).settleSeam

/-- Components that the line closed or joined beside the seam. -/
def State.seamClosed (s : State) : State :=
  let s1 := s.takeDiverted s.seg.diverted
  (s1.ownMerged s1.seg.merged).swarmTakes

/-- A line of a JOINED pair is labelled with the peer's SEAM message m for it (R458). -/
def State.seamLine (s : State) (c : CompLine) (m : SeamMsg) (labelError : Bool) : State :=
  let queued := s.seg.queue.length
  let s1 := (s.seamAbove c m).seamCuts c m
  let s2 := ({ s1 with seg := { s1.seg with divert := s1.divertKeys, seamEdge := 0 } } : State).segmentStep labelError
  let s3 := s2.seamClosed.seamBelow c m labelError
  { s3 with seg := s3.seg.orderNew queued }

/-- A line whose seam column is a web edge (R226). -/
def State.edgeLine (s : State) (labelError : Bool) : State :=
  let edge := if s.vdRole = 1 ∨ s.vdRole = 2 then s.vdRole else 0
  let s1 := ({ s with seg := { s.seg with divert := s.divertKeys, seamEdge := edge } } : State).segmentStep labelError
  let s2 := (s1.takeDiverted s1.seg.diverted).settleSeam
  if edge = 0 then s2 else { s2 with seg := s2.seg.orderNew s.seg.queue.length }

/-- The next line is labelled (R215, R458); while the pair joins across the seam it waits for the peer's SEAM message. With PAIR_MERGE 0 in the peer's deck
the seam column is a web edge. -/
def State.labelledLine (s : State) (labelError : Bool) : State :=
  match s.cmp.out with
  | [] => s
  | c :: _ =>
    if s.merging c.slot.epoch then
      match s.vd.seamIn.find? (fun m => m.epoch == c.slot.epoch && m.wln == c.slot.wln) with
      | none => s
      | some m =>
        if m.merge then s.seamLine c m labelError
        else ({ s with vd := { s.vd with seamIn := s.vd.seamIn.filter (fun q => !(q.epoch == m.epoch && q.wln == m.wln)) } } : State).edgeLine labelError
    else s.edgeLine labelError

/- The split (R459, R460). -/

/-- Components taken out of the segmenter as closed at the last labelled line. -/
def State.pullComps (s : State) (ids : List Nat) : State :=
  { s with seg := { s.seg with
      comps := s.seg.comps.filter (fun c => !ids.contains c.id), prev := s.seg.prev.filter (fun r => !ids.contains r.2.2) } }

/-- The seam's components at the split line (R459): the primary emits every union from the parts it holds; the secondary sends its joined
components as PART, or emits them with SEAM_SPLIT when the link is down. -/
def State.closeSeam (s : State) : State :=
  let ids := if s.vdRole = 1 then s.divertKeys else (s.vd.touched.filter (·.2)).map (·.1)
  let closed := s.seg.comps.filter (fun c => ids.contains c.id)
  let s1 := s.pullComps ids
  if s.vdRole = 1 then
    let s2 := s1.takeDiverted (closed.map (fun c => (c, false)))
    let all := s2.vd.unions ++ s2.vd.parts.map (fun p => ({ acc := { id := 0, d := { epoch := p.2.epoch } }, pieces := [p.2] } : SeamUnion))
    all.foldl (fun (s : State) u => (s.emitUnion u none).1) s2
  else if s.vd.link = 2 then s1.takeDiverted (closed.map (fun c => (c, false)))
  else
    closed.foldl (fun (s : State) c =>
      { s with seg := ({ s.seg with seamEdge := 2 }.finishIn (s.deckOf c.d.epoch) (s.deckOf c.d.epoch).width c false true 0).1 }) s1

/-- A split pair's secondary goes on with its own position (R457): its own source where one is in service, else free-run. -/
def State.ownPosition (s : State) : State :=
  if s.vdRole ≠ 2 ∨ !s.webRunning then s
  else match s.sourceFor s.camDeck with
    | some src => { s with pos := s.pos.serve src }
    | none => { s with pos := s.pos.startFreeRun }

/-- Retraining of the pairing link starts (R451, R468). -/
def State.retrain (s : State) : State :=
  if (s.vdRole = 1 ∨ s.vdRole = 2) ∧ (s.vd.link = 0 ∨ s.vd.link = 2) ∧ !s.vd.testMode ∧ !s.fault.viaductUnusable then
    s.beginTraining
  else s

/-- A reinstated Viaduct lane is back, and the link retrains (R468). -/
def State.laneBack (s : State) (lane : Nat) : State := ((s.returnChannel 0x0B lane).retrain).completeCode 0x0009 .ok 0

/-- Lanes whose reinstatement waited for the end of JOINED come back (R468). -/
def State.lanesBack (s : State) : State :=
  s.vd.laneDue.foldl (fun (s : State) l => s.laneBack l) { s with vd := { s.vd with laneDue := [] } }

/-- The pair splits (R459, R460): NOTIFY PAIR_SPLIT with the cause and the next line to be labelled. -/
def State.splitPair (s : State) (cause : Nat) : State :=
  if s.vd.pair ≠ 2 then s
  else
    let s1 := s.closeSeam
    let late := if cause = 5 then satInc s1.vd.seamLate else s1.vd.seamLate
    let line := match s1.cmp.out with
      | c :: _ => (c.slot.epoch, c.slot.wln, c.slot.wpos)
      | [] => (s1.deck.epoch, s1.faultLine.1, s1.faultLine.2)
    let s2 : State := { s1 with
      vd := { s1.vd with
        pair := 1, splitCause := cause, splits := satInc s1.vd.splits, seamLate := late, seamIn := [], seamLast := none
        unions := [], parts := [], touched := [], cuts := [], fwd := none }
      seg := { s1.seg with divert := [], cutNow := [] } }
    ((s2.ownPosition).notifyIn line.1 0x0803 cause 0 0 line.2.1 line.2.2 s2.time).lanesBack

/- The seam rows. -/

/-- SEAM (R458): the peer's STATE and label for a line. `merge` says whether PAIR_MERGE is 1 in the peer's deck (R225): no message carries it, so the command
does (DEDUCED, log 55). -/
def execSeam (wln epoch state label : Nat) (s : State) (merge : Bool := true) : Outcome :=
  .next (if s.vd.pair = 2 then { s with vd := { s.vd with
    seamIn := s.vd.seamIn ++ [{ wln := wln, epoch := epoch, state := state, label := label, merge := merge }] } } else s)

/-- A part in pair positions, with absolute sums (R458); WPOS of its first line is this device's own. -/
def State.partOf (s : State) (d : Descriptor) : Descriptor :=
  let wl := (s.deckOf d.epoch).width
  let at' := match s.comb.lines.find? (fun l => l.epoch == d.epoch && l.wln == d.y0) with
    | some l => l.wpos
    | none => d.wpos
  { d with
    flags := Nat.land d.flags 0xCC0, seq := 0, link := 0, segment := 0, prior := 0, linkY0 := 0, wpos := at', first := false
    fx := d.x0 + wl, x0 := d.x0 + wl, x1 := d.x1 + wl, maxX := d.maxX + wl, sumX := d.sumX + (d.x0 + wl) * d.area, sumY := d.sumY + d.y0 * d.area }

/-- PART (R458): the primary takes a part of the secondary into its union; one whose label it has not joined waits for the line after it. -/
def execPart (d : Descriptor) (label : Nat) (s : State) : Outcome :=
  if s.vdRole ≠ 1 then .next s
  else
    let p := s.partOf d
    let cut := bitAt d.flags 2
    let pieces := if d.area = 0 then [] else [p]
    let s1 : State := if s.vd.unions.any (fun u => u.peer.contains label) then
        { s with vd := { s.vd with unions := s.vd.unions.map (fun u =>
            if u.peer.contains label then
              { u with peer := if cut then u.peer else u.peer.filter (· != label), peerLeft := u.peerLeft.filter (· != label)
                       peerDone := if cut then u.peerDone else u.peerDone ++ [label], pieces := u.pieces ++ pieces }
            else u) } }
      else { s with vd := { s.vd with parts := s.vd.parts ++ pieces.map (fun p => (label, p)) } }
    let s2 := s1.settleSeam
    .next { s2 with seg := s2.seg.orderNew s.seg.queue.length }

/-- CUT (R458): the secondary cuts its part at the named line. -/
def execCut (label wln : Nat) (s : State) : Outcome :=
  .next (if s.follows then { s with vd := { s.vd with cuts := s.vd.cuts ++ [(label, wln)] } } else s)

/-- SEAM_TIMEOUT (R459): 50 µs after the compare stage delivered line wln the peer's message is missing; the device splits there. -/
def execSeamTimeout (wln : Nat) (s : State) : Outcome :=
  match s.cmp.out with
  | [] => .next s
  | c :: _ =>
    let missing := s.merging c.slot.epoch && c.slot.wln == wln &&
      !s.vd.seamIn.any (fun m => m.epoch == c.slot.epoch && m.wln == wln)
    .next (if missing then s.splitPair (if s.vd.link = 2 then 5 else 1) else s)

end Sys2Proof.Machine
end

