-- ==== Sys2Proof/Machine/Modes.lean ====
section
/-! DEFINITION. Operating modes (R546-R553): MODE_SET and the end of a transit, what each block does on entry and exit, SYS_STOP, SAFE_HOLD, and
what the camera-bar switch line and the mode line do beside the position block. -/

namespace Sys2Proof.Machine

/- What a line brings with it. -/

/-- A print grid in the coordinates of H after the camera-bar switch (R87, R314). -/
def Grid.rebase (g : Grid) (wd : Int) (new : Nat) : Grid :=
  { g with q0 := g.q0 - wd * 65536, origin := g.origin - wd, adj := if g.epoch = new then 0 else g.adj + wd }

/-- A head's labels of the new epoch, and its runs, in the coordinates after the camera-bar switch (R61, R314). -/
def Head.rebase (x : Head) (wd : Int) (new : Nat) : Head :=
  { x with
    events := x.events.map (fun (e : OpenEvent) => if e.epoch = new then { e with first := e.first - wd, last := e.last - wd } else e)
    log := x.log.map (fun (l : FiredLine) => if l.epoch = new then { l with label := l.label - wd } else l)
    runs := x.runs.map (fun r => (r.1, r.2.1, r.2.2 - wd)) }

/-- The grids that the old and the new epoch use, kept before the camera-bar switch. -/
def State.keepGrids (s : State) (new : Nat) (d : Container) : State :=
  (upto 8).foldl (fun (s : State) l =>
    let s1 := if (s.camDeck.groupHeads s.profile.current l).isEmpty then s else s.keepGrid l s.deck.epoch
    if (d.groupHeads s.profile.current l).isEmpty then s1 else s1.keepGrid l new) s

/-- What the camera-bar switch does beside position and intake (R61, R62, R135, R185, R242, R314, R540): print coordinates follow H, outputs that
waited for Wd leave, the parameter half, the table set and the converter bank change, and learning ends. -/
def State.switchHook (s pre : State) : State :=
  if s.deck.epoch = pre.deck.epoch then s else
  let new := s.deck.epoch
  let wd := s.deck.lastWd
  let kept := pre.keepGrids new s.camDeck
  let s1 : State := { s with
    print := { s.print with
      grids := kept.print.grids.map (fun g => g.rebase wd new)
      head := s.print.head.map (fun x => x.rebase wd new) }
    comb := { s.comb with half := 1 - s.comb.half, halves := ((new, 1 - s.comb.half) :: s.comb.halves).take 16 }
    mon := { s.mon with swapDue := true }
    cal := { s.cal with inUse := s.cal.stagedSet } }
  (s1.wdKnown wd).learnEnds .badState (badState s 7).detail

/-- A learning mode (R183). -/
def Mode.learns : Mode → Bool
  | .learn | .makeready => true
  | _ => false

/-- The mode line of a change between two web modes (R549, R337, R185): heads start or stop, and learning ends with LEARN and MAKEREADY. -/
def State.modeLineHook (s pre : State) : State :=
  if s.sys.transit && s.sys.mode.isWeb && s.sys.target.isWeb && pre.intake.ser == s.sys.modeSer && decide (s.intake.ser > s.sys.modeSer) then
    let s1 := if s.sys.target.isPrint && !s.sys.mode.isPrint then s.enterPrint
      else if s.sys.mode.isPrint && !s.sys.target.isPrint then s.leavePrint else s
    if s.sys.mode.learns && !s.sys.target.learns then s1.learnEnds .badState (badState s 7).detail else s1
  else s

/- Exits. -/

/-- A swap that is armed or in transit completes as the web modes are left (R63; an armed one too, DEDUCED, log 56). -/
def State.finishSwap (s : State) : State :=
  match s.deck.swap with
  | none => s
  | some w =>
    let s1 := s.swapBegins w
    let s2 := if w.cameraDone then s1
      else
        let a := s1.activate w.slot
        a.notifyIn a.deck.epoch 0x0103 a.deck.epoch 0 0 0 0 a.time
    let s3 : State := { s2 with deck := { s2.deck with swap := none, stationEpoch := [] } }
    (if w.cameraDone then s3 else s3.wdKnown 0).notify 0x0104 0 0 0

/-- Lines stop (R549, R337, R111): the last strip ends, heads stop, free-run ends, a swap completes and learning ends. -/
def State.leaveWeb (s : State) : State :=
  let s0 := if s.sys.mode.isPrint || (s.print.head.any (·.on)) then s.leavePrint else s
  let s1 : State := { s0 with
    sys := { s0.sys with lineMode := .standby }
    pos := { s0.pos with freeRun := false }
    intake := { s0.intake with strips := s0.intake.strips.map Strip.cut, exitPending := true, breakEnd := none, breakLine := none } }
  let s2 := forEach (fun c s => s.retarget c) (upto 24) (if s.sys.mode.isPrint then s1.deliverRequest else s1).portsReturn
  ((s2.endStrip.finishSwap).learnEnds .badState (badState s 7).detail).endIfIdle

/-- CALIBRATE ends (R111, R135, R169): the last strip ends; ports that a CAL_FLAT phase has not finished fail, and the command completes
(DEDUCED, log 57); the calibration tables are copied into the sets. -/
def State.leaveCal (s : State) : State :=
  let s1 : State := { s with
    sys := { s.sys with lineMode := .standby }
    intake := { s.intake with strips := s.intake.strips.map Strip.cut, exitPending := true, breakEnd := none, breakLine := none } }
  let s2 := (forEach (fun c s => s.retarget c) (upto 24) s1.portsReturn).endStrip
  let s3 := match s2.cal.phase with
    | none => s2
    | some ph =>
      let left := (bitsSet 24 ph.ports).filter (fun p => !ph.ended s2.camDeck.ffLines p)
      let ph1 : CalPhase := { ph with failed := left.foldl setBit ph.failed }
      let a := left.foldl (fun (s : State) p => s.calRecord 4 (some p) ((s.profile.current.portCam p).map Prod.fst) (some (getN s.cal.count p 0)) none none none none none) s2
      let b := forEach (fun p s => s.calPortDone ph1 p) (upto 24) a
      ({ b with cal := { b.cal with phase := none } } : State).completeCode 0x0302 .ok ph1.failed
  { s3 with cal := { s3.cal with inUse := s3.cal.table, stagedSet := s3.cal.table } }

/-- The stage-time checks repeated on a deck that holds a role, as a new profile takes effect (R40): a deck that fails loses the role with
NOTIFY DECK_DROPPED. -/
def State.recheck (s : State) (slot : Option Nat) (behind : Option Container) : State × Bool :=
  match slot with
  | none => (s, false)
  | some k =>
    match s.stageCheck ((s.slotDeck k).getD {}) (behind.getD {}) behind.isSome s.profile.current with
    | none => (s, false)
    | some r => (s.notify 0x0100 k (r.detail * 2 ^ 32 + r.status) 0, true)

/-- A loaded profile takes effect on leaving CONFIGURE (R40, R445, R567): it is stored, the network takes it, and the decks are checked again. -/
def State.takeProfile (s : State) : State :=
  match s.profile.loaded with
  | none => s
  | some p =>
    let s0 : State := { s with
      profile := { s.profile with current := p, loaded := none, stored := some s.profile.loadedBytes, loadedBytes := [] }
      net := s.net.profileTakes }
    let s1 := s0.assignTargets
    let a := s1.recheck s1.deck.active none
    let s2 : State := if a.2 then { a.1 with deck := { a.1.deck with active := none, refActive := none } } else a.1
    let b := s2.recheck s2.deck.staged s2.activeDeck
    if b.2 then { b.1 with deck := { b.1.deck with staged := none, refStaged := none } } else b.1

/-- Frame stores, cell memories and line store zeroed (R249, R423), with the parameter sets of the decks that hold a role placed again. -/
def State.initMemories (s : State) : State :=
  let s1 := (((s.clear 0x0100000000 0x2000000).clear 0x0110000000 0x4000000).clear 0x0200000000 0x6000000)
  let s2 := ((upto 16).filter s.frameUp).foldl State.frameParams s1
  { s2 with
    fault := { s2.fault with memoriesDirty := false, diagWrites := [] }
    comb := { s2.comb with usedFrames := [], usedCells := [] } }

/-- Training of the pairing link starts (R451, R454). -/
def State.startTraining (s : State) : State :=
  if (s.vdRole = 1 ∨ s.vdRole = 2) ∧ !s.fault.viaductUnusable then s.beginTraining else s

/-- DIAGNOSTIC ends (R423, R451, R467, R550). -/
def State.leaveDiag (s : State) : State :=
  let s1 := if s.fault.memoriesDirty then s.initMemories else s
  ({ s1 with
    fault := { s1.fault with diagWrites := [] }
    vd := { s1.vd with tests := [], testMode := false } } : State).startTraining

/-- STANDBY ends (R498, R538, R552, R483): the monitor restarts, DRAM leaves self-refresh at set point 0, and host channels resume. -/
def State.leaveStandby (s : State) : State :=
  { s with
    mon := if s.fault.monitorUnusable then s.mon else s.mon.restart
    dram := { s.dram with selfRefresh := false, awake := false, setPoint := 0 }
    dma := { s.dma with chan := s.dma.chan.map (fun (c : DmaChan) =>
      if c.standbyPaused then { c with standbyPaused := false, run := if c.pause then c.run else .running } else c) } }

/-- Refreshes of a rank are issued, all-bank or per-bank as REF_MODE sets (R495, R501). -/
def State.refresh (s : State) (rank n : Nat) : State :=
  if n = 0 then s else s.emit (.dramRefresh rank n (s.profile.current.b 0x8040 0 0x00 2 true))

/-- Every owed refresh is issued before a set-point change or self-refresh (R498). -/
def State.refreshOwed (s : State) : State :=
  let s1 := (upto 16).foldl (fun (s : State) r => s.refresh r (getN s.dram.owed r 0)) s
  { s1 with dram := { s1.dram with owed := List.replicate 16 0, ahead := List.replicate 16 0 } }

/-- Every rank enters self-refresh (R498). -/
def State.selfRefreshes (s : State) : State := { s with dram := { s.dram with selfRefresh := s.dram.trained, awake := false } }

/-- Entry into STANDBY (R498, R533, R538, R552). -/
def State.enterStandby (s : State) : State :=
  let s1 := s.stopAxes 63 false
  ({ s1 with pos := s1.pos.teethIdle, mon := { s1.mon with running := false } } : State).refreshOwed.selfRefreshes

/-- Host channels that run are paused as STANDBY is entered (R480, R483). -/
def DmaState.pauseAll (m : DmaState) : DmaState :=
  { m with chan := m.chan.map (fun (c : DmaChan) => if c.run = .running then { c with run := .draining, standbyPaused := true } else c) }

/- Entries. -/

/-- Entry into a web mode from another mode (R7, R60, R86, R156, R337, R455, R456): a new epoch, WLN 0, and the deck's settings at the first
line. The secondary of a joint entry takes the primary's epoch and position. -/
def State.enterWeb (s : State) (target : Mode) : State :=
  let d := s.activeDeck.getD {}
  let join := s.vd.joinNext && s.vd.link == 2
  let second := join && s.vdRole == 2
  let e := if second then (if s.vd.infoSince then s.vd.peerEpoch else nextEpoch s.vd.peerEpoch) else nextEpoch s.deck.epoch
  let p := s.pos.enterWeb (if second then none else s.sourceFor d)
  let s1 : State := { s with
    sys := { s.sys with lineMode := target }
    deck := { (s.deck.addEpoch e d) with epoch := e, prevEpoch := 0, lastWd := 0 }
    reg := { (s.bindEpoch e s.deck.refActive).reg with bands := [], bad := [] }
    comb := { s.comb with halves := ((e, s.comb.half) :: s.comb.halves).take 16 }
    pos := { p with lastLine := none, freeRun := p.freeRun && !second }
    print := { s.print with grids := [] }
    intake := { s.intake with
      firstSer := s.intake.ser, stripIndex := 0, switchSer := none, breakEnd := none, breakLine := none, activation := false }
    vd := { s.vd with joinNext := false, infoSince := false, pair := if join then 2 else s.vd.pair } }
  let s2 := if join then s1.notify 0x0802 0 0 0 else s1
  let s3 := s2.activateCams d none s.intake.ser
  let s4 := ({ s3 with cal := { s3.cal with codeNext := activationCodes d none } } : State).activateTrestle d
  (if target.isPrint then s4.enterPrint else s4).sendPairInfo

/-- Entry into CALIBRATE (R156, R168, R169): CLN starts at 0, and a deck activated before governs from the first timed trigger. -/
def State.enterCal (s : State) : State :=
  let s1 : State := { s with
    sys := { s.sys with lineMode := .calibrate }
    cal := { s.cal with cln := 0, dark := [], phase := none, lastTrig := none }
    intake := { s.intake with
      stripIndex := 0, firstSer := s.intake.ser, switchSer := none, breakEnd := none, breakLine := none, activation := false } }
  if s.intake.activation then
    let s2 := s1.activateCams s.camDeck none s.intake.ser
    { s2 with cal := { s2.cal with codeNext := activationCodes s.camDeck none } }
  else s1

/- MODE_SET (R409, R547-R549). -/

/-- Transitions that MODE_SET permits (R547). -/
def Mode.permits (m target : Mode) : Bool :=
  match m with
  | .standby | .configure => target == .standby || target == .configure || target == .diagnostic || target == .calibrate || target.isWeb
  | .diagnostic => target == .standby || target == .configure
  | .calibrate => target == .standby || target == .configure || target.isWeb
  | .boot | .selftest | .safeHold => false
  | _ => target.isWeb || target == .standby || target == .configure || target == .calibrate

/-- Does a mode need an ACTIVE deck (R40)? -/
def Mode.needsDeck (m : Mode) : Bool := m.isWeb || m == .calibrate

/-- Can the primary ask for a joint entry now (R455, R468): the link is up between a left and a right device of one protocol version, with a payload
capacity of 6 Gb/s each way? -/
def State.capacityOk (s : State) : Bool :=
  decide (popcount 8 s.vd.tx * s.vd.rate * 64 ≥ 6000 * 66) && decide (popcount 8 s.vd.rx * s.vd.rate * 64 ≥ 6000 * 66)

/-- May this device ask for a joint entry? -/
def State.mayJoin (s : State) : Bool :=
  s.vdRole == 1 && s.vd.link == 2 && s.vd.peerRole == 2 && s.vd.peerVersion == viaductVersion && s.capacityOk && s.vd.pair != 2

/-- Refusals of a joint entry at the secondary (R455): it is in a web mode, or the pitches differ. -/
def State.joinRefuse (s : State) : Option Reply :=
  if s.sys.mode.isWeb ∨ s.vd.pair = 2 then some (badState s 1)
  else match s.activeDeck with
    | none => some (badState s 3)
    | some d => if s.vdRole ≠ 2 ∨ s.vd.peerRole ≠ 1 ∨ s.vd.peerVersion ≠ viaductVersion ∨ d.pxPitch ≠ s.vd.peerPitch ∨ d.pitch ≠ s.vd.peerPosPitch then some (badState s 1) else none

/-- What MODE_SET answers without a transit (R409, R456, R547, R548, R585, R592). -/
def State.modeRefuse (s : State) (q : Req) (target : Nat) : Option Reply :=
  if s.sys.transit then some (.fail .busy 7) else
  match s.followRefuse q with
  | some r => some r
  | none =>
  match modeOf target with
  | none => some (badState s 1)
  | some t =>
    if q.mbx = 3 ∧ t.isWeb ∧ s.vd.pair ≠ 2 ∧ s.joinRefuse.isSome then s.joinRefuse
    else if t = s.sys.mode then some {}
    else if !s.sys.mode.permits t then some (badState s 1)
    else if (t = .diagnostic && s.profile.current.b 0x8070 0 0x00 0 false) || (t.isWeb && s.fuse.lifeCycle == 5) then some (.fail .denied 3)
    else if t.needsDeck && s.activeDeck.isNone then some (badState s 3)
    else none

/-- MODE_SET executes (R548, R549): the transit begins; lines stop at once on the way out of the web modes or CALIBRATE, and the mode line is the
next line between two web modes. The pair follows (R455, R456). -/
def State.modeBegin (s : State) (q : Req) (t : Mode) : State :=
  let s1 : State := { s with sys := { s.sys with transit := true, target := t, modeSer := s.intake.ser } }
  let s2 : State :=
    if s.sys.mode.isWeb && t.isWeb then { s1 with sys := { s1.sys with lineMode := t } }
    else if s.sys.mode.isWeb then s1.leaveWeb
    else if s.sys.mode = .calibrate then s1.leaveCal
    else s1
  let s3 : State := if t = .standby then { s2 with dma := s2.dma.pauseAll } else s2
  let ask := leBytes 4 t.code
  let s4 : State :=
    if s.leads then s3.askPeer 0x0004 0 ask none
    else if t.isWeb && !s.sys.mode.isWeb && s.mayJoin then s3.askPeer 0x0004 0 ask (some (q, 0))
    else if q.mbx = 3 && t.isWeb && s.vd.pair != 2 then { s3 with vd := { s3.vd with joinNext := true, infoSince := false } }
    else s3
  s4.start 0x0004 q [t.code]

/-- MODE_SET (R409, R546-R549). -/
def execModeSet (q : Req) (target : Nat) (s : State) : Outcome :=
  runCmd 0x0004 q .nb false (s.modeRefuse q target) (s.modeBegin q ((modeOf target).getD .boot), .accepted) s

/-- Effect of SYS_STOP (R406): MAKEREADY from INSPECT, PRINT and PRINT_VERIFY, and every axis stops. -/
def State.stopAll (s : State) : State :=
  let s1 : State :=
    if s.sys.mode = .inspect ∨ s.sys.mode.isPrint then
      let a : State := { s with pos := s.pos.teethAfresh, sys := { s.sys with mode := .makeready, target := .makeready, lineMode := .makeready } }
      if s.sys.mode.isPrint then a.leavePrint else a
    else s
  s1.stopAxes 63 false

/-- The response of SYS_STOP: the mode then in force (R406). -/
def State.stopReply (s : State) : Reply := .ok (leBytes 4 s.sys.mode.code)

/-- SYS_STOP requests that arrived during the transit act now (R548). -/
def State.serveStops (s : State) : State :=
  s.keeper.stops.foldl (fun (s : State) q => let a := s.stopAll
                                             a.respond 0x0005 q a.stopReply)
    { s with keeper := { s.keeper with stops := [] } }

/-- SYS_STOP (R406, R456, R548): during a transit it acts at the transit's end; a joined pair's other device takes it too. -/
def execSysStop (q : Req) (s : State) : Outcome :=
  match admission s q .nb true with
  | some r => .next (s.respond 0x0005 q r)
  | none =>
    let s1 := if s.vd.pair = 2 ∧ q.mbx ≠ 3 then s.askPeer 0x0005 0 [] none else s
    if s1.sys.transit then .next { s1 with keeper := { s1.keeper with stops := s1.keeper.stops ++ [q] } }
    else
      let a := s1.stopAll
      .next (a.respond 0x0005 q a.stopReply)

/-- Has the condition of a transit's end come (R455, R480, R550)? -/
def State.transitReady (s : State) : Bool :=
  s.sys.transit &&
  (if s.sys.mode.isWeb && s.sys.target.isWeb then decide (s.intake.ser > s.sys.modeSer) else true) &&
  !(s.vd.asked.any (fun a => a.2.1 == 0x0004)) &&
  !(s.sys.target == .standby && s.dma.chan.any (fun c => c.run == .draining))

/-- The transit ends in a mode (R550, R382): TRANSIT clears and vector 21 fires; MODE_SET completes and held SYS_STOP requests act. -/
def State.transitEnds (s : State) (m : Mode) (st : Status) (reason : Nat) : State :=
  let s1 : State := { s with sys := { s.sys with mode := m, target := m, transit := false } }
  let s2 := (s1.completeCode 0x0004 st (if st = .ok then 0 else (badState s1 reason).detail)).raiseIrq 21
  s2.serveStops

/-- What the mode that is left does as the transit ends. -/
def State.leaveAtEnd (s : State) : State :=
  match s.sys.mode with
  | .configure => s.takeProfile
  | .diagnostic => s.leaveDiag
  | .standby => s.leaveStandby
  | _ => s

/-- What the mode that is entered does as the transit ends. -/
def State.enterAtEnd (s : State) (t : Mode) : State :=
  let s1 : State := { s with pos := s.pos.teethAfresh }
  if t.isWeb then (if s.sys.mode.isWeb then s1 else s1.enterWeb t)
  else if t = .calibrate then s1.enterCal
  else if t = .standby then s1.enterStandby
  else s1

/-- MODE_TRANSIT_DONE (R40, R455, R456, R549, R550): the mode changes. A web mode or CALIBRATE is not entered where the new profile has dropped the
ACTIVE deck (R40; log 54). Before the transit's condition has come nothing happens (log 7). Leaving DIAGNOSTIC after a write to operator code is
misuse (R255). -/
def execModeTransitDone (s : State) : Outcome :=
  if !s.transitReady then .next s
  else if s.sys.mode = .diagnostic ∧ s.comb.codeTouched then .fault (.misuse 255)
  else
  let t := s.sys.target
  let s1 := s.leaveAtEnd
  if t.needsDeck && s1.activeDeck.isNone then .next (s1.transitEnds s.sys.mode .badState 3)
  else
    let s2 := s1.enterAtEnd t
    let s3 := if s.sys.mode.isWeb && !t.isWeb then (s2.splitPair 0) else s2
    .next (s3.transitEnds t .ok 0)

/- SAFE_HOLD (R553). -/

/-- What a mode that SAFE_HOLD ends does at its exit: STANDBY as always (R498, R538), the monitor restarts after SELFTEST (R538), and the pairing link
trains again after DIAGNOSTIC (R451, R467). -/
def State.wakes (s : State) : State :=
  match s.sys.mode with
  | .standby => s.leaveStandby
  | .selftest => { s with mon := if s.fault.monitorUnusable then s.mon else s.mon.restart }
  | .diagnostic => ({ s with vd := { s.vd with tests := [], testMode := false } } : State).startTraining
  | _ => s

/-- Entry into SAFE_HOLD: heads gated with HSEN low, axes stopped abruptly with EN inactive (log 53), line triggers stopped; a transit ends here
(R548), a pair splits (R460), and the Keeper goes on from ROM. -/
def State.safeHold (s : State) : State :=
  if s.sys.mode = .safeHold then { s with sys := { s.sys with failed := false } } else
  let s1 := ((s.gateHeads s.wiredHeads true).dropAxes).wakes
  let s2 := if s1.sys.lineMode.isWeb then s1.leaveWeb.splitPair 4 else if s1.sys.lineMode = .calibrate then s1.leaveCal else s1
  let s3 : State := { s2 with pos := s2.pos.teethAfresh, sys := { s2.sys with lineMode := .safeHold, romHandler := true, failed := false } }
  if s.sys.transit then s3.transitEnds .safeHold .badState 1
  else { s3 with sys := { s3.sys with mode := .safeHold, target := .safeHold } }

/-- An essential block that failed in a command brings SAFE_HOLD at its end (R553). -/
def State.settle (s : State) : State := if s.sys.failed then s.safeHold else s

end Sys2Proof.Machine
end

