-- ==== Sys2Proof/Machine/Viaduct.lean ====
section
/-! DEFINITION. The Viaduct pairing link (R450-R469): training, lanes, replay, PAIRINFO, requests to and from the peer, position forwarded to
the secondary. The LINE message is in Lines.lean, the seam messages in Seam.lean. -/

namespace Sys2Proof.Machine

/- Lanes (R451, R468). -/

/-- The largest power of two at or below n, for n up to 8. -/
def pow2Below (n : Nat) : Nat := if n ≥ 8 then 8 else if n ≥ 4 then 4 else if n ≥ 2 then 2 else n

/-- The lanes that a direction uses: its lowest-numbered good data lanes, a power of two of them (R451). -/
def lanesUsed (good : Nat) : Nat :=
  let l := bitsSet 8 good
  sumN ((l.take (pow2Below l.length)).map (fun i => 2 ^ i))

/-- Receive lanes in service among a mask. -/
def State.liveLanes (s : State) (mask : Nat) : Nat :=
  sumN (((bitsSet 9 mask).filter (fun l => !s.isRetired 0x0B l)).map (fun i => 2 ^ i))

/-- The link goes down (R456, R460, R468): a joined pair splits with cause 1, a MODE_SET that waits for the peer goes on alone, and a joint arm
that waits is answered as R67 answers a joint cancel without the link (DEDUCED, log 65). -/
def State.linkLost (s : State) (st : Nat) : State :=
  let up := s.vd.link == 2
  let waiting := s.vd.asked.filter (fun a => a.2.1 == 0x0103)
  let s1 : State := { s with vd := { s.vd with link := st, tx := 0, rx := 0, asked := [], joinNext := false } }
  let s2 := waiting.foldl (fun (s : State) a => s.respond 0x0103 a.2.2.1 (.fail .busy 2)) s1
  (if up then s2.notify 0x0801 0 0 0 else s2).splitPair 1

/-- LINK_DOWN: the link or its clock lane is lost (R460). -/
def execLinkDown (s : State) : Outcome := .next (if s.vd.link = 2 ∨ s.vd.link = 1 then s.linkLost 0 else s)

/-- A direction whose payload capacity has fallen below 6 Gb/s splits a joined pair (R460, R468). -/
def State.checkCapacity (s : State) : State := if s.vd.link = 2 ∧ !s.capacityOk then s.splitPair 3 else s

/-- A receive lane is retired (R468): the remaining lanes go on, or the link goes down with the clock lane or the last data lane. A link between
equal roles carries no LANES message (R454), so it goes down to train on the remaining lanes (DEDUCED, log 180). -/
def State.laneRetired (s : State) (lane : Nat) : State :=
  if s.vd.link ≠ 2 then s
  else if lane = 8 then s.linkLost 0
  else
    let left := lanesUsed (clearBit s.vd.rx lane)
    if left = 0 ∨ (bitAt s.vd.rx lane ∧ s.vd.peerRole = s.vdRole) then s.linkLost 0
    else if bitAt s.vd.rx lane then
      (({ s with vd := { s.vd with rx := left } } : State).sendVd 0x04 [left, s.vd.seq]).checkCapacity
    else s

/-- LANES (R468): the peer's receivers go on with these lanes, so this device transmits on them. -/
def execLanes (mask firstSeq : Nat) (s : State) : Outcome :=
  if s.vd.link ≠ 2 ∨ firstSeq ≥ 2 ^ 16 then .next s
  else .next ({ s with vd := { s.vd with tx := lanesUsed mask } } : State).checkCapacity

/-- The messages held from a SEQ on are sent again, oldest first (R453). -/
def State.resend (s : State) (first : Nat) : State :=
  (s.vd.sent.reverse.dropWhile (fun m => m.1 != first)).foldl (fun (s : State) m => s.emit (s.vdOut m.1 m.2.1 m.2.2)) s

/-- REPLAY_REQUEST (R453, R469): a message failure counts REPLAY; an invalid sync header or a failed check word is an occurrence against its
receive lane. The receiver asks for a replay from the first missing SEQ; with `peer` the request is the peer's, and this device sends again. -/
def execReplayRequest (lane : Option Nat) (code : Nat) (s : State) (first : Nat := 0) (peer : Bool := false) : Outcome :=
  if s.vd.link ≠ 2 then .next s else
  if peer then .next (s.resend first) else
  let again (s : State) : State := ({ s with vd := { s.vd with replay := satInc s.vd.replay } } : State).emit (.viaductReplay first)
  match lane with
  | none => .next (again s)
  | some l =>
    if l > 8 then .next s
    else
      let s1 : State := if code = 1 then again { s with vd := { s.vd with syncErr := updAt s.vd.syncErr l satInc } }
        else { s with vd := { s.vd with chkErr := updAt s.vd.chkErr l satInc } }
      let r := s1.occur 0x0B l (if code = 1 then 1 else 2) 0 s1.faultLine
      .next (if r.1 then r.2.laneRetired l else r.2)

/- Training (R451-R454). -/

/-- May the link train: its role is primary or secondary, its logic is usable, and no lane test holds it (R454, R467, R581)? -/
def State.mayTrain (s : State) : Bool := (s.vdRole == 1 || s.vdRole == 2) && !s.fault.viaductUnusable && !s.vd.testMode

/-- LINK_TRAIN_RETRY: every 100 ms training runs while the link is down (R451). -/
def execLinkTrainRetry (s : State) : Outcome := .next (if s.mayTrain && s.vd.link == 0 then s.beginTraining else s)

/-- The next rate below, and 0 below the lowest (R451). -/
def lowerRate (rate : Nat) : Nat := if rate > 10000 then 10000 else if rate > 6250 then 6250 else if rate > 3125 then 3125 else 0

/-- TRAIN (R451, R452, R454, R469): each direction takes its good lanes; with one in each the link is up, and with none in either direction training
steps down one rate. `goodMask` is the peer's, for what this device transmits. The device answers with its own TRAIN, which echoes the stamp. Without a
clock lane, or below the lowest rate, the link stays down until the next retry. -/
def execTrain (version role goodMask chipId : Nat) (ownGoodMask rttNs stamp : Nat) (s : State) : Outcome :=
  if s.vd.link ≠ 1 ∨ !s.mayTrain then .next s else
  let own := s.liveLanes ownGoodMask
  let tx := lanesUsed goodMask
  let rx := lanesUsed own
  if !bitAt goodMask 8 ∨ !bitAt own 8 then .next { s with vd := { s.vd with link := 0 } } else
  if tx = 0 ∨ rx = 0 then
    .next (if lowerRate s.vd.trainRate = 0 then { s with vd := { s.vd with link := 0 } }
      else { s with vd := { s.vd with trainRate := lowerRate s.vd.trainRate } }) else
  let s1 : State := { s with vd := { s.vd with
    link := 2, rate := s.vd.trainRate, tx := tx, rx := rx, latNs := (rttNs + 1) / 2, peerChip := chipId, peerVersion := version, peerRole := role
    trains := satInc s.vd.trains
    roleConflict := if role = s.vdRole then satInc s.vd.roleConflict else s.vd.roleConflict } }
  let s2 := s1.sendVd 0x01 [viaductVersion, s.vdRole, own, s.fuse.chipId, stamp]
  .next ((s2.notify 0x0800 (tx + rx * 256) s.vd.trainRate ((rttNs + 1) / 2)).sendPairInfo)

/-- PAIRINFO (R461, R462): the right device takes WIDTH and pitch of the left one. R455 compares POSITION PITCH too; no message carries it, so the command
does (DEDUCED, log 180). -/
def execPairinfo (epoch width pitch : Nat) (s : State) (posPitch : Nat := 0) : Outcome :=
  .next (if s.vdRole = 2 ∧ s.vd.link = 2 ∧ s.vd.peerRole ≠ 2 then
      { s with vd := { s.vd with wl := width, peerPitch := pitch, peerPosPitch := posPitch, peerEpoch := epoch, infoSince := true } }
    else s)

/- Requests over MBX3 (R389, R455, R456, R461). -/

/-- The peer's answer to MODE_SET (R455): with an acceptance the entry is joint, else this device enters alone. -/
def State.modeAnswer (s : State) (status : Nat) : State :=
  if status ≤ 1 then { s with vd := { s.vd with joinNext := true } } else s

/-- The peer's answer to a joint arm (R66): the arm is accepted with the peer's acceptance, and a refusal goes back to the host. The lead is the
larger of the two devices' Lmin; where this device's web point no longer leaves it, the peer's arm is withdrawn and the host takes TOO_LATE. -/
def State.armAnswer (s : State) (q : Req) (ws : Int) (status detail lmin : Nat) : State :=
  if status ≠ 0 then s.respond 0x0103 q { status := status, detail := detail }
  else if !s.webRunning then s.respond 0x0103 q (.fail .badState s.hifMode)
  else if s.deck.swap.isSome then s.respond 0x0103 q (.fail .busy 1)
  else if s.deck.staged.isNone then s.respond 0x0103 q (.fail .notFound 0)
  else
    match s.armShort ws lmin with
    | some r => (s.askPeer 0x0104 0 [] none).respond 0x0103 q r
    | none => (s.armSwap ws true).1.respond 0x0103 q (s.armReply ws true lmin)

/-- VIADUCT_MBX (R389, R461): a request of the peer joins MBX3's queue; a response ends the request of this device that it names. -/
def execViaductMbx (response : Bool) (words : List Nat) (s : State) : Outcome :=
  if s.vd.link ≠ 2 then .next s else
  let bs := wordsBytes words
  if !response then .next { s with hif := { s.hif with peerQueue := s.hif.peerQueue ++ [requestOf bs 0 0 0 none] } } else
  let seq := leAt bs 4 4
  match s.vd.asked.find? (fun a => a.1 == seq) with
  | none => .next s
  | some a =>
    let s1 : State := { s with vd := { s.vd with asked := s.vd.asked.filter (fun x => x.1 != seq) } }
    .next (if a.2.1 = 0x0004 then s1.modeAnswer (leAt bs 0 2)
      else if a.2.1 = 0x0103 then s1.armAnswer a.2.2.1 a.2.2.2 (leAt bs 0 2) (leAt bs 12 4) (leAt bs 24 8)
      else s1)

/- Position (R457). -/

/-- POS_SEND_TIMER: every 100 ns the primary of a joined pair sends POS (R457). -/
def execPosSendTimer (s : State) : Outcome := .next s.sendPos

/-- REVERSE as the primary forwards it: its rise opens the gap of R91 here too (DEDUCED, log 66). -/
def State.forwardReverse (s : State) (reverse : Bool) : State :=
  if reverse && !s.pos.reverse then
    let s1 : State := { s with pos := { s.pos with
      reverse := true, revFirst := true, settle := s.camDeck.settleLines, reverseCount := satInc s.pos.reverseCount } }
    let s2 := s1.publish 0x03 s1.liveWpos
    s2.notifyIn s2.deck.epoch 0x0005 0 0 0 0 s2.liveWpos s2.time
  else { s with pos := { s.pos with reverse := reverse } }

/-- POS (R457): the secondary takes H and the flags; C and I follow H. -/
def execPos (h : Int) (reverse overspeed freerun : Bool) (s : State) : Outcome :=
  if !s.follows then .next s else
  let s1 : State := { s with
    pos := { s.pos with h := h, i := h, c := h, overspeed := overspeed, freeRun := freerun }
    vd := { s.vd with fwd := some (h, reverse, overspeed, freerun) } }
  .next (s1.forwardReverse reverse)

end Sys2Proof.Machine
end

