-- ==== Sys2Proof/Machine/Channels.lean ====
section
/-! DEFINITION. Channels (R124, R248, R408, R573-R582): what a retirement does to its block, REINSTATE, and self-test results. -/

namespace Sys2Proof.Machine

/-- The camera of a port, the odd port of a bonded camera included (R123). -/
def State.camOfAnyPort (s : State) (port : Nat) : Option Nat :=
  (upto 24).find? (fun c => s.profile.current.portsEn c &&
    (s.profile.current.portOf c == port || (s.profile.current.bond c && s.profile.current.portOf c + 1 == port)))

/-- What a channel that has left service does to its block (R574). -/
def State.unitRetired (s : State) (block inst code : Nat) : State :=
  match block with
  | 0x01 => match s.camOfAnyPort inst with
    | some c => (s.retireNow 1 (s.portOf c) code).portRetired c code
    | none => s
  | 0x02 => match s.camOfAnyPort inst with
    | some c => (s.retireNow 1 (s.portOf c) code).portRetired c code
    | none => s.retireNow 1 inst code
  | 0x05 => s.segmenterRetired
  | 0x06 => s.shedCodec
  | 0x07 => s.afterRetire code
  | 0x08 => s.afterRetire code
  | 0x09 => s.headRetired inst
  | 0x0A => s.inputRetired inst
  | 0x0B => s.laneRetired inst
  | _ => s

/-- A channel retired at once with all that follows (R560, R575, R579). -/
def State.retireUnit (s : State) (block inst code : Nat) : State :=
  if s.isRetired block inst then s else (s.retireNow block inst code).unitRetired block inst code

/-- A channel marked unusable by self-test, with its FAULT record of KIND 2 and CODE 0xFE (R581). -/
def State.markUnusable (s : State) (block inst : Nat) : State :=
  if (s.channel block inst).unusable then s
  else ({ s with fault := s.fault.setChannel { s.channel block inst with unusable := true } } : State).faultRecord 2 block inst 0xFE 0 0 s.faultLine 0

/- Print fetches: an error that DRAM could not correct may fail its controller (R330, R339, R497). -/

/-- HEAD_LINE_START (R316, R328, R339). -/
def execHeadLineStart (h t : Nat) (s : State) (entryError : Bool := false) : Outcome :=
  match s.headLineStart h t entryError with
  | none => .fault (.misuse 342)
  | some s1 => .next (if entryError then s1.settle else s1)

/-- BITMAP_BURST_DONE (R330, R339). -/
def execBitmapBurstDone (lead itemId row : Nat) (ok : Bool) (s : State) : Outcome :=
  let s1 := s.burstDone lead itemId row ok
  .next (if ok then s1 else s1.settle)

/- REINSTATE (R408, R578). -/

/-- A channel returns and REINSTATE completes. -/
def State.backNow (s : State) (block inst : Nat) : State := (s.returnChannel block inst).completeCode 0x0009 .ok 0

/-- A reinstated channel goes back to service by its chapter (R408): a port at the next strip boundary in a web mode or CALIBRATE, a head at its
next line start, a Viaduct lane when the pair is not JOINED, everything else at once. -/
def State.comesBack (s : State) (block inst : Nat) : State :=
  match block with
  | 0x01 => match s.camOfAnyPort inst with
    | none => (s.portBack inst).completeCode 0x0009 .ok 0
    | some c => if s.stripsRun then s.updCam c (fun m => { m with returning := true }) else s.portReturns c
  | 0x06 => ((s.returnChannel 6 inst).shedCodec).completeCode 0x0009 .ok 0
  | 0x08 => (s.frameParams inst).backNow 8 inst
  | 0x09 => (s.updHead inst (fun x => { x with returning := true })).hsenHigh inst
  | 0x0A => (s.inputReturns inst).completeCode 0x0009 .ok 0
  | 0x0B => if s.vd.pair = 2 then { s with vd := { s.vd with laneDue := s.vd.laneDue ++ [inst] } } else s.laneBack inst
  | b => s.backNow b inst

/-- Does the unit run its quick BIST before it returns: a cell, a frame, or a channel that self-test found unusable (R248, R578)? -/
def State.needsBist (s : State) (block inst : Nat) : Bool := block == 7 || block == 8 || (s.channel block inst).unusable

/-- Channel under which a REINSTATE runs: a correction stage retires and returns with its port (R574). -/
def backBlock (block : Nat) : Nat := if block = 2 then 1 else block

/-- Instance under which a REINSTATE runs: the even port stands for a bonded pair (R123). -/
def State.backInst (s : State) (block inst : Nat) : Nat :=
  if backBlock block ≠ 1 then inst else match s.camOfAnyPort inst with
    | some c => s.portOf c
    | none => inst

/-- REINSTATE starts (R408, R578): COMPLETE carries NOT_FOUND for a channel that is not retired, and for Span, DRAM channels and device-level
events. -/
def State.reinstate (s : State) (q : Req) (block inst : Nat) : State :=
  let i := s.backInst block inst
  let b := backBlock block
  let s1 := s.start 0x0009 q [b, i]
  if block = 0 ∨ block = 3 ∨ block ≥ 0x0C ∨ !s.isRetired block inst then s1.completeCode 0x0009 .notFound 0
  else if s.needsBist b i then s1
  else s1.comesBack b i

/-- REINSTATE (R408, R578). -/
def execReinstate (q : Req) (block inst : Nat) (s : State) : Outcome :=
  runCmd 0x0009 q .op false (busyIfRunning s 0x0009) (s.reinstate q block inst, .accepted) s

/- BIST (R423, R578, R582). -/

/-- BIST_RUN (R423): the tested memories no longer hold what they held. -/
def execBistRun (q : Req) (full : Bool) (s : State) : Outcome :=
  let s1 := s.start 0x0804 q [b2n full]
  runCmd 0x0804 q .diag false (busyIfRunning s 0x0804) ({ s1 with fault := { s1.fault with memoriesDirty := true } }, .accepted) s

/-- A unit's reinstatement BIST has finished (R248, R578): the unit returns, or COMPLETE carries RETIRED. -/
def State.unitBist (s : State) (failures : List BistEntry) : State :=
  match s.runningCmd 0x0009 with
  | none => s
  | some r =>
    match r.args with
    | [block, inst] =>
      if !s.needsBist block inst ∨ (s.cam ((s.camOfAnyPort inst).getD 0)).returning && block == 1 then s
      else if failures.any (fun e => backBlock e.block == block && e.inst == inst) then s.complete r .retired 0
      else s.comesBack block inst
    | _ => s

/-- BIST_DONE (R423, R578, R582): the results of a run by command, which marks no unit; else the result of a unit's own BIST. -/
def execBistDone (failures : List BistEntry) (durationUs : Nat) (s : State) : Outcome :=
  match s.runningCmd 0x0804 with
  | some r =>
    let s1 : State := { s with fault := { s.fault with
      bist := failures, bistFull := r.args == [1], bistRan := true, bistUs := durationUs % 2 ^ 32 } }
    .next (s1.complete r .ok 0)
  | none => .next (s.unitBist failures)

/-- BIST_RESULT (R423, R582). -/
def execBistResult (q : Req) (s : State) : Outcome :=
  let f := s.fault
  runCmd 0x0805 q .nb false none
    (s, .ok (wordsBytes ([b2n f.bistFull + 2 * b2n f.bistRan + f.bist.length % 2 ^ 16 * 2 ^ 16, f.bistUs] ++
      (f.bist.take 1016).map (fun e => e.inst * 2 ^ 16 + e.block * 2 ^ 8 + e.kind)))) s

end Sys2Proof.Machine
end

