-- ==== Sys2Proof/Machine/HostMem.lean ====
section
/-! DEFINITION. Memory as the host reaches it (R30, R32, R253, R384, R422, R427, R484-R486): visibility by mode, reads of areas whose contents the
manual does not give, BAR2, PEEK and POKE, and the blocks and transfers of the host region. -/

namespace Sys2Proof.Machine

/- Visibility (R486). -/

/-- Record rings and item queues, whose entries the host writes as R285 and R327 permit. -/
def State.entryRanges (s : State) : List (Nat × Nat) :=
  s.ringRanges ++
  (s.print.queue.filter (fun q => q.base.isSome)).map (fun q => (q.addr 0, 64 * q.size))

/-- May the host write this DRAM range outside DIAGNOSTIC (R486)? -/
def State.hostWritable (s : State) (a n : Nat) : Bool := s.inRegion 11 a n || inBlocks s.refWritable a n || inBlocks s.entryRanges a n

/-- Is a range open to the host in the present mode (R253, R486)? -/
def State.hostVisible (s : State) (a n : Nat) (write : Bool) : Bool :=
  let diag := s.sys.mode == .diagnostic
  if s.sys.mode == .boot || s.sys.mode == .selftest || s.sys.mode == .standby then false
  else match s.rangeOf a n with
    | some 3 => diag || !write
    | some 4 => diag || !write
    | some 5 => diag
    | some 6 => !s.dram.failed && (diag || !write || s.hostWritable a n)
    | _ => false

/- Contents (R249, R253, R423, R484). -/

/-- Are the contents at an address of a range not given by the manual: ROM, Keeper RAM, internal registers, the line store, the scheduler area of a frame
store, operator code, the work area of a frame and the data memory of a cell that have taken a task, every on-chip memory after a BIST by command
(R423; log 68), and the strip buffers and calibration tables in the
intake region of DRAM, whose places R112 and R492 leave open (log 159)? -/
def State.unknownAt (s : State) (range a : Nat) : Bool :=
  match range with
  | 3 =>
    let off := (a - 0x0100000000) % 0x200000
    decide (off ≥ 0x1C0000) || (decide (off ≥ 0x100000) && s.comb.usedFrames.contains ((a - 0x0100000000) / 0x200000)) || s.fault.memoriesDirty
  | 4 =>
    decide ((a - 0x0110000000) % 0x40000 < 0x10000) || s.comb.usedCells.contains ((a - 0x0110000000) / 0x40000) || s.fault.memoriesDirty
  | 6 => s.inRegion 10 a 1
  | _ => true

/-- The byte at an address as a read finds it: unknown contents are free unless the host wrote them in DIAGNOSTIC (log 3). -/
def State.seenByte (s : State) (range a : Nat) : Byte :=
  if s.unknownAt range a && !inBlocks s.fault.diagWrites a 1 then Config.freeByte s.free a else memByte s.mem a

/-- Bytes as a read of the host finds them. -/
def State.seen (s : State) (a n : Nat) : List Byte :=
  match s.rangeOf a n with
  | some 6 => if a + n ≤ s.regionBase 10 ∨ s.regionBase 10 + s.regionSize 10 ≤ a then s.read a n else (natsFrom n a).map (s.seenByte 6)
  | some r => (natsFrom n a).map (s.seenByte r)
  | none => []

/-- A write of the host reaches memory. In DIAGNOSTIC it settles what its bytes hold; a write to operator code is remembered (R255). -/
def State.hostWrite (s : State) (a : Nat) (bs : List Byte) : State :=
  let code : Bool := match s.rangeOf a bs.length with
    | some 4 => decide ((a - 0x0110000000) % 0x40000 < 0x10000) && !bs.isEmpty
    | _ => false
  let s1 := s.write a bs
  { s1 with
    comb := { s1.comb with codeTouched := s1.comb.codeTouched || code }
    fault := { s1.fault with
      diagWrites := if s.rangeOf a bs.length == some 6 && !s.inRegion 10 a bs.length then s1.fault.diagWrites else (a, bs.length) :: s1.fault.diagWrites } }

/- BAR2 (R384). -/

/-- The window base in force. -/
def Hif.winBase (h : Hif) : Nat := h.winHi * 2 ^ 32 + h.winLo * 2 ^ 20

/-- The ring entry whose word 0 lies at an address. -/
def State.ringEntryAt (s : State) (a : Nat) : Option (Nat × Nat) :=
  ((upto 8).filterMap (fun k =>
    let r := s.ring k
    if r.size ≠ 0 ∧ r.entry 0 ≤ a ∧ a < r.entry 0 + 64 * r.size ∧ (a - r.entry 0) % 64 = 0 then some (k, (a - r.entry 0) / 64) else none)).head?

/-- Does a range touch the bitmap or the data of an entry of an item queue that the device owns (R342)? -/
def State.hitsItem (s : State) (q : ItemQueue) (a n : Nat) : Bool :=
  (s.ownedEntries q).any (fun i =>
    let e := s.entryAt q i
    overlapsBlocks [(e.bitmap, e.bitmapLen), (e.dataAddr, e.dataLen)] a n)

/-- The misuse of a host write to an entry that the device owns, in an item queue with its bitmap and data (R342), or in a record ring (R309). -/
def State.ownedMisuse (s : State) (a n : Nat) : Option Nat :=
  if s.print.queue.any (fun q => q.base.isSome && (s.ownedIn (q.addr 0) q.size a n || s.hitsItem q a n)) then some 342
  else if s.recs.rings.any (fun r => s.ownedIn (r.entry 0) r.size a n) then some 309
  else none

/-- Base of a descriptor ring (R477). -/
def DmaChan.ringBase (c : DmaChan) : Nat := c.baseHi * 2 ^ 32 + c.baseLo

/-- A descriptor from its 32 bytes. -/
def dmaDescOf (b : List Byte) : DmaDesc :=
  { op := wordAt b 0 % 16, irq := bitAt (wordAt b 0) 8, len := wordAt b 4 % 2 ^ 24, src := leAt b 8 5, dst := leAt b 16 5, pattern := wordAt b 24 }

/-- Does a range touch a descriptor that the device owns, or its data (R488)? -/
def State.dmaHeld (s : State) (a n : Nat) : Bool :=
  s.dma.chan.any (fun k => k.sizeLog2 != 0 && (s.ownedBy 32 k.ringBase (2 ^ k.sizeLog2) a n ||
    (natsFrom (2 ^ k.sizeLog2) 0).any (fun i =>
      let b := s.read (k.ringBase + 32 * i) 32
      let d := dmaDescOf b
      bitAt (wordAt b 0) 31 && ((d.op != 1 && overlapsBlocks [(d.src, d.len)] a n) || (decide (d.op ≤ 2) && overlapsBlocks [(d.dst, d.len)] a n)))))

/-- Is a host write the one that hands a ring entry over (R285, R286): word 0 alone, with OWN = 1? -/
def State.handsOver (s : State) (a : Nat) (data : List Byte) : Bool := data.length == 4 && bitAt (ofLe data) 31 && (s.ringEntryAt a).isSome

/-- The rule that a host write breaks, if it reaches an entry that the device owns other than by handing it over, or a descriptor that the device owns or
its data (R309, R342, R488). -/
def State.writeMisuse (s : State) (a : Nat) (data : List Byte) : Option Nat :=
  if s.dmaHeld a data.length then some 488 else if s.handsOver a data then none else s.ownedMisuse a data.length

/-- A BAR2 write (R285, R384): a write of word 0 of a ring entry with OWN = 1 returns the entry. -/
def State.barWrite (s : State) (a : Nat) (data : List Byte) : State :=
  if data.length = 4 ∧ bitAt (ofLe data) 31 then
    match s.ringEntryAt a with
    | some (k, i) => (s.returnEntry k i).hostWrite a data
    | none => s.hostWrite a data
  else s.hostWrite a data

/-- The host interface fails (R553, R575): an essential failure, once. -/
def State.hostIfFailure (s : State) : State :=
  if s.sys.inReset ∨ s.sys.mode = .safeHold then s else (s.failEssential 0 0 3).settle

/-- The Keeper takes the next request of mailbox n and checks it (R390-R392). A failing request is answered at once; one that passes with a reserved
bit set is misuse (R15). Where n is not the mailbox that it serves next, nothing happens (log 7). -/
def State.takeRequest (s : State) (n : Nat) : Outcome :=
  if s.keeperNext = some n then
    match s.offered n with
    | none => .next s
    | some r =>
      let s1 := s.takeFrom n
      match s.requestCheck n r with
      | some reply =>
        .next (s1.respond r.cmd { mbx := n, seq := r.seq, srcAddr := r.srcAddr, srcPort := r.srcPort } reply)
      | none => if r.reservedSet then .fault (.misuse 15) else .next (s1.updMbx n (fun m => { m with taken := m.taken ++ [r] }))
  else .next s

/-- KEEPER_TAKE_REQUEST (R390-R392). A word of the mailbox buffers
that cannot be corrected fails the host interface (R575). -/
def execKeeperTakeRequest (n : Nat) (s : State) (bufferError : Bool := false) : Outcome :=
  if bufferError then .next s.hostIfFailure else s.takeRequest n

/-- An access of the host through the window (R32, R379, R384, R486). One outside the window's size or length is not accepted. -/
def State.bar2 (s : State) (write : Bool) (offset len : Nat) (data : List Byte) : Outcome :=
  let n := if write then data.length else len
  let a := s.hif.winBase + offset
  if !s.hif.linkUp ∨ n = 0 ∨ n > 512 ∨ offset + n > 2 ^ 30 then .next s
  else if (s.rangeOf a n).isNone then .fault (.misuse 32)
  else if !s.hostVisible a n write then .fault (.misuse 486)
  else if write then
    match s.writeMisuse a data with
    | some r => .fault (.misuse r)
    | none => .next (s.barWrite a data)
  else .next ((s.emit (.hostRead (s.seen a n))).drawn)

/-- BAR2_ACCESS (R32, R379, R384, R486). A parity error in the PCIe datapath fails the host interface (R575). -/
def execBar2Access (write : Bool) (offset len : Nat) (data : List Byte) (s : State) (parity : Bool := false) : Outcome :=
  if parity && s.hif.linkUp then .next s.hostIfFailure else s.bar2 write offset len data

/- PEEK and POKE (R422, R585, R592). -/

/-- PEEK and POKE are locked: in FIELD, and in PROVISIONED with DIAG_LOCK (R585, R592). -/
def State.diagLocked (s : State) : Option Reply :=
  if s.fuse.lifeCycle = 3 ∨ (s.fuse.lifeCycle = 2 ∧ s.profile.current.b 0x8070 0 0x00 0 false) then some (.fail .denied 3) else none

/-- PEEK (R422): aligned words. -/
def execPeek (q : Req) (addr count : Nat) (s : State) : Outcome :=
  let a := addr / 4 * 4
  let n := 4 * min count 1016
  if (admission s q .diag false).isNone && s.diagLocked.isNone && (s.rangeOf a (4 * count)).isNone then .fault (.misuse 32)
  else runCmd 0x0800 q .diag false s.diagLocked (s.drawn, .ok (leBytes 8 a ++ s.seen a n)) s

/-- POKE (R422): aligned words. ROM keeps its contents; the internal register window has no layout in the manual (R32). -/
def execPoke (q : Req) (addr : Nat) (words : List Nat) (s : State) : Outcome :=
  let a := addr / 4 * 4
  let live := (admission s q .diag false).isNone && s.diagLocked.isNone
  let range := s.rangeOf a (4 * words.length)
  if live && range.isNone then .fault (.misuse 32)
  else if live && range == some 2 then .refused .internalRegister
  else if live && s.dmaHeld a (4 * words.length) then .fault (.misuse 488)
  else if live && (s.ownedMisuse a (4 * words.length)).isSome then .fault (.misuse 309)
  else runCmd 0x0801 q .diag false s.diagLocked ((if range == some 0 then s else s.hostWrite a (wordsBytes words)), {}) s

/- The host region (R427). -/

/-- MEM_QUERY (R427, R492). -/
def execMemQuery (q : Req) (s : State) : Outcome :=
  runCmd 0x0B00 q .nb false none (s, .ok (((upto 12).map (fun r => leBytes 8 (s.regionBase r) ++ leBytes 8 (s.regionSize r))).flatten)) s

/-- Blocks of the host region in use. -/
def State.hostUsed (s : State) : List (Nat × Nat) := s.dram.hostBlocks.map (·.2)

/-- MEM_ALLOC (R427). -/
def execMemAlloc (q : Req) (len : Nat) (s : State) : Outcome :=
  let n := ceilDiv len 4096 * 4096
  let a := s.allocBlock 11 s.hostUsed n
  let h := s.dram.nextHandle
  let s1 : State := { s with
    dram := { s.dram with
    hostBlocks := s.dram.hostBlocks ++ [(h, a.getD 0, n)], nextHandle := (h + 1) % 2 ^ 32 } }
  runCmd 0x0B01 q .op false (if a.isNone then some (s.regionFull 11 s.hostUsed) else none)
    (s1, .ok (wordsBytes ([h, 0] ++ lohi (a.getD 0)))) s

/-- MEM_FREE (R427); a block that a MEM_COPY or MEM_CRC works on is busy (R402). -/
def execMemFree (q : Req) (handle : Nat) (s : State) : Outcome :=
  let busy (b : Nat × Nat × Nat) : Bool := s.keeper.running.any (fun r =>
    (r.code == 0x0B03 || r.code == 0x0B04) && (r.args.take 2).any (fun a => decide (b.2.1 ≤ a) && decide (a < b.2.1 + b.2.2)))
  let refuse : Option Reply := match s.dram.hostBlocks.find? (fun b => b.1 == handle) with
    | none => some (.fail .notFound 0)
    | some b => if busy b then some (.fail .busy 5) else none
  runCmd 0x0B02 q .op false refuse ({ s with dram := { s.dram with hostBlocks := s.dram.hostBlocks.filter (fun b => b.1 != handle) } }, {}) s

/-- A source that a firmware transfer may not read: outside the map, past the end of its range, or in the internal registers, which the host
reaches only through PEEK and POKE (R32). -/
def State.sourceBad (s : State) (a n : Nat) : Bool := (s.rangeOf a n).isNone || s.rangeOf a n == some 2

/-- MEM_COPY (R427): a range outside the map is misuse (R32), as is a destination outside region 11 and the blocks that the host has reserved. -/
def execMemCopy (q : Req) (src dst len : Nat) (s : State) : Outcome :=
  let n := len % 2 ^ 24
  let live := (admission s q .op false).isNone && (busyIfRunning s 0x0B03).isNone && n != 0
  if live && s.sourceBad src n then .fault (.misuse 32)
  else
  match (if live then s.destMisuse dst n else none) with
  | some r => .fault (.misuse r)
  | none =>
  runCmd 0x0B03 q .op false (busyIfRunning s 0x0B03) (s.start 0x0B03 q [src, dst, n], .accepted) s

/-- MEM_CRC (R427). -/
def execMemCrc (q : Req) (addr len : Nat) (s : State) : Outcome :=
  let n := len % 2 ^ 24
  let live := (admission s q .op false).isNone && (busyIfRunning s 0x0B04).isNone && n != 0
  if live && s.sourceBad addr n then .fault (.misuse 32)
  else runCmd 0x0B04 q .op false (busyIfRunning s 0x0B04) (s.start 0x0B04 q [addr, addr, n], .accepted) s

/-- FIRMWARE_DMA_DONE (R427, R471): the older transfer of channel 0 finishes. -/
def execFirmwareDmaDone (s : State) : Outcome :=
  match s.keeper.running.find? (fun r => r.code == 0x0B03 || r.code == 0x0B04) with
  | none => .next s
  | some r =>
    match r.args with
    | [src, dst, n] =>
      let bs := if n = 0 then [] else s.seen src n
      .next (if r.code = 0x0B03 then ((s.write dst bs).drawn).complete r .ok 0 else (s.drawn).complete r .ok (crc32 bs))
    | _ => .next s

end Sys2Proof.Machine
end

