-- ==== Sys2Proof/Machine/Dma.lean ====
section
/-! DEFINITION. The host DMA channels 8-15 (R471-R483), with FLR, hot reset and PERST#. -/

namespace Sys2Proof.Machine

/-- Channel c (8-15). -/
def State.dmaChan (s : State) (c : Nat) : DmaChan := getN s.dma.chan (c - 8) {}

/-- Channel c replaced by its image. -/
def State.updDma (s : State) (c : Nat) (f : DmaChan → DmaChan) : State := { s with dma := { s.dma with chan := updAt s.dma.chan (c - 8) f } }

/-- Address of descriptor HEAD (R473). -/
def DmaChan.addr (c : DmaChan) : Nat := c.ringBase + 32 * c.head

/-- HEAD after this descriptor (R479). -/
def DmaChan.nextHead (c : DmaChan) : Nat := (c.head + 1) % 2 ^ c.sizeLog2

/- Descriptors (R473-R476, R488). -/

/-- Does a range lie in a frame store or cell memory of a frame or cell out of service (R255)? -/
def State.targetsRetired (s : State) (a n : Nat) : Bool :=
  match s.rangeOf a n with
  | some 3 => !s.frameUp ((a - 0x0100000000) / 0x200000)
  | some 4 => !s.cellUp ((a - 0x0110000000) / 0x40000)
  | _ => false

/-- The rule that a descriptor breaks, if it is a case of misuse (R255, R309, R342, R476, R488). -/
def State.dmaMisuse (s : State) (d : DmaDesc) : Option Nat :=
  if d.op ≥ 4 ∨ (d.op ≠ 1 ∧ d.pattern ≠ 0) then some 488
  else if d.len = 0 then none
  else if (d.op ≠ 1 ∧ !s.hostVisible d.src d.len false) ∨ (d.op ≤ 1 ∧ !s.hostVisible d.dst d.len true) ∨ (d.op = 2 ∧ !s.hostVisible d.dst d.len false) then
    some 488
  else if d.op = 0 ∧ d.src < d.dst + d.len ∧ d.dst < d.src + d.len then some 488
  else if d.op ≤ 1 ∧ (s.ownedMisuse d.dst d.len).isSome then s.ownedMisuse d.dst d.len
  else if (d.op ≠ 1 ∧ s.targetsRetired d.src d.len) ∨ (d.op ≤ 2 ∧ s.targetsRetired d.dst d.len) then some 255
  else none

/-- Is a reserved field of a descriptor non-zero (R15, R473)? STATUS is the device's own. -/
def dmaReserved (b : List Byte) : Bool :=
  fld (wordAt b 0) 30 24 != 0 || fld (wordAt b 0) 15 9 != 0 || fld (wordAt b 0) 7 4 != 0 || fld (wordAt b 4) 31 24 != 0

/-- PARTIAL at the start of a descriptor: the CRC register, or no mismatch yet. -/
def DmaDesc.start (d : DmaDesc) : Nat := if d.op = 2 ∨ d.op = 3 then 0xFFFFFFFF else 0

/-- Offset of the first pair of bytes that differ, counted from i. -/
def firstDiff : Nat → List Byte → List Byte → Option Nat
  | _, [], _ => none
  | _, _, [] => none
  | i, a :: as, b :: bs => if a = b then firstDiff (i + 1) as bs else some i

/-- Bytes [from, to) of a descriptor are processed in ascending order (R474): the state with what is written, and PARTIAL. -/
def State.dmaApply (s : State) (d : DmaDesc) (from' stop : Nat) (part : Nat) : State × Nat :=
  let n := stop - from'
  if n = 0 then (s, part)
  else if d.op = 0 then (s.hostWrite (d.dst + from') (s.seen (d.src + from') n), part)
  else if d.op = 1 then
    let p := leBytes 4 d.pattern
    (s.hostWrite (d.dst + from') ((natsFrom n (d.dst + from')).map (fun a => getN p (a % 4) 0)), part)
  else if d.op = 2 then
    (s, if part ≠ 0xFFFFFFFF then part
        else (firstDiff from' (s.seen (d.src + from') n) (s.seen (d.dst + from') n)).getD 0xFFFFFFFF)
  else (s, crcFold part (s.seen (d.src + from') n))

/-- STATUS and RESULT of a descriptor that ran to its end (R475). -/
def DmaDesc.result (d : DmaDesc) (part : Nat) : Nat × Nat :=
  if d.op ≤ 1 then (0, d.len)
  else if d.op = 2 then (if part = 0xFFFFFFFF then (0, part) else (1, part))
  else (0, Nat.xor part 0xFFFFFFFF)

/-- Descriptor HEAD is written back with a status and a result (R475), and HEAD advances. -/
def State.dmaBack (s : State) (c status result : Nat) : State :=
  let k := s.dmaChan c
  let w := memWord s.mem k.addr
  let w1 := w % 2 ^ 16 + status * 2 ^ 16 + w / 2 ^ 24 % 128 * 2 ^ 24
  ((s.write (k.addr + 0x1C) (leBytes 4 result)).write k.addr (leBytes 4 w1)).updDma c (fun k => { k with
    head := k.nextHead, done := 0, part := 0, cur := none, err := k.err || status != 0 })

/-- The status bit of a channel (R482). -/
def State.dmaIrq (s : State) (c : Nat) : State := s.raiseIrq (12 + (c - 8))

/-- The ring of a channel lies in fitted DRAM, in a range that the host may write now (R486, R488). -/
def State.dmaRingOk (s : State) (k : DmaChan) : Bool :=
  s.hostVisible k.ringBase (32 * 2 ^ k.sizeLog2) true && s.rangeOf k.addr 32 == some 6

/-- The channel is idle at HEAD, with its requests cleared. -/
def DmaChan.idleAt (k : DmaChan) : DmaChan :=
  if k.resetDue then { eccCount := k.eccCount } else { k with run := .idle, abort := false, start := false, cur := none, done := 0, part := 0 }

/-- An abort completes (R481, R482): the descriptor in progress is written back ABORTED with the bytes completed. -/
def State.dmaAborted (s : State) (c : Nat) : State :=
  let k := s.dmaChan c
  let s1 := if k.cur.isSome then s.dmaBack c 2 k.done else s
  (s1.updDma c DmaChan.idleAt).dmaIrq c

/-- The channel reads descriptor HEAD (R479): one that the device owns is executed; else the channel is idle there, and a pending START makes it
read once more. A misuse stops the machine (R488). -/
def State.dmaFetch (s : State) (c : Nat) : Outcome :=
  let k := s.dmaChan c
  if !s.dmaRingOk k then .fault (.misuse 488)
  else
    let b := s.read k.addr 32
    if !bitAt (wordAt b 0) 31 then .next (s.updDma c (fun k => { k with run := .idle, start := false, cur := none, done := 0, part := 0 }))
    else
      let d := dmaDescOf b
      if dmaReserved b then .fault (.misuse 15) else
      match s.dmaMisuse d with
      | some r => .fault (.misuse r)
      | none => .next (s.updDma c (fun k => { k with run := .running, cur := some d, done := 0, part := d.start }))

/-- DMA_START (R477, R479): an idle channel takes it; else it stays pending. A disabled channel (SIZE_LOG2 0) takes none. -/
def execDmaStart (ch : Nat) (s : State) : Outcome :=
  let k := s.dmaChan ch
  if ch < 8 ∨ ch > 15 ∨ k.sizeLog2 = 0 then .next s
  else if k.run = .idle ∧ !k.pause then s.dmaFetch ch
  else .next (s.updDma ch (fun k => { k with start := true }))

/-- PAUSE set (R480). -/
def DmaChan.pauseOn (k : DmaChan) : DmaChan := { k with pause := true, run := if k.run = .running then .draining else k.run }

/-- DMA_PAUSE (R480): 1 drains a running channel, 0 resumes it at byte DONE of descriptor HEAD. -/
def execDmaPause (ch : Nat) (on : Bool) (s : State) : Outcome :=
  if ch < 8 ∨ ch > 15 then .next s
  else if on then .next (s.updDma ch DmaChan.pauseOn)
  else
    let k := s.dmaChan ch
    let s1 := s.updDma ch (fun k => { k with pause := false })
    if k.run = .paused ∧ !k.standbyPaused then
      (if k.cur.isSome then .next (s1.updDma ch (fun k => { k with run := .running })) else s1.dmaFetch ch)
    else if k.run = .draining ∧ !k.abort ∧ !k.standbyPaused then .next (s1.updDma ch (fun k => { k with run := .running }))
    else if k.run = .idle ∧ k.start then s1.dmaFetch ch
    else .next s1

/-- DMA_ABORT (R481): a running channel drains first; a paused one aborts at once; one that is idle or between descriptors only clears START. -/
def execDmaAbort (ch : Nat) (s : State) : Outcome :=
  let k := s.dmaChan ch
  if ch < 8 ∨ ch > 15 then .next s
  else if k.run = .idle ∨ (k.cur.isNone ∧ k.run ≠ .paused) then .next (s.updDma ch (fun k => { k with start := false }))
  else if k.run = .paused then .next (s.dmaAborted ch)
  else .next (s.updDma ch (fun k => { k with abort := true, run := .draining }))

/-- DMA_CONFIG_WRITE (R477, R478): while the channel is idle a ring register takes the value and HEAD returns to 0; else the write is ignored and
CFGERR sets. -/
def execDmaConfigWrite (ch offset : Nat) (value : Word) (s : State) : Outcome :=
  let v := value.toNat
  let k := s.dmaChan ch
  if ch < 8 ∨ ch > 15 ∨ (offset ≠ 0 ∧ offset ≠ 4) then .next s
  else if (offset = 0 ∧ v % 32 ≠ 0) ∨ (offset = 4 ∧ (fld v 31 21 ≠ 0 ∨ fld v 15 8 ≠ 0)) then .fault (.misuse 15)
  else if k.run ≠ .idle then .next (s.updDma ch (fun k => { k with cfgErr := true }))
  else if offset = 0 then .next (s.updDma ch (fun k => { k with baseLo := v, head := 0 }))
  else
    let sz := fld v 20 16
    if (1 ≤ sz ∧ sz ≤ 3) ∨ sz > 16 then .fault (.misuse 488)
    else .next (s.updDma ch (fun k => { k with sizeLog2 := sz, baseHi := v % 256, head := 0 }))

/-- The descriptor in progress ends (R475, R482): its rest takes effect, or it ends with ECC at the word that could not be corrected. -/
def State.dmaEnd (s : State) (c : Nat) (d : DmaDesc) (eccAt : Option Nat) : State :=
  let k := s.dmaChan c
  let stop := match eccAt with
    | some o => max k.done (min o d.len)
    | none => d.len
  let r := s.dmaApply d k.done stop k.part
  let res := if eccAt.isSome then (3, stop) else d.result r.2
  let met := match eccAt with
    | some o => if d.op ≠ 1 then (r.1.drawn).readUnc (d.src + o) else r.1.drawn
    | none => r.1.drawn
  let s1 := met.dmaBack c res.1 res.2
  let s2 := s1.updDma c (fun k => { k with completed := satInc k.completed, eccCount := if eccAt.isSome then satInc k.eccCount else k.eccCount })
  if d.irq || res.1 != 0 then s2.dmaIrq c else s2

/-- After a descriptor the channel takes the next one, ends its drain, or stands idle where the read's error has just brought SAFE_HOLD (R480-R482,
R553). -/
def State.dmaGoesOn (s : State) (ch : Nat) (k : DmaChan) (held : Bool) : Outcome :=
  if held && s.sys.mode == .safeHold then .next (s.updDma ch DmaChan.idleAt)
  else if k.run = .running then s.dmaFetch ch
  else if k.abort then .next (s.dmaAborted ch)
  else .next ((s.updDma ch (fun k => { k with run := .paused })).dmaIrq ch)

/-- DMA_DESCRIPTOR_DONE (R475, R479-R483): a channel that resumes after STANDBY between descriptors reads its next one; else the channel goes on with the next descriptor, or pauses or aborts before it.
An error that a word of DRAM could not correct counts there too, and one that fails the controller leaves no DRAM to read on from (R497). -/
def execDmaDescriptorDone (ch : Nat) (eccAt : Option Nat) (s : State) (corrected : List Nat := []) : Outcome :=
  let k := s.dmaChan ch
  match k.cur with
  | none => if 8 ≤ ch ∧ ch ≤ 15 ∧ k.run = .running then s.dmaFetch ch else .next s
  | some d =>
    if ch < 8 ∨ ch > 15 ∨ (k.run ≠ .running ∧ k.run ≠ .draining) then .next s
    else
      let s1 := (corrected.foldl State.readCorr s).dmaEnd ch d eccAt
      if eccAt.isSome then s1.settle.dmaGoesOn ch k (s.sys.mode != .safeHold) else s1.dmaGoesOn ch k false

/-- DMA_DRAIN_DONE (R480-R482): every burst of 256 bytes in flight is acknowledged, up to byte `done`; the channel is paused, or its abort completes. -/
def execDmaDrainDone (ch done : Nat) (s : State) : Outcome :=
  let k := s.dmaChan ch
  if ch < 8 ∨ ch > 15 ∨ k.run ≠ .draining then .next s
  else
    let s1 := match k.cur with
      | none => s
      | some d =>
        let stop := max k.done (min done d.len / 256 * 256)
        let r := s.dmaApply d k.done stop k.part
        (r.1.drawn).updDma ch (fun k => { k with done := stop, part := r.2 })
    if k.abort then .next (s1.dmaAborted ch)
    else .next ((s1.updDma ch (fun k => { k with run := .paused })).dmaIrq ch)

/- Resets of the PCIe function (R380, R483, R561). -/

/-- A host channel at FLR or hot reset (R483): one that is not idle aborts, and its registers then return to their reset values. -/
def State.dmaFlr (s : State) (c : Nat) : State :=
  let k := s.dmaChan c
  if k.run = .idle then s.updDma c (fun k => { eccCount := k.eccCount })
  else if k.run = .paused then (s.updDma c (fun k => { k with resetDue := true })).dmaAborted c
  else s.updDma c (fun k => { k with abort := true, resetDue := true, run := .draining })

/-- PCIE_FLR: FLR or hot reset (R380, R483). -/
def State.flr (s : State) : State := forEach (fun c s => s.dmaFlr c) (natsFrom 8 8) { s with hif := s.hif.flr }

/-- PCIE_FLR. -/
def execPcieFlr (s : State) : Outcome := .next s.flr

/-- PERST_ASSERT (R561): the PCIe controller and the items of R380. -/
def execPerstAssert (s : State) : Outcome :=
  let s1 := s.flr
  .next { s1 with hif := { s1.hif with perst := true, linkUp := false } }

end Sys2Proof.Machine
end

