-- ==== Sys2Proof/Machine/Dram.lean ====
section
/-! DEFINITION. The DRAM controller at work (R490, R491, R495-R498, R552): refresh, MR4, DQS tracking, scrub, set points and self-refresh in
STANDBY. -/

namespace Sys2Proof.Machine

/-- Does DRAM run: trained, in service and out of self-refresh? -/
def State.dramRuns (s : State) : Bool := s.dram.trained && !s.dram.failed && !s.dram.selfRefresh

/-- DRAM_REFRESH_DUE (R495): one pulled in before covers it; while requests of class 1 or 2 wait for the rank it is postponed, and at 8 owed one is issued;
while only class 3 waits it is issued; else it is issued with all that is owed, and an idle rank pulls `ahead` in, up to 8. What waits for a rank is an
operand (log 70). -/
def execDramRefreshDue (rank : Nat) (s : State) (wait12 wait3 : Bool := false) (ahead : Nat := 0) : Outcome :=
  if !s.dramRuns ∨ rank ≥ 16 then .next s
  else
    let o := getN s.dram.owed rank 0
    let p := getN s.dram.ahead rank 0
    let put (o p n : Nat) : State :=
      ({ s with dram := { s.dram with
        owed := setAt s.dram.owed rank o, ahead := setAt s.dram.ahead rank p, owedMax := max s.dram.owedMax o } } : State).refresh rank n
    .next (if wait12 then (if p > 0 then put o (p - 1) 0 else if o = 8 then put 8 0 1 else put (o + 1) 0 0)
      else if wait3 then (if p > 0 then put o (p - 1) 0 else put o 0 1)
      else
        let p1 := max (p - 1) (min 8 ahead)
        put 0 p1 (o + (p1 + 1 - p)))

/-- MR4_READ (R495): the refresh-rate code of each channel. -/
def execMr4Read (codes : List Nat) (s : State) : Outcome :=
  .next (if s.dramRuns then { s with dram := { s.dram with mr4 := (upto 8).map (fun c => getN codes c (getN s.dram.mr4 c 0)) } } else s)

/-- DQS_TRACKING (R491). -/
def execDqsTracking (s : State) : Outcome :=
  .next (if s.dramRuns then { s with dram := { s.dram with dqsPasses := s.dram.dqsPasses + 1 } } else s)

/-- ECC_SCRUB (R496, R497): a pass finds corrected and uncorrectable errors at these addresses; with SCRUB_H = 0 there is none. -/
def execEccScrub (corrected : List Nat) (uncorrectable : List Nat) (s : State) : Outcome :=
  if !s.dramRuns ∨ s.profile.current.f 0x8040 0 0x0C 31 16 24 = 0 then .next s
  else
    .next (uncorrectable.foldl State.readUnc (corrected.foldl State.readCorr s)).settle

/-- The set point that derating asks for (R558): 1 once every frame is at its lowest clock and a further step was due. -/
def State.wantedSetPoint (s : State) : Nat := if s.power.derate ≥ 4 then 1 else 0

/-- SET_POINT_CHANGE (R498, R558): owed refreshes are issued, and the set point that the Keeper wants is in force. -/
def execSetPointChange (sp : Nat) (s : State) : Outcome :=
  if !s.dramRuns ∨ sp ≠ s.wantedSetPoint ∨ sp = s.dram.setPoint then .next s
  else
    let s1 := s.refreshOwed
    .next { s1 with dram := { s1.dram with setPoint := sp, fspChanges := satInc s1.dram.fspChanges } }

/-- STANDBY_SELF_REFRESH (R552): 10 ms after the last access the controller re-enters self-refresh. -/
def execStandbySelfRefresh (s : State) : Outcome :=
  if s.sys.mode = .standby ∧ s.dram.awake ∧ s.dramRuns then
    .next s.refreshOwed.selfRefreshes
  else .next s

end Sys2Proof.Machine
end

