-- ==== Sys2Proof/Machine/Secure.lean ====
section
/-! DEFINITION. Lane test, firmware slots, the life cycle, the key store and the test port (R422, R424, R425, R464-R467, R565, R569, R570,
R585-R589). -/

namespace Sys2Proof.Machine

/- Lane test (R422, R464-R467, R470). -/

/-- Does the profile provide a camera receive lane: a physical lane that LMAP gives one of the camera's data lanes (R100, R465)? -/
def State.camLaneProvided (s : State) (lane : Nat) : Bool :=
  match s.camOfAnyPort (lane / 4) with
  | none => false
  | some c => (s.profile.current.lanesOf c).contains (lane - 4 * s.portOf c)

/-- n and t of a pattern's polynomial (R464). -/
def prbsTaps (pattern : Nat) : Nat × Nat :=
  match pattern with
  | 0 => (7, 6)
  | 1 => (15, 14)
  | 2 => (23, 18)
  | _ => (31, 28)

/-- One turn of the generator's loop: the bit and the register after it (R464). -/
def prbsNext (pattern r : Nat) : Bool × Nat :=
  let (n, t) := prbsTaps pattern
  let bit := bitAt r (n - 1) != bitAt r (t - 1)
  (bit, (2 * r + b2n bit) % 2 ^ n)

/-- The generator sends a bit; an injection inverts the one at a boundary of 2^20 generated bits (R464, R466). -/
def LaneTest.send (g : LaneTest) : Bool × LaneTest :=
  let x := prbsNext g.pattern g.reg
  let hit := decide (g.inject > 0) && (g.made + 1) % 2 ^ 20 == 0
  (x.1 != hit, { g with reg := x.2, made := g.made + 1, inject := if hit then g.inject - 1 else g.inject })

/-- The generator sends n bits. -/
def LaneTest.sendMany : Nat → LaneTest → List Bool × LaneTest
  | 0, g => ([], g)
  | n + 1, g =>
    let x := g.send
    let r := LaneTest.sendMany n x.2
    (x.1 :: r.1, r.2)

/-- The checker starts to load its register (R465). -/
def LaneTest.reload (c : LaneTest) : LaneTest := { c with loaded := 0, run := 0, lock := false, recent := [] }

/-- The checker takes a bit (R465, R466): it loads n bits, locks after 256 consecutive correct predictions, and then counts; 32 errors in 1,024 bits make it
reload. A wrong prediction before LOCK makes it reload too (DEDUCED, log 69). -/
def LaneTest.take (c : LaneTest) (b : Bool) : LaneTest :=
  let n := (prbsTaps c.pattern).1
  if c.loaded < n then { c with expect := (2 * c.expect + b2n b) % 2 ^ n, loaded := c.loaded + 1 } else
  let x := prbsNext c.pattern c.expect
  if !c.lock then
    if x.1 = b then { c with expect := x.2, run := c.run + 1, lock := decide (c.run + 1 ≥ 256) } else c.reload
  else
    let bits := satN 64 (c.bits + 1)
    let hit := c.cls == 0 && decide (c.inject > 0) && bits % 2 ^ 20 == 0
    let wrong := (x.1 != hit) != b
    let recent := (if wrong then bits :: c.recent else c.recent).filter (fun e => decide (e + 1024 > bits))
    let c1 := { c with
      expect := x.2, bits := bits, errors := if wrong then satN 64 (c.errors + 1) else c.errors, recent := recent
      inject := if hit then c.inject - 1 else c.inject }
    if recent.length ≥ 32 then c1.reload else c1

/-- The checker takes bursts; on a camera lane each follows a SoT, at which the checker reloads (R465). -/
def LaneTest.takeAll (c : LaneTest) (bursts : List (List Bool)) : LaneTest :=
  bursts.foldl (fun c bs => bs.foldl LaneTest.take (if c.cls = 0 then c.reload else c)) c

/-- The test of a lane. -/
def State.laneTest (s : State) (cls lane : Nat) : Option LaneTest := s.vd.tests.find? (fun t => t.cls == cls && t.lane == lane)

/-- The lane test with an entry replaced. -/
def State.putTest (s : State) (t : LaneTest) : State :=
  { s with vd := { s.vd with tests := s.vd.tests.map (fun x => if x.cls = t.cls ∧ x.lane = t.lane then t else x) } }

/-- Is lane i joined to its transmit lane inside the PHY (R466)? -/
def State.looped (s : State) (i : Nat) : Bool := s.vd.tests.any (fun t => t.cls != 0 && t.lane == i && t.loopback)

/-- What a lane's checker has received since the last query (R465, R466). Under LOOPBACK as many bits come from the transmit lane's generator; a lane whose
generator does not run carries no bits. -/
def State.laneHears (s : State) (cls lane : Nat) (received : List (List Bool)) : State :=
  match s.laneTest cls lane with
  | none => s
  | some c =>
    if !c.check then s
    else if cls = 2 ∧ s.looped lane then
      match s.laneTest 1 lane with
      | some g =>
        if g.gen then
          let x := g.sendMany (sumN (received.map List.length))
          (s.putTest x.2).putTest (c.takeAll [x.1])
        else s
      | none => s
    else s.putTest (c.takeAll received)

/-- Does the lane lack a function that LANE_SET asks of it (R422, R466; DEDUCED, log 69)? -/
def laneLacks (cls : Nat) (gen check loopback : Bool) (inject : Nat) : Bool :=
  (cls == 0 && (gen || loopback)) || (cls == 1 && check) || (cls == 2 && (gen || inject != 0)) || decide (cls ≥ 3)

/-- LANE_SET on a lane (R466, R467): the first on a Viaduct lane takes the link out of service until DIAGNOSTIC is left. -/
def State.setLane (s : State) (t : LaneTest) : State :=
  let t := { t with reg := 2 ^ (prbsTaps t.pattern).1 - 1 }
  let s1 := if t.cls ≠ 0 ∧ !s.vd.testMode then s.linkLost 3 else s
  { s1 with vd := { s1.vd with
    testMode := s1.vd.testMode || t.cls != 0
    tests := t :: s1.vd.tests.filter (fun x => !(x.cls == t.cls && x.lane == t.lane)) } }

/-- LANE_SET (R422, R466, R467); a lane that does not exist is a case of misuse (R470). -/
def execLaneSet (q : Req) (cls lane pattern : Nat) (gen check loopback : Bool) (inject : Nat) (s : State) : Outcome :=
  let refuse : Option Reply := if laneLacks cls gen check loopback inject then some (resource 0x0C lane)
    else if cls = 0 ∧ !s.camLaneProvided lane then some (.fail .notFound 3) else none
  if (admission s q .diag false).isNone && ((cls == 0 && decide (lane > 95)) || ((cls == 1 || cls == 2) && decide (lane > 8))) then .fault (.misuse 470)
  else runCmd 0x0802 q .diag false refuse
    (s.setLane { cls := cls, lane := lane, pattern := pattern, gen := gen, check := check, loopback := loopback, inject := inject }, {}) s

/-- LANE_QUERY (R465): LOCK, BITS and ERRORS of a checker, after the bits that its lane received since the last query, in bursts (log 69). -/
def execLaneQuery (q : Req) (cls lane : Nat) (s : State) (received : List (List Bool) := []) : Outcome :=
  let s1 := s.laneHears cls lane received
  let c := ((s1.laneTest cls lane).filter (·.check)).getD { cls := cls, lane := lane }
  runCmd 0x0803 q .diag false (if cls = 1 ∨ cls ≥ 3 then some (resource 0x0C lane) else none)
    (s1, .ok (wordsBytes ([b2n c.lock, 0] ++ lohi c.bits ++ lohi c.errors))) s

/- Firmware slots (R424, R563-R565, R569). -/

/-- Bytes of a slot (R563). -/
def slotBytes : Nat := 0x400000

/-- An image as the bytes of a slot hold it (R565). -/
def imageOf (b : List Byte) : FwImage :=
  let len := wordAt b 0x0C
  { magic := wordAt b 0, fmt := wordAt b 4, version := wordAt b 8, length := len, romId := wordAt b 0x10, kramLen := wordAt b 0x14,
    pubkey := bytesAt b 0x40 64, sig := bytesAt b 0x80 64, message := bytesAt b 0 64 ++ bytesAt b 256 (min len 4194048) }

/-- Is an image valid (R565)? From PROVISIONED on secure boot is enforced (R585). Its signature is taken over header bytes 0x00-0x3F and the body. -/
def State.imageValid (s : State) (i : FwImage) : Bool :=
  i.magic == 0x4D524946 && i.fmt == 1 && i.romId == s.fuse.romId && decide (i.length ≤ 4194048) &&
  Config.ecdsaVerify i.pubkey i.sig i.message &&
  (!(s.fuse.secureBoot || decide (2 ≤ s.fuse.lifeCycle)) || (match s.fuse.keyHash with
    | none => true
    | some h => sha256 i.pubkey == h))

/-- The slot that FW_WRITE writes. -/
def State.inactiveSlot (s : State) : Nat := 1 - s.sys.fwSlot

/-- Slot k replaced by its image. -/
def State.updFw (s : State) (k : Nat) (f : FwSlot → FwSlot) : State := { s with fw := { s.fw with slots := updAt s.fw.slots k f } }

/-- FW_QUERY (R424). -/
def execFwQuery (q : Req) (s : State) : Outcome :=
  let e (k : Nat) : List Nat :=
    let x := getN s.fw.slots k {}
    [x.version, x.state, x.length, 0]
  runCmd 0x0900 q .nb false none
    (s, .ok (wordsBytes (e 0 ++ e 1 ++ [s.sys.fwSlot + 2 * s.fw.next + 4 * b2n s.sys.patched]))) s

/-- Refusals of FW_WRITE: chunks come in order from offset 0 (R424). -/
def State.chunkRefuse (s : State) (offset : Nat) (first : Bool) : Option Reply :=
  if s.isRunning 0x0901 then some (.fail .busy 5)
  else
    let x := getN s.fw.slots s.inactiveSlot {}
    if (first && offset != 0) || (!first && (x.state != 1 || x.nextOffset != offset)) then some (badState s 9) else none

/-- FW_WRITE (R424, R569): FIRST erases the inactive slot; the chunk is written in the background. A source outside fitted DRAM and a chunk past the
slot are cases of misuse (R32, R427). -/
def execFwWrite (q : Req) (src offset len : Nat) (first last : Bool) (s : State) : Outcome :=
  let refuse := s.chunkRefuse offset first
  let live := (admission s q .cfgWeb false).isNone && refuse.isNone
  if live && len != 0 && s.rangeOf src len != some 6 then .fault (.misuse 32)
  else if live && decide (offset + len > slotBytes) then .fault (.misuse 427)
  else
    let s1 := if first then s.updFw s.inactiveSlot (fun _ => { state := 1 }) else s
    runCmd 0x0901 q .cfgWeb false refuse
      (({ s1 with fw := { s1.fw with writing := some (src, offset, len, last) } } : State).start 0x0901 q [], .accepted) s

/-- FW_WRITE_DONE (R424): the chunk is in the slot; after the last one the image is verified, and AUTH_FAIL 6 leaves the slot invalid. -/
def execFwWriteDone (s : State) : Outcome :=
  match s.fw.writing, s.runningCmd 0x0901 with
  | some (src, offset, len, last), some r =>
    let k := s.inactiveSlot
    let bs := s.read src len
    let s1 : State := { (s.updFw k (fun x => { x with bytes := x.bytes.take offset ++ bs, nextOffset := offset + len })) with
      fw := { (s.updFw k (fun x => { x with bytes := x.bytes.take offset ++ bs, nextOffset := offset + len })).fw with writing := none } }
    if last then
      let i := imageOf (getN s1.fw.slots k {}).bytes
      if s1.imageValid i then
        .next ((s1.updFw k (fun x => { x with state := 2, version := i.version, length := i.length, pubkey := i.pubkey })).complete r .ok 0)
      else .next ((s1.updFw k (fun x => { x with state := 3 })).complete r .authFail 6)
    else .next (s1.complete r .ok 0)
  | _, _ => .next s

/-- FW_ACTIVATE's effect on the boot record (R564, R570): the other copy is written with GEN + 1. -/
def State.bootNext (s : State) (slot : Nat) : State :=
  { s with fw := { s.fw with next := slot, gen := (s.fw.gen + 1) % 2 ^ 32, copy := 1 - s.fw.copy } }

/-- FW_ACTIVATE (R424, R570): RESET = 1 resets the device at once, with no response, but not in the web modes. -/
def execFwActivate (q : Req) (slot : Nat) (reset : Bool) (s : State) : Outcome :=
  let k := slot % 2
  let refuse : Option Reply := if reset ∧ s.sys.mode.isWeb then some (badState s 6)
    else if (getN s.fw.slots k {}).state ≠ 2 then some (.fail .authFail 7) else none
  if reset && (admission s q .op false).isNone && refuse.isNone then .next (s.bootNext k).hifReset
  else runCmd 0x0902 q .op false refuse (s.bootNext k, {}) s

/- Keys and the life cycle (R425, R585-R588). -/

/-- KEY_LOAD (R585, R587): it burns a slot that is neither loaded nor revoked, in MANUFACTURE, PROVISIONED and FIELD. -/
def execKeyLoad (q : Req) (slot : Nat) (key : List Byte) (s : State) : Outcome :=
  let k := slot % 8
  let x := getN s.fuse.keySlots k {}
  let lc := s.fuse.lifeCycle
  runCmd 0x0903 q .cfg false (if lc = 0 ∨ lc ≥ 4 ∨ x.loaded ∨ x.revoked then some (.fail .denied 3) else none)
    ({ s with fuse := { s.fuse with keySlots := updAt s.fuse.keySlots k (fun x => { x with loaded := true, key := bytesAt key 0 32 }) } }, {}) s

/-- LC_QUERY (R425, R587). -/
def execLcQuery (q : Req) (s : State) : Outcome :=
  let keys := sumN ((upto 8).map (fun k =>
    let x := getN s.fuse.keySlots k {}
    if x.loaded && !x.revoked then 2 ^ k else 0))
  runCmd 0x0904 q .nb false none (s, .ok (leBytes 4 (s.fuse.lifeCycle + s.fuse.testProt * 2 ^ 8 + keys * 2 ^ 16))) s

/-- Zeroisation (R588): every bit of every loaded slot and every REVOKED bit is burned, and the key RAM and the nonces are cleared. -/
def State.zeroise (s : State) : State :=
  { s with
    fuse := { s.fuse with
      keySlots := s.fuse.keySlots.map (fun (x : KeySlot) =>
        { x with revoked := true, key := if x.loaded then List.replicate 32 0xFF else x.key })
      keyRam := List.replicate 8 none }
    print := { s.print with
      head := s.print.head.map (fun (h : Head) => { h with chip := { h.chip with nonce := [], okNonce := [] } }) } }

/-- Transitions of the life cycle (R586). -/
def lcPermits (a b : Nat) : Bool :=
  (a == 0 && b == 1) || (a == 1 && b == 2) || (a == 2 && b == 3) || ((a == 2 || a == 3) && b == 4) || (a != 5 && b == 5)

/-- TEST_PROT of the SECURITY section (R592). -/
def Container.testProt (p : Container) : Nat := p.f 0x8070 0 0x00 17 16 3

/-- PUBKEY of the running image. -/
def State.runningKey (s : State) : List Byte := (getN s.fw.slots s.sys.fwSlot {}).pubkey

/-- The fuses of an advance, burned in order (R586). -/
def State.advanceTo (s : State) (target : Nat) : State :=
  let f := s.fuse
  let f1 : Fuses := if target = 2 then
      { f with
        keyHash := match f.keyHash with
          | some h => some h
          | none => some (sha256 s.runningKey)
        secureBoot := true
        testProt := Nat.lor f.testProt s.profile.current.testProt }
    else f
  let s1 : State := { s with fuse := { f1 with lifeCycle := target } }
  if target ≥ 4 then s1.zeroise else s1

/-- LC_ADVANCE (R425, R586, R588). -/
def execLcAdvance (q : Req) (target confirm : Nat) (s : State) : Outcome :=
  let refuse : Option Reply := if confirm ≠ 0x4C435354 then some (.fail .denied 4)
    else if !lcPermits s.fuse.lifeCycle target ∨ (target = 2 ∧ (!s.sys.patched ∨ s.profile.current.testProt = 0)) then some (.fail .denied 3)
    else none
  runCmd 0x0905 q .cfg false refuse (s.advanceTo target, {}) s

/- The test port (R584, R588, R589). -/

/-- TEST_INSTRUCTION (R584, R588, R589): an open instruction does nothing to the block, a protected one acts as BYPASS where STATE closes it, and the
first one under ZEROISE holds the device in reset and zeroises. What a protected instruction that acts does, the manual does not say. -/
def execTestInstruction (isProtected : Bool) (s : State) : Outcome :=
  let lc := s.fuse.lifeCycle
  if !isProtected then .next s
  else if s.webRunning then .fault (.misuse 584)
  else if bitAt s.fuse.testProt 0 && !(lc == 0 || lc == 1 || lc == 4) then .next s
  else if bitAt s.fuse.testProt 1 && !s.fuse.testOpened then
    let s1 := s.porst.zeroise
    .next { s1 with sys := { s1.sys with heldInReset := true }, fuse := { s1.fuse with testOpened := true } }
  else .refused .testAccess

end Sys2Proof.Machine
end

