-- ==== Sys2Proof/Machine/Power.lean ====
section
/-! DEFINITION. Power, temperature, clocks, reset and boot (R491, R492, R553-R568, R575, R579-R581). -/

namespace Sys2Proof.Machine

/- Power (R555-R557). -/

/-- VIN_UVLO_RISING (R555): power-up starts; reset stays asserted until RESET_RELEASE. -/
def execVinUvloRising (s : State) : Outcome := .next { s with power := { s.power with down := false } }

/-- VIN_UVLO_FALLING (R557, R561): everything resets and the rails go off. -/
def execVinUvloFalling (s : State) : Outcome :=
  let s1 := s.porst
  .next { s1 with power := { s1.power with down := true } }

/-- PORST_N low (R561, R589): everything but the regulators and DRAM rails resets. -/
def execPorstN (s : State) : Outcome := .next s.porst

/-- BROWNOUT (R556): every head is gated with HSEN low and every axis stops, as on entry into SAFE_HOLD; NOTIFY BROWNOUT. -/
def execBrownout (lowestMv : Nat) (s : State) : Outcome :=
  if s.sys.inReset then .next s
  else if s.power.brownout then
    .next { s with power := { s.power with lowestMv := min s.power.lowestMv lowestMv, vinMv := lowestMv } }
  else
    let s1 := (s.gateHeads s.wiredHeads true).dropAxes
    let s2 : State := { s1 with power := { s1.power with
      brownout := true, brownouts := satInc s1.power.brownouts, lowestMv := lowestMv, vinMv := lowestMv } }
    .next (s2.notify 0x0011 lowestMv 0 0)

/-- BROWNOUT_RELEASE (R556): the gate lifts GATE_REARM later at each head, and NOTIFY BROWNOUT is issued again. -/
def execBrownoutRelease (s : State) : Outcome :=
  if !s.power.brownout then .next s
  else
    let s1 : State := { s with power := { s.power with brownout := false, vinMv := max s.power.vinMv 2650 } }
    let s2 := s1.wiredHeads.foldl (fun (s : State) h => s.updHead h (fun x => { x with hopenHeld := true })) s1
    .next (s2.notify 0x0011 s2.power.lowestMv 0 0)

/- Temperature (R558, R559). -/

/-- One derating step, down or up, with NOTIFY DERATE. Frame clocks follow at FRAME_CLOCK_CHANGE, the set point at SET_POINT_CHANGE. -/
def State.derateTo (s : State) (n : Nat) : State :=
  ({ s with power := { s.power with derate := n, derateSteps := satInc s.power.derateSteps, coolCount := 0 } } : State).notify 0x0010 n 0 0

/-- TEMP_EVALUATION (R558, R559, R571): while reset is held after a thermal trip the sensors only say when it may be released. -/
def execTempEvaluation (sensors : List Int) (s : State) : Outcome :=
  if s.sys.inReset then
    .next { s with power := { s.power with hot := s.power.hot && (upto 8).any (fun i => decide (getN sensors i (120 * 16) ≥ 120 * 16)) } }
  else if s.sys.mode = .boot then .next s
  else
    let temps := (upto 8).map (fun i => getN sensors i (getN s.power.temps i 0))
    let top := maxI (temps.headD 0) temps
    let p := s.power
    let s1 : State := { s with power := { p with temps := temps, tmax := max p.tmax top } }
    .next (if top ≥ 126 * 16 then
        (if p.derate < 4 then s1.derateTo (p.derate + 1) else { s1 with power := { s1.power with coolCount := 0 } })
      else if top ≤ 120 * 16 then
        (if p.coolCount + 1 ≥ 10 ∧ p.derate > 0 then s1.derateTo (p.derate - 1)
         else { s1 with power := { s1.power with coolCount := min 10 (p.coolCount + 1) } })
      else { s1 with power := { s1.power with coolCount := 0 } })

/-- THERMAL (R559, R575): the trip enters SAFE_HOLD, and the reset that leaves it is held until Tmax has fallen below 120 °C. -/
def execThermal (s : State) : Outcome :=
  let s1 : State := { s with power := { s.power with hot := true } }
  .next (if s.sys.inReset ∨ s.sys.mode = .safeHold then s1 else (s1.failEssential 0 0 1).settle)

/- Clocks and the Keeper (R553, R560, R575). -/

/-- KEEPER_WATCHDOG_EXPIRY (R553, R575). -/
def execKeeperWatchdogExpiry (s : State) : Outcome :=
  if s.sys.inReset then .next s
  else
    let s1 : State := { s with power := { s.power with watchdogRestarts := satInc s.power.watchdogRestarts } }
    .next (if s.sys.mode = .safeHold then s1 else (s1.failEssential 0 0 2).settle)

/-- Is an island one that an essential block runs in (R25, R553)? Islands are numbered in the order of R25: 0-15 frames, 16-21 intake groups,
22 geometry, 23 Span, 24 compare, 25 segmenter, 26 statistics, 27-29 codec groups, 30 line store, 31 Keeper, 32 and 33 DRAM controller, 34 host
interface, 35 network, 36 print, 37 position, 38 monitor, 39 press I/O, 40 Trestle, 41 Viaduct. -/
def essentialIsland (i : Nat) : Bool := i == 22 || i == 23 || i == 30 || i == 31 || i == 32 || i == 33 || i == 34

/-- Channels of an island (R574). -/
def islandChannels (i : Nat) : List (Nat × Nat) :=
  if i < 16 then [(8, i)]
  else if i < 22 then (natsFrom 4 (4 * (i - 16))).map (fun p => (1, p)) ++ (natsFrom 4 (4 * (i - 16))).map (fun p => (2, p))
  else if i = 24 then [(4, 0)]
  else if i = 25 then [(5, 0)]
  else if 27 ≤ i ∧ i ≤ 29 then (natsFrom 8 (8 * (i - 27))).map (fun u => (6, u))
  else if i = 36 then (upto 8).map (fun h => (9, h))
  else if i = 37 then (upto 6).map (fun p => (0x0A, p))
  else if i = 41 then (upto 9).map (fun l => (0x0B, l))
  else []

/-- Channels retired one after the other. -/
def State.retireUnits (s : State) (code : Nat) (l : List (Nat × Nat)) : State := l.foldl (fun (s : State) x => s.retireUnit x.1 x.2 code) s

/-- PLL_LOSS_OF_LOCK (R560, R575): a PLL that feeds an essential block is an essential failure; one that feeds none retires every channel of its
islands. -/
def execPllLossOfLock (islands : List Nat) (s : State) : Outcome :=
  if s.sys.inReset then .next s
  else if islands.any essentialIsland then
    let s1 : State := if islands.any (fun i => i == 32 || i == 33) then { s with dram := { s.dram with failed := true } } else s
    .next (if s.sys.mode = .safeHold then s1 else (s1.failEssential 0 0 6).settle)
  else .next ((s.retireUnits 0xFD (islands.flatMap islandChannels)).settle)

/- Reset release and BOOT (R561-R567). -/

/-- RESET_RELEASE (R451, R454, R555, R559, R562, R572, R587): the straps are sampled, the keys of loaded slots that are not revoked are copied, and Viaduct
training starts. -/
def execResetRelease (vdRole : Nat) (bistFull : Bool) (s : State) : Outcome :=
  if !s.sys.inReset ∨ s.sys.heldInReset ∨ s.power.hot then .next s
  else if s.power.down then .fault (.misuse 572)
  else if vdRole ≥ 3 then .fault (.misuse 454)
  else
    let s1 : State := { s with
      sys := { s.sys with inReset := false }
      vdRole := vdRole, bistFullStrap := bistFull
      fuse := { s.fuse with keyRam := s.fuse.keySlots.map (fun (x : KeySlot) => if x.loaded && !x.revoked then some x.key else none) }
      vd := { s.vd with pair := if vdRole = 0 then 0 else 1 } }
    .next s1.startTraining

/-- Is a boot record copy valid (R564)? -/
def bootRecordValid (r : BootRecord) : Bool :=
  r.magic == 0x544F4F42 &&
  r.crc == crc32 (leBytes 4 r.magic ++ leBytes 4 r.gen ++ leBytes 4 (r.next % 2 + 2 * b2n r.octal + r.dummy % 256 * 2 ^ 8))

/-- The copy in force (R564): the valid one with the higher GEN, which wraps. -/
def bootChoice (records : List BootRecord) : Option (Nat × BootRecord) :=
  let ok := ((upto 2).zip records).filter (fun x => bootRecordValid x.2)
  match ok with
  | [] => none
  | [x] => some x
  | x :: y :: _ => some (if sext 32 (truncN 32 ((y.2.gen : Int) - x.2.gen)) > 0 then y else x)

/-- A slot as boot finds it (R565). -/
def State.bootSlot (s : State) (k : Nat) (i : FwImage) : State :=
  if s.imageValid i then s.updFw k (fun x => { x with state := 2, version := i.version, length := i.length, pubkey := i.pubkey })
  else s.updFw k (fun x => { x with state := if x.state = 2 then 3 else x.state })

/-- The valid image runs (R565, R566): with the secure-boot fuse and no key hash, its key is burned first. -/
def State.runImage (s : State) (k : Nat) (i : FwImage) : State :=
  { s with
    sys := { s.sys with fwSlot := k, patched := true, fwVersion := i.version }
    fuse := if s.fuse.secureBoot && s.fuse.keyHash.isNone then { s.fuse with keyHash := some (sha256 i.pubkey) } else s.fuse }

/-- Steps 3 and 4 of BOOT (R566). -/
def State.bootImages (s : State) (next : Nat) (images : List FwImage) : State :=
  let img (k : Nat) : FwImage := getN images k default
  let other := 1 - next
  if s.imageValid (img next) then (s.bootSlot next (img next)).runImage next (img next)
  else
    let s1 := (s.bootSlot next (img next)).bootSlot other (img other)
    let s2 : State := { s1 with fw := { s1.fw with bootNotes := s1.fw.bootNotes ++ [(0x0900, next)] } }
    if s2.imageValid (img other) then s2.runImage other (img other)
    else { s2 with sys := { s2.sys with fwSlot := next, patched := false } }

/-- BOOT_LOAD_DONE (R52, R564-R567, R588): boot record, stored profile and image are read; keys that a life-cycle advance left are zeroised; SELFTEST
begins. -/
def execBootLoadDone (records : List BootRecord) (images : List FwImage) (profile : List Byte) (s : State) : Outcome :=
  if s.sys.inReset ∨ s.sys.mode ≠ .boot then .next s
  else
    let s0 := if s.fuse.lifeCycle ≥ 4 ∧ s.fuse.keySlots.any (fun (x : KeySlot) => !x.revoked) then s.zeroise else s
    let s1 : State := match bootChoice records with
      | some (c, r) => { s0 with fw := { s0.fw with next := r.next % 2, gen := r.gen, copy := c, octal := r.octal, dummy := r.dummy % 256 } }
      | none => s0
    let good := !profile.isEmpty && (parseContainer true profile).1.isNone
    let s2 := s1.bootImages s1.fw.next images
    .next { s2 with
      sys := { s2.sys with mode := .selftest, target := .selftest }
      mon := { s2.mon.restart with running := false }
      profile := { s2.profile with stored := if profile.isEmpty then none else some profile, storedValid := good } }

/- SELFTEST (R491, R492, R568, R579-R581). -/

/-- A unit that self-test found failing (R581). -/
def State.bootFailure (s : State) (e : BistEntry) : State :=
  match e.block with
  | 0x00 => match e.inst with
    | 0 => s.failEssential 0 0 2
    | 1 => s.failEssential 0 0 3
    | 2 => ({ s with dram := { s.dram with failed := true } } : State).failEssential 0 0 4
    | 3 => if e.fixed then s.failEssential 0 0 7
      else { s with fault := { s.fault with lineStoreWithheld := s.fault.lineStoreWithheld + 1 } }
    | 4 => s.failEssential 0 0 8
    | 5 => { s with fault := { s.fault with statsUnusable := true } }
    | 6 => { s with fault := { s.fault with trestleUnusable := true } }
    | 7 => { s with fault := { s.fault with netUnusable := true } }
    | 8 => { s with fault := { s.fault with monitorUnusable := true } }
    | 10 => { s with fault := { s.fault with viaductUnusable := true }, vd := { s.vd with link := 0 } }
    | 11 => s.failEssential 3 0 0xFE
    | _ => s
  | 0x01 => (natsFrom 4 (e.inst / 4 * 4)).foldl (fun (s : State) p => s.markUnusable 1 p) s
  | 0x02 => s.markUnusable 1 e.inst
  | 0x03 => s.failEssential 3 0 0xFE
  | 0x08 => (natsFrom 16 (16 * e.inst)).foldl (fun (s : State) c => s.markUnusable 7 c) (s.markUnusable 8 e.inst)
  | 0x0C => ({ s with dram := { s.dram with failed := true } } : State).failEssential 0 0 4
  | b => s.markUnusable b e.inst

/-- Order of the regions from the start of DRAM (R492). -/
def regionOrder : List Nat := [0, 1, 5, 7, 9, 10, 11, 3, 8, 4, 6, 2]

/-- The regions laid out upward in MiB: each region with its base and size in bytes. -/
def layRegions (size : Nat → Nat) : List Nat → Nat → List (Nat × Nat × Nat)
  | [], _ => []
  | r :: l, base => (r, base, size r * 2 ^ 20) :: layRegions size l (base + size r * 2 ^ 20)

/-- The layout of R492 for a DRAM section p, the section that gives the region sizes, and a fitted capacity in MiB. -/
def DramState.layout (m : DramState) (p sizes : Container) (capacity : Nat) : DramState :=
  let size (r : Nat) : Nat := if r = 3 then p.lookbackOf sizes capacity else sizes.regionMib r
  let l := layRegions size regionOrder 0x1000000000
  let top := 0x1000000000 + sumN (l.map (fun x => x.2.2))
  { m with
    capacityMib := capacity
    eccMask := p.eccMask
    regions := (upto 12).map (fun r => (lookupN r l).getD (0, 0))
    eccStore := (top, p.eccMibOf sizes * 2 ^ 20) }

/-- CAP_LOG2, TYPE and the rates of the DRAM section (R501). -/
def Container.dramCap (p : Container) : Nat := 2 ^ p.f 0x8040 0 0x00 11 8 4
/-- TYPE. -/
def Container.dramType (p : Container) : Nat := p.f 0x8040 0 0x00 0 0 1
/-- RATE0 and RATE1. -/
def Container.dramRates (p : Container) : List Nat := [p.f 0x8040 0 0x04 15 0 8533, p.f 0x8040 0 0x04 31 16 4267]

/-- Training and layout (R491, R492, R514): the fitted values with the default sizes where the section does not match. -/
def State.layDram (s : State) (p : Container) (trained : Bool) (gib type : Nat) : State :=
  if !trained then ({ s with dram := { s.dram with failed := true } } : State).failEssential 0 0 4
  else
    let same := p.dramCap == gib && p.dramType == type
    let m := s.dram.layout p (if same then p else {}) (gib * 1024)
    let s1 : State := { s with dram := { m with
      trained := true, fittedType := type, rates := p.dramRates, setPoint := 0, selfRefresh := false, awake := false } }
    (s1.initRing false).initRing true

/-- The RETIRE section's channels are retired (R579, R591). -/
def State.bootRetire (s : State) : State :=
  let p := s.profile.current
  let n := min 64 (p.f 0x8080 0 0x00 6 0 0)
  s.retireUnits 0xFF ((upto n).map (fun i => (p.f 0x8080 0 (0x10 + 4 * i) 7 0 0, p.f 0x8080 0 (0x10 + 4 * i) 31 16 0)))

/-- The notifications that boot and self-test held back, then BOOT_DONE (R491, R566-R568). -/
def State.bootNotify (s : State) (mismatch : Bool) : State :=
  let s1 := s.fw.bootNotes.foldl (fun (s : State) n => s.notify n.1 n.2 0 0) { s with fw := { s.fw with bootNotes := [] } }
  let s2 := if s.profile.storedValid then s1 else s1.notify 0x0012 0 0 0
  let s3 := if mismatch then s2.notify 0x0B00 s.dram.capacityMib 0 s.dram.fittedType else s2
  s3.notify 0x0013 s.sys.fwVersion 0 0

/-- BOOT_DONE (R547, R568, R581, R582): self-test results, DRAM, the profile, retirements, then STANDBY, or CONFIGURE without a valid stored
profile; an essential failure ends in SAFE_HOLD. Channels fitted unequally are
misuse, as are rates outside the set points of the fitted type (R500). -/
def execBootDone (failures : List BistEntry) (dramTrained : Bool) (fittedGib fittedType : Nat) (s : State) (unequal : Bool := false) : Outcome :=
  let p : Container := if s.profile.storedValid then (parseContainer true (s.profile.stored.getD [])).2 else {}
  if s.sys.mode ≠ .selftest then .next s
  else if unequal ∨ (dramTrained ∧ p.ratesBad fittedType) then .fault (.misuse 500)
  else
    let s1 : State := { s with
      profile := { s.profile with current := p, loaded := none }
      net := { s.net.profileTakes with incr := p.nomIncr }
      fault := { s.fault with
        bist := failures, bistFull := s.bistFullStrap, bistRan := true, bistUs := if s.bistFullStrap then 220000 else 30000 } }
    let s2 := s1.assignTargets.layDram p dramTrained fittedGib fittedType
    let s3 := (failures.foldl State.bootFailure s2).bootRetire
    let s4 := s3.afterRetire 0xFE
    let m : Mode := if s.profile.storedValid then .standby else .configure
    let s5 : State := { s4 with sys := { s4.sys with mode := m, target := m, lineMode := m } }
    let s6 : State := if m = .standby then s5.enterStandby
      else { s5 with mon := if s5.fault.monitorUnusable then s5.mon else s5.mon.restart }
    let mismatch := dramTrained && !(p.dramCap == fittedGib && p.dramType == fittedType)
    .next (s6.bootNotify mismatch).settle

end Sys2Proof.Machine
end

