-- ==== Sys2Proof/Machine/Snapshot.lean ====
section
/-! DEFINITION. Status snapshots (R33, R34, R410) with the body of each part, and COUNTER_CLEAR. -/

namespace Sys2Proof.Machine

/- Part bodies (R410): counters first, one word per counter and instance, then the state values of the block's chapter. -/

/-- Part 0x01, intake and correction (R125, R149). A bonded camera's counters stand at its even port, but for
those of the two correction stages. -/
def State.intakeWords (s : State) : List Nat :=
  let c (f : PortCount → Nat) : List Nat := (upto 24).map (fun p => match s.camOfPort p with
    | some k => f (s.cam k).count
    | none => 0)
  let both (f g : PortCount → Nat) : List Nat := (upto 24).map (fun p => match s.profile.current.portCam p with
    | some (k, 0) => f (s.cam k).count
    | some (k, _) => g (s.cam k).count
    | none => 0)
  c (·.ecc1) ++ c (·.ecc2) ++ c (·.crc) ++ c (·.length) ++ c (·.sync) ++ c (·.other) ++ c (·.nofs) ++ c (·.nofe) ++ c (·.spurious) ++
  c (·.seq) ++ c (·.long) ++ c (·.late) ++ c (·.short) ++ c (·.voidlines) ++ c (·.skiptrig) ++ c (·.latecommit) ++ c (·.deferred) ++
  c (·.ibi) ++ both (·.dpkeep) (·.dpkeepOdd) ++ both (·.eccCorr) (·.eccCorrOdd) ++ both (·.eccUnc) (·.eccUncOdd) ++ both (·.double) (·.doubleOdd) ++ (upto 24).map (fun k => (s.cam k).remapClip)

/-- Part 0x02, Span (R149). -/
def SpanState.words (x : SpanState) : List Nat := x.fallback ++ [x.unc]

/-- Part 0x03, compare and registration (R202, R229). -/
def State.compareWords (s : State) : List Nat :=
  let c := s.reg.count
  [c.stretch, c.outlier, c.fieldclip, c.rebase, c.latefield, c.edgeclamp, c.bandlate, c.bandEcc, c.locks, c.losses, s.cmp.ivlfull,
   s.reg.st, truncN 32 s.reg.coff, truncN 32 s.reg.lrep, s.reg.frac]

/-- Part 0x04, segmenter (R229). -/
def SegCount.words (c : SegCount) : List Nat :=
  [c.noseed, c.small, c.softcut, c.streaks, c.swarms, c.qswarms, c.queuefull, c.pairmerge, c.segEcc, c.blobs]

/-- Part 0x05, codec (R523). -/
def State.codecWords (s : State) : List Nat :=
  let c := s.codec
  let g := s.camDeck.groupLoads (!c.lb.shed) (!c.ov.shed)
  c.blocks ++ c.eccCorr ++ c.eccUnc ++ [c.escapes, c.tileRestarts, c.shedLines, sumN ((upto 3).map (fun k => (s.unitsOf k).length)),
    sumN (g.map (·.2))] ++ g.map (fun x => x.1 / 1000000) ++ [b2n c.ov.shed + 2 * b2n c.lb.shed]

/-- State word of a channel: 0 in service, 1 retired, 2 unusable (log 63). -/
def Channel.word (c : Channel) : Nat := if c.unusable then 2 else b2n c.retired

/-- Clocks of the 16 frames in MHz: in STANDBY they stop, and a clock that stands reads 0 (R552). -/
def State.frameClocks (s : State) : List Nat := if s.sys.mode = .standby then List.replicate 16 0 else s.comb.clock

/-- Part 0x06, Comb (R254, R272). -/
def State.combWords (s : State) : List Nat :=
  let c := s.comb
  let cells (l : List (Nat × Nat)) : List Nat := (upto 256).map (fun k => (lookupN k l).getD 0)
  cells c.tasksDone ++ cells c.cellFaults ++ c.frameFaults ++ [c.retries, c.dropped] ++ cells c.cmEcc ++ c.fsEccCorr ++ c.fsEccUnc ++
  c.paramRewrite ++ [c.withdrawn] ++ c.sheds ++ c.ruleHits ++
  (upto 256).map (fun k => (s.channel 7 k).word) ++ (upto 16).map (fun f => (s.channel 8 f).word) ++ s.frameClocks ++
  [c.half, if s.deck.staged.isSome then 1 - c.half else 0xFFFFFFFF]

/-- Part 0x07, records (R307). -/
def State.recordWords (s : State) : List Nat :=
  let r := s.recs.rings
  r.map (·.lost) ++ r.map (·.spillHwm) ++ [s.recs.holds, s.recs.cropFull] ++ s.mark.marker.map (·.late) ++ s.mark.marker.map (·.missed) ++
  r.map (·.spill.length)

/-- Part 0x08, one head (R340). θ and V are free values while nothing has measured them (log 3). -/
def State.headWords (s : State) (h : Nat) : List Nat :=
  let c := (s.head h).count
  let lead := (s.deckOf (s.epochAt (.head h))).groupLead h
  [c.lines, c.suppressed, c.overspeed, c.timeClip, c.dutyClip, c.energyClip, c.thermRange, c.fetchLate, c.withdrawn, c.missing, c.late,
   truncN 32 ((s.headTheta h).getD (Config.freeInt s.free)), ((s.headVolt h).getD (Config.freeNat s.free)) % 2 ^ 32,
   truncN 32 (getN s.print.shift lead 0), getN s.print.level lead 0, (s.queueOf lead).read]

/-- Part 0x0A, position (R94). -/
def PosState.words (p : PosState) : List Nat :=
  p.enc.map (·.illegal) ++ p.enc.map (·.zcount) ++ p.tth.map (·.tcount) ++ p.senc.map (·.crc) ++ p.senc.map (·.nerr) ++
  p.senc.map (·.timeout) ++ p.senc.map (·.warn) ++ [p.overspeedLate, p.reverseCount]

/-- Part 0x0B, Trestle (R375). -/
def State.trestleWords (s : State) : List Nat :=
  let t := s.trestle
  (upto 128).map (fun p => (lookupN p t.published).getD 0) ++ (upto 128).map (fun p => b2n (t.loops.contains p)) ++
  t.channels.map (·.carried) ++ t.channels.map (·.blocked) ++ t.channels.map (·.loopdrop) ++ t.channels.map (·.parity) ++
  t.inputs.map (·.taken) ++ t.inputs.map (fun i => b2n i.coinc) ++ t.inputs.map (·.ovr) ++ s.mark.marker.map (·.stale)

/-- Part 0x0C, DRAM (R499). -/
def DramState.words (d : DramState) : List Nat :=
  d.eccCorr ++ d.eccUnc ++ [d.lbDrop, d.fspChanges, d.setPoint, getN d.rates d.setPoint 0] ++ d.mr4 ++ [d.owedMax]

/-- Part 0x0D, Viaduct (R469). -/
def ViaductState.words (v : ViaductState) : List Nat :=
  v.syncErr ++ v.chkErr ++ [v.replay, v.trains, v.splits, v.seamLate, v.roleConflict, v.link, v.rate, v.tx, v.rx, v.pair, v.splitCause, v.latNs] ++
  lohi v.peerChip ++ [v.peerVersion]

/-- Part 0x0E, network (R446). -/
def State.netWords (s : State) : List Nat :=
  let n := s.net
  n.ports.map (·.rx) ++ n.ports.map (·.tx) ++ n.ports.map (·.drop) ++ n.ports.map (·.fcs) ++ n.ports.map (·.pause) ++ n.ports.map (·.loopsrc) ++
  [n.tcCorr, n.tcFwd6, n.steps, n.deniedSrc, n.peerDrop] ++
  [0x01, 0x02, 0x10, 0x20, 0x30, 0x40, 0x41].map (fun t => (lookupN t n.peerTx).getD 0) ++ [n.bulkReject, n.netEcc] ++
  (upto 2).map s.profile.current.ethMode ++ n.ports.map (fun (p : NetPort) => b2n p.link) ++ [b2n n.set, b2n n.locked] ++ lohi n.incr ++ lohiS n.offset

/-- STATE of a host channel as a number (R477). -/
def DmaRun.code : DmaRun → Nat
  | .idle => 0 | .running => 1 | .draining => 2 | .paused => 3

/-- Part 0x0F, host interface and host DMA channels (R487). -/
def DmaState.words (d : DmaState) : List Nat :=
  d.chan.map (·.eccCount) ++ d.chan.map (fun (c : DmaChan) => c.run.code) ++ d.chan.map (·.head) ++ d.chan.map (·.done)

/-- Part 0x10, monitor (R541). -/
def MonitorState.words (m : MonitorState) : List Nat :=
  [m.ecc, getN m.preset m.bank 0, m.bank] ++ m.chan.map (fun (c : MonChan) => c.code % 2 ^ 24 + b2n c.valid * 2 ^ 31)

/-- Part 0x11, power and thermal (R571). -/
def State.powerWords (s : State) : List Nat :=
  let p := s.power
  [p.brownouts, p.derateSteps, p.watchdogRestarts, p.vinMv] ++ p.temps.map (truncN 32) ++ [truncN 32 p.tmax, p.derate] ++ s.frameClocks ++
  [s.dram.setPoint]

/-- Body of a part. -/
def State.partWords (s : State) (p inst : Nat) : List Nat :=
  match p with
  | 0x01 => s.intakeWords
  | 0x02 => s.span.words
  | 0x03 => s.compareWords
  | 0x04 => s.seg.count.words
  | 0x05 => s.codecWords
  | 0x06 => s.combWords
  | 0x07 => s.recordWords
  | 0x08 => s.headWords inst
  | 0x09 => [(s.marker inst).late, (s.marker inst).missed]
  | 0x0A => s.pos.words
  | 0x0B => s.trestleWords
  | 0x0C => s.dram.words
  | 0x0D => s.vd.words
  | 0x0E => s.netWords
  | 0x0F => s.dma.words
  | 0x10 => s.mon.words
  | _ => s.powerWords

/- Taking parts. -/

/-- The parts that PARTS selects, each with its instances (R410). -/
def partList (mask : Nat) : List (Nat × Nat) :=
  ((bitsSet 18 mask).filter (fun p => p != 0)).flatMap (fun p =>
    if p = 8 ∨ p = 9 then (upto 8).map (fun i => (p, i)) else [(p, 0xFF)])

/-- Parts with the offsets at which they go. -/
def State.partPlan (s : State) : List (Nat × Nat) → Nat → List ((Nat × Nat) × Nat)
  | [], _ => []
  | (p, i) :: r, off => ((p, i), off) :: s.partPlan r (off + 24 + 4 * (s.partWords p i).length)

/-- LENGTH: bytes of a snapshot of these parts, header included. -/
def State.snapLength (s : State) (l : List (Nat × Nat)) : Nat := 64 + sumN (l.map (fun x => 24 + 4 * (s.partWords x.1 x.2).length))

/-- Epoch that a part states (R34): the station's own, or the epoch of line S for the blocks that S passes through. -/
def State.partEpoch (s : State) (n : Snapshot) (p inst : Nat) : Nat :=
  if p = 8 then s.epochAt (.head inst)
  else if p = 9 then s.epochAt (.marker inst)
  else if p ≤ 5 ∨ p = 7 then n.fired.getD s.deck.epoch
  else s.deck.epoch

/-- A part taken and written at its place (R410). -/
def State.takePart (s : State) (n : Snapshot) (x : (Nat × Nat) × Nat) : State :=
  let ws := s.partWords x.1.1 x.1.2
  let line := if n.noLine ∨ n.fired.isNone then 2 ^ 64 - 1 else n.line
  (s.write (n.dest + x.2) (wordsBytes ([x.1.1 + x.1.2 * 256, s.partEpoch n x.1.1 x.1.2] ++ lohi line ++ [4 * ws.length, 0] ++ ws))).drawn

/-- The header, which is written after the last part (R410). TIME is a free value where S did not trigger in time (log 64). -/
def State.snapHeader (s : State) (n : Snapshot) (noWeb : Bool) : State :=
  let time := if n.noLine then Config.freeNat s.free % 2 ^ 64 else n.time
  (s.write n.dest (wordsBytes ([0x50414E53, n.mask, n.length, b2n noWeb + 2 * b2n n.noLine + 1 * 2 ^ 16] ++ lohi n.line ++ lohi time ++ [n.req.seq]) ++
    leBytes 28 0)).drawn

/-- Has line S passed the place where a part is taken (R33, R410)? -/
def State.partDue (s : State) (n : Snapshot) (p : Nat) : Bool :=
  let inSlots := s.intake.slots.any (fun x => x.1 == n.ser)
  let inSpan := inSlots || s.span.fromGeometry.any (fun x => x.1 == n.ser)
  let inCompare := inSpan || s.span.toCompare.any (fun w => w.ser == n.ser)
  n.fired.isSome &&
  (if p = 1 then !inSlots
   else if p = 2 ∨ p = 5 then !inSpan
   else if p = 3 then !inCompare
   else if p = 4 ∨ p = 7 then !(inCompare || s.cmp.out.any (fun c => c.ser == n.ser))
   else true)

/-- Parts are taken; with none left the header is written and the command completes with DETAIL = LENGTH. -/
def State.snapTake (s : State) (n : Snapshot) (now : List ((Nat × Nat) × Nat)) (noWeb : Bool) : State :=
  let s1 := now.foldl (fun (s : State) x => s.takePart n x) s
  let n1 : Snapshot := { n with waiting := n.waiting.filter (fun x => !now.contains x) }
  if n1.waiting.isEmpty then
    ({ (s1.snapHeader n1 noWeb) with keeper := { s1.keeper with snapshot := none } } : State).completeCode 0x0003 .ok n1.length
  else { s1 with keeper := { s1.keeper with snapshot := some n1 } }

/-- After a line has moved on: the parts whose place line S has passed are taken (R33). -/
def State.snapStep (s : State) : State :=
  match s.keeper.snapshot with
  | none => s
  | some n =>
    let n1 : Snapshot := match n.fired, s.pos.lastLine with
      | none, some l => if s.intake.ser > n.ser then { n with fired := some l.epoch, time := l.time } else n
      | _, _ => n
    s.snapTake n1 (n1.waiting.filter (fun x => s.partDue n1 x.1.1)) false

/- Commands. -/

/-- The snapshot that a request starts: S is the next line, WLN 0 where a switch is due (R33; DEDUCED, log 64). -/
def State.newSnapshot (s : State) (q : Req) (dest parts timeoutMs : Nat) : Snapshot :=
  let mask := parts % 2 ^ 18 / 2 * 2
  let l := partList mask
  { req := q, dest := dest, ser := s.intake.ser, mask := mask, length := s.snapLength l, time := s.time
    line := if !s.webRunning then 2 ^ 64 - 1 else if s.switchDue.isSome then 0 else s.pos.wln
    timeoutMs := if timeoutMs = 0 then 1000 else timeoutMs
    waiting := s.partPlan l 64 }

/-- SYS_SNAPSHOT's effect (R410): outside the web modes every part is taken at once. -/
def State.snapBegins (s : State) (q : Req) (n : Snapshot) : State :=
  let s1 := s.start 0x0003 q [n.dest]
  if s.webRunning then ({ s1 with keeper := { s1.keeper with snapshot := some n } } : State).snapStep else s1.snapTake n n.waiting true

/-- Does PARTS set a reserved bit: bit 0 or one of bits [31:18] (R15, R410)? -/
def partsReserved (parts : Nat) : Bool := parts % 2 == 1 || decide (parts ≥ 2 ^ 18)

/-- SYS_SNAPSHOT (R33, R410). A DEST outside DRAM is a case of misuse (R32). -/
def execSysSnapshot (q : Req) (dest destLen parts timeoutMs : Nat) (s : State) : Outcome :=
  let n := s.newSnapshot q dest parts timeoutMs
  let refuse := if s.keeper.snapshot.isSome then some (.fail .busy 5)
    else if n.length > destLen then some (resource 0x0D (ceilDiv n.length 64)) else none
  if (admission s q .nb false).isNone && partsReserved parts then .fault (.misuse 15)
  else if (admission s q .nb false).isNone && refuse.isNone && s.rangeOf dest n.length != some 6 then .fault (.misuse 32)
  else runCmd 0x0003 q .nb false refuse (s.snapBegins q n, { status := 1, payload := leBytes 8 n.line ++ leBytes 4 n.length }) s

/-- SNAPSHOT_TIMEOUT (R410): while S has not triggered, the parts not taken are taken now, with NOLINE. -/
def execSnapshotTimeout (s : State) : Outcome :=
  match s.keeper.snapshot with
  | none => .next s
  | some n => if n.fired.isSome then .next s else
    let n1 : Snapshot := { n with noLine := true }
    .next (s.snapTake n1 n1.waiting false)

/- COUNTER_CLEAR (R410). -/

/-- Counters of the web path: parts 0x01 to 0x05. -/
def State.clearWebCounters (s : State) (m : Nat) : State :=
  { s with
    intake := if bitAt m 1 then { s.intake with cam := s.intake.cam.map (fun (c : Camera) => { c with count := {}, remapClip := 0 }) } else s.intake
    span := if bitAt m 2 then { s.span with fallback := List.replicate 24 0, unc := 0 } else s.span
    reg := if bitAt m 3 then { s.reg with count := {} } else s.reg
    cmp := if bitAt m 3 then { s.cmp with ivlfull := 0 } else s.cmp
    seg := if bitAt m 4 then { s.seg with count := {} } else s.seg
    codec := if bitAt m 5 then
        { s.codec with blocks := List.replicate 24 0, eccCorr := List.replicate 24 0, eccUnc := List.replicate 24 0, escapes := 0, tileRestarts := 0,
                       shedLines := 0 }
      else s.codec }

/-- Counters of the Comb. -/
def CombState.clearCounters (c : CombState) : CombState :=
  { c with
    tasksDone := [], cellFaults := [], frameFaults := List.replicate 16 0, retries := 0, dropped := 0, cmEcc := [],
    fsEccCorr := List.replicate 16 0, fsEccUnc := List.replicate 16 0, paramRewrite := List.replicate 16 0, withdrawn := 0,
    sheds := List.replicate 16 0, ruleHits := List.replicate 64 0 }

/-- Counters of Comb, records, print, markers and position: parts 0x06 to 0x0A. -/
def State.clearMidCounters (s : State) (m : Nat) : State :=
  { s with
    comb := if bitAt m 6 then s.comb.clearCounters else s.comb
    recs := if bitAt m 7 then
        { s.recs with rings := s.recs.rings.map (fun (r : Ring) => { r with lost := 0, spillHwm := 0 }), holds := 0, cropFull := 0 }
      else s.recs
    mark := if bitAt m 7 || bitAt m 9 then
        { s.mark with marker := s.mark.marker.map (fun (k : Marker) => { k with late := 0, missed := 0 }) }
      else s.mark
    print := if bitAt m 8 then { s.print with head := s.print.head.map (fun (h : Head) => { h with count := {} }) } else s.print
    pos := if bitAt m 10 then
        { s.pos with
          enc := s.pos.enc.map (fun (e : Encoder) => { e with illegal := 0, zcount := 0 })
          tth := s.pos.tth.map (fun (t : Tooth) => { t with tcount := 0 })
          senc := s.pos.senc.map (fun (e : Serial) => { e with crc := 0, nerr := 0, timeout := 0, warn := 0 })
          overspeedLate := 0, reverseCount := 0 }
      else s.pos }

/-- Counters of the network. -/
def NetState.clearCounters (n : NetState) : NetState :=
  { n with
    ports := n.ports.map (fun (p : NetPort) => { p with rx := 0, tx := 0, drop := 0, fcs := 0, pause := 0, loopsrc := 0 })
    tcCorr := 0, tcFwd6 := 0, steps := 0, deniedSrc := 0, peerDrop := 0, peerTx := [], bulkReject := 0, netEcc := 0 }

/-- Counters of parts 0x0C to 0x11. -/
def State.clearEdgeCounters (s : State) (m : Nat) : State :=
  { s with
    dram := if bitAt m 12 then { s.dram with eccCorr := List.replicate 8 0, eccUnc := List.replicate 8 0, lbDrop := 0, fspChanges := 0 } else s.dram
    vd := if bitAt m 13 then
        { s.vd with syncErr := List.replicate 9 0, chkErr := List.replicate 9 0, replay := 0, trains := 0, splits := 0, seamLate := 0, roleConflict := 0 }
      else s.vd
    net := if bitAt m 14 then s.net.clearCounters else s.net
    dma := if bitAt m 15 then { s.dma with chan := s.dma.chan.map (fun (c : DmaChan) => { c with eccCount := 0 }) } else s.dma
    mon := if bitAt m 16 then { s.mon with ecc := 0 } else s.mon
    power := if bitAt m 17 then { s.power with brownouts := 0, derateSteps := 0, watchdogRestarts := 0 } else s.power }

/-- COUNTER_CLEAR (R410): the counters of the named parts, but for part 0x0B, which EVT_CLEAR governs. -/
def execCounterClear (q : Req) (parts : Nat) (s : State) : Outcome :=
  if (admission s q .nb false).isNone && partsReserved parts then .fault (.misuse 15)
  else runCmd 0x0008 q .nb false none (((s.clearWebCounters parts).clearMidCounters parts).clearEdgeCounters parts, {}) s

end Sys2Proof.Machine
end

