-- ==== Sys2Proof/Machine/Lines.lean ====
section
/-! DEFINITION. The commands that move lines on: triggers (R85-R93, R168, R457), geometry, Span, compare and segmenter (R137, R143, R206, R215),
task completion (R245, R246) and the marker stations of a swap (R57). -/

namespace Sys2Proof.Machine

/-- After lines fired: what a switch line, the mode line, a strip whose last camera lines their deadline settled, and a pending snapshot bring (R33, R61,
R111, R549). -/
def State.afterLines (s pre : State) : State := (((s.switchHook pre).modeLineHook pre).endStrip).snapStep

/-- LINE_TRIGGER (R85, R89). Outside the web modes, in free-run, and on the secondary of a JOINED pair no trigger fires here (R88, R93, R457). -/
def execLineTrigger (t : Nat) (s : State) : Outcome :=
  if !s.webRunning ∨ s.follows ∨ s.pos.freeRun then .next s
  else
    let s0 := s.advance t
    let s1 : State := { s0 with pos := s0.pos.idleTo s0.camDeck s0.now }
    .next (s1.triggerTick.afterLines s)

/-- FREE_RUN_LINE (R93). -/
def execFreeRunLine (t : Nat) (s : State) : Outcome :=
  if !s.webRunning ∨ s.follows ∨ !s.pos.freeRun then .next s else .next ((s.advance t).freeRunTick.afterLines s)

/-- CAL_TIMED_TRIGGER (R168). -/
def execCalTimedTrigger (t : Nat) (s : State) : Outcome :=
  if s.sys.lineMode ≠ .calibrate then .next s else .next ((s.advance t).calTick.afterLines s)

/-- The swap whose switch line a forwarded line is: the first of an epoch that is not the camera bar's (R61, R457). -/
def State.forwardedSwitch (s : State) (epoch : Nat) : Option Swap :=
  match s.deck.swap with
  | some w => if epoch ≠ s.deck.epoch ∧ !w.cameraDone then some w else none
  | none => none

/-- The slot of a forwarded line (R457): WLN, WPOS, RIDX, ROFF and TIME are the primary's. -/
def State.forwardedSlot (s : State) (wln : Nat) (wpos : Int) (epoch time ridx roff : Nat) (notrig switch : Bool) : LineSlot :=
  { wln := wln, wpos := wpos, epoch := epoch, time := time, tick := s.now, ridx := ridx, roff := roff, mode := s.sys.lineMode
    overspeed := notrig, reverse := decide (s.pos.settle > 0), revFirst := s.pos.revFirst, posLost := s.pos.freeRun, switchLine := switch
    retired := s.compareRetired
    refLabel := if ridx = s.pos.ridx then none else some (wpos - roff) }

/-- The position block after a forwarded line: T stands one PITCH on, and the labels are the primary's. -/
def PosState.followLine (p : PosState) (l : LineSlot) (pitch now : Nat) : PosState :=
  let t := p.t + wposDiff l.wpos p.nextWpos * 65536
  let q := ({ p with t := t, wln := l.wln, h := max p.h t } : PosState).fired pitch now l.overspeed
  let label : Option Int := if l.roff = 0xFFFFFFFF then none else some (l.wpos - l.roff)
  { q with
    ridx := l.ridx, curLabel := label, lastLine := some l
    repeatNm := match l.refLabel, p.curLabel with
      | some a, some b => some (a - b)
      | _, _ => p.repeatNm }

/-- LINE (R457): the secondary of a JOINED pair fires the forwarded line at receipt; a joint swap to decks that differ in either pitch splits the pair
(R460, cause 6). -/
def execLine (wln : Nat) (wpos : Int) (epoch time ridx roff : Nat) (notrig : Bool) (s : State) : Outcome :=
  if !s.follows ∨ !s.webRunning then .next s
  else
    let due := s.forwardedSwitch epoch
    let s1 := match due with
      | some w => (s.cameraSwitch w).switchCams ((s.slotDeck w.slot).getD {}) s.camDeck
      | none => s
    let slot := s1.forwardedSlot wln wpos epoch time ridx roff notrig due.isSome
    let s2 : State := { s1 with pos := s1.pos.followLine slot s1.camDeck.pitch s1.now }
    let s3 := match slot.refLabel with
      | some l => s2.publish 0x02 l
      | none => s2
    let s4 := (s3.publish 0x01 wpos).lineIntake slot (!notrig)
    let s5 := if due.isSome ∧ (s4.camDeck.pxPitch ≠ s4.vd.peerPitch ∨ s4.camDeck.pitch ≠ s4.vd.peerPosPitch) then s4.splitPair 6 else s4
    .next (s5.afterLines s)

/- Packets (R103-R111, R123): each may settle the last camera line that a strip's statistics wait for (R157). -/

/-- FS. -/
def execCsiFrameStart (port : Nat) (p : CsiPacket) (s : State) : Outcome := .next (s.csiFrameStart port p).endStrip

/-- FE. -/
def execCsiFrameEnd (port : Nat) (p : CsiPacket) (s : State) : Outcome := .next (s.csiFrameEnd port p).endStrip

/-- Line Start. -/
def execCsiLineStart (port : Nat) (p : CsiPacket) (s : State) : Outcome := .next (s.csiLineStart port p)

/-- A long packet. -/
def execCsiLongPacket (port : Nat) (p : CsiPacket) (s : State) : Outcome := .next (s.csiLongPacket port p).endStrip

/-- Any other packet. -/
def execCsiOtherPacket (port : Nat) (p : CsiPacket) (s : State) : Outcome := .next (s.csiOtherPacket port p)

/-- SYNC. -/
def execCsiSyncError (port : Nat) (s : State) : Outcome := .next (s.csiSyncError port).endStrip

/-- The deadline 1 ms after an exit (R111). -/
def execExitDeadline (s : State) : Outcome := .next s.exitCloses.endStrip

/-- GEOMETRY_LINE (R137, R147). -/
def execGeometryLine (s : State) (hits : List (Nat × EccHit) := []) : Outcome := .next (s.geometryLeaves hits).snapStep

/-- SPAN_EMIT_LINE (R143, R148). -/
def execSpanEmitLine (bufferError : Option Nat) (s : State) : Outcome := .next (s.spanLine bufferError).snapStep.settle

/-- COMPARE_LINE (R206, R458): of a JOINED pair's line the SEAM message leaves. -/
def execCompareLine (bufferError gapStateError : Bool) (s : State) (hits : List BandHit := []) (corrected : Nat := 0) : Outcome :=
  let s1 := s.comparedLine bufferError gapStateError hits corrected
  .next (if s.span.toCompare.isEmpty then s1 else s1.sendSeam.snapStep)

/-- SEGMENT_LINE (R215). -/
def execSegmentLine (labelError : Bool) (s : State) (corrected : Nat := 0) (queueError : Option (Nat × Nat) := none) : Outcome :=
  .next ((s.segErrors corrected queueError).labelledLine labelError).snapStep

/-- TASK_COMPLETE (R245). -/
def execTaskComplete (cell : Nat) (s : State) (bad : List (Nat × Nat × Nat) := []) : Outcome := .next ((s.withBad bad).taskDone cell).endBad.settle

/-- TASK_WATCHDOG (R245, R246): code 2. -/
def execTaskWatchdog (cell : Nat) (s : State) : Outcome := .next (s.cellError cell 2 false).settle

/-- CELL_FAULT (R235, R239, R246): an error of the cell, or of its frame store, while the cell's task runs. `param` names a parameter word, which the Keeper rewrites
from the deck; `corrected` a single-bit error, which counts and no more. -/
def execCellFault (cell code : Nat) (frameStore : Bool) (s : State) (param corrected : Bool := false) : Outcome :=
  if corrected then .next (s.correctedError cell frameStore)
  else
    let s1 := match s.taskOn cell with
      | some t => if frameStore && param then s.rewriteParam (cell / 16) t.epoch else s
      | none => s
    .next (s1.cellError cell code frameStore).settle

/-- STATION_SWITCH (R57): marker m switches once H has reached Ws plus its offset. -/
def execStationSwitch (m : Nat) (s : State) : Outcome :=
  match s.deck.swap with
  | none => .next s
  | some w =>
    if w.waiting.contains (.marker m) ∧ s.highWpos ≥ w.here + s.profile.current.markOff m then .next (s.stationDone (.marker m)) else .next s

end Sys2Proof.Machine
end

