-- ==== Sys2Proof/Machine/System.lean ====
section
/-! DEFINITION. System commands (R403-R407): SYS_NOP, SYS_IDENT, SYS_STATUS, SYS_ABORT and SYS_RESET. -/

namespace Sys2Proof.Machine

/-- SYS_NOP (R405): the device time. -/
def execSysNop (q : Req) (s : State) : Outcome := runCmd 0x0000 q .nb true none (s, .ok (leBytes 8 s.time)) s

/-- HIF_ID (R381): part and silicon step B0. -/
def State.hifId (s : State) : Nat := s.part * 2 ^ 16 + 0xB000

/-- HIF_FW_SLOT (R381). -/
def State.hifFwSlot (s : State) : Nat := s.sys.fwSlot + 2 * b2n s.sys.patched

/-- Cells in service. -/
def State.cellsIn (s : State) : Nat := 256 - s.cellsOut

/-- The SYS_IDENT response (R405). The DRAM rate is RATE0 (DEDUCED, log 67). -/
def State.identBytes (s : State) : List Byte :=
  let ports := sumN (((upto s.partPorts).filter (fun p => !(s.channel 1 p).unusable)).map (fun p => 2 ^ p))
  let frames := ((upto 16).filter s.frameUp).length
  let slotVer (k : Nat) : Nat := (getN s.fw.slots k {}).version
  wordsBytes ([s.hifId, 0x01000100] ++ lohi s.fuse.chipId ++ [s.sys.fwVersion, slotVer 0, slotVer 1, s.hifFwSlot, s.dram.capacityMib,
    s.dram.fittedType + getN s.dram.rates 0 0 * 2 ^ 16, ports, s.cellsIn + frames * 2 ^ 16, 0, 0, 0, 0])

/-- SYS_IDENT (R405). -/
def execSysIdent (q : Req) (s : State) : Outcome := runCmd 0x0001 q .nb true none (s, .ok s.identBytes) s

/-- Word 0 of SYS_STATUS (R405). -/
def State.statusWord (s : State) : Nat :=
  let swap := match s.deck.swap with
    | none => 0
    | some w => if w.begun then 2 else 1
  let web := s.webRunning
  s.sys.mode.code + s.sys.target.code * 2 ^ 8 + b2n s.sys.transit * 2 ^ 12 + b2n s.deck.active.isSome * 2 ^ 16 +
    b2n s.deck.staged.isSome * 2 ^ 17 + swap * 2 ^ 18 + s.reg.st * 2 ^ 20 + b2n (web && s.pos.reverse) * 2 ^ 22 +
    b2n (web && s.pos.overspeed) * 2 ^ 23 + b2n (web && s.pos.freeRun) * 2 ^ 24 + b2n s.recs.hold * 2 ^ 25 + b2n s.net.set * 2 ^ 26

/-- The SYS_STATUS response (R405): the line fields of the latest line that has triggered, or 0 outside the web modes and before the first
line. -/
def State.statusBytes (s : State) : List Byte :=
  let line := if s.webRunning then s.pos.lastLine else none
  let l : List Nat := match line with
    | some x => lohi x.wln ++ lohiS (wpos48 x.wpos) ++ lohi x.time ++ [x.ridx, x.roff]
    | none => List.replicate 8 0
  let ws : Int := match s.deck.swap with
    | some w => w.ws
    | none => 0
  let ports := ((upto s.partPorts).filter (s.isRetired 1)).length
  let heads := ((upto 8).filter (s.isRetired 9)).length
  let r := s.speedRequest
  wordsBytes ([s.statusWord, (line.map (·.epoch)).getD s.deck.epoch] ++ l ++ lohiS (wpos48 ws) ++
    [s.cellsIn + ports * 2 ^ 16 + heads * 2 ^ 24, s.print.request.getD s.camDeck.spdFull + r.2.1 * 2 ^ 16, s.hif.heartbeat, 0])

/-- SYS_STATUS (R405). -/
def execSysStatus (q : Req) (s : State) : Outcome := runCmd 0x0002 q .nb true none (s, .ok s.statusBytes) s

/- SYS_ABORT (R403). -/

/-- The request that the Keeper is executing for a mailbox, SYS_ABORT itself apart. -/
def State.executing (s : State) (mbx : Nat) : Option Request := (s.mailbox mbx).taken.find? (fun r => r.cmd != 6)

/-- An aborted command responds BUSY 0x04; a DECK_LOAD leaves its slot empty (R411). -/
def State.abortRequest (s : State) (mbx : Nat) (r : Request) : State :=
  let s1 := if r.cmd = 0x0100 then (match s.loadSlot (leAt r.payload 12 1) with
    | .ok k => s.updSlot k (fun o => { o with deck := none })
    | .error _ => s) else s
  s1.respond r.cmd { mbx := mbx, seq := r.seq, srcAddr := r.srcAddr, srcPort := r.srcPort } (.fail .busy 4)

/-- What SYS_ABORT answers, and its effect: on a request that is being executed, or on a chunk write that an earlier FW_WRITE of the mailbox left
running, whose slot stays in state 1 (R424). -/
def State.abortFor (s : State) (mbx : Nat) : State × Reply :=
  match s.executing mbx with
  | some r =>
    if ((cmdRow r.cmd).map (·.abortable)).getD false then (s.abortRequest mbx r, .ok (leBytes 4 r.cmd))
    else (s, .fail .denied 2)
  | none =>
    match s.runningCmd 0x0901 with
    | some r =>
      if r.req.mbx = mbx then (({ s with fw := { s.fw with writing := none } } : State).complete r .busy 4, .ok (leBytes 4 0x0901))
      else (s, .fail .notFound 0)
    | none => if s.keeper.running.any (fun r => r.req.mbx == mbx) then (s, .fail .denied 2) else (s, .fail .notFound 0)

/-- SYS_ABORT (R403). -/
def execSysAbort (q : Req) (mbx : Nat) (s : State) : Outcome := runCmd 0x0006 q .nb true none (s.abortFor mbx) s

/- SYS_RESET (R407). -/

/-- SYS_RESET (R407): with the key the response is written, and the device resets 1 ms later. -/
def execSysReset (q : Req) (key : Nat) (s : State) : Outcome :=
  runCmd 0x0007 q .nb true (if key = 0x0A5A then none else some (.fail .denied 4))
    ({ s with keeper := { s.keeper with resetPending := true } }, {}) s

/-- SYS_RESET_DELAY_EXPIRY (R407): the device resets as HIF_RESET does; the millisecond starts when the response has been written. -/
def execSysResetDelayExpiry (s : State) : Outcome :=
  if s.keeper.resetPending ∧ !s.hif.mbx.any (fun m => m.executed.any (fun r => r.cmd == 7)) then .next s.hifReset else .next s

end Sys2Proof.Machine
end

