-- ==== Sys2Proof/Machine/Dispatch.lean ====
section
/-! DEFINITION. The dispatch of commands to their meanings: one arm per row of the opcode table. -/

namespace Sys2Proof.Machine

/-- The effect of a command on everything but the queue. -/
def exec (i : Instr) (s : State) : Host.Outcome State Fault Refusal :=
  match i with
  | .sysNop q => Sys2Proof.Machine.execSysNop q s
  | .sysIdent q => Sys2Proof.Machine.execSysIdent q s
  | .sysStatus q => Sys2Proof.Machine.execSysStatus q s
  | .sysSnapshot q dest destLen parts timeoutMs => Sys2Proof.Machine.execSysSnapshot q dest destLen parts timeoutMs s
  | .snapshotTimeout => Sys2Proof.Machine.execSnapshotTimeout s
  | .modeSet q target => Sys2Proof.Machine.execModeSet q target s
  | .modeTransitDone => Sys2Proof.Machine.execModeTransitDone s
  | .sysStop q => Sys2Proof.Machine.execSysStop q s
  | .sysAbort q mbx => Sys2Proof.Machine.execSysAbort q mbx s
  | .sysReset q key => Sys2Proof.Machine.execSysReset q key s
  | .sysResetDelayExpiry => Sys2Proof.Machine.execSysResetDelayExpiry s
  | .counterClear q parts => Sys2Proof.Machine.execCounterClear q parts s
  | .reinstate q block inst => Sys2Proof.Machine.execReinstate q block inst s
  | .deckLoad q addr len slot => Sys2Proof.Machine.execDeckLoad q addr len slot s
  | .deckStage q handle copies => Sys2Proof.Machine.execDeckStage q handle s copies
  | .deckUnstage q => Sys2Proof.Machine.execDeckUnstage q s
  | .deckArmSwap q ws => Sys2Proof.Machine.execDeckArmSwap q ws s
  | .deckCancelSwap q => Sys2Proof.Machine.execDeckCancelSwap q s
  | .deckActivate q => Sys2Proof.Machine.execDeckActivate q s
  | .deckQuery q => Sys2Proof.Machine.execDeckQuery q s
  | .deckDelete q handle => Sys2Proof.Machine.execDeckDelete q handle s
  | .profileLoad q addr len => Sys2Proof.Machine.execProfileLoad q addr len s
  | .refAlloc q len => Sys2Proof.Machine.execRefAlloc q len s
  | .refCommit q handle => Sys2Proof.Machine.execRefCommit q handle s
  | .refCommitDone => Sys2Proof.Machine.execRefCommitDone s
  | .refDelete q handle => Sys2Proof.Machine.execRefDelete q handle s
  | .refQuery q => Sys2Proof.Machine.execRefQuery q s
  | .refLearn q refId refRev lines => Sys2Proof.Machine.execRefLearn q refId refRev lines s
  | .refLearnAbort q => Sys2Proof.Machine.execRefLearnAbort q s
  | .refLearnDone => Sys2Proof.Machine.execRefLearnDone s
  | .exposureSet q e => Sys2Proof.Machine.execExposureSet q e s
  | .tdacSet q tdac code => Sys2Proof.Machine.execTdacSet q tdac code s
  | .calFlat q white ports => Sys2Proof.Machine.execCalFlat q white ports s
  | .calPhaseDone => Sys2Proof.Machine.execCalPhaseDone s
  | .calQuery q => Sys2Proof.Machine.execCalQuery q s
  | .calTableRead q dest port => Sys2Proof.Machine.execCalTableRead q dest port s
  | .sensorXfer q camera write aw dw addr value reply => Sys2Proof.Machine.execSensorXfer q camera write aw dw addr value reply s
  | .printQueueSet q lead sizeLog2 base => Sys2Proof.Machine.execPrintQueueSet q lead sizeLog2 base s
  | .printWithdraw q lead index => Sys2Proof.Machine.execPrintWithdraw q lead index s
  | .printRearm q => Sys2Proof.Machine.execPrintRearm q s
  | .printShift q lead shift => Sys2Proof.Machine.execPrintShift q lead shift s
  | .printElemQuery q head => Sys2Proof.Machine.execPrintElemQuery q head s
  | .printSubConfirm q head accept element => Sys2Proof.Machine.execPrintSubConfirm q head accept element s
  | .printElemClear q head element => Sys2Proof.Machine.execPrintElemClear q head element s
  | .printAuth q head => Sys2Proof.Machine.execPrintAuth q head s
  | .printUsageQuery q => Sys2Proof.Machine.execPrintUsageQuery q s
  | .printUsageWrite q head => Sys2Proof.Machine.execPrintUsageWrite q head s
  | .ringQuery q => Sys2Proof.Machine.execRingQuery q s
  | .cropRelease q handle => Sys2Proof.Machine.execCropRelease q handle s
  | .lookbackQuery q => Sys2Proof.Machine.execLookbackQuery q s
  | .lookbackFetch q overview epoch first lines xpos pixels dest => Sys2Proof.Machine.execLookbackFetch q overview epoch first lines xpos pixels dest s
  | .lookbackFetchDone bad => Sys2Proof.Machine.execLookbackFetchDone s bad
  | .lookbackAbort q => Sys2Proof.Machine.execLookbackAbort q s
  | .axisMove q axes relative interp profile targets => Sys2Proof.Machine.execAxisMove q axes relative interp profile targets s
  | .axisHome q axes => Sys2Proof.Machine.execAxisHome q axes s
  | .axisStop q axes abrupt => Sys2Proof.Machine.execAxisStop q axes abrupt s
  | .axisQuery q => Sys2Proof.Machine.execAxisQuery q s
  | .axisEnable q axes enable => Sys2Proof.Machine.execAxisEnable q axes enable s
  | .timeQuery q => Sys2Proof.Machine.execTimeQuery q s
  | .timeSet q time => Sys2Proof.Machine.execTimeSet q time s
  | .timeAdjust q step incr applyStep applyIncr => Sys2Proof.Machine.execTimeAdjust q step incr applyStep applyIncr s
  | .netQuery q => Sys2Proof.Machine.execNetQuery q s
  | .peek q addr count => Sys2Proof.Machine.execPeek q addr count s
  | .poke q addr words => Sys2Proof.Machine.execPoke q addr words s
  | .laneSet q cls lane pattern gen check loopback inject => Sys2Proof.Machine.execLaneSet q cls lane pattern gen check loopback inject s
  | .laneQuery q cls lane received => Sys2Proof.Machine.execLaneQuery q cls lane s received
  | .bistRun q full => Sys2Proof.Machine.execBistRun q full s
  | .bistDone failures durationUs => Sys2Proof.Machine.execBistDone failures durationUs s
  | .bistResult q => Sys2Proof.Machine.execBistResult q s
  | .fwQuery q => Sys2Proof.Machine.execFwQuery q s
  | .fwWrite q src offset len first last => Sys2Proof.Machine.execFwWrite q src offset len first last s
  | .fwWriteDone => Sys2Proof.Machine.execFwWriteDone s
  | .fwActivate q slot reset => Sys2Proof.Machine.execFwActivate q slot reset s
  | .keyLoad q slot key => Sys2Proof.Machine.execKeyLoad q slot key s
  | .lcQuery q => Sys2Proof.Machine.execLcQuery q s
  | .lcAdvance q target confirm => Sys2Proof.Machine.execLcAdvance q target confirm s
  | .evtQuery q => Sys2Proof.Machine.execEvtQuery q s
  | .evtClear q => Sys2Proof.Machine.execEvtClear q s
  | .evtInject q channel tag => Sys2Proof.Machine.execEvtInject q channel tag s
  | .evtGroup q enable disable => Sys2Proof.Machine.execEvtGroup q enable disable s
  | .memQuery q => Sys2Proof.Machine.execMemQuery q s
  | .memAlloc q len => Sys2Proof.Machine.execMemAlloc q len s
  | .memFree q handle => Sys2Proof.Machine.execMemFree q handle s
  | .memCopy q src dst len => Sys2Proof.Machine.execMemCopy q src dst len s
  | .memCrc q addr len => Sys2Proof.Machine.execMemCrc q addr len s
  | .firmwareDmaDone => Sys2Proof.Machine.execFirmwareDmaDone s
  | .mailboxGo n value => Sys2Proof.Machine.execMailboxGo n value s
  | .keeperTakeRequest n bufferError => Sys2Proof.Machine.execKeeperTakeRequest n s bufferError
  | .mailboxResponse n => Sys2Proof.Machine.execMailboxResponse n s
  | .mailboxAck n value => Sys2Proof.Machine.execMailboxAck n value s
  | .udpRequest srcAddr srcPort data firstFragment lastFragment => Sys2Proof.Machine.execUdpRequest srcAddr srcPort data firstFragment lastFragment s
  | .fragmentTimeout => Sys2Proof.Machine.execFragmentTimeout s
  | .hifReset value => Sys2Proof.Machine.execHifReset value s
  | .irqStatusClear value same => Sys2Proof.Machine.execIrqStatusClear value s same
  | .irqForce value => Sys2Proof.Machine.execIrqForce value s
  | .msixUnmask vector => Sys2Proof.Machine.execMsixUnmask vector s
  | .winBaseLoWrite value => Sys2Proof.Machine.execWinBaseLoWrite value s
  | .winBaseHiWrite value => Sys2Proof.Machine.execWinBaseHiWrite value s
  | .hostVersionWrite value => Sys2Proof.Machine.execHostVersionWrite value s
  | .ringConfigWrite ring offset value => Sys2Proof.Machine.execRingConfigWrite ring offset value s
  | .registerWrite offset value => Sys2Proof.Machine.execRegisterWrite offset value s
  | .bar2Access write offset len data parity => Sys2Proof.Machine.execBar2Access write offset len data s parity
  | .ringEntryReturn ring index => Sys2Proof.Machine.execRingEntryReturn ring index s
  | .spillDrain ring => Sys2Proof.Machine.execSpillDrain ring s
  | .recordWrite ring => Sys2Proof.Machine.execRecordWrite ring s
  | .ringTimerExpiry ring => Sys2Proof.Machine.execRingTimerExpiry ring s
  | .dmaStart ch => Sys2Proof.Machine.execDmaStart ch s
  | .dmaPause ch on => Sys2Proof.Machine.execDmaPause ch on s
  | .dmaAbort ch => Sys2Proof.Machine.execDmaAbort ch s
  | .dmaConfigWrite ch offset value => Sys2Proof.Machine.execDmaConfigWrite ch offset value s
  | .dmaDescriptorDone ch eccAt corrected => Sys2Proof.Machine.execDmaDescriptorDone ch eccAt s corrected
  | .dmaDrainDone ch done => Sys2Proof.Machine.execDmaDrainDone ch done s
  | .itemEntryHandover lead index => Sys2Proof.Machine.execItemEntryHandover lead index s
  | .pcieFlr => Sys2Proof.Machine.execPcieFlr s
  | .perstAssert => Sys2Proof.Machine.execPerstAssert s
  | .pcieLinkLoss => Sys2Proof.Machine.execPcieLinkLoss s
  | .encoderEdge k a b t overflow => Sys2Proof.Machine.execEncoderEdge k a b t s overflow
  | .encoderZEdge k t => Sys2Proof.Machine.execEncoderZEdge k t s
  | .stallTimeout t => Sys2Proof.Machine.execStallTimeout t s
  | .toothEdge k t overflow => Sys2Proof.Machine.execToothEdge k t s overflow
  | .serialPoll k t => Sys2Proof.Machine.execSerialPoll k t s
  | .serialWord k w t => Sys2Proof.Machine.execSerialWord k w t s
  | .serialTimeout k t => Sys2Proof.Machine.execSerialTimeout k t s
  | .lineTrigger t => Sys2Proof.Machine.execLineTrigger t s
  | .freeRunLine t => Sys2Proof.Machine.execFreeRunLine t s
  | .calTimedTrigger t => Sys2Proof.Machine.execCalTimedTrigger t s
  | .sensorTransferDone r => Sys2Proof.Machine.execSensorTransferDone r s
  | .sensorIbi camera => Sys2Proof.Machine.execSensorIbi camera s
  | .csiFrameStart port p => Sys2Proof.Machine.execCsiFrameStart port p s
  | .csiFrameEnd port p => Sys2Proof.Machine.execCsiFrameEnd port p s
  | .csiLineStart port p => Sys2Proof.Machine.execCsiLineStart port p s
  | .csiLongPacket port p => Sys2Proof.Machine.execCsiLongPacket port p s
  | .csiOtherPacket port p => Sys2Proof.Machine.execCsiOtherPacket port p s
  | .csiSyncError port => Sys2Proof.Machine.execCsiSyncError port s
  | .exitDeadline => Sys2Proof.Machine.execExitDeadline s
  | .stripBreak => Sys2Proof.Machine.execStripBreak s
  | .geometryLine hits => Sys2Proof.Machine.execGeometryLine s hits
  | .spanEmitLine bufferError => Sys2Proof.Machine.execSpanEmitLine bufferError s
  | .compareLine bufferError gapStateError hits corrected => Sys2Proof.Machine.execCompareLine bufferError gapStateError s hits corrected
  | .bandDecode error codecUnit => Sys2Proof.Machine.execBandDecode error s codecUnit
  | .segmentLine labelError corrected queueError => Sys2Proof.Machine.execSegmentLine labelError s corrected queueError
  | .qswarmEnqueue => Sys2Proof.Machine.execQswarmEnqueue s
  | .statsLine => Sys2Proof.Machine.execStatsLine s
  | .loopResultReady => Sys2Proof.Machine.execLoopResultReady s
  | .codecGroupClose overview error corrected => Sys2Proof.Machine.execCodecGroupClose overview s error corrected
  | .codecFlushTimeout overview error corrected => Sys2Proof.Machine.execCodecFlushTimeout overview s error corrected
  | .ringWriteTimeout overview => Sys2Proof.Machine.execRingWriteTimeout overview s
  | .descriptorAccept => Sys2Proof.Machine.execDescriptorAccept s
  | .fieldTaskReady => Sys2Proof.Machine.execFieldTaskReady s
  | .repeatTaskReady stage => Sys2Proof.Machine.execRepeatTaskReady stage s
  | .itemTaskReady => Sys2Proof.Machine.execItemTaskReady s
  | .windowTaskReady stage head => Sys2Proof.Machine.execWindowTaskReady stage head s
  | .eventTask stage => Sys2Proof.Machine.execEventTask stage s
  | .taskDispatch => Sys2Proof.Machine.execTaskDispatch s
  | .taskComplete cell bad => Sys2Proof.Machine.execTaskComplete cell s bad
  | .taskWatchdog cell => Sys2Proof.Machine.execTaskWatchdog cell s
  | .cellFault cell code frameStore param corrected => Sys2Proof.Machine.execCellFault cell code frameStore s param corrected
  | .shedEvaluation busyPercent ages => Sys2Proof.Machine.execShedEvaluation busyPercent ages s
  | .frameClockChange frame mhz => Sys2Proof.Machine.execFrameClockChange frame mhz s
  | .markerActivate m => Sys2Proof.Machine.execMarkerActivate m s
  | .markerDeactivate m => Sys2Proof.Machine.execMarkerDeactivate m s
  | .headLineTrigger h t bufferError => Sys2Proof.Machine.execHeadLineTrigger h t s bufferError
  | .headLineStart h t entryError => Sys2Proof.Machine.execHeadLineStart h t s entryError
  | .headLineReprepare h t => Sys2Proof.Machine.execHeadLineReprepare h t s
  | .bitmapBurstDone lead itemId row ok => Sys2Proof.Machine.execBitmapBurstDone lead itemId row ok s
  | .headGateAssert inp => Sys2Proof.Machine.execHeadGateAssert inp s
  | .headGateClear inp => Sys2Proof.Machine.execHeadGateClear inp s
  | .gateRearmExpiry h => Sys2Proof.Machine.execGateRearmExpiry h s
  | .hsenSettleExpiry h => Sys2Proof.Machine.execHsenSettleExpiry h s
  | .speedEvaluation => Sys2Proof.Machine.execSpeedEvaluation s
  | .spdHoldExpiry => Sys2Proof.Machine.execSpdHoldExpiry s
  | .authResponse h r => Sys2Proof.Machine.execAuthResponse h r s
  | .authRetryTimeout h => Sys2Proof.Machine.execAuthRetryTimeout h s
  | .usageWriteDone h r => Sys2Proof.Machine.execUsageWriteDone h r s
  | .monitorOutput ch code eccError => Sys2Proof.Machine.execMonitorOutput ch code eccError s
  | .pinInputEdge pin level => Sys2Proof.Machine.execPinInputEdge pin level s
  | .eventDelivery parity => Sys2Proof.Machine.execEventDelivery parity s
  | .relayFire r => Sys2Proof.Machine.execRelayFire r s
  | .pinOutPulseEnd n => Sys2Proof.Machine.execPinOutPulseEnd n s
  | .ethFrameRx port f => Sys2Proof.Machine.execEthFrameRx port f s
  | .macAgeing mac eccError => Sys2Proof.Machine.execMacAgeing mac s eccError
  | .ptpSync port masterNs fromMaster udp => Sys2Proof.Machine.execPtpSync port masterNs fromMaster s udp
  | .ptpAnnounceTimeout arrival => Sys2Proof.Machine.execPtpAnnounceTimeout s arrival
  | .hello srcAddr pmajor pminor len hifVersion reply => Sys2Proof.Machine.execHello srcAddr pmajor pminor len hifVersion reply s
  | .helloTimer => Sys2Proof.Machine.execHelloTimer s
  | .bulk srcAddr srcPort handle kind offset data pmajor short => Sys2Proof.Machine.execBulk srcAddr srcPort handle kind offset data s pmajor short
  | .spdRefreshTimer => Sys2Proof.Machine.execSpdRefreshTimer s
  | .linkTrainRetry => Sys2Proof.Machine.execLinkTrainRetry s
  | .train version role goodMask chipId ownGoodMask rttNs stamp => Sys2Proof.Machine.execTrain version role goodMask chipId ownGoodMask rttNs stamp s
  | .linkDown => Sys2Proof.Machine.execLinkDown s
  | .pairinfo epoch width pitch posPitch => Sys2Proof.Machine.execPairinfo epoch width pitch s posPitch
  | .viaductMbx response words => Sys2Proof.Machine.execViaductMbx response words s
  | .lanes mask firstSeq => Sys2Proof.Machine.execLanes mask firstSeq s
  | .posSendTimer => Sys2Proof.Machine.execPosSendTimer s
  | .pos h reverse overspeed freerun => Sys2Proof.Machine.execPos h reverse overspeed freerun s
  | .line wln wpos epoch time ridx roff notrig => Sys2Proof.Machine.execLine wln wpos epoch time ridx roff notrig s
  | .seam wln epoch state label merge => Sys2Proof.Machine.execSeam wln epoch state label s merge
  | .part d label => Sys2Proof.Machine.execPart d label s
  | .cut label wln => Sys2Proof.Machine.execCut label wln s
  | .seamTimeout wln => Sys2Proof.Machine.execSeamTimeout wln s
  | .replayRequest lane code first peer => Sys2Proof.Machine.execReplayRequest lane code s first peer
  | .dramRefreshDue rank wait12 wait3 ahead => Sys2Proof.Machine.execDramRefreshDue rank s wait12 wait3 ahead
  | .mr4Read codes => Sys2Proof.Machine.execMr4Read codes s
  | .dqsTracking => Sys2Proof.Machine.execDqsTracking s
  | .eccScrub corrected uncorrectable => Sys2Proof.Machine.execEccScrub corrected uncorrectable s
  | .setPointChange sp => Sys2Proof.Machine.execSetPointChange sp s
  | .standbySelfRefresh => Sys2Proof.Machine.execStandbySelfRefresh s
  | .axisVelocityUpdate a => Sys2Proof.Machine.execAxisVelocityUpdate a s
  | .axisStep a => Sys2Proof.Machine.execAxisStep a s
  | .homeInputChange a level => Sys2Proof.Machine.execHomeInputChange a level s
  | .vinUvloRising => Sys2Proof.Machine.execVinUvloRising s
  | .vinUvloFalling => Sys2Proof.Machine.execVinUvloFalling s
  | .brownout lowestMv => Sys2Proof.Machine.execBrownout lowestMv s
  | .brownoutRelease => Sys2Proof.Machine.execBrownoutRelease s
  | .porstN => Sys2Proof.Machine.execPorstN s
  | .resetRelease vdRole bistFull => Sys2Proof.Machine.execResetRelease vdRole bistFull s
  | .bootLoadDone records images profile => Sys2Proof.Machine.execBootLoadDone records images profile s
  | .bootDone failures dramTrained fittedGib fittedType unequal => Sys2Proof.Machine.execBootDone failures dramTrained fittedGib fittedType s unequal
  | .tempEvaluation sensors => Sys2Proof.Machine.execTempEvaluation sensors s
  | .thermal => Sys2Proof.Machine.execThermal s
  | .keeperWatchdogExpiry => Sys2Proof.Machine.execKeeperWatchdogExpiry s
  | .pllLossOfLock islands => Sys2Proof.Machine.execPllLossOfLock islands s
  | .heartbeat => Sys2Proof.Machine.execHeartbeat s
  | .perstRelease => Sys2Proof.Machine.execPerstRelease s
  | .pcieLinkUp => Sys2Proof.Machine.execPcieLinkUp s
  | .ethLinkChange port up => Sys2Proof.Machine.execEthLinkChange port up s
  | .calTableReadDone => Sys2Proof.Machine.execCalTableReadDone s
  | .stationSwitch m => Sys2Proof.Machine.execStationSwitch m s
  | .testInstruction isProtected => Sys2Proof.Machine.execTestInstruction isProtected s
  | .ptpSyncSend => Sys2Proof.Machine.execPtpSyncSend s
  | .ptpDelayReqSend => Sys2Proof.Machine.execPtpDelayReqSend s

end Sys2Proof.Machine
end

