-- ==== Sys2Proof/Machine/Bar0.lean ====
section
/-! DEFINITION. What a read of BAR0 returns (R16, R379, R381, R384, R385, R389, R477). The table of commands has no row for a BAR0 read: this is the
value that the host finds in the present state, and the one effect that a read has. -/

namespace Sys2Proof.Machine

/-- A ring register (R385); reserved words read 0. -/
def Ring.reg (r : Ring) (offset : Nat) : Nat :=
  match offset with
  | 0x00 => r.baseLo
  | 0x04 => r.baseHi
  | 0x08 => r.sizeLog2
  | 0x0C => r.prod
  | 0x10 => r.timerUs * 2 ^ 16 + r.count
  | 0x14 => r.lost
  | 0x18 => r.spill.length
  | 0x1C => b2n r.cfgErr
  | 0x20 => r.seq % 2 ^ 32
  | 0x24 => r.seqHi
  | _ => 0

/-- A register of a host channel (R477). -/
def DmaChan.reg (k : DmaChan) (offset : Nat) : Nat :=
  match offset with
  | 0x00 => k.baseLo
  | 0x04 => k.sizeLog2 * 2 ^ 16 + k.baseHi
  | 0x08 => b2n k.abort * 4 + b2n k.pause * 2 + b2n k.start
  | 0x0C => b2n k.err * 8 + b2n k.cfgErr * 4 + k.run.code
  | 0x10 => k.head
  | 0x14 => k.done
  | 0x18 => k.part
  | 0x1C => k.completed
  | _ => 0

/-- A control register of a mailbox (R389): GO and ACK are write-only and read 0. -/
def Mailbox.reg (m : Mailbox) (offset : Nat) : Nat :=
  match offset with
  | 0x04 => b2n m.dberr * 4 + b2n m.rspValid * 2 + b2n m.reqBusy
  | 0x0C => m.done
  | _ => 0

/-- The word that a read of a BAR0 offset returns (R16): RO, RW, W1C and W1S fields give their current value, write-only and reserved fields 0. -/
def State.bar0Word (s : State) (o : Nat) : Nat :=
  if o % 4 ≠ 0 then 0
  else if o = 0x0000 then s.hifId
  else if o = 0x0004 then 0x01000100
  else if o = 0x0008 then s.sys.fwVersion
  else if o = 0x000C then s.sys.fwSlot + 2 * b2n s.sys.patched
  else if o = 0x0010 then s.hif.hostVersion
  else if o = 0x0020 then s.hifMode
  else if o = 0x0024 then s.deck.epoch
  else if o = 0x0028 then s.hif.heartbeat
  else if o = 0x0040 ∨ o = 0x0048 then s.hif.irqStatus
  else if o = 0x0044 then s.hif.irqMask
  else if o = 0x0100 then s.hif.winLo * 2 ^ 20
  else if o = 0x0104 then s.hif.winHi
  else if 0x0200 ≤ o ∧ o < 0x0400 then (s.ring ((o - 0x200) / 0x40)).reg ((o - 0x200) % 0x40)
  else if 0x0400 ≤ o ∧ o < 0x0500 then (s.dmaChan (8 + (o - 0x400) / 0x20)).reg ((o - 0x400) % 0x20)
  else if 0x0800 ≤ o ∧ o < 0x0880 then (s.mailbox ((o - 0x800) / 0x20)).reg ((o - 0x800) % 0x20)
  else if 0x0C00 ≤ o ∧ o < 0x0E00 then getN s.hif.msixTable ((o - 0xC00) / 4) 0
  else if o = 0x0E00 then s.hif.pba % 2 ^ 32
  else if o = 0x0E04 then s.hif.pba / 2 ^ 32
  else if 0x1000 ≤ o ∧ o < 0x9000 then ofLe (memRead s.hif.buf o 4)
  else 0

/-- The state after a read of BAR0: a read of a ring's SEQ_LO latches its SEQ_HI (R385), and no other read changes anything. -/
def State.bar0Read (s : State) (o : Nat) : State :=
  if 0x0200 ≤ o ∧ o < 0x0400 ∧ (o - 0x200) % 0x40 = 0x20 then
    s.updRing ((o - 0x200) / 0x40) (fun r => { r with seqHi := r.seq / 2 ^ 32 })
  else s

end Sys2Proof.Machine
end

