-- ==== Sys2Proof/WellFormed.lean ====
section
/-! DEFINITION. Well-formed commands: each operand within the width that its row gives it, each index within the number of units there are. -/

namespace Sys2Proof

/-- Does a number fit n bits? -/
def fits (n x : Nat) : Bool := decide (x < 2 ^ n)

/-- Does a signed number fit n bits? -/
def fitsS (n : Nat) (x : Int) : Bool := decide (-(2 ^ (n - 1) : Int) ≤ x) && decide (x < (2 ^ (n - 1) : Int))

/-- Is an index below a number of units? -/
def below (n x : Nat) : Bool := decide (x < n)

/-- Does an optional number fit n bits? -/
def optFits (n : Nat) (x : Option Nat) : Bool := x.all (fits n)

/-- A request: mailbox 0-3 and a 32-bit SEQ (R389), an IPv4 address and a port (R393). -/
def reqWf (q : Req) : Bool := below 4 q.mbx && fits 32 q.seq && fits 32 q.srcAddr && fits 16 q.srcPort

/-- EXPOSURE_SET (R414): four values of each list, up to eight register writes. -/
def exposureWf (e : ExposureReq) : Bool :=
  fits 5 e.camera && fits 4 e.mask && fits 32 e.exposureNs && decide (e.k.length = 4) && e.k.all (fits 16) &&
  decide (e.boff.length = 4) && e.boff.all (fitsS 16) && decide (e.regs.length ≤ 8) && e.regs.all (fun r => fits 16 r.1 && fits 32 r.2)

/-- A CSI-2 packet (R103): VC, DT, ECC result, word count and number. -/
def packetWf (p : CsiPacket) : Bool := fits 4 p.vc && fits 6 p.dt && below 3 p.ecc && fits 16 p.wc && fits 16 p.number

/-- A serial word (R79, R80): at most 40 position bits and 6 CRC bits. -/
def wordWf (w : SerialWordIn) : Bool := fits 40 w.pos && fits 6 w.crc

/-- A gate input (R336): HOPEN of head 0-7, or a device-wide one. -/
def gateWf : GateInput → Bool
  | .hopen h => below 8 h
  | .webAbsent | .jam | .estop => true

/-- An Ethernet frame (R428): 48-bit addresses and the fields of its headers. -/
def frameWf (f : EthFrame) : Bool :=
  fits 48 f.dst && fits 48 f.src && fits 16 f.len && below 4 f.ptpEvent && fits 8 f.domain && fits 64 f.correction && fits 16 f.udpPort &&
  fits 32 f.srcIp && fits 16 f.srcPort

/-- A descriptor (R218). -/
def descWf (d : Descriptor) : Bool := fits 32 d.epoch && fits 48 d.y0 && fits 48 d.y1 && fits 17 d.x0 && fits 17 d.x1 && decide (d.y0 ≤ d.y1)

/-- A command is well-formed. -/
def Instr.wf : Instr → Bool
  | .sysNop q => reqWf q
  | .sysIdent q => reqWf q
  | .sysStatus q => reqWf q
  | .sysSnapshot q dest destLen parts timeoutMs => reqWf q && fits 64 dest && fits 32 destLen && fits 32 parts && fits 16 timeoutMs
  | .snapshotTimeout => true
  | .modeSet q target => reqWf q && fits 4 target
  | .modeTransitDone => true
  | .sysStop q => reqWf q
  | .sysAbort q mbx => reqWf q && below 4 mbx
  | .sysReset q key => reqWf q && fits 32 key
  | .sysResetDelayExpiry => true
  | .counterClear q parts => reqWf q && fits 32 parts
  | .reinstate q block inst => reqWf q && fits 8 block && fits 16 inst
  | .deckLoad q addr len slot => reqWf q && fits 64 addr && fits 32 len && fits 8 slot
  | .deckStage q handle copies => reqWf q && fits 32 handle && copies.all (fun x => below 16 x.1)
  | .deckUnstage q => reqWf q
  | .deckArmSwap q ws => reqWf q && fitsS 64 ws
  | .deckCancelSwap q => reqWf q
  | .deckActivate q => reqWf q
  | .deckQuery q => reqWf q
  | .deckDelete q handle => reqWf q && fits 32 handle
  | .profileLoad q addr len => reqWf q && fits 64 addr && fits 32 len
  | .refAlloc q len => reqWf q && fits 64 len
  | .refCommit q handle => reqWf q && fits 32 handle
  | .refCommitDone => true
  | .refDelete q handle => reqWf q && fits 32 handle
  | .refQuery q => reqWf q
  | .refLearn q refId refRev lines => reqWf q && fits 32 refId && fits 32 refRev && fits 21 lines
  | .refLearnAbort q => reqWf q
  | .refLearnDone => true
  | .exposureSet q e => reqWf q && exposureWf e
  | .tdacSet q tdac code => reqWf q && fits 6 tdac && fits 12 code
  | .calFlat q _ ports => reqWf q && fits 24 ports
  | .calPhaseDone => true
  | .calQuery q => reqWf q
  | .calTableRead q dest port => reqWf q && fits 64 dest && fits 5 port
  | .sensorXfer q camera _ aw dw addr value reply => reqWf q && fits 5 camera && fits 1 aw && fits 2 dw && fits 16 addr && fits 32 value && optFits 32 reply
  | .printQueueSet q lead sizeLog2 base => reqWf q && below 8 lead && fits 5 sizeLog2 && fits 64 base
  | .printWithdraw q lead index => reqWf q && below 8 lead && fits 32 index
  | .printRearm q => reqWf q
  | .printShift q lead shift => reqWf q && below 8 lead && fitsS 16 shift
  | .printElemQuery q head => reqWf q && below 8 head
  | .printSubConfirm q head _ element => reqWf q && below 8 head && fits 12 element
  | .printElemClear q head element => reqWf q && below 8 head && fits 16 element
  | .printAuth q head => reqWf q && below 8 head
  | .printUsageQuery q => reqWf q
  | .printUsageWrite q head => reqWf q && below 8 head
  | .ringQuery q => reqWf q
  | .cropRelease q handle => reqWf q && fits 32 handle
  | .lookbackQuery q => reqWf q
  | .lookbackFetch q _ epoch first lines xpos pixels dest => reqWf q && fits 32 epoch && fits 64 first && fits 32 lines && fits 32 xpos && fits 32 pixels && fits 64 dest
  | .lookbackFetchDone bad => bad.all (fun b => below 24 b.1)
  | .lookbackAbort q => reqWf q
  | .axisMove q axes _ _ profile targets => reqWf q && fits 6 axes && fits 4 profile && decide (targets.length = 6) && targets.all (fitsS 32)
  | .axisHome q axes => reqWf q && fits 6 axes
  | .axisStop q axes _ => reqWf q && fits 6 axes
  | .axisQuery q => reqWf q
  | .axisEnable q axes enable => reqWf q && fits 6 axes && fits 6 enable
  | .timeQuery q => reqWf q
  | .timeSet q time => reqWf q && fits 64 time
  | .timeAdjust q step incr _ _ => reqWf q && fitsS 64 step && fits 64 incr
  | .netQuery q => reqWf q
  | .peek q addr count => reqWf q && fits 64 addr && decide (1 ≤ count) && decide (count ≤ 1016)
  | .poke q addr words => reqWf q && fits 64 addr && decide (1 ≤ words.length) && decide (words.length ≤ 1016) && words.all (fits 32)
  | .laneSet q cls lane pattern _ _ _ inject => reqWf q && fits 2 cls && fits 8 lane && fits 2 pattern && fits 32 inject
  | .laneQuery q cls lane _ => reqWf q && fits 2 cls && fits 8 lane
  | .bistRun q _ => reqWf q
  | .bistDone _ durationUs => fits 32 durationUs
  | .bistResult q => reqWf q
  | .fwQuery q => reqWf q
  | .fwWrite q src offset len _ _ => reqWf q && fits 64 src && fits 32 offset && fits 24 len
  | .fwWriteDone => true
  | .fwActivate q slot _ => reqWf q && below 2 slot
  | .keyLoad q slot key => reqWf q && below 8 slot && decide (key.length = 32)
  | .lcQuery q => reqWf q
  | .lcAdvance q target confirm => reqWf q && fits 3 target && fits 32 confirm
  | .evtQuery q => reqWf q
  | .evtClear q => reqWf q
  | .evtInject q channel tag => reqWf q && fits 6 channel && fitsS 64 tag
  | .evtGroup q enable disable => reqWf q && fits 8 enable && fits 8 disable
  | .memQuery q => reqWf q
  | .memAlloc q len => reqWf q && fits 32 len
  | .memFree q handle => reqWf q && fits 32 handle
  | .memCopy q src dst len => reqWf q && fits 64 src && fits 64 dst && fits 32 len
  | .memCrc q addr len => reqWf q && fits 64 addr && fits 32 len
  | .firmwareDmaDone => true
  | .mailboxGo n value => below 4 n && fits 32 value
  | .keeperTakeRequest n _ => below 4 n
  | .mailboxResponse n => below 4 n
  | .mailboxAck n value => below 4 n && fits 32 value
  | .udpRequest srcAddr srcPort _ _ _ => fits 32 srcAddr && fits 16 srcPort
  | .fragmentTimeout => true
  | .hifReset _ => true
  | .irqStatusClear _ _ => true
  | .irqForce _ => true
  | .msixUnmask vector => below 32 vector
  | .winBaseLoWrite _ => true
  | .winBaseHiWrite _ => true
  | .hostVersionWrite _ => true
  | .ringConfigWrite ring offset _ => below 8 ring && fits 8 offset
  | .registerWrite offset _ => fits 20 offset
  | .bar2Access _ offset len _ _ => fits 32 offset && fits 32 len
  | .ringEntryReturn ring index => below 8 ring && fits 32 index
  | .spillDrain ring => below 8 ring
  | .recordWrite ring => below 8 ring
  | .ringTimerExpiry ring => below 8 ring
  | .dmaStart ch => decide (8 ≤ ch) && below 16 ch
  | .dmaPause ch _ => decide (8 ≤ ch) && below 16 ch
  | .dmaAbort ch => decide (8 ≤ ch) && below 16 ch
  | .dmaConfigWrite ch offset _ => decide (8 ≤ ch) && below 16 ch && fits 8 offset
  | .dmaDescriptorDone ch eccAt corrected => decide (8 ≤ ch) && below 16 ch && optFits 24 eccAt && corrected.all (fits 40)
  | .dmaDrainDone ch done => decide (8 ≤ ch) && below 16 ch && fits 32 done
  | .itemEntryHandover lead index => below 8 lead && fits 32 index
  | .pcieFlr => true
  | .perstAssert => true
  | .pcieLinkLoss => true
  | .encoderEdge k _ _ _ _ => below 2 k
  | .encoderZEdge k _ => below 2 k
  | .stallTimeout _ => true
  | .toothEdge k _ _ => below 2 k
  | .serialPoll k _ => below 2 k
  | .serialWord k w _ => below 2 k && wordWf w
  | .serialTimeout k _ => below 2 k
  | .lineTrigger _ => true
  | .freeRunLine _ => true
  | .calTimedTrigger _ => true
  | .sensorTransferDone r => below 24 r.camera
  | .sensorIbi camera => below 24 camera
  | .csiFrameStart port p => below 24 port && packetWf p
  | .csiFrameEnd port p => below 24 port && packetWf p
  | .csiLineStart port p => below 24 port && packetWf p
  | .csiLongPacket port p => below 24 port && packetWf p
  | .csiOtherPacket port p => below 24 port && packetWf p
  | .csiSyncError port => below 24 port
  | .exitDeadline => true
  | .stripBreak => true
  | .geometryLine hits => hits.all (fun h => below 24 h.1)
  | .spanEmitLine bufferError => optFits 5 bufferError
  | .compareLine _ _ hits _ => hits.all (fun h => fits 17 h.x0 && fits 17 h.x1 && fits 20 h.y && decide (h.codecUnit < 24))
  | .bandDecode _ codecUnit => decide (codecUnit < 24)
  | .segmentLine _ _ queueError => queueError.all (fun e => decide (e.1 < 4096) && decide (e.2 < 16))
  | .qswarmEnqueue => true
  | .statsLine => true
  | .loopResultReady => true
  | .codecGroupClose _ error corrected => error.all (below 24) && corrected.all (below 24)
  | .codecFlushTimeout _ error corrected => error.all (below 24) && corrected.all (below 24)
  | .ringWriteTimeout _ => true
  | .descriptorAccept => true
  | .fieldTaskReady => true
  | .repeatTaskReady stage => below 16 stage
  | .itemTaskReady => true
  | .windowTaskReady stage head => below 16 stage && below 8 head
  | .eventTask stage => below 16 stage
  | .taskDispatch => true
  | .taskComplete cell bad => below 256 cell && bad.all (fun b => below 24 b.1)
  | .taskWatchdog cell => below 256 cell
  | .cellFault cell code _ _ _ => below 256 cell && fits 32 code
  | .shedEvaluation busyPercent _ => below 101 busyPercent
  | .frameClockChange frame mhz => below 16 frame && fits 16 mhz
  | .markerActivate m => below 8 m
  | .markerDeactivate m => below 8 m
  | .headLineTrigger h _ _ => below 8 h
  | .headLineStart h _ _ => below 8 h
  | .headLineReprepare h _ => below 8 h
  | .bitmapBurstDone lead itemId row _ => below 8 lead && fits 32 itemId && fits 32 row
  | .headGateAssert inp => gateWf inp
  | .headGateClear inp => gateWf inp
  | .gateRearmExpiry h => below 8 h
  | .hsenSettleExpiry h => below 8 h
  | .speedEvaluation => true
  | .spdHoldExpiry => true
  | .authResponse h _ => below 8 h
  | .authRetryTimeout h => below 8 h
  | .usageWriteDone h _ => below 8 h
  | .monitorOutput ch code _ => below 32 ch && fits 12 code
  | .pinInputEdge pin _ => below 32 pin
  | .eventDelivery parity => parity.all (below 64)
  | .relayFire r => below 16 r
  | .pinOutPulseEnd n => below 32 n
  | .ethFrameRx port f => below 2 port && frameWf f
  | .macAgeing mac _ => fits 48 mac
  | .ptpSync port _ fromMaster _ => below 2 port && fits 64 fromMaster
  | .ptpAnnounceTimeout _ => true
  | .hello srcAddr pmajor pminor len hifVersion _ => fits 32 srcAddr && fits 8 pmajor && fits 8 pminor && fits 16 len && fits 32 hifVersion
  | .helloTimer => true
  | .bulk srcAddr srcPort handle kind offset _ pmajor _ => fits 8 pmajor && fits 32 srcAddr && fits 16 srcPort && fits 32 handle && fits 32 kind && fits 32 offset
  | .spdRefreshTimer => true
  | .linkTrainRetry => true
  | .train version role goodMask chipId ownGoodMask rttNs stamp => fits 16 version && fits 8 role && fits 9 goodMask && fits 64 chipId && fits 9 ownGoodMask && fits 32 rttNs && fits 32 stamp
  | .linkDown => true
  | .pairinfo epoch width pitch posPitch => fits 32 epoch && fits 17 width && fits 40 pitch && fits 40 posPitch
  | .viaductMbx _ words => words.all (fits 32)
  | .lanes mask firstSeq => fits 8 mask && fits 16 firstSeq
  | .posSendTimer => true
  | .pos h _ _ _ => fitsS 64 h
  | .line wln wpos epoch time ridx roff _ => fits 48 wln && fitsS 48 wpos && fits 32 epoch && fits 64 time && fits 32 ridx && fits 32 roff
  | .seam wln epoch state label _ => fits 48 wln && fits 32 epoch && fits 2 state && fits 16 label
  | .part d label => descWf d && fits 16 label
  | .cut label wln => fits 16 label && fits 48 wln
  | .seamTimeout wln => fits 48 wln
  | .replayRequest lane code first _ => optFits 8 lane && fits 8 code && fits 16 first
  | .dramRefreshDue rank _ _ ahead => below 16 rank && below 9 ahead
  | .mr4Read codes => decide (codes.length = 8) && codes.all (fits 8)
  | .dqsTracking => true
  | .eccScrub corrected uncorrectable => corrected.all (below 8) && uncorrectable.all (below 8)
  | .setPointChange sp => fits 2 sp
  | .standbySelfRefresh => true
  | .axisVelocityUpdate a => below 6 a
  | .axisStep a => below 6 a
  | .homeInputChange a _ => below 6 a
  | .vinUvloRising => true
  | .vinUvloFalling => true
  | .brownout lowestMv => fits 16 lowestMv
  | .brownoutRelease => true
  | .porstN => true
  | .resetRelease vdRole _ => fits 2 vdRole
  | .bootLoadDone _ _ _ => true
  | .bootDone _ _ fittedGib fittedType _ => fits 16 fittedGib && fits 1 fittedType
  | .tempEvaluation sensors => decide (sensors.length = 8) && sensors.all (fitsS 16)
  | .thermal => true
  | .keeperWatchdogExpiry => true
  | .pllLossOfLock islands => islands.all (below 42)
  | .heartbeat => true
  | .perstRelease => true
  | .pcieLinkUp => true
  | .ethLinkChange port _ => below 2 port
  | .calTableReadDone => true
  | .stationSwitch m => below 8 m
  | .testInstruction _ => true
  | .ptpSyncSend => true
  | .ptpDelayReqSend => true

end Sys2Proof
end

