-- ==== Sys2Proof/Safety.lean ====
section
/-! DEFINITION. The terms in which the statements speak: the invariant of the block, which commands are Zaster commands and in which modes, and which
commands can stop. -/

namespace Sys2Proof.Machine

/-- What every state that the block can be in holds, and no step breaks: memory and the mailbox buffers are in canonical form, the life cycle is
one of the six states of R585, and the numbers of rings (R284), mailboxes (R389), library slots (R49), heads (R314), cameras (R98) and host channels
(R471) are the device's. -/
structure State.Inv (s : State) : Prop where
  mem : s.mem.wf = true
  buf : Memory.wf s.hif.buf = true
  life : s.fuse.lifeCycle ≤ 5
  rings : s.recs.rings.length = 8
  mbx : s.hif.mbx.length = 4
  slots : s.deck.slots.length = 16
  heads : s.print.head.length = 8
  cams : s.intake.cam.length = 24
  chans : s.dma.chan.length = 8

/-- The parts of the state, but for the queue of commands: the terms in which a frame says what a command may change. -/
inductive Part where
  /-- device memory (R30) -/
  | mem
  /-- mode, firmware identity and reset conditions -/
  | sys
  /-- the four mailboxes (R389) -/
  | mbx
  /-- the host interface but for the mailboxes (R381-R384) -/
  | hif
  /-- commands that run (R402) -/
  | keeper
  /-- library, roles, epochs and swap -/
  | deck
  /-- the device profile -/
  | profile
  /-- records, rings and crops -/
  | recs
  /-- markers -/
  | mark
  /-- the event fabric -/
  | trestle
  /-- press I/O -/
  | pio
  /-- web position -/
  | pos
  /-- camera ports and strips -/
  | intake
  /-- Span -/
  | span
  /-- statistics -/
  | stats
  /-- trim converters and calibration -/
  | cal
  /-- reference objects and registration -/
  | reg
  /-- the compare stage -/
  | cmp
  /-- the segmenter -/
  | seg
  /-- the codec -/
  | codec
  /-- the Comb -/
  | comb
  /-- the print block -/
  | print
  /-- the axes -/
  | motion
  /-- the monitor converter -/
  | mon
  /-- the Viaduct -/
  | vd
  /-- network and clock -/
  | net
  /-- the DRAM controller -/
  | dram
  /-- host DMA channels -/
  | dma
  /-- channels and self-test -/
  | fault
  /-- fuses -/
  | fuse
  /-- firmware slots and boot record -/
  | fw
  /-- power and temperature -/
  | power
  /-- the part number and the sampled straps -/
  | straps
  /-- the position tick -/
  | now
  /-- the count of free values drawn -/
  | free
  /-- what the device has put out -/
  | out
  deriving DecidableEq, Repr

/-- A part is the same in two states. -/
def samePart : Part → State → State → Prop
  | .mem, s, t => s.mem = t.mem
  | .sys, s, t => s.sys = t.sys
  | .mbx, s, t => s.hif.mbx = t.hif.mbx
  | .hif, s, t => { s.hif with mbx := [] } = { t.hif with mbx := [] }
  | .keeper, s, t => s.keeper = t.keeper
  | .deck, s, t => s.deck = t.deck
  | .profile, s, t => s.profile = t.profile
  | .recs, s, t => s.recs = t.recs
  | .mark, s, t => s.mark = t.mark
  | .trestle, s, t => s.trestle = t.trestle
  | .pio, s, t => s.pio = t.pio
  | .pos, s, t => s.pos = t.pos
  | .intake, s, t => s.intake = t.intake
  | .span, s, t => s.span = t.span
  | .stats, s, t => s.stats = t.stats
  | .cal, s, t => s.cal = t.cal
  | .reg, s, t => s.reg = t.reg
  | .cmp, s, t => s.cmp = t.cmp
  | .seg, s, t => s.seg = t.seg
  | .codec, s, t => s.codec = t.codec
  | .comb, s, t => s.comb = t.comb
  | .print, s, t => s.print = t.print
  | .motion, s, t => s.motion = t.motion
  | .mon, s, t => s.mon = t.mon
  | .vd, s, t => s.vd = t.vd
  | .net, s, t => s.net = t.net
  | .dram, s, t => s.dram = t.dram
  | .dma, s, t => s.dma = t.dma
  | .fault, s, t => s.fault = t.fault
  | .fuse, s, t => s.fuse = t.fuse
  | .fw, s, t => s.fw = t.fw
  | .power, s, t => s.power = t.power
  | .straps, s, t => s.part = t.part ∧ s.vdRole = t.vdRole ∧ s.bistFullStrap = t.bistFullStrap
  | .now, s, t => s.now = t.now
  | .free, s, t => s.free = t.free
  | .out, s, t => s.out = t.out

/-- A Zaster command as the tables of 16_command_reference.md list it: its code, the request it executes, its Modes column and its U mark; none for a
row that is an event. -/
def zaster : Instr → Option (Nat × Req × ModeSet × Bool)
  | .sysNop q => some (0x0000, q, .nb, true)
  | .sysIdent q => some (0x0001, q, .nb, true)
  | .sysStatus q => some (0x0002, q, .nb, true)
  | .sysSnapshot q _ _ _ _ => some (0x0003, q, .nb, false)
  | .modeSet q _ => some (0x0004, q, .nb, false)
  | .sysStop q => some (0x0005, q, .nb, true)
  | .sysAbort q _ => some (0x0006, q, .nb, true)
  | .sysReset q _ => some (0x0007, q, .nb, true)
  | .counterClear q _ => some (0x0008, q, .nb, false)
  | .reinstate q _ _ => some (0x0009, q, .op, false)
  | .deckLoad q _ _ _ => some (0x0100, q, .op, false)
  | .deckStage q _ _ => some (0x0101, q, .op, false)
  | .deckUnstage q => some (0x0102, q, .op, false)
  | .deckArmSwap q _ => some (0x0103, q, .web, false)
  | .deckCancelSwap q => some (0x0104, q, .web, false)
  | .deckActivate q => some (0x0105, q, .nw, false)
  | .deckQuery q => some (0x0106, q, .nb, false)
  | .deckDelete q _ => some (0x0107, q, .op, false)
  | .profileLoad q _ _ => some (0x0108, q, .cfg, false)
  | .refAlloc q _ => some (0x0200, q, .op, false)
  | .refCommit q _ => some (0x0201, q, .op, false)
  | .refDelete q _ => some (0x0202, q, .op, false)
  | .refQuery q => some (0x0203, q, .nb, false)
  | .refLearn q _ _ _ => some (0x0204, q, .lm, false)
  | .refLearnAbort q => some (0x0205, q, .lm, false)
  | .exposureSet q _ => some (0x0300, q, .webCal, false)
  | .tdacSet q _ _ => some (0x0301, q, .ops, false)
  | .calFlat q _ _ => some (0x0302, q, .cal, false)
  | .calQuery q => some (0x0303, q, .nb, false)
  | .calTableRead q _ _ => some (0x0304, q, .op, false)
  | .sensorXfer q _ _ _ _ _ _ _ => some (0x0305, q, .cfgDiag, false)
  | .printQueueSet q _ _ _ => some (0x0400, q, .op, false)
  | .printWithdraw q _ _ => some (0x0401, q, .prt, false)
  | .printRearm q => some (0x0402, q, .nb, false)
  | .printShift q _ _ => some (0x0403, q, .web, false)
  | .printElemQuery q _ => some (0x0410, q, .nb, false)
  | .printSubConfirm q _ _ _ => some (0x0411, q, .prt, false)
  | .printElemClear q _ _ => some (0x0412, q, .op, false)
  | .printAuth q _ => some (0x0413, q, .op, false)
  | .printUsageQuery q => some (0x0414, q, .nb, false)
  | .printUsageWrite q _ => some (0x0415, q, .op, false)
  | .ringQuery q => some (0x0500, q, .nb, false)
  | .cropRelease q _ => some (0x0520, q, .op, false)
  | .lookbackQuery q => some (0x0521, q, .nb, false)
  | .lookbackFetch q _ _ _ _ _ _ _ => some (0x0522, q, .op, false)
  | .lookbackAbort q => some (0x0523, q, .op, false)
  | .axisMove q _ _ _ _ _ => some (0x0600, q, .ops, false)
  | .axisHome q _ => some (0x0601, q, .ops, false)
  | .axisStop q _ _ => some (0x0602, q, .nb, true)
  | .axisQuery q => some (0x0603, q, .nb, false)
  | .axisEnable q _ _ => some (0x0604, q, .ops, false)
  | .timeQuery q => some (0x0700, q, .nb, false)
  | .timeSet q _ => some (0x0701, q, .ops, false)
  | .timeAdjust q _ _ _ _ => some (0x0702, q, .ops, false)
  | .netQuery q => some (0x0703, q, .nb, false)
  | .peek q _ _ => some (0x0800, q, .diag, false)
  | .poke q _ _ => some (0x0801, q, .diag, false)
  | .laneSet q _ _ _ _ _ _ _ => some (0x0802, q, .diag, false)
  | .laneQuery q _ _ _ => some (0x0803, q, .diag, false)
  | .bistRun q _ => some (0x0804, q, .diag, false)
  | .bistResult q => some (0x0805, q, .nb, false)
  | .fwQuery q => some (0x0900, q, .nb, false)
  | .fwWrite q _ _ _ _ _ => some (0x0901, q, .cfgWeb, false)
  | .fwActivate q _ _ => some (0x0902, q, .op, false)
  | .keyLoad q _ _ => some (0x0903, q, .cfg, false)
  | .lcQuery q => some (0x0904, q, .nb, false)
  | .lcAdvance q _ _ => some (0x0905, q, .cfg, false)
  | .evtQuery q => some (0x0A00, q, .nb, false)
  | .evtClear q => some (0x0A01, q, .nb, false)
  | .evtInject q _ _ => some (0x0A02, q, .ns, false)
  | .evtGroup q _ _ => some (0x0A03, q, .ns, false)
  | .memQuery q => some (0x0B00, q, .nb, false)
  | .memAlloc q _ => some (0x0B01, q, .op, false)
  | .memFree q _ => some (0x0B02, q, .op, false)
  | .memCopy q _ _ _ => some (0x0B03, q, .op, false)
  | .memCrc q _ _ => some (0x0B04, q, .op, false)
  | _ => none

/-- The commands that make a case of misuse (R20), or act where the manual describes nothing (R32, R589), for some operands and states; every other command
answers a next state always. -/
def mayStop : Instr → Bool
  | .sysSnapshot .. | .modeTransitDone | .counterClear .. | .deckLoad .. | .deckStage .. | .profileLoad .. | .refCommitDone .. | .refLearn .. |
  .calTableRead .. | .printQueueSet .. | .lookbackFetch .. | .axisMove .. | .axisHome .. | .timeAdjust .. | .peek .. | .poke .. | .laneSet .. |
  .fwWrite .. | .evtInject .. | .memCopy .. | .memCrc .. | .mailboxGo .. | .keeperTakeRequest .. | .mailboxAck .. | .winBaseLoWrite .. |
  .winBaseHiWrite .. | .hostVersionWrite .. | .ringConfigWrite .. | .registerWrite .. | .bar2Access .. | .dmaStart .. | .dmaPause .. |
  .dmaConfigWrite .. | .dmaDescriptorDone .. | .itemEntryHandover .. | .toothEdge .. | .bandDecode .. | .headLineStart .. | .resetRelease .. |
  .bootDone .. | .testInstruction .. => true
  | _ => false

/-- The parts that a reset of the device returns (R381, R557, R561): all but the model's own fields. -/
def resetParts : List Part :=
  [.mem, .sys, .mbx, .hif, .keeper, .deck, .profile, .recs, .mark, .trestle, .pio, .pos, .intake, .span, .stats, .cal, .reg, .cmp, .seg, .codec, .comb, .print, .motion, .mon, .vd, .net, .dram, .dma, .fault, .fuse, .fw, .power, .straps, .now]

/-- The parts that the entry into SAFE_HOLD reaches (R553), where an essential block fails in the command under way. -/
def holdParts : List Part :=
  [.mem, .sys, .mbx, .hif, .keeper, .deck, .recs, .mark, .trestle, .pio, .pos, .intake, .stats, .cal, .reg, .seg, .codec, .comb, .print, .motion, .mon, .vd, .net, .dram, .dma, .fault, .now, .free, .out]

/-- The parts that a command may change; all others are the same in the next state. -/
def mayChange : Instr → List Part
  | .sysNop .. => [.mbx]
  | .sysIdent .. => [.mbx]
  | .sysStatus .. => [.mbx]
  | .sysSnapshot .. => [.mem, .mbx, .keeper, .recs, .net, .dram, .free, .out]
  | .snapshotTimeout => [.mem, .keeper, .recs, .net, .free, .out]
  | .modeSet .. => [.mem, .sys, .mbx, .keeper, .deck, .recs, .mark, .trestle, .pio, .pos, .intake, .stats, .cal, .reg, .seg, .codec, .comb,
      .print, .mon, .vd, .net, .dma, .fault, .free, .out]
  | .modeTransitDone => [.mem, .sys, .mbx, .hif, .keeper, .deck, .profile, .recs, .mark, .trestle, .pio, .pos, .intake, .cal, .reg, .seg, .comb,
      .print, .motion, .mon, .vd, .net, .dram, .dma, .fault, .now, .free, .out]
  | .sysStop .. => [.mem, .sys, .mbx, .keeper, .recs, .mark, .trestle, .pos, .cal, .print, .motion, .vd, .net, .now, .free, .out]
  | .sysAbort .. => [.mbx, .keeper, .deck, .recs, .net, .fw, .out]
  | .sysReset .. => [.mbx, .keeper]
  | .sysResetDelayExpiry => resetParts
  | .counterClear .. => [.mbx, .recs, .mark, .pos, .intake, .span, .reg, .cmp, .seg, .codec, .comb, .print, .mon, .vd, .net, .dram, .dma, .power]
  | .reinstate .. => [.mem, .mbx, .keeper, .recs, .pos, .intake, .codec, .print, .vd, .net, .dram, .fault, .out]
  | .deckLoad .. => [.mem, .mbx, .deck, .dram]
  | .deckStage .. => [.mem, .sys, .mbx, .deck, .recs, .cal, .comb, .mon, .dram, .fault]
  | .deckUnstage .. => [.mbx, .deck]
  | .deckArmSwap .. => [.mbx, .deck, .recs, .intake, .vd, .out]
  | .deckCancelSwap .. => [.mbx, .deck, .recs, .intake, .print, .vd, .out]
  | .deckActivate .. => [.mbx, .keeper, .deck, .recs, .trestle, .pio, .intake, .cal, .reg, .comb, .motion, .mon, .vd, .net, .out]
  | .deckQuery .. => [.mbx]
  | .deckDelete .. => [.mbx, .deck]
  | .profileLoad .. => [.mbx, .profile]
  | .refAlloc .. => [.mbx, .reg]
  | .refCommit .. => [.mbx, .keeper, .reg, .dram]
  | .refCommitDone => [.keeper, .recs, .reg]
  | .refDelete .. => [.mbx, .reg]
  | .refQuery .. => [.mbx]
  | .refLearn .. => [.mem, .mbx, .keeper, .reg, .codec]
  | .refLearnAbort .. => [.mem, .mbx, .keeper, .recs, .reg, .codec]
  | .refLearnDone => [.mem, .keeper, .recs, .reg, .codec]
  | .exposureSet .. => [.mbx, .intake, .out]
  | .tdacSet .. => [.mbx, .cal]
  | .calFlat .. => [.mbx, .keeper, .cal]
  | .calPhaseDone => [.keeper, .recs, .cal, .net, .free, .out]
  | .calQuery .. => [.mbx]
  | .calTableRead .. => [.mbx, .keeper, .cal, .dram]
  | .sensorXfer .. => [.mbx, .free, .out]
  | .printQueueSet .. => [.mbx, .print]
  | .printWithdraw .. => [.mem, .mbx, .recs, .mark, .trestle, .print, .free, .out]
  | .printRearm .. => [.mbx, .print]
  | .printShift .. => [.mbx, .print]
  | .printElemQuery .. => [.mbx]
  | .printSubConfirm .. => [.mbx, .recs, .trestle, .print]
  | .printElemClear .. => [.mbx, .recs, .trestle, .print]
  | .printAuth .. => [.mbx, .keeper, .recs, .trestle, .print, .net, .free, .out]
  | .printUsageQuery .. => [.mbx]
  | .printUsageWrite .. => [.mbx, .keeper, .recs, .trestle, .print, .net, .free, .out]
  | .ringQuery .. => [.mbx]
  | .cropRelease .. => [.mbx, .recs]
  | .lookbackQuery .. => [.mbx]
  | .lookbackFetch .. => [.mbx, .keeper, .dram]
  | .lookbackFetchDone .. => [.mem, .keeper, .recs, .codec, .net, .dram, .fault, .free, .out]
  | .lookbackAbort .. => [.mbx, .keeper, .recs, .net, .out]
  | .axisMove .. => [.mbx, .keeper, .recs, .motion, .net, .out]
  | .axisHome .. => [.mbx, .keeper, .recs, .motion, .net, .out]
  | .axisStop .. => [.mbx, .keeper, .recs, .motion, .net, .now, .out]
  | .axisQuery .. => [.mbx]
  | .axisEnable .. => [.mbx, .motion]
  | .timeQuery .. => [.mbx]
  | .timeSet .. => [.mbx, .net]
  | .timeAdjust .. => [.mbx, .net]
  | .netQuery .. => [.mbx]
  | .peek .. => [.mbx, .free]
  | .poke .. => [.mem, .mbx, .comb, .fault]
  | .laneSet .. => [.mbx, .keeper, .recs, .pos, .seg, .vd, .net, .fault, .out]
  | .laneQuery .. => [.mbx, .vd]
  | .bistRun .. => [.mbx, .keeper, .fault]
  | .bistDone .. => [.mem, .keeper, .recs, .pos, .intake, .codec, .print, .vd, .net, .dram, .fault, .out]
  | .bistResult .. => [.mbx]
  | .fwQuery .. => [.mbx]
  | .fwWrite .. => [.mbx, .keeper, .fw]
  | .fwWriteDone => [.keeper, .recs, .net, .fw, .out]
  | .fwActivate .. => resetParts
  | .keyLoad .. => [.mbx, .fuse]
  | .lcQuery .. => [.mbx]
  | .lcAdvance .. => [.mbx, .print, .fuse]
  | .evtQuery .. => [.mbx]
  | .evtClear .. => [.mbx, .mark, .trestle]
  | .evtInject .. => [.mbx, .trestle]
  | .evtGroup .. => [.mbx, .trestle]
  | .memQuery .. => [.mbx]
  | .memAlloc .. => [.mbx, .dram]
  | .memFree .. => [.mbx, .dram]
  | .memCopy .. => [.mbx, .keeper, .dram]
  | .memCrc .. => [.mbx, .keeper, .dram]
  | .firmwareDmaDone => [.mem, .keeper, .recs, .net, .free, .out]
  | .mailboxGo .. => [.mbx]
  | .keeperTakeRequest _ error => if error then holdParts else [.mbx, .hif, .out]
  | .mailboxResponse .. => [.mbx, .hif, .vd, .net, .out]
  | .mailboxAck .. => [.mbx]
  | .udpRequest .. => [.hif, .net, .out]
  | .fragmentTimeout => [.hif]
  | .hifReset .. => resetParts
  | .irqStatusClear .. => [.hif, .out]
  | .irqForce .. => [.hif, .out]
  | .msixUnmask .. => [.hif, .out]
  | .winBaseLoWrite .. => [.hif]
  | .winBaseHiWrite .. => [.hif]
  | .hostVersionWrite .. => [.hif]
  | .ringConfigWrite .. => [.mem, .hif, .recs, .dram, .out]
  | .registerWrite .. => [.mbx, .hif, .recs, .dma, .out]
  | .bar2Access _ _ _ _ parity => if parity then holdParts else [.mem, .recs, .comb, .fault, .free, .out]
  | .ringEntryReturn .. => [.mem, .recs]
  | .spillDrain .. => [.recs]
  | .recordWrite .. => [.mem, .hif, .recs, .dram, .out]
  | .ringTimerExpiry .. => [.hif, .recs, .out]
  | .dmaStart .. => [.dma]
  | .dmaPause .. => [.dma]
  | .dmaAbort .. => [.mem, .hif, .dma, .out]
  | .dmaConfigWrite .. => [.dma]
  | .dmaDescriptorDone _ eccAt _ => if eccAt.isSome then holdParts else [.mem, .sys, .hif, .recs, .comb, .dram, .dma, .fault, .free, .out]
  | .dmaDrainDone .. => [.mem, .hif, .comb, .dma, .fault, .free, .out]
  | .itemEntryHandover .. => [.mem]
  | .pcieFlr => [.mem, .mbx, .hif, .dma, .out]
  | .perstAssert => [.mem, .mbx, .hif, .dma, .out]
  | .pcieLinkLoss => [.hif]
  | .encoderEdge .. => [.recs, .trestle, .pos, .vd, .net, .fault, .now, .free, .out]
  | .encoderZEdge .. => [.recs, .trestle, .pos, .vd, .net, .fault, .now, .out]
  | .stallTimeout .. => [.pos, .vd, .net, .now, .out]
  | .toothEdge .. => [.recs, .pos, .vd, .net, .fault, .now, .free, .out]
  | .serialPoll .. => [.pos, .net, .now]
  | .serialWord .. => [.recs, .trestle, .pos, .vd, .net, .fault, .now, .free, .out]
  | .serialTimeout .. => [.recs, .pos, .vd, .net, .fault, .now, .out]
  | .lineTrigger .. => [.mem, .keeper, .deck, .recs, .mark, .trestle, .pio, .pos, .intake, .stats, .cal, .reg, .codec, .comb, .print, .mon, .vd,
      .net, .fault, .now, .free, .out]
  | .freeRunLine .. => [.mem, .keeper, .deck, .recs, .mark, .trestle, .pio, .pos, .intake, .stats, .cal, .reg, .codec, .comb, .print, .mon, .vd,
      .net, .fault, .now, .free, .out]
  | .calTimedTrigger .. => [.mem, .keeper, .recs, .mark, .trestle, .intake, .stats, .cal, .reg, .codec, .comb, .print, .mon, .net, .fault, .now,
      .free, .out]
  | .sensorTransferDone .. => [.recs, .intake, .fault, .out]
  | .sensorIbi .. => [.intake]
  | .csiFrameStart .. => [.mem, .recs, .intake, .stats, .fault, .out]
  | .csiFrameEnd .. => [.mem, .recs, .intake, .stats, .fault]
  | .csiLineStart .. => [.recs, .intake, .fault]
  | .csiLongPacket .. => [.mem, .recs, .intake, .stats, .fault]
  | .csiOtherPacket .. => [.recs, .intake, .fault]
  | .csiSyncError .. => [.mem, .recs, .intake, .stats, .fault]
  | .exitDeadline => [.mem, .recs, .intake, .stats, .fault]
  | .stripBreak => [.intake]
  | .geometryLine .. => [.mem, .keeper, .recs, .intake, .span, .cal, .net, .fault, .free, .out]
  | .spanEmitLine .. => holdParts ++ [.span]
  | .compareLine .. => [.mem, .keeper, .recs, .trestle, .span, .reg, .cmp, .seg, .codec, .print, .vd, .net, .dram, .fault, .free, .out]
  | .bandDecode .. => [.recs, .reg, .codec, .dram, .fault]
  | .segmentLine .. => [.mem, .keeper, .recs, .intake, .stats, .cmp, .seg, .vd, .net, .fault, .free, .out]
  | .qswarmEnqueue => [.seg]
  | .statsLine => [.mem, .recs, .intake, .span, .stats]
  | .loopResultReady => [.recs, .intake, .stats, .cal, .free, .out]
  | .codecGroupClose .. => [.mem, .recs, .codec, .dram, .fault]
  | .codecFlushTimeout .. => [.mem, .recs, .codec, .dram, .fault]
  | .ringWriteTimeout .. => [.mem, .codec, .dram]
  | .descriptorAccept => [.comb]
  | .fieldTaskReady => [.comb]
  | .repeatTaskReady .. => [.comb]
  | .itemTaskReady => [.mem, .recs, .mark, .trestle, .comb, .print, .free, .out]
  | .windowTaskReady .. => [.comb]
  | .eventTask .. => [.comb]
  | .taskDispatch => [.comb]
  | .taskComplete .. => holdParts
  | .taskWatchdog .. => holdParts
  | .cellFault .. => holdParts
  | .shedEvaluation .. => [.recs, .comb]
  | .frameClockChange .. => [.comb]
  | .markerActivate .. => [.mark, .out]
  | .markerDeactivate .. => [.mark, .net, .now, .out]
  | .headLineTrigger .. => [.mem, .keeper, .deck, .recs, .mark, .trestle, .pos, .print, .net, .fault, .now, .free, .out]
  | .headLineStart _ _ error => if error then holdParts else [.mem, .sys, .keeper, .deck, .recs, .trestle, .pos, .print, .net, .dram, .fault,
      .now, .free, .out]
  | .headLineReprepare .. => [.pos, .print, .net, .now, .free]
  | .bitmapBurstDone _ _ _ ok => if !ok then holdParts else [.sys, .keeper, .recs, .trestle, .print, .net, .dram, .fault, .free, .out]
  | .headGateAssert .. => [.keeper, .recs, .trestle, .print, .motion, .net, .now, .free, .out]
  | .headGateClear .. => [.keeper, .recs, .trestle, .print, .net, .free, .out]
  | .gateRearmExpiry .. => [.print]
  | .hsenSettleExpiry .. => [.print]
  | .speedEvaluation => [.cal, .print, .net, .free, .out]
  | .spdHoldExpiry => [.print]
  | .authResponse .. => [.keeper, .recs, .trestle, .print, .net, .free, .out]
  | .authRetryTimeout .. => [.keeper, .recs, .trestle, .print, .net, .free, .out]
  | .usageWriteDone .. => [.keeper, .recs, .trestle, .print, .net, .free, .out]
  | .monitorOutput .. => [.keeper, .recs, .trestle, .print, .mon, .net, .fault, .free, .out]
  | .pinInputEdge .. => [.trestle, .pio]
  | .eventDelivery .. => [.recs, .mark, .trestle, .pio, .intake, .comb, .print, .fault, .free, .out]
  | .relayFire .. => [.trestle]
  | .pinOutPulseEnd .. => [.pio, .net, .now, .out]
  | .ethFrameRx .. => [.net, .out]
  | .macAgeing .. => [.net]
  | .ptpSync .. => [.net, .free]
  | .ptpAnnounceTimeout .. => [.net]
  | .hello .. => [.net, .out]
  | .helloTimer => [.net, .out]
  | .bulk .. => [.mem, .net, .out]
  | .spdRefreshTimer => [.net, .out]
  | .linkTrainRetry => [.vd]
  | .train .. => [.recs, .vd, .out]
  | .linkDown => [.mbx, .keeper, .recs, .pos, .seg, .vd, .net, .fault, .out]
  | .pairinfo .. => [.vd]
  | .viaductMbx .. => [.mbx, .hif, .deck, .recs, .intake, .vd, .out]
  | .lanes .. => [.keeper, .recs, .pos, .seg, .vd, .net, .fault, .out]
  | .posSendTimer => [.vd, .out]
  | .pos .. => [.recs, .trestle, .pos, .vd]
  | .line .. => [.mem, .keeper, .deck, .recs, .mark, .trestle, .pio, .pos, .intake, .stats, .cal, .reg, .seg, .codec, .comb, .print, .mon, .vd,
      .net, .fault, .free, .out]
  | .seam .. => [.vd]
  | .part .. => [.seg, .vd]
  | .cut .. => [.vd]
  | .seamTimeout .. => [.keeper, .recs, .pos, .seg, .vd, .net, .fault, .out]
  | .replayRequest .. => [.mbx, .keeper, .recs, .pos, .seg, .vd, .net, .fault, .out]
  | .dramRefreshDue .. => [.dram, .out]
  | .mr4Read .. => [.dram]
  | .dqsTracking => [.dram]
  | .eccScrub .. => holdParts
  | .setPointChange .. => [.dram, .out]
  | .standbySelfRefresh => [.dram, .out]
  | .axisVelocityUpdate .. => [.motion, .net, .now]
  | .axisStep .. => [.keeper, .recs, .motion, .net, .now, .out]
  | .homeInputChange .. => [.keeper, .recs, .motion, .net, .now, .out]
  | .vinUvloRising => [.power]
  | .vinUvloFalling => resetParts
  | .brownout .. => [.keeper, .recs, .trestle, .print, .motion, .net, .power, .now, .free, .out]
  | .brownoutRelease => [.recs, .print, .power]
  | .porstN => resetParts
  | .resetRelease .. => [.sys, .vd, .fuse, .straps]
  | .bootLoadDone .. => [.sys, .profile, .print, .mon, .fuse, .fw]
  | .bootDone .. => holdParts ++ [.profile, .fw]
  | .tempEvaluation .. => [.recs, .power]
  | .thermal => holdParts ++ [.power]
  | .keeperWatchdogExpiry => holdParts ++ [.power]
  | .pllLossOfLock .. => holdParts
  | .heartbeat => [.hif]
  | .perstRelease => [.hif]
  | .pcieLinkUp => [.hif, .out]
  | .ethLinkChange .. => [.net]
  | .calTableReadDone => [.mem, .keeper, .recs, .cal, .net, .out]
  | .stationSwitch .. => [.deck, .recs]
  | .testInstruction .. => resetParts
  | .ptpSyncSend => [.net, .out]
  | .ptpDelayReqSend => [.net, .out]

/-- Checks 5 and 6 of R391 pass for a request: the mode is in the command's set, and on MBX1 the command is marked U. -/
def Allowed (q : Req) (s : State) (modes : ModeSet) (urgent : Bool) : Prop := modes.has s.sys.mode = true ∧ (q.mbx = 1 → urgent = true) ∧ q.fwError = none

end Sys2Proof.Machine
end

