-- ==== Sys2Proof/Certificates/Slice0/Obligations.lean ====
section
/-! DEFINITION. The statements for the provers, each as a proposition; OBLIGATIONS.json lists them. A docstring says what its statement says, in the terms
of the rules that OBLIGATIONS.json cites for it. -/

open Sys2Proof Sys2Proof.Machine

/-- For every command and state: with the command at the front of the queue, step is exec of that command on the state with the queue's rest. -/
def Obligations.StepRunsFrontCommand : Prop :=
  ∀ (s : State) (c : Instr) (rest : List Instr), s.pending = c :: rest → step s = exec c { s with pending := rest }

/-- The model's own choices, no rule of the spec: with an empty queue step answers the same state (log 5); the opcode table gives no row any bits, so no word spells a command and placing one changes
nothing (log 4). -/
def Obligations.EmptyQueueIdlesNoWordForms : Prop :=
  (∀ s : State, s.pending = [] → step s = .next s) ∧
  (∀ nbits w : Nat, decodeTableWord nbits w = none ∧ ∀ s : State, s.withFetchWord nbits w = s)

/-- The state after reset satisfies the invariant that every step keeps (canonical memory and mailbox buffers, a legal life cycle, 8 rings, 4 mailboxes, 16 library slots, 8 heads, 24 cameras, 8 host
channels), and its queue is empty. -/
def Obligations.ResetInvariant : Prop := State.reset.Inv ∧ State.reset.pending = []

/-- From every state that satisfies the invariant, not only those that a run from reset reaches: a step that answers a next state answers one that satisfies it. -/
def Obligations.StepKeepsInvariant : Prop := ∀ s t : State, s.Inv → step s = .next t → t.Inv

/-- For every state: a step that answers a next state leaves the queue's rest waiting and nothing else, keeps everything put out before (it only appends, log 6), and never takes back a free value that was
drawn (log 3). -/
def Obligations.StepTakesOneCommand : Prop :=
  ∀ s t : State, step s = .next t → t.pending = s.pending.tail ∧ (∃ news, t.out = s.out ++ news) ∧ s.free ≤ t.free

/-- For every state with a legal life cycle (0 BLANK to 5 SCRAP): no step, whatever its command, lowers it or leaves the six states. -/
def Obligations.LifeCycleNeverGoesBack : Prop :=
  ∀ s t : State, s.fuse.lifeCycle ≤ 5 → step s = .next t → s.fuse.lifeCycle ≤ t.fuse.lifeCycle ∧ t.fuse.lifeCycle ≤ 5

/-- The frame of every command, over the 37 parts into which the state divides: in the next state of a command, every part that mayChange does not list for it is the same. A report changes its mailbox
alone; no command but those listed reaches memory, the deck roles, the records, the heads, the fuses, the firmware slots and so on. -/
def Obligations.CommandsChangeOnlyTheirParts : Prop :=
  ∀ (c : Instr) (s t : State) (x : Part), x ∉ mayChange c → exec c s = .next t → samePart x s t

/-- Every command that mayStop does not name answers a next state in every state and with every operand. (The commands it names end in a fault where the spec calls the case misuse, or
in a refusal where a private unit acts.) Of the same kind for all: no command is ever refused as not modelled. -/
def Obligations.OnlyNamedCommandsStop : Prop :=
  (∀ (c : Instr) (s : State), mayStop c = false → ∃ t, exec c s = .next t) ∧
  ∀ (c : Instr) (s : State) (m : String), exec c s ≠ .refused (.notModelled m)

/-- For every one of the Zaster commands and every state: in a mode outside the set of its Modes column it answers BAD_STATE with HIF_MODE in DETAIL; in an allowed mode, on MBX1 and without the U mark, it answers
DENIED with 0; in both cases nothing but the response changes. And the checks before a request executes come in the order of R391: LEN above 4,080, version, an unlisted code, the payload length, the mode and the U mark; the
first that fails decides, and a request that passes them all has none. (A datagram whose own length differs from LEN is refused before them, log 71.) -/
def Obligations.RequestChecksAnswerFirst : Prop :=
  (∀ (c : Instr) (s : State) (code : Nat) (q : Req) (modes : ModeSet) (urgent : Bool), c.wf = true → zaster c = some (code, q, modes, urgent) →
    (modes.has s.sys.mode = false → exec c s = .next (s.respond code q { status := 5, detail := s.hifMode })) ∧
    (modes.has s.sys.mode = true → q.mbx = 1 → urgent = false → exec c s = .next (s.respond code q { status := 6, detail := 0 }))) ∧
  (∀ (s : State) (n : Nat) (r : Request), (∀ d, r.dgLen = some d → d = r.len) →
    (4080 < r.len → s.requestCheck n r = some { status := 2, detail := 4080 }) ∧
    (r.len ≤ 4080 → s.served n r = false → s.requestCheck n r = some { status := 3, detail := 0x01000000 }) ∧
    (r.len ≤ 4080 → s.served n r = true → cmdRow r.cmd = none → s.requestCheck n r = some { status := 4, detail := 0 }) ∧
    (∀ row m, r.len ≤ 4080 → s.served n r = true → cmdRow r.cmd = some row → lenCheck row r = some m → s.requestCheck n r = some { status := 2, detail := m }) ∧
    (∀ row, r.len ≤ 4080 → s.served n r = true → cmdRow r.cmd = some row → lenCheck row r = none →
      s.requestCheck n r = (if row.modes.has s.sys.mode = false then some { status := 5, detail := s.hifMode }
        else if n = 1 ∧ row.urgent = false then some { status := 6, detail := 0 } else none)))

/-- Each set of R399 holds exactly the modes the table gives it: NB every mode except BOOT; OP every mode except BOOT, SELFTEST and SAFE_HOLD; OPS is OP without STANDBY; NS every mode except BOOT, SELFTEST
and STANDBY; NW is OP without the web modes; WEB the five web modes; LM LEARN and MAKEREADY; PRT PRINT and PRINT_VERIFY; CFG, DIAG and CAL one mode each. -/
def Obligations.ModeSetsHoldTheirModes : Prop :=
  ∀ m : Mode,
    (ModeSet.nb.has m = true ↔ m ≠ .boot) ∧
    (ModeSet.op.has m = true ↔ m ≠ .boot ∧ m ≠ .selftest ∧ m ≠ .safeHold) ∧
    (ModeSet.ops.has m = true ↔ ModeSet.op.has m = true ∧ m ≠ .standby) ∧
    (ModeSet.ns.has m = true ↔ m ≠ .boot ∧ m ≠ .selftest ∧ m ≠ .standby) ∧
    (ModeSet.nw.has m = true ↔ ModeSet.op.has m = true ∧ m ≠ .learn ∧ m ≠ .makeready ∧ m ≠ .inspect ∧ m ≠ .print ∧ m ≠ .printVerify) ∧
    (ModeSet.web.has m = true ↔ m = .learn ∨ m = .makeready ∨ m = .inspect ∨ m = .print ∨ m = .printVerify) ∧
    (ModeSet.lm.has m = true ↔ m = .learn ∨ m = .makeready) ∧
    (ModeSet.prt.has m = true ↔ m = .print ∨ m = .printVerify) ∧
    (ModeSet.cfg.has m = true ↔ m = .configure) ∧ (ModeSet.diag.has m = true ↔ m = .diagnostic) ∧ (ModeSet.cal.has m = true ↔ m = .calibrate)

/-- The status of each name has the code R614 gives it. A response in a buffer (R389) begins with STATUS, CMD echoed, SEQ echoed, LEN and DETAIL, each little-endian, and its payload follows at byte 16. -/
def Obligations.StatusCodesAndResponseHeader : Prop :=
  (Status.badLength.code = 2 ∧ Status.version.code = 3 ∧ Status.unknownCmd.code = 4 ∧ Status.badState.code = 5 ∧ Status.denied.code = 6 ∧ Status.deckFormat.code = 7 ∧ Status.resource.code = 8 ∧
    Status.notFound.code = 9 ∧ Status.busy.code = 10 ∧ Status.tooLate.code = 11 ∧ Status.authFail.code = 12 ∧ Status.retired.code = 13 ∧ Status.internal.code = 14) ∧
  (∀ p : List Byte, (Reply.ok p).status = 0 ∧ (Reply.ok p).payload = p) ∧ Reply.accepted.status = 1 ∧
  (∀ r : Response, r.bytes.take 16 = leBytes 2 r.status ++ leBytes 2 r.cmd ++ leBytes 4 r.seq ++ leBytes 4 r.payload.length ++ leBytes 4 r.detail ∧ r.bytes.drop 16 = r.payload)

/-- The reset values that the spec gives: mode BOOT with no transit and target 0; HIF_HOST_VERSION 0x0000_0001, heartbeat 0, HIF_IRQ_STATUS 0, HIF_IRQ_MASK all ones, window base at the start of DRAM (0x10_0000_0000); every
ring disabled with PROD, LOST, SPILL and SEQ 0 and COUNT 1; every mailbox free with REQ_BUSY, RSP_VALID, DBERR and DONE 0; every host channel idle with BASE_LO, SIZE_LOG2 and HEAD 0 and BASE_HI 0x10; epoch 0, no deck role, an empty
library; no swap; the clock at 0 and not set; no head authenticated. -/
def Obligations.ResetValues : Prop :=
  State.reset.sys.mode = .boot ∧ State.reset.sys.transit = false ∧ State.reset.hifMode = 0 ∧
  State.reset.hif.hostVersion = 1 ∧ State.reset.hif.heartbeat = 0 ∧ State.reset.hif.irqStatus = 0 ∧ State.reset.hif.irqMask = 0xFFFFFFFF ∧
  State.reset.hif.winBase = 0x1000000000 ∧
  (∀ k < 8, (State.reset.ring k).baseLo = 0 ∧ (State.reset.ring k).baseHi = 0 ∧ (State.reset.ring k).sizeLog2 = 0 ∧ (State.reset.ring k).prod = 0 ∧ (State.reset.ring k).lost = 0 ∧
    (State.reset.ring k).spill = [] ∧ (State.reset.ring k).seq = 0 ∧ (State.reset.ring k).count = 1 ∧ (State.reset.ring k).timerUs = 0) ∧
  (∀ n < 4, (State.reset.mailbox n).reqBusy = false ∧ (State.reset.mailbox n).rspValid = false ∧ (State.reset.mailbox n).dberr = false ∧ (State.reset.mailbox n).done = 0) ∧
  (∀ c < 8, (State.reset.dmaChan (8 + c)).run = .idle ∧ (State.reset.dmaChan (8 + c)).baseLo = 0 ∧ (State.reset.dmaChan (8 + c)).baseHi = 0x10 ∧ (State.reset.dmaChan (8 + c)).sizeLog2 = 0 ∧
    (State.reset.dmaChan (8 + c)).head = 0) ∧
  State.reset.deck.epoch = 0 ∧ State.reset.deck.active = none ∧ State.reset.deck.staged = none ∧ State.reset.deck.swap = none ∧ (∀ k < 16, State.reset.slotDeck k = none) ∧
  State.reset.net.set = false ∧ State.reset.net.clock = 0 ∧ (∀ h < 8, State.reset.authCode h = 0)

/-- Writing a response appends it, with CMD and SEQ echoed, to the executed requests of the request's mailbox, keeps that mailbox's registers, leaves every other mailbox and every other part of the state
as it was. And for every Zaster command, the row that the Keeper's checks look up by its code has the same modes and U mark as the command itself. -/
def Obligations.ResponsesAndCommandRows : Prop :=
  (∀ (s : State) (code : Nat) (q : Req) (r : Reply), s.hif.mbx.length = 4 → q.mbx < 4 →
    ((s.respond code q r).mailbox q.mbx).executed = (s.mailbox q.mbx).executed ++
      [{ status := r.status, cmd := code, seq := q.seq, detail := r.detail, payload := r.payload, srcAddr := q.srcAddr, srcPort := q.srcPort }] ∧
    ((s.respond code q r).mailbox q.mbx).reqBusy = (s.mailbox q.mbx).reqBusy ∧ ((s.respond code q r).mailbox q.mbx).rspValid = (s.mailbox q.mbx).rspValid ∧
    ((s.respond code q r).mailbox q.mbx).done = (s.mailbox q.mbx).done ∧
    (∀ n, n ≠ q.mbx → (s.respond code q r).mailbox n = s.mailbox n) ∧ (∀ x, x ≠ .mbx → samePart x s (s.respond code q r))) ∧
  (∀ (c : Instr) (code : Nat) (q : Req) (modes : ModeSet) (urgent : Bool), zaster c = some (code, q, modes, urgent) →
    ∃ row, cmdRow code = some row ∧ row.code = code ∧ row.modes = modes ∧ row.urgent = urgent)

/-- For every state and request that the mode and the mailbox allow, each of the sixteen commands that only report writes one OK response, of the length the command
tables give and with the entries at the offsets they give, and changes nothing else: SYS_NOP (the time), SYS_IDENT, SYS_STATUS (the status word, the heartbeat at 56),
DECK_QUERY (slot k at 32 + 16k), REF_QUERY (slot k at 32k), CAL_QUERY (port p at 16p), PRINT_USAGE_QUERY, RING_QUERY, LOOKBACK_QUERY (an empty ring reads zeros and
bit 0 at 24), AXIS_QUERY, TIME_QUERY (the clock increment at 8, the offset at 24), NET_QUERY, FW_QUERY, LC_QUERY (state, TEST_PROT from bit 8, one bit per loaded key from bit 16), EVT_QUERY (groups; producer p
at 16 + 8p) and MEM_QUERY (region r at 16r). -/
def Obligations.ReportsAnswerAndChangeNothing : Prop :=
  ∀ (q : Req) (s : State),
    (Allowed q s .nb true →
      exec (.sysNop q) s = .next (s.respond 0x0000 q (.ok (leBytes 8 s.time))) ∧
      (∃ p, p.length = 64 ∧ p.take 4 = leBytes 4 s.hifId ∧ (p.drop 16).take 4 = leBytes 4 s.sys.fwVersion ∧
        exec (.sysIdent q) s = .next (s.respond 0x0001 q (.ok p))) ∧
      (∃ p, p.length = 64 ∧ p.take 4 = leBytes 4 s.statusWord ∧ (p.drop 56).take 4 = leBytes 4 s.hif.heartbeat ∧
        exec (.sysStatus q) s = .next (s.respond 0x0002 q (.ok p)))) ∧
    (Allowed q s .nb false →
      (∃ p, p.length = 288 ∧ (p.drop 4).take 4 = leBytes 4 s.deck.epoch ∧
        (∀ k < 16, (p.drop (32 + 16 * k)).take 16 =
          match s.slotDeck k with
          | some c => wordsBytes [s.handle k, c.deckId, c.deckRev, c.length]
          | none => leBytes 16 0) ∧
        exec (.deckQuery q) s = .next (s.respond 0x0106 q (.ok p))) ∧
      (∃ p, p.length = 256 ∧
        (∀ k < 8, (p.drop (32 * k)).take 4 = leBytes 4 (if (s.refSlot k).st = .free then 0 else s.refHandle k)) ∧
        exec (.refQuery q) s = .next (s.respond 0x0203 q (.ok p))) ∧
      (∃ p, p.length = 640 ∧ (∀ k < 24, (p.drop (16 * k)).take 16 = leBytes 4 (getN s.cal.count k 0) ++ leBytes 4 0 ++ leBytes 8 (getN s.cal.time k 0)) ∧
        exec (.calQuery q) s = .next (s.respond 0x0303 q (.ok p))) ∧
      (∃ p, p.length = 256 ∧
        (∀ h < 8, (p.drop (32 * h)).take 32 = wordsBytes (lohi ((s.head h).chip.chipId.getD 0) ++ lohi (s.head h).chip.count ++ lohi (s.head h).chip.confirmed ++
          [(s.head h).chip.reason * 256 + s.authCode h, 0])) ∧
        exec (.printUsageQuery q) s = .next (s.respond 0x0414 q (.ok p))) ∧
      (∃ p, p.length = 256 ∧
        (∀ r < 8, (p.drop (32 * r)).take 32 = wordsBytes [(s.ring r).baseLo, (s.ring r).baseHi, (s.ring r).sizeLog2, (s.ring r).prod, (s.ring r).lost,
          (s.ring r).spill.length] ++ leBytes 8 (s.ring r).seq) ∧
        exec (.ringQuery q) s = .next (s.respond 0x0500 q (.ok p))) ∧
      (∃ p, p.length = 64 ∧ (s.oldestHeld false = none → p.take 32 = leBytes 24 0 ++ leBytes 8 1) ∧
        (s.oldestHeld true = none → p.drop 32 = leBytes 24 0 ++ leBytes 8 1) ∧
        exec (.lookbackQuery q) s = .next (s.respond 0x0521 q (.ok p))) ∧
      (∃ p, p.length = 48 ∧ (∀ a < 6, (p.drop (8 * a)).take 4 = leBytes 4 (truncN 32 (s.axis a).pos)) ∧
        exec (.axisQuery q) s = .next (s.respond 0x0603 q (.ok p))) ∧
      (∃ p, p.length = 32 ∧ p.take 8 = wordsBytes (lohi s.time) ∧ (p.drop 8).take 8 = wordsBytes (lohi s.net.incr) ∧
        (p.drop 24).take 8 = wordsBytes (lohiS s.net.offset) ∧
        exec (.timeQuery q) s = .next (s.respond 0x0700 q (.ok p))) ∧
      (∃ p, p.length = 64 ∧
        (∀ i < 2, (p.drop (32 * i)).take 16 = wordsBytes [s.profile.current.ethMode i + 4 * b2n (getN s.net.ports i {}).link,
          (getN s.net.ports i {}).rx, (getN s.net.ports i {}).tx, (getN s.net.ports i {}).drop]) ∧
        exec (.netQuery q) s = .next (s.respond 0x0703 q (.ok p))) ∧
      (∃ p, p.length = 36 ∧
        (∀ k < 2, (p.drop (16 * k)).take 12 = wordsBytes [(getN s.fw.slots k {}).version, (getN s.fw.slots k {}).state, (getN s.fw.slots k {}).length]) ∧
        p.drop 32 = leBytes 4 (s.sys.fwSlot + 2 * s.fw.next + 4 * b2n s.sys.patched) ∧
        exec (.fwQuery q) s = .next (s.respond 0x0900 q (.ok p))) ∧
      (∃ keys, exec (.lcQuery q) s = .next (s.respond 0x0904 q (.ok (leBytes 4 (s.fuse.lifeCycle + s.fuse.testProt * 2 ^ 8 + keys * 2 ^ 16)))) ∧
        keys = sumN ((upto 8).map (fun k => if (getN s.fuse.keySlots k {}).loaded && !(getN s.fuse.keySlots k {}).revoked then 2 ^ k else 0))) ∧
      (∃ p, p.length = 3164 ∧ p.take 4 = leBytes 4 s.trestle.groups ∧
        (∀ k < 128, (p.drop (16 + 8 * k)).take 4 = leBytes 4 ((lookupN k s.trestle.published).getD 0)) ∧
        exec (.evtQuery q) s = .next (s.respond 0x0A00 q (.ok p))) ∧
      (∃ p, p.length = 192 ∧ (∀ r < 12, (p.drop (16 * r)).take 16 = leBytes 8 (s.regionBase r) ++ leBytes 8 (s.regionSize r)) ∧
        exec (.memQuery q) s = .next (s.respond 0x0B00 q (.ok p))))

/-- SYS_RESET with its key answers OK and starts the millisecond that SYS_RESET_DELAY_EXPIRY ends; with another key it answers DENIED 4 and does nothing. HIF_RESET with
0x0000_0A5A, the expiry with no SYS_RESET response left to write, PORST_N and the fall of VIN below UVLO reset the device: mode BOOT, held in reset, no deck, role, record,
command or unanswered request (a hold by the test port ends with PORST_N and with the fall of VIN alone), interrupt status 0 and every vector unmasked as at reset (MASK all ones), with fuses (life cycle, key slots), the flash (firmware slots, boot record, stored
profile) and the part kept. The MSI-X table, its enable bit and the link survive HIF_RESET and SYS_RESET alone; another value written to HIF_RESET does nothing. -/
def Obligations.ResetsKeepFusesAndFlash : Prop :=
  (∀ (q : Req) (s : State), Allowed q s .nb true →
    exec (.sysReset q 0x0A5A) s = .next (({ s with keeper.resetPending := true } : State).respond 0x0007 q {})) ∧
  (∀ (q : Req) (s : State) (key : Nat), Allowed q s .nb true → key ≠ 0x0A5A → exec (.sysReset q key) s = .next (s.respond 0x0007 q (.fail .denied 4))) ∧
  (∀ (v : Word) (s : State), v ≠ 0x0A5A → exec (.hifReset v) s = .next s) ∧
  (∀ (c : Instr) (s : State),
    (c = .hifReset 0x0A5A ∨ (c = .sysResetDelayExpiry ∧ s.keeper.resetPending = true ∧ ∀ m ∈ s.hif.mbx, ∀ r ∈ m.executed, r.cmd ≠ 7) ∨
      c = .porstN ∨ c = .vinUvloFalling) →
    ∃ t : State, exec c s = .next t ∧
      t.sys = { State.reset.sys with inReset := true, heldInReset := (if c = .porstN ∨ c = .vinUvloFalling then false else s.sys.heldInReset) } ∧ t.deck = State.reset.deck ∧ t.recs = State.reset.recs ∧ t.keeper = State.reset.keeper ∧
      t.print = State.reset.print ∧ t.pos = State.reset.pos ∧ t.mem = [] ∧ t.hif.mbx = State.reset.hif.mbx ∧ t.hif.irqStatus = 0 ∧ t.hif.irqMask = 0xFFFFFFFF ∧
      t.fuse.lifeCycle = s.fuse.lifeCycle ∧ t.fuse.keySlots = s.fuse.keySlots ∧ t.fw.slots = s.fw.slots ∧ t.fw.next = s.fw.next ∧ t.fw.gen = s.fw.gen ∧
      t.profile = { State.reset.profile with stored := s.profile.stored } ∧ t.part = s.part ∧
      (c = .vinUvloFalling → t.power.down = true) ∧
      (if c = .porstN ∨ c = .vinUvloFalling then t.hif = State.reset.hif
       else t.hif.msixTable = s.hif.msixTable ∧ t.hif.msixEnable = s.hif.msixEnable ∧ t.hif.linkUp = s.hif.linkUp))

/-- COUNTER_CLEAR sets the counters of the parts that its mask names to 0 and no others: each clause names a part, its counters after the command, and that with its bit 0 they
keep their value; a mask with a reserved bit is misuse. SYS_ABORT of a mailbox whose request being executed is marked A answers OK with its code and gives that request the response BUSY 4; for one not
marked A it answers DENIED 2, and with nothing executed or running for the mailbox NOT_FOUND. -/
def Obligations.CounterClearAndAbortActOnWhatTheyName : Prop :=
  (∀ (q : Req) (parts : Nat) (s : State), Allowed q s .nb false → partsReserved parts = false →
    ∃ u : State, exec (.counterClear q parts) s = .next (u.respond 0x0008 q {}) ∧
      (∀ k, (u.cam k).count = (if bitAt parts 1 = true then {} else (s.cam k).count)) ∧
      u.seg.count = (if bitAt parts 4 = true then {} else s.seg.count) ∧
      u.comb.retries = (if bitAt parts 6 = true then 0 else s.comb.retries) ∧
      (∀ k, (u.ring k).lost = (if bitAt parts 7 = true then 0 else (s.ring k).lost)) ∧
      (∀ k, (u.head k).count = (if bitAt parts 8 = true then {} else (s.head k).count)) ∧
      (∀ k, (u.marker k).late = (if (bitAt parts 7 || bitAt parts 9) = true then 0 else (s.marker k).late)) ∧
      u.pos.overspeedLate = (if bitAt parts 10 = true then 0 else s.pos.overspeedLate) ∧
      u.trestle = s.trestle ∧
      u.dram.lbDrop = (if bitAt parts 12 = true then 0 else s.dram.lbDrop) ∧
      u.vd.replay = (if bitAt parts 13 = true then 0 else s.vd.replay) ∧
      u.net.steps = (if bitAt parts 14 = true then 0 else s.net.steps) ∧
      (∀ k, (getN u.dma.chan k {}).eccCount = (if bitAt parts 15 = true then 0 else (getN s.dma.chan k {}).eccCount)) ∧
      u.mon.ecc = (if bitAt parts 16 = true then 0 else s.mon.ecc) ∧
      u.power.brownouts = (if bitAt parts 17 = true then 0 else s.power.brownouts)) ∧
  (∀ (q : Req) (parts : Nat) (s : State), Allowed q s .nb false → partsReserved parts = true → exec (.counterClear q parts) s = .fault (.misuse 15)) ∧
  (∀ (q : Req) (m : Nat) (s : State) (r : Request) (row : CmdRow), Allowed q s .nb true → (s.mailbox m).taken.find? (fun x => x.cmd != 6) = some r →
    cmdRow r.cmd = some row →
    exec (.sysAbort q m) s = .next (if row.abortable then (s.abortRequest m r).respond 0x0006 q (.ok (leBytes 4 r.cmd))
      else s.respond 0x0006 q (.fail .denied 2))) ∧
  (∀ (m : Nat) (r : Request) (s : State), r.cmd ≠ 0x0100 → s.abortRequest m r =
    s.respond r.cmd { mbx := m, seq := r.seq, srcAddr := r.srcAddr, srcPort := r.srcPort } (.fail .busy 4)) ∧
  (∀ (q : Req) (m : Nat) (s : State), Allowed q s .nb true → (s.mailbox m).taken.find? (fun x => x.cmd != 6) = none → (∀ r ∈ s.keeper.running, r.req.mbx ≠ m) →
    exec (.sysAbort q m) s = .next (s.respond 0x0006 q (.fail .notFound 0)))

/-- MODE_SET that nothing refuses answers ACCEPTED: TRANSIT is set, TARGET is the mode asked for, MODE is still the old one, and the command runs. A MODE_SET to the present mode
answers OK, and one during a transit BUSY 7, and both change nothing. At the transit's end MODE_TRANSIT_DONE clears TRANSIT, enters TARGET, sets
bit 21 of HIF_IRQ_STATUS and ends the command, and then the SYS_STOP requests that waited act; a web mode or CALIBRATE needs its ACTIVE deck still. SYS_STOP during a transit waits; else it leaves INSPECT, PRINT and PRINT_VERIFY for MAKEREADY, answers the mode then in
force, and in every other mode changes no mode. -/
def Obligations.ModesChangeByTransit : Prop :=
  (∀ (q : Req) (target : Nat) (t : Mode) (s : State), Allowed q s .nb false → modeOf target = some t → t ≠ s.sys.mode → s.modeRefuse q target = none →
    ∃ u : State, exec (.modeSet q target) s = .next (u.respond 0x0004 q .accepted) ∧ u.sys.transit = true ∧ u.sys.target = t ∧ u.sys.mode = s.sys.mode ∧
      u.isRunning 0x0004 = true) ∧
  (∀ (q : Req) (target : Nat) (s : State), Allowed q s .nb false → s.sys.transit = false → s.followRefuse q = none → q.mbx ≠ 3 → modeOf target = some s.sys.mode →
    exec (.modeSet q target) s = .next (s.respond 0x0004 q {})) ∧
  (∀ (q : Req) (target : Nat) (s : State), Allowed q s .nb false → s.sys.transit = true →
    exec (.modeSet q target) s = .next (s.respond 0x0004 q (.fail .busy 7))) ∧
  (∀ s : State, s.transitReady = true → (s.sys.mode = .diagnostic → s.comb.codeTouched = false) →
    (s.sys.target.needsDeck = true → s.activeDeck.isSome = true ∧ (s.sys.mode = .configure → s.profile.loaded = none)) →
    ∃ v : State, exec .modeTransitDone s = .next v.serveStops ∧ v.sys.mode = s.sys.target ∧ v.sys.target = s.sys.target ∧ v.sys.transit = false ∧
      bitAt v.hif.irqStatus 21 = true ∧ v.isRunning 0x0004 = false) ∧
  (∀ (q : Req) (s : State), Allowed q s .nb true → s.sys.transit = true → s.vd.pair ≠ 2 →
    exec (.sysStop q) s = .next { s with keeper.stops := s.keeper.stops ++ [q] }) ∧
  (∀ (q : Req) (s : State), Allowed q s .nb true → s.sys.transit = false →
    ∃ u : State, exec (.sysStop q) s = .next (u.respond 0x0005 q (.ok (leBytes 4 u.sys.mode.code))) ∧
      u.sys.mode = if s.sys.mode = .inspect ∨ s.sys.mode = .print ∨ s.sys.mode = .printVerify then .makeready else s.sys.mode)

/-- SYS_SNAPSHOT, with no snapshot under way and a destination in DRAM that holds it, answers ACCEPTED with the line and the length of the snapshot. Outside the web modes every part is taken
at once: the command has completed, no snapshot is left and the header stands at the destination (its mark, the mask of the parts taken, the length, and NOWEB with format version 1). In a web mode a
snapshot with a part to take waits for its line. A second one meanwhile answers BUSY 5, and one longer than its area RESOURCE 0x0D. SNAPSHOT_TIMEOUT before the line has triggered delivers what is
left, and the command has completed. A mask of parts with a reserved bit is misuse. -/
def Obligations.SnapshotsAreTakenAndDelivered : Prop :=
  (∀ (q : Req) (dest destLen parts timeoutMs : Nat) (s : State), Allowed q s .nb false → partsReserved parts = false → s.keeper.snapshot = none →
    (s.newSnapshot q dest parts timeoutMs).length ≤ destLen → s.rangeOf dest (s.newSnapshot q dest parts timeoutMs).length = some 6 →
    ∃ u : State, exec (.sysSnapshot q dest destLen parts timeoutMs) s =
        .next (u.respond 0x0003 q (.mk 1 0 (leBytes 8 (if s.webRunning then (if s.switchDue.isSome then 0 else s.pos.wln) else 2 ^ 64 - 1) ++
          leBytes 4 (s.newSnapshot q dest parts timeoutMs).length))) ∧
      (s.webRunning = false → u.isRunning 0x0003 = false ∧ u.keeper.snapshot = none ∧
        (s.mem.wf = true → ∀ i, i < 16 → memByte u.mem (dest + i) =
          (wordsBytes [0x50414E53, parts % 2 ^ 18 / 2 * 2, (s.newSnapshot q dest parts timeoutMs).length, 1 + 2 ^ 16]).getD i 0)) ∧
      (s.webRunning = true → partList (parts % 2 ^ 18 / 2 * 2) ≠ [] → u.isRunning 0x0003 = true ∧ u.keeper.snapshot = some (s.newSnapshot q dest parts timeoutMs))) ∧
  (∀ (q : Req) (dest destLen parts timeoutMs : Nat) (s : State), Allowed q s .nb false → partsReserved parts = false → s.keeper.snapshot.isSome = true →
    exec (.sysSnapshot q dest destLen parts timeoutMs) s = .next (s.respond 0x0003 q (.fail .busy 5))) ∧
  (∀ (q : Req) (dest destLen parts timeoutMs : Nat) (s : State), Allowed q s .nb false → partsReserved parts = false → s.keeper.snapshot = none →
    destLen < (s.newSnapshot q dest parts timeoutMs).length →
    exec (.sysSnapshot q dest destLen parts timeoutMs) s =
      .next (s.respond 0x0003 q (resource 0x0D (ceilDiv (s.newSnapshot q dest parts timeoutMs).length 64)))) ∧
  (∀ (q : Req) (dest destLen parts timeoutMs : Nat) (s : State), Allowed q s .nb false → partsReserved parts = true →
    exec (.sysSnapshot q dest destLen parts timeoutMs) s = .fault (.misuse 15)) ∧
  (∀ (s : State) (n : Snapshot), s.keeper.snapshot = some n → n.fired = none →
    ∃ t : State, exec .snapshotTimeout s = .next t ∧ t.keeper.snapshot = none ∧ t.isRunning 0x0003 = false)

/-- REINSTATE answers ACCEPTED. Of a channel that is not retired, and of the blocks that never leave service, it completes at once and changes no history; of a retired codec unit or position
input it ends with the channel in service, its history empty; a retired cell waits for its BIST, whose success brings it back and whose failure leaves it as it was. While one runs a second answers BUSY 5.
BIST_RUN answers ACCEPTED and marks the memories for initialisation; BIST_DONE then stores its results, which BIST_RESULT reports, and completes the command. -/
def Obligations.ReinstateAndSelfTestRun : Prop :=
  (∀ (q : Req) (block inst : Nat) (s : State), Allowed q s .op false → s.isRunning 0x0009 = true →
    exec (.reinstate q block inst) s = .next (s.respond 0x0009 q (.fail .busy 5))) ∧
  (∀ (q : Req) (block inst : Nat) (s : State), Allowed q s .op false → s.isRunning 0x0009 = false →
    (block = 0 ∨ block = 3 ∨ block ≥ 0x0C ∨ s.isRetired block inst = false) →
    ∃ u : State, exec (.reinstate q block inst) s = .next (u.respond 0x0009 q .accepted) ∧ u.fault = s.fault ∧ u.isRunning 0x0009 = false) ∧
  (∀ (q : Req) (unit : Nat) (s : State), Allowed q s .op false → s.isRunning 0x0009 = false → s.isRetired 6 unit = true → (s.channel 6 unit).unusable = false →
    ∃ u : State, exec (.reinstate q 6 unit) s = .next (u.respond 0x0009 q .accepted) ∧ u.isRetired 6 unit = false ∧ (u.channel 6 unit).occ = [] ∧
      u.isRunning 0x0009 = false) ∧
  (∀ (q : Req) (cell : Nat) (s : State), Allowed q s .op false → s.isRunning 0x0009 = false → s.isRetired 7 cell = true →
    exec (.reinstate q 7 cell) s = .next ((s.start 0x0009 q [7, cell]).respond 0x0009 q .accepted)) ∧
  (∀ (r : Running) (cell us : Nat) (failures : List BistEntry) (s : State), s.isRunning 0x0804 = false → s.runningCmd 0x0009 = some r → r.args = [7, cell] →
    ∃ t : State, exec (.bistDone failures us) s = .next t ∧ t.isRunning 0x0009 = false ∧
      (if failures.any (fun e => e.block == 7 && e.inst == cell) = true then t.fault = s.fault else t.isRetired 7 cell = false)) ∧
  (∀ (q : Req) (full : Bool) (s : State), Allowed q s .diag false → s.isRunning 0x0804 = false →
    ∃ u : State, exec (.bistRun q full) s = .next (u.respond 0x0804 q .accepted) ∧ u.fault = { s.fault with memoriesDirty := true } ∧
      u.keeper.running = s.keeper.running ++ [{ code := 0x0804, req := q, args := [b2n full] }]) ∧
  (∀ (q : Req) (full : Bool) (s : State), Allowed q s .diag false → s.isRunning 0x0804 = true →
    exec (.bistRun q full) s = .next (s.respond 0x0804 q (.fail .busy 5))) ∧
  (∀ (failures : List BistEntry) (us : Nat) (r : Running) (s : State), s.runningCmd 0x0804 = some r →
    ∃ t : State, exec (.bistDone failures us) s = .next t ∧ t.isRunning 0x0804 = false ∧
      t.fault = { s.fault with bist := failures, bistFull := r.args == [1], bistRan := true, bistUs := us % 2 ^ 32 }) ∧
  (∀ (q : Req) (s : State), Allowed q s .nb false →
    exec (.bistResult q) s = .next (s.respond 0x0805 q (.ok (leBytes 4 (b2n s.fault.bistFull + 2 * b2n s.fault.bistRan + s.fault.bist.length % 2 ^ 16 * 2 ^ 16) ++
      leBytes 4 s.fault.bistUs ++ wordsBytes ((s.fault.bist.take 1016).map (fun e => e.inst * 2 ^ 16 + e.block * 2 ^ 8 + e.kind))))))

/-- In DIAGNOSTIC, where the life cycle and DIAG_LOCK do not lock them: PEEK of mapped words answers their address and bytes, which in DRAM outside the line intake's region
are those that memory holds; POKE of words outside ROM and the internal registers, of no entry that the device still owns, writes
exactly those bytes, a POKE of ROM changes nothing, and one of the internal register window is refused, whose layout the manual does not give. Locked, both answer DENIED 3. LANE_SET of a lane that is there and has the functions
installs the test, its generator starting at all ones, and on a Viaduct lane opens the test mode of the link; LANE_QUERY lets the lane's checker take the bits received and answers its LOCK, BITS and ERRORS, and of a lane with no checker running answers zeros and changes nothing else; a function or a checker that the lane lacks answers RESOURCE 0x0C, a camera lane
that the profile does not provide NOT_FOUND 3, and a lane number that no lane has is misuse. -/
def Obligations.DiagnosticCommandsReadWriteAndTest : Prop :=
  (∀ (q : Req) (addr count : Nat) (s : State), Allowed q s .diag false → s.diagLocked = none → count ≤ 1016 →
    (s.rangeOf (addr / 4 * 4) (4 * count)).isSome = true →
    exec (.peek q addr count) s = .next (s.drawn.respond 0x0800 q (.ok (leBytes 8 (addr / 4 * 4) ++ s.seen (addr / 4 * 4) (4 * count)))) ∧
    (s.rangeOf (addr / 4 * 4) (4 * count) = some 6 →
      (addr / 4 * 4 + 4 * count ≤ s.regionBase 10 ∨ s.regionBase 10 + s.regionSize 10 ≤ addr / 4 * 4) → s.seen (addr / 4 * 4) (4 * count) = memRead s.mem (addr / 4 * 4) (4 * count))) ∧
  (∀ (q : Req) (addr r : Nat) (words : List Nat) (s : State), Allowed q s .diag false → s.diagLocked = none →
    s.rangeOf (addr / 4 * 4) (4 * words.length) = some r → r ≠ 2 → s.dmaHeld (addr / 4 * 4) (4 * words.length) = false →
    s.ownedMisuse (addr / 4 * 4) (4 * words.length) = none →
    ∃ u : State, exec (.poke q addr words) s = .next (u.respond 0x0801 q {}) ∧ (r = 0 → u = s) ∧
      (r ≠ 0 → s.mem.wf = true → (∀ i, i < 4 * words.length → memByte u.mem (addr / 4 * 4 + i) = (wordsBytes words).getD i 0) ∧
        ∀ x, x < addr / 4 * 4 ∨ addr / 4 * 4 + 4 * words.length ≤ x → memByte u.mem x = memByte s.mem x)) ∧
  (∀ (q : Req) (addr : Nat) (words : List Nat) (s : State), Allowed q s .diag false → s.diagLocked = none →
    s.rangeOf (addr / 4 * 4) (4 * words.length) = some 2 → exec (.poke q addr words) s = .refused .internalRegister) ∧
  (∀ (q : Req) (addr count : Nat) (words : List Nat) (s : State), Allowed q s .diag false →
    (s.fuse.lifeCycle = 3 ∨ (s.fuse.lifeCycle = 2 ∧ s.profile.current.b 0x8070 0 0x00 0 false = true)) →
    exec (.peek q addr count) s = .next (s.respond 0x0800 q (.fail .denied 3)) ∧
    exec (.poke q addr words) s = .next (s.respond 0x0801 q (.fail .denied 3))) ∧
  (∀ (q : Req) (cls lane pattern inject : Nat) (gen check loopback : Bool) (s : State), Allowed q s .diag false →
    (cls = 0 ∧ lane ≤ 95 ∨ (cls = 1 ∨ cls = 2) ∧ lane ≤ 8) →
    let t : LaneTest := { cls := cls, lane := lane, pattern := pattern, gen := gen, check := check, loopback := loopback, inject := inject, reg := 2 ^ (prbsTaps pattern).1 - 1 }
    if laneLacks cls gen check loopback inject = true then exec (.laneSet q cls lane pattern gen check loopback inject) s = .next (s.respond 0x0802 q (resource 0x0C lane))
    else if cls = 0 ∧ s.camLaneProvided lane = false then exec (.laneSet q cls lane pattern gen check loopback inject) s = .next (s.respond 0x0802 q (.fail .notFound 3))
    else ∃ u : State, exec (.laneSet q cls lane pattern gen check loopback inject) s = .next (u.respond 0x0802 q {}) ∧
      u.vd.tests.find? (fun x => x.cls == cls && x.lane == lane) = some t ∧ (cls ≠ 0 → u.vd.testMode = true)) ∧
  (∀ (q : Req) (cls lane pattern inject : Nat) (gen check loopback : Bool) (s : State), Allowed q s .diag false →
    (cls = 0 ∧ 95 < lane ∨ (cls = 1 ∨ cls = 2) ∧ 8 < lane) →
    exec (.laneSet q cls lane pattern gen check loopback inject) s = .fault (.misuse 470)) ∧
  (∀ (q : Req) (cls lane : Nat) (received : List (List Bool)) (s : State), Allowed q s .diag false →
    if cls = 0 ∨ cls = 2 then
      ((∀ t ∈ s.vd.tests, t.cls = cls → t.lane = lane → t.check = false) →
        exec (.laneQuery q cls lane received) s = .next (s.respond 0x0803 q (.ok (List.replicate 24 0)))) ∧
      (∀ c : LaneTest, (s.laneHears cls lane received).laneTest cls lane = some c → c.check = true →
        exec (.laneQuery q cls lane received) s = .next ((s.laneHears cls lane received).respond 0x0803 q
          (.ok (leBytes 4 (b2n c.lock) ++ leBytes 4 0 ++ leBytes 8 c.bits ++ leBytes 8 c.errors))))
    else exec (.laneQuery q cls lane received) s = .next (s.respond 0x0803 q (resource 0x0C lane)))

/-- MEM_ALLOC where region 11 has room answers a new handle and the block's address and reserves it, 4 KiB granules; without room RESOURCE. MEM_FREE of a block with no transfer on it frees it; of no block
NOT_FOUND. MEM_COPY and MEM_CRC over mapped ranges outside the internal registers, the destination one that the host may write, and of no bytes, answer ACCEPTED and run, with memory as it was; over
other ranges they are misuse. FIRMWARE_DMA_DONE finishes the older transfer:
a copy writes at its destination the bytes that its source reads as, MEM_CRC completes with the CRC-32 of its range, and neither changes any other byte. -/
def Obligations.HostRegionBlocksAndTransfers : Prop :=
  (∀ (q : Req) (len a : Nat) (s : State), Allowed q s .op false → s.allocBlock 11 (s.dram.hostBlocks.map (·.2)) (ceilDiv len 4096 * 4096) = some a →
    ∃ u : State, exec (.memAlloc q len) s = .next (u.respond 0x0B01 q (.ok (wordsBytes [s.dram.nextHandle, 0, a % 2 ^ 32, a / 2 ^ 32 % 2 ^ 32]))) ∧
      u.dram = { s.dram with hostBlocks := s.dram.hostBlocks ++ [(s.dram.nextHandle, a, ceilDiv len 4096 * 4096)], nextHandle := (s.dram.nextHandle + 1) % 2 ^ 32 }) ∧
  (∀ (q : Req) (len : Nat) (s : State), Allowed q s .op false → s.allocBlock 11 (s.dram.hostBlocks.map (·.2)) (ceilDiv len 4096 * 4096) = none →
    exec (.memAlloc q len) s = .next (s.respond 0x0B01 q (s.regionFull 11 (s.dram.hostBlocks.map (·.2))))) ∧
  (∀ (q : Req) (handle : Nat) (s : State), Allowed q s .op false → (∃ b ∈ s.dram.hostBlocks, b.1 = handle) →
    (∀ r ∈ s.keeper.running, r.code ≠ 0x0B03 ∧ r.code ≠ 0x0B04) →
    exec (.memFree q handle) s =
      .next (({ s with dram := { s.dram with hostBlocks := s.dram.hostBlocks.filter (fun b => b.1 != handle) } } : State).respond 0x0B02 q {})) ∧
  (∀ (q : Req) (handle : Nat) (s : State), Allowed q s .op false → (∀ b ∈ s.dram.hostBlocks, b.1 ≠ handle) →
    exec (.memFree q handle) s = .next (s.respond 0x0B02 q (.fail .notFound 0))) ∧
  (∀ (q : Req) (src dst len : Nat) (s : State), Allowed q s .op false → s.isRunning 0x0B03 = false → len < 2 ^ 24 →
    (len ≠ 0 → s.sourceBad src len = false ∧ (s.rangeOf dst len).isSome = true ∧ (s.inRegion 11 dst len = true ∨ inBlocks s.refWritable dst len = true)) →
    ∃ u : State, exec (.memCopy q src dst len) s = .next (u.respond 0x0B03 q .accepted) ∧ u.mem = s.mem ∧
      u.keeper.running = s.keeper.running ++ [{ code := 0x0B03, req := q, args := [src, dst, len] }]) ∧
  (∀ (q : Req) (addr len : Nat) (s : State), Allowed q s .op false → s.isRunning 0x0B04 = false → len < 2 ^ 24 → (len ≠ 0 → s.sourceBad addr len = false) →
    ∃ u : State, exec (.memCrc q addr len) s = .next (u.respond 0x0B04 q .accepted) ∧ u.mem = s.mem ∧
      u.keeper.running = s.keeper.running ++ [{ code := 0x0B04, req := q, args := [addr, addr, len] }]) ∧
  (∀ (q : Req) (src dst len : Nat) (s : State), Allowed q s .op false → len ≠ 0 → len < 2 ^ 24 → s.sourceBad src len = true →
    (s.isRunning 0x0B03 = false → exec (.memCopy q src dst len) s = .fault (.misuse 32)) ∧
    (s.isRunning 0x0B04 = false → exec (.memCrc q src len) s = .fault (.misuse 32))) ∧
  (∀ (r : Running) (src dst n : Nat) (s : State), s.keeper.running.find? (fun r => r.code == 0x0B03 || r.code == 0x0B04) = some r → r.args = [src, dst, n] → s.mem.wf = true →
    ∃ t : State, exec .firmwareDmaDone s = .next t ∧ t.keeper.running = s.keeper.running.filter (fun x => !(x.code == r.code)) ∧
      (r.code = 0x0B03 → (∀ i, i < (s.seen src n).length → n ≠ 0 → memByte t.mem (dst + i) = (s.seen src n).getD i 0) ∧
        ∀ x, x < dst ∨ dst + (s.seen src n).length ≤ x → memByte t.mem x = memByte s.mem x) ∧
      (r.code = 0x0B04 → n ≠ 0 → t = s.drawn.complete r .ok (crc32 (s.seen src n))))

/-- FW_WRITE of a chunk that comes in order, from DRAM and inside the slot, answers ACCEPTED and is being written to the inactive slot, which FIRST erases and marks as being written. FW_WRITE_DONE puts the chunk's
bytes at its offset after those already written, keeps the offset at which the next chunk must start, and completes the command; after the last chunk the slot is verified with the image's version
and length where the image is valid, and invalid otherwise. FW_ACTIVATE of a verified slot makes it NEXT in the other copy of the boot record with GEN + 1; with RESET it resets the device
at once outside the web modes, and in a web mode answers BAD_STATE; of a slot not verified AUTH_FAIL 7. -/
def Obligations.FirmwareIsWrittenVerifiedAndActivated : Prop :=
  (∀ (q : Req) (src offset len : Nat) (first last : Bool) (s : State), Allowed q s .cfgWeb false → s.isRunning 0x0901 = false →
    (if first = true then offset = 0 else (getN s.fw.slots (1 - s.sys.fwSlot) {}).state = 1 ∧ (getN s.fw.slots (1 - s.sys.fwSlot) {}).nextOffset = offset) →
    (len = 0 ∨ s.rangeOf src len = some 6) → offset + len ≤ 0x400000 →
    ∃ u : State, exec (.fwWrite q src offset len first last) s = .next (u.respond 0x0901 q .accepted) ∧ u.fw.writing = some (src, offset, len, last) ∧
      u.fw.slots = (if first = true then updAt s.fw.slots (1 - s.sys.fwSlot) (fun _ => { state := 1 }) else s.fw.slots) ∧
      u.keeper.running = s.keeper.running ++ [{ code := 0x0901, req := q }]) ∧
  (∀ (q : Req) (src offset len : Nat) (last : Bool) (s : State), Allowed q s .cfgWeb false → s.isRunning 0x0901 = false → offset ≠ 0 →
    exec (.fwWrite q src offset len true last) s = .next (s.respond 0x0901 q (badState s 9))) ∧
  (∀ (src offset len : Nat) (last : Bool) (r : Running) (s : State), s.fw.writing = some (src, offset, len, last) → s.runningCmd 0x0901 = some r →
    s.fw.slots.length = 2 → s.sys.fwSlot < 2 →
    ∃ t : State, exec .fwWriteDone s = .next t ∧ t.isRunning 0x0901 = false ∧ t.fw.writing = none ∧
      let old := getN s.fw.slots (1 - s.sys.fwSlot) {}
      let slot := getN t.fw.slots (1 - s.sys.fwSlot) {}
      let bytes := old.bytes.take offset ++ memRead s.mem src len
      slot.bytes = bytes ∧ slot.nextOffset = offset + len ∧
      (last = false → slot.state = old.state) ∧
      (last = true → if s.imageValid (imageOf bytes) = true then slot.state = 2 ∧ slot.version = (imageOf bytes).version ∧ slot.length = (imageOf bytes).length
        else slot.state = 3)) ∧
  (∀ (q : Req) (slot : Nat) (reset : Bool) (s : State), Allowed q s .op false → slot < 2 → (getN s.fw.slots slot {}).state = 2 →
    let u : State := { s with fw := { s.fw with next := slot, gen := (s.fw.gen + 1) % 2 ^ 32, copy := 1 - s.fw.copy } }
    exec (.fwActivate q slot reset) s = .next (if reset = true then (if s.sys.mode.isWeb = true then s.respond 0x0902 q (badState s 6) else u.hifReset)
      else u.respond 0x0902 q {})) ∧
  (∀ (q : Req) (slot : Nat) (s : State), Allowed q s .op false → slot < 2 → (getN s.fw.slots slot {}).state ≠ 2 →
    exec (.fwActivate q slot false) s = .next (s.respond 0x0902 q (.fail .authFail 7)))

/-- KEY_LOAD in MANUFACTURE, PROVISIONED or FIELD burns a slot that is neither loaded nor revoked, and answers DENIED 3 otherwise, with the fuses as they were. LC_ADVANCE with its confirmation and a permitted target
sets the life cycle; into ZEROISED or SCRAPPED it revokes every key slot and empties the key RAM; into PROVISIONED it burns secure boot and the profile's test protection. A wrong confirmation answers DENIED 4, a transition that is not permitted DENIED 3.
An open test instruction does nothing; outside the web modes a protected one does nothing where TEST_PROT 0 closes it, the first one under TEST_PROT 1 zeroises the device and holds it in reset, and otherwise the model is
refused what the manual does not describe; in a web mode it is misuse. -/
def Obligations.KeysLifeCycleAndTestPort : Prop :=
  (∀ (q : Req) (slot : Nat) (key : List Byte) (s : State), Allowed q s .cfg false → slot < 8 →
    let x := getN s.fuse.keySlots slot {}
    if 1 ≤ s.fuse.lifeCycle ∧ s.fuse.lifeCycle ≤ 3 ∧ x.loaded = false ∧ x.revoked = false then
      ∃ u : State, exec (.keyLoad q slot key) s = .next (u.respond 0x0903 q {}) ∧
        u.fuse = { s.fuse with keySlots := updAt s.fuse.keySlots slot (fun y => { y with loaded := true, key := bytesAt key 0 32 }) }
    else exec (.keyLoad q slot key) s = .next (s.respond 0x0903 q (.fail .denied 3))) ∧
  (∀ (q : Req) (target : Nat) (s : State), Allowed q s .cfg false → lcPermits s.fuse.lifeCycle target = true →
    (target = 2 → s.sys.patched = true ∧ s.profile.current.testProt ≠ 0) →
    ∃ u : State, exec (.lcAdvance q target 0x4C435354) s = .next (u.respond 0x0905 q {}) ∧ u.fuse.lifeCycle = target ∧
      (4 ≤ target → (∀ x ∈ u.fuse.keySlots, x.revoked = true) ∧ u.fuse.keyRam = List.replicate 8 none) ∧
      (target = 2 → u.fuse.secureBoot = true ∧ u.fuse.testProt = Nat.lor s.fuse.testProt s.profile.current.testProt ∧ u.fuse.keyHash.isSome = true) ∧
      (target < 4 → u.fuse.keySlots = s.fuse.keySlots)) ∧
  (∀ (q : Req) (target confirm : Nat) (s : State), Allowed q s .cfg false → confirm ≠ 0x4C435354 →
    exec (.lcAdvance q target confirm) s = .next (s.respond 0x0905 q (.fail .denied 4))) ∧
  (∀ (q : Req) (target : Nat) (s : State), Allowed q s .cfg false → lcPermits s.fuse.lifeCycle target = false →
    exec (.lcAdvance q target 0x4C435354) s = .next (s.respond 0x0905 q (.fail .denied 3))) ∧
  (∀ s : State, exec (.testInstruction false) s = .next s) ∧
  (∀ s : State, s.webRunning = true → exec (.testInstruction true) s = .fault (.misuse 584)) ∧
  (∀ s : State, s.webRunning = false →
    if bitAt s.fuse.testProt 0 = true ∧ s.fuse.lifeCycle ≠ 0 ∧ s.fuse.lifeCycle ≠ 1 ∧ s.fuse.lifeCycle ≠ 4 then exec (.testInstruction true) s = .next s
    else if bitAt s.fuse.testProt 1 = true ∧ s.fuse.testOpened = false then
      ∃ t : State, exec (.testInstruction true) s = .next t ∧ t.sys.heldInReset = true ∧ t.sys.inReset = true ∧ t.fuse.testOpened = true ∧
        (∀ x ∈ t.fuse.keySlots, x.revoked = true) ∧ t.fuse.keyRam = List.replicate 8 none ∧ t.fuse.lifeCycle = s.fuse.lifeCycle
    else exec (.testInstruction true) s = .refused .testAccess)

/-- GO with bit 0 on mailbox 0 or 1 sets REQ_BUSY with the version declared then, and DBERR where REQ_BUSY is 1 already; ACK with bit 0 clears RSP_VALID; both do nothing on mailboxes 2 and 3 or with 0 written, and a
reserved bit is misuse. The Keeper takes the request of the mailbox that it serves next: REQ_BUSY of mailboxes 0 and 1 clears and bit 2 or 3 of HIF_IRQ_STATUS is set, a request that a check of R391 fails is answered at once, and any other joins those taken, or is misuse where a reserved flag of it is set;
the request of another mailbox it leaves; a buffer error as it reads the request is HOST_IF's failure, which changes nothing in SAFE_HOLD. The response of mailbox 0 or 1 goes to its buffer while RSP_VALID is 0, sets RSP_VALID, counts in DONE and sets bit 0 or 1 of HIF_IRQ_STATUS; while RSP_VALID is 1, or with nothing
executed, nothing happens; mailbox 2 answers by a datagram where the network is in use and a port's link is up, and mailbox 3 by a message of the pairing link. -/
def Obligations.MailboxesTakeServeAndAnswer : Prop :=
  (∀ (n value : Nat) (s : State), 2 ≤ value → exec (.mailboxGo n value) s = .fault (.misuse 15) ∧ exec (.mailboxAck n value) s = .fault (.misuse 15)) ∧
  (∀ (n value : Nat) (s : State), value < 2 → 2 ≤ n ∨ value = 0 → exec (.mailboxGo n value) s = .next s ∧ exec (.mailboxAck n value) s = .next s) ∧
  (∀ (n : Nat) (s : State), n < 2 →
    exec (.mailboxGo n 1) s = .next (if (s.mailbox n).reqBusy = true then s.updMbx n (fun m => { m with dberr := true })
      else s.updMbx n (fun m => { m with reqBusy := true, goVersion := s.hif.hostVersion })) ∧
    exec (.mailboxAck n 1) s = .next (s.updMbx n (fun m => { m with rspValid := false }))) ∧
  (∀ (n : Nat) (s : State), s.keeperNext ≠ some n → exec (.keeperTakeRequest n) s = .next s) ∧
  (∀ (n : Nat) (s : State), exec (.keeperTakeRequest n true) s = .next s.hostIfFailure ∧ (s.sys.mode = .safeHold → exec (.keeperTakeRequest n true) s = .next s)) ∧
  (∀ (n : Nat) (r : Request) (s : State), s.keeperNext = some n → s.offered n = some r →
    (∀ reply, s.requestCheck n r = some reply →
      exec (.keeperTakeRequest n) s = .next ((s.takeFrom n).respond r.cmd { mbx := n, seq := r.seq, srcAddr := r.srcAddr, srcPort := r.srcPort } reply)) ∧
    (s.requestCheck n r = none → r.reservedSet = true → exec (.keeperTakeRequest n) s = .fault (.misuse 15)) ∧
    (s.requestCheck n r = none → r.reservedSet = false → exec (.keeperTakeRequest n) s = .next ((s.takeFrom n).updMbx n (fun m => { m with taken := m.taken ++ [r] }))) ∧
    (n < 2 → s.hif.mbx.length = 4 → ((s.takeFrom n).mailbox n).reqBusy = false ∧ bitAt (s.takeFrom n).hif.irqStatus (2 + n) = true)) ∧
  (∀ (n : Nat) (r : Response) (rest : List Response) (s : State), n < 2 → (s.mailbox n).executed = r :: rest → (s.mailbox n).discard = 0 → (s.mailbox n).rspValid = false → s.hif.mbx.length = 4 →
    ∃ t : State, exec (.mailboxResponse n) s = .next t ∧ t.mailbox n = { s.mailbox n with executed := rest, rspValid := true, done := satInc (s.mailbox n).done } ∧
      bitAt t.hif.irqStatus n = true ∧ t.hif.buf = memWrite s.hif.buf (0x2000 + 0x2000 * n) r.bytes) ∧
  (∀ (n : Nat) (s : State), n < 2 → (s.mailbox n).rspValid = true → (s.mailbox n).discard = 0 → exec (.mailboxResponse n) s = .next s) ∧
  (∀ (n : Nat) (s : State), (s.mailbox n).executed = [] → exec (.mailboxResponse n) s = .next s) ∧
  (∀ (r : Response) (rest : List Response) (s : State), (s.mailbox 2).executed = r :: rest → (s.mailbox 2).discard = 0 → s.hif.mbx.length = 4 →
    ∃ t : State, exec (.mailboxResponse 2) s = .next t ∧ (t.mailbox 2).executed = rest ∧ 
      t.out = s.out ++ (if s.fault.netUnusable = false ∧ s.net.ports.any (·.link) = true then [.datagram r.srcAddr r.srcPort r.bytes s.ownTag] else [])) ∧
  (∀ (r : Response) (rest : List Response) (s : State), (s.mailbox 3).executed = r :: rest → (s.mailbox 3).discard = 0 → s.hif.mbx.length = 4 →
    ∃ t : State, exec (.mailboxResponse 3) s = .next t ∧ (t.mailbox 3).executed = rest ∧ t.out = s.out ++ [s.vdOut s.vd.seq 0x03 (groupWords 1024 r.bytes)])

/-- With an own address, a datagram from an allowed source is queued where it is new and fewer than 8 wait; with 8 waiting it is answered BUSY 6 at once; one whose SEQ the source's kept response carries takes that response again; from
a source that is not allowed it only counts. A first fragment opens the reassembly where none is open, later ones of the same source extend it, and the last hands the whole datagram over; FRAGMENT_TIMEOUT drops what is incomplete.
Without an own address nothing happens. An answer leaves with the own VLAN tag, where the network is in use and a port's link is up. -/
def Obligations.UdpRequestsAreQueuedOnce : Prop :=
  (∀ (a p : Nat) (data : List Byte) (f l : Bool) (s : State), s.profile.current.f 0x8030 0 0x0C 31 0 0 = 0 → exec (.udpRequest a p data f l) s = .next s) ∧
  (∀ (a p : Nat) (data : List Byte) (f l : Bool) (s : State), s.profile.current.f 0x8030 0 0x0C 31 0 0 ≠ 0 → s.profile.current.allows a = false →
    exec (.udpRequest a p data f l) s = .next { s with net.deniedSrc := satInc s.net.deniedSrc }) ∧
  (∀ (a p : Nat) (data : List Byte) (s : State), s.profile.current.f 0x8030 0 0x0C 31 0 0 ≠ 0 → s.profile.current.allows a = true →
    let r := requestOf data s.hif.hostVersion a p (some (data.length - 16))
    (∀ k, s.hif.udpLast.find? (fun x => x.1 == (a, p) && x.2.seq == r.seq) = some k →
      exec (.udpRequest a p data true true) s = .next (s.sendOwn (.datagram a p k.2.bytes s.ownTag))) ∧
    (s.hif.udpLast.find? (fun x => x.1 == (a, p) && x.2.seq == r.seq) = none →
      s.hif.udpQueue.any (fun q => q.srcAddr == a && q.srcPort == p && q.seq == r.seq) = false →
      (s.mailbox 2).taken.any (fun q => q.srcAddr == a && q.srcPort == p && q.seq == r.seq) = false →
      (s.mailbox 2).executed.any (fun q => q.srcAddr == a && q.srcPort == p && q.seq == r.seq) = false →
      exec (.udpRequest a p data true true) s = .next (if s.hif.udpQueue.length < 8 then { s with hif.udpQueue := s.hif.udpQueue ++ [r] }
        else s.sendOwn (.datagram a p ({ status := 10, cmd := r.cmd, seq := r.seq, detail := 6 : Response }).bytes s.ownTag)))) ∧
  (∀ (o : Out) (s : State), s.fault.netUnusable = false → s.net.ports.any (·.link) = true → (s.sendOwn o).out = s.out ++ [o]) ∧
  (∀ (a p : Nat) (data : List Byte) (s : State), s.profile.current.f 0x8030 0 0x0C 31 0 0 ≠ 0 → s.profile.current.allows a = true → s.hif.fragments = none →
    exec (.udpRequest a p data true false) s = .next { s with hif.fragments := some { srcAddr := a, srcPort := p, data := data } }) ∧
  (∀ (a p : Nat) (data : List Byte) (g : Fragments) (s : State), s.profile.current.f 0x8030 0 0x0C 31 0 0 ≠ 0 → s.profile.current.allows a = true →
    s.hif.fragments = some g → g.srcAddr = a → g.srcPort = p → (g.data ++ data).length ≤ 4096 →
    exec (.udpRequest a p data false false) s = .next { s with hif.fragments := some { g with data := g.data ++ data } } ∧
    exec (.udpRequest a p data false true) s = exec (.udpRequest a p (g.data ++ data) true true) { s with hif.fragments := none }) ∧
  (∀ s : State, exec .fragmentTimeout s = .next { s with hif.fragments := none })

/-- A 1 written to HIF_IRQ_STATUS clears its bit and no other, but a cause that sets its bit in the same cycle leaves it 1; a 1 written to HIF_IRQ_FORCE sets its cause bit, bits 31 to 22 apart. Unmasking a vector clears its mask bit and its pending bit. HIF_WIN_BASE_LO is held until
HIF_WIN_BASE_HI is written, which applies both; HIF_HOST_VERSION keeps the declared version, and SERVED says whether it is served; a reserved bit is misuse. The heartbeat counts up and wraps. The loss of the link changes no other
register; when it is up again, and PERST# is not low, the link is up, and PERST# high lets it train. -/
def Obligations.InterruptsWindowVersionAndLink : Prop :=
  (∀ (v : Word) (i : Nat) (s : State), i < 32 → s.hif.irqStatus < 2 ^ 32 → ∃ t : State, exec (.irqStatusClear v) s = .next t ∧
    bitAt t.hif.irqStatus i = (bitAt s.hif.irqStatus i && !v.getLsbD i) ∧ t.out = s.out) ∧
  (∀ (v same : Word) (s : State), ∃ t : State, exec (.irqStatusClear v same) s = .next t ∧ ∀ i, i < 22 → same.getLsbD i = true → bitAt t.hif.irqStatus i = true) ∧
  (∀ (v : Word) (s : State), ∃ t : State, exec (.irqForce v) s = .next t ∧ (∀ i, i < 22 → v.getLsbD i = true → bitAt t.hif.irqStatus i = true) ∧
    ((∀ i, i < 22 → v.getLsbD i = false) → t = s)) ∧
  (∀ (k : Nat) (s : State), k < 32 → s.hif.msixTable.length = 128 → ∃ t : State, exec (.msixUnmask k) s = .next t ∧ t.hif.vecMasked k = false ∧
    t.hif.irqStatus = s.hif.irqStatus ∧
    (bitAt s.hif.pba k = true → bitAt s.hif.irqStatus k = true → bitAt s.hif.irqMask k = false → s.hif.msixEnable = true → s.hif.linkUp = true → t.out = s.out ++ [.msix k]) ∧
    (bitAt s.hif.pba k = false → t.out = s.out)) ∧
  (∀ (v : Word) (s : State), exec (.winBaseLoWrite v) s = (if v.toNat % 2 ^ 20 = 0 then .next { s with hif.winLoHeld := v.toNat / 2 ^ 20 } else .fault (.misuse 15))) ∧
  (∀ (v : Word) (s : State), exec (.winBaseHiWrite v) s = (if v.toNat < 2 ^ 8 then .next { s with hif.winHi := v.toNat, hif.winLo := s.hif.winLoHeld } else .fault (.misuse 15))) ∧
  (∀ (v : Word) (s : State), v.toNat % 2 ^ 16 / 2 = 0 → ∃ t : State, exec (.hostVersionWrite v) s = .next t ∧ t.hif.hostVersion / 2 ^ 16 = v.toNat / 2 ^ 16 ∧
    t.hif.hostVersion % 2 ^ 16 = (if v.toNat / 2 ^ 24 = 0 ∨ v.toNat / 2 ^ 16 = 0x0100 then 1 else 0)) ∧
  (∀ (v : Word) (s : State), v.toNat % 2 ^ 16 / 2 ≠ 0 → exec (.hostVersionWrite v) s = .fault (.misuse 15)) ∧
  (∀ s : State, exec .heartbeat s = .next { s with hif.heartbeat := (s.hif.heartbeat + 1) % 2 ^ 32 }) ∧
  (∀ s : State, exec .pcieLinkLoss s = .next { s with hif.linkUp := false }) ∧
  (∀ s : State, exec .perstRelease s = .next { s with hif.perst := false }) ∧
  (∀ s : State, ∃ t : State, exec .pcieLinkUp s = .next t ∧ (s.hif.perst = false → t.hif.linkUp = true) ∧ (s.hif.perst = true → t = s) ∧
    t.hif.irqStatus = s.hif.irqStatus)

/-- While a ring is disabled its base registers take what is written, and a size from 6 to 20 that lies in DRAM enables it with PROD 0; while it is enabled a write to them sets CFGERR and changes nothing else of the ring, and SIZE_LOG2 0 disables it. The
record at the head of a ring's writes goes to entry PROD, all 64 bytes of it, PROD advances, and with COUNT entries written the ring's status bit is set. A returned entry reads OWN = 1 and gives up its blocks; the oldest spilled
record moves into a free entry; the moderation timer sets the status bit where entries wait to be announced. HIF_IRQ_MASK, the moderation word and the CFGERR and DBERR bits take writes as R381, R385 and R389 say. -/
def Obligations.RecordRingsAndPlainRegisters : Prop :=
  (∀ (k : Nat) (v : Word) (s : State), k < 8 → (s.ring k).sizeLog2 = 0 →
    (v.toNat % 64 = 0 → exec (.ringConfigWrite k 0x00 v) s = .next (s.updRing k (fun r => { r with baseLo := v.toNat }))) ∧
    (v.toNat < 256 → exec (.ringConfigWrite k 0x04 v) s = .next (s.updRing k (fun r => { r with baseHi := v.toNat }))) ∧
    (6 ≤ v.toNat → v.toNat ≤ 20 → s.ringInDram (s.ring k) v.toNat = true →
      exec (.ringConfigWrite k 0x08 v) s = .next (s.updRing k (fun r => { r with sizeLog2 := v.toNat, prod := 0 })))) ∧
  (∀ (k : Nat) (v : Word) (s : State), k < 8 → (s.ring k).sizeLog2 ≠ 0 →
    (v.toNat % 64 = 0 → exec (.ringConfigWrite k 0x00 v) s = .next (s.updRing k (fun r => { r with cfgErr := true }))) ∧
    (v.toNat < 256 → exec (.ringConfigWrite k 0x04 v) s = .next (s.updRing k (fun r => { r with cfgErr := true }))) ∧
    (v.toNat ≠ 0 → v.toNat < 32 → exec (.ringConfigWrite k 0x08 v) s = .next (s.updRing k (fun r => { r with cfgErr := true }))) ∧
    (s.recs.rings.length = 8 → ∃ t : State, exec (.ringConfigWrite k 0x08 0) s = .next t ∧ (t.ring k).sizeLog2 = 0 ∧ (t.ring k).inflight = [])) ∧
  (∀ (k : Nat) (rec : Rec) (rest : List Rec) (s : State), k < 8 → s.recs.rings.length = 8 → (s.ring k).inflight = rec :: rest → s.mem.wf = true →
    ∃ t : State, exec (.recordWrite k) s = .next t ∧ (t.ring k).inflight = rest ∧ (t.ring k).prod = (s.ring k).ahead 1 ∧
      (∀ i, i < 4 → memByte t.mem ((s.ring k).entry (s.ring k).prod + i) = (leBytes 4 rec.word0).getD i 0) ∧
      (∀ i, i < rec.tailBytes.length → memByte t.mem ((s.ring k).entry (s.ring k).prod + 4 + i) = rec.tailBytes.getD i 0) ∧
      (∀ x, x < (s.ring k).entry (s.ring k).prod ∨ (s.ring k).entry (s.ring k).prod + 4 + rec.tailBytes.length ≤ x → memByte t.mem x = memByte s.mem x) ∧
      (max 1 (s.ring k).count ≤ (s.ring k).announced + 1 → bitAt t.hif.irqStatus (4 + k) = true)) ∧
  (∀ (k i : Nat) (s : State), i < (s.ring k).size → s.mem.wf = true → k < s.recs.rings.length →
    ∃ t : State, exec (.ringEntryReturn k i) s = .next t ∧ (t.ring k).held = eraseN i (s.ring k).held ∧
      (∀ j, j < 4 → memByte t.mem ((s.ring k).entry i + j) = (leBytes 4 0x80000000).getD j 0) ∧
      (∀ x, x < (s.ring k).entry i ∨ (s.ring k).entry i + 4 ≤ x → memByte t.mem x = memByte s.mem x)) ∧
  (∀ (k : Nat) (rec : Rec) (rest : List Rec) (s : State), (s.ring k).spill = rec :: rest → s.entryFree (s.ring k) (s.ring k).inflight.length = true →
    exec (.spillDrain k) s = .next (s.updRing k (fun r => { r with spill := rest, inflight := r.inflight ++ [rec] }))) ∧
  (∀ (k : Nat) (s : State), (s.ring k).timerUs ≠ 0 → (s.ring k).announced ≠ 0 →
    ∃ t : State, exec (.ringTimerExpiry k) s = .next t ∧ bitAt t.hif.irqStatus (4 + k) = true ∧ t.recs = (s.updRing k (fun r => { r with announced := 0, firstAt := none })).recs) ∧
  (∀ (v : Word) (s : State), exec (.registerWrite 0x0044 v) s = .next { s with hif.irqMask := v.toNat }) ∧
  (∀ (k : Nat) (v : Word) (s : State), k < 8 →
    exec (.registerWrite (0x200 + 0x40 * k + 0x10) v) s = .next (s.updRing k (fun r => { r with timerUs := v.toNat / 65536, count := v.toNat % 65536 })) ∧
    exec (.registerWrite (0x200 + 0x40 * k + 0x1C) 1) s = .next (s.updRing k (fun r => { r with cfgErr := false }))) ∧
  (∀ (n : Nat) (s : State), n < 4 → exec (.registerWrite (0x800 + 0x20 * n + 4) 4) s = .next (s.updMbx n (fun m => { m with dberr := false }))) ∧
  (∀ (n o : Nat) (v : Word) (s : State), n < 2 → o < 0x1000 → o % 4 = 0 → (s.mailbox n).reqBusy = false →
    exec (.registerWrite (0x1000 + 0x2000 * n + o) v) s = .next { s with hif.buf := memWrite s.hif.buf (0x1000 + 0x2000 * n + o) (leBytes 4 v.toNat) })

/-- START on an enabled idle channel whose ring lies where it may reads descriptor HEAD: one that the device owns and that breaks no rule runs, one that breaks a rule or sets a reserved field is misuse, and one that the host owns leaves the channel idle with START cleared; while the channel is not idle or PAUSE
is 1, START stays pending. PAUSE drains a running channel, and with every burst acknowledged the channel is paused at a whole number of 256 B and its status bit set; cleared, a paused channel goes on with its descriptor. ABORT only clears START of an idle channel and of one between two descriptors,
drains a running one, and ends a paused one at once: the channel is idle and its status bit set. A descriptor that ends while the channel drains is written back with its result, is counted, and HEAD moves on. FLR and PERST# return the items of R380 to their reset
values, and every idle channel to its own. -/
def Obligations.HostChannelsRunPauseAndAbort : Prop :=
  (∀ (c : Nat) (s : State), 8 ≤ c → c ≤ 15 → s.dma.chan.length = 8 → (s.dmaChan c).sizeLog2 ≠ 0 →
    ((s.dmaChan c).run = .idle ∧ (s.dmaChan c).pause = false →
      (s.dmaRingOk (s.dmaChan c) = false → exec (.dmaStart c) s = .fault (.misuse 488)) ∧
      (s.dmaRingOk (s.dmaChan c) = true → bitAt (wordAt (s.read (s.dmaChan c).addr 32) 0) 31 = false →
        ∃ t : State, exec (.dmaStart c) s = .next t ∧ (t.dmaChan c).run = .idle ∧ (t.dmaChan c).start = false ∧ (t.dmaChan c).head = (s.dmaChan c).head) ∧
      (s.dmaRingOk (s.dmaChan c) = true → bitAt (wordAt (s.read (s.dmaChan c).addr 32) 0) 31 = true →
        dmaReserved (s.read (s.dmaChan c).addr 32) = false → s.dmaMisuse (dmaDescOf (s.read (s.dmaChan c).addr 32)) = none →
        ∃ t : State, exec (.dmaStart c) s = .next t ∧ (t.dmaChan c).run = .running ∧ (t.dmaChan c).cur = some (dmaDescOf (s.read (s.dmaChan c).addr 32)) ∧
          (t.dmaChan c).done = 0) ∧
      (s.dmaRingOk (s.dmaChan c) = true → bitAt (wordAt (s.read (s.dmaChan c).addr 32) 0) 31 = true →
        (dmaReserved (s.read (s.dmaChan c).addr 32) = true → exec (.dmaStart c) s = .fault (.misuse 15)) ∧
        (∀ r, dmaReserved (s.read (s.dmaChan c).addr 32) = false → s.dmaMisuse (dmaDescOf (s.read (s.dmaChan c).addr 32)) = some r →
          exec (.dmaStart c) s = .fault (.misuse r)))) ∧
    ((s.dmaChan c).run ≠ .idle ∨ (s.dmaChan c).pause = true → exec (.dmaStart c) s = .next (s.updDma c (fun k => { k with start := true })))) ∧
  (∀ (c : Nat) (s : State), 8 ≤ c → c ≤ 15 → s.dma.chan.length = 8 →
    (∃ t : State, exec (.dmaPause c true) s = .next t ∧ (t.dmaChan c).pause = true ∧
      (t.dmaChan c).run = (if (s.dmaChan c).run = .running then .draining else (s.dmaChan c).run)) ∧
    ((s.dmaChan c).run = .paused → (s.dmaChan c).standbyPaused = false → (s.dmaChan c).cur.isSome = true →
      ∃ t : State, exec (.dmaPause c false) s = .next t ∧ (t.dmaChan c).pause = false ∧ (t.dmaChan c).run = .running ∧ (t.dmaChan c).done = (s.dmaChan c).done)) ∧
  (∀ (c : Nat) (s : State), 8 ≤ c → c ≤ 15 → s.dma.chan.length = 8 →
    ((s.dmaChan c).run = .idle ∨ (s.dmaChan c).cur = none ∧ (s.dmaChan c).run ≠ .paused → exec (.dmaAbort c) s = .next (s.updDma c (fun k => { k with start := false }))) ∧
    ((s.dmaChan c).run = .running ∨ (s.dmaChan c).run = .draining → (s.dmaChan c).cur ≠ none →
      exec (.dmaAbort c) s = .next (s.updDma c (fun k => { k with abort := true, run := .draining }))) ∧
    ((s.dmaChan c).run = .paused → (s.dmaChan c).resetDue = false →
      ∃ t : State, exec (.dmaAbort c) s = .next t ∧ (t.dmaChan c).run = .idle ∧ bitAt t.hif.irqStatus (12 + (c - 8)) = true ∧
        (t.dmaChan c).head = (if (s.dmaChan c).cur.isSome = true then (s.dmaChan c).nextHead else (s.dmaChan c).head))) ∧
  (∀ (c done : Nat) (s : State), 8 ≤ c → c ≤ 15 → s.dma.chan.length = 8 → (s.dmaChan c).run = .draining → (s.dmaChan c).abort = false →
    ∃ t : State, exec (.dmaDrainDone c done) s = .next t ∧ (t.dmaChan c).run = .paused ∧ bitAt t.hif.irqStatus (12 + (c - 8)) = true ∧
      ∀ d, (s.dmaChan c).cur = some d → (t.dmaChan c).cur = some d ∧ (t.dmaChan c).done = max (s.dmaChan c).done (min done d.len / 256 * 256)) ∧
  (∀ (c : Nat) (corrected : List Nat) (d : DmaDesc) (s : State), 8 ≤ c → c ≤ 15 → s.dma.chan.length = 8 → s.mem.wf = true → (s.dmaChan c).run = .draining → (s.dmaChan c).abort = false →
    (s.dmaChan c).cur = some d →
    ∃ t : State, exec (.dmaDescriptorDone c none corrected) s = .next t ∧ (t.dmaChan c).run = .paused ∧ bitAt t.hif.irqStatus (12 + (c - 8)) = true ∧
      (t.dmaChan c).head = (s.dmaChan c).nextHead ∧ (t.dmaChan c).completed = satInc (s.dmaChan c).completed ∧
      (d.op ≤ 1 → ∀ i, i < 4 → memByte t.mem ((s.dmaChan c).addr + 0x1C + i) = (leBytes 4 d.len).getD i 0)) ∧
  (∀ (c : Nat) (ecc : Option Nat) (corrected : List Nat) (d : DmaDesc) (s : State), 8 ≤ c → c ≤ 15 → s.dma.chan.length = 8 → (s.dmaChan c).run = .running → (s.dmaChan c).cur = some d →
    let e := (corrected.foldl State.readCorr s).dmaEnd c d ecc
    (ecc = none ∨ e.sys = s.sys ∧ s.sys.failed = false) → e.dmaRingOk (e.dmaChan c) = true → bitAt (wordAt (e.read (e.dmaChan c).addr 32) 0) 31 = false →
    ∃ t : State, exec (.dmaDescriptorDone c ecc corrected) s = .next t ∧ (t.dmaChan c).run = .idle ∧ (t.dmaChan c).cur = none ∧ t.mem = e.mem) ∧
  (∀ (c : Instr) (s : State), s.dma.chan.length = 8 → (c = .pcieFlr ∨ c = .perstAssert) →
    ∃ t : State, exec c s = .next t ∧ t.hif.irqMask = 0xFFFFFFFF ∧ t.hif.winLo = 0 ∧ t.hif.winHi = 0x10 ∧ t.hif.hostVersion = 1 ∧ t.hif.msixEnable = false ∧
      (∀ m, m < 2 → (t.mailbox m).reqBusy = false ∧ (t.mailbox m).rspValid = false) ∧
      (∀ k, 8 ≤ k → k ≤ 15 → (s.dmaChan k).run = .idle → t.dmaChan k = { eccCount := (s.dmaChan k).eccCount }) ∧
      (c = .perstAssert → t.hif.perst = true ∧ t.hif.linkUp = false))

/-- A write to BASE_LO (offset 0) or to BASE_HI and SIZE_LOG2 (offset 4) of a host channel, of a value whose reserved bits are 0 and whose size is one that the register may hold, takes effect while the channel is idle and
resets HEAD to 0. While it is not idle the write is ignored and sets CFGERR: nothing else of the channel changes. In both cases the other channels, and all the rest of the state, are as they were. -/
def Obligations.ChannelRingRegistersWriteOnlyWhileIdle : Prop :=
  ∀ (c offset : Nat) (v : Word) (s : State), 8 ≤ c → c ≤ 15 → s.dma.chan.length = 8 →
    (offset = 0 ∧ v.toNat % 32 = 0 ∨
      offset = 4 ∧ v.toNat / 2 ^ 21 = 0 ∧ v.toNat / 2 ^ 8 % 2 ^ 8 = 0 ∧ (v.toNat / 2 ^ 16 = 0 ∨ 4 ≤ v.toNat / 2 ^ 16 ∧ v.toNat / 2 ^ 16 ≤ 16)) →
    ∃ t : State, exec (.dmaConfigWrite c offset v) s = .next t ∧
      ((s.dmaChan c).run = .idle →
        t.dmaChan c = (if offset = 0 then { s.dmaChan c with baseLo := v.toNat, head := 0 }
          else { s.dmaChan c with baseHi := v.toNat % 2 ^ 8, sizeLog2 := v.toNat / 2 ^ 16, head := 0 })) ∧
      ((s.dmaChan c).run ≠ .idle → t.dmaChan c = { s.dmaChan c with cfgErr := true }) ∧
      (∀ k, 8 ≤ k → k ≠ c → t.dmaChan k = s.dmaChan k) ∧ t = { s with dma := t.dma }

/-- With the link up, a BAR2 access of 1 to 512 bytes inside the window: a read of a range that the host may see returns its bytes and changes no memory; a write to a range that it may write, and that breaks no rule (it touches no entry and no descriptor of the device),
stores exactly those bytes. A range outside the map, one that the mode hides, and an entry or descriptor that the device owns are misuse; a parity error is HOST_IF's failure, which changes nothing in SAFE_HOLD. Without the link or outside the window nothing happens. The handover of an item entry sets its OWN bit and
changes no other byte of it; of an entry that the device owns already it is misuse. -/
def Obligations.HostAccessesReadAndWriteTheWindow : Prop :=
  (∀ (offset len : Nat) (data : List Byte) (s : State), s.hif.linkUp = true → 1 ≤ len → len ≤ 512 → offset + len ≤ 2 ^ 30 →
    (s.rangeOf (s.hif.winBase + offset) len).isSome = true →
    s.hostVisible (s.hif.winBase + offset) len false = true →
    ∃ t : State, exec (.bar2Access false offset len data) s = .next t ∧ t.out = s.out ++ [.hostRead (s.seen (s.hif.winBase + offset) len)] ∧ t.mem = s.mem) ∧
  (∀ (offset len : Nat) (data : List Byte) (s : State), s.hif.linkUp = true → 1 ≤ data.length → data.length ≤ 512 → offset + data.length ≤ 2 ^ 30 → s.mem.wf = true →
    (s.rangeOf (s.hif.winBase + offset) data.length).isSome = true →
    s.hostVisible (s.hif.winBase + offset) data.length true = true →
    s.writeMisuse (s.hif.winBase + offset) data = none →
    (data.length = 4 → bitAt (ofLe data) 31 = false) →
    ∃ t : State, exec (.bar2Access true offset len data) s = .next t ∧ t.recs = s.recs ∧ t.out = s.out ∧
      (∀ i, i < data.length → memByte t.mem (s.hif.winBase + offset + i) = data.getD i 0) ∧
      (∀ x, x < s.hif.winBase + offset ∨ s.hif.winBase + offset + data.length ≤ x →
        memByte t.mem x = memByte s.mem x)) ∧
  (∀ (w : Bool) (offset len : Nat) (data : List Byte) (s : State), s.hif.linkUp = true → 1 ≤ (if w = true then data.length else len) →
    (if w = true then data.length else len) ≤ 512 → offset + (if w = true then data.length else len) ≤ 2 ^ 30 →
    let a := s.hif.winBase + offset
    let n := if w = true then data.length else len
    (s.rangeOf a n = none → exec (.bar2Access w offset len data) s = .fault (.misuse 32)) ∧
    ((s.rangeOf a n).isSome = true → s.hostVisible a n w = false → exec (.bar2Access w offset len data) s = .fault (.misuse 486)) ∧
    ((s.rangeOf a n).isSome = true → s.hostVisible a n w = true → w = true → 
      (s.dmaHeld a n = true → exec (.bar2Access w offset len data) s = .fault (.misuse 488)) ∧
      (∀ r, s.dmaHeld a n = false → s.handsOver a data = false → s.ownedMisuse a n = some r → exec (.bar2Access w offset len data) s = .fault (.misuse r)))) ∧
  (∀ (w : Bool) (offset len : Nat) (data : List Byte) (s : State), s.hif.linkUp = true →
    exec (.bar2Access w offset len data true) s = .next s.hostIfFailure ∧ (s.sys.mode = .safeHold → exec (.bar2Access w offset len data true) s = .next s)) ∧
  (∀ (w : Bool) (offset len : Nat) (data : List Byte) (s : State), s.hif.linkUp = false → exec (.bar2Access w offset len data) s = .next s) ∧
  (∀ (lead index : Nat) (s : State), index < (s.queueOf lead).size → s.mem.wf = true →
    (s.entryOwned (s.queueOf lead) index = true → exec (.itemEntryHandover lead index) s = .fault (.misuse 342)) ∧
    (s.entryOwned (s.queueOf lead) index = false →
      ∃ t : State, exec (.itemEntryHandover lead index) s = .next t ∧
        (∀ i, i < 4 → memByte t.mem ((s.queueOf lead).addr index + i) =
          (leBytes 4 (setBit (memWord s.mem ((s.queueOf lead).addr index) % 2 ^ 32) 31)).getD i 0) ∧
        (∀ x, x < (s.queueOf lead).addr index ∨ (s.queueOf lead).addr index + 4 ≤ x → memByte t.mem x = memByte s.mem x)))

/-- DECK_LOAD into a slot that may take it, from DRAM: a container that passes its checks is held there under a new generation and answered with its handle, number and revision; one that fails leaves the slot empty and answers its
failure. DECK_STAGE of a loaded deck that nothing refuses gives it the STAGED role and binds its reference object; DECK_UNSTAGE takes the role away; DECK_ACTIVATE outside the web modes makes the staged deck ACTIVE under the next epoch. DECK_ARM_SWAP that nothing refuses arms
a swap to the staged deck at its web location with every station waiting; DECK_CANCEL_SWAP withdraws it. DECK_DELETE empties a slot that holds no role; PROFILE_LOAD of a container that passes waits to take effect. A container outside DRAM is misuse, and so are a container that passes its checks
with a reserved header field set, and a deck or a profile that breaks a rule of its fields. -/
def Obligations.DecksAreLoadedStagedAndSwapped : Prop :=
  (∀ (q : Req) (addr len slot k : Nat) (s : State), Allowed q s .op false → s.loadSlot slot = .ok k → s.deck.slots.length = 16 → k < 16 →
    (s.containerInDram addr len = false → exec (.deckLoad q addr len slot) s = .fault (.misuse 32)) ∧
    (∀ e, s.containerInDram addr len = true → (parseContainer false (memRead s.mem addr (min len (2 ^ 24)))).1 = some e →
      ∃ u : State, exec (.deckLoad q addr len slot) s = .next (u.respond 0x0100 q { status := e.1, detail := e.2 }) ∧ u.slotDeck k = none) ∧
    (s.containerInDram addr len = true → (parseContainer false (memRead s.mem addr (min len (2 ^ 24)))).1 = none → s.headerReserved addr = true →
      exec (.deckLoad q addr len slot) s = .fault (.misuse 15)) ∧
    (s.containerInDram addr len = true → (parseContainer false (memRead s.mem addr (min len (2 ^ 24)))).1 = none → s.headerReserved addr = false →
      let d := (parseContainer false (memRead s.mem addr (min len (2 ^ 24)))).2
      ∃ u : State, exec (.deckLoad q addr len slot) s = .next (u.respond 0x0100 q (.ok (wordsBytes [u.handle k, d.deckId, d.deckRev]))) ∧ u.slotDeck k = some d ∧
        (getN u.deck.slots k {}).gen = nextGen (getN s.deck.slots k {}).gen)) ∧
  (∀ (q : Req) (addr len slot : Nat) (r : Reply) (s : State), Allowed q s .op false → s.loadSlot slot = .error r →
    exec (.deckLoad q addr len slot) s = .next (s.respond 0x0100 q r)) ∧
  (∀ (q : Req) (handle k : Nat) (copies : List (Nat × Bool)) (s : State), Allowed q s .op false → s.slotOf handle = some k → s.deck.swap = none →
    s.oldHalfBusy = false → s.stageCheckNow ((s.slotDeck k).getD {}) = none →
    (s.stageMisuse ((s.slotDeck k).getD {}) = none →
      ∃ u : State, exec (.deckStage q handle copies) s = .next (u.respond 0x0101 q {}) ∧
        u.deck = { s.deck with staged := some k, refStaged := s.boundSlot ((s.slotDeck k).getD {}) } ∧ u.cal.stagedSet = s.cal.table) ∧
    (∀ r, s.stageMisuse ((s.slotDeck k).getD {}) = some r → exec (.deckStage q handle copies) s = .fault (.misuse r))) ∧
  (∀ (q : Req) (s : State), Allowed q s .op false → s.deck.swap = none → s.deck.staged.isSome = true →
    exec (.deckUnstage q) s = .next (({ s with deck := { s.deck with staged := none, refStaged := none } } : State).respond 0x0102 q {})) ∧
  (∀ (q : Req) (k : Nat) (s : State), Allowed q s .nw false → s.deck.staged = some k →
    ∃ u : State, exec (.deckActivate q) s = .next (u.respond 0x0105 q (.ok (leBytes 4 (nextEpoch s.deck.epoch)))) ∧ u.deck.active = some k ∧ u.deck.staged = none ∧ u.deck.refActive = s.deck.refStaged ∧
      u.deck.epoch = nextEpoch s.deck.epoch ∧ u.deck.prevEpoch = s.deck.epoch ∧ u.cal.inUse = s.cal.stagedSet ∧ u.mem = s.mem) ∧
  (∀ (q : Req) (ws : Int) (s : State), Allowed q s .web false → s.leads = false → s.follows = false → s.armRefuse ws false = none →
    ∃ u : State, exec (.deckArmSwap q ws) s = .next (u.respond 0x0103 q (s.armSwap ws false).2) ∧ ∃ w : Swap,
      u.deck = { s.deck with swap := some w } ∧ w.ws = s.armWs ws ∧ w.switchLine = s.switchWln (s.armWs ws) ∧ some w.slot = s.deck.staged ∧ w.begun = false ∧
      w.cameraDone = false ∧ w.waiting = s.swapStations s.camDeck (s.stagedDeck.getD {})) ∧
  (∀ (q : Req) (ws : Int) (s : State), Allowed q s .web false → s.leads = true → s.armRefuse ws true = none → s.follows = false →
    exec (.deckArmSwap q ws) s = .next (s.askPeer 0x0103 ((s.stagedDeck.getD {}).deckId) (leBytes 8 (truncN 64 (wpos48 (s.armWs ws)))) (some (q, s.armWs ws)))) ∧
  (∀ (q : Req) (s : State), Allowed q s .web false → s.followRefuse q = none → s.cancelRefuse = none →
    ∃ u : State, exec (.deckCancelSwap q) s = .next (u.respond 0x0104 q {}) ∧ u.deck = { s.deck with swap := none, stationEpoch := [] }) ∧
  (∀ (q : Req) (handle k : Nat) (s : State), Allowed q s .op false → s.slotOf handle = some k → s.slotHeld k = false →
    exec (.deckDelete q handle) s = .next ((s.updSlot k (fun o => { o with deck := none })).respond 0x0107 q {})) ∧
  (∀ (q : Req) (handle k : Nat) (s : State), Allowed q s .op false → s.slotOf handle = some k → s.slotHeld k = true →
    exec (.deckDelete q handle) s = .next (s.respond 0x0107 q (.fail .busy 8))) ∧
  (∀ (q : Req) (addr len : Nat) (s : State), Allowed q s .cfg false →
    (s.containerInDram addr len = false → exec (.profileLoad q addr len) s = .fault (.misuse 32)) ∧
    (s.containerInDram addr len = true →
      let r := parseContainer true (memRead s.mem addr (min len (2 ^ 24)))
      (∀ e, r.1 = some e → exec (.profileLoad q addr len) s = .next (s.respond 0x0108 q { status := e.1, detail := e.2 })) ∧
      (r.1 = none → ∀ x, s.profileRefuse r.2 = some x → exec (.profileLoad q addr len) s = .next (s.respond 0x0108 q x)) ∧
      (r.1 = none → s.profileRefuse r.2 = none → s.headerReserved addr = true → exec (.profileLoad q addr len) s = .fault (.misuse 15)) ∧
      (∀ m, r.1 = none → s.profileRefuse r.2 = none → s.headerReserved addr = false → r.2.profileMisuse = some m → exec (.profileLoad q addr len) s = .fault (.misuse m)) ∧
      (r.1 = none → s.profileRefuse r.2 = none → s.headerReserved addr = false → r.2.profileMisuse = none → ∃ u : State, exec (.profileLoad q addr len) s = .next (u.respond 0x0108 q {}) ∧ u.profile.loaded = some r.2 ∧
        u.profile.current = s.profile.current)))

/-- REF_ALLOC with a free slot and room in the reference region gives the lowest free slot a new generation, ALLOCATED with that address and length, and answers its handle and address. REF_COMMIT of an ALLOCATED or FAILED slot makes it CHECKING
and is ACCEPTED; CHECKING, LEARNING and READY slots refuse it. REF_COMMIT_DONE ends the pass: an object that passes makes the slot READY with its header's fields, one that fails a check makes it FAILED, and one that breaks a rule of R203 or sets a reserved field is misuse. REF_DELETE frees a slot that is neither CHECKING nor LEARNING nor bound, and keeps its
generation. REF_LEARN of 256 to 1,048,576 lines that has a slot and a buffer is ACCEPTED (of another number it is misuse) with the handle of a LEARNING slot. REF_LEARN_ABORT ends learning and frees that slot. REF_LEARN_DONE, once the last repeat is complete and the region has room, makes the slot READY with the
learned object, which it writes; while repeats still come, it does nothing. -/
def Obligations.ReferencesAreCommittedAndLearned : Prop :=
  (∀ (q : Req) (len k a : Nat) (s : State), Allowed q s .op false → s.reg.slots.length = 8 → s.freeRef = some k → s.allocBlock 2 s.refUsed len = some a →
    ∃ u : State, exec (.refAlloc q len) s = .next (u.respond 0x0200 q (.ok (wordsBytes ([u.refHandle k, 0] ++ lohi a)))) ∧
      u.refSlot k = { gen := nextGen (s.refSlot k).gen, st := .allocated, addr := a, len := len } ∧ u.mem = s.mem ∧ ∀ j, j ≠ k → u.refSlot j = s.refSlot j) ∧
  (∀ (q : Req) (len : Nat) (s : State), Allowed q s .op false → s.freeRef = none → exec (.refAlloc q len) s = .next (s.respond 0x0200 q (resource 0x09 8))) ∧
  (∀ (q : Req) (handle k : Nat) (s : State), Allowed q s .op false → s.refOf handle = some k →
    ((s.refSlot k).st = .allocated ∨ (s.refSlot k).st = .failed → s.isRunning 0x0201 = false → s.reg.slots.length = 8 →
      ∃ u : State, exec (.refCommit q handle) s = .next (u.respond 0x0201 q .accepted) ∧ u.refSlot k = { s.refSlot k with st := .checking } ∧ u.isRunning 0x0201 = true) ∧
    ((s.refSlot k).st = .checking → exec (.refCommit q handle) s = .next (s.respond 0x0201 q (.fail .busy 5))) ∧
    ((s.refSlot k).st = .learning → exec (.refCommit q handle) s = .next (s.respond 0x0201 q (.fail .busy 8))) ∧
    ((s.refSlot k).st = .ready → exec (.refCommit q handle) s = .next (s.respond 0x0201 q (badState s 0x0A)))) ∧
  (∀ (r : Running) (k : Nat) (s : State), s.runningCmd 0x0201 = some r → r.args = [k] → k < s.reg.slots.length →
    let obj := s.read (s.refSlot k).addr (s.refSlot k).len
    (checkObject obj (s.refSlot k).len = none → objectMisuse obj = none →
      ∃ t : State, exec .refCommitDone s = .next t ∧ t.refSlot k = (s.refSlot k).loaded obj ∧ (t.refSlot k).st = .ready) ∧
    (∀ m, checkObject obj (s.refSlot k).len = none → objectMisuse obj = some m → exec .refCommitDone s = .fault (.misuse m)) ∧
    (∀ st det, checkObject obj (s.refSlot k).len = some (st, det) →
      ∃ t : State, exec .refCommitDone s = .next t ∧ t.refSlot k = { s.refSlot k with st := .failed })) ∧
  (∀ (q : Req) (handle k : Nat) (s : State), Allowed q s .op false → s.refOf handle = some k → s.reg.slots.length = 8 → k < 8 →
    ((s.refSlot k).st ≠ .checking → (s.refSlot k).st ≠ .learning → s.deck.refActive ≠ some k → s.deck.refStaged ≠ some k →
      ∃ u : State, exec (.refDelete q handle) s = .next (u.respond 0x0202 q {}) ∧ u.refSlot k = { gen := (s.refSlot k).gen }) ∧
    ((s.refSlot k).st = .learning ∨ s.deck.refActive = some k ∨ s.deck.refStaged = some k → (s.refSlot k).st ≠ .checking →
      exec (.refDelete q handle) s = .next (s.respond 0x0202 q (.fail .busy 8)))) ∧
  (∀ (q : Req) (refId refRev lines k : Nat) (s : State), Allowed q s .lm false → s.isRunning 0x0204 = false → s.freeRef = some k → k < s.reg.slots.length → 256 ≤ lines → lines ≤ 1048576 →
    Learn.taken { slot := 0, refId := 0, refRev := 0, lines := lines, width := (s.activeDeck.getD {}).width, nrep := 1, epoch := 0 } < s.ringData false →
    ∃ (u : State) (l : Learn), exec (.refLearn q refId refRev lines) s = .next (u.respond 0x0204 q { status := 1, payload := leBytes 4 (u.refHandle k) }) ∧
      u.refSlot k = { gen := nextGen (s.refSlot k).gen, st := .learning, refId := refId, refRev := refRev } ∧ u.reg.learn = some l ∧ l.lines = lines ∧ l.slot = k ∧
      l.nrep = (s.activeDeck.getD {}).nrep ∧ u.isRunning 0x0204 = true) ∧
  (∀ (q : Req) (refId refRev lines k : Nat) (s : State), Allowed q s .lm false → s.isRunning 0x0204 = false → s.freeRef = some k → lines < 256 ∨ 1048576 < lines →
    Learn.taken { slot := 0, refId := 0, refRev := 0, lines := lines, width := (s.activeDeck.getD {}).width, nrep := 1, epoch := 0 } < s.ringData false →
    exec (.refLearn q refId refRev lines) s = .fault (.misuse 203)) ∧
  (∀ (q : Req) (l : Learn) (s : State), Allowed q s .lm false → s.reg.learn = some l → l.slot < s.reg.slots.length →
    ∃ u : State, exec (.refLearnAbort q) s = .next (u.respond 0x0205 q {}) ∧ u.reg.learn = none ∧ u.refSlot l.slot = { gen := (s.refSlot l.slot).gen } ∧ u.isRunning 0x0204 = false) ∧
  (∀ (q : Req) (s : State), Allowed q s .lm false → s.reg.learn = none → exec (.refLearnAbort q) s = .next (s.respond 0x0205 q (.fail .notFound 0))) ∧
  (∀ (l : Learn) (a : Nat) (s : State), s.reg.learn = some l → l.encoding = true → l.slot < s.reg.slots.length →
    s.allocBlock 2 s.refUsed (s.learnedObject (s.deckOf l.epoch) l).length = some a →
    ∃ t : State, exec .refLearnDone s = .next t ∧ t.reg.learn = none ∧ (t.refSlot l.slot).st = .ready ∧ (t.refSlot l.slot).addr = a ∧
      (t.refSlot l.slot).gen = (s.refSlot l.slot).gen) ∧
  (∀ (l : Learn) (s : State), s.reg.learn = some l → l.encoding = false → exec .refLearnDone s = .next s)

/-- EXPOSURE_SET that nothing refuses: IMMEDIATE stores the trigger width for the next line; otherwise, where no change waits for the boundary that it reaches, a host change with the selected fields joins that boundary; both answer the line. TDAC_SET takes effect at once
outside the web modes and waits for the next line trigger within them. CAL_FLAT is ACCEPTED, starts a phase on its ports and discards the next full strip; CAL_PHASE_DONE ends it once it has ended on every port, keeping the table of a port that it does not name or that failed, and every table after DARK; it does nothing before. CAL_TABLE_READ is ACCEPTED for a port that a camera uses and a destination that the host may write (another is misuse);
CAL_TABLE_READ_DONE writes the table. SENSOR_XFER of a camera that PORTS enables answers a read's value cut to its width, sends a write cut to its widths to the camera's target, and answers NOT_FOUND 0x04 where the camera does not acknowledge. LOOP_RESULT_READY runs a loop that is due on current statistics, and else does nothing. -/
def Obligations.ExposureAndCalibrationRun : Prop :=
  (∀ (q : Req) (e : ExposureReq) (s : State), Allowed q s .webCal false → exposureRefuse e s = none → e.camera < s.intake.cam.length → e.immediate = true →
    ∃ u : State, exec (.exposureSet q e) s = .next (u.respond 0x0300 q (.ok (leBytes 8 (s.numberOf s.intake.ser)))) ∧ (u.cam e.camera).immediate = some e.exposureNs ∧
      (u.cam e.camera).changes = (s.cam e.camera).changes) ∧
  (∀ (q : Req) (e : ExposureReq) (n : Nat) (s : State), Allowed q s .webCal false → exposureRefuse e s = none → e.camera < s.intake.cam.length → e.immediate = false →
    n = s.reachable (bitAt e.mask 3) (s.camDeck.latch e.camera) (s.camDeck.nreg e.camera) → (s.cam e.camera).changes.find? (fun ch => ch.target == n) = none →
    ∃ (u : State) (ch : Change), exec (.exposureSet q e) s = .next (u.respond 0x0300 q (.ok (leBytes 8 (s.numberOf n)))) ∧ ch ∈ (u.cam e.camera).changes ∧
      ch.target = n ∧ ch.source = .host ∧ ch.edit = exposureEdit e s.camDeck) ∧
  (∀ (q : Req) (e : ExposureReq) (r : Reply) (s : State), Allowed q s .webCal false → exposureRefuse e s = some r → exec (.exposureSet q e) s = .next (s.respond 0x0300 q r)) ∧
  (∀ (q : Req) (t code : Nat) (s : State), Allowed q s .ops false → tdacRefuse t s = none → t < s.cal.code.length →
    ∃ u : State, exec (.tdacSet q t code) s = .next (u.respond 0x0301 q (.ok [])) ∧
      (s.webRunning = true → u.cal.codeNext = insertN t code s.cal.codeNext ∧ u.cal.code = s.cal.code) ∧
      (s.webRunning = false → getN u.cal.code t 0 = code ∧ ∀ j, j ≠ t → getN u.cal.code j 0 = getN s.cal.code j 0)) ∧
  (∀ (q : Req) (white : Bool) (ports : Nat) (s : State), Allowed q s .cal false → calFlatRefuse white ports s = none →
    ∃ u : State, exec (.calFlat q white ports) s = .next (u.respond 0x0302 q .accepted) ∧
      u.cal.phase = some { white := white, ports := ports, skipStrip := some s.intake.nextStrip } ∧ u.isRunning 0x0302 = true ∧ u.cal.table = s.cal.table) ∧
  (∀ (ph : CalPhase) (s : State), s.cal.phase = some ph →
    ((bitsSet 24 ph.ports).all (fun p => ph.ended s.camDeck.ffLines p) = true →
      ∃ t : State, exec .calPhaseDone s = .next t ∧ t.cal.phase = none ∧ t.isRunning 0x0302 = false ∧
        ∀ p, bitAt ph.ports p = false ∨ bitAt ph.failed p = true ∨ ph.white = false → getN t.cal.table p [] = getN s.cal.table p []) ∧
    ((bitsSet 24 ph.ports).all (fun p => ph.ended s.camDeck.ffLines p) = false → exec .calPhaseDone s = .next s)) ∧
  (∀ (q : Req) (dest port : Nat) (x : Nat × Nat) (s : State), Allowed q s .op false → s.profile.current.portCam port = some x → s.isRunning 0x0304 = false →
    s.destMisuse dest 262144 = none →
    ∃ u : State, exec (.calTableRead q dest port) s = .next (u.respond 0x0304 q .accepted) ∧ u.cal.reading = some (dest, port) ∧ u.isRunning 0x0304 = true ∧ u.mem = s.mem) ∧
  (∀ (q : Req) (dest port m : Nat) (x : Nat × Nat) (s : State), Allowed q s .op false → s.profile.current.portCam port = some x → s.isRunning 0x0304 = false →
    s.destMisuse dest 262144 = some m → exec (.calTableRead q dest port) s = .fault (.misuse m)) ∧
  (∀ (dest port : Nat) (s : State), s.cal.reading = some (dest, port) →
    ∃ t : State, exec .calTableReadDone s = .next t ∧ t.mem = memWrite s.mem dest (tableBytes (getN s.cal.table port [])) ∧ t.cal.reading = none ∧ t.isRunning 0x0304 = false) ∧
  (∀ (q : Req) (camera aw dw addr value v : Nat) (s : State), Allowed q s .cfgDiag false → s.profile.current.portsEn camera = true →
    exec (.sensorXfer q camera false aw dw addr value (some v)) s = .next (s.respond 0x0305 q (.ok (leBytes 4 (v % 2 ^ (8 * 2 ^ dw))))) ∧
    (∃ u : State, exec (.sensorXfer q camera true aw dw addr value (some v)) s = .next (u.respond 0x0305 q (.ok (leBytes 4 (Config.freeNat s.free)))) ∧
      u.out = s.out ++ [.sensorWrite camera false [(addr % 2 ^ (8 * 2 ^ aw), value % 2 ^ (8 * 2 ^ dw))] (s.profile.current.sensorTarget camera)]) ∧
    exec (.sensorXfer q camera false aw dw addr value none) s = .next (s.respond 0x0305 q (.fail .notFound 4))) ∧
  (∀ (st : StripStats) (s : State), s.stats.latest = some st →
    (s.stats.loopDue = true → s.webRunning = true → st.cams.all (fun e => !e.mixed && e.gen == (s.cam e.cam).gen) = true →
      ∃ t : State, exec .loopResultReady s = .next t ∧ t.stats = { s.stats with loopDue := false } ∧ t.mem = s.mem) ∧
    (s.stats.loopDue = false ∨ s.webRunning = false → exec .loopResultReady s = .next s))

/-- PRINT_QUEUE_SET that nothing refuses gives a lead a fresh queue of that base and size; a size outside 6 to 16 and a queue outside DRAM are misuse. PRINT_WITHDRAW of an accepted item that has not started removes it and answers whether a burst is discarded; one that has started answers TOO_LATE, an entry that the device does not own NOT_FOUND. PRINT_REARM releases
the ESTOP hold while ESTOP is clear, and is refused while it is asserted. PRINT_SHIFT clamps and stores the shift of a group that takes it from the host, and answers it. PRINT_ELEM_QUERY reports. PRINT_SUB_CONFIRM of a PENDING element makes it SUBSTITUTED or DEAD; PRINT_ELEM_CLEAR returns an element to OK.
PRINT_AUTH of an idle chip is ACCEPTED and sends a challenge with a fresh nonce; PRINT_USAGE_WRITE of an idle chip that has authenticated, with a key, is ACCEPTED and sends the count with its tag under the nonce of the latest success, then a challenge. -/
def Obligations.PrintCommandsActOnQueuesAndHeads : Prop :=
  (∀ (q : Req) (lead sizeLog2 base : Nat) (s : State), Allowed q s .op false → lead < s.print.queue.length → queueRefuse lead sizeLog2 s = none →
    (s.queueMisuse sizeLog2 base = true → exec (.printQueueSet q lead sizeLog2 base) s = .fault (.misuse 326)) ∧
    (s.queueMisuse sizeLog2 base = false → ∃ u : State, exec (.printQueueSet q lead sizeLog2 base) s = .next (u.respond 0x0400 q {}) ∧ u.queueOf lead = { base := some base, sizeLog2 := sizeLog2 } ∧
      ∀ j, j ≠ lead → u.queueOf j = s.queueOf j)) ∧
  (∀ (q : Req) (lead index : Nat) (s : State), Allowed q s .prt false → lead < s.print.queue.length →
    (∀ i, (s.queueOf lead).items.find? (fun i => i.index == index) = some i → i.started = true →
      exec (.printWithdraw q lead index) s = .next (s.respond 0x0401 q (.fail .tooLate 0))) ∧
    (∀ i, (s.queueOf lead).items.find? (fun i => i.index == index) = some i → i.started = false →
      ∃ u : State, exec (.printWithdraw q lead index) s = .next (u.respond 0x0401 q (.ok (leBytes 4 (b2n (decide (i.rows.length < i.height)))))) ∧
        ∀ x ∈ (u.queueOf lead).items, x.index ≠ index) ∧
    ((s.queueOf lead).items.find? (fun i => i.index == index) = none → s.entryOwned (s.queueOf lead) index = false →
      exec (.printWithdraw q lead index) s = .next (s.respond 0x0401 q (.fail .notFound 0)))) ∧
  (∀ (q : Req) (s : State), Allowed q s .nb false →
    (s.print.estop = true → exec (.printRearm q) s = .next (s.respond 0x0402 q (badState s 4))) ∧
    (s.print.estop = false → ∃ u : State, exec (.printRearm q) s = .next (u.respond 0x0402 q {}) ∧ u.print.estopHeld = false ∧ u.print.queue = s.print.queue)) ∧
  (∀ (q : Req) (lead : Nat) (shift : Int) (s : State), Allowed q s .web false →
    (s.camDeck.headUsed s.profile.current lead = true → s.camDeck.groupLead lead = lead → s.camDeck.shiftSrc lead = 2 →
      ∃ u : State, exec (.printShift q lead shift) s = .next (u.respond 0x0403 q (.ok (leBytes 4 (truncN 16 (clampI (-(s.camDeck.shiftMax lead : Int)) (s.camDeck.shiftMax lead) shift))))) ∧
        u.print.shift = setAt s.print.shift lead (clampI (-(s.camDeck.shiftMax lead : Int)) (s.camDeck.shiftMax lead) shift)) ∧
    (s.camDeck.shiftSrc lead ≠ 2 → exec (.printShift q lead shift) s = .next (s.respond 0x0403 q (.fail .notFound 3)))) ∧
  (∀ (q : Req) (head : Nat) (s : State), Allowed q s .nb false → s.profile.current.headWired head = true →
    exec (.printElemQuery q head) s = .next (s.respond 0x0410 q (.ok (s.elemBytes head)))) ∧
  (∀ (q : Req) (head element : Nat) (accept : Bool) (s : State), Allowed q s .prt false → head < s.print.head.length → (s.head head).elemState element = 2 →
    ∃ u : State, exec (.printSubConfirm q head accept element) s = .next (u.respond 0x0411 q {}) ∧ (u.head head).elemState element = if accept then 3 else 1) ∧
  (∀ (q : Req) (head element : Nat) (s : State), Allowed q s .op false → head < s.print.head.length → s.profile.current.headWired head = true →
    element < s.profile.current.elements head → element ≠ 0xFFFF →
    ∃ u : State, exec (.printElemClear q head element) s = .next (u.respond 0x0412 q (.ok (leBytes 8 (truncN 64 (wpos48 (s.switchLabel head (s.switchOf head))))))) ∧
      (u.head head).elemState element = 0 ∧ ∀ e, e ≠ element → (u.head head).elemState e = (s.head head).elemState e) ∧
  (∀ (q : Req) (head : Nat) (s : State), Allowed q s .op false → head < s.print.head.length → chipRefuse 0x0413 head s = none → (s.head head).chip.writeDue = false →
    ∃ u : State, exec (.printAuth q head) s = .next (u.respond 0x0413 q .accepted) ∧ (u.head head).chip.phase = 1 ∧ u.isRunning 0x0413 = true ∧
      u.out = s.out ++ [.chipWrite head (s.profile.current.authAddr head) (0x01 :: (upto 32).map (Config.nonceByte s.free)), .chipWrite head (s.profile.current.authAddr head) [0x02]]) ∧
  (∀ (q : Req) (head id : Nat) (key : List Byte) (s : State), Allowed q s .op false → head < s.print.head.length → chipRefuse 0x0415 head s = none →
    (s.head head).chip.chipId = some id → s.headKey head = some key →
    ∃ u : State, exec (.printUsageWrite q head) s = .next (u.respond 0x0415 q .accepted) ∧ (u.head head).chip.phase = 2 ∧ (u.head head).chip.written = (s.head head).chip.count ∧
      u.isRunning 0x0415 = true ∧
      u.out = s.out ++ [.chipWrite head (s.profile.current.authAddr head) (0x03 :: leBytes 6 (s.head head).chip.count ++ [0, 0] ++ chipMac 0x57 key (s.head head).chip.okNonce id (s.head head).chip.count),
        .chipWrite head (s.profile.current.authAddr head) (0x01 :: (upto 32).map (Config.nonceByte s.free)), .chipWrite head (s.profile.current.authAddr head) [0x02]])

/-- CROP_RELEASE frees the slot of a valid handle and refuses any other. LOOKBACK_FETCH to a destination that the host may write is ACCEPTED while none runs (another destination is misuse), and refused while one does. LOOKBACK_FETCH_DONE of an area that was held and still is writes its bytes at DEST, without the groups in error, and completes; an area that was never held
or no longer is ends with NOT_FOUND; without a fetch nothing happens. LOOKBACK_ABORT ends the fetch that runs, with BUSY 0x04, and else answers NOT_FOUND. TIME_SET sets the clock and SET; TIME_ADJUST steps it by exactly STEP and changes INCR, each where asked, and an INCR outside its range is misuse; both are refused while
the servo steers the clock. -/
def Obligations.AreasAreFetchedAndClocksSet : Prop :=
  (∀ (q : Req) (handle : Nat) (s : State), Allowed q s .op false →
    (s.cropValid handle = true → ∃ u : State, exec (.cropRelease q handle) s = .next (u.respond 0x0520 q {}) ∧ u.cropValid handle = false ∧
      u.recs.cropHeld = s.recs.cropHeld.filter (· != handle % 65536) ∧ u.mem = s.mem) ∧
    (s.cropValid handle = false → exec (.cropRelease q handle) s = .next (s.respond 0x0520 q (.fail .notFound 0)))) ∧
  (∀ (q : Req) (ov : Bool) (epoch first lines xpos pixels dest : Nat) (s : State), Allowed q s .op false →
    (∀ m, s.isRunning 0x0522 = false → s.fetchMisuse dest (lines * pixels * (s.deckOf epoch).planes * 2) = some m →
      exec (.lookbackFetch q ov epoch first lines xpos pixels dest) s = .fault (.misuse m)) ∧
    (s.isRunning 0x0522 = false → s.fetchMisuse dest (lines * pixels * (s.deckOf epoch).planes * 2) = none →
      ∃ u : State, exec (.lookbackFetch q ov epoch first lines xpos pixels dest) s = .next (u.respond 0x0522 q .accepted) ∧
      (∃ r : Running, u.keeper.running = s.keeper.running ++ [r] ∧ r.code = 0x0522 ∧ r.req = q) ∧ u.mem = s.mem) ∧
    (s.isRunning 0x0522 = true → exec (.lookbackFetch q ov epoch first lines xpos pixels dest) s = .next (s.respond 0x0522 q (.fail .busy 5)))) ∧
  (∀ (ov e first lines xpos pixels dest held : Nat) (bad : List (Nat × Nat × Nat)) (r : Running) (s : State), s.runningCmd 0x0522 = some r →
    r.args = [ov, e, first, lines, xpos, pixels, dest, held] →
    ∃ t : State, exec (.lookbackFetchDone bad) s = .next t ∧ t.isRunning 0x0522 = false ∧ (bad = [] → t.codec = { s.codec with bad := t.codec.bad }) ∧
      (held ≠ 0 → s.areaHeld (decide (ov = 1)) e first lines = true →
        t.mem = memWrite s.mem dest (areaBytes ((s.withBad bad).ringArea (decide (ov = 1)) e first lines xpos pixels) (s.deckOf e).planes pixels))) ∧
  (∀ (bad : List (Nat × Nat × Nat)) (s : State), s.runningCmd 0x0522 = none → exec (.lookbackFetchDone bad) s = .next s) ∧
  (∀ (q : Req) (s : State), Allowed q s .op false →
    (s.isRunning 0x0522 = true → ∃ u : State, exec (.lookbackAbort q) s = .next (u.respond 0x0523 q {}) ∧ u.isRunning 0x0522 = false ∧ u.mem = s.mem) ∧
    (s.isRunning 0x0522 = false → exec (.lookbackAbort q) s = .next (s.respond 0x0523 q (.fail .notFound 0)))) ∧
  (∀ (q : Req) (time : Nat) (s : State), Allowed q s .ops false →
    (s.servoActive = true → exec (.timeSet q time) s = .next (s.respond 0x0701 q (badState s 5))) ∧
    (s.servoActive = false → time < 2 ^ 64 → ∃ u : State, exec (.timeSet q time) s = .next (u.respond 0x0701 q {}) ∧ u.time = time ∧ u.net.set = true ∧ u.net.incr = s.net.incr)) ∧
  (∀ (q : Req) (step : Int) (incr : Nat) (applyStep applyIncr : Bool) (s : State), Allowed q s .ops false →
    (s.servoActive = true → exec (.timeAdjust q step incr applyStep applyIncr) s = .next (s.respond 0x0702 q (badState s 5))) ∧
    (s.servoActive = false → applyIncr = true → incr < 0x380000000 ∨ 0x480000000 < incr → exec (.timeAdjust q step incr applyStep applyIncr) s = .fault (.misuse 431)) ∧
    (s.servoActive = false → (applyIncr = true → 0x380000000 ≤ incr ∧ incr ≤ 0x480000000) → ∃ u : State, exec (.timeAdjust q step incr applyStep applyIncr) s = .next (u.respond 0x0702 q {}) ∧
      u.net.clock = (if applyStep = true then truncN 96 ((s.net.clock : Int) + step * 2 ^ 32) else s.net.clock) ∧
      u.net.incr = (if applyIncr = true then incr % 2 ^ 40 else s.net.incr)))

/-- EVT_CLEAR clears counters and flags and keeps the groups, the relays and the publications under way. EVT_GROUP enables and then disables groups, apart from those that an event set in the same fabric cycle, and answers those enabled; a publication in the cycle of a change still sees the groups before it. EVT_INJECT publishes as HOST with HOP 1 on a channel below 64, which PUBLISHED counts: on a disabled group BLOCKED counts it
instead of its joining the fabric; a higher channel is misuse. EVENT_DELIVERY takes exactly the publications of the oldest fabric cycle there, and does nothing on an empty fabric; a merged event takes HOP, ORIGIN and TAG of the publication with the largest HOP, ties going to the lower producer. RELAY_FIRE of a relay that may fire
removes its oldest event and, on a channel, republishes it with HOP + 1 and its TAG, EPOCH and ORIGIN; else it does nothing. PIN_OUT_PULSE_END returns an active output to inactive, which its pin shows, and does nothing on another. PIN_INPUT_EDGE stores the level, and the edge of an input to its active level publishes. MONITOR_OUTPUT of a running converter counts the output of an enabled channel,
VALID from the 25th on; otherwise it does nothing. -/
def Obligations.TheFabricCarriesEvents : Prop :=
  (∀ (q : Req) (s : State), Allowed q s .nb false → ∃ u : State, exec (.evtClear q) s = .next (u.respond 0x0A01 q {}) ∧ u.trestle.published = [] ∧ u.trestle.loops = [] ∧
    u.trestle.channels = List.replicate 64 {} ∧ u.trestle.inputs = List.replicate 89 {} ∧ u.trestle.groups = s.trestle.groups ∧ u.trestle.relays = s.trestle.relays ∧
    u.trestle.bus = s.trestle.bus) ∧
  (∀ (q : Req) (enable disable : Nat) (s : State), Allowed q s .ns false →
    ∃ u : State, exec (.evtGroup q enable disable) s = .next (u.respond 0x0A03 q (.ok (leBytes 4 u.trestle.groups))) ∧
      ∀ g, g < 8 → bitAt u.trestle.groups g = if s.trestle.groupsCycle = ptpAt s.now ∧ bitAt s.trestle.groupsEvt g = true then bitAt s.trestle.groups g
        else (bitAt s.trestle.groups g || bitAt enable g) && !bitAt disable g) ∧
  (∀ (q : Req) (channel : Nat) (tag : Int) (s : State), 64 ≤ channel → exec (.evtInject q channel tag) s = .fault (.misuse 376)) ∧
  (∀ (q : Req) (channel : Nat) (tag : Int) (s : State), Allowed q s .ns false → channel < 64 → s.fault.trestleUnusable = false →
    ∃ u : State, exec (.evtInject q channel tag) s = .next (u.respond 0x0A02 q {}) ∧
      lookupN 0x7E u.trestle.published = some (satInc ((lookupN 0x7E s.trestle.published).getD 0)) ∧
      (s.trestle.groupOn (ptpAt s.now) (channel / 8) = true → ∃ p : Pub, u.trestle.bus = s.trestle.bus ++ [p] ∧ p.channel = channel ∧ p.producer = 0x7E ∧ p.origin = 0x7E ∧ p.hop = 1 ∧
        p.epoch = s.deck.epoch ∧ p.tag = if s.webRunning = true then wpos48 tag else 0) ∧
      (s.trestle.groupOn (ptpAt s.now) (channel / 8) = false → u.trestle.bus = s.trestle.bus)) ∧
  (∀ (t : TrestleState) (cycle g : Nat), t.groupOn cycle g = if t.groupsCycle < cycle then bitAt t.groups g else bitAt t.groupsOld g) ∧
  (∀ (parity : List Nat) (p : Pub) (rest : List Pub) (s : State), s.trestle.bus = p :: rest →
    ∃ (t : State) (k : Nat), exec (.eventDelivery parity) s = .next t ∧ (∃ q ∈ s.trestle.bus, q.cycle = k) ∧ (∀ q ∈ s.trestle.bus, k ≤ q.cycle) ∧
      t.trestle.bus = s.trestle.bus.filter (fun q => q.cycle != k)) ∧
  (∀ (parity : List Nat) (s : State), s.trestle.bus = [] → exec (.eventDelivery parity) s = .next s) ∧
  (∀ (pubs : List Pub) (c : Nat) (x : Carried), carriedOf pubs c = some x → ∃ p ∈ pubs, p.channel = c ∧ x.ev.hop = p.hop ∧ x.ev.origin = p.origin ∧ x.ev.tag = p.tag ∧
    ∀ q ∈ pubs, q.channel = c → q.hop < p.hop ∨ (q.hop = p.hop ∧ p.producer ≤ q.producer)) ∧
  (∀ (r : Nat) (e : Event) (rest : List Event) (s : State), (s.relay r).pending = e :: rest → r < s.trestle.relays.length →
    (s.relayReady r e = true → ∃ t : State, exec (.relayFire r) s = .next t ∧ (t.relay r).pending = rest ∧
      ∀ c, s.camDeck.pubChannel (0x40 + r) = some c → s.fabricRuns = true →
        s.trestle.groupOn ((if s.camDeck.relayHeld r = true then ptpAt s.now else e.cycle) + 1) (c / 8) = true →
        ∃ p : Pub, t.trestle.bus = s.trestle.bus ++ [p] ∧ p.cycle = (if s.camDeck.relayHeld r = true then ptpAt s.now else e.cycle) + 1 ∧ p.channel = c ∧ p.producer = 0x40 + r ∧ p.hop = e.hop + 1 ∧ p.origin = e.origin ∧ p.epoch = e.epoch ∧ p.tag = e.tag) ∧
    (s.relayReady r e = false → exec (.relayFire r) s = .next s)) ∧
  (∀ (r : Nat) (s : State), (s.relay r).pending = [] → exec (.relayFire r) s = .next s) ∧
  (∀ (n : Nat) (s : State), (getN s.pio.outActive n false = false → exec (.pinOutPulseEnd n) s = .next s) ∧
    (getN s.pio.outActive n false = true → ∃ t : State, exec (.pinOutPulseEnd n) s = .next t ∧ t.pio = { s.pio with outActive := setAt s.pio.outActive n false } ∧
      t.out = s.out ++ s.profile.current.pinEdge n false)) ∧
  (∀ (pin : Nat) (level : Bool) (s : State), ∃ t : State, exec (.pinInputEdge pin level) s = .next t ∧ t.pio = { s.pio with inLevel := setAt s.pio.inLevel pin level } ∧
    (level = s.profile.current.ioPol pin ∨ getN s.pio.inLevel pin false ≠ s.profile.current.ioPol pin ∨ s.profile.current.ioInput pin = false → t.trestle = s.trestle) ∧
    (∀ c, level ≠ s.profile.current.ioPol pin → getN s.pio.inLevel pin false = s.profile.current.ioPol pin → s.profile.current.ioInput pin = true → pin < 32 →
      s.fabricRuns = true → s.camDeck.pubChannel (0x20 + pin) = some c → s.trestle.groupOn (ptpAt s.now) (c / 8) = true →
      ∃ p : Pub, t.trestle.bus = s.trestle.bus ++ [p] ∧ p.channel = c ∧ p.producer = 0x20 + pin ∧ p.hop = 1)) ∧
  (∀ (ch code : Nat) (s : State), ch < 32 → s.mon.chan.length = 32 → s.sys.inReset = false → s.mon.running = true → s.fault.monitorUnusable = false → s.camDeck.monEn ch = true → s.mon.swapDue = false →
    ∃ t : State, exec (.monitorOutput ch code false) s = .next t ∧ (getN t.mon.chan ch {}).code = code % 2 ^ 24 ∧
      (getN t.mon.chan ch {}).outputs = (getN s.mon.chan ch {}).outputs + 1 ∧ (getN t.mon.chan ch {}).valid = decide (25 ≤ (getN s.mon.chan ch {}).outputs + 1)) ∧
  (∀ (ch code : Nat) (ecc : Bool) (s : State), s.sys.inReset = true ∨ s.mon.running = false ∨ s.camDeck.monEn ch = false → exec (.monitorOutput ch code ecc) s = .next s)

/-- AXIS_MOVE that nothing refuses, with a legal motion profile, is ACCEPTED and adds exactly the moves that its axes need; AXIS_HOME adds one move for each named axis; an illegal profile is misuse. AXIS_STOP makes every move of a named axis decelerate, or with ABRUPT ends it at once, and leaves every other move; a last step that is due at that instant comes before it. AXIS_ENABLE
drives EN of each named axis, unless a moving one would be disabled or ESTOP is asserted. AXIS_VELOCITY_UPDATE, when no step is due before it, passes the rest of the microsecond and takes the next velocity; AXIS_STEP, when the accumulator overflows before the next update, passes the ticks until then and steps the leading axis by one
microstep in the move's sense. HOME_INPUT_CHANGE, after a step that is due by then, stores the level: its activation in the first step of homing starts the deceleration, and its release in the second sets the position to HOME_OFFSET with HOMED and POSITION_VALID. Each of these timed commands does nothing to an axis without a move. -/
def Obligations.AxesMoveHomeAndStop : Prop :=
  (∀ (q : Req) (axes profile : Nat) (relative interp : Bool) (targets : List Int) (s : State), Allowed q s .ops false → axesRefuse 0x0600 axes interp s = none →
    (badProfile (s.camDeck.motionProfile profile) = true → exec (.axisMove q axes relative interp profile targets) s = .fault (.misuse 542)) ∧
    (badProfile (s.camDeck.motionProfile profile) = false → ∃ u : State, exec (.axisMove q axes relative interp profile targets) s = .next (u.respond 0x0600 q .accepted) ∧
      u.motion.moves = s.motion.moves ++ s.movesFor ((bitsSet 6 axes).map (fun a => (a, if relative = true then getN targets a 0 else getN targets a 0 - (s.axis a).pos))) interp
        (s.camDeck.motionProfile profile) ∧ ∀ a, (u.axis a).pos = (s.axis a).pos)) ∧
  (∀ (q : Req) (axes : Nat) (s : State), Allowed q s .ops false → axesRefuse 0x0601 axes false s = none →
    (∀ a ∈ bitsSet 6 axes, badProfile (s.camDeck.motionProfile (s.camDeck.homeProfile a)) = false ∧ s.camDeck.homeSlow a ≤ (s.camDeck.motionProfile (s.camDeck.homeProfile a)).1) →
    ∃ u : State, exec (.axisHome q axes) s = .next (u.respond 0x0601 q .accepted) ∧ u.motion.moves.map (·.lead) = s.motion.moves.map (·.lead) ++ bitsSet 6 axes) ∧
  (∀ (q : Req) (axes : Nat) (s : State), Allowed q s .nb true →
    (∃ u : State, exec (.axisStop q axes false) s = .next (u.respond 0x0602 q {}) ∧ u.motion.moves.length = s.lastSteps.motion.moves.length ∧
      ∀ m ∈ u.motion.moves, m.stopping = true ∨ (m ∈ s.lastSteps.motion.moves ∧ m.axes.any (fun a => bitAt axes a) = false)) ∧
    (∃ u : State, exec (.axisStop q axes true) s = .next (u.respond 0x0602 q {}) ∧
      ∀ m ∈ u.motion.moves, m ∈ s.lastSteps.motion.moves ∧ m.axes.any (fun a => bitAt axes a) = false)) ∧
  (∀ s : State, (∀ m ∈ s.motion.moves, m.rem = some 1 → m.stopping = false → s.stepNow m = s) → s.lastSteps = s) ∧
  (∀ (m : Move) (s : State), (∀ n, m.dueIn = some n → s.now < m.base + n) → s.stepNow m = s) ∧
  (∀ (q : Req) (axes enable : Nat) (s : State), Allowed q s .ops false → s.motion.axis.length = 6 →
    (s.print.estop = true → exec (.axisEnable q axes enable) s = .next (s.respond 0x0604 q (badState s 4))) ∧
    (s.print.estop = false → (∀ a ∈ bitsSet 6 axes, bitAt enable a = true ∨ s.moving a = false) → ∃ u : State, exec (.axisEnable q axes enable) s = .next (u.respond 0x0604 q {}) ∧
      ∀ a, a < 6 → (u.axis a).en = if a ∈ bitsSet 6 axes then bitAt enable a && !s.power.brownout else (s.axis a).en)) ∧
  (∀ (a : Nat) (m : Move) (s : State), s.moveOf a = some m →
    (m.frac + m.ticks * m.v < stepUnit → ∃ t : State, exec (.axisVelocityUpdate a) s = .next t ∧ t.moveOf a = some { m with base := m.base + m.ticks, frac := m.frac + m.ticks * m.v, ticks := 200, v := m.nextV } ∧
      t.now = max s.now (m.base + m.ticks) ∧ t.motion.axis = s.motion.axis) ∧
    (stepUnit ≤ m.frac + m.ticks * m.v → exec (.axisVelocityUpdate a) s = .next s)) ∧
  (∀ (a n : Nat) (m : Move) (s : State), s.moveOf a = some m → a < s.motion.axis.length → (∀ f ∈ m.follow, f.1 ≠ a) → n = (if m.frac ≥ stepUnit then 0 else ceilDiv (stepUnit - m.frac) m.v) →
    (m.v ≠ 0 → n ≤ m.ticks → ∃ t : State, exec (.axisStep a) s = .next t ∧ (t.axis a).pos = sext 32 (truncN 32 (if m.positive = true then (s.axis a).pos + 1 else (s.axis a).pos - 1)) ∧
      (t.axis a).pulses = (s.axis a).pulses + 1) ∧
    (m.v = 0 ∨ m.ticks < n → exec (.axisStep a) s = .next s)) ∧
  (∀ (a : Nat) (s : State), s.moveOf a = none → exec (.axisStep a) s = .next s ∧ exec (.axisVelocityUpdate a) s = .next s) ∧
  (∀ (a : Nat) (level : Bool) (s r : State), r = (match s.moveOf a with
      | some m => s.stepNow m
      | none => s) → a < r.motion.axis.length → ∃ t : State, exec (.homeInputChange a level) s = .next t ∧ (t.axis a).home = level ∧
    (∀ m, r.moveOf a = some m → m.kind = .home 1 → level = true → t.moveOf a = some { m with kind := .home 4, stopping := true }) ∧
    (∀ m, r.moveOf a = some m → m.kind = .home 2 → level = false → t.moveOf a = none ∧ (t.axis a).pos = m.plan.offset ∧ (t.axis a).homed = true ∧ (t.axis a).valid = true) ∧
    (s.moveOf a = none → t.motion.moves = s.motion.moves))

/-- ENCODER_EDGE of an enabled encoder, its levels filtered (a level that last changed more than N ticks ago passes): one changed level counts in the Z check and, for the source in service, moves C by one count of its scale; both changed count ILLEGAL and move nothing. ENCODER_Z_EDGE of an enabled Z input starts a new count, the count of the same tick with it, and one outside ZREV counts ZCOUNT; a pulse too close to the last does not pass the filter. STALL_TIMEOUT evaluates C, I and H up to its tick and moves C by nothing.
TOOTH_EDGE of a train in use counts the edge and takes its tick as the latest; an edge that is a reference starts the count again and, on the reference source of the deck, its label enters the queue; with 16 labels queued that is misuse. SERIAL_POLL starts a read; SERIAL_WORD of a good word moves C of the source in service by the difference
from the word before (of the first word by nothing, the model's choice, log 142), a bad CRC, nE or (SERIAL_TIMEOUT) a missing word is counted, and the first failure is read again. An input that is absent, disabled or idle does nothing, and one whose entry a full FIFO
loses changes no count but the one of such losses. -/
def Obligations.PositionInputsCount : Prop :=
  (∀ (k t : Nat) (a b o : Bool) (s : State), 2 ≤ k ∨ s.profile.current.encEn k = false ∨ s.posRuns = false → exec (.encoderEdge k a b t o) s = .next s) ∧
  (∀ (k t0 : Nat) (a b : Bool) (n0 : Int) (s : State), k < s.pos.enc.length → k < 2 → s.profile.current.encEn k = true → s.posRuns = true →
    let e := getN s.pos.enc k {}
    let l := s.profile.current.encLevels k e a b (max s.now t0)
    let n := if s.profile.current.encDir k = true then -n0 else n0
    quadCount e.a e.b l.1 l.2 = some n0 →
    ∃ t : State, exec (.encoderEdge k a b t0) s = .next t ∧ (getN t.pos.enc k {}).a = l.1 ∧ (getN t.pos.enc k {}).b = l.2 ∧
      (getN t.pos.enc k {}).zNet = e.zNet + (if e.lastZ = some (max s.now t0) then 0 else n) ∧ (getN t.pos.enc k {}).illegal = e.illegal ∧
      t.pos.c = if s.pos.inService = some k then s.pos.c + n * s.profile.current.scale k else s.pos.c) ∧
  (∀ (k t0 : Nat) (a b : Bool) (s : State), k < s.pos.enc.length → k < 2 → s.profile.current.encEn k = true → s.posRuns = true →
    let e := getN s.pos.enc k {}
    let l := s.profile.current.encLevels k e a b (max s.now t0)
    l.1 ≠ e.a → l.2 ≠ e.b →
    ∃ t : State, exec (.encoderEdge k a b t0) s = .next t ∧ (getN t.pos.enc k {}).illegal = satInc e.illegal ∧ t.pos.c = s.pos.c) ∧
  (∀ (p : Container) (k t : Nat) (a b : Bool) (e : Encoder), (∀ x, e.lastA = some x → x + p.encN k < t) → (∀ x, e.lastB = some x → x + p.encN k < t) →
    p.encLevels k e a b t = (a, b)) ∧
  (∀ (k t0 : Nat) (s : State), k < s.pos.enc.length → k < 2 → s.profile.current.encEn k = true → s.profile.current.encZen k = true → s.posRuns = true →
    let e := getN s.pos.enc k {}
    let net := e.zNet + (s.advance t0).sameTickCount k
    (risePasses (s.profile.current.encN k) e.lastZ (max s.now t0) = false → exec (.encoderZEdge k t0) s = .next (s.advance t0)) ∧
    (risePasses (s.profile.current.encN k) e.lastZ (max s.now t0) = true →
      ∃ t : State, exec (.encoderZEdge k t0) s = .next t ∧ (getN t.pos.enc k {}).zNet = 0 ∧ (getN t.pos.enc k {}).zSeen = true ∧ (getN t.pos.enc k {}).zBack = false ∧
      (e.zSeen = false ∨ e.zBack = true ∨ (s.advance t0).sameTickCount k < 0 ∨ s.profile.current.zrev k = 0 ∨ net = (s.profile.current.zrev k : Int) →
        (getN t.pos.enc k {}).zcount = e.zcount) ∧
      (e.zSeen = true → e.zBack = false → 0 ≤ (s.advance t0).sameTickCount k → s.profile.current.zrev k ≠ 0 → net ≠ (s.profile.current.zrev k : Int) →
        (getN t.pos.enc k {}).zcount = satInc e.zcount))) ∧
  (∀ (t0 : Nat) (s : State), s.posRuns = true → ∃ t : State, exec (.stallTimeout t0) s = .next t ∧ t.now = max s.now t0 ∧ t.pos.c = s.pos.c ∧
    t.pos.i = (s.pos.idleTo s.camDeck (max s.now t0)).i ∧ t.pos.h = (s.pos.idleTo s.camDeck (max s.now t0)).h ∧ t.pos.v = (s.pos.idleTo s.camDeck (max s.now t0)).v) ∧
  (∀ (k t0 : Nat) (o : Bool) (s : State), 2 ≤ k ∨ s.profile.current.tthMode k = 0 ∨ s.teethRun = false → exec (.toothEdge k t0 o) s = .next s) ∧
  (∀ (k t0 : Nat) (s : State), k < 2 → s.profile.current.tthMode k ≠ 0 → s.teethRun = true →
    risePasses (s.profile.current.tthN k) (getN s.pos.tth k {}).lastEdge (max s.now t0) = false → exec (.toothEdge k t0) s = .next (s.advance t0)) ∧
  (∀ (k t0 : Nat) (s : State), k < s.pos.tth.length → k < 2 → s.profile.current.tthMode k ≠ 0 → s.teethRun = true →
    risePasses (s.profile.current.tthN k) (getN s.pos.tth k {}).lastEdge (max s.now t0) = true → (getN s.pos.tth k {}).lastInterval = none →
    ∃ t : State, exec (.toothEdge k t0) s = .next t ∧ (getN t.pos.tth k {}).lastEdge = some (max s.now t0) ∧ (getN t.pos.tth k {}).edges = (getN s.pos.tth k {}).edges + 1 ∧ t.pos.refQueue = s.pos.refQueue) ∧
  (∀ (k t0 l y : Nat) (s : State), k < s.pos.tth.length → k < 2 → s.profile.current.tthMode k ≠ 0 → s.teethRun = true → (getN s.pos.tth k {}).lastEdge = some l → (getN s.pos.tth k {}).lastInterval = some y →
    risePasses (s.profile.current.tthN k) (some l) (max s.now t0) = true →
    isReference (s.profile.current.tthMode k) (s.profile.current.tthMissing k) (max s.now t0 - l) y = true → (getN s.pos.tth k {}).haveRef = false →
    (s.camDeck.refSource ≠ k → ∃ t : State, exec (.toothEdge k t0) s = .next t ∧ (getN t.pos.tth k {}).edges = 0 ∧ (getN t.pos.tth k {}).haveRef = true ∧ t.pos.refQueue = s.pos.refQueue) ∧
    (s.camDeck.refSource = k → s.isRetired 0x0A (2 + k) = false → s.pos.refQueue.length < 16 →
      ∃ t : State, exec (.toothEdge k t0) s = .next t ∧ (getN t.pos.tth k {}).edges = 0 ∧ t.pos.refQueue = s.pos.refQueue ++ [t.liveWpos - s.profile.current.tthOff k]) ∧
    (s.camDeck.refSource = k → s.isRetired 0x0A (2 + k) = false → 16 ≤ s.pos.refQueue.length → exec (.toothEdge k t0) s = .fault (.misuse 77))) ∧
  (∀ (k t0 : Nat) (s : State), k < s.pos.senc.length → k < 2 → s.profile.current.sencEn k = true → s.posRuns = true →
    ∃ t : State, exec (.serialPoll k t0) s = .next t ∧ (getN t.pos.senc k {}).busy = true ∧ (getN t.pos.senc k {}).reread = false ∧
      (getN t.pos.senc k {}).since = max s.now t0 ∧ t.pos.c = s.pos.c) ∧
  (∀ (k t0 : Nat) (w : SerialWordIn) (s : State), k < s.pos.senc.length → k < 2 → s.posRuns = true → (getN s.pos.senc k {}).busy = true →
    (w.overflow = false → s.profile.current.sencBiss k = true → w.crc = bissCrc (s.profile.current.sencBits k) w.pos w.nE w.nW → w.nE = true → w.nW = true →
      ∃ t : State, exec (.serialWord k w t0) s = .next t ∧ (getN t.pos.senc k {}).busy = false ∧ (getN t.pos.senc k {}).lastPos = some (w.pos % 2 ^ s.profile.current.sencBits k) ∧
        let d : Int := match (getN s.pos.senc k {}).lastPos with
          | none => 0
          | some o => serialDelta (s.profile.current.sencBits k) (w.pos % 2 ^ s.profile.current.sencBits k) o
        t.pos.c = if s.pos.inService = some (2 + k) then s.pos.c + (if s.profile.current.sencDir k = true then -d else d) * s.profile.current.scale (2 + k) else s.pos.c) ∧
    (w.overflow = false → s.profile.current.sencBiss k = true → w.crc ≠ bissCrc (s.profile.current.sencBits k) w.pos w.nE w.nW →
      ∃ t : State, exec (.serialWord k w t0) s = .next t ∧ (getN t.pos.senc k {}).crc = satInc (getN s.pos.senc k {}).crc ∧ (getN t.pos.senc k {}).busy = !(getN s.pos.senc k {}).reread ∧ t.pos.c = s.pos.c) ∧
    ((getN s.pos.senc k {}).since < max s.now t0 →
      ∃ t : State, exec (.serialTimeout k t0) s = .next t ∧ (getN t.pos.senc k {}).timeout = satInc (getN s.pos.senc k {}).timeout ∧ (getN t.pos.senc k {}).busy = !(getN s.pos.senc k {}).reread ∧ t.pos.c = s.pos.c) ∧
    (max s.now t0 ≤ (getN s.pos.senc k {}).since → exec (.serialTimeout k t0) s = .next s)) ∧
  (∀ (k t0 : Nat) (w : SerialWordIn) (s : State), (getN s.pos.senc k {}).busy = false → exec (.serialWord k w t0) s = .next s ∧ exec (.serialTimeout k t0) s = .next s) ∧
  (∀ (k t0 : Nat) (a b : Bool) (w : SerialWordIn) (s : State), k < 2 → s.posRuns = true →
    (s.profile.current.encEn k = true → ∃ t : State, exec (.encoderEdge k a b t0 true) s = .next t ∧ t.pos.c = s.pos.c ∧ t.pos.enc = s.pos.enc ∧ t.pos.overflows = updAt s.pos.overflows k satInc) ∧
    (s.profile.current.tthMode k ≠ 0 → s.teethRun = true → ∃ t : State, exec (.toothEdge k t0 true) s = .next t ∧ t.pos.c = s.pos.c ∧ t.pos.tth = s.pos.tth ∧
      t.pos.overflows = updAt s.pos.overflows (2 + k) satInc) ∧
    ((getN s.pos.senc k {}).busy = true → w.overflow = true → ∃ t : State, exec (.serialWord k w t0) s = .next t ∧ t.pos.c = s.pos.c ∧ t.pos.senc = s.pos.senc ∧
      t.pos.overflows = updAt s.pos.overflows (4 + k) satInc))

/-- LINE_TRIGGER in a web mode, not in free-run, not on the secondary of a joined pair, and with no swap armed: position is evaluated up to the tick; some number n of lines fires, so T grows by n PITCH, WLN by n and C, I and H by nothing; where R85 allows the normal trigger at least one fires, and
where H has not reached T none; the backlog that stays behind is at most OVERSPEED_LINES. In any other mode, in free-run and on a secondary it does nothing. FREE_RUN_LINE, once the period of the epoch's last two triggers has passed, sets C, I and H to T and fires that line; without a period no line fires. CAL_TIMED_TRIGGER advances CLN in CALIBRATE,
and neither WLN nor any other position value; in other modes it does nothing. -/
def Obligations.LineTriggersAdvanceTheThreshold : Prop :=
  (∀ (t0 : Nat) (s : State), s.webRunning = false ∨ s.follows = true ∨ s.pos.freeRun = true → exec (.lineTrigger t0) s = .next s) ∧
  (∀ (t0 : Nat) (p : PosState) (s : State), s.webRunning = true → s.follows = false → s.pos.freeRun = false → s.deck.swap = none → 0 < s.camDeck.pitch →
    p = s.pos.idleTo s.camDeck (max s.now t0) →
    ∃ (t : State) (n : Nat), exec (.lineTrigger t0) s = .next t ∧ t.pos.t = s.pos.t + n * s.camDeck.pitch ∧ t.pos.wln % 2 ^ 48 = (s.pos.wln + n) % 2 ^ 48 ∧ t.now = max s.now t0 ∧
      t.pos.c = s.pos.c ∧ t.pos.i = p.i ∧ t.pos.h = p.h ∧ (p.mayFire s.camDeck (max s.now t0) = true → 0 < n) ∧ (p.h < s.pos.t → n = 0) ∧
      t.pos.backlog s.camDeck.pitch ≤ s.camDeck.overspeedLines) ∧
  (∀ (t0 : Nat) (s : State), s.webRunning = false ∨ s.follows = true ∨ s.pos.freeRun = false → exec (.freeRunLine t0) s = .next s) ∧
  (∀ (t0 a l : Nat) (s : State), s.webRunning = true → s.follows = false → s.pos.freeRun = true → s.deck.swap = none → s.pos.period = some a → s.pos.lastTrig = some l → l + a ≤ max s.now t0 →
    ∃ t : State, exec (.freeRunLine t0) s = .next t ∧ t.pos.t = s.pos.t + s.camDeck.pitch ∧ t.pos.wln = (s.pos.wln + 1) % 2 ^ 48 ∧ t.pos.c = s.pos.t ∧ t.pos.i = s.pos.t ∧ t.pos.h = s.pos.t ∧
      t.pos.lastTrig = some (max s.now t0)) ∧
  (∀ (t0 : Nat) (s : State), s.webRunning = true → s.follows = false → s.pos.freeRun = true → s.pos.period = none → ∃ t : State, exec (.freeRunLine t0) s = .next t ∧ t.pos = s.pos) ∧
  (∀ (t0 : Nat) (s : State), s.sys.lineMode = .calibrate → s.sys.mode.isWeb = false → ∃ t : State, exec (.calTimedTrigger t0) s = .next t ∧ t.cal.cln = (s.cal.cln + 1) % 2 ^ 48 ∧ t.pos = s.pos) ∧
  (∀ (t0 : Nat) (s : State), s.sys.lineMode ≠ .calibrate → exec (.calTimedTrigger t0) s = .next s)

/-- On a port with a camera in service, each packet with a 2-bit header error counts ECC2, and a packet of another VC counts OTHER; a short packet that the FIFO lost does nothing, and on any other port packets do nothing. FS opens the frame of the oldest strip that waits for one, or counts SPURIOUS and drops the frame where none waits; FE closes the open
frame, or ends a dropped one; Line Start gives its line number; a long packet inside a dropped frame does nothing; one with a good CRC, its full length and no uncorrectable word, LNUM being 0, is held as the next line of the open frame, and outside a frame it counts NOFS; Line End does nothing. SYNC counts. EXIT_DEADLINE ends the exit that waits for it, and nothing else. STRIP_BREAK takes
the break that has arrived. SENSOR_IBI counts. SENSOR_TRANSFER_DONE: a PREPARE that succeeds is noted, and its COMMIT starts where its time has come; a COMMIT that succeeds in time confirms its change, a failure moves the change to a later boundary to be sent again; without a transfer it does nothing. (A packet that settles the last line of a strip also closes that strip's statistics: endStrip.) -/
def Obligations.CameraPortsTakeTheirPackets : Prop :=
  (∀ (port : Nat) (p : CsiPacket) (s : State), s.decodes port = none → exec (.csiFrameStart port p) s = .next s.endStrip ∧ exec (.csiFrameEnd port p) s = .next s.endStrip ∧ exec (.csiLineStart port p) s = .next s ∧
    exec (.csiLongPacket port p) s = .next s.endStrip ∧ exec (.csiOtherPacket port p) s = .next s ∧ exec (.csiSyncError port) s = .next s.endStrip) ∧
  (∀ (port : Nat) (p : CsiPacket) (s : State), p.overflow = true → exec (.csiFrameStart port p) s = .next s.endStrip ∧ exec (.csiFrameEnd port p) s = .next s.endStrip ∧ exec (.csiLineStart port p) s = .next s) ∧
  (∀ (port c : Nat) (p : CsiPacket) (i : Instr) (s : State), s.decodes port = some c → c < s.intake.cam.length → 2 ≤ p.ecc →
    (p.overflow = false ∧ (i = .csiFrameStart port p ∨ i = .csiFrameEnd port p ∨ i = .csiLineStart port p)) ∨ i = .csiLongPacket port p ∨ i = .csiOtherPacket port p →
    ∃ t : State, exec i s = .next t ∧ (t.cam c).count.ecc2 = satInc (s.cam c).count.ecc2) ∧
  (∀ (port c : Nat) (p : CsiPacket) (i : Instr) (s : State), s.decodes port = some c → c < s.intake.cam.length → p.ecc = 0 → p.vc ≠ (s.portDeck c).camVc c →
    (p.overflow = false ∧ (i = .csiFrameStart port p ∨ i = .csiFrameEnd port p ∨ i = .csiLineStart port p)) ∨ i = .csiLongPacket port p ∨ i = .csiOtherPacket port p →
    ∃ t : State, exec i s = .next t ∧ (t.cam c).count.other = satInc (s.cam c).count.other ∧ (t.cam c).lines = (s.cam c).lines) ∧
  (∀ (port c : Nat) (p : CsiPacket) (s : State), s.decodes port = some c → c < s.intake.cam.length → p.ecc = 0 → p.overflow = false → p.vc = (s.portDeck c).camVc c →
    (∀ id, (s.cam c).openStrip = none → ((s.cam c).frames.find? (fun f => f.2 == FrameSt.waiting)).map (·.1) = some id →
      ∃ t : State, exec (.csiFrameStart port p) s = .next t ∧ (t.cam c).openStrip = some id ∧ (t.cam c).dropping = false ∧ (t.cam c).nextK = 0) ∧
    ((s.cam c).openStrip = none → (s.cam c).frames.find? (fun f => f.2 == FrameSt.waiting) = none →
      ∃ t : State, exec (.csiFrameStart port p) s = .next t ∧ (t.cam c).dropping = true ∧ (t.cam c).count.spurious = satInc (s.cam c).count.spurious) ∧
    ((s.cam c).dropping = true → ∃ t : State, exec (.csiFrameEnd port p) s = .next t ∧ (t.cam c).dropping = false ∧ (t.cam c).lines = (s.cam c).lines) ∧
    (∀ id q, (s.cam c).dropping = false → (s.cam c).openStrip = some id → s.strip id = some q → q.id = id → ∃ t : State, exec (.csiFrameEnd port p) s = .next t ∧ (t.cam c).openStrip = none) ∧
    (∃ t : State, exec (.csiLineStart port p) s = .next t ∧ (t.cam c).lineNo = some p.number) ∧
    ((s.cam c).dropping = true → exec (.csiLongPacket port p) s = .next s.endStrip) ∧
    (p.dt = (s.portDeck c).camDt c → (s.cam c).dropping = false → (s.cam c).openStrip = none →
      ∃ t : State, exec (.csiLongPacket port p) s = .next t ∧ (t.cam c).count.nofs = satInc (s.cam c).count.nofs) ∧
    (∀ id q, p.dt = (s.portDeck c).camDt c → (s.cam c).dropping = false → (s.cam c).openStrip = some id → s.strip id = some q → (s.deckOf q.epoch).lnum c = false → (s.cam c).killed = false →
      (s.cam c).nextK < q.len → p.crcOk = true → (s.deckOf q.epoch).lineBytes c ≤ p.wc → eccVoid p = false → (s.cam c).unsettled (q.startSer + (s.cam c).nextK) = false → (s.cam c).lineAt (q.startSer + (s.cam c).nextK) = none →
      ∃ (t : State) (l : CamLine), exec (.csiLongPacket port p) s = .next t ∧ (t.cam c).nextK = (s.cam c).nextK + 1 ∧ l ∈ (t.cam c).lines ∧ l.ser = q.startSer + (s.cam c).nextK ∧ l.void = none ∧ l.held = true ∧
        l.raw = unpackLine ((s.deckOf q.epoch).camDt c) (s.deckOf q.epoch).planes ((s.deckOf q.epoch).linePx c) p.payload) ∧
    (p.dt = 0x03 → exec (.csiOtherPacket port p) s = .next s) ∧
    (p.dt ≠ 0x03 → (s.cam c).dropping = false → ∃ t : State, exec (.csiOtherPacket port p) s = .next t ∧ (t.cam c).count.other = satInc (s.cam c).count.other)) ∧
  (∀ (port c : Nat) (s : State), s.decodes port = some c → c < s.intake.cam.length → ∃ t : State, exec (.csiSyncError port) s = .next t ∧ (t.cam c).count.sync = satInc (s.cam c).count.sync) ∧
  (∀ s : State, (s.intake.exitPending = false → exec .exitDeadline s = .next s.endStrip) ∧ ∃ t : State, exec .exitDeadline s = .next t ∧ t.intake.exitPending = false) ∧
  (∀ s : State, ∃ t : State, exec .stripBreak s = .next t ∧ t.intake.breakLine = none ∧ t.pos = s.pos) ∧
  (∀ (camera : Nat) (s : State), camera < s.intake.cam.length → ∃ t : State, exec (.sensorIbi camera) s = .next t ∧ (t.cam camera).count.ibi = satInc (s.cam camera).count.ibi) ∧
  (∀ (r : SensorResult) (s : State), (s.cam r.camera).busChange = none → exec (.sensorTransferDone r) s = .next s) ∧
  (∀ (r : SensorResult) (ch : Change) (s : State), r.camera < s.intake.cam.length → (s.cam r.camera).busChange = some ch → ch.sent = true →
    (r.ok = true → r.commit = false → ∃ t : State, exec (.sensorTransferDone r) s = .next t ∧
      (t.cam r.camera).changes = mapBus (fun x => { x with prepared := true, commitStarted := x.commitStarted || (ch.latch && decide (s.intake.ser + ch.nreg + 1 > ch.target)) || (ch.source == .activation && s.deck.swap.isNone) || (!ch.latch && (ch.applied || s.fsSeen r.camera ch.target)) }) (s.cam r.camera).changes) ∧
    (r.ok = true → r.commit = true → ch.commitStarted = true → ch.latch = false → ch.applied = false →
      ∃ t : State, exec (.sensorTransferDone r) s = .next t ∧ (t.cam r.camera).unsure = closeUnsure s.intake.ser (s.cam r.camera).unsure ∧
        (t.cam r.camera).changes.map (fun x => { x with sent := false }) =
          ((mapBus (fun x => { x with confirmed := true }) (s.cam r.camera).changes).filter (fun x => !x.applied || x.busy)).map (fun x => { x with sent := false })) ∧
    (r.ok = false → (r.commit = true → ch.commitStarted = true) → ∃ t : State, exec (.sensorTransferDone r) s = .next t ∧ (t.cam r.camera).unsure = openUnsure ch.target (s.cam r.camera).unsure ∧
      (t.cam r.camera).changes.map (fun x => (x.edit, x.target, x.source, x.prepared, x.commitStarted, x.applied)) =
        (mergeChanges (insertOlder { ch with target := s.boundaryFrom (max (ch.target + 1) (s.intake.ser + ch.nreg + 1)), sent := false, prepared := false, commitStarted := false, applied := false }
          (removeFirst (·.busy) (s.cam r.camera).changes))).map (fun x => (x.edit, x.target, x.source, x.prepared, x.commitStarted, x.applied))))

/-- GEOMETRY_LINE with a ready line puts it, with its camera parts, last in line for Span, and leaves intake with the others; a line that is not ready stays. SPAN_EMIT_LINE takes the oldest line from geometry and gives one web line to the statistics stage and, outside CALIBRATE, the same one to the compare stage;
an overlap-buffer error at a seam makes the pixels of that overlap VOID and counts UNC; a line that a backlog fired is VOID over the web's width with cause 3. COMPARE_LINE takes the oldest line and adds one compared line of that line; after a buffer error none of its pixels is compared. STATS_LINE takes the oldest line into
the running statistics of its strip, or opens them; with the stage unusable the line passes unmeasured. Its strip closes once all its lines have passed and all its camera lines are settled. SEGMENT_LINE, outside a joined pair, labels the oldest compared line, all of it not compared where the segmenter is retired. With nothing waiting each of the five leaves all web-path state as it is (but for what SEGMENT_LINE counts of the errors it brings). -/
def Obligations.WebLinesMoveThroughThePath : Prop :=
  (∀ (hits : List (Nat × EccHit)) (s : State), (s.intake.slots = [] ∨ (∃ x rest, s.intake.slots = x :: rest ∧ s.geometryReady x.1 x.2.1 (s.deckOf x.2.2.epoch) = false)) → ∃ t : State, exec (.geometryLine hits) s = .next t ∧ t.intake = s.intake ∧ t.span = s.span) ∧
  (∀ (hits : List (Nat × EccHit)) (ser strip : Nat) (l : LineSlot) (rest : List (Nat × Nat × LineSlot)) (s : State), s.intake.slots = (ser, strip, l) :: rest → s.geometryReady ser strip (s.deckOf l.epoch) = true →
    ∃ t : State, exec (.geometryLine hits) s = .next t ∧ t.intake.slots = rest ∧ t.pos = s.pos ∧
      t.span.fromGeometry = s.span.fromGeometry ++ [(ser, strip, l, (upto (s.deckOf l.epoch).ncam).map (fun k => ((hits.foldl (fun x h => x.geometryHit (s.deckOf l.epoch) ser h) s).camSpan (s.deckOf l.epoch) ser k).1))]) ∧
  (∀ (e : Option Nat) (s : State), s.span.fromGeometry = [] → ∃ t : State, exec (.spanEmitLine e) s = .next t ∧ t.span = s.span ∧ t.cmp = s.cmp) ∧
  (∀ (e : Option Nat) (ser strip : Nat) (l : LineSlot) (parts : List CamSpan) (rest : List (Nat × Nat × LineSlot × List CamSpan)) (s : State), s.span.fromGeometry = (ser, strip, l, parts) :: rest →
    ∃ (t : State) (w : WebLine), exec (.spanEmitLine e) s = .next t ∧ t.span.fromGeometry = rest ∧ t.span.toStats = s.span.toStats ++ [w] ∧
      w.ser = ser ∧ w.strip = strip ∧ w.slot = l ∧ w.planes = (spanLine (s.deckOf l.epoch) s.profile.current parts e).1 ∧ (l.overspeed = false → w.voids = (spanLine (s.deckOf l.epoch) s.profile.current parts e).2) ∧
      (l.overspeed = true → w.voids = [{ x0 := 0, x1 := (s.deckOf l.epoch).width - 1, cause := 3 }]) ∧ (l.mode = .calibrate → t.span.toCompare = s.span.toCompare) ∧ (l.mode ≠ .calibrate → t.span.toCompare = s.span.toCompare ++ [w]) ∧
      t.span.unc = (if e = none then s.span.unc else satInc s.span.unc)) ∧
  (∀ (a b : Bool) (hits : List BandHit) (n : Nat) (s : State), s.span.toCompare = [] → ∃ t : State, exec (.compareLine a b hits n) s = .next t ∧ t.span = s.span ∧ t.cmp = s.cmp) ∧
  (∀ (a b : Bool) (hits : List BandHit) (n : Nat) (w : WebLine) (rest : List WebLine) (s : State), s.span.toCompare = w :: rest →
    ∃ (t : State) (c : CompLine), exec (.compareLine a b hits n) s = .next t ∧ t.span.toCompare = rest ∧ t.span.toStats = s.span.toStats ∧ t.cmp.out = s.cmp.out ++ [c] ∧ c.ser = w.ser ∧ c.strip = w.strip ∧ c.slot = w.slot ∧
      t.pos = s.pos ∧ t.intake = s.intake ∧ (a = true → ∀ x ∈ c.cells, x = (3, 0, 0))) ∧
  (∀ s : State, s.span.toStats = [] → exec .statsLine s = .next s) ∧
  (∀ (w : WebLine) (rest : List WebLine) (s : State), s.span.toStats = w :: rest → s.fault.statsUnusable = true → ∃ t : State, exec .statsLine s = .next t ∧ t.span.toStats = rest ∧ t.stats = s.stats) ∧
  (∀ (w : WebLine) (rest : List WebLine) (x : StripStats) (p : Strip) (s : State), s.span.toStats = w :: rest → s.fault.statsUnusable = false →
    (s.stats.cur = none ∧ x = freshStats (s.deckOf w.slot.epoch) w ∨ s.stats.cur = some x) → x.strip = w.strip → s.strip w.strip = some p →
    ∃ t : State, exec .statsLine s = .next t ∧ t.span.toStats = rest ∧ (p.ended = false ∨ x.lines + 1 < p.lines ∨ s.stripSettled p = false → t.stats.cur = some (s.addLine x w) ∧ (s.addLine x w).lines = x.lines + 1) ∧
      (p.ended = true → p.lines ≤ x.lines + 1 → s.stripSettled p = true → t.stats.cur = none)) ∧
  (∀ (b : Bool) (n : Nat) (e : Option (Nat × Nat)) (s : State), s.cmp.out = [] → ∃ t : State, exec (.segmentLine b n e) s = .next t ∧ t.cmp = s.cmp ∧ t.seg = (s.segErrors n e).seg) ∧
  (∀ (b : Bool) (n : Nat) (e : Option (Nat × Nat)) (c : CompLine) (rest : List CompLine) (s : State), s.cmp.out = c :: rest → s.merging c.slot.epoch = false →
    let x := s.segErrors n e
    ∃ t : State, exec (.segmentLine b n e) s = .next t ∧ t.cmp.out = rest ∧ t.pos = s.pos ∧ t.span = s.span ∧ (s.vdRole = 0 → s.vd.unions = [] → s.vd.parts = [] → s.vd.touched = [] → x.seg.diverted = [] → x.seg.epoch = some c.slot.epoch → rest ≠ [] → b = false →
      t.seg = { ({ x.seg with divert := [], seamEdge := 0 } : SegState).label (s.deckOf c.slot.epoch) c.slot (if x.isRetired 5 0 then List.replicate (s.deckOf c.slot.epoch).width (3, 0, 0) else c.cells) with diverted := [] }))

/-- A look-back group that holds 16 lines closes: its lines leave the ring's rows, the group counter NEXT moves on by one and its new value is written at offset 18H of the ring's header, and the group is the newest one held. CODEC_FLUSH_TIMEOUT does the same with however many lines there are, on either ring; RING_WRITE_TIMEOUT too, but the group is
DROPPED: its record is empty, the next group must be a reset group, and its lines count in LBDROP; so is a group whose coder's memory fails, which counts in ECC_UNC. A ring that sheds at the group's boundary drops the lines that wait. With no line gathered none of them writes a group. BAND_DECODE centres the band of the object that the epoch bound; tiles that had failed, or that a jump of the centre leaves, count as restarted,
a word that cannot be decoded is noted as bad, and a tile of the object that is no valid tile is misuse. QSWARM_ENQUEUE moves a waiting swarm into the queue, or a label swarm that waits for an entry, or the queue swarm once the queue has fallen to 2,048 entries or its epoch has ended; otherwise it does nothing. -/
def Obligations.CodecGroupsCloseAndSwarmsEnqueue : Prop :=
  (∀ (ov : Bool) (e : Option Nat) (cor : List Nat) (s : State), (s.codec.ring ov).rows = [] → exec (.codecFlushTimeout ov e cor) s = .next s ∧ exec (.ringWriteTimeout ov) s = .next s) ∧
  (∀ (e : Option Nat) (cor : List Nat) (s : State), s.codec.lb.rows = [] → exec (.codecGroupClose false e cor) s = .next s) ∧
  (∀ (e : Option Nat) (cor : List Nat) (s : State), s.codec.ovLines = [] → s.codec.ov.rows = [] → exec (.codecGroupClose true e cor) s = .next s) ∧
  (∀ (ov : Bool) (cor : List Nat) (i : Instr) (s : State), s.mem.wf = true → (s.codec.ring ov).groupRows ≠ [] →
    (i = .codecFlushTimeout ov none cor ∨ i = .ringWriteTimeout ov ∨ i = .codecGroupClose ov none cor ∧ s.codec.ovLines = [] ∧ (s.codec.ring ov).groupRows.length = 16) →
    ∃ t : State, exec i s = .next t ∧ (t.codec.ring ov).next = (s.codec.ring ov).next + 1 ∧
      (t.codec.ring ov).rows = (if (t.codec.ring ov).shed then [] else (s.codec.ring ov).rows.drop (s.codec.ring ov).groupRows.length) ∧ t.pos = s.pos ∧ t.recs = s.recs ∧
      (∃ o n, (t.codec.ring ov).held.getLast? = some ((s.codec.ring ov).next, o, n)) ∧ (∀ k < 8, memByte t.mem (s.ringBase ov + 0x18 + k) = (leBytes 8 ((s.codec.ring ov).next + 1)).getD k 0) ∧
      (i = .ringWriteTimeout ov → (t.codec.ring ov).mustReset = true ∧ satAdd s.dram.lbDrop (s.codec.ring ov).groupRows.length ≤ t.dram.lbDrop ∧
        (t.codec.lb.shed = false → t.codec.ov.shed = false → t.dram.lbDrop = satAdd s.dram.lbDrop (s.codec.ring ov).groupRows.length))) ∧
  (∀ (ov : Bool) (u : Nat) (cor : List Nat) (i : Instr) (s : State), s.mem.wf = true → (s.codec.ring ov).groupRows ≠ [] →
    (i = .codecFlushTimeout ov (some u) cor ∨ i = .codecGroupClose ov (some u) cor ∧ s.codec.ovLines = [] ∧ (s.codec.ring ov).groupRows.length = 16) →
    ∃ t : State, exec i s = .next t ∧ (t.codec.ring ov).next = (s.codec.ring ov).next + 1 ∧ (t.codec.ring ov).mustReset = true ∧ (∃ o, (t.codec.ring ov).held.getLast? = some ((s.codec.ring ov).next, o, 0)) ∧
      t.codec.eccUnc = updAt s.codec.eccUnc u satInc) ∧
  (∀ (e : Option (Nat × Nat)) (u : Nat) (s : State), s.span.toCompare = [] → s.pos.lastLine = none → exec (.bandDecode e u) s = .next s) ∧
  (∀ (e : Option (Nat × Nat)) (u : Nat) (w : WebLine) (s : State), s.span.toCompare.head? = some w → s.boundObject w.slot.epoch = none → exec (.bandDecode e u) s = .next s) ∧
  (∀ (e : Option (Nat × Nat)) (u : Nat) (w : WebLine) (o : RegObject) (s : State), s.span.toCompare.head? = some w → s.boundObject w.slot.epoch = some o →
    let d := s.deckOf w.slot.epoch
    let c := s.coarse d o w.slot
    let centre := (coarseY d.origin o.lines c.1 c.2 + s.reg.coff) / 64
    let good := ((bandLines d.bandB o.lines centre).map (· / 256)).eraseDups.all (s.tilesOk d o.obj)
    (good = false → exec (.bandDecode e u) s = .fault (.misuse 203)) ∧
    (good = true → ∃ (t : State) (b : Band), exec (.bandDecode e u) s = .next t ∧ t.reg.bandOf w.slot.epoch = some b ∧ b.centre = centre ∧ t.codec.tileRestarts = satAdd s.codec.tileRestarts
        (badTiles (s.reg.bad.filter (fun x => x.epoch == w.slot.epoch)) + (match s.reg.bandOf w.slot.epoch with
          | some b => if inBand d.bandB (max 1 o.lines) b.centre (centre % (max 1 o.lines : Nat)).toNat then 0 else ceilDiv o.obj.width 256
          | none => 0)) ∧
      t.reg.bad = s.reg.bad.filter (fun x => !(x.epoch == w.slot.epoch)) ++ (match e with
        | some (tx, ty) => [{ epoch := w.slot.epoch, x0 := 256 * tx, x1 := 256 * tx + 255, y0 := 256 * ty, y1 := 256 * ty + 255 }]
        | none => []) ∧ (e = none → t.recs = s.recs))) ∧
  (∀ s : State, 4096 ≤ s.seg.queue.length → exec .qswarmEnqueue s = .next s) ∧
  (∀ (d : Descriptor) (rest : List Descriptor) (s : State), s.seg.queue.length < 4096 → s.seg.waiting = d :: rest →
    ∃ (t : State) (x : Descriptor), exec .qswarmEnqueue s = .next t ∧ t.seg.waiting = rest ∧ t.seg.queue = s.seg.queue ++ [x] ∧ x = { d with seq := x.seq } ∧ t.seg.count.blobs = satInc s.seg.count.blobs) ∧
  (∀ (c : Comp) (s : State), s.seg.queue.length < 4096 → s.seg.waiting = [] → s.seg.comps.find? (fun c => c.swarm && c.due) = some c → c.linkHard = true ∨ 0 < c.d.hardArea →
    ∃ t : State, exec .qswarmEnqueue s = .next t ∧ t.seg.comps = s.seg.comps.filter (fun x => x.id != c.id) ∧ t.seg.count.swarms = satInc s.seg.count.swarms) ∧
  (∀ s : State, s.seg.waiting = [] → s.seg.comps.find? (fun c => c.swarm && c.due) = none → s.seg.qswarm = none ∨ 2048 < s.seg.queue.length ∧ s.seg.qswarmDue = false → exec .qswarmEnqueue s = .next s) ∧
  (∀ (q : Descriptor) (s : State), s.seg.queue.length < 4096 → s.seg.waiting = [] → s.seg.comps.find? (fun c => c.swarm && c.due) = none → s.seg.qswarm = some q → s.seg.queue.length ≤ 2048 ∨ s.seg.qswarmDue = true →
    ∃ (t : State) (x : Descriptor), exec .qswarmEnqueue s = .next t ∧ t.seg.qswarm = none ∧ t.seg.qswarmDue = false ∧ t.seg.queue = s.seg.queue ++ [x] ∧ x.area = q.area ∧ x.prior = q.prior ∧ t.seg.count.qswarms = satInc s.seg.count.qswarms)

/-- A task is queued in the frame in service that has the fewest tasks, the lowest on a tie. DESCRIPTOR_ACCEPT makes the oldest descriptor that no task holds a task of the blob chain, its queue entry staying held; with all held it does nothing. FIELD_TASK_READY takes the next field row once its last line is readable: a TILE_REG task for each group
of nodes in order, or none while the stage is shed. REPEAT_TASK_READY, ITEM_TASK_READY, WINDOW_TASK_READY and EVENT_TASK do the like for the stage's next repeat, the oldest item that waits for its check (with CODE shed it takes NOT_CHECKED and no task), the head's next window of WIN lines of which some fired, and the stage's oldest event,
which leaves the queue. With nothing waiting, or its lines not readable yet, each does nothing. -/
def Obligations.ReadyInputsBecomeTasks : Prop :=
  (∀ (s : State) (f : Nat), s.pickFrame = some f → f < 16 ∧ s.frameUp f = true ∧ ∀ g, g < 16 → s.frameUp g = true → s.frameLoad f ≤ s.frameLoad g ∧ (s.frameLoad f = s.frameLoad g → f ≤ g)) ∧
  (∀ s : State, s.seg.queue = [] → exec .descriptorAccept s = .next s) ∧
  (∀ (pre post : List Descriptor) (b : Descriptor) (i : Nat) (st : Stage) (s : State), s.seg.queue = pre ++ b :: post →
    (∀ x ∈ pre, ∃ t ∈ s.comb.tasks, ∃ y : Descriptor, t.input = .blob y ∧ y.epoch = x.epoch ∧ y.seq = x.seq) → (∀ t ∈ s.comb.tasks, ∀ y : Descriptor, t.input = .blob y → ¬ (y.epoch = b.epoch ∧ y.seq = b.seq)) →
    (s.deckOf b.epoch).chainStage 0x10 = some (i, st) →
    ∃ (t : State) (x : Task), exec .descriptorAccept s = .next t ∧ t.seg = s.seg ∧ t.comb.tasks = s.comb.tasks ++ [x] ∧ x.id = s.comb.nextId ∧ x.stage = i ∧ x.op = st.op ∧ x.prio = st.prio ∧ x.input = .blob b ∧ x.wln = b.y1 ∧ x.frame = s.pickFrame ∧
      x.cell = none ∧ x.faults = 0) ∧
  (∀ s : State, s.comb.nextRow.1 = 0 → s.epochAfter 0 = none → exec .fieldTaskReady s = .next s) ∧
  (∀ (e r i : Nat) (st : Stage) (s : State), s.comb.nextRow = (e, r) → e ≠ 0 → s.lineReached e ((r + 1) * (s.deckOf e).fieldLines - 1) = true → (s.deckOf e).stageOf 0x01 1 = some (i, st) →
    ∃ t : State, exec .fieldTaskReady s = .next t ∧ t.comb.nextRow = (e, r + 1) ∧ (s.isShed i e ((r + 1) * (s.deckOf e).fieldLines - 1) = true → t.comb.tasks = s.comb.tasks) ∧
      (s.isShed i e ((r + 1) * (s.deckOf e).fieldLines - 1) = false → t.comb.tasks.map (fun x => (x.stage, x.epoch, x.input)) = s.comb.tasks.map (fun x => (x.stage, x.epoch, x.input)) ++
        (nodeTasks (s.deckOf e).nodes (max 1 (fld (wordAt st.param 0) 15 8)) 0 (s.deckOf e).nodes).map (fun n => (i, e, .nodes r n.1 n.2)))) ∧
  (∀ (stage : Nat) (s : State), s.comb.repeats = [] → exec (.repeatTaskReady stage) s = .next s) ∧
  (∀ (stage : Nat) (r : RepeatStart) (rest : List RepeatStart) (st : Stage) (s : State), s.comb.repeats = r :: rest → getN s.comb.repeatPtr stage 0 ≤ r.n → (s.deckOf r.epoch).stage stage = some st → st.trig = 2 →
    (s.lineReached r.epoch (r.wln + lastRegionLine st.param) = true → ∃ (t : State) (x : Task), exec (.repeatTaskReady stage) s = .next t ∧ t.comb.repeatPtr = setAt s.comb.repeatPtr stage (r.n + 1) ∧
      x.stage = stage ∧ x.input = .repeats r ∧ x.frame = s.pickFrame ∧ t.comb.tasks = (if s.isShed stage r.epoch (r.wln + lastRegionLine st.param) then s.comb.tasks else s.comb.tasks ++ [x])) ∧
    (s.lineReached r.epoch (r.wln + lastRegionLine st.param) = false → s.epochOver r.epoch = false → exec (.repeatTaskReady stage) s = .next s)) ∧
  (∀ s : State, s.print.verify = [] → exec .itemTaskReady s = .next s) ∧
  (∀ (i : VerItem) (rest : List VerItem) (k last : Nat) (st : Stage) (s : State), s.print.verify = i :: rest → (s.deckOf i.epoch).stageOf 0x20 3 = some (k, st) →
    last = (s.itemBox i).elim 0 (fun b => b.2.1 + fld (wordAt st.param 0) 15 8) →
    s.epochOver i.epoch = true ∨ s.comb.lines.any (fun l => l.epoch == i.epoch && decide (wposDiff l.wpos i.y1 > 0)) = true ∧ s.lineReached i.epoch last = true →
    ∃ (t : State) (x : Task), exec .itemTaskReady s = .next t ∧ t.print.verify = rest ∧ x.stage = k ∧ x.input = .item i ∧ x.frame = s.pickFrame ∧ x.wln = last ∧
      t.comb.tasks = (if s.isShed k i.epoch last then s.comb.tasks else s.comb.tasks ++ [x])) ∧
  (∀ (stage head : Nat) (s : State), (s.head head).log = [] → exec (.windowTaskReady stage head) s = .next s) ∧
  (∀ (stage head n y : Nat) (st : Stage) (p : WindowPtr) (l f : FiredLine) (s : State), p = s.comb.windowPtr stage head → (s.deckOf p.epoch).stage stage = some st → st.trig = 4 → bitAt (wordAt st.param 8) head = true →
    n = max 1 (fld (wordAt st.param 0) 31 16) → (s.head head).log.find? (fun x => x.epoch == p.epoch && x.k == (p.window + 1) * n - 1) = some l → s.sampleLine (s.deckOf p.epoch) head p.epoch l.label = (some y, true) →
    s.lineReached p.epoch y = true → f ∈ (s.head head).log → f.epoch = p.epoch → p.window * n ≤ f.k → f.k < (p.window + 1) * n → f.fired ≠ 0 →
    ∃ (t : State) (x : Task), exec (.windowTaskReady stage head) s = .next t ∧ { p with window := p.window + 1 } ∈ t.comb.windows ∧ x.stage = stage ∧ x.wln = y ∧ x.input = .window [(head, p.window * n, (p.window + 1) * n - 1)] ∧
      t.comb.tasks = (if s.isShed stage p.epoch y then s.comb.tasks else s.comb.tasks ++ [x])) ∧
  (∀ (stage : Nat) (s : State), s.comb.events = [] → exec (.eventTask stage) s = .next s) ∧
  (∀ (stage : Nat) (e : StageEvent) (rest : List StageEvent) (st : Stage) (s : State), s.comb.events = e :: rest → e.stage = stage → (s.deckOf e.epoch).stage stage = some st → st.op = 0x30 → s.lineReached e.epoch e.wln = true →
    ∃ (t : State) (x : Task), exec (.eventTask stage) s = .next t ∧ t.comb.events = rest ∧ x.stage = stage ∧ x.event = true ∧ x.wln = e.wln ∧ x.input = .window (s.eventWindows (s.deckOf e.epoch) st e.epoch e.wln) ∧
      t.comb.tasks = (if s.isShed stage e.epoch e.wln then s.comb.tasks else s.comb.tasks ++ [x]))

/-- TASK_DISPATCH, with every waiting task in a frame in service, runs the first waiting task in the order of R259 whose frame has an idle cell, on the lowest such cell; with nothing to run it changes no task. TASK_COMPLETE makes the task on the cell commit and leave, counted for the cell (or as withdrawn), and a blob's queue entry is released; a trap, TASK_WATCHDOG
and CELL_FAULT are faults: the task waits again for another cell and RETRIES counts, or at the third fault in a row leaves and DROPPED counts (a withdrawn task the same, and WITHDRAWN counts when it leaves); an error of a parameter word rewrites the frame's parameters; a corrected error only counts. Nothing happens on a cell without a task. SHED_EVALUATION sheds the stage of lowest rank left when a task is older than 2 ms, restores the last shed stage after ten calm evaluations, and counts calm ones. FRAME_CLOCK_CHANGE
takes one of four set points in a frame without a running task, within what derating allows; else nothing changes. -/
def Obligations.TasksRunCommitAndFault : Prop :=
  (∀ s : State, (∀ x ∈ s.comb.tasks, x.cell.isSome = true) → exec .taskDispatch s = .next s) ∧
  (∀ s : State, (∀ x ∈ s.comb.tasks, x.cell = none → s.placeTask x = x) → (∃ x ∈ s.comb.tasks, x.cell = none ∧ s.cellsFor x ≠ []) →
    ∃ (t : State) (x y : Task) (c : Nat), exec .taskDispatch s = .next t ∧ x ∈ s.comb.tasks ∧ x.cell = none ∧ (s.cellsFor x).head? = some c ∧ (∀ z ∈ s.comb.tasks, z.cell = none → s.cellsFor z ≠ [] → z.before x = false) ∧
      y.cell = some c ∧ y.out = some (x.out.getD (s.runTask x)) ∧ y.id = x.id ∧ y.input = x.input ∧ y.stage = x.stage ∧ t.comb.tasks = s.comb.tasks.map (fun z => if z.id = x.id then y else z) ∧ t.seg = s.seg ∧ t.recs = s.recs) ∧
  (∀ (cell code : Nat) (b p : Bool) (bad : List (Nat × Nat × Nat)) (s : State), s.sys.failed = false → s.taskOn cell = none →
    (∃ t : State, exec (.taskComplete cell bad) s = .next t ∧ t.comb = s.comb ∧ t.seg = s.seg ∧ (bad = [] → t.recs = s.recs)) ∧ exec (.taskWatchdog cell) s = .next s ∧ exec (.cellFault cell code b p) s = .next s) ∧
  (∀ (cell : Nat) (x : Task) (o : TaskOut) (bad : List (Nat × Nat × Nat)) (s : State), s.sys.failed = false → s.taskOn cell = some x → x.out = some o → o ≠ .trap →
    ∃ t : State, exec (.taskComplete cell bad) s = .next t ∧ t.comb.tasks = s.comb.tasks.filter (fun z => z.id != x.id) ∧ (x.withdrawn = true → t.comb.withdrawn = satInc s.comb.withdrawn ∧ t.seg = s.seg ∧ (bad = [] → t.recs = s.recs)) ∧
      (x.withdrawn = false → lookupN cell t.comb.tasksDone = some (satInc ((lookupN cell s.comb.tasksDone).getD 0)) ∧
        ∀ b r, x.input = .blob b → o = .blob r → t.seg.queue = s.seg.queue.filter (fun z => !(z.epoch == b.epoch && z.seq == b.seq)))) ∧
  (∀ (cell code : Nat) (p : Bool) (bad : List (Nat × Nat × Nat)) (i : Instr) (x : Task) (s y : State), s.sys.failed = false → s.taskOn cell = some x →
    (i = .taskWatchdog cell ∧ code = 2 ∧ y = s ∨ i = .cellFault cell code false p ∧ y = s ∨ i = .taskComplete cell bad ∧ x.out = some .trap ∧ code = 4 ∧ y = s.withBad bad) → (y.occur 7 cell code 0 (y.taskLine x)).1 = false →
    ∃ t : State, exec i s = .next t ∧ lookupN cell t.comb.cellFaults = some (satInc ((lookupN cell s.comb.cellFaults).getD 0)) ∧
      (x.faults < 2 → t.comb.retries = satInc s.comb.retries ∧ t.comb.tasks = s.comb.tasks.map (fun z => if z.id = x.id then { x with cell := none, faults := x.faults + 1, avoid := some cell } else z)) ∧
      (2 ≤ x.faults → t.comb.dropped = satInc s.comb.dropped ∧ t.comb.tasks = s.comb.tasks.filter (fun z => z.id != x.id) ∧ t.comb.withdrawn = (if x.withdrawn then satInc s.comb.withdrawn else s.comb.withdrawn))) ∧
  (∀ (cell code : Nat) (p : Bool) (x : Task) (s y : State), s.sys.failed = false → s.taskOn cell = some x → y = (if p then s.rewriteParam (cell / 16) x.epoch else s) → (y.occur 8 (cell / 16) 1 0 (y.taskLine x)).1 = false →
    ∃ t : State, exec (.cellFault cell code true p) s = .next t ∧ t.comb.frameFaults = updAt s.comb.frameFaults (cell / 16) satInc ∧ t.comb.fsEccUnc = updAt s.comb.fsEccUnc (cell / 16) satInc ∧ t.comb.cellFaults = s.comb.cellFaults ∧
      t.comb.paramRewrite = (if p then updAt s.comb.paramRewrite (cell / 16) satInc else s.comb.paramRewrite)) ∧
  (∀ (cell code : Nat) (b p : Bool) (s : State), ∃ t : State, exec (.cellFault cell code b p true) s = .next t ∧ t.comb.tasks = s.comb.tasks ∧ t.comb.fsEccCorr = (if b then updAt s.comb.fsEccCorr (cell / 16) satInc else s.comb.fsEccCorr) ∧
    (b = false → lookupN cell t.comb.cmEcc = some (satInc ((lookupN cell s.comb.cmEcc).getD 0)))) ∧
  (∀ (busy : Nat) (ages : List Nat) (s : State),
    (∀ i, 2000 < maxN ages → lowestRank (s.camDeck.sheddable.filter (fun x => !s.comb.shed.contains x.1)) = some i →
      ∃ (t : State) (k : Nat), exec (.shedEvaluation busy ages) s = .next t ∧ t.comb.shed = s.comb.shed ++ [i] ∧ t.comb.calm = 0 ∧ t.comb.sheds = updAt s.comb.sheds i satInc ∧ t.comb.shedSpans = { stage := i, start := (s.deck.epoch, s.pos.wln) } :: s.comb.shedSpans ∧
        (i, k) ∈ s.camDeck.sheddable ∧ ¬ i ∈ s.comb.shed ∧ ∀ y ∈ s.camDeck.sheddable, ¬ y.1 ∈ s.comb.shed → k ≤ y.2) ∧
    (maxN ages < 500 → busy < 75 → s.comb.calm + 1 < 10 → ∃ t : State, exec (.shedEvaluation busy ages) s = .next t ∧ t.comb = { s.comb with calm := s.comb.calm + 1 }) ∧
    (∀ pre i, maxN ages < 500 → busy < 75 → 10 ≤ s.comb.calm + 1 → s.comb.shed = pre ++ [i] → ∃ t : State, exec (.shedEvaluation busy ages) s = .next t ∧ t.comb.shed = pre ∧ t.comb.calm = 0) ∧
    (maxN ages ≤ 2000 → 75 ≤ busy ∨ 500 ≤ maxN ages → ∃ t : State, exec (.shedEvaluation busy ages) s = .next t ∧ t.comb = { s.comb with calm := 0 })) ∧
  (∀ (frame mhz : Nat) (s : State), (∀ x ∈ s.comb.tasks, ∀ c, x.cell = some c → c / 16 ≠ frame) → mhz ∈ [1200, 1000, 800, 600] → mhz ≤ s.clockLimit →
    exec (.frameClockChange frame mhz) s = .next { s with comb := { s.comb with clock := setAt s.comb.clock frame mhz } }) ∧
  (∀ (frame mhz : Nat) (s : State), (∃ x ∈ s.comb.tasks, ∃ c, x.cell = some c ∧ c / 16 = frame) ∨ ¬ mhz ∈ [1200, 1000, 800, 600] ∨ s.clockLimit < mhz → exec (.frameClockChange frame mhz) s = .next s)

/-- MARKER_ACTIVATE takes from the marker's queue exactly the decisions whose p0 plus the marker's offset H has reached. In gate mode those whose end has not passed join the open gates; in pulse mode the output goes active for at least WIDTH times 100 ns from now for each of them. Other markers, and position, stay as they are. MARKER_DEACTIVATE closes the gates whose end has been
reached, or, with none, ends the pulse; the output is active afterwards just while a gate is open or a pulse runs. STATION_SWITCH, once H has reached Ws plus the marker's offset in a swap that waits for it, takes the marker from those that wait, gives it the new epoch while the camera bar still has the old one, and ends the swap when it was the last; before that, and without a swap, it does nothing. -/
def Obligations.MarkersActAndStationsSwitch : Prop :=
  (∀ (m : Nat) (s : State), m < s.mark.marker.length → (∀ q ∈ (s.marker m).queue, s.reached m q.p0 = true → (s.deckOf q.epoch).markMode m = 1) →
    ∃ t : State, exec (.markerActivate m) s = .next t ∧ (t.marker m).queue = (s.marker m).queue.filter (fun q => !s.reached m q.p0) ∧
      (t.marker m).gates = (s.marker m).gates ++ ((s.marker m).queue.filter (fun q => s.reached m q.p0)).filter (fun q => !s.reached m q.p1) ∧ (t.marker m).pulseEnd = (s.marker m).pulseEnd ∧
      (∀ k, k ≠ m → t.marker k = s.marker k) ∧ t.pos = s.pos ∧ t.recs = s.recs) ∧
  (∀ (m : Nat) (s : State), m < s.mark.marker.length → (∀ q ∈ (s.marker m).queue, s.reached m q.p0 = true → (s.deckOf q.epoch).markMode m ≠ 1) → (∃ q ∈ (s.marker m).queue, s.reached m q.p0 = true) →
    ∃ (t : State) (e : Nat), exec (.markerActivate m) s = .next t ∧ (t.marker m).queue = (s.marker m).queue.filter (fun q => !s.reached m q.p0) ∧ (t.marker m).gates = (s.marker m).gates ∧ (t.marker m).active = true ∧
      (t.marker m).pulseEnd = some e ∧ (∀ q ∈ (s.marker m).queue, s.reached m q.p0 = true → s.now + 20 * (s.deckOf q.epoch).markWidth m ≤ e) ∧ (∀ x, (s.marker m).pulseEnd = some x → x ≤ e) ∧ (∀ k, k ≠ m → t.marker k = s.marker k)) ∧
  (∀ (m : Nat) (s : State), m < s.mark.marker.length → ∃ t : State, exec (.markerDeactivate m) s = .next t ∧ (t.marker m).gates = (s.marker m).gates.filter (fun q => !s.reached m q.p1) ∧
    (t.marker m).active = (!(t.marker m).gates.isEmpty || (t.marker m).pulseEnd.isSome) ∧ (t.marker m).queue = (s.marker m).queue ∧ ((∀ q ∈ (s.marker m).gates, s.reached m q.p1 = false) → (t.marker m).pulseEnd = none) ∧
    ((∃ q ∈ (s.marker m).gates, s.reached m q.p1 = true) → (t.marker m).pulseEnd = (s.marker m).pulseEnd) ∧ (∀ k, k ≠ m → t.marker k = s.marker k) ∧ t.pos = s.pos) ∧
  (∀ (m : Nat) (s : State), s.deck.swap = none → exec (.stationSwitch m) s = .next s) ∧
  (∀ (m : Nat) (w : Swap) (s : State), s.deck.swap = some w → ¬ Station.marker m ∈ w.waiting ∨ s.highWpos < w.here + s.profile.current.markOff m → exec (.stationSwitch m) s = .next s) ∧
  (∀ (m : Nat) (w : Swap) (s : State), s.deck.swap = some w → Station.marker m ∈ w.waiting → w.here + s.profile.current.markOff m ≤ s.highWpos →
    ∃ t : State, exec (.stationSwitch m) s = .next t ∧ t.pos = s.pos ∧ t.mark = s.mark ∧ ((∀ x ∈ w.waiting, x = .marker m) → t.deck.swap = none ∧ t.deck.stationEpoch = []) ∧
      ((∃ x ∈ w.waiting, x ≠ .marker m) → t.deck.swap = some { w with begun := true, waiting := w.waiting.filter (fun x => x != .marker m) } ∧ t.epochAt (.marker m) = s.swapEpoch w))

/-- HEAD_LINE_TRIGGER outside a swap: a head that runs, whose next threshold H has reached with T_line since its previous trigger, and that is not behind by two lines, triggers that line and goes on to the next, also where its line buffer has an error, which then is an occurrence of code 3 at the head; one that is not due or does not run keeps its line. HEAD_LINE_START of a running head without a prepared line prepares line k; HEAD_LINE_REPREPARE prepares afresh a line that
has waited 1 ms. BITMAP_BURST_DONE gives an item the row it lacks. HEAD_GATE_ASSERT sets the gate, and HSEN goes low: at every wired head for ESTOP, at its own head for HOPEN; a gate function without a pin in the profile does nothing; HEAD_GATE_CLEAR clears it, the head waiting for GATE_REARM_EXPIRY, after which HSEN rises where nothing else holds it; HSEN_SETTLE_EXPIRY makes the head ready. SPEED_EVALUATION in a print mode requests the least
of the speeds that the groups' levels ask for, and no request elsewhere. SPD_HOLD_EXPIRY ends the hold. -/
def Obligations.HeadsPrintTheirLines : Prop :=
  (∀ (h tick : Nat) (s : State), s.deck.swap = none → (s.head h).on = false ∨ (s.reachTick tick).lineDue h = false ∧ (s.reachTick tick).pos.h < (s.reachTick tick).afterNextAtH h → ∀ b, exec (.headLineTrigger h tick b) s = .next (s.reachTick tick)) ∧
  (∀ (h tick : Nat) (s : State), s.deck.swap = none → h < s.print.head.length → (s.head h).on = true → (s.reachTick tick).lineDue h = true → (s.reachTick tick).pos.h < (s.reachTick tick).afterNextAtH h →
    ∃ t : State, exec (.headLineTrigger h tick) s = .next t ∧ (t.head h).k = (s.head h).k + 1 ∧ (t.head h).prep = none ∧ (t.head h).lastTrig = some (max s.now tick) ∧ (t.head h).on = true ∧ (t.head h).epoch = (s.head h).epoch ∧ (t.head h).hsen = (s.head h).hsen ∧
      (∀ j, j ≠ h → (t.head j).k = (s.head j).k ∧ (t.head j).hsen = (s.head j).hsen) ∧ t.deck = s.deck) ∧
  (∀ (h tick : Nat) (s : State), s.deck.swap = none → h < s.print.head.length → (s.head h).on = true → (s.reachTick tick).lineDue h = true → (s.reachTick tick).pos.h < (s.reachTick tick).afterNextAtH h →
    ∃ t : State, exec (.headLineTrigger h tick true) s = .next (t.headOccur h 3) ∧ (t.head h).k = (s.head h).k + 1 ∧ (t.head h).prep = none ∧ (t.head h).lastTrig = some (max s.now tick) ∧ t.deck = s.deck) ∧
  (∀ (h tick : Nat) (b : Bool) (s : State), (s.head h).on = false ∨ (s.head h).prep.isSome = true → b = false ∨ s.sys.failed = false → exec (.headLineStart h tick b) s = .next (s.reachTick tick)) ∧
  (∀ (h tick : Nat) (s : State), ∃ t : State, exec (.headLineStart h tick true) s = .next t) ∧
  (∀ (h tick : Nat) (s : State), s.deck.swap = none → h < s.print.head.length → (s.head h).on = true → (s.head h).prep = none → (s.head h).returning = false →
    (s.reachTick tick).isUpstream h = false ∨ ((s.reachTick tick).fetch (((s.reachTick tick).headDeck h).groupLead h) (s.head h).epoch (s.head h).k).isSome = true →
    ∃ (t : State) (l : PrepLine), exec (.headLineStart h tick) s = .next t ∧ (t.head h).prep = some l ∧ l.epoch = (s.head h).epoch ∧ l.k = (s.head h).k ∧ l.start = max s.now tick ∧ (t.head h).k = (s.head h).k) ∧
  (∀ (h tick : Nat) (s : State), h < s.print.head.length → (s.head h).on = true → ∀ l, (s.head h).prep = some l →
    (l.start + msTicks ≤ max s.now tick → ∃ (t : State) (x : PrepLine), exec (.headLineReprepare h tick) s = .next t ∧ (t.head h).prep = some x ∧ x.k = (s.head h).k ∧ x.start = max s.now tick) ∧
    (max s.now tick < l.start + msTicks → exec (.headLineReprepare h tick) s = .next (s.reachTick tick))) ∧
  (∀ (lead item row : Nat) (s : State), (∀ i ∈ (s.queueOf lead).items, i.itemId ≠ item) → exec (.bitmapBurstDone lead item row true) s = .next s ∧ (s.sys.failed = false → exec (.bitmapBurstDone lead item row false) s = .next s)) ∧
  (∀ (lead item row : Nat) (i : PrintItem) (s : State), lead < s.print.queue.length → (s.queueOf lead).items.find? (fun i => i.itemId == item && decide (row < i.height) && (lookupN row i.rows).isNone) = some i →
    ∃ t : State, exec (.bitmapBurstDone lead item row true) s = .next t ∧ (t.queueOf lead).items = (s.queueOf lead).items.map (fun x => if x.index = i.index then { x with rows := x.rows ++ [(row, s.bitmapRow i row)] } else x)) ∧
  (∀ s : State, s.print.estop = false → s.profile.current.ioPin 0 ≠ 0xFF → s.print.head.length = 8 → ∃ t : State, exec (.headGateAssert .estop) s = .next t ∧ t.print.estop = true ∧ t.print.estopHeld = true ∧ ∀ h < 8, s.profile.current.headWired h = true → (t.head h).hsen = false) ∧
  (∀ (h : Nat) (s : State), h < s.print.head.length → (s.head h).hopen = false → ∃ t : State, exec (.headGateAssert (.hopen h)) s = .next t ∧ (t.head h).hopen = true ∧ (t.head h).hsen = false ∧ ∀ j, j ≠ h → (t.head j).hsen = (s.head j).hsen) ∧
  (∀ s : State, (s.print.webAbsent = false → s.profile.current.ioPin 1 ≠ 0xFF → ∃ t : State, exec (.headGateAssert .webAbsent) s = .next t ∧ t.print.webAbsent = true ∧ ∀ j, (t.head j).hsen = (s.head j).hsen) ∧
    (s.print.jam = false → s.profile.current.ioPin 2 ≠ 0xFF → ∃ t : State, exec (.headGateAssert .jam) s = .next t ∧ t.print.jam = true ∧ ∀ j, (t.head j).hsen = (s.head j).hsen)) ∧
  (∀ s : State, (s.print.webAbsent = true ∨ s.profile.current.ioPin 1 = 0xFF → exec (.headGateAssert .webAbsent) s = .next s) ∧ (s.print.jam = true ∨ s.profile.current.ioPin 2 = 0xFF → exec (.headGateAssert .jam) s = .next s) ∧
    (s.print.estop = true ∨ s.profile.current.ioPin 0 = 0xFF → exec (.headGateAssert .estop) s = .next s) ∧
    ∀ h, (s.head h).hopen = true → exec (.headGateAssert (.hopen h)) s = .next s) ∧
  (∀ (h : Nat) (s : State), h < s.print.head.length → (s.head h).hopen = true → ∃ t : State, exec (.headGateClear (.hopen h)) s = .next t ∧ (t.head h).hopen = false ∧ (t.head h).hopenHeld = true ∧ (t.head h).hsen = (s.head h).hsen) ∧
  (∀ s : State, s.print.head.length = 8 → (s.print.webAbsent = true → ∃ t : State, exec (.headGateClear .webAbsent) s = .next t ∧ t.print.webAbsent = false ∧ ∀ h < 8, (t.head h).webHeld = true) ∧
    (s.print.jam = true → ∃ t : State, exec (.headGateClear .jam) s = .next t ∧ t.print.jam = false ∧ ∀ h < 8, (t.head h).webHeld = true) ∧ ∃ t : State, exec (.headGateClear .estop) s = .next t ∧ t.print.estop = false ∧ t.print.estopHeld = s.print.estopHeld) ∧
  (∀ (h : Nat) (s : State), h < s.print.head.length → ∃ t : State, exec (.gateRearmExpiry h) s = .next t ∧ (t.head h).hopenHeld = ((s.head h).hopenHeld && (s.head h).hopen) ∧
    (t.head h).webHeld = ((s.head h).webHeld && !(!s.print.webAbsent && !s.print.jam)) ∧
    ((s.head h).on = true → (s.head h).hopen = false → s.print.estop = false → s.print.estopHeld = false → s.power.brownout = false → s.isRetired 9 h = false → (t.head h).hsen = true)) ∧
  (∀ (h : Nat) (s : State), h < s.print.head.length → ∃ t : State, exec (.hsenSettleExpiry h) s = .next t ∧ ((s.head h).hsen = true → (t.head h).ready = true ∧ (t.head h).prep = none) ∧ ((s.head h).hsen = false → t.head h = s.head h)) ∧
  (∀ s : State, s.sys.lineMode.isPrint = false → ∃ t : State, exec .speedEvaluation s = .next t ∧ t.print.request = none ∧ t.print.level = s.print.level ∧ t.print.head = s.print.head) ∧
  (∀ s : State, s.sys.lineMode.isPrint = true → ∃ (t : State) (x : Nat), exec .speedEvaluation s = .next t ∧ t.print.request = some x ∧ t.print.head = s.print.head ∧ (∀ l ∈ s.leadsOn, x ≤ s.camDeck.levelSpeed (getN t.print.level l 0)) ∧
    (s.print.spdHold = true → x ≤ s.camDeck.levelSpeed 4)) ∧
  (∀ s : State, ∃ t : State, exec .spdHoldExpiry s = .next t ∧ t.print.spdHold = false ∧ t.print.request = s.print.request ∧ t.print.head = s.print.head)

/-- AUTH_RESPONSE, USAGE_WRITE_DONE and AUTH_RETRY_TIMEOUT. Outside the exchange they belong to they change nothing, and a NACK repeats the read. An answer in an authentication whose MAC is right under the key of the head's slot, and whose COUNT does not roll back, makes the head OK and adopts COUNT, confirmed; a wrong MAC fails it with reason 2, a roll-back
with 3, an empty key slot with 4, and the third attempt lost with 1. An attempt lost before the third counts and sends a new challenge with a fresh nonce. The fresh authentication of a usage write that answers the count written, with the right MAC, for the same chip, confirms that count; anything else confirms nothing, and the head's own count stays in every case. The head is idle afterwards where nothing waits on its bus. -/
def Obligations.ChipAnswersAuthenticate : Prop :=
  (∀ (h : Nat) (r : ChipReply) (s : State), ((s.head h).chip.phase ≠ 1 → exec (.authResponse h r) s = .next s) ∧ ((s.head h).chip.phase ≠ 2 → exec (.usageWriteDone h r) s = .next s) ∧ ((s.head h).chip.phase = 0 → exec (.authRetryTimeout h) s = .next s)) ∧
  (∀ (h : Nat) (s : State), ((s.head h).chip.phase = 1 → exec (.authResponse h .nack) s = .next (s.emit (.chipWrite h (s.profile.current.authAddr h) [0x02]))) ∧ ((s.head h).chip.phase = 2 → exec (.usageWriteDone h .nack) s = .next (s.emit (.chipWrite h (s.profile.current.authAddr h) [0x02])))) ∧
  (∀ (h id count : Nat) (key : List Byte) (s : State), h < s.print.head.length → (s.head h).chip.phase = 1 → s.headKey h = some key → ((s.head h).chip.chipId = some id → (s.head h).chip.count ≤ count) →
    ∃ t : State, exec (.authResponse h (.answer id count (chipMac 0x41 key (s.head h).chip.nonce id count))) s = .next t ∧ (t.head h).chip.auth = 1 ∧ (t.head h).chip.chipId = some id ∧ (t.head h).chip.count = count ∧ (t.head h).chip.confirmed = count ∧
      (t.head h).chip.okNonce = (s.head h).chip.nonce ∧ ((s.head h).chip.authDue = false → (s.head h).chip.writeDue = false → (t.head h).chip.phase = 0)) ∧
  (∀ (h id count : Nat) (mac : List Byte) (s : State), h < s.print.head.length → (s.head h).chip.phase = 1 →
    (s.headKey h = none ∨ (∃ key, s.headKey h = some key ∧ mac ≠ chipMac 0x41 key (s.head h).chip.nonce id count) ∨ (∃ key, s.headKey h = some key ∧ mac = chipMac 0x41 key (s.head h).chip.nonce id count ∧ (s.head h).chip.chipId = some id ∧ count < (s.head h).chip.count)) →
    ∃ t : State, exec (.authResponse h (.answer id count mac)) s = .next t ∧ (t.head h).chip.auth = 2 ∧ (t.head h).chip.count = (s.head h).chip.count ∧ (t.head h).chip.confirmed = (s.head h).chip.confirmed ∧
      (s.headKey h = none → (t.head h).chip.reason = 4) ∧ (∀ key, s.headKey h = some key → mac ≠ chipMac 0x41 key (s.head h).chip.nonce id count → (t.head h).chip.reason = 2) ∧
      (∀ key, s.headKey h = some key → mac = chipMac 0x41 key (s.head h).chip.nonce id count → (t.head h).chip.reason = 3)) ∧
  (∀ (h : Nat) (s : State), h < s.print.head.length → (s.head h).chip.phase ≠ 0 → (s.head h).chip.attempts < 2 →
    ∃ t : State, exec (.authRetryTimeout h) s = .next t ∧ (t.head h).chip.attempts = (s.head h).chip.attempts + 1 ∧ (t.head h).chip.phase = (s.head h).chip.phase ∧ (t.head h).chip.count = (s.head h).chip.count ∧
      (t.head h).chip.nonce = (upto 32).map (Config.nonceByte s.free) ∧ ((s.head h).chip.phase = 1 → exec (.authResponse h .busError) s = .next t) ∧ ((s.head h).chip.phase = 2 → exec (.usageWriteDone h .busError) s = .next t)) ∧
  (∀ (h : Nat) (s : State), h < s.print.head.length → (s.head h).chip.phase ≠ 0 → 2 ≤ (s.head h).chip.attempts →
    ∃ t : State, exec (.authRetryTimeout h) s = .next t ∧ (t.head h).chip.count = (s.head h).chip.count ∧ (t.head h).chip.confirmed = (s.head h).chip.confirmed ∧ ((s.head h).chip.phase ≠ 2 → (t.head h).chip.auth = 2 ∧ (t.head h).chip.reason = 1)) ∧
  (∀ (h id count : Nat) (mac : List Byte) (s : State), h < s.print.head.length → (s.head h).chip.phase = 2 →
    ∃ t : State, exec (.usageWriteDone h (.answer id count mac)) s = .next t ∧ (t.head h).chip.count = (s.head h).chip.count ∧ (t.head h).chip.auth = (s.head h).chip.auth ∧
      (∀ key, s.headKey h = some key → mac = chipMac 0x41 key (s.head h).chip.nonce id count → (s.head h).chip.chipId = some id → count = (s.head h).chip.written → (t.head h).chip.confirmed = count ∧ (t.head h).chip.okNonce = (s.head h).chip.nonce) ∧
      ((s.headKey h = none ∨ (s.head h).chip.chipId ≠ some id ∨ count ≠ (s.head h).chip.written) → (t.head h).chip.confirmed = (s.head h).chip.confirmed))

/-- ETH_FRAME_RX at a port: dropped and counted while its link is down; a bad FCS or a length outside the limits, a PAUSE frame and a frame from the device's own MAC address each count, as does one that finds no space in the buffer or an error in it; a good unicast frame learned at the other port leaves there, and its source is learned. MAC_AGEING forgets an address. ETH_LINK_CHANGE sets the link, up only where the profile enables the port. PTP_SYNC of the
followed master gives the offset, clears the lock at four times LOCK_NS, and of another sender or over another transport changes nothing; PTP_ANNOUNCE_TIMEOUT, unless an announce arrived in the same tick, ends the lock, and masters with ROLE 2; PTP_SYNC_SEND sends where the device masters, PTP_DELAY_REQ_SEND where it follows. HELLO is kept, one per address, and answered when it is no reply; one of another major or too short counts in PEER_DROP. HELLO_TIMER
sends a HELLO or, with HELLO_S 0, nothing. BULK from an address that no ALLOW entry matches counts in DENIED_SRC; into a reservation that takes it, it writes its bytes; otherwise it writes nothing and counts in BULK_REJECT. SPD_REFRESH_TIMER sends where SPEED_EN is set and changes no other part of the machine. -/
def Obligations.NetworkForwardsAndAnswers : Prop :=
  (∀ (port : Nat) (f : EthFrame) (s : State), port < s.net.ports.length → port ≤ 1 → s.fault.netUnusable = false → s.net.switchUp = false ∨ (getN s.net.ports port {}).link = false →
    ∃ t : State, exec (.ethFrameRx port f) s = .next t ∧ (getN t.net.ports port {}).drop = satInc (getN s.net.ports port {}).drop ∧ t.net.macTable = s.net.macTable ∧ t.out = s.out) ∧
  (∀ (port : Nat) (f : EthFrame) (s : State), port < s.net.ports.length → port ≤ 1 → s.fault.netUnusable = false → s.net.switchUp = true → (getN s.net.ports port {}).link = true →
    (f.fcsOk = false ∨ f.len < 64 ∨ f.len > (if s.profile.current.jumbo = true then 9022 else 1522) → ∃ t : State, exec (.ethFrameRx port f) s = .next t ∧ (getN t.net.ports port {}).fcs = satInc (getN s.net.ports port {}).fcs ∧ (getN t.net.ports port {}).rx = (getN s.net.ports port {}).rx ∧ t.out = s.out) ∧
    (f.fcsOk = true → 64 ≤ f.len → f.len ≤ 1522 → f.pause = true → ∃ t : State, exec (.ethFrameRx port f) s = .next t ∧ (getN t.net.ports port {}).pause = satInc (getN s.net.ports port {}).pause ∧ t.net.macTable = s.net.macTable ∧ t.out = s.out) ∧
    (f.fcsOk = true → 64 ≤ f.len → f.len ≤ 1522 → f.pause = false → f.src = s.ownMac → ∃ t : State, exec (.ethFrameRx port f) s = .next t ∧ (getN t.net.ports port {}).loopsrc = satInc (getN s.net.ports port {}).loopsrc ∧ t.net.macTable = s.net.macTable ∧ t.out = s.out) ∧
    (f.fcsOk = true → 64 ≤ f.len → f.len ≤ 1522 → f.pause = false → f.src ≠ s.ownMac → f.noSpace = true → ∃ t : State, exec (.ethFrameRx port f) s = .next t ∧ (getN t.net.ports port {}).drop = satInc (getN s.net.ports port {}).drop ∧ (getN t.net.ports port {}).rx = satInc (getN s.net.ports port {}).rx ∧ t.out = s.out) ∧
    (f.fcsOk = true → 64 ≤ f.len → f.len ≤ 1522 → f.pause = false → f.src ≠ s.ownMac → f.noSpace = false → f.bufferError = true → ∃ t : State, exec (.ethFrameRx port f) s = .next t ∧ t.net.netEcc = satInc s.net.netEcc ∧ (getN t.net.ports port {}).rx = satInc (getN s.net.ports port {}).rx ∧ t.out = s.out)) ∧
  (∀ (port o : Nat) (f : EthFrame) (s : State), port ≤ 1 → o < s.net.ports.length → o ≤ 1 → o ≠ port → s.fault.netUnusable = false → s.net.switchUp = true → (getN s.net.ports port {}).link = true → (getN s.net.ports o {}).link = true →
    f.fcsOk = true → f.pause = false → f.src ≠ s.ownMac → f.noSpace = false → f.bufferError = false → 64 ≤ f.len → f.len ≤ 1522 → f.multicast = false → f.dst ≠ s.ownMac → f.dst ≠ f.src → lookupN f.dst s.net.macTable = some o → f.ptpEvent = 0 → s.net.macTable.length < 1024 →
    ∃ t : State, exec (.ethFrameRx port f) s = .next t ∧ t.out = s.out ++ [.ethFrame o f] ∧ (getN t.net.ports o {}).tx = satInc (getN s.net.ports o {}).tx ∧ lookupN f.src t.net.macTable = some port ∧ lookupN f.dst t.net.macTable = some o) ∧
  (∀ (mac : Nat) (s : State), ∃ t : State, exec (.macAgeing mac) s = .next t ∧ lookupN mac t.net.macTable = none ∧ (∀ m, m ≠ mac → lookupN m t.net.macTable = lookupN m s.net.macTable) ∧ t.net.ports = s.net.ports) ∧
  (∀ (port : Nat) (up : Bool) (s : State), port < s.net.ports.length → ∃ t : State, exec (.ethLinkChange port up) s = .next t ∧ (getN t.net.ports port {}).link = (up && s.profile.current.ethEn port) ∧ ∀ j, j ≠ port → getN t.net.ports j {} = getN s.net.ports j {}) ∧
  (∀ (port src : Nat) (ns : Int) (udp : Bool) (s : State), s.net.master = some src → s.profile.current.ptpTakes udp = true → s.net.mastering = false → s.profile.current.ptpRole ≠ 0 → s.fault.netUnusable = false → s.net.delays ≠ [] →
    ∃ t : State, exec (.ptpSync port ns src udp) s = .next t ∧ t.net.offset = (s.net.clock / 2 ^ 32 : Nat) - (s.profile.current.ingressLat port : Nat) - ns - meanDelay s.net.delays ∧ t.net.master = some src ∧
      (4 * s.profile.current.lockNs ≤ t.net.offset.natAbs → t.net.locked = false) ∧ (s.net.locked = true → t.net.offset.natAbs < 4 * s.profile.current.lockNs → t.net.offset.natAbs < s.profile.current.stepNs → t.net.locked = true)) ∧
  (∀ (port src : Nat) (ns : Int) (udp : Bool) (s : State), s.net.master ≠ some src ∨ s.profile.current.ptpTakes udp = false ∨ s.net.mastering = true ∨ s.profile.current.ptpRole = 0 → exec (.ptpSync port ns src udp) s = .next s) ∧
  (∀ s : State, ∃ t : State, exec .ptpAnnounceTimeout s = .next t ∧ t.net.master = none ∧ t.net.locked = false ∧ t.net.mastering = (s.profile.current.ptpRole == 2) ∧ t.net.clock = s.net.clock ∧ exec (.ptpAnnounceTimeout true) s = .next s) ∧
  (∀ s : State, (s.net.mastering = true ∧ s.profile.current.ptpRole = 2 → ∃ t : State, exec .ptpSyncSend s = .next t ∧ t.net.clock = s.net.clock ∧ t.net.macTable = s.net.macTable ∧ (s.net.ports.any (·.link) = false → t.out = s.out) ∧
      (s.fault.netUnusable = false → s.net.ports.any (·.link) = true → t.out = s.out ++ [.ownFrame (Config.frameBytes [2, s.time, s.profile.current.ptpTransport]) s.ownTag] ∧ t.net.ports = s.net.ports.map (fun p => if p.link then { p with tx := satInc p.tx } else p))) ∧
    (s.net.mastering = false ∨ s.profile.current.ptpRole ≠ 2 → exec .ptpSyncSend s = .next s)) ∧
  (∀ s : State, (s.net.master.isSome = true ∧ s.net.mastering = false ∧ s.profile.current.ptpRole ≠ 0 → ∃ t : State, exec .ptpDelayReqSend s = .next t ∧ t.net.delayReqOut = true ∧ (s.net.ports.any (·.link) = false → t.out = s.out) ∧
      (s.fault.netUnusable = false → s.net.ports.any (·.link) = true → t.out = s.out ++ [.ownFrame (Config.frameBytes [3, s.time, s.profile.current.ptpTransport]) s.ownTag])) ∧
    (s.net.master = none ∨ s.net.mastering = true ∨ s.profile.current.ptpRole = 0 → exec .ptpDelayReqSend s = .next s)) ∧
  (∀ (a mj mn len v : Nat) (reply : Bool) (s : State), s.profile.current.ipv4 ≠ 0 → s.fault.netUnusable = false →
    (1 < mj ∨ len < 24 → ∃ t : State, exec (.hello a mj mn len v reply) s = .next t ∧ t.net.peerDrop = satInc s.net.peerDrop ∧ t.net.hellos = s.net.hellos ∧ t.out = s.out) ∧
    (mj ≤ 1 → 24 ≤ len → ∃ t : State, exec (.hello a mj mn len v reply) s = .next t ∧ t.net.hellos = { addr := a, pmajor := mj, pminor := mn, hifVersion := v } :: s.net.hellos.filter (fun x => x.addr != a) ∧ t.net.peerDrop = s.net.peerDrop ∧ (reply = true → t.out = s.out))) ∧
  (∀ s : State, (s.profile.current.helloS = 0 → exec .helloTimer s = .next s) ∧ (s.profile.current.helloS ≠ 0 → ∃ t : State, exec .helloTimer s = .next t ∧ t.net.hellos = s.net.hellos ∧ t.net.clock = s.net.clock ∧
    (s.net.ports.any (·.link) = false → t.out = s.out))) ∧
  (∀ (a port hd kind off : Nat) (data : List Byte) (s : State), s.profile.current.ipv4 ≠ 0 → s.fault.netUnusable = false → s.profile.current.allows a = false →
    ∃ t : State, exec (.bulk a port hd kind off data) s = .next t ∧ t.net.deniedSrc = satInc s.net.deniedSrc ∧ t.mem = s.mem ∧ t.out = s.out) ∧
  (∀ (a port hd kind off : Nat) (data : List Byte) (s : State), s.profile.current.ipv4 ≠ 0 → s.fault.netUnusable = false → s.profile.current.allows a = true →
    (∀ b len, s.bulkTarget hd kind = some (b, len, true) → data.length % 4 = 0 → data.length ≤ 1408 → off + data.length ≤ len →
      ∃ t : State, exec (.bulk a port hd kind off data) s = .next t ∧ t.mem = (s.write (b + off) data).mem ∧ t.net.bulkReject = s.net.bulkReject) ∧
    ((s.bulkTarget hd kind = none ∨ ∃ b len ok, s.bulkTarget hd kind = some (b, len, ok) ∧ (data.length % 4 ≠ 0 ∨ len < off + data.length ∨ ok = false)) →
      ∃ t : State, exec (.bulk a port hd kind off data) s = .next t ∧ t.mem = s.mem ∧ t.net.bulkReject = satInc s.net.bulkReject)) ∧
  (∀ s : State, ∃ t : State, exec .spdRefreshTimer s = .next t ∧ t.print = s.print ∧ (s.camDeck.speedEn = false → t = s))

/-- LINK_TRAIN_RETRY starts training where the role, the logic and no lane test forbid it and the link is down. TRAIN, in training: with a usable data lane and the clock lane in each direction the link is up on the lowest power of two of the good lanes, with its rate, LAT_NS half the round trip, and TRAINS and, at equal roles, ROLECONFLICT counted; without a clock lane the link is down again, and without a data lane training goes on at the next lower rate while there is one.
LINK_DOWN takes a link that is up or in training down, with no lane in use, and splits a joined pair with cause 1. PAIRINFO gives the right device WIDTH, pitch and position pitch of the left one. VIADUCT_MBX queues the peer's request, and takes the answer to this device's own out of those that wait. LANES moves the transmit lanes; below 6 Gb/s a joined pair splits with cause 3.
A replay of this device's own counts and asks the peer from the message named; one of the peer's sends again. POS_SEND_TIMER sends POS on the primary of a joined pair. None of these does anything while the link it needs is not up. -/
def Obligations.PairingLinkTrainsAndFails : Prop :=
  (∀ s : State, (s.mayTrain = true → s.vd.link = 0 → ∃ t : State, exec .linkTrainRetry s = .next t ∧ t.vd.link = 1 ∧ t.vd.pair = s.vd.pair ∧ t.out = s.out) ∧ (s.mayTrain = false ∨ s.vd.link ≠ 0 → exec .linkTrainRetry s = .next s)) ∧
  (∀ (v role good chip own rtt st : Nat) (s : State), s.vd.link = 1 → s.mayTrain = true →
    (lanesUsed good ≠ 0 → lanesUsed (s.liveLanes own) ≠ 0 → bitAt good 8 = true → bitAt (s.liveLanes own) 8 = true →
      ∃ t : State, exec (.train v role good chip own rtt st) s = .next t ∧ t.vd.link = 2 ∧ t.vd.rate = s.vd.trainRate ∧ t.vd.tx = lanesUsed good ∧ t.vd.rx = lanesUsed (s.liveLanes own) ∧ t.vd.latNs = (rtt + 1) / 2 ∧ t.vd.peerChip = chip ∧
        t.vd.peerVersion = v ∧ t.vd.trains = satInc s.vd.trains ∧ t.vd.roleConflict = (if role = s.vdRole then satInc s.vd.roleConflict else s.vd.roleConflict)) ∧
    (bitAt good 8 = false ∨ bitAt (s.liveLanes own) 8 = false → exec (.train v role good chip own rtt st) s = .next { s with vd := { s.vd with link := 0 } }) ∧
    (lanesUsed good = 0 ∨ lanesUsed (s.liveLanes own) = 0 → bitAt good 8 = true → bitAt (s.liveLanes own) 8 = true →
      (lowerRate s.vd.trainRate = 0 → exec (.train v role good chip own rtt st) s = .next { s with vd := { s.vd with link := 0 } }) ∧
      (lowerRate s.vd.trainRate ≠ 0 → exec (.train v role good chip own rtt st) s = .next { s with vd := { s.vd with trainRate := lowerRate s.vd.trainRate } }))) ∧
  (∀ (v role good chip own rtt st : Nat) (s : State), s.vd.link ≠ 1 ∨ s.mayTrain = false → exec (.train v role good chip own rtt st) s = .next s) ∧
  (∀ s : State, (s.vd.link = 1 ∨ s.vd.link = 2 → ∃ t : State, exec .linkDown s = .next t ∧ (s.vd.pair ≠ 2 → t.vd.link = 0 ∧ t.vd.tx = 0 ∧ t.vd.rx = 0 ∧ t.vd.pair = s.vd.pair) ∧ (s.vd.pair = 2 → t.vd.pair = 1 ∧ t.vd.splitCause = 1)) ∧
    (s.vd.link = 0 ∨ s.vd.link = 3 → exec .linkDown s = .next s)) ∧
  (∀ (e w p u : Nat) (s : State), (s.vdRole = 2 → s.vd.link = 2 → s.vd.peerRole ≠ 2 → ∃ t : State, exec (.pairinfo e w p u) s = .next t ∧ t.vd.wl = w ∧ t.vd.peerPitch = p ∧ t.vd.peerPosPitch = u ∧ t.vd.peerEpoch = e ∧ t.vd.pair = s.vd.pair) ∧ (s.vdRole ≠ 2 ∨ s.vd.link ≠ 2 ∨ s.vd.peerRole = 2 → exec (.pairinfo e w p u) s = .next s)) ∧
  (∀ (response : Bool) (w : List Nat) (s : State), (s.vd.link ≠ 2 → exec (.viaductMbx response w) s = .next s) ∧
    (s.vd.link = 2 → ∃ t : State, exec (.viaductMbx false w) s = .next t ∧ t.hif.peerQueue = s.hif.peerQueue ++ [requestOf (wordsBytes w) 0 0 0 none] ∧ t.vd = s.vd)) ∧
  (∀ (a : Nat × Nat × Req × Int) (w : List Nat) (s : State), s.vd.link = 2 → s.vd.asked.find? (fun a => a.1 == leAt (wordsBytes w) 4 4) = some a → a.2.1 ≠ 0x0103 →
    ∃ t : State, exec (.viaductMbx true w) s = .next t ∧ t.vd.asked = s.vd.asked.filter (fun x => x.1 != leAt (wordsBytes w) 4 4) ∧ t.vd.joinNext = (s.vd.joinNext || (a.2.1 == 4 && decide (leAt (wordsBytes w) 0 2 ≤ 1)))) ∧
  (∀ (w : List Nat) (s : State), s.vd.link = 2 → s.vd.asked.find? (fun a => a.1 == leAt (wordsBytes w) 4 4) = none → exec (.viaductMbx true w) s = .next s) ∧
  (∀ (m q : Nat) (z s : State), s.vd.link = 2 → q < 2 ^ 16 → z = { s with vd := { s.vd with tx := lanesUsed m } } → (z.capacityOk = true ∨ s.vd.pair ≠ 2 → exec (.lanes m q) s = .next z) ∧
    (z.capacityOk = false → s.vd.pair = 2 → ∃ t : State, exec (.lanes m q) s = .next t ∧ t.vd.pair = 1 ∧ t.vd.splitCause = 3)) ∧
  (∀ (m q : Nat) (s : State), s.vd.link ≠ 2 ∨ 2 ^ 16 ≤ q → exec (.lanes m q) s = .next s) ∧
  (∀ (c n : Nat) (s : State), s.vd.link = 2 → ∃ t : State, exec (.replayRequest none c n) s = .next t ∧ t.vd.replay = satInc s.vd.replay ∧ t.vd.link = 2 ∧ t.vd.syncErr = s.vd.syncErr ∧ t.vd.chkErr = s.vd.chkErr ∧ t.out = s.out ++ [.viaductReplay n]) ∧
  (∀ (l : Option Nat) (c n : Nat) (s : State), s.vd.link = 2 → exec (.replayRequest l c n true) s = .next (s.resend n)) ∧
  (∀ (l : Nat) (s : State), s.vd.link = 2 → l ≤ 8 → s.vd.pair ≠ 2 →
    (∃ t : State, exec (.replayRequest (some l) 1) s = .next t ∧ t.vd.syncErr = updAt s.vd.syncErr l satInc ∧ t.vd.replay = satInc s.vd.replay) ∧ ∃ t : State, exec (.replayRequest (some l) 2) s = .next t ∧ t.vd.chkErr = updAt s.vd.chkErr l satInc ∧ t.vd.replay = s.vd.replay) ∧
  (∀ (l : Option Nat) (c n : Nat) (peer : Bool) (s : State), s.vd.link ≠ 2 → exec (.replayRequest l c n peer) s = .next s) ∧
  (∀ s : State, (s.vdRole = 1 → s.vd.pair = 2 → ∃ t : State, exec .posSendTimer s = .next t ∧ t.out = s.out ++ [s.vdOut s.vd.seq 0x10 [truncN 64 s.pos.h, s.pos.flagBits]] ∧ t.vd.seq = (s.vd.seq + 1) % 2 ^ 16 ∧ t.pos = s.pos) ∧ (s.vdRole ≠ 1 ∨ s.vd.pair ≠ 2 → exec .posSendTimer s = .next s))

/-- POS: the secondary of a joined pair takes H, and C, I and the flags with it. LINE with no swap armed: it fires that line at receipt, with the primary's WLN, WPOS, epoch, TIME, RIDX and ROFF, and T stands one PITCH beyond that line. Both do nothing elsewhere. SEAM joins the messages that wait while the pair is joined, and CUT those of the secondary. PART, at the primary: a part
whose label no union holds, with a line not yet passed, waits, its X fields raised by WL; a part of a union that an own component keeps open goes into it, and that label of the peer is done. SEAM_TIMEOUT for the line that waits for the peer's message splits the pair, with cause 5 where the link is up and 1 where it is not; for any other line, or where the message is there, it does nothing. -/
def Obligations.SecondaryFollowsAndSeamsJoin : Prop :=
  (∀ (h : Int) (r o f : Bool) (s : State), s.vdRole = 2 → s.vd.pair = 2 → ∃ t : State, exec (.pos h r o f) s = .next t ∧ t.pos.h = h ∧ t.pos.c = h ∧ t.pos.i = h ∧ t.pos.reverse = r ∧ t.pos.overspeed = o ∧ t.pos.freeRun = f ∧ t.pos.t = s.pos.t ∧ t.vd.fwd = some (h, r, o, f)) ∧
  (∀ (h : Int) (r o f : Bool) (s : State), s.vdRole ≠ 2 ∨ s.vd.pair ≠ 2 → exec (.pos h r o f) s = .next s) ∧
  (∀ (wln : Nat) (wpos : Int) (ep time ridx roff : Nat) (nt : Bool) (s : State), s.vdRole = 2 → s.vd.pair = 2 → s.webRunning = true → s.deck.swap = none →
    ∃ (t : State) (l : LineSlot), exec (.line wln wpos ep time ridx roff nt) s = .next t ∧ t.pos.wln = (wln + 1) % 2 ^ 48 ∧ t.pos.t = s.pos.t + wposDiff wpos s.pos.nextWpos * 65536 + s.camDeck.pitch ∧ t.pos.ridx = ridx ∧ t.pos.lastLine = some l ∧
      l.wln = wln ∧ l.wpos = wpos ∧ l.epoch = ep ∧ l.time = time ∧ l.ridx = ridx ∧ l.roff = roff ∧ l.overspeed = nt ∧ t.now = s.now) ∧
  (∀ (wln : Nat) (wpos : Int) (ep time ridx roff : Nat) (nt : Bool) (s : State), s.vdRole ≠ 2 ∨ s.vd.pair ≠ 2 ∨ s.webRunning = false → exec (.line wln wpos ep time ridx roff nt) s = .next s) ∧
  (∀ (wln ep st label : Nat) (m : Bool) (s : State), (s.vd.pair = 2 → ∃ t : State, exec (.seam wln ep st label m) s = .next t ∧ t.vd.seamIn = s.vd.seamIn ++ [{ wln := wln, epoch := ep, state := st, label := label, merge := m }] ∧ t.seg = s.seg) ∧ (s.vd.pair ≠ 2 → exec (.seam wln ep st label m) s = .next s)) ∧
  (∀ (label wln : Nat) (s : State), (s.vdRole = 2 → s.vd.pair = 2 → ∃ t : State, exec (.cut label wln) s = .next t ∧ t.vd.cuts = s.vd.cuts ++ [(label, wln)] ∧ t.seg = s.seg) ∧ (s.vdRole ≠ 2 ∨ s.vd.pair ≠ 2 → exec (.cut label wln) s = .next s)) ∧
  (∀ (d : Descriptor) (label : Nat) (s : State), s.vdRole ≠ 1 → exec (.part d label) s = .next s) ∧
  (∀ (d : Descriptor) (label : Nat) (s : State), s.vdRole = 1 → d.area ≠ 0 → s.seg.epoch = some d.epoch → s.seg.last.getD 0 ≤ d.y1 → (∀ u ∈ s.vd.unions, u.peer.contains label = false) →
    ∃ (t : State) (p : Descriptor), exec (.part d label) s = .next t ∧ (label, p) ∈ t.vd.parts ∧ p.x0 = d.x0 + (s.deckOf d.epoch).width ∧ p.x1 = d.x1 + (s.deckOf d.epoch).width ∧ p.maxX = d.maxX + (s.deckOf d.epoch).width ∧ p.y0 = d.y0 ∧ p.y1 = d.y1 ∧ p.area = d.area ∧ t.vd.pair = s.vd.pair) ∧
  (∀ (d : Descriptor) (label : Nat) (u : SeamUnion) (s : State), s.vdRole = 1 → d.area ≠ 0 → bitAt d.flags 2 = false → s.vd.unions = [u] → u.peer.contains label = true → u.own ≠ [] → u.cutAt = none → s.vd.parts = [] →
    ∃ t : State, exec (.part d label) s = .next t ∧ t.vd.parts = [] ∧ t.vd.unions = [{ u with peer := u.peer.filter (· != label), peerLeft := u.peerLeft.filter (· != label), peerDone := u.peerDone ++ [label], pieces := u.pieces ++ [s.partOf d] }]) ∧
  (∀ (wln : Nat) (c : CompLine) (r : List CompLine) (s : State), s.cmp.out = c :: r → s.vd.pair = 2 → s.merging c.slot.epoch = true → c.slot.wln = wln → (∀ m ∈ s.vd.seamIn, m.epoch ≠ c.slot.epoch ∨ m.wln ≠ wln) →
    ∃ t : State, exec (.seamTimeout wln) s = .next t ∧ t.vd.pair = 1 ∧ t.vd.splitCause = (if s.vd.link = 2 then 5 else 1)) ∧
  (∀ (wln : Nat) (s : State), s.cmp.out = [] ∨ (∃ c r, s.cmp.out = c :: r ∧ (s.merging c.slot.epoch = false ∨ c.slot.wln ≠ wln ∨ ∃ m ∈ s.vd.seamIn, m.epoch = c.slot.epoch ∧ m.wln = wln)) → exec (.seamTimeout wln) s = .next s)

/-- DRAM_REFRESH_DUE of a running rank: with requests of priority 1 or 2 waiting (a), or else of priority 3 (b), a refresh issued ahead is used up; without one, a postpones the refresh unless 8 are owed, and otherwise one is issued; with none waiting everything owed is issued, and up to n, at most 8, ahead. The other ranks keep what they owe and have ahead. MR4_READ takes each channel's code; DQS_TRACKING counts a pass. ECC_SCRUB counts a corrected error of a protected block in ECC_CORR, and an uncorrectable one in ECC_UNC, of the channel of
its address; errors in regions outside ECC_MASK count nowhere, and with SCRUB_H 0 nothing happens. SET_POINT_CHANGE to the set point that the Keeper wants puts it in force with nothing owed, counted; any other request changes nothing. STANDBY_SELF_REFRESH puts DRAM that was brought out for an access in STANDBY back into self-refresh. None of them does anything while DRAM does not run. -/
def Obligations.DramControllerWorks : Prop :=
  (∀ (r n : Nat) (a b : Bool) (s : State), s.dramRuns = true → r < s.dram.owed.length → r < s.dram.ahead.length → r < 16 →
    ∃ (t : State) (o p k : Nat), exec (.dramRefreshDue r a b n) s = .next t ∧ getN t.dram.owed r 0 = o ∧ getN t.dram.ahead r 0 = p ∧ t.dram.owedMax = max s.dram.owedMax o ∧
      (∀ j, j ≠ r → getN t.dram.owed j 0 = getN s.dram.owed j 0 ∧ getN t.dram.ahead j 0 = getN s.dram.ahead j 0) ∧
      t.out = s.out ++ (if k = 0 then [] else [.dramRefresh r k (s.profile.current.b 0x8040 0 0x00 2 true)]) ∧
      (a = true ∨ b = true → 0 < getN s.dram.ahead r 0 → o = getN s.dram.owed r 0 ∧ p = getN s.dram.ahead r 0 - 1 ∧ k = 0) ∧
      (a = true → getN s.dram.ahead r 0 = 0 → p = 0 ∧ (getN s.dram.owed r 0 = 8 → o = 8 ∧ k = 1) ∧ (getN s.dram.owed r 0 ≠ 8 → o = getN s.dram.owed r 0 + 1 ∧ k = 0)) ∧
      (a = false → b = true → getN s.dram.ahead r 0 = 0 → o = getN s.dram.owed r 0 ∧ p = 0 ∧ k = 1) ∧
      (a = false → b = false → o = 0 ∧ p = max (getN s.dram.ahead r 0 - 1) (min 8 n) ∧ k = getN s.dram.owed r 0 + (max (getN s.dram.ahead r 0 - 1) (min 8 n) + 1 - getN s.dram.ahead r 0))) ∧
  (∀ (codes : List Nat) (s : State), s.dramRuns = true → ∃ t : State, exec (.mr4Read codes) s = .next t ∧ ∀ c < 8, getN t.dram.mr4 c 0 = getN codes c (getN s.dram.mr4 c 0)) ∧
  (∀ s : State, s.dramRuns = true → ∃ t : State, exec .dqsTracking s = .next t ∧ t.dram.dqsPasses = s.dram.dqsPasses + 1 ∧ t.dram.owed = s.dram.owed) ∧
  (∀ (a : Nat) (s : State), s.dramRuns = true → s.profile.current.f 0x8040 0 0x0C 31 16 24 ≠ 0 →
    (s.eccChecked a = true → (∃ t : State, exec (.eccScrub [a] []) s = .next t ∧ t.dram.eccCorr = updAt s.dram.eccCorr (dramChannel a) satInc ∧ t.dram.eccUnc = s.dram.eccUnc) ∧
      ∃ t : State, exec (.eccScrub [] [a]) s = .next t ∧ t.dram.eccUnc = updAt s.dram.eccUnc (dramChannel a) satInc ∧ t.dram.eccCorr = s.dram.eccCorr) ∧
    (s.eccChecked a = false → s.sys.failed = false → exec (.eccScrub [a] [a]) s = .next s)) ∧
  (∀ (l m : List Nat) (s : State), s.dramRuns = false ∨ s.profile.current.f 0x8040 0 0x0C 31 16 24 = 0 → exec (.eccScrub l m) s = .next s) ∧
  (∀ (sp : Nat) (s : State), (s.dramRuns = true → sp = s.wantedSetPoint → sp ≠ s.dram.setPoint → ∃ t : State, exec (.setPointChange sp) s = .next t ∧ t.dram.setPoint = sp ∧ (∀ r, getN t.dram.owed r 0 = 0) ∧ t.dram.fspChanges = satInc s.dram.fspChanges) ∧
    (s.dramRuns = false ∨ sp ≠ s.wantedSetPoint ∨ sp = s.dram.setPoint → exec (.setPointChange sp) s = .next s)) ∧
  (∀ s : State, (s.sys.mode = .standby → s.dram.awake = true → s.dramRuns = true → ∃ t : State, exec .standbySelfRefresh s = .next t ∧ t.dram.selfRefresh = true ∧ t.dram.awake = false ∧ t.dramRuns = false) ∧
    (s.sys.mode ≠ .standby ∨ s.dram.awake = false → exec .standbySelfRefresh s = .next s)) ∧
  (∀ (r n : Nat) (a b : Bool) (codes : List Nat) (s : State), s.dramRuns = false → exec (.dramRefreshDue r a b n) s = .next s ∧ exec (.mr4Read codes) s = .next s ∧ exec .dqsTracking s = .next s ∧ exec .standbySelfRefresh s = .next s)

/-- VIN_UVLO_RISING ends the power-down. BROWNOUT outside reset is counted, its lowest supply kept, and HSEN goes low at every wired head; a further one only lowers that minimum; BROWNOUT_RELEASE ends it, each wired head waiting for its gate to rearm. RESET_RELEASE with the power up and a legal role leaves reset with the straps sampled and the keys of
loaded slots copied; with the power down, or with VD_ROLE 3, it stops as misuse (R572, R454). BOOT_LOAD_DONE in BOOT brings SELFTEST with the stored profile; BOOT_DONE in SELFTEST with nothing failed and no stored profile brings CONFIGURE, and in every case keeps the self-test's results. TEMP_EVALUATION derates one step at 126 °C, counts a cool evaluation at 120 °C
and starts that count again in between. THERMAL, KEEPER_WATCHDOG_EXPIRY and the loss of a PLL of an essential block bring SAFE_HOLD; in reset THERMAL keeps the device there until an evaluation finds every sensor below 120 °C, and the others do nothing. BOOT_DONE with unequal channels, or with rates that the fitted type has no set point for, stops as misuse (R500). -/
def Obligations.PowerAndBootAct : Prop :=
  (∀ s : State, ∃ t : State, exec .vinUvloRising s = .next t ∧ t.power.down = false ∧ t.sys = s.sys) ∧
  (∀ (mv : Nat) (s : State), s.sys.inReset = false → s.power.brownout = false → s.print.head.length = 8 → ∃ t : State, exec (.brownout mv) s = .next t ∧ t.power.brownout = true ∧ t.power.brownouts = satInc s.power.brownouts ∧ t.power.lowestMv = mv ∧
    ∀ h < 8, s.profile.current.headWired h = true → (t.head h).hsen = false) ∧
  (∀ (mv : Nat) (s : State), s.sys.inReset = false → s.power.brownout = true → ∃ t : State, exec (.brownout mv) s = .next t ∧ t.power.lowestMv = min s.power.lowestMv mv ∧ t.power.brownouts = s.power.brownouts ∧ t.print = s.print) ∧
  (∀ s : State, s.print.head.length = 8 → (s.power.brownout = true → ∃ t : State, exec .brownoutRelease s = .next t ∧ t.power.brownout = false ∧ ∀ h < 8, s.profile.current.headWired h = true → (t.head h).hopenHeld = true) ∧ (s.power.brownout = false → exec .brownoutRelease s = .next s)) ∧
  (∀ (role : Nat) (full : Bool) (s : State), s.sys.inReset = true → s.sys.heldInReset = false → s.power.hot = false →
    (s.power.down = false → role < 3 → ∃ t : State, exec (.resetRelease role full) s = .next t ∧ t.sys.inReset = false ∧ t.vdRole = role ∧ t.bistFullStrap = full ∧ t.vd.pair = (if role = 0 then 0 else 1) ∧ (role ≠ 0 → s.fault.viaductUnusable = false → t.vd.link = 1) ∧
      t.fuse.keyRam = s.fuse.keySlots.map (fun (x : KeySlot) => if x.loaded && !x.revoked then some x.key else none)) ∧
    (s.power.down = true → exec (.resetRelease role full) s = .fault (.misuse 572)) ∧ (s.power.down = false → 3 ≤ role → exec (.resetRelease role full) s = .fault (.misuse 454))) ∧
  (∀ (role : Nat) (full : Bool) (s : State), s.sys.inReset = false ∨ s.sys.heldInReset = true ∨ s.power.hot = true → exec (.resetRelease role full) s = .next s) ∧
  (∀ (recs : List BootRecord) (imgs : List FwImage) (p : List Byte) (s : State), (s.sys.inReset = false → s.sys.mode = .boot → ∃ t : State, exec (.bootLoadDone recs imgs p) s = .next t ∧ t.sys.mode = .selftest ∧ t.profile.stored = (if p.isEmpty then none else some p) ∧
      t.profile.storedValid = (!p.isEmpty && (parseContainer true p).1.isNone) ∧ ∀ c r, bootChoice recs = some (c, r) → t.fw.next = r.next % 2 ∧ t.fw.copy = c) ∧
    (s.sys.inReset = true ∨ s.sys.mode ≠ .boot → exec (.bootLoadDone recs imgs p) s = .next s)) ∧
  (∀ (gib ty : Nat) (s : State), s.sys.mode = .selftest → ({} : Container).ratesBad ty = false → s.sys.failed = false → s.profile.storedValid = false → s.fault.channels = [] → ∃ t : State, exec (.bootDone [] true gib ty) s = .next t ∧ t.sys.mode = .configure ∧ t.sys.target = .configure ∧ t.fault.bist = [] ∧ t.fault.bistRan = true ∧
    t.dram.trained = true ∧ t.dram.capacityMib = gib * 1024) ∧
  (∀ (l : List BistEntry) (tr u : Bool) (gib ty : Nat) (s : State), (s.sys.mode ≠ .selftest → exec (.bootDone l tr gib ty u) s = .next s) ∧ (s.sys.mode = .selftest → u = true ∨ (tr = true ∧ s.profile.storedValid = false ∧ ({} : Container).ratesBad ty = true) → exec (.bootDone l tr gib ty u) s = .fault (.misuse 500))) ∧
  (∀ (l : List Int) (top : Int) (s : State), s.sys.inReset = false → s.sys.mode ≠ .boot → l.length = 8 → top = maxI (l.headD 0) l → ∃ t : State, exec (.tempEvaluation l) s = .next t ∧ (∀ i < 8, getN t.power.temps i 0 = getN l i 0) ∧ t.power.tmax = max s.power.tmax top ∧
    (126 * 16 ≤ top → t.power.derate = min 4 (s.power.derate + 1) ∨ 4 < s.power.derate) ∧ (top < 126 * 16 → 120 * 16 < top → t.power.derate = s.power.derate ∧ t.power.coolCount = 0) ∧
    (top ≤ 120 * 16 → t.power.derate = (if 10 ≤ s.power.coolCount + 1 ∧ 0 < s.power.derate then s.power.derate - 1 else s.power.derate))) ∧
  (∀ s : State, s.sys.inReset = false → s.sys.mode ≠ .safeHold → (∃ t : State, exec .thermal s = .next t ∧ t.sys.mode = .safeHold ∧ t.sys.lineMode = .safeHold) ∧ (∃ t : State, exec .keeperWatchdogExpiry s = .next t ∧ t.sys.mode = .safeHold ∧ t.sys.lineMode = .safeHold) ∧
    ∀ l : List Nat, l.any essentialIsland = true → ∃ t : State, exec (.pllLossOfLock l) s = .next t ∧ t.sys.mode = .safeHold ∧ t.sys.lineMode = .safeHold) ∧
  (∀ s : State, s.sys.inReset = false → exec (.pllLossOfLock [38]) s = .next s.settle) ∧
  (∀ (mv : Nat) (l : List Nat) (m : List Int) (s : State), s.sys.inReset = true → exec (.brownout mv) s = .next s ∧ exec .thermal s = .next { s with power := { s.power with hot := true } } ∧ exec .keeperWatchdogExpiry s = .next s ∧ exec (.pllLossOfLock l) s = .next s ∧
    exec (.tempEvaluation m) s = .next { s with power := { s.power with hot := s.power.hot && (upto 8).any (fun i => decide (getN m i (120 * 16) ≥ 120 * 16)) } })

/-- For every two web points less than 2^47 nm apart, the signed 48-bit difference of their WPOS is the true difference, whatever number of wraps either has behind it; and the WPOS of a point lies from
−2^47 to 2^47 − 1 and differs from the point by whole wraps. -/
def Obligations.WebPositionsCompareAcrossWraps : Prop :=
  (∀ (a b m n : Int), -(2 ^ 47) ≤ a - b → a - b < 2 ^ 47 → wposDiff (a + m * 2 ^ 48) (b + n * 2 ^ 48) = a - b) ∧
  (∀ a : Int, -(2 ^ 47) ≤ wpos48 a ∧ wpos48 a < 2 ^ 47 ∧ (a - wpos48 a) % 2 ^ 48 = 0)

/-- R10 and R462: on a single device and on the left of a pair, XNM is floor((XPOS + 1/2) × P), with P = PITCH / 2^16 of the STITCH section, computed as (2 XPOS + 1) × PITCH / 2^17; on the right
device XPOS is counted from WL, the width of the latest PAIRINFO: a PAIRINFO that arrives over the trained link sets WL, and after reset WL is 0. With Press A's PITCH, XPOS 20,000 gives 846,687,833 nm. -/
def Obligations.CrossWebPositions : Prop :=
  (∀ (s : State) (d : Container) (x : Nat), s.vdRole ≠ 2 →
    s.xnm d x = (2 * x + 1) * d.pxPitch / 2 ^ 17 ∧ (s.xnm d x : Int) = ⌊((x : ℚ) + 1 / 2) * ((d.pxPitch : ℚ) / 2 ^ 16)⌋) ∧
  (∀ (s : State) (d : Container) (x : Nat), s.vdRole = 2 →
    s.xnm d x = (2 * (s.vd.wl + x) + 1) * d.pxPitch / 2 ^ 17 ∧ (s.xnm d x : Int) = ⌊((s.vd.wl : ℚ) + x + 1 / 2) * ((d.pxPitch : ℚ) / 2 ^ 16)⌋) ∧
  (∀ (epoch width pitch posPitch : Nat) (s : State), s.vdRole = 2 → s.vd.link = 2 → s.vd.peerRole ≠ 2 → ∃ t : State, exec (.pairinfo epoch width pitch posPitch) s = .next t ∧ t.vd.wl = width) ∧
  State.reset.vd.wl = 0 ∧
  (∀ (s : State) (d : Container), s.vdRole ≠ 2 → d.pxPitch = 0xA55D5555 → s.xnm d 20000 = 846687833)

/-- R490, for every device address at or above 0x10_0000_0000: its channel is the exclusive or of the address shifted by 8, 16 and 24, taken modulo 8; all 256 bytes of a block lie in one channel; and of the eight
successive blocks from an address aligned to 2,048 bytes, each of the eight channels holds exactly one. -/
def Obligations.DramChannelsInterleave : Prop :=
  (∀ a : Nat, 0x1000000000 ≤ a → dramChannel a = ((a >>> 8) ^^^ (a >>> 16) ^^^ (a >>> 24)) &&& 7) ∧
  (∀ a b : Nat, 0x1000000000 ≤ a → a / 256 = b / 256 → dramChannel a = dramChannel b) ∧
  (∀ base ch : Nat, 0x1000000000 ≤ base → base % 2048 = 0 → ch < 8 → ∃ i < 8, dramChannel (base + 256 * i) = ch ∧ ∀ j < 8, dramChannel (base + 256 * j) = ch → j = i)

/-- R508, for every sample s and neighbours a, b, c of depth d (all below 2^d) and every bound n: p is min(a, b) where c is at least both, max(a, b) where c is at
most both, and a + b − c otherwise; with e = s − p, q is (e + n) / (2n + 1) for e above 0 and −((n − e) / (2n + 1)) otherwise; r is p + q(2n + 1) limited to 0 … 2^d − 1; m is 2q or
−2q − 1 and lies below 2^(d + 1). The reconstruction differs from the sample by at most n, equals it for n = 0, and the decoder, which takes q from m, forms the same r. -/
def Obligations.CodingStaysWithinNear : Prop :=
  ∀ (d n a b c s : Nat), a < 2 ^ d → b < 2 ^ d → c < 2 ^ d → s < 2 ^ d →
    ∃ (p r m : Nat) (e q : Int),
      predict a b c = p ∧ (max a b ≤ c → p = min a b) ∧ (c < max a b → c ≤ min a b → p = max a b) ∧
      (min a b < c → c < max a b → (p : Int) = a + b - c) ∧
      e = (s : Int) - p ∧ quantise n e = q ∧ (0 < e → q = (e + n) / (2 * n + 1)) ∧ (e ≤ 0 → q = -((n - e) / (2 * n + 1))) ∧
      reconstruct d n p q = r ∧ (r : Int) = max 0 (min (2 ^ d - 1) (p + q * (2 * n + 1))) ∧
      mapResidue q = m ∧ (0 ≤ q → (m : Int) = 2 * q) ∧ (q < 0 → (m : Int) = -2 * q - 1) ∧ m < 2 ^ (d + 1) ∧
      (s : Int) - r ≤ n ∧ (r : Int) - s ≤ n ∧ (n = 0 → r = s) ∧ reconstruct d n p (unmapResidue m) = r

/-- R510, for every sample depth B up to 12, Rice parameter k up to B and mapped residue m below 2^(B + 1), with u = m >> k: where u is below 24 the code word is u bits of 0, one
bit of 1 and the low k bits of m, and otherwise 24 bits of 0, one bit of 1 and m in B + 1 bits (most significant first: bit j of the field is bit n − 1 − j of m). No code word is longer than
38 bits, one of 38 bits exists, and the decoder reads from a code word with any bits behind it that m and those bits. -/
def Obligations.CodeWordsAreReadBack : Prop :=
  (∀ (depth k m : Nat) (rest : List Bool), depth ≤ 12 → k ≤ depth → m < 2 ^ (depth + 1) →
    (∃ field : List Bool, field.length = (if m >>> k < 24 then k else depth + 1) ∧
      (∀ j < field.length, field[j]? = some (m.testBit (field.length - 1 - j))) ∧
      codeWord depth k m = List.replicate (min (m >>> k) 24) false ++ [true] ++ field) ∧
    (codeWord depth k m).length ≤ 38 ∧
    readCode depth k (codeWord depth k m ++ rest) = some (m, rest)) ∧
  (∃ depth k m, depth ≤ 12 ∧ k ≤ depth ∧ m < 2 ^ (depth + 1) ∧ (codeWord depth k m).length = 38)

/-- For every bound NEAR (4 bits), every code table (none for dynamic, or any 96-bit static table) and every tile whose lines each hold three planes of WIDTH 8-bit samples: the coded tile
is whole 32-bit words, and the decoder, given those bytes with any bytes behind them and no other history, returns as many lines of three planes of WIDTH samples, each sample
within NEAR of the one coded, and for NEAR = 0 the very lines coded. -/
def Obligations.ImageTilesDecodeAlone : Prop :=
  ∀ (near width : Nat) (table : Option Nat) (ls : List (List (List Nat))) (tail : List Byte),
    near < 16 → (∀ v, table = some v → v < 2 ^ 96) →
    (∀ l ∈ ls, l.length = 3 ∧ ∀ p ∈ l, p.length = width ∧ ∀ x ∈ p, x < 256) →
    (codeTile near table ls).length % 4 = 0 ∧
    ∃ ls', decodeTile width ls.length (codeTile near table ls ++ tail) = some ls' ∧
      List.Forall₂ (List.Forall₂ (List.Forall₂ (fun (x y : Nat) => (x : Int) - y ≤ near ∧ (y : Int) - x ≤ near))) ls ls' ∧
      (near = 0 → ls' = ls)

/-- REINSTATE that check 6 lets through (its mode is one of its modes, its mailbox takes it, no firmware error), with none running, completes for every BLOCK and INSTANCE: it is answered ACCEPTED; of a channel that is not retired and of a block that is never reinstated it is over at once, with no channel's record changed; of one that first runs its quick BIST it runs on,
with no channel's record changed. BIST_RUN in DIAGNOSTIC with none running is answered ACCEPTED, runs, and leaves mode and channels as they are. BIST_DONE ends it, whatever it reports, with the results stored and no unit marked; with no command running that waits for a BIST it changes nothing. BIST_RESULT answers the latest run: FULL, RAN, the count of failures, the duration, and
the first 1,016 failures as INSTANCE, BLOCK and KIND; it changes nothing but its mailbox. -/
def Obligations.ReinstateAndBistComplete : Prop :=
  (∀ (q : Req) (block inst : Nat) (s : State), Allowed q s .op false → s.isRunning 0x0009 = false →
    ∃ u : State, exec (.reinstate q block inst) s = .next (u.respond 0x0009 q .accepted) ∧
      ((block = 0 ∨ block = 3 ∨ 0x0C ≤ block ∨ s.isRetired block inst = false) → u.isRunning 0x0009 = false ∧ u.fault = s.fault) ∧
      (block ≠ 0 → block ≠ 3 → block < 0x0C → s.isRetired block inst = true → s.needsBist (backBlock block) (s.backInst block inst) = true → u.isRunning 0x0009 = true ∧ u.fault = s.fault)) ∧
  (∀ (q : Req) (full : Bool) (s : State), Allowed q s .diag false → s.isRunning 0x0804 = false →
    ∃ u : State, exec (.bistRun q full) s = .next (u.respond 0x0804 q .accepted) ∧ u.isRunning 0x0804 = true ∧ u.fault.memoriesDirty = true ∧ u.fault.channels = s.fault.channels ∧ u.sys = s.sys) ∧
  (∀ (failures : List BistEntry) (us : Nat) (s : State), s.isRunning 0x0804 = true →
    ∃ t : State, exec (.bistDone failures us) s = .next t ∧ t.isRunning 0x0804 = false ∧ t.fault.bist = failures ∧ t.fault.bistRan = true ∧ t.fault.bistUs = us % 2 ^ 32 ∧ t.fault.channels = s.fault.channels ∧ t.sys = s.sys) ∧
  (∀ (failures : List BistEntry) (us : Nat) (s : State), s.isRunning 0x0804 = false → s.isRunning 0x0009 = false → exec (.bistDone failures us) s = .next s) ∧
  (∀ (failures : List BistEntry) (us block inst : Nat) (r : Running) (s : State), s.isRunning 0x0804 = false → s.runningCmd 0x0009 = some r → r.args = [block, inst] → block ≠ 1 → s.needsBist block inst = true →
    (failures.any (fun e => backBlock e.block == block && e.inst == inst) = true → ∃ t : State, exec (.bistDone failures us) s = .next t ∧ t.isRunning 0x0009 = false ∧ t.fault = s.fault) ∧
    (failures.any (fun e => backBlock e.block == block && e.inst == inst) = false → exec (.bistDone failures us) s = .next (s.comesBack block inst))) ∧
  (∀ (q : Req) (s : State), Allowed q s .nb false →
    exec (.bistResult q) s = .next (s.respond 0x0805 q (.ok (wordsBytes ([b2n s.fault.bistFull + 2 * b2n s.fault.bistRan + s.fault.bist.length % 2 ^ 16 * 2 ^ 16, s.fault.bistUs] ++
      (s.fault.bist.take 1016).map (fun e => e.inst * 2 ^ 16 + e.block * 2 ^ 8 + e.kind))))))

/-- What the host reads in BAR0. A write of HIF_IRQ_MASK is read back and moves no other register. HIF_WIN_BASE_LO written is held, and read nowhere; the write of HIF_WIN_BASE_HI puts both in force, and both then read what was written. HIF_IRQ_FORCE reads as HIF_IRQ_STATUS. The write-only registers HIF_RESET and the mailboxes' GO and ACK read 0, as do the reserved offsets. A read of a
ring's SEQ_LO gives the low word of its sequence number and latches the high word, which SEQ_HI then reads; a read elsewhere changes nothing at all. After reset the identity, mask, window and declared version read as R381 gives them. -/
def Obligations.Bar0ReadsTheValueInForce : Prop :=
  (∀ (v : Word) (s : State), ∃ t : State, exec (.registerWrite 0x0044 v) s = .next t ∧ t.bar0Word 0x0044 = v.toNat ∧ ∀ o, o ≠ 0x0044 → t.bar0Word o = s.bar0Word o) ∧
  (∀ (v w : Word) (s : State), v.toNat % 2 ^ 20 = 0 → w.toNat < 2 ^ 8 → ∃ t u : State, exec (.winBaseLoWrite v) s = .next t ∧ (∀ o, t.bar0Word o = s.bar0Word o) ∧
    exec (.winBaseHiWrite w) t = .next u ∧ u.bar0Word 0x0100 = v.toNat ∧ u.bar0Word 0x0104 = w.toNat ∧ ∀ o, o ≠ 0x0100 → o ≠ 0x0104 → u.bar0Word o = s.bar0Word o) ∧
  (∀ s : State, s.bar0Word 0x0048 = s.bar0Word 0x0040 ∧ s.bar0Word 0x002C = 0 ∧ (∀ n < 4, s.bar0Word (0x0800 + 0x20 * n) = 0 ∧ s.bar0Word (0x0808 + 0x20 * n) = 0)) ∧
  (∀ (o : Nat) (s : State), (0x0048 < o ∧ o < 0x0100) ∨ (0x0104 < o ∧ o < 0x0200) ∨ (0x0500 ≤ o ∧ o < 0x0800) ∨ (0x0880 ≤ o ∧ o < 0x0C00) ∨ (0x0E04 < o ∧ o < 0x1000) ∨ 0x9000 ≤ o → s.bar0Word o = 0) ∧
  (∀ (k : Nat) (s : State), k < 8 → k < s.recs.rings.length → s.bar0Word (0x0220 + 0x40 * k) = (s.ring k).seq % 2 ^ 32 ∧ (s.bar0Read (0x0220 + 0x40 * k)).bar0Word (0x0224 + 0x40 * k) = (s.ring k).seq / 2 ^ 32 ∧
    (s.bar0Read (0x0220 + 0x40 * k)).bar0Word (0x0220 + 0x40 * k) = (s.ring k).seq % 2 ^ 32) ∧
  (∀ (o : Nat) (s : State), (∀ k < 8, o ≠ 0x0220 + 0x40 * k) → s.bar0Read o = s) ∧
  State.reset.bar0Word 0x0004 = 0x01000100 ∧ State.reset.bar0Word 0x0044 = 0xFFFFFFFF ∧ State.reset.bar0Word 0x0100 = 0 ∧ State.reset.bar0Word 0x0104 = 0x10 ∧ State.reset.bar0Word 0x0010 = 1 ∧ State.reset.bar0Word 0x0020 = 0
end

