-- ==== Sys2Proof/Laws/Memory.lean ====
section
/-! SUPPORT. Laws of device memory: a read after a write, and the canonical form that every memory operation keeps. -/

namespace Sys2Proof.Machine

/-- A lower bound of a canonical list may be lowered. -/
theorem wfFrom_mono {lo lo' : Nat} (hl : lo' ≤ lo) : ∀ {m : Memory}, Memory.wfFrom lo m = true → Memory.wfFrom lo' m = true
  | [], _ => rfl
  | (k, b) :: r, h => by
    simp only [Memory.wfFrom, Bool.and_eq_true, decide_eq_true_eq] at h ⊢
    exact ⟨⟨Nat.le_trans hl h.1.1, h.1.2⟩, h.2⟩

/-- Two canonical lists, the first below the second, join to a canonical list. -/
theorem wfFrom_append {b : Nat} {y : Memory} (hy : Memory.wfFrom b y = true) :
    ∀ {lo : Nat} {x : Memory}, lo ≤ b → Memory.wfFrom lo x = true → (∀ p ∈ x, p.1 < b) → Memory.wfFrom lo (x ++ y) = true
  | _, [], hl, _, _ => wfFrom_mono hl hy
  | lo, (k, c) :: r, _, hx, hk => by
    simp only [Memory.wfFrom, Bool.and_eq_true, decide_eq_true_eq, List.cons_append] at hx ⊢
    exact ⟨hx.1, wfFrom_append hy (hk (k, c) (by simp)) hx.2 (fun p hp => hk p (by simp [hp]))⟩

/-- The entries below an address are canonical. -/
theorem memBelow_wf (a : Nat) : ∀ {lo : Nat} {m : Memory}, Memory.wfFrom lo m = true → Memory.wfFrom lo (memBelow m a) = true
  | _, [], _ => rfl
  | lo, (k, b) :: r, h => by
    simp only [memBelow]
    split
    · simp only [Memory.wfFrom, Bool.and_eq_true, decide_eq_true_eq] at h ⊢
      exact ⟨h.1, memBelow_wf a h.2⟩
    · rfl

/-- They lie below it. -/
theorem memBelow_lt (a : Nat) : ∀ (m : Memory), ∀ p ∈ memBelow m a, p.1 < a
  | [], _, h => by simp [memBelow] at h
  | (k, b) :: r, p, h => by
    simp only [memBelow] at h
    split at h
    · rcases List.mem_cons.mp h with rfl | h
      · assumption
      · exact memBelow_lt a r p h
    · simp at h

/-- The entries at or above an address are canonical from it on. -/
theorem memFrom_wf (a : Nat) : ∀ {lo : Nat} {m : Memory}, Memory.wfFrom lo m = true → Memory.wfFrom a (memFrom m a) = true
  | _, [], _ => rfl
  | lo, (k, b) :: r, h => by
    simp only [memFrom]
    simp only [Memory.wfFrom, Bool.and_eq_true, decide_eq_true_eq] at h
    split
    · exact memFrom_wf a h.2
    · simp only [Memory.wfFrom, Bool.and_eq_true, decide_eq_true_eq]
      exact ⟨⟨by omega, h.1.2⟩, h.2⟩

/-- The cells of written bytes are canonical. -/
theorem cellsOf_wf : ∀ (a : Nat) (bs : List Byte), Memory.wfFrom a (cellsOf a bs) = true
  | _, [] => rfl
  | a, b :: bs => by
    simp only [cellsOf]
    split
    · exact wfFrom_mono (Nat.le_succ a) (cellsOf_wf (a + 1) bs)
    · rename_i hb
      simp only [Memory.wfFrom, Bool.and_eq_true, decide_eq_true_eq]
      exact ⟨⟨Nat.le_refl a, by simpa using hb⟩, cellsOf_wf (a + 1) bs⟩

/-- They lie in the bytes written. -/
theorem cellsOf_lt : ∀ (a : Nat) (bs : List Byte), ∀ p ∈ cellsOf a bs, p.1 < a + bs.length
  | _, [], _, h => by simp [cellsOf] at h
  | a, b :: bs, p, h => by
    simp only [cellsOf] at h
    have rest : p ∈ cellsOf (a + 1) bs → p.1 < a + (b :: bs).length := fun h => by
      have := cellsOf_lt (a + 1) bs p h
      simp only [List.length_cons]; omega
    split at h
    · exact rest h
    · rcases List.mem_cons.mp h with rfl | h
      · simp only [List.length_cons]; omega
      · exact rest h

/-- A write keeps the canonical form. -/
theorem memWrite_wf {m : Memory} (h : m.wf = true) (a : Nat) (bs : List Byte) : (memWrite m a bs).wf = true := by
  unfold Memory.wf memWrite at *
  rw [List.append_assoc]
  refine wfFrom_append (b := a) ?_ (Nat.zero_le a) (memBelow_wf a h) (memBelow_lt a m)
  exact wfFrom_append (memFrom_wf _ h) (Nat.le_add_right _ _) (cellsOf_wf a bs) (cellsOf_lt a bs)

/-- Clearing keeps the canonical form. -/
theorem memClear_wf {m : Memory} (h : m.wf = true) (a n : Nat) : (memClear m a n).wf = true := by
  unfold Memory.wf memClear at *
  exact wfFrom_append (wfFrom_mono (Nat.le_add_right a n) (memFrom_wf _ h)) (Nat.zero_le a) (memBelow_wf a h) (memBelow_lt a m)

/-- A byte of a joined list comes from the first part where that part lists the address. -/
theorem memByte_append_of_lt (x y : Memory) (a : Nat) (h : ∀ p ∈ y, p.1 ≠ a) : memByte (x ++ y) a = memByte x a := by
  induction x with
  | nil =>
    induction y with
    | nil => rfl
    | cons p y ih =>
      obtain ⟨k, b⟩ := p
      simp only [List.nil_append, memByte] at ih ⊢
      rw [if_neg (h (k, b) (by simp))]
      exact ih (fun p hp => h p (by simp [hp]))
  | cons p x ih =>
    obtain ⟨k, b⟩ := p
    simp only [List.cons_append, memByte]
    split <;> simp_all

/-- A byte of a joined list comes from the second part where the first does not list the address. -/
theorem memByte_append_of_not (x y : Memory) (a : Nat) (h : ∀ p ∈ x, p.1 ≠ a) : memByte (x ++ y) a = memByte y a := by
  induction x with
  | nil => rfl
  | cons p x ih =>
    obtain ⟨k, b⟩ := p
    simp only [List.cons_append, memByte]
    rw [if_neg (h (k, b) (by simp))]
    exact ih (fun p hp => h p (by simp [hp]))

/-- Entries below a lower bound do not hold an address below it. -/
theorem wfFrom_ge {lo : Nat} : ∀ {m : Memory}, Memory.wfFrom lo m = true → ∀ p ∈ m, lo ≤ p.1
  | [], _, p, hp => by simp at hp
  | (k, b) :: r, h, p, hp => by
    simp only [Memory.wfFrom, Bool.and_eq_true, decide_eq_true_eq] at h
    rcases List.mem_cons.mp hp with rfl | hp
    · exact h.1.1
    · exact Nat.le_trans (by omega) (wfFrom_ge h.2 p hp)

/-- Below an address the entries below it read as the whole. -/
theorem memByte_below {x a : Nat} (hx : x < a) : ∀ {lo : Nat} {m : Memory}, Memory.wfFrom lo m = true → memByte (memBelow m a) x = memByte m x
  | _, [], _ => rfl
  | lo, (k, b) :: r, h => by
    simp only [Memory.wfFrom, Bool.and_eq_true, decide_eq_true_eq] at h
    simp only [memBelow]
    split
    · simp only [memByte]
      split
      · rfl
      · exact memByte_below hx h.2
    · simp only [memByte]
      rw [if_neg (by omega)]
      have := memByte_append_of_lt [] r x (fun p hp => by have := wfFrom_ge h.2 p hp; omega)
      simpa [memByte] using this.symm

/-- At or above an address the entries from it on read as the whole. -/
theorem memByte_from {x a : Nat} (hx : a ≤ x) : ∀ (m : Memory), memByte (memFrom m a) x = memByte m x
  | [] => rfl
  | (k, b) :: r => by
    simp only [memFrom]
    split
    · rw [memByte_from hx r]
      simp only [memByte]
      rw [if_neg (by omega)]
    · rfl

/-- A byte outside the bytes written reads as before. -/
theorem memWrite_outside {m : Memory} (h : m.wf = true) {a x : Nat} {bs : List Byte} (hx : x < a ∨ a + bs.length ≤ x) :
    memByte (memWrite m a bs) x = memByte m x := by
  unfold memWrite Memory.wf at *
  rcases hx with hx | hx
  · rw [List.append_assoc, memByte_append_of_lt _ _ _ (fun p hp => ?_)]
    · exact memByte_below hx h
    · have := wfFrom_ge (wfFrom_append (memFrom_wf (a + bs.length) h) (Nat.le_add_right _ _) (cellsOf_wf a bs) (cellsOf_lt a bs)) p hp
      omega
  · rw [memByte_append_of_not _ _ _ (fun p hp => ?_)]
    · exact memByte_from hx m
    · rcases List.mem_append.mp hp with hp | hp
      · have := memBelow_lt a m p hp; omega
      · have := cellsOf_lt a bs p hp; omega

/-- The cells of written bytes read as the bytes. -/
theorem memByte_cellsOf : ∀ (a : Nat) (bs : List Byte) (i : Nat), memByte (cellsOf a bs) (a + i) = bs.getD i 0
  | _, [], i => by simp [cellsOf, memByte]
  | a, b :: bs, 0 => by
    simp only [cellsOf]
    split
    · have h0 : memByte (cellsOf (a + 1) bs) a = 0 := by
        have := memByte_append_of_lt [] (cellsOf (a + 1) bs) a
          (fun p hp => by have := wfFrom_ge (cellsOf_wf (a + 1) bs) p hp; omega)
        simpa [memByte] using this
      rename_i hb
      simpa [hb] using h0
    · simp [memByte]
  | a, b :: bs, i + 1 => by
    have ih := memByte_cellsOf (a + 1) bs i
    have e : a + 1 + i = a + (i + 1) := by omega
    rw [e] at ih
    simp only [cellsOf]
    split
    · simpa using ih
    · simp only [memByte]
      rw [if_neg (by omega)]
      simpa using ih

/-- A byte written reads as written. -/
theorem memWrite_inside (m : Memory) {a i : Nat} {bs : List Byte} (hi : i < bs.length) (h : m.wf = true) :
    memByte (memWrite m a bs) (a + i) = bs.getD i 0 := by
  unfold memWrite Memory.wf at *
  rw [memByte_append_of_lt _ _ _ (fun p hp => ?_), memByte_append_of_not _ _ _ (fun p hp => ?_)]
  · exact memByte_cellsOf a bs i
  · have := memBelow_lt a m p hp; omega
  · have := wfFrom_ge (memFrom_wf (a + bs.length) h) p hp; omega

/-- A byte in a cleared range reads as 0. -/
theorem memClear_inside {m : Memory} (h : m.wf = true) {a n x : Nat} (h1 : a ≤ x) (h2 : x < a + n) : memByte (memClear m a n) x = 0 := by
  unfold memClear Memory.wf at *
  rw [memByte_append_of_not _ _ _ (fun p hp => ?_)]
  · have := memByte_append_of_lt [] (memFrom m (a + n)) x (fun p hp => by have := wfFrom_ge (memFrom_wf (a + n) h) p hp; omega)
    simpa [memByte] using this
  · have := memBelow_lt a m p hp; omega

/-- A byte outside a cleared range reads as before. -/
theorem memClear_outside {m : Memory} (h : m.wf = true) {a n x : Nat} (hx : x < a ∨ a + n ≤ x) :
    memByte (memClear m a n) x = memByte m x := by
  unfold memClear Memory.wf at *
  rcases hx with hx | hx
  · rw [memByte_append_of_lt _ _ _ (fun p hp => ?_)]
    · exact memByte_below hx h
    · have := wfFrom_ge (memFrom_wf (a + n) h) p hp; omega
  · rw [memByte_append_of_not _ _ _ (fun p hp => ?_)]
    · exact memByte_from hx m
    · have := memBelow_lt a m p hp; omega

end Sys2Proof.Machine
end

