-- ==== Sys2Proof/Laws/Keeps.lean ====
section
/-! SUPPORT. `Keeps p z s`: what every operation of the block leaves intact on the way from state z to state s, where only parts in p may have changed.
Each operation has one lemma `<operation>_keeps`, which says once which parts it may change and that it keeps the rest; the statements over all
commands cite them. -/

namespace Sys2Proof.Machine

/-- The queue is untouched, memory and the mailbox buffers keep their canonical form, a legal life cycle stays legal and does not go back, output is only
appended, free values are only drawn, no unit appears or disappears, and every part outside p is the same. -/
structure Keeps (p : Part → Prop) (z s : State) : Prop where
  pending : s.pending = z.pending
  mem : z.mem.wf = true → s.mem.wf = true
  buf : Memory.wf z.hif.buf = true → Memory.wf s.hif.buf = true
  life : z.fuse.lifeCycle ≤ 5 → z.fuse.lifeCycle ≤ s.fuse.lifeCycle ∧ s.fuse.lifeCycle ≤ 5
  free : z.free ≤ s.free
  out : z.out <+: s.out
  rings : z.recs.rings.length = 8 → s.recs.rings.length = 8
  mbx : z.hif.mbx.length = 4 → s.hif.mbx.length = 4
  slots : z.deck.slots.length = 16 → s.deck.slots.length = 16
  heads : z.print.head.length = 8 → s.print.head.length = 8
  cams : z.intake.cam.length = 24 → s.intake.cam.length = 24
  chans : z.dma.chan.length = 8 → s.dma.chan.length = 8
  same : ∀ x, ¬ p x → samePart x z s

theorem samePart_refl (x : Part) (s : State) : samePart x s s := by
  cases x <;> first | rfl | exact ⟨rfl, rfl, rfl⟩

theorem samePart_trans {x : Part} {a b c : State} (h : samePart x a b) (k : samePart x b c) : samePart x a c := by
  cases x <;> first | exact Eq.trans h k | exact ⟨h.1.trans k.1, h.2.1.trans k.2.1, h.2.2.trans k.2.2⟩

theorem Keeps.refl {p : Part → Prop} (s : State) : Keeps p s s :=
  ⟨rfl, id, id, fun x => ⟨Nat.le_refl _, x⟩, Nat.le_refl _, List.prefix_refl _, id, id, id, id, id, id, fun x _ => samePart_refl x s⟩

theorem Keeps.trans {p : Part → Prop} {a b c : State} (h : Keeps p a b) (k : Keeps p b c) : Keeps p a c :=
  ⟨k.pending.trans h.pending, k.mem ∘ h.mem, k.buf ∘ h.buf, fun x => ⟨Nat.le_trans (h.life x).1 (k.life (h.life x).2).1, (k.life (h.life x).2).2⟩, Nat.le_trans h.free k.free, h.out.trans k.out,
    k.rings ∘ h.rings, k.mbx ∘ h.mbx, k.slots ∘ h.slots, k.heads ∘ h.heads, k.cams ∘ h.cams, k.chans ∘ h.chans,
    fun x n => samePart_trans (h.same x n) (k.same x n)⟩

/-- A command keeps what it must when its next state, if it answers one, does. -/
def KeepsO (p : Part → Prop) (z : State) (o : Outcome) : Prop := ∀ t, o = .next t → Keeps p z t

theorem KeepsO.next {p : Part → Prop} {z s : State} (h : Keeps p z s) : KeepsO p z (.next s) := fun _ e => by cases e; exact h
theorem KeepsO.fault {p : Part → Prop} (z : State) (f : Fault) : KeepsO p z (.fault f) := fun _ e => by cases e
theorem KeepsO.refused {p : Part → Prop} (z : State) (f : Refusal) : KeepsO p z (.refused f) := fun _ e => by cases e

/-- Both branches of a choice keep. -/
theorem Keeps.ite {p : Part → Prop} {c : Prop} [Decidable c] {z a b : State} (ha : Keeps p z a) (hb : Keeps p z b) : Keeps p z (if c then a else b) := by
  split <;> assumption

/-- A fold keeps what each of its steps keeps. -/
theorem Keeps.foldl {p : Part → Prop} {α : Type} {f : State → α → State} (hf : ∀ z s a, Keeps p z s → Keeps p z (f s a)) {z : State} :
    ∀ {l : List α} {s : State}, Keeps p z s → Keeps p z (l.foldl f s)
  | [], _, h => h
  | a :: l, s, h => Keeps.foldl hf (l := l) (hf z s a h)

/-- A function applied for each number keeps what it keeps once. -/
theorem Keeps.forEach {p : Part → Prop} {f : Nat → State → State} (hf : ∀ z s a, Keeps p z s → Keeps p z (f a s)) {z : State} :
    ∀ {l : List Nat} {s : State}, Keeps p z s → Keeps p z (Sys2Proof.Machine.forEach f l s)
  | [], _, h => h
  | a :: l, s, h => Keeps.forEach hf (l := l) (hf z s a h)

@[simp] theorem length_updAt {α : Type} (f : α → α) (l : List α) (n : Nat) : (updAt l n f).length = l.length := by
  simp [updAt]

@[simp] theorem length_setAt {α : Type} (l : List α) (n : Nat) (a : α) : (setAt l n a).length = l.length := by
  simp [setAt]

@[simp] theorem RecState.freeBlock_rings (r : RecState) (b : BlockRef) : (r.freeBlock b).rings = r.rings := by cases b <;> rfl

@[simp] theorem RecState.freeBlocks_rings : ∀ (bs : List BlockRef) (r : RecState), (r.freeBlocks bs).rings = r.rings
  | [], _ => rfl
  | b :: bs, r => by simp [RecState.freeBlocks, RecState.freeBlocks_rings bs]

/-- A state with other fields of its sub-structures changed. -/
theorem Keeps.of {p : Part → Prop} {z s t : State} (h : Keeps p z s)
    (hp : t.pending = s.pending := by rfl) (hm : t.mem = s.mem := by rfl) (hb : t.hif.buf = s.hif.buf := by rfl)
    (hl : t.fuse.lifeCycle = s.fuse.lifeCycle := by rfl) (hf : s.free ≤ t.free := by first | exact Nat.le_refl _ | exact Nat.le_add_right _ _)
    (ho : s.out <+: t.out := by first | exact List.prefix_refl _ | exact List.prefix_append _ _)
    (hr : t.recs.rings.length = s.recs.rings.length := by first | rfl | (simp; done) | (dsimp only; split <;> simp; done) | (dsimp only; split <;> rfl)) (hx : t.hif.mbx.length = s.hif.mbx.length := by first | rfl | (simp; done) | (dsimp only; split <;> simp; done) | (dsimp only; split <;> rfl))
    (hs : t.deck.slots.length = s.deck.slots.length := by first | rfl | (simp; done) | (dsimp only; split <;> simp; done) | (dsimp only; split <;> rfl))
    (hh : t.print.head.length = s.print.head.length := by first | rfl | (simp; done) | (dsimp only; split <;> simp; done) | (dsimp only; split <;> rfl))
    (hc : t.intake.cam.length = s.intake.cam.length := by first | rfl | (simp; done) | (dsimp only; split <;> simp; done) | (dsimp only; split <;> rfl))
    (hd : t.dma.chan.length = s.dma.chan.length := by first | rfl | (simp; done) | (dsimp only; split <;> simp; done) | (dsimp only; split <;> rfl))
    (hpart : ∀ x, ¬ p x → samePart x s t := by
      intro x hx; cases x <;> first | exact absurd (by assumption) hx | exact Eq.refl _ | exact ⟨Eq.refl _, Eq.refl _, Eq.refl _⟩) : Keeps p z t :=
  ⟨hp.trans h.pending, fun x => by rw [hm]; exact h.mem x, fun x => by rw [hb]; exact h.buf x, fun x => by rw [hl]; exact h.life x,
    Nat.le_trans h.free hf, h.out.trans ho, fun x => hr.trans (h.rings x), fun x => hx.trans (h.mbx x), fun x => hs.trans (h.slots x),
    fun x => hh.trans (h.heads x), fun x => hc.trans (h.cams x), fun x => hd.trans (h.chans x),
    fun x n => samePart_trans (h.same x n) (hpart x n)⟩

/-- FLR keeps four mailboxes. -/
theorem Hif.flr_mbx (x : Hif) : x.flr.mbx.length = 4 := by simp [Hif.flr]

/-- A memory-only change. -/
theorem Keeps.withMem {p : Part → Prop} {z s : State} (h : Keeps p z s) (m : Memory) (hm : s.mem.wf = true → m.wf = true) (hp : p .mem := by first | assumption | decide) :
    Keeps p z { s with mem := m } :=
  { h with
    mem := hm ∘ h.mem
    same := fun x n => samePart_trans (h.same x n) (by cases x <;> first | rfl | exact ⟨rfl, rfl, rfl⟩ | exact absurd hp n) }

/-- A change of the mailbox buffers. -/
theorem Keeps.withBuf {p : Part → Prop} {z s : State} (h : Keeps p z s) (m : Memory) (hm : Memory.wf s.hif.buf = true → m.wf = true) (hp : p .hif := by first | assumption | decide) :
    Keeps p z { s with hif.buf := m } :=
  { h with
    buf := hm ∘ h.buf
    same := fun x n => samePart_trans (h.same x n) (by cases x <;> first | rfl | exact ⟨rfl, rfl, rfl⟩ | exact absurd hp n) }

theorem State.write_keeps {p : Part → Prop} {z s : State} (h : Keeps p z s) (a : Nat) (bs : List Byte) (_ : p .mem := by first | assumption | decide) : Keeps p z (s.write a bs) :=
  h.withMem _ (fun x => memWrite_wf x a bs)

theorem State.clear_keeps {p : Part → Prop} {z s : State} (h : Keeps p z s) (a n : Nat) (_ : p .mem := by first | assumption | decide) : Keeps p z (s.clear a n) :=
  h.withMem _ (fun x => memClear_wf x a n)

theorem State.drawn_keeps {p : Part → Prop} {z s : State} (h : Keeps p z s) (_ : p .free := by first | assumption | decide) : Keeps p z s.drawn := h.of (hf := Nat.le_succ _)

theorem State.emit_keeps {p : Part → Prop} {z s : State} (h : Keeps p z s) (o : Out) (_ : p .out := by first | assumption | decide) : Keeps p z (s.emit o) := h.of (ho := List.prefix_append _ _)

theorem State.cold_keeps {p : Part → Prop} {z s : State} (h : Keeps p z s)
    (hall : ∀ x, x ≠ .free → x ≠ .out → p x := by intro x h1 h2; cases x <;> first | assumption | exact absurd rfl h1 | exact absurd rfl h2) :
    Keeps p z s.cold :=
  ⟨h.pending, fun _ => rfl, fun _ => rfl, h.life, h.free, h.out, fun _ => rfl, fun _ => rfl, fun _ => rfl, fun _ => rfl, fun _ => rfl, fun _ => rfl,
    fun x n => by
      cases x <;> first | exact h.same .free n | exact h.same .out n | exact absurd (hall _ (by decide) (by decide)) n⟩

theorem State.updMbx_keeps {p : Part → Prop} {z s : State} (h : Keeps p z s) (n : Nat) (f : Mailbox → Mailbox) (_ : p .mbx := by first | assumption | decide) : Keeps p z (s.updMbx n f) := by
  unfold State.updMbx
  exact h.of

theorem State.respond_keeps {p : Part → Prop} {z s : State} (h : Keeps p z s) (code : Nat) (q : Req) (r : Reply) (_ : p .mbx := by first | assumption | decide) :
    Keeps p z (s.respond code q r) :=
  State.updMbx_keeps h _ _

theorem State.wakeDram_keeps {p : Part → Prop} {z s : State} (h : Keeps p z s) (_ : p .dram := by first | assumption | decide) : Keeps p z s.wakeDram := by
  unfold State.wakeDram
  split
  · exact h.of
  · exact h

/-- A Zaster command keeps what its effect keeps. -/
theorem runCmd_keeps {p : Part → Prop} {z s : State} (h : Keeps p z s) (code : Nat) (q : Req) (modes : ModeSet) (urgent : Bool) (refuse : Option Reply)
    (effect : State × Reply) (he : refuse = none → Keeps p z effect.1) (_ : p .mbx := by first | assumption | decide)
    (hd : usesDram code = true → p .dram := by first | (intro hd; exact absurd hd (by decide)) | (intro _; assumption)) :
    KeepsO p z (runCmd code q modes urgent refuse effect s) := by
  unfold runCmd
  split
  · exact KeepsO.next (State.respond_keeps h _ _ _)
  · split
    · exact KeepsO.next (State.respond_keeps h _ _ _)
    · refine KeepsO.next (State.respond_keeps ?_ _ _ _)
      split
      · rename_i hu
        have := hd hu
        exact State.wakeDram_keeps (he rfl)
      · exact he rfl

end Sys2Proof.Machine
end

