-- ==== Sys2Proof/Laws/Keeps1.lean ====
section
/-! SUPPORT. What each operation of the block keeps, part 1: one lemma for each, in the order of their use (`Keeps`). -/

set_option linter.unusedVariables false
set_option linter.unusedSimpArgs false

namespace Sys2Proof.Machine

set_option Elab.async false

theorem State.updRing_keeps {p : Part → Prop} {z s : State} (h : Keeps p z s) (k : Nat) (f : Ring → Ring) (_ : p .recs := by first | assumption | decide) :
    Keeps p z (State.updRing s k f) := by
  unfold State.updRing
  refine h.of

theorem State.updRef_keeps {p : Part → Prop} {z s : State} (h : Keeps p z s) (k : Nat) (f : RefSlot → RefSlot) (_ : p .reg := by first | assumption | decide) :
    Keeps p z (State.updRef s k f) := by
  unfold State.updRef
  refine h.of

theorem execWinBaseHiWrite_keeps {p : Part → Prop} {z s : State} (h : Keeps p z s) (value : Word) (_ : p .hif := by first | assumption | decide) :
    KeepsO p z (execWinBaseHiWrite value s) := by
  unfold execWinBaseHiWrite
  split
  · exact KeepsO.fault _ _
  · refine KeepsO.next ?_
    refine h.of

theorem State.updCam_keeps {p : Part → Prop} {z s : State} (h : Keeps p z s) (c : Nat) (f : Camera → Camera) (_ : p .intake := by first | assumption | decide) :
    Keeps p z (State.updCam s c f) := by
  unfold State.updCam
  refine h.of

theorem State.dropTask_keeps {p : Part → Prop} {z s : State} (h : Keeps p z s) (t : Task) (_ : p .comb := by first | assumption | decide) :
    Keeps p z (State.dropTask s t) := by
  unfold State.dropTask
  refine h.of

theorem State.runImage_keeps {p : Part → Prop} {z s : State} (h : Keeps p z s) (k : Nat) (i : FwImage) (_ : p .sys := by first | assumption | decide) (_ : p .fuse := by first | assumption | decide) :
    Keeps p z (State.runImage s k i) := by
  unfold State.runImage
  exact h.of (hl := by dsimp only; split <;> rfl)

theorem State.updRelay_keeps {p : Part → Prop} {z s : State} (h : Keeps p z s) (r : Nat) (f : Relay → Relay) (_ : p .trestle := by first | assumption | decide) :
    Keeps p z (State.updRelay s r f) := by
  unfold State.updRelay
  refine h.of

theorem State.updHead_keeps {p : Part → Prop} {z s : State} (h : Keeps p z s) (v1 : Nat) (f : Head → Head) (_ : p .print := by first | assumption | decide) :
    Keeps p z (State.updHead s v1 f) := by
  unfold State.updHead
  refine h.of

theorem State.trimLines_keeps {p : Part → Prop} {z s : State} (h : Keeps p z s) (ser : Nat) (_ : p .intake := by first | assumption | decide) :
    Keeps p z (State.trimLines s ser) := by
  unfold State.trimLines
  refine h.of

theorem State.start_keeps {p : Part → Prop} {z s : State} (h : Keeps p z s) (code : Nat) (q : Req) (args : List Nat) (_ : p .keeper := by first | assumption | decide) :
    Keeps p z (State.start s code q args) := by
  unfold State.start
  refine h.of

theorem State.readCorr_keeps {p : Part → Prop} {z s : State} (h : Keeps p z s) (a : Nat) (_ : p .dram := by first | assumption | decide) :
    Keeps p z (State.readCorr s a) := by
  unfold State.readCorr
  split
  · refine h.of
  · exact h

theorem execWinBaseLoWrite_keeps {p : Part → Prop} {z s : State} (h : Keeps p z s) (value : Word) (_ : p .hif := by first | assumption | decide) :
    KeepsO p z (execWinBaseLoWrite value s) := by
  unfold execWinBaseLoWrite
  split
  · exact KeepsO.fault _ _
  · refine KeepsO.next ?_
    refine h.of

theorem execCut_keeps {p : Part → Prop} {z s : State} (h : Keeps p z s) (label : Nat) (wln : Nat) (_ : p .vd := by first | assumption | decide) :
    KeepsO p z (execCut label wln s) := by
  unfold execCut
  refine KeepsO.next ?_
  split
  · refine h.of
  · exact h

theorem State.updStrip_keeps {p : Part → Prop} {z s : State} (h : Keeps p z s) (id : Nat) (f : Strip → Strip) (_ : p .intake := by first | assumption | decide) :
    Keeps p z (State.updStrip s id f) := by
  unfold State.updStrip
  refine h.of

theorem State.updInput_keeps {p : Part → Prop} {z s : State} (h : Keeps p z s) (i : Nat) (f : InputCount → InputCount) (_ : p .trestle := by first | assumption | decide) :
    Keeps p z (State.updInput s i f) := by
  unfold State.updInput
  refine h.of

theorem State.updSlot_keeps {p : Part → Prop} {z s : State} (h : Keeps p z s) (k : Nat) (f : DeckSlot → DeckSlot) (_ : p .deck := by first | assumption | decide) :
    Keeps p z (State.updSlot s k f) := by
  unfold State.updSlot
  refine h.of

theorem State.takeCropSlot_keeps {p : Part → Prop} {z s : State} (h : Keeps p z s) (reuse : Bool) (_ : p .recs := by first | assumption | decide) :
    Keeps p z (State.takeCropSlot s reuse).2 := by
  unfold State.takeCropSlot
  extract_lets a1 a2
  clear_value a1
  split
  · exact h
  · extract_lets a6
    dsimp only
    refine h.of

theorem execQswarmEnqueue_keeps {p : Part → Prop} {z s : State} (h : Keeps p z s)  (_ : p .seg := by first | assumption | decide) :
    KeepsO p z (execQswarmEnqueue s) := by
  unfold execQswarmEnqueue
  refine KeepsO.next ?_
  refine h.of

theorem State.pullComps_keeps {p : Part → Prop} {z s : State} (h : Keeps p z s) (ids : List Nat) (_ : p .seg := by first | assumption | decide) :
    Keeps p z (State.pullComps s ids) := by
  unfold State.pullComps
  refine h.of

theorem State.beginTraining_keeps {p : Part → Prop} {z s : State} (h : Keeps p z s)  (_ : p .vd := by first | assumption | decide) :
    Keeps p z (State.beginTraining s) := by
  unfold State.beginTraining
  refine h.of

theorem State.segmenterRetired_keeps {p : Part → Prop} {z s : State} (h : Keeps p z s)  (_ : p .seg := by first | assumption | decide) :
    Keeps p z (State.segmenterRetired s) := by
  unfold State.segmenterRetired
  refine h.of

theorem State.seamAdj_keeps {p : Part → Prop} {z s : State} (h : Keeps p z s) (own : Option Nat) (st : Nat) (_ : p .seg := by first | assumption | decide) :
    Keeps p z (State.seamAdj s own st) := by
  unfold State.seamAdj
  split
  · split
    · refine h.of
    · exact h
  · exact h

theorem State.backlogFlag_keeps {p : Part → Prop} {z s : State} (h : Keeps p z s)  (_ : p .pos := by first | assumption | decide) :
    Keeps p z (State.backlogFlag s) := by
  unfold State.backlogFlag
  split
  · refine h.of
  · exact h

theorem State.updMarker_keeps {p : Part → Prop} {z s : State} (h : Keeps p z s) (m : Nat) (f : Marker → Marker) (_ : p .mark := by first | assumption | decide) :
    Keeps p z (State.updMarker s m f) := by
  unfold State.updMarker
  refine h.of

theorem State.setMove_keeps {p : Part → Prop} {z s : State} (h : Keeps p z s) (m : Move) (_ : p .motion := by first | assumption | decide) :
    Keeps p z (State.setMove s m) := by
  unfold State.setMove
  refine h.of

theorem execPerstRelease_keeps {p : Part → Prop} {z s : State} (h : Keeps p z s)  (_ : p .hif := by first | assumption | decide) :
    KeepsO p z (execPerstRelease s) := by
  unfold execPerstRelease
  refine KeepsO.next ?_
  refine h.of

theorem execMacAgeing_keeps {p : Part → Prop} {z s : State} (h : Keeps p z s) (mac : Nat) (eccError : Bool) (_ : p .net := by first | assumption | decide) :
    KeepsO p z (execMacAgeing mac s eccError) := by
  unfold execMacAgeing
  refine KeepsO.next ?_
  refine h.of

theorem State.updEnc_keeps {p : Part → Prop} {z s : State} (h : Keeps p z s) (k : Nat) (f : Encoder → Encoder) (_ : p .pos := by first | assumption | decide) :
    Keeps p z (State.updEnc s k f) := by
  unfold State.updEnc
  refine h.of

theorem execSeam_keeps {p : Part → Prop} {z s : State} (h : Keeps p z s) (wln : Nat) (epoch : Nat) (state : Nat) (label : Nat) (merge : Bool) (_ : p .vd := by first | assumption | decide) :
    KeepsO p z (execSeam wln epoch state label s merge) := by
  unfold execSeam
  refine KeepsO.next ?_
  split
  · refine h.of
  · exact h

theorem State.bindEpoch_keeps {p : Part → Prop} {z s : State} (h : Keeps p z s) (epoch : Nat) (slot : Option Nat) (_ : p .reg := by first | assumption | decide) :
    Keeps p z (State.bindEpoch s epoch slot) := by
  unfold State.bindEpoch
  split
  · exact h
  · refine h.of

theorem execHostVersionWrite_keeps {p : Part → Prop} {z s : State} (h : Keeps p z s) (value : Word) (_ : p .hif := by first | assumption | decide) :
    KeepsO p z (execHostVersionWrite value s) := by
  unfold execHostVersionWrite
  split
  · exact KeepsO.fault _ _
  · extract_lets a3 a4
    refine KeepsO.next ?_
    refine h.of

theorem State.deliverSpeed_keeps {p : Part → Prop} {z s : State} (h : Keeps p z s) (cs : List Carried) (_ : p .print := by first | assumption | decide) :
    Keeps p z (State.deliverSpeed s cs) := by
  unfold State.deliverSpeed
  split
  · refine h.of
  · exact h

theorem State.modeAnswer_keeps {p : Part → Prop} {z s : State} (h : Keeps p z s) (status : Nat) (_ : p .vd := by first | assumption | decide) :
    Keeps p z (State.modeAnswer s status) := by
  unfold State.modeAnswer
  split
  · refine h.of
  · exact h

theorem State.withdrawTask_keeps {p : Part → Prop} {z s : State} (h : Keeps p z s) (stage : Nat) (_ : p .comb := by first | assumption | decide) :
    Keeps p z (State.withdrawTask s stage) := by
  unfold State.withdrawTask
  split
  · split
    · exact h
    · split
      · refine h.of
      · refine h.of
  · refine h.of

theorem State.updDma_keeps {p : Part → Prop} {z s : State} (h : Keeps p z s) (c : Nat) (f : DmaChan → DmaChan) (_ : p .dma := by first | assumption | decide) :
    Keeps p z (State.updDma s c f) := by
  unfold State.updDma
  refine h.of

theorem State.addTask_keeps {p : Part → Prop} {z s : State} (h : Keeps p z s) (t : Task) (_ : p .comb := by first | assumption | decide) :
    Keeps p z (State.addTask s t) := by
  unfold State.addTask
  refine h.of

theorem State.dropLoopCodes_keeps {p : Part → Prop} {z s : State} (h : Keeps p z s) (target : Nat) (tdac : Nat) (_ : p .intake := by first | assumption | decide) :
    Keeps p z (State.dropLoopCodes s target tdac) := by
  unfold State.dropLoopCodes
  refine h.of

theorem State.setTask_keeps {p : Part → Prop} {z s : State} (h : Keeps p z s) (t : Task) (_ : p .comb := by first | assumption | decide) :
    Keeps p z (State.setTask s t) := by
  unfold State.setTask
  refine h.of

theorem State.bootNext_keeps {p : Part → Prop} {z s : State} (h : Keeps p z s) (slot : Nat) (_ : p .fw := by first | assumption | decide) :
    Keeps p z (State.bootNext s slot) := by
  unfold State.bootNext
  refine h.of

theorem State.startPulse_keeps {p : Part → Prop} {z s : State} (h : Keeps p z s) (n : Nat) (_ : p .pio := by first | assumption | decide) (_ : p .out := by first | assumption | decide) :
    Keeps p z (State.startPulse s n) := by
  unfold State.startPulse
  refine h.of

theorem State.clearEdgeCounters_keeps {p : Part → Prop} {z s : State} (h : Keeps p z s) (m : Nat) (_ : p .mon := by first | assumption | decide) (_ : p .vd := by first | assumption | decide) (_ : p .net := by first | assumption | decide) (_ : p .dram := by first | assumption | decide) (_ : p .dma := by first | assumption | decide) (_ : p .power := by first | assumption | decide) :
    Keeps p z (State.clearEdgeCounters s m) := by
  unfold State.clearEdgeCounters
  refine h.of

theorem State.ownPosition_keeps {p : Part → Prop} {z s : State} (h : Keeps p z s)  (_ : p .pos := by first | assumption | decide) :
    Keeps p z (State.ownPosition s) := by
  unfold State.ownPosition
  split
  · exact h
  · split
    · refine h.of
    · refine h.of

theorem State.peerDropped_keeps {p : Part → Prop} {z s : State} (h : Keeps p z s)  (_ : p .net := by first | assumption | decide) :
    Keeps p z (State.peerDropped s) := by
  unfold State.peerDropped
  refine h.of

theorem execPtpAnnounceTimeout_keeps {p : Part → Prop} {z s : State} (h : Keeps p z s) (arrival : Bool) (_ : p .net := by first | assumption | decide) :
    KeepsO p z (execPtpAnnounceTimeout s arrival) := by
  unfold execPtpAnnounceTimeout
  split
  · refine KeepsO.next ?_
    exact h
  · refine KeepsO.next ?_
    refine h.of

theorem State.updChan_keeps {p : Part → Prop} {z s : State} (h : Keeps p z s) (c : Nat) (f : ChannelCount → ChannelCount) (_ : p .trestle := by first | assumption | decide) :
    Keeps p z (State.updChan s c f) := by
  unfold State.updChan
  refine h.of

theorem execFrameClockChange_keeps {p : Part → Prop} {z s : State} (h : Keeps p z s) (frame : Nat) (mhz : Nat) (_ : p .comb := by first | assumption | decide) :
    KeepsO p z (execFrameClockChange frame mhz s) := by
  unfold execFrameClockChange
  split
  · refine KeepsO.next ?_
    exact h
  · refine KeepsO.next ?_
    refine h.of

theorem execDqsTracking_keeps {p : Part → Prop} {z s : State} (h : Keeps p z s)  (_ : p .dram := by first | assumption | decide) :
    KeepsO p z (execDqsTracking s) := by
  unfold execDqsTracking
  refine KeepsO.next ?_
  split
  · refine h.of
  · exact h

theorem State.decodeBand_keeps {p : Part → Prop} {z s : State} (h : Keeps p z s) (d : Container) (epoch : Nat) (o : RefSlot) (centre : Int) (_ : p .reg := by first | assumption | decide) :
    Keeps p z (State.decodeBand s d epoch o centre) := by
  unfold State.decodeBand
  extract_lets a1 a2 a3
  refine h.of

theorem State.keepGrid_keeps {p : Part → Prop} {z s : State} (h : Keeps p z s) (lead : Nat) (epoch : Nat) (_ : p .print := by first | assumption | decide) :
    Keeps p z (State.keepGrid s lead epoch) := by
  unfold State.keepGrid
  split
  · exact h
  · refine h.of

theorem State.touchSeam_keeps {p : Part → Prop} {z s : State} (h : Keeps p z s) (own : Option Nat) (_ : p .vd := by first | assumption | decide) :
    Keeps p z (State.touchSeam s own) := by
  unfold State.touchSeam
  split
  · split
    · refine h.of
    · exact h
  · exact h

theorem State.clearWebCounters_keeps {p : Part → Prop} {z s : State} (h : Keeps p z s) (m : Nat) (_ : p .intake := by first | assumption | decide) (_ : p .span := by first | assumption | decide) (_ : p .reg := by first | assumption | decide) (_ : p .cmp := by first | assumption | decide) (_ : p .seg := by first | assumption | decide) (_ : p .codec := by first | assumption | decide) :
    Keeps p z (State.clearWebCounters s m) := by
  unfold State.clearWebCounters
  refine h.of

theorem State.servo_keeps {p : Part → Prop} {z s : State} (h : Keeps p z s) (o : Int) (_ : p .net := by first | assumption | decide) :
    Keeps p z (State.servo s o) := by
  unfold State.servo
  extract_lets a1 a2 a3 a4 a5 a6 a7 a8 a9 a10
  refine h.of

theorem State.announced_keeps {p : Part → Prop} {z s : State} (h : Keeps p z s) (src : Nat) (data : List Nat) (_ : p .net := by first | assumption | decide) :
    Keeps p z (State.announced s src data) := by
  unfold State.announced
  extract_lets a1 a2 a3
  split
  · exact h
  · split
    · refine h.of
    · split
      · refine h.of
      · exact h

theorem State.pruneStrips_keeps {p : Part → Prop} {z s : State} (h : Keeps p z s)  (_ : p .intake := by first | assumption | decide) :
    Keeps p z (State.pruneStrips s) := by
  unfold State.pruneStrips
  extract_lets a1 a2 a3
  refine h.of

theorem State.updPort_keeps {p : Part → Prop} {z s : State} (h : Keeps p z s) (i : Nat) (f : NetPort → NetPort) (_ : p .net := by first | assumption | decide) :
    Keeps p z (State.updPort s i f) := by
  unfold State.updPort
  refine h.of

theorem State.noteRepeat_keeps {p : Part → Prop} {z s : State} (h : Keeps p z s) (l : LineSlot) (_ : p .comb := by first | assumption | decide) :
    Keeps p z (State.noteRepeat s l) := by
  unfold State.noteRepeat
  extract_lets a1 a2 a3 a4 a5 a6
  split
  · refine h.of
  · refine h.of

theorem State.endRunning_keeps {p : Part → Prop} {z s : State} (h : Keeps p z s) (code : Nat) (_ : p .keeper := by first | assumption | decide) :
    Keeps p z (State.endRunning s code) := by
  unfold State.endRunning
  refine h.of

theorem State.updAxis_keeps {p : Part → Prop} {z s : State} (h : Keeps p z s) (a : Nat) (f : Axis → Axis) (_ : p .motion := by first | assumption | decide) :
    Keeps p z (State.updAxis s a f) := by
  unfold State.updAxis
  refine h.of

theorem State.putTest_keeps {p : Part → Prop} {z s : State} (h : Keeps p z s) (t : LaneTest) (_ : p .vd := by first | assumption | decide) :
    Keeps p z (State.putTest s t) := by
  unfold State.putTest
  refine h.of

theorem State.advance_keeps {p : Part → Prop} {z s : State} (h : Keeps p z s) (t : Nat) (_ : p .net := by first | assumption | decide) (_ : p .now := by first | assumption | decide) :
    Keeps p z (State.advance s t) := by
  unfold State.advance
  refine h.of

theorem State.deliverStages_keeps {p : Part → Prop} {z s : State} (h : Keeps p z s) (cs : List Carried) (v2 : List Nat) (_ : p .comb := by first | assumption | decide) :
    Keeps p z (State.deliverStages s cs v2) := by
  induction v2 generalizing s cs
  · rw [State.deliverStages]
    exact h
  · rename_i e0 l0 ih
    rw [State.deliverStages]
    apply ih
    split
    · exact h
    · split
      · exact h
      · split
        · exact h
        · split
          · exact h
          · extract_lets a29 a30 a31
            refine h.of

theorem State.publish_keeps {p : Part → Prop} {z s : State} (h : Keeps p z s) (producer : Nat) (tag : Int) (_ : p .trestle := by first | assumption | decide) :
    Keeps p z (State.publish s producer tag) := by
  unfold State.publish
  split
  · exact h
  · split
    · exact h
    · extract_lets a5
      refine h.of

theorem State.zeroise_keeps {p : Part → Prop} {z s : State} (h : Keeps p z s)  (_ : p .print := by first | assumption | decide) (_ : p .fuse := by first | assumption | decide) :
    Keeps p z (State.zeroise s) := by
  unfold State.zeroise
  refine h.of

theorem execHeartbeat_keeps {p : Part → Prop} {z s : State} (h : Keeps p z s)  (_ : p .hif := by first | assumption | decide) :
    KeepsO p z (execHeartbeat s) := by
  unfold execHeartbeat
  refine KeepsO.next ?_
  refine h.of

theorem State.selfRefreshes_keeps {p : Part → Prop} {z s : State} (h : Keeps p z s)  (_ : p .dram := by first | assumption | decide) :
    Keeps p z (State.selfRefreshes s) := by
  unfold State.selfRefreshes
  refine h.of

theorem execMr4Read_keeps {p : Part → Prop} {z s : State} (h : Keeps p z s) (codes : List Nat) (_ : p .dram := by first | assumption | decide) :
    KeepsO p z (execMr4Read codes s) := by
  unfold execMr4Read
  refine KeepsO.next ?_
  split
  · refine h.of
  · exact h

theorem State.joinSeam_keeps {p : Part → Prop} {z s : State} (h : Keeps p z s) (own : Option Nat) (label : Nat) (_ : p .vd := by first | assumption | decide) :
    Keeps p z (State.joinSeam s own label) := by
  unfold State.joinSeam
  split
  · exact h
  · split
    · exact h
    · extract_lets a5 a6 a7 a8 a9
      split
      · exact h
      · refine h.of

theorem State.updSenc_keeps {p : Part → Prop} {z s : State} (h : Keeps p z s) (k : Nat) (f : Serial → Serial) (_ : p .pos := by first | assumption | decide) :
    Keeps p z (State.updSenc s k f) := by
  unfold State.updSenc
  refine h.of

theorem State.emitUnion_keeps {p : Part → Prop} {z s : State} (h : Keeps p z s) (u : SeamUnion) (cut : Option Nat) (_ : p .seg := by first | assumption | decide) :
    Keeps p z (State.emitUnion s u cut).1 := by
  unfold State.emitUnion
  extract_lets a1 a2 a3 a4 a5 a6 a7 a8 a9 a10 a11
  dsimp only
  refine h.of

theorem execSpdHoldExpiry_keeps {p : Part → Prop} {z s : State} (h : Keeps p z s)  (_ : p .print := by first | assumption | decide) :
    KeepsO p z (execSpdHoldExpiry s) := by
  unfold execSpdHoldExpiry
  refine KeepsO.next ?_
  refine h.of

theorem State.loadProfile_keeps {p : Part → Prop} {z s : State} (h : Keeps p z s) (addr : Nat) (len : Nat) (_ : p .profile := by first | assumption | decide) :
    Keeps p z (State.loadProfile s addr len).1 := by
  unfold State.loadProfile
  extract_lets a1 a2 a3
  split
  · exact h
  · split
    · exact h
    · dsimp only
      refine h.of

theorem State.shedRow_keeps {p : Part → Prop} {z s : State} (h : Keeps p z s)  (_ : p .codec := by first | assumption | decide) (_ : p .dram := by first | assumption | decide) :
    Keeps p z (State.shedRow s) := by
  unfold State.shedRow
  refine h.of

theorem State.clearMidCounters_keeps {p : Part → Prop} {z s : State} (h : Keeps p z s) (m : Nat) (_ : p .recs := by first | assumption | decide) (_ : p .mark := by first | assumption | decide) (_ : p .pos := by first | assumption | decide) (_ : p .comb := by first | assumption | decide) (_ : p .print := by first | assumption | decide) :
    Keeps p z (State.clearMidCounters s m) := by
  unfold State.clearMidCounters
  refine h.of

theorem State.countBlocks_keeps {p : Part → Prop} {z s : State} (h : Keeps p z s) (v0 : List Nat) (_ : p .codec := by first | assumption | decide) :
    Keeps p z (State.countBlocks v0 s) := by
  induction v0 generalizing s
  · rw [State.countBlocks]
    exact h
  · rename_i e0 l0 ih
    rw [State.countBlocks]
    split
    · apply ih
      refine h.of
    · apply ih
      exact h

theorem State.correctedError_keeps {p : Part → Prop} {z s : State} (h : Keeps p z s) (cell : Nat) (frameStore : Bool) (_ : p .comb := by first | assumption | decide) :
    Keeps p z (State.correctedError s cell frameStore) := by
  unfold State.correctedError
  extract_lets a1
  refine h.of

theorem State.updQueue_keeps {p : Part → Prop} {z s : State} (h : Keeps p z s) (lead : Nat) (f : ItemQueue → ItemQueue) (_ : p .print := by first | assumption | decide) :
    Keeps p z (State.updQueue s lead f) := by
  unfold State.updQueue
  refine h.of

theorem State.updFw_keeps {p : Part → Prop} {z s : State} (h : Keeps p z s) (k : Nat) (f : FwSlot → FwSlot) (_ : p .fw := by first | assumption | decide) :
    Keeps p z (State.updFw s k f) := by
  unfold State.updFw
  refine h.of

theorem State.updCodec_keeps {p : Part → Prop} {z s : State} (h : Keeps p z s) (ov : Bool) (f : RingCodec → RingCodec) (_ : p .codec := by first | assumption | decide) :
    Keeps p z (State.updCodec s ov f) := by
  unfold State.updCodec
  split
  · refine h.of
  · refine h.of

theorem State.peerMerged_keeps {p : Part → Prop} {z s : State} (h : Keeps p z s) (b : Nat) (a : Nat) (_ : p .vd := by first | assumption | decide) :
    Keeps p z (State.peerMerged s b a) := by
  unfold State.peerMerged
  split
  · exact h
  · extract_lets a3 a4 a5 a6
    split
    · exact h
    · refine h.of

theorem State.setCode_keeps {p : Part → Prop} {z s : State} (h : Keeps p z s) (t : Nat) (code : Nat) (_ : p .cal := by first | assumption | decide) :
    Keeps p z (State.setCode s t code) := by
  unfold State.setCode
  split
  · exact h
  · extract_lets a3 a4
    split
    · refine h.of
    · refine h.of

theorem execPcieLinkLoss_keeps {p : Part → Prop} {z s : State} (h : Keeps p z s)  (_ : p .hif := by first | assumption | decide) :
    KeepsO p z (execPcieLinkLoss s) := by
  unfold execPcieLinkLoss
  refine KeepsO.next ?_
  refine h.of

theorem State.evtClear_keeps {p : Part → Prop} {z s : State} (h : Keeps p z s)  (_ : p .mark := by first | assumption | decide) (_ : p .trestle := by first | assumption | decide) :
    Keeps p z (State.evtClear s) := by
  unfold State.evtClear
  extract_lets a1 a2 a3
  have ha2 : Keeps p z a2 := by
    unfold a2
    refine h.of
  clear_value a2
  refine ha2.of

theorem State.updTth_keeps {p : Part → Prop} {z s : State} (h : Keeps p z s) (k : Nat) (f : Tooth → Tooth) (_ : p .pos := by first | assumption | decide) :
    Keeps p z (State.updTth s k f) := by
  unfold State.updTth
  refine h.of

theorem execPairinfo_keeps {p : Part → Prop} {z s : State} (h : Keeps p z s) (epoch : Nat) (width : Nat) (pitch : Nat) (posPitch : Nat) (_ : p .vd := by first | assumption | decide) :
    KeepsO p z (execPairinfo epoch width pitch s posPitch) := by
  unfold execPairinfo
  refine KeepsO.next ?_
  split
  · refine h.of
  · exact h

theorem execVinUvloRising_keeps {p : Part → Prop} {z s : State} (h : Keeps p z s)  (_ : p .power := by first | assumption | decide) :
    KeepsO p z (execVinUvloRising s) := by
  unfold execVinUvloRising
  refine KeepsO.next ?_
  refine h.of

theorem State.commitNodes_keeps {p : Part → Prop} {z s : State} (h : Keeps p z s) (epoch : Nat) (row : Nat) (first : Nat) (nodes : List (Int × Int × Nat)) (_ : p .reg := by first | assumption | decide) (_ : p .comb := by first | assumption | decide) :
    Keeps p z (State.commitNodes s epoch row first nodes) := by
  unfold State.commitNodes
  extract_lets a1 a2 a3 a4 a5 a6 a7 a8
  have ha6 : Keeps p z a6 := by
    unfold a6
    refine h.of
  clear_value a6
  split
  · refine h.of
  · split
    · exact ha6
    · split
      · exact ha6
      · refine ha6.of

theorem State.endBad_keeps {p : Part → Prop} {z s : State} (h : Keeps p z s)  (_ : p .codec := by first | assumption | decide) :
    Keeps p z (State.endBad s) := by
  unfold State.endBad
  refine h.of

theorem State.bufWrite_keeps {p : Part → Prop} {z s : State} (h : Keeps p z s) (offset : Nat) (v : Nat) (_ : p .hif := by first | assumption | decide) :
    KeepsO p z (State.bufWrite s offset v) := by
  unfold State.bufWrite
  extract_lets n
  split
  · exact KeepsO.fault _ _
  · split
    · exact KeepsO.fault _ _
    · exact KeepsO.next (h.withBuf _ (fun x => memWrite_wf x _ _))

theorem State.leaveStandby_keeps {p : Part → Prop} {z s : State} (h : Keeps p z s)  (_ : p .mon := by first | assumption | decide) (_ : p .dram := by first | assumption | decide) (_ : p .dma := by first | assumption | decide) :
    Keeps p z (State.leaveStandby s) := by
  unfold State.leaveStandby
  refine h.of

theorem execFragmentTimeout_keeps {p : Part → Prop} {z s : State} (h : Keeps p z s)  (_ : p .hif := by first | assumption | decide) :
    KeepsO p z (execFragmentTimeout s) := by
  unfold execFragmentTimeout
  refine KeepsO.next ?_
  refine h.of

theorem State.shiftFrom_keeps {p : Part → Prop} {z s : State} (h : Keeps p z s) (d : Container) (field : List (Int × Int)) (lead : Nat) (_ : p .print := by first | assumption | decide) :
    Keeps p z (State.shiftFrom s d field lead) := by
  unfold State.shiftFrom
  extract_lets a1 a2 a3 a4 a5 a6
  split
  · exact h
  · extract_lets a10 a11 a12
    split
    · refine h.of
    · exact h

theorem State.activateTrestle_keeps {p : Part → Prop} {z s : State} (h : Keeps p z s) (d : Container) (_ : p .trestle := by first | assumption | decide) (_ : p .pio := by first | assumption | decide) (_ : p .out := by first | assumption | decide) :
    Keeps p z (State.activateTrestle s d) := by
  unfold State.activateTrestle
  refine h.of

theorem State.writeFree_keeps {p : Part → Prop} {z s : State} (h : Keeps p z s) (a : Nat) (n : Nat) (_ : p .mem := by first | assumption | decide) (_ : p .free := by first | assumption | decide) :
    Keeps p z (State.writeFree s a n) := by
  unfold State.writeFree
  refine State.drawn_keeps ?_
  refine State.write_keeps ?_ _ _
  exact h

theorem execMailboxGo_keeps {p : Part → Prop} {z s : State} (h : Keeps p z s) (n : Nat) (value : Nat) (_ : p .mbx := by first | assumption | decide) :
    KeepsO p z (execMailboxGo n value s) := by
  unfold execMailboxGo
  split
  · exact KeepsO.fault _ _
  · split
    · refine KeepsO.next ?_
      exact h
    · split
      · refine KeepsO.next ?_
        refine State.updMbx_keeps ?_ _ _
        exact h
      · refine KeepsO.next ?_
        refine State.updMbx_keeps ?_ _ _
        exact h

theorem execLinkTrainRetry_keeps {p : Part → Prop} {z s : State} (h : Keeps p z s)  (_ : p .vd := by first | assumption | decide) :
    KeepsO p z (execLinkTrainRetry s) := by
  unfold execLinkTrainRetry
  refine KeepsO.next ?_
  split
  · refine State.beginTraining_keeps ?_
    exact h
  · exact h

/-- The fuses of an advance that R586 permits. -/
theorem State.advanceTo_keeps {p : Part → Prop} {z s : State} (h : Keeps p z s) (target : Nat) (hp : lcPermits s.fuse.lifeCycle target = true) (_ : p .print := by first | assumption | decide) (_ : p .fuse := by first | assumption | decide) :
    Keeps p z (s.advanceTo target) := by
  have key : s.fuse.lifeCycle ≤ 5 → s.fuse.lifeCycle ≤ target ∧ target ≤ 5 := by
    intro h5
    simp only [lcPermits, Bool.or_eq_true, Bool.and_eq_true, beq_iff_eq, bne_iff_ne] at hp
    omega
  have life : z.fuse.lifeCycle ≤ 5 → z.fuse.lifeCycle ≤ target ∧ target ≤ 5 := fun x =>
    ⟨Nat.le_trans (h.life x).1 (key (h.life x).2).1, (key (h.life x).2).2⟩
  unfold State.advanceTo
  extract_lets f f1 s1
  have h1 : Keeps p z s1 :=
    { h with
      life := life
      same := fun x n => samePart_trans (h.same x n) (by cases x <;> first | exact absurd (by assumption) n | exact Eq.refl _ | exact ⟨Eq.refl _, Eq.refl _, Eq.refl _⟩) }
  split
  · exact State.zeroise_keeps h1
  · exact h1

theorem State.eventReady_keeps {p : Part → Prop} {z s : State} (h : Keeps p z s) (stage : Nat) (_ : p .comb := by first | assumption | decide) :
    Keeps p z (State.eventReady s stage) := by
  unfold State.eventReady
  split
  · exact h
  · extract_lets a3 a4 a5 a6
    have ha4 : Keeps p z a4 := by
      unfold a4
      refine h.of
    clear_value a4
    split
    · exact ha4
    · extract_lets a11
      clear_value a11
      split
      · exact ha4
      · split
        · split
          · exact ha4
          · refine State.addTask_keeps ?_ _
            exact ha4
        · split
          · exact ha4
          · exact h

theorem State.snapHeader_keeps {p : Part → Prop} {z s : State} (h : Keeps p z s) (n : Snapshot) (noWeb : Bool) (_ : p .mem := by first | assumption | decide) (_ : p .free := by first | assumption | decide) :
    Keeps p z (State.snapHeader s n noWeb) := by
  unfold State.snapHeader
  extract_lets a1
  refine State.drawn_keeps ?_
  refine State.write_keeps ?_ _ _
  exact h

theorem State.settleMeets_keeps {p : Part → Prop} {z s : State} (h : Keeps p z s) (c : Nat) (_ : p .intake := by first | assumption | decide) :
    Keeps p z (State.settleMeets s c) := by
  unfold State.settleMeets
  extract_lets a1 a2
  have ha2 : Keeps p z a2 := by
    unfold a2
    refine State.updCam_keeps ?_ _ _
    exact h
  clear_value a2
  split
  · refine Keeps.foldl (fun z7 s8 x9 h10 => ?_) ?_
    · refine State.dropLoopCodes_keeps ?_ _ _
      exact h10
    · exact ha2
  · exact ha2

theorem State.evalLevels_keeps {p : Part → Prop} {z s : State} (h : Keeps p z s) (v1 : List Nat) (_ : p .print := by first | assumption | decide) (_ : p .free := by first | assumption | decide) :
    Keeps p z (State.evalLevels s v1) := by
  induction v1 generalizing s
  · rw [State.evalLevels]
    exact h
  · rename_i e0 l0 ih
    rw [State.evalLevels]
    apply ih
    refine Keeps.of (s := if (s.coverage e0).snd = true then s.drawn else s) ?_
    split
    · refine State.drawn_keeps ?_
      exact h
    · exact h

theorem State.acceptBlob_keeps {p : Part → Prop} {z s : State} (h : Keeps p z s)  (_ : p .comb := by first | assumption | decide) :
    Keeps p z (State.acceptBlob s) := by
  unfold State.acceptBlob
  extract_lets a1
  split
  · exact h
  · split
    · exact h
    · refine State.addTask_keeps ?_ _
      exact h

theorem State.frameParams_keeps {p : Part → Prop} {z s : State} (h : Keeps p z s) (f : Nat) (_ : p .mem := by first | assumption | decide) :
    Keeps p z (State.frameParams s f) := by
  unfold State.frameParams
  extract_lets a1
  have ha1 : ∀ y0 y1, Keeps p z y0 → Keeps p z (a1 y0 y1) := by
    intro x2
    intro x3
    intro hx4
    unfold a1
    split
    · exact hx4
    · refine State.write_keeps ?_ _ _
      exact hx4
  clear_value a1
  apply ha1
  apply ha1
  exact h

theorem State.webClears_keeps {p : Part → Prop} {z s : State} (h : Keeps p z s)  (_ : p .print := by first | assumption | decide) :
    Keeps p z (State.webClears s) := by
  unfold State.webClears
  refine Keeps.foldl (fun z1 s2 x3 h4 => ?_) ?_
  · refine State.updHead_keeps ?_ _ _
    exact h4
  · exact h

theorem State.holdLine_keeps {p : Part → Prop} {z s : State} (h : Keeps p z s) (v1 : Nat) (_ : p .print := by first | assumption | decide) :
    Keeps p z (State.holdLine s v1) := by
  unfold State.holdLine
  refine State.updHead_keeps ?_ _ _
  exact h

theorem State.returnEntry_keeps {p : Part → Prop} {z s : State} (h : Keeps p z s) (k : Nat) (index : Nat) (_ : p .mem := by first | assumption | decide) (_ : p .recs := by first | assumption | decide) :
    Keeps p z (State.returnEntry s k index) := by
  unfold State.returnEntry
  extract_lets a1 a2 a3
  have ha2 : Keeps p z a2 := by
    unfold a2
    refine State.write_keeps ?_ _ _
    exact h
  clear_value a2
  have ha3 : Keeps p z a3 := by
    unfold a3
    refine ha2.of
  clear_value a3
  refine State.updRing_keeps ?_ _ _
  exact ha3

theorem State.startCommit_keeps {p : Part → Prop} {z s : State} (h : Keeps p z s) (c : Nat) (_ : p .intake := by first | assumption | decide) (_ : p .out := by first | assumption | decide) :
    Keeps p z (State.startCommit s c) := by
  unfold State.startCommit
  split
  · split
    · refine State.emit_keeps ?_ _
      refine State.updCam_keeps ?_ _ _
      exact h
    · exact h
  · exact h

theorem execSerialPoll_keeps {p : Part → Prop} {z s : State} (h : Keeps p z s) (k : Nat) (t : Nat) (_ : p .pos := by first | assumption | decide) (_ : p .net := by first | assumption | decide) (_ : p .now := by first | assumption | decide) :
    KeepsO p z (execSerialPoll k t s) := by
  unfold execSerialPoll
  split
  · refine KeepsO.next ?_
    exact h
  · extract_lets a4
    have ha4 : Keeps p z a4 := by
      unfold a4
      refine State.advance_keeps ?_ _
      exact h
    clear_value a4
    refine KeepsO.next ?_
    refine State.updSenc_keeps ?_ _ _
    exact ha4

theorem State.switchBand_keeps {p : Part → Prop} {z s : State} (h : Keeps p z s) (d : Container) (l : LineSlot) (_ : p .reg := by first | assumption | decide) :
    Keeps p z (State.switchBand s d l) := by
  unfold State.switchBand
  split
  · refine State.decodeBand_keeps ?_ _ _ _ _
    exact h
  · exact h

theorem State.dmaFetch_keeps {p : Part → Prop} {z s : State} (h : Keeps p z s) (c : Nat) (_ : p .dma := by first | assumption | decide) :
    KeepsO p z (State.dmaFetch s c) := by
  unfold State.dmaFetch
  extract_lets a1 a2 a3
  split
  · exact KeepsO.fault _ _
  · split
    · refine KeepsO.next ?_
      refine State.updDma_keeps ?_ _ _
      exact h
    · split
      · exact KeepsO.fault _ _
      · split
        · exact KeepsO.fault _ _
        · refine KeepsO.next ?_
          refine State.updDma_keeps ?_ _ _
          exact h

theorem State.porst_keeps {p : Part → Prop} {z s : State} (h : Keeps p z s)  (_ : p .mem := by first | assumption | decide) (_ : p .sys := by first | assumption | decide) (_ : p .mbx := by first | assumption | decide) (_ : p .hif := by first | assumption | decide) (_ : p .keeper := by first | assumption | decide) (_ : p .deck := by first | assumption | decide) (_ : p .profile := by first | assumption | decide) (_ : p .recs := by first | assumption | decide) (_ : p .mark := by first | assumption | decide) (_ : p .trestle := by first | assumption | decide) (_ : p .pio := by first | assumption | decide) (_ : p .pos := by first | assumption | decide) (_ : p .intake := by first | assumption | decide) (_ : p .span := by first | assumption | decide) (_ : p .stats := by first | assumption | decide) (_ : p .cal := by first | assumption | decide) (_ : p .reg := by first | assumption | decide) (_ : p .cmp := by first | assumption | decide) (_ : p .seg := by first | assumption | decide) (_ : p .codec := by first | assumption | decide) (_ : p .comb := by first | assumption | decide) (_ : p .print := by first | assumption | decide) (_ : p .motion := by first | assumption | decide) (_ : p .mon := by first | assumption | decide) (_ : p .vd := by first | assumption | decide) (_ : p .net := by first | assumption | decide) (_ : p .dram := by first | assumption | decide) (_ : p .dma := by first | assumption | decide) (_ : p .fault := by first | assumption | decide) (_ : p .fuse := by first | assumption | decide) (_ : p .fw := by first | assumption | decide) (_ : p .power := by first | assumption | decide) (_ : p .straps := by first | assumption | decide) (_ : p .now := by first | assumption | decide) :
    Keeps p z (State.porst s) := by
  unfold State.porst
  extract_lets a1 a2
  have ha1 : Keeps p z a1 := by
    unfold a1
    refine State.cold_keeps ?_
    exact h
  refine ha1.of

theorem State.driveEn_keeps {p : Part → Prop} {z s : State} (h : Keeps p z s) (a : Nat) (on : Bool) (_ : p .motion := by first | assumption | decide) :
    Keeps p z (State.driveEn s a on) := by
  unfold State.driveEn
  extract_lets a1 a2 a3
  split
  · refine State.updAxis_keeps ?_ _ _
    exact h
  · split
    · exact h
    · refine State.updAxis_keeps ?_ _ _
      exact h

theorem execSensorIbi_keeps {p : Part → Prop} {z s : State} (h : Keeps p z s) (camera : Nat) (_ : p .intake := by first | assumption | decide) :
    KeepsO p z (execSensorIbi camera s) := by
  unfold execSensorIbi
  refine KeepsO.next ?_
  refine State.updCam_keeps ?_ _ _
  exact h

theorem State.headTally_keeps {p : Part → Prop} {z s : State} (h : Keeps p z s) (v1 : Nat) (f : HeadCount → HeadCount) (_ : p .print := by first | assumption | decide) :
    Keeps p z (State.headTally s v1 f) := by
  unfold State.headTally
  refine State.updHead_keeps ?_ _ _
  exact h

theorem State.settleUnions_keeps {p : Part → Prop} {z s : State} (h : Keeps p z s) (v1 : List SeamUnion) (_ : p .seg := by first | assumption | decide) (_ : p .vd := by first | assumption | decide) :
    Keeps p z (State.settleUnions s v1) := by
  induction v1 generalizing s
  · rw [State.settleUnions]
    exact h
  · rename_i e0 l0 ih
    rw [State.settleUnions]
    split
    · split
      · extract_lets a4 a5 a6
        have ha4 : Keeps p z a4.1 := by
          unfold a4
          refine State.emitUnion_keeps ?_ _ _
          exact h
        clear_value a4
        have ha5 : Keeps p z a5 := by
          unfold a5
          apply ih
          exact ha4
        clear_value a5
        refine ha5.of
      · extract_lets a13 a14
        have ha13 : Keeps p z a13 := by
          unfold a13
          apply ih
          exact h
        clear_value a13
        refine ha13.of
    · split
      · apply ih
        refine State.emitUnion_keeps ?_ _ _
        exact h
      · extract_lets a23 a24
        have ha23 : Keeps p z a23 := by
          unfold a23
          apply ih
          exact h
        clear_value a23
        refine ha23.of

theorem State.sendOwn_keeps {p : Part → Prop} {z s : State} (h : Keeps p z s) (o : Out) (_ : p .net := by first | assumption | decide) (_ : p .out := by first | assumption | decide) :
    Keeps p z (State.sendOwn s o) := by
  unfold State.sendOwn
  split
  · exact h
  · split
    · refine State.emit_keeps ?_ _
      refine h.of
    · refine h.of

theorem State.writeEntry_keeps {p : Part → Prop} {z s : State} (h : Keeps p z s) (addr : Nat) (status : Nat) (label : Int) (epoch : Nat) (_ : p .mem := by first | assumption | decide) (_ : p .print := by first | assumption | decide) :
    Keeps p z (State.writeEntry s addr status label epoch) := by
  unfold State.writeEntry
  split
  · refine h.of
  · extract_lets a3
    refine State.write_keeps ?_ _ _
    refine State.write_keeps ?_ _ _
    exact h

theorem execRelayFire_keeps {p : Part → Prop} {z s : State} (h : Keeps p z s) (r : Nat) (_ : p .trestle := by first | assumption | decide) :
    KeepsO p z (execRelayFire r s) := by
  unfold execRelayFire
  split
  · refine KeepsO.next ?_
    exact h
  · split
    · refine KeepsO.next ?_
      exact h
    · extract_lets a7
      have ha7 : Keeps p z a7 := by
        unfold a7
        refine State.updRelay_keeps ?_ _ _
        exact h
      clear_value a7
      split
      · refine KeepsO.next ?_
        exact ha7
      · split
        · refine KeepsO.next ?_
          exact ha7
        · refine KeepsO.next ?_
          refine ha7.of

theorem State.loadDeck_keeps {p : Part → Prop} {z s : State} (h : Keeps p z s) (addr : Nat) (len : Nat) (k : Nat) (_ : p .mem := by first | assumption | decide) (_ : p .deck := by first | assumption | decide) :
    Keeps p z (State.loadDeck s addr len k).1 := by
  unfold State.loadDeck
  extract_lets a1 a2 a3
  have ha3 : Keeps p z a3 := by
    unfold a3
    refine State.write_keeps ?_ _ _
    refine State.updSlot_keeps ?_ _ _
    exact h
  clear_value a3
  split
  · dsimp only
    refine State.updSlot_keeps ?_ _ _
    exact h
  · exact ha3

theorem State.sendPending_keeps {p : Part → Prop} {z s : State} (h : Keeps p z s) (v1 : List Nat) (_ : p .hif := by first | assumption | decide) (_ : p .out := by first | assumption | decide) :
    Keeps p z (State.sendPending s v1) := by
  induction v1 generalizing s
  · rw [State.sendPending]
    exact h
  · rename_i e0 l0 ih
    rw [State.sendPending]
    split
    · apply ih
      refine State.emit_keeps ?_ _
      refine h.of
    · apply ih
      exact h

theorem State.hostWrite_keeps {p : Part → Prop} {z s : State} (h : Keeps p z s) (a : Nat) (bs : List Byte) (_ : p .mem := by first | assumption | decide) (_ : p .comb := by first | assumption | decide) (_ : p .fault := by first | assumption | decide) :
    Keeps p z (State.hostWrite s a bs) := by
  unfold State.hostWrite
  extract_lets a1 a2 a3 a4
  have ha2 : Keeps p z a2 := by
    unfold a2
    refine State.write_keeps ?_ _ _
    exact h
  clear_value a2
  refine ha2.of

theorem State.placeParams_keeps {p : Part → Prop} {z s : State} (h : Keeps p z s) (d : Container) (_ : p .mem := by first | assumption | decide) :
    Keeps p z (State.placeParams s d) := by
  unfold State.placeParams
  refine Keeps.foldl (fun z1 s2 x3 h4 => ?_) ?_
  · refine State.write_keeps ?_ _ _
    exact h4
  · exact h

theorem State.meet_keeps {p : Part → Prop} {z s : State} (h : Keeps p z s) (own : Option Nat) (m : SeamMsg) (_ : p .seg := by first | assumption | decide) (_ : p .vd := by first | assumption | decide) :
    Keeps p z (State.meet s own m) := by
  unfold State.meet
  extract_lets a1 a2
  have ha1 : Keeps p z a1 := by
    unfold a1
    refine State.seamAdj_keeps ?_ _ _
    exact h
  clear_value a1
  split
  · exact ha1
  · split
    · refine State.joinSeam_keeps ?_ _ _
      exact ha1
    · split
      · refine ha1.of
      · exact ha1

theorem State.applyImmediate_keeps {p : Part → Prop} {z s : State} (h : Keeps p z s) (c : Nat) (ser : Nat) (boundary : Bool) (_ : p .intake := by first | assumption | decide) :
    Keeps p z (State.applyImmediate s c ser boundary) := by
  unfold State.applyImmediate
  split
  · exact h
  · refine State.updCam_keeps ?_ _ _
    exact h

theorem State.dispatch_keeps {p : Part → Prop} {z s : State} (h : Keeps p z s)  (_ : p .comb := by first | assumption | decide) :
    Keeps p z (State.dispatch s) := by
  unfold State.dispatch
  extract_lets a1 a2
  have ha2 : Keeps p z a2 := by
    unfold a2
    refine h.of
  clear_value a2
  split
  · exact ha2
  · extract_lets a7 a8
    have ha7 : Keeps p z a7 := by
      unfold a7
      refine State.setTask_keeps ?_ _
      exact ha2
    clear_value a7
    refine ha7.of

theorem execPinInputEdge_keeps {p : Part → Prop} {z s : State} (h : Keeps p z s) (pin : Nat) (level : Bool) (_ : p .trestle := by first | assumption | decide) (_ : p .pio := by first | assumption | decide) :
    KeepsO p z (execPinInputEdge pin level s) := by
  unfold execPinInputEdge
  extract_lets a1 a2 a3 a4
  have ha4 : Keeps p z a4 := by
    unfold a4
    refine h.of
  clear_value a4
  refine KeepsO.next ?_
  split
  · refine State.publish_keeps ?_ _ _
    exact ha4
  · exact ha4

theorem execHsenSettleExpiry_keeps {p : Part → Prop} {z s : State} (h : Keeps p z s) (v0 : Nat) (_ : p .print := by first | assumption | decide) :
    KeepsO p z (execHsenSettleExpiry v0 s) := by
  unfold execHsenSettleExpiry
  refine KeepsO.next ?_
  refine State.updHead_keeps ?_ _ _
  exact h

theorem State.toNewGrid_keeps {p : Part → Prop} {z s : State} (h : Keeps p z s) (v1 : Nat) (_ : p .deck := by first | assumption | decide) (_ : p .print := by first | assumption | decide) :
    Keeps p z (State.toNewGrid s v1) := by
  unfold State.toNewGrid
  split
  · exact h
  · extract_lets a3 a4 a5
    have ha4 : Keeps p z a4 := by
      unfold a4
      refine State.keepGrid_keeps ?_ _ _
      exact h
    clear_value a4
    have ha5 : Keeps p z a5 := by
      unfold a5
      refine ha4.of
    clear_value a5
    split
    · exact h
    · refine State.updHead_keeps ?_ _ _
      refine State.keepGrid_keeps ?_ _ _
      exact ha5

theorem State.repeatReady_keeps {p : Part → Prop} {z s : State} (h : Keeps p z s) (stage : Nat) (_ : p .comb := by first | assumption | decide) :
    Keeps p z (State.repeatReady s stage) := by
  unfold State.repeatReady
  extract_lets a1 a2 a3
  clear_value a2
  split
  · exact h
  · split
    · exact h
    · split
      · exact h
      · extract_lets a11
        have ha11 : Keeps p z a11 := by
          unfold a11
          refine h.of
        clear_value a11
        split
        · exact ha11
        · refine State.addTask_keeps ?_ _
          exact ha11

theorem execPinOutPulseEnd_keeps {p : Part → Prop} {z s : State} (h : Keeps p z s) (n : Nat) (_ : p .pio := by first | assumption | decide) (_ : p .net := by first | assumption | decide) (_ : p .now := by first | assumption | decide) (_ : p .out := by first | assumption | decide) :
    KeepsO p z (execPinOutPulseEnd n s) := by
  unfold execPinOutPulseEnd
  split
  · refine KeepsO.next ?_
    exact h
  · extract_lets a4 a5
    have ha4 : Keeps p z a4 := by
      unfold a4
      refine State.advance_keeps ?_ _
      exact h
    clear_value a4
    refine KeepsO.next ?_
    refine ha4.of

theorem State.windowReady_keeps {p : Part → Prop} {z s : State} (h : Keeps p z s) (stage : Nat) (head : Nat) (_ : p .comb := by first | assumption | decide) :
    Keeps p z (State.windowReady s stage head) := by
  unfold State.windowReady
  extract_lets a1 a2 a3 a4 a5 a6 a7 a8
  have ha8 : Keeps p z a8 := by
    unfold a8
    refine h.of
  clear_value a8
  split
  · extract_lets a12 a13 a14
    split
    · exact ha8
    · split
      · exact h
      · split
        · exact ha8
        · refine State.addTask_keeps ?_ _
          exact ha8
  · exact h

theorem State.bootSlot_keeps {p : Part → Prop} {z s : State} (h : Keeps p z s) (k : Nat) (i : FwImage) (_ : p .fw := by first | assumption | decide) :
    Keeps p z (State.bootSlot s k i) := by
  unfold State.bootSlot
  split
  · refine State.updFw_keeps ?_ _ _
    exact h
  · refine State.updFw_keeps ?_ _ _
    exact h

theorem State.queueEntryError_keeps {p : Part → Prop} {z s : State} (h : Keeps p z s) (i : Nat) (k : Nat) (_ : p .seg := by first | assumption | decide) (_ : p .free := by first | assumption | decide) :
    Keeps p z (State.queueEntryError s i k) := by
  unfold State.queueEntryError
  split
  · exact h
  · split
    · exact h
    · extract_lets a5 a6 a7 a8 a9
      have ha9 : Keeps p z a9 := by
        unfold a9
        refine State.drawn_keeps ?_
        exact h
      refine ha9.of

theorem State.refresh_keeps {p : Part → Prop} {z s : State} (h : Keeps p z s) (rank : Nat) (n : Nat) (_ : p .out := by first | assumption | decide) :
    Keeps p z (State.refresh s rank n) := by
  unfold State.refresh
  split
  · exact h
  · refine State.emit_keeps ?_ _
    exact h

theorem State.pump_keeps {p : Part → Prop} {z s : State} (h : Keeps p z s) (c : Nat) (_ : p .intake := by first | assumption | decide) (_ : p .out := by first | assumption | decide) :
    Keeps p z (State.pump s c) := by
  unfold State.pump
  split
  · split
    · exact h
    · refine State.emit_keeps ?_ _
      refine State.updCam_keeps ?_ _ _
      exact h
  · exact h

theorem State.postTo_keeps {p : Part → Prop} {z s : State} (h : Keeps p z s) (k : Nat) (rec : Rec) (_ : p .recs := by first | assumption | decide) :
    Keeps p z (State.postTo s k rec) := by
  unfold State.postTo
  extract_lets a1 a2 a3 a4
  have ha4 : Keeps p z a4 := by
    unfold a4
    refine State.updRing_keeps ?_ _ _
    exact h
  clear_value a4
  split
  · refine ha4.of
  · split
    · refine State.updRing_keeps ?_ _ _
      exact h
    · refine State.updRing_keeps ?_ _ _
      exact h

theorem State.resend_keeps {p : Part → Prop} {z s : State} (h : Keeps p z s) (first : Nat) (_ : p .out := by first | assumption | decide) :
    Keeps p z (State.resend s first) := by
  unfold State.resend
  refine Keeps.foldl (fun z1 s2 x3 h4 => ?_) ?_
  · refine State.emit_keeps ?_ _
    exact h4
  · exact h

theorem State.hsenHigh_keeps {p : Part → Prop} {z s : State} (h : Keeps p z s) (v1 : Nat) (_ : p .print := by first | assumption | decide) :
    Keeps p z (State.hsenHigh s v1) := by
  unfold State.hsenHigh
  extract_lets a1
  split
  · exact h
  · refine State.updHead_keeps ?_ _ _
    exact h

theorem State.relayTake_keeps {p : Part → Prop} {z s : State} (h : Keeps p z s) (r : Nat) (chan : Nat) (e : Event) (_ : p .trestle := by first | assumption | decide) :
    Keeps p z (State.relayTake s r chan e) := by
  unfold State.relayTake
  split
  · extract_lets a2 a3
    have ha2 : Keeps p z a2 := by
      unfold a2
      refine State.updChan_keeps ?_ _ _
      exact h
    clear_value a2
    refine ha2.of
  · extract_lets a8
    split
    · refine State.updRelay_keeps ?_ _ _
      exact h
    · refine State.updRelay_keeps ?_ _ _
      exact h

theorem State.sendVd_keeps {p : Part → Prop} {z s : State} (h : Keeps p z s) (typ : Nat) (fields : List Nat) (_ : p .vd := by first | assumption | decide) (_ : p .out := by first | assumption | decide) :
    Keeps p z (State.sendVd s typ fields) := by
  unfold State.sendVd
  refine State.emit_keeps ?_ _
  refine h.of

theorem State.stepAxis_keeps {p : Part → Prop} {z s : State} (h : Keeps p z s) (a : Nat) (positive : Bool) (_ : p .motion := by first | assumption | decide) (_ : p .out := by first | assumption | decide) :
    Keeps p z (State.stepAxis s a positive) := by
  unfold State.stepAxis
  extract_lets a1
  refine State.emit_keeps ?_ _
  refine State.updAxis_keeps ?_ _ _
  exact h

theorem execEthLinkChange_keeps {p : Part → Prop} {z s : State} (h : Keeps p z s) (port : Nat) (up : Bool) (_ : p .net := by first | assumption | decide) :
    KeepsO p z (execEthLinkChange port up s) := by
  unfold execEthLinkChange
  refine KeepsO.next ?_
  refine State.updPort_keeps ?_ _ _
  exact h

theorem State.closeOverview_keeps {p : Part → Prop} {z s : State} (h : Keeps p z s)  (_ : p .codec := by first | assumption | decide) :
    Keeps p z (State.closeOverview s) := by
  unfold State.closeOverview
  split
  · exact h
  · extract_lets a3 a4 a5
    have ha5 : Keeps p z a5 := by
      unfold a5
      refine h.of
    clear_value a5
    split
    · refine State.updCodec_keeps ?_ _ _
      exact ha5
    · exact ha5

theorem execItemEntryHandover_keeps {p : Part → Prop} {z s : State} (h : Keeps p z s) (lead : Nat) (index : Nat) (_ : p .mem := by first | assumption | decide) :
    KeepsO p z (execItemEntryHandover lead index s) := by
  unfold execItemEntryHandover
  extract_lets a1 a2
  split
  · refine KeepsO.next ?_
    exact h
  · split
    · exact KeepsO.fault _ _
    · refine KeepsO.next ?_
      refine State.write_keeps ?_ _ _
      exact h

theorem State.updChip_keeps {p : Part → Prop} {z s : State} (h : Keeps p z s) (v1 : Nat) (f : Consumable → Consumable) (_ : p .print := by first | assumption | decide) :
    Keeps p z (State.updChip s v1 f) := by
  unfold State.updChip
  refine State.updHead_keeps ?_ _ _
  exact h

theorem State.shiftField_keeps {p : Part → Prop} {z s : State} (h : Keeps p z s) (epoch : Nat) (_ : p .print := by first | assumption | decide) :
    Keeps p z (State.shiftField s epoch) := by
  unfold State.shiftField
  extract_lets a1
  refine Keeps.foldl (fun z3 s4 x5 h6 => ?_) ?_
  · refine State.shiftFrom_keeps ?_ _ _ _
    exact h6
  · exact h

end Sys2Proof.Machine
end

