-- ==== Sys2Proof/Laws/Keeps2.lean ====
section
/-! SUPPORT. What each operation of the block keeps, part 2: one lemma for each, in the order of their use (`Keeps`). -/

set_option linter.unusedVariables false
set_option linter.unusedSimpArgs false

namespace Sys2Proof.Machine

set_option Elab.async false

theorem State.laneHears_keeps {p : Part → Prop} {z s : State} (h : Keeps p z s) (cls : Nat) (lane : Nat) (received : List (List Bool)) (_ : p .vd := by first | assumption | decide) :
    Keeps p z (State.laneHears s cls lane received) := by
  unfold State.laneHears
  split
  · exact h
  · split
    · exact h
    · split
      · split
        · split
          · extract_lets a8
            refine State.putTest_keeps ?_ _
            refine State.putTest_keeps ?_ _
            exact h
          · exact h
        · exact h
      · refine State.putTest_keeps ?_ _
        exact h

theorem State.placeGroup_keeps {p : Part → Prop} {z s : State} (h : Keeps p z s) (ov : Bool) (off : Nat) (record : List Byte) (entry : List Byte) (_ : p .mem := by first | assumption | decide) (_ : p .codec := by first | assumption | decide) :
    Keeps p z (State.placeGroup s ov off record entry) := by
  unfold State.placeGroup
  extract_lets a1 a2 a3 a4 a5 a6 a7 a8 a9
  have ha6 : Keeps p z a6 := by
    unfold a6
    refine State.write_keeps ?_ _ _
    exact h
  clear_value a6
  have ha7 : Keeps p z a7 := by
    unfold a7
    refine State.write_keeps ?_ _ _
    exact ha6
  clear_value a7
  have ha8 : Keeps p z a8 := by
    unfold a8
    refine State.write_keeps ?_ _ _
    exact ha7
  clear_value a8
  have ha9 : Keeps p z a9 := by
    unfold a9
    refine State.write_keeps ?_ _ _
    exact ha8
  clear_value a9
  refine State.updCodec_keeps ?_ _ _
  exact ha9

theorem State.beginMove_keeps {p : Part → Prop} {z s : State} (h : Keeps p z s) (m : Move) (_ : p .motion := by first | assumption | decide) :
    Keeps p z (State.beginMove s m) := by
  unfold State.beginMove
  extract_lets a1 a2 a3
  have ha1 : Keeps p z a1 := by
    unfold a1
    refine State.updAxis_keeps ?_ _ _
    exact h
  clear_value a1
  have ha2 : Keeps p z a2 := by
    unfold a2
    refine Keeps.foldl (fun z7 s8 x9 h10 => ?_) ?_
    · refine State.updAxis_keeps ?_ _ _
      exact h10
    · exact ha1
  clear_value a2
  refine ha2.of

theorem State.dmaBack_keeps {p : Part → Prop} {z s : State} (h : Keeps p z s) (c : Nat) (status : Nat) (result : Nat) (_ : p .mem := by first | assumption | decide) (_ : p .dma := by first | assumption | decide) :
    Keeps p z (State.dmaBack s c status result) := by
  unfold State.dmaBack
  extract_lets a1 a2 a3
  refine State.updDma_keeps ?_ _ _
  refine State.write_keeps ?_ _ _
  refine State.write_keeps ?_ _ _
  exact h

theorem State.forwardTo_keeps {p : Part → Prop} {z s : State} (h : Keeps p z s) (inPort : Nat) (f : EthFrame) (outPort : Nat) (_ : p .net := by first | assumption | decide) (_ : p .out := by first | assumption | decide) :
    Keeps p z (State.forwardTo s inPort f outPort) := by
  unfold State.forwardTo
  extract_lets a1 a2 a3 a4 a5 a6
  have ha4 : Keeps p z a4 := by
    unfold a4
    refine State.updPort_keeps ?_ _ _
    exact h
  clear_value a4
  have ha6 : Keeps p z a6 := by
    unfold a6
    refine ha4.of
  clear_value a6
  split
  · refine State.updPort_keeps ?_ _ _
    exact h
  · refine State.emit_keeps ?_ _
    exact ha6

theorem State.startTraining_keeps {p : Part → Prop} {z s : State} (h : Keeps p z s)  (_ : p .vd := by first | assumption | decide) :
    Keeps p z (State.startTraining s) := by
  unfold State.startTraining
  split
  · refine State.beginTraining_keeps ?_
    exact h
  · exact h

theorem State.otherPacket_keeps {p : Part → Prop} {z s : State} (h : Keeps p z s) (c : Nat) (_ : p .intake := by first | assumption | decide) :
    Keeps p z (State.otherPacket s c) := by
  unfold State.otherPacket
  refine State.updCam_keeps ?_ _ _
  exact h

theorem State.passEntry_keeps {p : Part → Prop} {z s : State} (h : Keeps p z s) (lead : Nat) (e : Entry) (_ : p .print := by first | assumption | decide) :
    Keeps p z (State.passEntry s lead e) := by
  unfold State.passEntry
  refine State.updQueue_keeps ?_ _ _
  exact h

theorem State.correct_keeps {p : Part → Prop} {z s : State} (h : Keeps p z s) (c : Nat) (v2 : Strip) (ser : Nat) (_ : p .intake := by first | assumption | decide) :
    Keeps p z (State.correct s c v2 ser) := by
  unfold State.correct
  split
  · exact h
  · split
    · exact h
    · extract_lets a5 a6 a7 a8
      refine State.updCam_keeps ?_ _ _
      exact h

theorem State.assignTargets_keeps {p : Part → Prop} {z s : State} (h : Keeps p z s)  (_ : p .out := by first | assumption | decide) :
    Keeps p z (State.assignTargets s) := by
  unfold State.assignTargets
  extract_lets a1
  refine Keeps.foldl (fun z3 s4 x5 h6 => ?_) ?_
  · refine State.emit_keeps ?_ _
    exact h6
  · exact h

theorem State.markShow_keeps {p : Part → Prop} {z s : State} (h : Keeps p z s) (pre : State) (m : Nat) (_ : p .out := by first | assumption | decide) :
    Keeps p z (State.markShow s pre m) := by
  unfold State.markShow
  split
  · exact h
  · refine State.emit_keeps ?_ _
    exact h

theorem State.ringRegWrite_keeps {p : Part → Prop} {z s : State} (h : Keeps p z s) (ring : Nat) (offset : Nat) (v : Nat) (_ : p .recs := by first | assumption | decide) :
    KeepsO p z (State.ringRegWrite s ring offset v) := by
  unfold State.ringRegWrite
  split
  · refine KeepsO.next ?_
    refine State.updRing_keeps ?_ _ _
    exact h
  · split
    · split
      · exact KeepsO.fault _ _
      · refine KeepsO.next ?_
        split
        · refine State.updRing_keeps ?_ _ _
          exact h
        · exact h
    · split
      · exact KeepsO.fault _ _
      · refine KeepsO.next ?_
        exact h

theorem execAxisVelocityUpdate_keeps {p : Part → Prop} {z s : State} (h : Keeps p z s) (a : Nat) (_ : p .motion := by first | assumption | decide) (_ : p .net := by first | assumption | decide) (_ : p .now := by first | assumption | decide) :
    KeepsO p z (execAxisVelocityUpdate a s) := by
  unfold execAxisVelocityUpdate
  split
  · refine KeepsO.next ?_
    exact h
  · split
    · refine KeepsO.next ?_
      exact h
    · refine KeepsO.next ?_
      refine State.setMove_keeps ?_ _
      refine State.advance_keeps ?_ _
      exact h

theorem State.strikeBreak_keeps {p : Part → Prop} {z s : State} (h : Keeps p z s)  (_ : p .intake := by first | assumption | decide) :
    Keeps p z (State.strikeBreak s) := by
  unfold State.strikeBreak
  split
  · extract_lets a2 a3 a4 a5 a6 a7 a8 a9 a10
    have ha9 : Keeps p z a9 := by
      unfold a9
      refine h.of
    clear_value a9
    split
    · exact ha9
    · split
      · refine State.updStrip_keeps ?_ _ _
        refine ha9.of
      · refine ha9.of
  · refine h.of

theorem State.addTasks_keeps {p : Part → Prop} {z s : State} (h : Keeps p z s) (v1 : List Task) (_ : p .comb := by first | assumption | decide) :
    Keeps p z (State.addTasks s v1) := by
  induction v1 generalizing s
  · rw [State.addTasks]
    exact h
  · rename_i e0 l0 ih
    rw [State.addTasks]
    apply ih
    refine State.addTask_keeps ?_ _
    exact h

theorem execSpillDrain_keeps {p : Part → Prop} {z s : State} (h : Keeps p z s) (ring : Nat) (_ : p .recs := by first | assumption | decide) :
    KeepsO p z (execSpillDrain ring s) := by
  unfold execSpillDrain
  extract_lets a1
  split
  · refine KeepsO.next ?_
    exact h
  · split
    · refine KeepsO.next ?_
      refine State.updRing_keeps ?_ _ _
      exact h
    · refine KeepsO.next ?_
      exact h

theorem State.pulse_keeps {p : Part → Prop} {z s : State} (h : Keeps p z s) (d : Container) (t : Nat) (base : Nat) (first : Bool) (c : Nat) (_ : p .intake := by first | assumption | decide) (_ : p .free := by first | assumption | decide) (_ : p .out := by first | assumption | decide) :
    Keeps p z (State.pulse s d t base first c) := by
  unfold State.pulse
  split
  · refine State.updCam_keeps ?_ _ _
    exact h
  · extract_lets a4 a5
    refine State.emit_keeps ?_ _
    refine State.updCam_keeps ?_ _ _
    refine State.drawn_keeps ?_
    exact h

theorem State.takePart_keeps {p : Part → Prop} {z s : State} (h : Keeps p z s) (n : Snapshot) (x : (Nat × Nat) × Nat) (_ : p .mem := by first | assumption | decide) (_ : p .free := by first | assumption | decide) :
    Keeps p z (State.takePart s n x) := by
  unfold State.takePart
  extract_lets a1 a2
  refine State.drawn_keeps ?_
  refine State.write_keeps ?_ _ _
  exact h

theorem State.learnPixel_keeps {p : Part → Prop} {z s : State} (h : Keeps p z s) (k : Learn) (step : Nat) (rep : Nat) (idx : Nat) (v : List Nat) (_ : p .mem := by first | assumption | decide) (_ : p .reg := by first | assumption | decide) :
    Keeps p z (State.learnPixel s k step rep idx v) := by
  unfold State.learnPixel
  split
  · exact h
  · extract_lets a3 a4 a5 a6 a7 a8 a9
    have ha8 : Keeps p z a8 := by
      unfold a8
      refine State.write_keeps ?_ _ _
      refine State.write_keeps ?_ _ _
      exact h
    clear_value a8
    refine ha8.of

theorem State.setElem_keeps {p : Part → Prop} {z s : State} (h : Keeps p z s) (v1 : Nat) (e : Nat) (st : Nat) (at' : Option (Nat × Nat)) (_ : p .print := by first | assumption | decide) :
    Keeps p z (State.setElem s v1 e st at') := by
  unfold State.setElem
  refine State.updHead_keeps ?_ _ _
  exact h

theorem State.retrain_keeps {p : Part → Prop} {z s : State} (h : Keeps p z s)  (_ : p .vd := by first | assumption | decide) :
    Keeps p z (State.retrain s) := by
  unfold State.retrain
  split
  · refine State.beginTraining_keeps ?_
    exact h
  · exact h

theorem State.keepGrids_keeps {p : Part → Prop} {z s : State} (h : Keeps p z s) (new : Nat) (d : Container) (_ : p .print := by first | assumption | decide) :
    Keeps p z (State.keepGrids s new d) := by
  unfold State.keepGrids
  refine Keeps.foldl (fun z1 s2 x3 h4 => ?_) ?_
  · extract_lets a6
    have ha6 : Keeps p z1 a6 := by
      unfold a6
      split
      · exact h4
      · refine State.keepGrid_keeps ?_ _ _
        exact h4
    clear_value a6
    split
    · exact ha6
    · refine State.keepGrid_keeps ?_ _ _
      exact ha6
  · exact h

theorem State.resizeRing_keeps {p : Part → Prop} {z s : State} (h : Keeps p z s)  (_ : p .mem := by first | assumption | decide) (_ : p .codec := by first | assumption | decide) :
    Keeps p z (State.resizeRing s) := by
  unfold State.resizeRing
  extract_lets a1 a2 a3 a4 a5 a6 a7
  have ha7 : Keeps p z a7 := by
    unfold a7
    refine h.of
  clear_value a7
  refine State.write_keeps ?_ _ _
  refine State.write_keeps ?_ _ _
  exact ha7

theorem execMailboxAck_keeps {p : Part → Prop} {z s : State} (h : Keeps p z s) (n : Nat) (value : Nat) (_ : p .mbx := by first | assumption | decide) :
    KeepsO p z (execMailboxAck n value s) := by
  unfold execMailboxAck
  split
  · exact KeepsO.fault _ _
  · split
    · refine KeepsO.next ?_
      exact h
    · refine KeepsO.next ?_
      refine State.updMbx_keeps ?_ _ _
      exact h

theorem State.initRing_keeps {p : Part → Prop} {z s : State} (h : Keeps p z s) (ov : Bool) (_ : p .mem := by first | assumption | decide) :
    Keeps p z (State.initRing s ov) := by
  unfold State.initRing
  refine State.write_keeps ?_ _ _
  exact h

theorem State.reachTick_keeps {p : Part → Prop} {z s : State} (h : Keeps p z s) (t : Nat) (_ : p .pos := by first | assumption | decide) (_ : p .net := by first | assumption | decide) (_ : p .now := by first | assumption | decide) :
    Keeps p z (State.reachTick s t) := by
  unfold State.reachTick
  extract_lets a1
  have ha1 : Keeps p z a1 := by
    unfold a1
    refine State.advance_keeps ?_ _
    exact h
  clear_value a1
  refine ha1.of

theorem State.setCodes_keeps {p : Part → Prop} {z s : State} (h : Keeps p z s) (v1 : List (Nat × Nat)) (_ : p .cal := by first | assumption | decide) :
    Keeps p z (State.setCodes s v1) := by
  induction v1 generalizing s
  · rw [State.setCodes]
    exact h
  · rename_i e0 l0 ih
    rw [State.setCodes]
    apply ih
    refine State.setCode_keeps ?_ _ _
    exact h

theorem State.sendVector_keeps {p : Part → Prop} {z s : State} (h : Keeps p z s) (v : Nat) (_ : p .hif := by first | assumption | decide) (_ : p .out := by first | assumption | decide) :
    Keeps p z (State.sendVector s v) := by
  unfold State.sendVector
  split
  · exact h
  · split
    · refine h.of
    · refine State.emit_keeps ?_ _
      exact h

theorem State.mapItems_keeps {p : Part → Prop} {z s : State} (h : Keeps p z s) (lead : Nat) (f : PrintItem → PrintItem) (_ : p .print := by first | assumption | decide) :
    Keeps p z (State.mapItems s lead f) := by
  unfold State.mapItems
  refine State.updQueue_keeps ?_ _ _
  exact h

theorem State.shedRing_keeps {p : Part → Prop} {z s : State} (h : Keeps p z s) (ov : Bool) (_ : p .codec := by first | assumption | decide) (_ : p .dram := by first | assumption | decide) :
    Keeps p z (State.shedRing s ov) := by
  unfold State.shedRing
  extract_lets a1 a2 a3 a4 a5 a6
  have ha4 : Keeps p z a4 := by
    unfold a4
    refine State.updCodec_keeps ?_ _ _
    exact h
  clear_value a4
  refine ha4.of

theorem State.rewriteParam_keeps {p : Part → Prop} {z s : State} (h : Keeps p z s) (f : Nat) (epoch : Nat) (_ : p .mem := by first | assumption | decide) (_ : p .comb := by first | assumption | decide) :
    Keeps p z (State.rewriteParam s f epoch) := by
  unfold State.rewriteParam
  extract_lets a1 a2
  have ha1 : Keeps p z a1 := by
    unfold a1
    refine State.write_keeps ?_ _ _
    exact h
  clear_value a1
  refine ha1.of

theorem State.loseAxes_keeps {p : Part → Prop} {z s : State} (h : Keeps p z s) (l : List Nat) (_ : p .motion := by first | assumption | decide) :
    Keeps p z (State.loseAxes s l) := by
  unfold State.loseAxes
  refine Keeps.foldl (fun z1 s2 x3 h4 => ?_) ?_
  · refine State.updAxis_keeps ?_ _ _
    exact h4
  · exact h

theorem execPtpSync_keeps {p : Part → Prop} {z s : State} (h : Keeps p z s) (port : Nat) (masterNs : Int) (fromMaster : Nat) (udp : Bool) (_ : p .net := by first | assumption | decide) (_ : p .free := by first | assumption | decide) :
    KeepsO p z (execPtpSync port masterNs fromMaster s udp) := by
  unfold execPtpSync
  split
  · refine KeepsO.next ?_
    exact h
  · extract_lets a4 a5 a6 a7
    have ha7 : Keeps p z a7 := by
      unfold a7
      refine State.servo_keeps ?_ _
      exact h
    clear_value a7
    refine KeepsO.next ?_
    split
    · refine State.drawn_keeps ?_
      exact ha7
    · exact ha7

theorem execDmaConfigWrite_keeps {p : Part → Prop} {z s : State} (h : Keeps p z s) (ch : Nat) (offset : Nat) (value : Word) (_ : p .dma := by first | assumption | decide) :
    KeepsO p z (execDmaConfigWrite ch offset value s) := by
  unfold execDmaConfigWrite
  extract_lets a1 a2 a3
  split
  · refine KeepsO.next ?_
    exact h
  · split
    · exact KeepsO.fault _ _
    · split
      · refine KeepsO.next ?_
        refine State.updDma_keeps ?_ _ _
        exact h
      · split
        · refine KeepsO.next ?_
          refine State.updDma_keeps ?_ _ _
          exact h
        · split
          · exact KeepsO.fault _ _
          · refine KeepsO.next ?_
            refine State.updDma_keeps ?_ _ _
            exact h

theorem State.openFrames_keeps {p : Part → Prop} {z s : State} (h : Keeps p z s) (id : Nat) (cams : List Nat) (_ : p .intake := by first | assumption | decide) :
    Keeps p z (State.openFrames s id cams) := by
  unfold State.openFrames
  refine Keeps.forEach (fun z1 s2 x3 h4 => ?_) ?_
  · extract_lets a6
    refine State.updCam_keeps ?_ _ _
    exact h4
  · exact h

theorem calFlatStart_keeps {p : Part → Prop} {z s : State} (h : Keeps p z s) (q : Req) (white : Bool) (ports : Nat) (_ : p .keeper := by first | assumption | decide) (_ : p .cal := by first | assumption | decide) :
    Keeps p z (calFlatStart q white ports s) := by
  unfold calFlatStart
  extract_lets a1 a2 a3
  have ha2 : Keeps p z a2 := by
    unfold a2
    refine State.setCodes_keeps ?_ _
    exact h
  clear_value a2
  refine State.start_keeps ?_ _ _ _
  refine ha2.of

theorem State.acceptEntry_keeps {p : Part → Prop} {z s : State} (h : Keeps p z s) (g : Grid) (line : Nat) (e : Entry) (_ : p .print := by first | assumption | decide) :
    Keeps p z (State.acceptEntry s g line e) := by
  unfold State.acceptEntry
  extract_lets a1 a2
  refine State.updQueue_keeps ?_ _ _
  refine State.passEntry_keeps ?_ _ _
  exact h

theorem State.hifReset_keeps {p : Part → Prop} {z s : State} (h : Keeps p z s)  (_ : p .mem := by first | assumption | decide) (_ : p .sys := by first | assumption | decide) (_ : p .mbx := by first | assumption | decide) (_ : p .hif := by first | assumption | decide) (_ : p .keeper := by first | assumption | decide) (_ : p .deck := by first | assumption | decide) (_ : p .profile := by first | assumption | decide) (_ : p .recs := by first | assumption | decide) (_ : p .mark := by first | assumption | decide) (_ : p .trestle := by first | assumption | decide) (_ : p .pio := by first | assumption | decide) (_ : p .pos := by first | assumption | decide) (_ : p .intake := by first | assumption | decide) (_ : p .span := by first | assumption | decide) (_ : p .stats := by first | assumption | decide) (_ : p .cal := by first | assumption | decide) (_ : p .reg := by first | assumption | decide) (_ : p .cmp := by first | assumption | decide) (_ : p .seg := by first | assumption | decide) (_ : p .codec := by first | assumption | decide) (_ : p .comb := by first | assumption | decide) (_ : p .print := by first | assumption | decide) (_ : p .motion := by first | assumption | decide) (_ : p .mon := by first | assumption | decide) (_ : p .vd := by first | assumption | decide) (_ : p .net := by first | assumption | decide) (_ : p .dram := by first | assumption | decide) (_ : p .dma := by first | assumption | decide) (_ : p .fault := by first | assumption | decide) (_ : p .fuse := by first | assumption | decide) (_ : p .fw := by first | assumption | decide) (_ : p .power := by first | assumption | decide) (_ : p .straps := by first | assumption | decide) (_ : p .now := by first | assumption | decide) :
    Keeps p z (State.hifReset s) := by
  unfold State.hifReset
  extract_lets a1 a2 a3
  have ha1 : Keeps p z a1 := by
    unfold a1
    refine State.porst_keeps ?_
    exact h
  refine ha1.of

theorem State.takeDiverted_keeps {p : Part → Prop} {z s : State} (h : Keeps p z s) (v1 : List (Comp × Bool)) (_ : p .seg := by first | assumption | decide) (_ : p .vd := by first | assumption | decide) (_ : p .out := by first | assumption | decide) :
    Keeps p z (State.takeDiverted s v1) := by
  induction v1 generalizing s
  · rw [State.takeDiverted]
    refine h.of
  · rename_i e0 l0 ih
    rw [State.takeDiverted]
    apply ih
    split
    · refine h.of
    · extract_lets a5 a6 a7 a8
      have ha7 : Keeps p z a7 := by
        unfold a7
        refine State.sendVd_keeps ?_ _ _
        exact h
      clear_value a7
      split
      · exact ha7
      · refine ha7.of

theorem State.udpDatagram_keeps {p : Part → Prop} {z s : State} (h : Keeps p z s) (addr : Nat) (port : Nat) (data : List Byte) (_ : p .hif := by first | assumption | decide) (_ : p .net := by first | assumption | decide) (_ : p .out := by first | assumption | decide) :
    Keeps p z (State.udpDatagram s addr port data) := by
  unfold State.udpDatagram
  extract_lets a1 a2 a3
  split
  · refine State.sendOwn_keeps ?_ _
    exact h
  · split
    · exact h
    · split
      · refine State.sendOwn_keeps ?_ _
        exact h
      · refine h.of

theorem State.dmaApply_keeps {p : Part → Prop} {z s : State} (h : Keeps p z s) (d : DmaDesc) (from' : Nat) (stop : Nat) (part : Nat) (_ : p .mem := by first | assumption | decide) (_ : p .comb := by first | assumption | decide) (_ : p .fault := by first | assumption | decide) :
    Keeps p z (State.dmaApply s d from' stop part).1 := by
  unfold State.dmaApply
  extract_lets a1 a2
  split
  · exact h
  · split
    · dsimp only
      refine State.hostWrite_keeps ?_ _ _
      exact h
    · split
      · dsimp only
        refine State.hostWrite_keeps ?_ _ _
        exact h
      · split
        · exact h
        · exact h

theorem execRepeatTaskReady_keeps {p : Part → Prop} {z s : State} (h : Keeps p z s) (stage : Nat) (_ : p .comb := by first | assumption | decide) :
    KeepsO p z (execRepeatTaskReady stage s) := by
  unfold execRepeatTaskReady
  refine KeepsO.next ?_
  refine State.repeatReady_keeps ?_ _
  exact h

theorem State.sendPeer_keeps {p : Part → Prop} {z s : State} (h : Keeps p z s) (typ : Nat) (addr : Nat) (port : Nat) (payload : List Byte) (_ : p .net := by first | assumption | decide) (_ : p .out := by first | assumption | decide) :
    Keeps p z (State.sendPeer s typ addr port payload) := by
  unfold State.sendPeer
  split
  · exact h
  · extract_lets a3 a4 a5 a6 a7
    refine State.sendOwn_keeps ?_ _
    refine h.of

theorem State.followSteps_keeps {p : Part → Prop} {z s : State} (h : Keeps p z s) (total : Nat) (v2 : List (Nat × Bool × Nat × Nat)) (_ : p .motion := by first | assumption | decide) (_ : p .out := by first | assumption | decide) :
    Keeps p z (State.followSteps s total v2).1 := by
  induction v2 generalizing s total
  · rw [State.followSteps]
    exact h
  · rename_i e0 l0 ih
    rw [State.followSteps]
    dsimp only
    apply ih
    split
    · refine State.stepAxis_keeps ?_ _ _
      exact h
    · exact h

theorem State.abortRequest_keeps {p : Part → Prop} {z s : State} (h : Keeps p z s) (mbx : Nat) (r : Request) (_ : p .mbx := by first | assumption | decide) (_ : p .deck := by first | assumption | decide) :
    Keeps p z (State.abortRequest s mbx r) := by
  unfold State.abortRequest
  extract_lets a1
  have ha1 : Keeps p z a1 := by
    unfold a1
    split
    · split
      · refine State.updSlot_keeps ?_ _ _
        exact h
      · exact h
    · exact h
  clear_value a1
  refine State.respond_keeps ?_ _ _ _
  exact ha1

theorem State.initMemories_keeps {p : Part → Prop} {z s : State} (h : Keeps p z s)  (_ : p .mem := by first | assumption | decide) (_ : p .comb := by first | assumption | decide) (_ : p .fault := by first | assumption | decide) :
    Keeps p z (State.initMemories s) := by
  unfold State.initMemories
  extract_lets a1 a2 a3 a4
  have ha1 : Keeps p z a1 := by
    unfold a1
    refine State.clear_keeps ?_ _ _
    refine State.clear_keeps ?_ _ _
    refine State.clear_keeps ?_ _ _
    exact h
  clear_value a1
  have ha2 : Keeps p z a2 := by
    unfold a2
    refine Keeps.foldl (fun z10 s11 x12 h13 => ?_) ?_
    · refine State.frameParams_keeps ?_ _
      exact h13
    · exact ha1
  clear_value a2
  refine ha2.of

theorem State.ownMerged_keeps {p : Part → Prop} {z s : State} (h : Keeps p z s) (v1 : List (Nat × Nat)) (_ : p .vd := by first | assumption | decide) (_ : p .out := by first | assumption | decide) :
    Keeps p z (State.ownMerged s v1) := by
  induction v1 generalizing s
  · rw [State.ownMerged]
    exact h
  · rename_i e0 l0 ih
    rw [State.ownMerged]
    apply ih
    split
    · refine State.sendVd_keeps ?_ _ _
      refine h.of
    · refine h.of

theorem State.barWrite_keeps {p : Part → Prop} {z s : State} (h : Keeps p z s) (a : Nat) (data : List Byte) (_ : p .mem := by first | assumption | decide) (_ : p .recs := by first | assumption | decide) (_ : p .comb := by first | assumption | decide) (_ : p .fault := by first | assumption | decide) :
    Keeps p z (State.barWrite s a data) := by
  unfold State.barWrite
  split
  · split
    · refine State.hostWrite_keeps ?_ _ _
      refine State.returnEntry_keeps ?_ _ _
      exact h
    · refine State.hostWrite_keeps ?_ _ _
      exact h
  · refine State.hostWrite_keeps ?_ _ _
    exact h

theorem execDescriptorAccept_keeps {p : Part → Prop} {z s : State} (h : Keeps p z s)  (_ : p .comb := by first | assumption | decide) :
    KeepsO p z (execDescriptorAccept s) := by
  unfold execDescriptorAccept
  refine KeepsO.next ?_
  refine State.acceptBlob_keeps ?_
  exact h

theorem State.chipRead_keeps {p : Part → Prop} {z s : State} (h : Keeps p z s) (v1 : Nat) (id : Nat) (_ : p .print := by first | assumption | decide) :
    Keeps p z (State.chipRead s v1 id) := by
  unfold State.chipRead
  split
  · exact h
  · split
    · exact h
    · extract_lets a5 a6
      have ha6 : Keeps p z a6 := by
        unfold a6
        refine Keeps.foldl (fun z8 s9 x10 h11 => ?_) ?_
        · refine State.setElem_keeps ?_ _ _ _ _
          exact h11
        · exact h
      clear_value a6
      refine State.updHead_keeps ?_ _ _
      exact ha6

theorem execTaskDispatch_keeps {p : Part → Prop} {z s : State} (h : Keeps p z s)  (_ : p .comb := by first | assumption | decide) :
    KeepsO p z (execTaskDispatch s) := by
  unfold execTaskDispatch
  refine KeepsO.next ?_
  refine State.dispatch_keeps ?_
  exact h

theorem State.challenge_keeps {p : Part → Prop} {z s : State} (h : Keeps p z s) (v1 : Nat) (_ : p .print := by first | assumption | decide) (_ : p .free := by first | assumption | decide) (_ : p .out := by first | assumption | decide) :
    Keeps p z (State.challenge s v1) := by
  unfold State.challenge
  extract_lets a1
  refine State.emit_keeps ?_ _
  refine State.emit_keeps ?_ _
  refine State.updChip_keeps ?_ _ _
  refine State.drawn_keeps ?_
  exact h

theorem execVinUvloFalling_keeps {p : Part → Prop} {z s : State} (h : Keeps p z s)  (_ : p .mem := by first | assumption | decide) (_ : p .sys := by first | assumption | decide) (_ : p .mbx := by first | assumption | decide) (_ : p .hif := by first | assumption | decide) (_ : p .keeper := by first | assumption | decide) (_ : p .deck := by first | assumption | decide) (_ : p .profile := by first | assumption | decide) (_ : p .recs := by first | assumption | decide) (_ : p .mark := by first | assumption | decide) (_ : p .trestle := by first | assumption | decide) (_ : p .pio := by first | assumption | decide) (_ : p .pos := by first | assumption | decide) (_ : p .intake := by first | assumption | decide) (_ : p .span := by first | assumption | decide) (_ : p .stats := by first | assumption | decide) (_ : p .cal := by first | assumption | decide) (_ : p .reg := by first | assumption | decide) (_ : p .cmp := by first | assumption | decide) (_ : p .seg := by first | assumption | decide) (_ : p .codec := by first | assumption | decide) (_ : p .comb := by first | assumption | decide) (_ : p .print := by first | assumption | decide) (_ : p .motion := by first | assumption | decide) (_ : p .mon := by first | assumption | decide) (_ : p .vd := by first | assumption | decide) (_ : p .net := by first | assumption | decide) (_ : p .dram := by first | assumption | decide) (_ : p .dma := by first | assumption | decide) (_ : p .fault := by first | assumption | decide) (_ : p .fuse := by first | assumption | decide) (_ : p .fw := by first | assumption | decide) (_ : p .power := by first | assumption | decide) (_ : p .straps := by first | assumption | decide) (_ : p .now := by first | assumption | decide) :
    KeepsO p z (execVinUvloFalling s) := by
  unfold execVinUvloFalling
  extract_lets a1 a2
  have ha1 : Keeps p z a1 := by
    unfold a1
    refine State.porst_keeps ?_
    exact h
  clear_value a1
  refine KeepsO.next ?_
  refine ha1.of

theorem State.stage_keeps {p : Part → Prop} {z s : State} (h : Keeps p z s) (k : Nat) (_ : p .mem := by first | assumption | decide) (_ : p .deck := by first | assumption | decide) (_ : p .cal := by first | assumption | decide) (_ : p .mon := by first | assumption | decide) :
    Keeps p z (State.stage s k) := by
  unfold State.stage
  extract_lets a1 a2 a3 a4
  have ha4 : Keeps p z a4 := by
    unfold a4
    refine h.of
  clear_value a4
  refine State.placeParams_keeps ?_ _
  exact ha4

theorem State.retryChange_keeps {p : Part → Prop} {z s : State} (h : Keeps p z s) (c : Nat) (_ : p .intake := by first | assumption | decide) (_ : p .out := by first | assumption | decide) :
    Keeps p z (State.retryChange s c) := by
  unfold State.retryChange
  split
  · exact h
  · extract_lets a3 a4 a5
    have ha5 : Keeps p z a5 := by
      unfold a5
      refine State.updCam_keeps ?_ _ _
      exact h
    clear_value a5
    refine State.pump_keeps ?_ _
    refine State.settleMeets_keeps ?_ _
    exact ha5

theorem State.burst_keeps {p : Part → Prop} {z s : State} (h : Keeps p z s) (lead : Nat) (itemId : Nat) (row : Nat) (_ : p .print := by first | assumption | decide) :
    Keeps p z (State.burst s lead itemId row) := by
  unfold State.burst
  split
  · exact h
  · refine State.mapItems_keeps ?_ _ _
    exact h

theorem execDmaPause_keeps {p : Part → Prop} {z s : State} (h : Keeps p z s) (ch : Nat) (on : Bool) (_ : p .dma := by first | assumption | decide) :
    KeepsO p z (execDmaPause ch on s) := by
  unfold execDmaPause
  split
  · refine KeepsO.next ?_
    exact h
  · split
    · refine KeepsO.next ?_
      refine State.updDma_keeps ?_ _ _
      exact h
    · extract_lets a8 a9
      have ha9 : Keeps p z a9 := by
        unfold a9
        refine State.updDma_keeps ?_ _ _
        exact h
      clear_value a9
      split
      · split
        · refine KeepsO.next ?_
          refine State.updDma_keeps ?_ _ _
          exact ha9
        · refine State.dmaFetch_keeps ?_ _
          exact ha9
      · split
        · refine KeepsO.next ?_
          refine State.updDma_keeps ?_ _ _
          exact ha9
        · split
          · refine State.dmaFetch_keeps ?_ _
            exact ha9
          · refine KeepsO.next ?_
            exact ha9

theorem execEventTask_keeps {p : Part → Prop} {z s : State} (h : Keeps p z s) (stage : Nat) (_ : p .comb := by first | assumption | decide) :
    KeepsO p z (execEventTask stage s) := by
  unfold execEventTask
  refine KeepsO.next ?_
  refine State.eventReady_keeps ?_ _
  exact h

theorem State.shedAt_keeps {p : Part → Prop} {z s : State} (h : Keeps p z s) (at' : Bool → Bool) (_ : p .codec := by first | assumption | decide) (_ : p .dram := by first | assumption | decide) :
    Keeps p z (State.shedAt s at') := by
  unfold State.shedAt
  extract_lets a1
  have ha1 : Keeps p z a1 := by
    unfold a1
    split
    · refine State.shedRing_keeps ?_ _
      exact h
    · exact h
  clear_value a1
  split
  · refine State.shedRing_keeps ?_ _
    exact ha1
  · exact ha1

theorem State.addChange_keeps {p : Part → Prop} {z s : State} (h : Keeps p z s) (c : Nat) (source : ChangeFrom) (edit : ExpEdit) (hasRegs : Bool) (codes : List (Nat × Nat)) (target : Nat) (_ : p .intake := by first | assumption | decide) (_ : p .out := by first | assumption | decide) :
    Keeps p z (State.addChange s c source edit hasRegs codes target) := by
  unfold State.addChange
  extract_lets a1 a2
  refine State.pump_keeps ?_ _
  refine State.settleMeets_keeps ?_ _
  refine State.updCam_keeps ?_ _ _
  exact h

theorem execDmaStart_keeps {p : Part → Prop} {z s : State} (h : Keeps p z s) (ch : Nat) (_ : p .dma := by first | assumption | decide) :
    KeepsO p z (execDmaStart ch s) := by
  unfold execDmaStart
  extract_lets a1
  split
  · refine KeepsO.next ?_
    exact h
  · split
    · refine State.dmaFetch_keeps ?_ _
      exact h
    · refine KeepsO.next ?_
      refine State.updDma_keeps ?_ _ _
      exact h

theorem State.sendLine_keeps {p : Part → Prop} {z s : State} (h : Keeps p z s) (l : LineSlot) (_ : p .vd := by first | assumption | decide) (_ : p .out := by first | assumption | decide) :
    Keeps p z (State.sendLine s l) := by
  unfold State.sendLine
  split
  · refine State.sendVd_keeps ?_ _ _
    exact h
  · exact h

theorem State.homeBack_keeps {p : Part → Prop} {z s : State} (h : Keeps p z s) (a : Nat) (used : Nat) (v3 : HomePlan) (_ : p .motion := by first | assumption | decide) :
    Keeps p z (State.homeBack s a used v3) := by
  unfold State.homeBack
  extract_lets a1
  refine State.beginMove_keeps ?_ _
  exact h

theorem State.commitDone_keeps {p : Part → Prop} {z s : State} (h : Keeps p z s) (c : Nat) (ch : Change) (first : Nat) (_ : p .intake := by first | assumption | decide) (_ : p .out := by first | assumption | decide) :
    Keeps p z (State.commitDone s c ch first) := by
  unfold State.commitDone
  extract_lets a1 a2 a3
  have ha2 : Keeps p z a2 := by
    unfold a2
    refine State.updCam_keeps ?_ _ _
    exact h
  clear_value a2
  have ha3 : Keeps p z a3 := by
    unfold a3
    split
    · refine State.updCam_keeps ?_ _ _
      exact ha2
    · exact ha2
  clear_value a3
  refine State.pump_keeps ?_ _
  exact ha3

theorem State.sendPairInfo_keeps {p : Part → Prop} {z s : State} (h : Keeps p z s)  (_ : p .vd := by first | assumption | decide) (_ : p .out := by first | assumption | decide) :
    Keeps p z (State.sendPairInfo s) := by
  unfold State.sendPairInfo
  split
  · refine State.sendVd_keeps ?_ _ _
    exact h
  · exact h

theorem State.endOverview_keeps {p : Part → Prop} {z s : State} (h : Keeps p z s)  (_ : p .codec := by first | assumption | decide) :
    Keeps p z (State.endOverview s) := by
  unfold State.endOverview
  split
  · exact h
  · split
    · refine State.closeOverview_keeps ?_
      exact h
    · exact h

theorem State.pulses_keeps {p : Part → Prop} {z s : State} (h : Keeps p z s) (d : Container) (t : Nat) (first : Bool) (_ : p .intake := by first | assumption | decide) (_ : p .free := by first | assumption | decide) (_ : p .out := by first | assumption | decide) :
    Keeps p z (State.pulses s d t first) := by
  unfold State.pulses
  refine Keeps.forEach (fun z1 s2 x3 h4 => ?_) ?_
  · refine State.pulse_keeps ?_ _ _ _ _ _
    exact h4
  · refine State.drawn_keeps ?_
    exact h

theorem execGateRearmExpiry_keeps {p : Part → Prop} {z s : State} (h : Keeps p z s) (v0 : Nat) (_ : p .print := by first | assumption | decide) :
    KeepsO p z (execGateRearmExpiry v0 s) := by
  unfold execGateRearmExpiry
  extract_lets a1
  refine KeepsO.next ?_
  refine State.hsenHigh_keeps ?_ _
  refine State.updHead_keeps ?_ _ _
  exact h

theorem State.refreshOwed_keeps {p : Part → Prop} {z s : State} (h : Keeps p z s)  (_ : p .dram := by first | assumption | decide) (_ : p .out := by first | assumption | decide) :
    Keeps p z (State.refreshOwed s) := by
  unfold State.refreshOwed
  extract_lets a1 a2
  have ha1 : Keeps p z a1 := by
    unfold a1
    refine Keeps.foldl (fun z4 s5 x6 h7 => ?_) ?_
    · refine State.refresh_keeps ?_ _ _
      exact h7
    · exact h
  clear_value a1
  refine ha1.of

theorem State.bootImages_keeps {p : Part → Prop} {z s : State} (h : Keeps p z s) (next : Nat) (images : List FwImage) (_ : p .sys := by first | assumption | decide) (_ : p .fuse := by first | assumption | decide) (_ : p .fw := by first | assumption | decide) :
    Keeps p z (State.bootImages s next images) := by
  unfold State.bootImages
  extract_lets a1 a2 a3 a4 a5 a6
  have ha3 : Keeps p z a3 := by
    unfold a3
    refine State.bootSlot_keeps ?_ _ _
    refine State.bootSlot_keeps ?_ _ _
    exact h
  clear_value a3
  have ha5 : Keeps p z a5 := by
    unfold a5
    refine ha3.of
  clear_value a5
  split
  · refine State.runImage_keeps ?_ _ _
    refine State.bootSlot_keeps ?_ _ _
    exact h
  · split
    · refine State.runImage_keeps ?_ _ _
      exact ha5
    · refine ha5.of

theorem execTestInstruction_keeps {p : Part → Prop} {z s : State} (h : Keeps p z s) (isProtected : Bool) (_ : p .mem := by first | assumption | decide) (_ : p .sys := by first | assumption | decide) (_ : p .mbx := by first | assumption | decide) (_ : p .hif := by first | assumption | decide) (_ : p .keeper := by first | assumption | decide) (_ : p .deck := by first | assumption | decide) (_ : p .profile := by first | assumption | decide) (_ : p .recs := by first | assumption | decide) (_ : p .mark := by first | assumption | decide) (_ : p .trestle := by first | assumption | decide) (_ : p .pio := by first | assumption | decide) (_ : p .pos := by first | assumption | decide) (_ : p .intake := by first | assumption | decide) (_ : p .span := by first | assumption | decide) (_ : p .stats := by first | assumption | decide) (_ : p .cal := by first | assumption | decide) (_ : p .reg := by first | assumption | decide) (_ : p .cmp := by first | assumption | decide) (_ : p .seg := by first | assumption | decide) (_ : p .codec := by first | assumption | decide) (_ : p .comb := by first | assumption | decide) (_ : p .print := by first | assumption | decide) (_ : p .motion := by first | assumption | decide) (_ : p .mon := by first | assumption | decide) (_ : p .vd := by first | assumption | decide) (_ : p .net := by first | assumption | decide) (_ : p .dram := by first | assumption | decide) (_ : p .dma := by first | assumption | decide) (_ : p .fault := by first | assumption | decide) (_ : p .fuse := by first | assumption | decide) (_ : p .fw := by first | assumption | decide) (_ : p .power := by first | assumption | decide) (_ : p .straps := by first | assumption | decide) (_ : p .now := by first | assumption | decide) :
    KeepsO p z (execTestInstruction isProtected s) := by
  unfold execTestInstruction
  extract_lets a1 a2 a3 a4
  have ha2 : Keeps p z a2 := by
    unfold a2
    refine State.zeroise_keeps ?_
    refine State.porst_keeps ?_
    exact h
  clear_value a2
  split
  · refine KeepsO.next ?_
    exact h
  · split
    · exact KeepsO.fault _ _
    · split
      · refine KeepsO.next ?_
        exact h
      · split
        · refine KeepsO.next ?_
          refine ha2.of
        · exact KeepsO.refused _ _

theorem execResetRelease_keeps {p : Part → Prop} {z s : State} (h : Keeps p z s) (vdRole : Nat) (bistFull : Bool) (_ : p .sys := by first | assumption | decide) (_ : p .vd := by first | assumption | decide) (_ : p .fuse := by first | assumption | decide) (_ : p .straps := by first | assumption | decide) :
    KeepsO p z (execResetRelease vdRole bistFull s) := by
  unfold execResetRelease
  split
  · refine KeepsO.next ?_
    exact h
  · split
    · exact KeepsO.fault _ _
    · split
      · exact KeepsO.fault _ _
      · extract_lets a8 a9 a10 a11
        have ha11 : Keeps p z a11 := by
          unfold a11
          refine h.of
        clear_value a11
        refine KeepsO.next ?_
        refine State.startTraining_keeps ?_
        exact ha11

theorem State.prepare_keeps {p : Part → Prop} {z s : State} (h : Keeps p z s) (v1 : Nat) (_ : p .print := by first | assumption | decide) (_ : p .free := by first | assumption | decide) :
    Keeps p z (State.prepare s v1) := by
  unfold State.prepare
  extract_lets a1 a2 a3 a4 a5 a6 a7 a8 a9 a10 a11 a12 a13
  have ha13 : Keeps p z a13 := by
    unfold a13
    refine State.mapItems_keeps ?_ _ _
    refine State.updHead_keeps ?_ _ _
    exact h
  clear_value a13
  split
  · refine State.drawn_keeps ?_
    exact ha13
  · exact ha13

theorem execPorstN_keeps {p : Part → Prop} {z s : State} (h : Keeps p z s)  (_ : p .mem := by first | assumption | decide) (_ : p .sys := by first | assumption | decide) (_ : p .mbx := by first | assumption | decide) (_ : p .hif := by first | assumption | decide) (_ : p .keeper := by first | assumption | decide) (_ : p .deck := by first | assumption | decide) (_ : p .profile := by first | assumption | decide) (_ : p .recs := by first | assumption | decide) (_ : p .mark := by first | assumption | decide) (_ : p .trestle := by first | assumption | decide) (_ : p .pio := by first | assumption | decide) (_ : p .pos := by first | assumption | decide) (_ : p .intake := by first | assumption | decide) (_ : p .span := by first | assumption | decide) (_ : p .stats := by first | assumption | decide) (_ : p .cal := by first | assumption | decide) (_ : p .reg := by first | assumption | decide) (_ : p .cmp := by first | assumption | decide) (_ : p .seg := by first | assumption | decide) (_ : p .codec := by first | assumption | decide) (_ : p .comb := by first | assumption | decide) (_ : p .print := by first | assumption | decide) (_ : p .motion := by first | assumption | decide) (_ : p .mon := by first | assumption | decide) (_ : p .vd := by first | assumption | decide) (_ : p .net := by first | assumption | decide) (_ : p .dram := by first | assumption | decide) (_ : p .dma := by first | assumption | decide) (_ : p .fault := by first | assumption | decide) (_ : p .fuse := by first | assumption | decide) (_ : p .fw := by first | assumption | decide) (_ : p .power := by first | assumption | decide) (_ : p .straps := by first | assumption | decide) (_ : p .now := by first | assumption | decide) :
    KeepsO p z (execPorstN s) := by
  unfold execPorstN
  refine KeepsO.next ?_
  refine State.porst_keeps ?_
  exact h

theorem State.voidRetired_keeps {p : Part → Prop} {z s : State} (h : Keeps p z s) (c : Nat) (_ : p .intake := by first | assumption | decide) :
    Keeps p z (State.voidRetired s c) := by
  unfold State.voidRetired
  extract_lets a1
  refine Keeps.foldl (fun z3 s4 x5 h6 => ?_) ?_
  · refine Keeps.foldl (fun z8 s9 x10 h11 => ?_) ?_
    · refine State.correct_keeps ?_ _ _ _
      exact h11
    · exact h6
  · refine State.updCam_keeps ?_ _ _
    exact h

theorem State.commitAtFrame_keeps {p : Part → Prop} {z s : State} (h : Keeps p z s) (c : Nat) (_ : p .intake := by first | assumption | decide) (_ : p .out := by first | assumption | decide) :
    Keeps p z (State.commitAtFrame s c) := by
  unfold State.commitAtFrame
  split
  · split
    · refine State.startCommit_keeps ?_ _
      exact h
    · exact h
  · exact h

theorem execMarkerDeactivate_keeps {p : Part → Prop} {z s : State} (h : Keeps p z s) (m : Nat) (_ : p .mark := by first | assumption | decide) (_ : p .net := by first | assumption | decide) (_ : p .now := by first | assumption | decide) (_ : p .out := by first | assumption | decide) :
    KeepsO p z (execMarkerDeactivate m s) := by
  unfold execMarkerDeactivate
  extract_lets a1 a2 a3
  have ha3 : Keeps p z a3 := by
    unfold a3
    split
    · split
      · refine State.updMarker_keeps ?_ _ _
        refine State.advance_keeps ?_ _
        exact h
      · exact h
    · refine State.updMarker_keeps ?_ _ _
      exact h
  clear_value a3
  refine KeepsO.next ?_
  refine State.markShow_keeps ?_ _ _
  refine State.updMarker_keeps ?_ _ _
  exact ha3

theorem State.unmask_keeps {p : Part → Prop} {z s : State} (h : Keeps p z s) (v : Nat) (_ : p .hif := by first | assumption | decide) (_ : p .out := by first | assumption | decide) :
    Keeps p z (State.unmask s v) := by
  unfold State.unmask
  extract_lets a1 a2 a3 a4
  have ha2 : Keeps p z a2 := by
    unfold a2
    refine h.of
  clear_value a2
  have ha4 : Keeps p z a4 := by
    unfold a4
    refine ha2.of
  clear_value a4
  split
  · split
    · refine State.sendVector_keeps ?_ _
      exact ha4
    · exact ha4
  · exact ha2

theorem State.cutLine_keeps {p : Part → Prop} {z s : State} (h : Keeps p z s) (v1 : Nat) (_ : p .print := by first | assumption | decide) :
    Keeps p z (State.cutLine s v1) := by
  unfold State.cutLine
  extract_lets a1
  split
  · exact h
  · split
    · exact h
    · extract_lets a7 a8 a9 a10
      have ha10 : Keeps p z a10 := by
        unfold a10
        refine State.updHead_keeps ?_ _ _
        exact h
      clear_value a10
      refine State.mapItems_keeps ?_ _ _
      exact ha10

theorem State.swarmTakes_keeps {p : Part → Prop} {z s : State} (h : Keeps p z s)  (_ : p .vd := by first | assumption | decide) (_ : p .out := by first | assumption | decide) :
    Keeps p z (State.swarmTakes s) := by
  unfold State.swarmTakes
  extract_lets a1 a2 a3 a4 a5 a6
  have ha3 : Keeps p z a3 := by
    unfold a3
    refine h.of
  clear_value a3
  have ha6 : Keeps p z a6 := by
    unfold a6
    refine ha3.of
  clear_value a6
  refine Keeps.foldl (fun z10 s11 x12 h13 => ?_) ?_
  · split
    · refine State.sendVd_keeps ?_ _ _
      exact h13
    · exact h13
  · exact ha6

theorem State.askPeer_keeps {p : Part → Prop} {z s : State} (h : Keeps p z s) (code : Nat) (arg : Nat) (payload : List Byte) (wait : Option (Req × Int)) (_ : p .vd := by first | assumption | decide) (_ : p .out := by first | assumption | decide) :
    Keeps p z (State.askPeer s code arg payload wait) := by
  unfold State.askPeer
  extract_lets a1 a2
  have ha2 : Keeps p z a2 := by
    unfold a2
    refine h.of
  clear_value a2
  refine State.sendVd_keeps ?_ _ _
  exact ha2

theorem State.startHead_keeps {p : Part → Prop} {z s : State} (h : Keeps p z s) (v1 : Nat) (epoch : Nat) (_ : p .print := by first | assumption | decide) :
    Keeps p z (State.startHead s v1 epoch) := by
  unfold State.startHead
  extract_lets a1 a2 a3 a4
  have ha2 : Keeps p z a2 := by
    unfold a2
    refine State.keepGrid_keeps ?_ _ _
    exact h
  clear_value a2
  refine State.hsenHigh_keeps ?_ _
  refine State.updHead_keeps ?_ _ _
  exact ha2

theorem State.uncoverPartner_keeps {p : Part → Prop} {z s : State} (h : Keeps p z s) (v1 : Nat) (e : Nat) (at' : Option (Nat × Nat)) (_ : p .print := by first | assumption | decide) :
    Keeps p z (State.uncoverPartner s v1 e at') := by
  unfold State.uncoverPartner
  split
  · extract_lets a2
    split
    · refine State.setElem_keeps ?_ _ _ _ _
      exact h
    · split
      · refine State.setElem_keeps ?_ _ _ _ _
        exact h
      · exact h
  · exact h

theorem State.fieldReady_keeps {p : Part → Prop} {z s : State} (h : Keeps p z s)  (_ : p .comb := by first | assumption | decide) :
    Keeps p z (State.fieldReady s) := by
  unfold State.fieldReady
  extract_lets a1 a2 a3 a4
  clear_value a3
  split
  · exact h
  · extract_lets a8 a9 a10
    have ha9 : Keeps p z a9 := by
      unfold a9
      refine h.of
    clear_value a9
    split
    · exact ha9
    · split
      · exact ha9
      · refine State.addTasks_keeps ?_ _
        exact ha9

theorem State.codecLine_keeps {p : Part → Prop} {z s : State} (h : Keeps p z s) (w : WebLine) (_ : p .codec := by first | assumption | decide) (_ : p .dram := by first | assumption | decide) :
    Keeps p z (State.codecLine s w) := by
  unfold State.codecLine
  extract_lets a1 a2 a3 a4 a5 a6 a7
  have ha2 : Keeps p z a2 := by
    unfold a2
    split
    · exact h
    · split
      · refine State.shedRow_keeps ?_
        exact h
      · refine State.updCodec_keeps ?_ _ _
        exact h
  clear_value a2
  have ha3 : Keeps p z a3 := by
    unfold a3
    split
    · refine State.closeOverview_keeps ?_
      exact ha2
    · exact ha2
  clear_value a3
  have ha5 : Keeps p z a5 := by
    unfold a5
    refine ha3.of
  clear_value a5
  have ha6 : Keeps p z a6 := by
    unfold a6
    refine State.shedRow_keeps ?_
    exact ha5
  split
  · exact ha2
  · split
    · split
      · refine ha6.of
      · refine State.closeOverview_keeps ?_
        exact ha5
    · exact ha5

theorem execPtpDelayReqSend_keeps {p : Part → Prop} {z s : State} (h : Keeps p z s)  (_ : p .net := by first | assumption | decide) (_ : p .out := by first | assumption | decide) :
    KeepsO p z (execPtpDelayReqSend s) := by
  unfold execPtpDelayReqSend
  refine KeepsO.next ?_
  split
  · refine State.sendOwn_keeps ?_ _
    refine h.of
  · exact h

theorem State.sendPos_keeps {p : Part → Prop} {z s : State} (h : Keeps p z s)  (_ : p .vd := by first | assumption | decide) (_ : p .out := by first | assumption | decide) :
    Keeps p z (State.sendPos s) := by
  unfold State.sendPos
  split
  · refine State.sendVd_keeps ?_ _ _
    exact h
  · exact h

theorem State.cutUnions_keeps {p : Part → Prop} {z s : State} (h : Keeps p z s) (d : Container) (n : Nat) (go : SeamUnion → Bool) (_ : p .seg := by first | assumption | decide) (_ : p .vd := by first | assumption | decide) (_ : p .out := by first | assumption | decide) :
    Keeps p z (State.cutUnions s d n go) := by
  unfold State.cutUnions
  extract_lets a1 a2 a3 a4 a5
  have ha5 : Keeps p z a5 := by
    unfold a5
    refine h.of
  clear_value a5
  refine Keeps.foldl (fun z8 s9 x10 h11 => ?_) ?_
  · refine State.sendVd_keeps ?_ _ _
    exact h11
  · exact ha5

theorem State.markStart_keeps {p : Part → Prop} {z s : State} (h : Keeps p z s) (m : Nat) (dec : MarkDecision) (_ : p .mark := by first | assumption | decide) (_ : p .out := by first | assumption | decide) :
    Keeps p z (State.markStart s m dec) := by
  unfold State.markStart
  extract_lets a1 a2
  split
  · split
    · exact h
    · refine State.markShow_keeps ?_ _ _
      refine State.updMarker_keeps ?_ _ _
      exact h
  · refine State.markShow_keeps ?_ _ _
    refine State.updMarker_keeps ?_ _ _
    exact h

theorem State.sendSeam_keeps {p : Part → Prop} {z s : State} (h : Keeps p z s)  (_ : p .vd := by first | assumption | decide) (_ : p .out := by first | assumption | decide) :
    Keeps p z (State.sendSeam s) := by
  unfold State.sendSeam
  split
  · extract_lets a2 a3 a4 a5
    refine State.sendVd_keeps ?_ _ _
    exact h
  · exact h

theorem State.settleSeam_keeps {p : Part → Prop} {z s : State} (h : Keeps p z s)  (_ : p .seg := by first | assumption | decide) (_ : p .vd := by first | assumption | decide) :
    Keeps p z (State.settleSeam s) := by
  unfold State.settleSeam
  extract_lets a1 a2 a3 a4 a5 a6
  have ha5 : Keeps p z a5 := by
    unfold a5
    refine h.of
  clear_value a5
  refine State.settleUnions_keeps ?_ _
  exact ha5

theorem State.applyChange_keeps {p : Part → Prop} {z s : State} (h : Keeps p z s) (c : Nat) (ser : Nat) (_ : p .intake := by first | assumption | decide) (_ : p .cal := by first | assumption | decide) (_ : p .out := by first | assumption | decide) :
    Keeps p z (State.applyChange s c ser) := by
  unfold State.applyChange
  extract_lets a1 a2 a3 a4 a5 a6
  have ha6 : Keeps p z a6 := by
    unfold a6
    refine State.updCam_keeps ?_ _ _
    exact h
  clear_value a6
  split
  · exact h
  · refine State.pump_keeps ?_ _
    refine State.setCodes_keeps ?_ _
    exact ha6

theorem execPtpSyncSend_keeps {p : Part → Prop} {z s : State} (h : Keeps p z s)  (_ : p .net := by first | assumption | decide) (_ : p .out := by first | assumption | decide) :
    KeepsO p z (execPtpSyncSend s) := by
  unfold execPtpSyncSend
  refine KeepsO.next ?_
  split
  · refine State.sendOwn_keeps ?_ _
    exact h
  · exact h

theorem State.activateCam_keeps {p : Part → Prop} {z s : State} (h : Keeps p z s) (d : Container) (old : Option Container) (target : Nat) (c : Nat) (_ : p .intake := by first | assumption | decide) (_ : p .out := by first | assumption | decide) :
    Keeps p z (State.activateCam s d old target c) := by
  unfold State.activateCam
  extract_lets a1
  refine State.pump_keeps ?_ _
  refine State.updCam_keeps ?_ _ _
  exact h

theorem execPcieLinkUp_keeps {p : Part → Prop} {z s : State} (h : Keeps p z s)  (_ : p .hif := by first | assumption | decide) (_ : p .out := by first | assumption | decide) :
    KeepsO p z (execPcieLinkUp s) := by
  unfold execPcieLinkUp
  split
  · refine KeepsO.next ?_
    exact h
  · refine KeepsO.next ?_
    refine State.sendPending_keeps ?_ _
    refine h.of

theorem State.learnPixels_keeps {p : Part → Prop} {z s : State} (h : Keeps p z s) (step : Nat) (w : WebLine) (causes : List (Option Nat)) (warps : List Warp) (v5 : List Nat) (_ : p .mem := by first | assumption | decide) (_ : p .reg := by first | assumption | decide) :
    Keeps p z (State.learnPixels s step w causes warps v5) := by
  induction v5 generalizing s step w causes warps
  · rw [State.learnPixels]
    exact h
  · rename_i e0 l0 ih
    rw [State.learnPixels]
    apply ih
    split
    · split
      · exact h
      · extract_lets a51 a52
        split
        · exact h
        · refine State.learnPixel_keeps ?_ _ _ _ _ _
          exact h
    · exact h

theorem State.placeLine_keeps {p : Part → Prop} {z s : State} (h : Keeps p z s) (c : Nat) (v2 : Strip) (k : Nat) (pk : CsiPacket) (_ : p .intake := by first | assumption | decide) :
    Keeps p z (State.placeLine s c v2 k pk) := by
  unfold State.placeLine
  extract_lets a1 a2 a3
  refine State.correct_keeps ?_ _ _ _
  refine State.updCam_keeps ?_ _ _
  exact h

theorem State.deviceFrame_keeps {p : Part → Prop} {z s : State} (h : Keeps p z s) (f : EthFrame) (_ : p .net := by first | assumption | decide) (_ : p .out := by first | assumption | decide) :
    Keeps p z (State.deviceFrame s f) := by
  unfold State.deviceFrame
  extract_lets a1 a2
  split
  · exact h
  · split
    · split
      · exact h
      · refine State.sendOwn_keeps ?_ _
        exact h
    · split
      · refine State.peerDropped_keeps ?_
        exact h
      · split
        · refine State.announced_keeps ?_ _ _
          exact h
        · split
          · split
            · refine h.of
            · exact h
          · exact h

theorem State.raiseIrq_keeps {p : Part → Prop} {z s : State} (h : Keeps p z s) (v : Nat) (_ : p .hif := by first | assumption | decide) (_ : p .out := by first | assumption | decide) :
    Keeps p z (State.raiseIrq s v) := by
  unfold State.raiseIrq
  split
  · exact h
  · refine State.sendVector_keeps ?_ _
    refine h.of

theorem State.wakes_keeps {p : Part → Prop} {z s : State} (h : Keeps p z s)  (_ : p .mon := by first | assumption | decide) (_ : p .vd := by first | assumption | decide) (_ : p .dram := by first | assumption | decide) (_ : p .dma := by first | assumption | decide) :
    Keeps p z (State.wakes s) := by
  unfold State.wakes
  split
  · refine State.leaveStandby_keeps ?_
    exact h
  · refine h.of
  · refine State.startTraining_keeps ?_
    refine h.of
  · exact h

theorem State.moveChanges_keeps {p : Part → Prop} {z s : State} (h : Keeps p z s) (c : Nat) (pick : Change → Bool) (place : Change → Nat) (_ : p .intake := by first | assumption | decide) :
    Keeps p z (State.moveChanges s c pick place) := by
  unfold State.moveChanges
  refine State.settleMeets_keeps ?_ _
  refine State.updCam_keeps ?_ _ _
  exact h

theorem State.notifyIn_keeps {p : Part → Prop} {z s : State} (h : Keeps p z s) (epoch : Nat) (code : Nat) (arg0 : Nat) (arg1 : Nat) (arg2 : Nat) (wln : Nat) (wpos : Int) (time : Nat) (_ : p .recs := by first | assumption | decide) :
    Keeps p z (State.notifyIn s epoch code arg0 arg1 arg2 wln wpos time) := by
  unfold State.notifyIn
  refine State.postTo_keeps ?_ _ _
  exact h

theorem State.seamAbove_keeps {p : Part → Prop} {z s : State} (h : Keeps p z s) (c : CompLine) (m : SeamMsg) (_ : p .seg := by first | assumption | decide) (_ : p .vd := by first | assumption | decide) :
    Keeps p z (State.seamAbove s c m) := by
  unfold State.seamAbove
  extract_lets a1 a2 a3
  have ha3 : Keeps p z a3 := by
    unfold a3
    refine State.meet_keeps ?_ _ _
    exact h
  clear_value a3
  split
  · split
    · refine State.peerMerged_keeps ?_ _ _
      exact ha3
    · exact ha3
  · exact ha3

theorem execDramRefreshDue_keeps {p : Part → Prop} {z s : State} (h : Keeps p z s) (rank : Nat) (wait12 : Bool) (wait3 : Bool) (ahead : Nat) (_ : p .dram := by first | assumption | decide) (_ : p .out := by first | assumption | decide) :
    KeepsO p z (execDramRefreshDue rank s wait12 wait3 ahead) := by
  unfold execDramRefreshDue
  split
  · exact KeepsO.next h
  · extract_lets o a src put
    have hp : ∀ x y n, Keeps p z (put x y n) := fun x y n => State.refresh_keeps h.of _ _
    refine KeepsO.next ?_
    repeat' split
    all_goals exact hp _ _ _

theorem State.endEntry_keeps {p : Part → Prop} {z s : State} (h : Keeps p z s) (g : Grid) (e : Entry) (status : Nat) (line : Int) (_ : p .mem := by first | assumption | decide) (_ : p .print := by first | assumption | decide) (_ : p .free := by first | assumption | decide) :
    Keeps p z (State.endEntry s g e status line) := by
  unfold State.endEntry
  extract_lets a1 a2 a3
  have ha3 : Keeps p z a3 := by
    unfold a3
    refine State.writeEntry_keeps ?_ _ _ _ _
    refine State.passEntry_keeps ?_ _ _
    exact h
  clear_value a3
  split
  · refine State.drawn_keeps ?_
    exact ha3
  · exact ha3

theorem execWindowTaskReady_keeps {p : Part → Prop} {z s : State} (h : Keeps p z s) (stage : Nat) (head : Nat) (_ : p .comb := by first | assumption | decide) :
    KeepsO p z (execWindowTaskReady stage head s) := by
  unfold execWindowTaskReady
  refine KeepsO.next ?_
  refine State.windowReady_keeps ?_ _ _
  exact h

theorem execRingEntryReturn_keeps {p : Part → Prop} {z s : State} (h : Keeps p z s) (ring : Nat) (index : Nat) (_ : p .mem := by first | assumption | decide) (_ : p .recs := by first | assumption | decide) :
    KeepsO p z (execRingEntryReturn ring index s) := by
  unfold execRingEntryReturn
  split
  · refine KeepsO.next ?_
    refine State.returnEntry_keeps ?_ _ _
    exact h
  · refine KeepsO.next ?_
    exact h

theorem State.sendRegister_keeps {p : Part → Prop} {z s : State} (h : Keeps p z s) (r : RepeatStart) (master : Nat) (l : List MarkOut) (_ : p .net := by first | assumption | decide) (_ : p .out := by first | assumption | decide) :
    Keeps p z (State.sendRegister s r master l) := by
  unfold State.sendRegister
  extract_lets a1
  split
  · exact h
  · refine State.sendPeer_keeps ?_ _ _ _ _
    exact h

theorem State.closeGroup_keeps {p : Part → Prop} {z s : State} (h : Keeps p z s) (ov : Bool) (dropped : Bool) (_ : p .mem := by first | assumption | decide) (_ : p .codec := by first | assumption | decide) (_ : p .dram := by first | assumption | decide) :
    Keeps p z (State.closeGroup s ov dropped) := by
  unfold State.closeGroup
  extract_lets a1 a2 a3
  clear_value a2
  split
  · exact h
  · extract_lets a7 a8 a9 a10 a11 a12 a13 a14 a15 a16 a17 a18 a19 a20 a21 a22 a23
    have ha12 : Keeps p z a12 := by
      unfold a12
      refine State.placeGroup_keeps ?_ _ _ _ _
      exact h
    clear_value a12
    have ha13 : Keeps p z a13 := by
      unfold a13
      refine State.updCodec_keeps ?_ _ _
      exact ha12
    clear_value a13
    have ha19 : Keeps p z a19 := by
      unfold a19
      refine State.placeGroup_keeps ?_ _ _ _ _
      exact h
    clear_value a19
    have ha20 : Keeps p z a20 := by
      unfold a20
      refine State.updCodec_keeps ?_ _ _
      exact ha19
    clear_value a20
    have ha22 : Keeps p z a22 := by
      unfold a22
      refine State.countBlocks_keeps ?_ _
      exact ha20
    clear_value a22
    split
    · refine State.shedAt_keeps ?_ _
      refine ha13.of
    · refine State.shedAt_keeps ?_ _
      refine ha22.of

theorem execPart_keeps {p : Part → Prop} {z s : State} (h : Keeps p z s) (d : Descriptor) (label : Nat) (_ : p .seg := by first | assumption | decide) (_ : p .vd := by first | assumption | decide) :
    KeepsO p z (execPart d label s) := by
  unfold execPart
  split
  · refine KeepsO.next ?_
    exact h
  · extract_lets a4 a5 a6 a7 a8 a9
    have ha8 : Keeps p z a8 := by
      unfold a8
      split
      · refine h.of
      · refine h.of
    clear_value a8
    have ha9 : Keeps p z a9 := by
      unfold a9
      refine State.settleSeam_keeps ?_
      exact ha8
    clear_value a9
    refine KeepsO.next ?_
    refine ha9.of

theorem execCropRelease_keeps {p : Part → Prop} {z s : State} (h : Keeps p z s) (q : Req) (handle : Nat) (_ : p .mbx := by first | assumption | decide) (_ : p .recs := by first | assumption | decide) :
    KeepsO p z (execCropRelease q handle s) := by
  unfold execCropRelease
  refine runCmd_keeps ?_ _ _ _ _ _ _ ?_
  · exact h
  · intro x3
    dsimp only
    refine h.of

theorem execTimeQuery_keeps {p : Part → Prop} {z s : State} (h : Keeps p z s) (q : Req) (_ : p .mbx := by first | assumption | decide) :
    KeepsO p z (execTimeQuery q s) := by
  unfold execTimeQuery
  refine runCmd_keeps ?_ _ _ _ _ _ _ ?_
  · exact h
  · intro x3
    exact h

theorem execMemFree_keeps {p : Part → Prop} {z s : State} (h : Keeps p z s) (q : Req) (handle : Nat) (_ : p .mbx := by first | assumption | decide) (_ : p .dram := by first | assumption | decide) :
    KeepsO p z (execMemFree q handle s) := by
  unfold execMemFree
  extract_lets a1 a2 a3
  refine runCmd_keeps ?_ _ _ _ _ _ _ ?_
  · exact h
  · intro x7
    dsimp only
    refine h.of

theorem execPrintUsageQuery_keeps {p : Part → Prop} {z s : State} (h : Keeps p z s) (q : Req) (_ : p .mbx := by first | assumption | decide) :
    KeepsO p z (execPrintUsageQuery q s) := by
  unfold execPrintUsageQuery
  refine runCmd_keeps ?_ _ _ _ _ _ _ ?_
  · exact h
  · intro x3
    exact h

theorem State.switchFrame_keeps {p : Part → Prop} {z s : State} (h : Keeps p z s) (port : Nat) (f : EthFrame) (_ : p .net := by first | assumption | decide) (_ : p .out := by first | assumption | decide) :
    Keeps p z (State.switchFrame s port f) := by
  unfold State.switchFrame
  extract_lets a1 a2
  have ha2 : Keeps p z a2 := by
    unfold a2
    refine h.of
  clear_value a2
  refine Keeps.foldl (fun z5 s6 x7 h8 => ?_) ?_
  · split
    · refine State.deviceFrame_keeps ?_ _
      exact h8
    · refine State.forwardTo_keeps ?_ _ _ _
      exact h8
  · exact ha2

theorem execEvtGroup_keeps {p : Part → Prop} {z s : State} (h : Keeps p z s) (q : Req) (enable : Nat) (disable : Nat) (_ : p .mbx := by first | assumption | decide) (_ : p .trestle := by first | assumption | decide) :
    KeepsO p z (execEvtGroup q enable disable s) := by
  unfold execEvtGroup
  extract_lets a1 a2 a3 a4
  refine runCmd_keeps ?_ _ _ _ _ _ _ ?_
  · exact h
  · intro x8
    dsimp only
    refine h.of

theorem State.shedNote_keeps {p : Part → Prop} {z s : State} (h : Keeps p z s) (code : Nat) (stage : Nat) (_ : p .recs := by first | assumption | decide) :
    Keeps p z (State.shedNote s code stage) := by
  unfold State.shedNote
  refine State.notifyIn_keeps ?_ _ _ _ _ _ _ _ _
  exact h

theorem State.loseLock_keeps {p : Part → Prop} {z s : State} (h : Keeps p z s) (l : LineSlot) (cause : Nat) (_ : p .recs := by first | assumption | decide) (_ : p .trestle := by first | assumption | decide) (_ : p .reg := by first | assumption | decide) :
    Keeps p z (State.loseLock s l cause) := by
  unfold State.loseLock
  extract_lets a1 a2 a3
  have ha3 : Keeps p z a3 := by
    unfold a3
    refine h.of
  clear_value a3
  refine State.publish_keeps ?_ _ _
  refine State.notifyIn_keeps ?_ _ _ _ _ _ _ _ _
  exact ha3

theorem execRefAlloc_keeps {p : Part → Prop} {z s : State} (h : Keeps p z s) (q : Req) (len : Nat) (_ : p .mbx := by first | assumption | decide) (_ : p .reg := by first | assumption | decide) :
    KeepsO p z (execRefAlloc q len s) := by
  unfold execRefAlloc
  extract_lets a1 a2 a3 a4
  have ha4 : Keeps p z a4 := by
    unfold a4
    refine State.updRef_keeps ?_ _ _
    exact h
  clear_value a4
  refine runCmd_keeps ?_ _ _ _ _ _ _ ?_
  · exact h
  · intro x10
    exact ha4

theorem State.seamBelow_keeps {p : Part → Prop} {z s : State} (h : Keeps p z s) (c : CompLine) (m : SeamMsg) (labelError : Bool) (_ : p .seg := by first | assumption | decide) (_ : p .vd := by first | assumption | decide) :
    Keeps p z (State.seamBelow s c m labelError) := by
  unfold State.seamBelow
  extract_lets a1 a2 a3 a4 a5 a6 a7
  have ha5 : Keeps p z a5 := by
    unfold a5
    refine State.meet_keeps ?_ _ _
    refine State.touchSeam_keeps ?_ _
    exact h
  clear_value a5
  have ha6 : Keeps p z a6 := by
    unfold a6
    split
    · split
      · refine State.meet_keeps ?_ _ _
        exact ha5
      · exact ha5
    · exact ha5
  clear_value a6
  refine State.settleSeam_keeps ?_
  refine ha6.of

theorem State.sendDefect_keeps {p : Part → Prop} {z s : State} (h : Keeps p z s) (b : Descriptor) (typ : Nat) (cls : Nat) (sev : Nat) (cscore : Nat) (markers : Nat) (seq : Nat) (endWpos : Int) (_ : p .net := by first | assumption | decide) (_ : p .free := by first | assumption | decide) (_ : p .out := by first | assumption | decide) :
    Keeps p z (State.sendDefect s b typ cls sev cscore markers seq endWpos) := by
  unfold State.sendDefect
  extract_lets a1 a2 a3 a4
  have ha4 : Keeps p z a4 := by
    unfold a4
    refine State.sendPeer_keeps ?_ _ _ _ _
    exact h
  clear_value a4
  split
  · exact h
  · split
    · refine State.drawn_keeps ?_
      exact ha4
    · exact ha4

theorem execCounterClear_keeps {p : Part → Prop} {z s : State} (h : Keeps p z s) (q : Req) (parts : Nat) (_ : p .mbx := by first | assumption | decide) (_ : p .recs := by first | assumption | decide) (_ : p .mark := by first | assumption | decide) (_ : p .pos := by first | assumption | decide) (_ : p .intake := by first | assumption | decide) (_ : p .span := by first | assumption | decide) (_ : p .reg := by first | assumption | decide) (_ : p .cmp := by first | assumption | decide) (_ : p .seg := by first | assumption | decide) (_ : p .codec := by first | assumption | decide) (_ : p .comb := by first | assumption | decide) (_ : p .print := by first | assumption | decide) (_ : p .mon := by first | assumption | decide) (_ : p .vd := by first | assumption | decide) (_ : p .net := by first | assumption | decide) (_ : p .dram := by first | assumption | decide) (_ : p .dma := by first | assumption | decide) (_ : p .power := by first | assumption | decide) :
    KeepsO p z (execCounterClear q parts s) := by
  unfold execCounterClear
  split
  · exact KeepsO.fault _ _
  · refine runCmd_keeps ?_ _ _ _ _ _ _ ?_
    · exact h
    · intro x5
      dsimp only
      refine State.clearEdgeCounters_keeps ?_ _
      refine State.clearMidCounters_keeps ?_ _
      refine State.clearWebCounters_keeps ?_ _
      exact h

theorem State.seamCuts_keeps {p : Part → Prop} {z s : State} (h : Keeps p z s) (c : CompLine) (m : SeamMsg) (_ : p .seg := by first | assumption | decide) (_ : p .vd := by first | assumption | decide) (_ : p .out := by first | assumption | decide) :
    Keeps p z (State.seamCuts s c m) := by
  unfold State.seamCuts
  extract_lets a1 a2 a3 a4 a5
  split
  · refine State.cutUnions_keeps ?_ _ _ _
    exact h
  · refine h.of

theorem execMsixUnmask_keeps {p : Part → Prop} {z s : State} (h : Keeps p z s) (vector : Nat) (_ : p .hif := by first | assumption | decide) (_ : p .out := by first | assumption | decide) :
    KeepsO p z (execMsixUnmask vector s) := by
  unfold execMsixUnmask
  refine KeepsO.next ?_
  split
  · refine State.unmask_keeps ?_ _
    exact h
  · exact h

theorem State.raiseAll_keeps {p : Part → Prop} {z s : State} (h : Keeps p z s) (v1 : List Nat) (_ : p .hif := by first | assumption | decide) (_ : p .out := by first | assumption | decide) :
    Keeps p z (State.raiseAll s v1) := by
  induction v1 generalizing s
  · rw [State.raiseAll]
    exact h
  · rename_i e0 l0 ih
    rw [State.raiseAll]
    apply ih
    refine State.raiseIrq_keeps ?_ _
    exact h

theorem execFieldTaskReady_keeps {p : Part → Prop} {z s : State} (h : Keeps p z s)  (_ : p .comb := by first | assumption | decide) :
    KeepsO p z (execFieldTaskReady s) := by
  unfold execFieldTaskReady
  refine KeepsO.next ?_
  refine State.fieldReady_keeps ?_
  exact h

theorem State.writeRecord_keeps {p : Part → Prop} {z s : State} (h : Keeps p z s) (k : Nat) (_ : p .mem := by first | assumption | decide) (_ : p .hif := by first | assumption | decide) (_ : p .recs := by first | assumption | decide) (_ : p .dram := by first | assumption | decide) (_ : p .out := by first | assumption | decide) :
    Keeps p z (State.writeRecord s k) := by
  unfold State.writeRecord
  extract_lets a1 a2 a3
  split
  · exact h
  · extract_lets a7 a8 a9
    have ha7 : Keeps p z a7 := by
      unfold a7
      refine State.write_keeps ?_ _ _
      refine State.write_keeps ?_ _ _
      refine State.wakeDram_keeps ?_
      exact h
    clear_value a7
    have ha8 : Keeps p z a8 := by
      unfold a8
      refine State.updRing_keeps ?_ _ _
      exact ha7
    clear_value a8
    have ha9 : Keeps p z a9 := by
      unfold a9
      split
      · refine State.raiseIrq_keeps ?_ _
        exact ha8
      · exact ha8
    clear_value a9
    split
    · refine State.raiseIrq_keeps ?_ _
      exact ha9
    · exact ha9

theorem execDeckLoad_keeps {p : Part → Prop} {z s : State} (h : Keeps p z s) (q : Req) (addr : Nat) (len : Nat) (slot : Nat) (_ : p .mem := by first | assumption | decide) (_ : p .mbx := by first | assumption | decide) (_ : p .deck := by first | assumption | decide) (_ : p .dram := by first | assumption | decide) :
    KeepsO p z (execDeckLoad q addr len slot s) := by
  unfold execDeckLoad
  split
  · refine runCmd_keeps ?_ _ _ _ _ _ _ ?_
    · exact h
    · intro x4
      exact h
  · split
    · exact KeepsO.fault _ _
    · split
      · exact KeepsO.fault _ _
      · refine runCmd_keeps ?_ _ _ _ _ _ _ ?_
        · exact h
        · intro x13
          refine State.loadDeck_keeps ?_ _ _ _
          exact h

theorem execRefDelete_keeps {p : Part → Prop} {z s : State} (h : Keeps p z s) (q : Req) (handle : Nat) (_ : p .mbx := by first | assumption | decide) (_ : p .reg := by first | assumption | decide) :
    KeepsO p z (execRefDelete q handle s) := by
  unfold execRefDelete
  extract_lets a1
  refine runCmd_keeps ?_ _ _ _ _ _ _ ?_
  · exact h
  · intro x5
    dsimp only
    refine State.updRef_keeps ?_ _ _
    exact h

theorem execBootLoadDone_keeps {p : Part → Prop} {z s : State} (h : Keeps p z s) (records : List BootRecord) (images : List FwImage) (profile : List Byte) (_ : p .sys := by first | assumption | decide) (_ : p .profile := by first | assumption | decide) (_ : p .print := by first | assumption | decide) (_ : p .mon := by first | assumption | decide) (_ : p .fuse := by first | assumption | decide) (_ : p .fw := by first | assumption | decide) :
    KeepsO p z (execBootLoadDone records images profile s) := by
  unfold execBootLoadDone
  split
  · refine KeepsO.next ?_
    exact h
  · extract_lets a4 a5 a6 a7 a8 a9 a10 a11
    have ha4 : Keeps p z a4 := by
      unfold a4
      split
      · refine State.zeroise_keeps ?_
        exact h
      · exact h
    clear_value a4
    have ha6 : Keeps p z a6 := by
      unfold a6
      split
      · refine ha4.of
      · exact ha4
    clear_value a6
    have ha8 : Keeps p z a8 := by
      unfold a8
      refine State.bootImages_keeps ?_ _ _
      exact ha6
    clear_value a8
    refine KeepsO.next ?_
    refine ha8.of

theorem execSysStatus_keeps {p : Part → Prop} {z s : State} (h : Keeps p z s) (q : Req) (_ : p .mbx := by first | assumption | decide) :
    KeepsO p z (execSysStatus q s) := by
  unfold execSysStatus
  refine runCmd_keeps ?_ _ _ _ _ _ _ ?_
  · exact h
  · intro x3
    exact h

theorem execMemCrc_keeps {p : Part → Prop} {z s : State} (h : Keeps p z s) (q : Req) (addr : Nat) (len : Nat) (_ : p .mbx := by first | assumption | decide) (_ : p .keeper := by first | assumption | decide) (_ : p .dram := by first | assumption | decide) :
    KeepsO p z (execMemCrc q addr len s) := by
  unfold execMemCrc
  extract_lets a1 a2
  split
  · exact KeepsO.fault _ _
  · refine runCmd_keeps ?_ _ _ _ _ _ _ ?_
    · exact h
    · intro x8
      dsimp only
      refine State.start_keeps ?_ _ _ _
      exact h

theorem State.notify_keeps {p : Part → Prop} {z s : State} (h : Keeps p z s) (code : Nat) (arg0 : Nat) (arg1 : Nat) (arg2 : Nat) (_ : p .recs := by first | assumption | decide) :
    Keeps p z (State.notify s code arg0 arg1 arg2) := by
  unfold State.notify
  refine State.notifyIn_keeps ?_ _ _ _ _ _ _ _ _
  exact h

theorem State.beginAuth_keeps {p : Part → Prop} {z s : State} (h : Keeps p z s) (v1 : Nat) (_ : p .print := by first | assumption | decide) (_ : p .free := by first | assumption | decide) (_ : p .out := by first | assumption | decide) :
    Keeps p z (State.beginAuth s v1) := by
  unfold State.beginAuth
  refine State.challenge_keeps ?_ _
  refine State.updChip_keeps ?_ _ _
  exact h

theorem execHeadLineReprepare_keeps {p : Part → Prop} {z s : State} (h : Keeps p z s) (v0 : Nat) (t : Nat) (_ : p .pos := by first | assumption | decide) (_ : p .print := by first | assumption | decide) (_ : p .net := by first | assumption | decide) (_ : p .now := by first | assumption | decide) (_ : p .free := by first | assumption | decide) :
    KeepsO p z (execHeadLineReprepare v0 t s) := by
  unfold execHeadLineReprepare
  extract_lets a1
  have ha1 : Keeps p z a1 := by
    unfold a1
    refine State.reachTick_keeps ?_ _
    exact h
  clear_value a1
  split
  · refine KeepsO.next ?_
    split
    · refine State.prepare_keeps ?_ _
      exact ha1
    · exact ha1
  · refine KeepsO.next ?_
    exact ha1

theorem execLaneQuery_keeps {p : Part → Prop} {z s : State} (h : Keeps p z s) (q : Req) (cls : Nat) (lane : Nat) (received : List (List Bool)) (_ : p .mbx := by first | assumption | decide) (_ : p .vd := by first | assumption | decide) :
    KeepsO p z (execLaneQuery q cls lane s received) := by
  unfold execLaneQuery
  extract_lets a1 a2
  have ha1 : Keeps p z a1 := by
    unfold a1
    refine State.laneHears_keeps ?_ _ _ _
    exact h
  clear_value a1
  refine runCmd_keeps ?_ _ _ _ _ _ _ ?_
  · exact h
  · intro x8
    exact ha1

theorem execTimeAdjust_keeps {p : Part → Prop} {z s : State} (h : Keeps p z s) (q : Req) (step : Int) (incr : Nat) (applyStep : Bool) (applyIncr : Bool) (_ : p .mbx := by first | assumption | decide) (_ : p .net := by first | assumption | decide) :
    KeepsO p z (execTimeAdjust q step incr applyStep applyIncr s) := by
  unfold execTimeAdjust
  extract_lets a1
  split
  · exact KeepsO.fault _ _
  · refine runCmd_keeps ?_ _ _ _ _ _ _ ?_
    · exact h
    · intro x7
      dsimp only
      refine h.of

theorem execPeek_keeps {p : Part → Prop} {z s : State} (h : Keeps p z s) (q : Req) (addr : Nat) (count : Nat) (_ : p .mbx := by first | assumption | decide) (_ : p .free := by first | assumption | decide) :
    KeepsO p z (execPeek q addr count s) := by
  unfold execPeek
  extract_lets a1 a2
  split
  · exact KeepsO.fault _ _
  · refine runCmd_keeps ?_ _ _ _ _ _ _ ?_
    · exact h
    · intro x8
      dsimp only
      refine State.drawn_keeps ?_
      exact h

theorem execPoke_keeps {p : Part → Prop} {z s : State} (h : Keeps p z s) (q : Req) (addr : Nat) (words : List Nat) (_ : p .mem := by first | assumption | decide) (_ : p .mbx := by first | assumption | decide) (_ : p .comb := by first | assumption | decide) (_ : p .fault := by first | assumption | decide) :
    KeepsO p z (execPoke q addr words s) := by
  unfold execPoke
  extract_lets a1 a2 a3
  split
  · exact KeepsO.fault _ _
  · split
    · exact KeepsO.refused _ _
    · split
      · exact KeepsO.fault _ _
      · split
        · exact KeepsO.fault _ _
        · refine runCmd_keeps ?_ _ _ _ _ _ _ ?_
          · exact h
          · intro x15
            dsimp only
            split
            · exact h
            · refine State.hostWrite_keeps ?_ _ _
              exact h

theorem execBulk_keeps {p : Part → Prop} {z s : State} (h : Keeps p z s) (srcAddr : Nat) (srcPort : Nat) (handle : Nat) (kind : Nat) (offset : Nat) (data : List Byte) (pmajor : Nat) (short : Bool) (_ : p .mem := by first | assumption | decide) (_ : p .net := by first | assumption | decide) (_ : p .out := by first | assumption | decide) :
    KeepsO p z (execBulk srcAddr srcPort handle kind offset data s pmajor short) := by
  unfold execBulk
  extract_lets a1 a2 a3 a4 a5 a6 a7
  have ha4 : Keeps p z a4.2 := by
    unfold a4
    split
    · exact h
    · split
      · split
        · exact h
        · split
          · exact h
          · dsimp only
            refine State.write_keeps ?_ _ _
            exact h
      · split
        · exact h
        · split
          · exact h
          · dsimp only
            refine State.write_keeps ?_ _ _
            exact h
  clear_value a4
  have ha5 : Keeps p z a5 := by
    unfold a5
    exact ha4
  have ha7 : Keeps p z a7 := by
    unfold a7
    split
    · exact ha5
    · refine ha5.of
  clear_value a7
  split
  · refine KeepsO.next ?_
    exact h
  · split
    · refine KeepsO.next ?_
      refine h.of
    · split
      · refine KeepsO.next ?_
        refine State.peerDropped_keeps ?_
        exact h
      · refine KeepsO.next ?_
        refine State.sendPeer_keeps ?_ _ _ _ _
        exact ha7

theorem execRefQuery_keeps {p : Part → Prop} {z s : State} (h : Keeps p z s) (q : Req) (_ : p .mbx := by first | assumption | decide) :
    KeepsO p z (execRefQuery q s) := by
  unfold execRefQuery
  refine runCmd_keeps ?_ _ _ _ _ _ _ ?_
  · exact h
  · intro x3
    exact h

theorem State.posChange_keeps {p : Part → Prop} {z s : State} (h : Keeps p z s) (before : PosState) (_ : p .vd := by first | assumption | decide) (_ : p .out := by first | assumption | decide) :
    Keeps p z (State.posChange s before) := by
  unfold State.posChange
  split
  · exact h
  · refine State.sendPos_keeps ?_
    exact h

theorem execDeckUnstage_keeps {p : Part → Prop} {z s : State} (h : Keeps p z s) (q : Req) (_ : p .mbx := by first | assumption | decide) (_ : p .deck := by first | assumption | decide) :
    KeepsO p z (execDeckUnstage q s) := by
  unfold execDeckUnstage
  refine runCmd_keeps ?_ _ _ _ _ _ _ ?_
  · exact h
  · intro x3
    dsimp only
    refine h.of

theorem State.sendHello_keeps {p : Part → Prop} {z s : State} (h : Keeps p z s) (addr : Nat) (reply : Bool) (_ : p .net := by first | assumption | decide) (_ : p .out := by first | assumption | decide) :
    Keeps p z (State.sendHello s addr reply) := by
  unfold State.sendHello
  refine State.sendPeer_keeps ?_ _ _ _ _
  exact h

theorem execPrintRearm_keeps {p : Part → Prop} {z s : State} (h : Keeps p z s) (q : Req) (_ : p .mbx := by first | assumption | decide) (_ : p .print := by first | assumption | decide) :
    KeepsO p z (execPrintRearm q s) := by
  unfold execPrintRearm
  refine runCmd_keeps ?_ _ _ _ _ _ _ ?_
  · exact h
  · intro x3
    dsimp only
    refine Keeps.foldl (fun z6 s7 x8 h9 => ?_) ?_
    · refine State.hsenHigh_keeps ?_ _
      exact h9
    · refine h.of

end Sys2Proof.Machine
end

