-- ==== Sys2Proof/Laws/Keeps3.lean ====
section
/-! SUPPORT. What each operation of the block keeps, part 3: one lemma for each, in the order of their use (`Keeps`). -/

set_option linter.unusedVariables false
set_option linter.unusedSimpArgs false

namespace Sys2Proof.Machine

set_option Elab.async false

theorem execCalFlat_keeps {p : Part → Prop} {z s : State} (h : Keeps p z s) (q : Req) (white : Bool) (ports : Nat) (_ : p .mbx := by first | assumption | decide) (_ : p .keeper := by first | assumption | decide) (_ : p .cal := by first | assumption | decide) :
    KeepsO p z (execCalFlat q white ports s) := by
  unfold execCalFlat
  refine runCmd_keeps ?_ _ _ _ _ _ _ ?_
  · exact h
  · intro x3
    dsimp only
    refine calFlatStart_keeps ?_ _ _ _
    exact h

theorem execTdacSet_keeps {p : Part → Prop} {z s : State} (h : Keeps p z s) (q : Req) (tdac : Nat) (code : Nat) (_ : p .mbx := by first | assumption | decide) (_ : p .cal := by first | assumption | decide) :
    KeepsO p z (execTdacSet q tdac code s) := by
  unfold execTdacSet
  refine runCmd_keeps ?_ _ _ _ _ _ _ ?_
  · exact h
  · intro x3
    dsimp only
    split
    · refine h.of
    · refine State.setCode_keeps ?_ _ _
      exact h

theorem execPrintElemQuery_keeps {p : Part → Prop} {z s : State} (h : Keeps p z s) (q : Req) (head : Nat) (_ : p .mbx := by first | assumption | decide) :
    KeepsO p z (execPrintElemQuery q head s) := by
  unfold execPrintElemQuery
  refine runCmd_keeps ?_ _ _ _ _ _ _ ?_
  · exact h
  · intro x3
    exact h

theorem State.sendSpeed_keeps {p : Part → Prop} {z s : State} (h : Keeps p z s) (request : Nat) (level : Nat) (leads : Nat) (hold : Bool) (_ : p .net := by first | assumption | decide) (_ : p .out := by first | assumption | decide) :
    Keeps p z (State.sendSpeed s request level leads hold) := by
  unfold State.sendSpeed
  extract_lets a1
  split
  · exact h
  · refine State.sendPeer_keeps ?_ _ _ _ _
    exact h

theorem State.closeSeam_keeps {p : Part → Prop} {z s : State} (h : Keeps p z s)  (_ : p .seg := by first | assumption | decide) (_ : p .vd := by first | assumption | decide) (_ : p .out := by first | assumption | decide) :
    Keeps p z (State.closeSeam s) := by
  unfold State.closeSeam
  extract_lets a1 a2 a3 a4 a5
  have ha3 : Keeps p z a3 := by
    unfold a3
    refine State.pullComps_keeps ?_ _
    exact h
  clear_value a3
  have ha4 : Keeps p z a4 := by
    unfold a4
    refine State.takeDiverted_keeps ?_ _
    exact ha3
  clear_value a4
  split
  · refine Keeps.foldl (fun z12 s13 x14 h15 => ?_) ?_
    · refine State.emitUnion_keeps ?_ _ _
      exact h15
    · exact ha4
  · split
    · refine State.takeDiverted_keeps ?_ _
      exact ha3
    · refine Keeps.foldl (fun z23 s24 x25 h26 => ?_) ?_
      · refine h26.of
      · exact ha3

theorem State.takeFrom_keeps {p : Part → Prop} {z s : State} (h : Keeps p z s) (n : Nat) (_ : p .mbx := by first | assumption | decide) (_ : p .hif := by first | assumption | decide) (_ : p .out := by first | assumption | decide) :
    Keeps p z (State.takeFrom s n) := by
  unfold State.takeFrom
  extract_lets a1 a2 a3
  have ha2 : Keeps p z a2 := by
    unfold a2
    split
    · exact h
    · refine h.of
  clear_value a2
  split
  · refine State.raiseIrq_keeps ?_ _
    refine State.updMbx_keeps ?_ _ _
    exact ha2
  · split
    · refine ha2.of
    · refine ha2.of

theorem State.beginHome_keeps {p : Part → Prop} {z s : State} (h : Keeps p z s) (a : Nat) (_ : p .motion := by first | assumption | decide) :
    Keeps p z (State.beginHome s a) := by
  unfold State.beginHome
  extract_lets a1 a2
  split
  · refine State.homeBack_keeps ?_ _ _ _
    exact h
  · refine State.beginMove_keeps ?_ _
    exact h

theorem execKeyLoad_keeps {p : Part → Prop} {z s : State} (h : Keeps p z s) (q : Req) (slot : Nat) (key : List Byte) (_ : p .mbx := by first | assumption | decide) (_ : p .fuse := by first | assumption | decide) :
    KeepsO p z (execKeyLoad q slot key s) := by
  unfold execKeyLoad
  extract_lets a1 a2 a3 a4
  refine runCmd_keeps ?_ _ _ _ _ _ _ ?_
  · exact h
  · intro x8
    dsimp only
    refine h.of

theorem execSetPointChange_keeps {p : Part → Prop} {z s : State} (h : Keeps p z s) (sp : Nat) (_ : p .dram := by first | assumption | decide) (_ : p .out := by first | assumption | decide) :
    KeepsO p z (execSetPointChange sp s) := by
  unfold execSetPointChange
  split
  · refine KeepsO.next ?_
    exact h
  · extract_lets a4 a5
    have ha4 : Keeps p z a4 := by
      unfold a4
      refine State.refreshOwed_keeps ?_
      exact h
    clear_value a4
    refine KeepsO.next ?_
    refine ha4.of

theorem execCalQuery_keeps {p : Part → Prop} {z s : State} (h : Keeps p z s) (q : Req) (_ : p .mbx := by first | assumption | decide) :
    KeepsO p z (execCalQuery q s) := by
  unfold execCalQuery
  refine runCmd_keeps ?_ _ _ _ _ _ _ ?_
  · exact h
  · intro x3
    exact h

theorem execUdpRequest_keeps {p : Part → Prop} {z s : State} (h : Keeps p z s) (srcAddr : Nat) (srcPort : Nat) (data : List Byte) (firstFragment : Bool) (lastFragment : Bool) (_ : p .hif := by first | assumption | decide) (_ : p .net := by first | assumption | decide) (_ : p .out := by first | assumption | decide) :
    KeepsO p z (execUdpRequest srcAddr srcPort data firstFragment lastFragment s) := by
  unfold execUdpRequest
  extract_lets a1 a2 a3
  split
  · refine KeepsO.next ?_
    exact h
  · split
    · refine KeepsO.next ?_
      refine h.of
    · split
      · refine KeepsO.next ?_
        refine State.udpDatagram_keeps ?_ _ _ _
        exact h
      · split
        · split
          · refine KeepsO.next ?_
            refine h.of
          · refine KeepsO.next ?_
            exact h
        · split
          · refine KeepsO.next ?_
            exact h
          · split
            · refine KeepsO.next ?_
              refine h.of
            · split
              · refine KeepsO.next ?_
                refine State.udpDatagram_keeps ?_ _ _ _
                refine h.of
              · refine KeepsO.next ?_
                refine h.of

theorem State.reverseCheck_keeps {p : Part → Prop} {z s : State} (h : Keeps p z s) (v1 : Int) (_ : p .recs := by first | assumption | decide) (_ : p .trestle := by first | assumption | decide) (_ : p .pos := by first | assumption | decide) :
    Keeps p z (State.reverseCheck s v1) := by
  unfold State.reverseCheck
  split
  · refine h.of
  · split
    · extract_lets a4 a5 a6
      have ha5 : Keeps p z a5 := by
        unfold a5
        refine h.of
      clear_value a5
      have ha6 : Keeps p z a6 := by
        unfold a6
        refine State.publish_keeps ?_ _ _
        exact ha5
      clear_value a6
      refine State.notifyIn_keeps ?_ _ _ _ _ _ _ _ _
      exact ha6
    · exact h

theorem exposureEffect_keeps {p : Part → Prop} {z s : State} (h : Keeps p z s) (e : ExposureReq) (_ : p .intake := by first | assumption | decide) (_ : p .out := by first | assumption | decide) :
    Keeps p z (exposureEffect e s).1 := by
  unfold exposureEffect
  split
  · dsimp only
    refine State.updCam_keeps ?_ _ _
    exact h
  · extract_lets a5 a6 a7
    dsimp only
    refine State.addChange_keeps ?_ _ _ _ _ _ _
    exact h

theorem execMemQuery_keeps {p : Part → Prop} {z s : State} (h : Keeps p z s) (q : Req) (_ : p .mbx := by first | assumption | decide) :
    KeepsO p z (execMemQuery q s) := by
  unfold execMemQuery
  refine runCmd_keeps ?_ _ _ _ _ _ _ ?_
  · exact h
  · intro x3
    exact h

theorem execTimeSet_keeps {p : Part → Prop} {z s : State} (h : Keeps p z s) (q : Req) (time : Nat) (_ : p .mbx := by first | assumption | decide) (_ : p .net := by first | assumption | decide) :
    KeepsO p z (execTimeSet q time s) := by
  unfold execTimeSet
  refine runCmd_keeps ?_ _ _ _ _ _ _ ?_
  · exact h
  · intro x3
    dsimp only
    refine h.of

theorem execDeckQuery_keeps {p : Part → Prop} {z s : State} (h : Keeps p z s) (q : Req) (_ : p .mbx := by first | assumption | decide) :
    KeepsO p z (execDeckQuery q s) := by
  unfold execDeckQuery
  refine runCmd_keeps ?_ _ _ _ _ _ _ ?_
  · exact h
  · intro x3
    exact h

theorem execMemAlloc_keeps {p : Part → Prop} {z s : State} (h : Keeps p z s) (q : Req) (len : Nat) (_ : p .mbx := by first | assumption | decide) (_ : p .dram := by first | assumption | decide) :
    KeepsO p z (execMemAlloc q len s) := by
  unfold execMemAlloc
  extract_lets a1 a2 a3 a4 a5
  have ha5 : Keeps p z a5 := by
    unfold a5
    refine h.of
  clear_value a5
  refine runCmd_keeps ?_ _ _ _ _ _ _ ?_
  · exact h
  · intro x10
    exact ha5

theorem execSysIdent_keeps {p : Part → Prop} {z s : State} (h : Keeps p z s) (q : Req) (_ : p .mbx := by first | assumption | decide) :
    KeepsO p z (execSysIdent q s) := by
  unfold execSysIdent
  refine runCmd_keeps ?_ _ _ _ _ _ _ ?_
  · exact h
  · intro x3
    exact h

theorem execEvtInject_keeps {p : Part → Prop} {z s : State} (h : Keeps p z s) (q : Req) (channel : Nat) (tag : Int) (_ : p .mbx := by first | assumption | decide) (_ : p .trestle := by first | assumption | decide) :
    KeepsO p z (execEvtInject q channel tag s) := by
  unfold execEvtInject
  split
  · exact KeepsO.fault _ _
  · extract_lets a3
    refine runCmd_keeps ?_ _ _ _ _ _ _ ?_
    · exact h
    · intro x7
      dsimp only
      split
      · exact h
      · refine h.of

theorem execHifReset_keeps {p : Part → Prop} {z s : State} (h : Keeps p z s) (value : Word) (_ : p .mem := by first | assumption | decide) (_ : p .sys := by first | assumption | decide) (_ : p .mbx := by first | assumption | decide) (_ : p .hif := by first | assumption | decide) (_ : p .keeper := by first | assumption | decide) (_ : p .deck := by first | assumption | decide) (_ : p .profile := by first | assumption | decide) (_ : p .recs := by first | assumption | decide) (_ : p .mark := by first | assumption | decide) (_ : p .trestle := by first | assumption | decide) (_ : p .pio := by first | assumption | decide) (_ : p .pos := by first | assumption | decide) (_ : p .intake := by first | assumption | decide) (_ : p .span := by first | assumption | decide) (_ : p .stats := by first | assumption | decide) (_ : p .cal := by first | assumption | decide) (_ : p .reg := by first | assumption | decide) (_ : p .cmp := by first | assumption | decide) (_ : p .seg := by first | assumption | decide) (_ : p .codec := by first | assumption | decide) (_ : p .comb := by first | assumption | decide) (_ : p .print := by first | assumption | decide) (_ : p .motion := by first | assumption | decide) (_ : p .mon := by first | assumption | decide) (_ : p .vd := by first | assumption | decide) (_ : p .net := by first | assumption | decide) (_ : p .dram := by first | assumption | decide) (_ : p .dma := by first | assumption | decide) (_ : p .fault := by first | assumption | decide) (_ : p .fuse := by first | assumption | decide) (_ : p .fw := by first | assumption | decide) (_ : p .power := by first | assumption | decide) (_ : p .straps := by first | assumption | decide) (_ : p .now := by first | assumption | decide) :
    KeepsO p z (execHifReset value s) := by
  unfold execHifReset
  split
  · refine KeepsO.next ?_
    refine State.hifReset_keeps ?_
    exact h
  · refine KeepsO.next ?_
    exact h

theorem State.pixelPacket_keeps {p : Part → Prop} {z s : State} (h : Keeps p z s) (c : Nat) (v2 : Strip) (pk : CsiPacket) (_ : p .intake := by first | assumption | decide) :
    Keeps p z (State.pixelPacket s c v2 pk) := by
  induction c generalizing s v2 pk
  · rw [State.pixelPacket]
    split
    · exact h
    · split
      · split
        · dsimp -zeta only
          refine State.updCam_keeps ?_ _ _
          exact h
        · split
          · dsimp -zeta only
            refine State.updCam_keeps ?_ _ _
            exact h
          · split
            · dsimp -zeta only
              refine State.updCam_keeps ?_ _ _
              exact h
            · split
              · dsimp -zeta only
                refine State.updCam_keeps ?_ _ _
                exact h
              · extract_lets a20 a21
                have ha21 : Keeps p z a21 := by
                  unfold a21
                  refine State.updCam_keeps ?_ _ _
                  exact h
                clear_value a21
                refine State.placeLine_keeps ?_ _ _ _ _
                exact ha21
      · extract_lets a27 a28
        have ha28 : Keeps p z a28 := by
          unfold a28
          refine State.updCam_keeps ?_ _ _
          exact h
        clear_value a28
        split
        · refine State.updCam_keeps ?_ _ _
          exact ha28
        · refine State.placeLine_keeps ?_ _ _ _ _
          exact ha28
  · rename_i i0 ih
    rw [State.pixelPacket]
    split
    · exact h
    · split
      · split
        · dsimp -zeta only
          refine State.updCam_keeps ?_ _ _
          exact h
        · split
          · dsimp -zeta only
            refine State.updCam_keeps ?_ _ _
            exact h
          · split
            · dsimp -zeta only
              refine State.updCam_keeps ?_ _ _
              exact h
            · split
              · dsimp -zeta only
                refine State.updCam_keeps ?_ _ _
                exact h
              · extract_lets a56 a57
                have ha57 : Keeps p z a57 := by
                  unfold a57
                  refine State.updCam_keeps ?_ _ _
                  exact h
                clear_value a57
                refine State.placeLine_keeps ?_ _ _ _ _
                exact ha57
      · extract_lets a63 a64
        have ha64 : Keeps p z a64 := by
          unfold a64
          refine State.updCam_keeps ?_ _ _
          exact h
        clear_value a64
        split
        · refine State.updCam_keeps ?_ _ _
          exact ha64
        · refine State.placeLine_keeps ?_ _ _ _ _
          exact ha64

theorem execDeckDelete_keeps {p : Part → Prop} {z s : State} (h : Keeps p z s) (q : Req) (handle : Nat) (_ : p .mbx := by first | assumption | decide) (_ : p .deck := by first | assumption | decide) :
    KeepsO p z (execDeckDelete q handle s) := by
  unfold execDeckDelete
  extract_lets a1
  refine runCmd_keeps ?_ _ _ _ _ _ _ ?_
  · exact h
  · intro x5
    dsimp only
    refine State.updSlot_keeps ?_ _ _
    exact h

theorem execRefLearn_keeps {p : Part → Prop} {z s : State} (h : Keeps p z s) (q : Req) (refId : Nat) (refRev : Nat) (lines : Nat) (_ : p .mem := by first | assumption | decide) (_ : p .mbx := by first | assumption | decide) (_ : p .keeper := by first | assumption | decide) (_ : p .reg := by first | assumption | decide) (_ : p .codec := by first | assumption | decide) :
    KeepsO p z (execRefLearn q refId refRev lines s) := by
  unfold execRefLearn
  extract_lets a1 a2 a3 a4 a5 a6 a7 a8 a9
  have ha6 : Keeps p z a6 := by
    unfold a6
    refine State.updRef_keeps ?_ _ _
    exact h
  clear_value a6
  have ha8 : Keeps p z a8 := by
    unfold a8
    refine ha6.of
  clear_value a8
  have ha9 : Keeps p z a9 := by
    unfold a9
    refine State.resizeRing_keeps ?_
    refine State.clear_keeps ?_ _ _
    exact ha8
  clear_value a9
  split
  · exact KeepsO.fault _ _
  · refine runCmd_keeps ?_ _ _ _ _ _ _ ?_
    · exact h
    · intro x21
      dsimp only
      refine State.start_keeps ?_ _ _ _
      exact ha9

theorem execCalTableRead_keeps {p : Part → Prop} {z s : State} (h : Keeps p z s) (q : Req) (dest : Nat) (port : Nat) (_ : p .mbx := by first | assumption | decide) (_ : p .keeper := by first | assumption | decide) (_ : p .cal := by first | assumption | decide) (_ : p .dram := by first | assumption | decide) :
    KeepsO p z (execCalTableRead q dest port s) := by
  unfold execCalTableRead
  split
  · exact KeepsO.fault _ _
  · refine runCmd_keeps ?_ _ _ _ _ _ _ ?_
    · exact h
    · intro x5
      dsimp only
      refine State.start_keeps ?_ _ _ _
      refine h.of

theorem State.seamClosed_keeps {p : Part → Prop} {z s : State} (h : Keeps p z s)  (_ : p .seg := by first | assumption | decide) (_ : p .vd := by first | assumption | decide) (_ : p .out := by first | assumption | decide) :
    Keeps p z (State.seamClosed s) := by
  unfold State.seamClosed
  extract_lets a1
  have ha1 : Keeps p z a1 := by
    unfold a1
    refine State.takeDiverted_keeps ?_ _
    exact h
  clear_value a1
  refine State.swarmTakes_keeps ?_
  refine State.ownMerged_keeps ?_ _
  exact ha1

theorem execSysNop_keeps {p : Part → Prop} {z s : State} (h : Keeps p z s) (q : Req) (_ : p .mbx := by first | assumption | decide) :
    KeepsO p z (execSysNop q s) := by
  unfold execSysNop
  refine runCmd_keeps ?_ _ _ _ _ _ _ ?_
  · exact h
  · intro x3
    exact h

theorem State.activateCams_keeps {p : Part → Prop} {z s : State} (h : Keeps p z s) (d : Container) (old : Option Container) (target : Nat) (_ : p .intake := by first | assumption | decide) (_ : p .out := by first | assumption | decide) :
    Keeps p z (State.activateCams s d old target) := by
  unfold State.activateCams
  refine Keeps.forEach (fun z1 s2 x3 h4 => ?_) ?_
  · refine State.activateCam_keeps ?_ _ _ _ _
    exact h4
  · exact h

theorem State.markStarts_keeps {p : Part → Prop} {z s : State} (h : Keeps p z s) (m : Nat) (v2 : List MarkDecision) (_ : p .mark := by first | assumption | decide) (_ : p .out := by first | assumption | decide) :
    Keeps p z (State.markStarts s m v2) := by
  induction v2 generalizing s m
  · rw [State.markStarts]
    exact h
  · rename_i e0 l0 ih
    rw [State.markStarts]
    apply ih
    refine State.markStart_keeps ?_ _ _
    exact h

theorem execAxisEnable_keeps {p : Part → Prop} {z s : State} (h : Keeps p z s) (q : Req) (axes : Nat) (enable : Nat) (_ : p .mbx := by first | assumption | decide) (_ : p .motion := by first | assumption | decide) :
    KeepsO p z (execAxisEnable q axes enable s) := by
  unfold execAxisEnable
  extract_lets a1
  refine runCmd_keeps ?_ _ _ _ _ _ _ ?_
  · exact h
  · intro x5
    dsimp only
    refine Keeps.foldl (fun z8 s9 x10 h11 => ?_) ?_
    · refine State.driveEn_keeps ?_ _ _
      exact h11
    · exact h

theorem execProfileLoad_keeps {p : Part → Prop} {z s : State} (h : Keeps p z s) (q : Req) (addr : Nat) (len : Nat) (_ : p .mbx := by first | assumption | decide) (_ : p .profile := by first | assumption | decide) :
    KeepsO p z (execProfileLoad q addr len s) := by
  unfold execProfileLoad
  split
  · refine runCmd_keeps ?_ _ _ _ _ _ _ ?_
    · exact h
    · intro x4
      refine State.loadProfile_keeps ?_ _ _
      exact h
  · split
    · exact KeepsO.fault _ _
    · split
      · exact KeepsO.fault _ _
      · refine runCmd_keeps ?_ _ _ _ _ _ _ ?_
        · exact h
        · intro x14
          refine State.loadProfile_keeps ?_ _ _
          exact h

theorem execRingTimerExpiry_keeps {p : Part → Prop} {z s : State} (h : Keeps p z s) (ring : Nat) (_ : p .hif := by first | assumption | decide) (_ : p .recs := by first | assumption | decide) (_ : p .out := by first | assumption | decide) :
    KeepsO p z (execRingTimerExpiry ring s) := by
  unfold execRingTimerExpiry
  extract_lets a1
  split
  · refine KeepsO.next ?_
    exact h
  · refine KeepsO.next ?_
    refine State.raiseIrq_keeps ?_ _
    refine State.updRing_keeps ?_ _ _
    exact h

theorem execRefCommit_keeps {p : Part → Prop} {z s : State} (h : Keeps p z s) (q : Req) (handle : Nat) (_ : p .mbx := by first | assumption | decide) (_ : p .keeper := by first | assumption | decide) (_ : p .reg := by first | assumption | decide) (_ : p .dram := by first | assumption | decide) :
    KeepsO p z (execRefCommit q handle s) := by
  unfold execRefCommit
  extract_lets a1 a2
  refine runCmd_keeps ?_ _ _ _ _ _ _ ?_
  · exact h
  · intro x6
    dsimp only
    refine State.start_keeps ?_ _ _ _
    refine State.updRef_keeps ?_ _ _
    exact h

theorem execMemCopy_keeps {p : Part → Prop} {z s : State} (h : Keeps p z s) (q : Req) (src : Nat) (dst : Nat) (len : Nat) (_ : p .mbx := by first | assumption | decide) (_ : p .keeper := by first | assumption | decide) (_ : p .dram := by first | assumption | decide) :
    KeepsO p z (execMemCopy q src dst len s) := by
  unfold execMemCopy
  extract_lets a1 a2
  split
  · exact KeepsO.fault _ _
  · split
    · exact KeepsO.fault _ _
    · refine runCmd_keeps ?_ _ _ _ _ _ _ ?_
      · exact h
      · intro x10
        dsimp only
        refine State.start_keeps ?_ _ _ _
        exact h

theorem execLcQuery_keeps {p : Part → Prop} {z s : State} (h : Keeps p z s) (q : Req) (_ : p .mbx := by first | assumption | decide) :
    KeepsO p z (execLcQuery q s) := by
  unfold execLcQuery
  extract_lets a1
  refine runCmd_keeps ?_ _ _ _ _ _ _ ?_
  · exact h
  · intro x5
    exact h

theorem execSensorXfer_keeps {p : Part → Prop} {z s : State} (h : Keeps p z s) (q : Req) (camera : Nat) (write : Bool) (aw : Nat) (dw : Nat) (addr : Nat) (value : Nat) (reply : Option Nat) (_ : p .mbx := by first | assumption | decide) (_ : p .free := by first | assumption | decide) (_ : p .out := by first | assumption | decide) :
    KeepsO p z (execSensorXfer q camera write aw dw addr value reply s) := by
  unfold execSensorXfer
  extract_lets a1 a2
  have ha2 : Keeps p z a2 := by
    unfold a2
    split
    · refine State.emit_keeps ?_ _
      exact h
    · exact h
  clear_value a2
  refine runCmd_keeps ?_ _ _ _ _ _ _ ?_
  · exact h
  · intro x10
    split
    · exact ha2
    · split
      · dsimp only
        refine State.drawn_keeps ?_
        exact ha2
      · exact ha2

theorem execNetQuery_keeps {p : Part → Prop} {z s : State} (h : Keeps p z s) (q : Req) (_ : p .mbx := by first | assumption | decide) :
    KeepsO p z (execNetQuery q s) := by
  unfold execNetQuery
  refine runCmd_keeps ?_ _ _ _ _ _ _ ?_
  · exact h
  · intro x3
    exact h

theorem execPosSendTimer_keeps {p : Part → Prop} {z s : State} (h : Keeps p z s)  (_ : p .vd := by first | assumption | decide) (_ : p .out := by first | assumption | decide) :
    KeepsO p z (execPosSendTimer s) := by
  unfold execPosSendTimer
  refine KeepsO.next ?_
  refine State.sendPos_keeps ?_
  exact h

theorem State.deferLate_keeps {p : Part → Prop} {z s : State} (h : Keeps p z s) (c : Nat) (ser : Nat) (latch : Bool) (_ : p .intake := by first | assumption | decide) :
    Keeps p z (State.deferLate s c ser latch) := by
  unfold State.deferLate
  extract_lets a1 a2
  split
  · exact h
  · refine State.updCam_keeps ?_ _ _
    refine State.moveChanges_keeps ?_ _ _ _
    exact h

theorem execFwWrite_keeps {p : Part → Prop} {z s : State} (h : Keeps p z s) (q : Req) (src : Nat) (offset : Nat) (len : Nat) (first : Bool) (last : Bool) (_ : p .mbx := by first | assumption | decide) (_ : p .keeper := by first | assumption | decide) (_ : p .fw := by first | assumption | decide) :
    KeepsO p z (execFwWrite q src offset len first last s) := by
  unfold execFwWrite
  extract_lets a1 a2 a3 a4
  have ha3 : Keeps p z a3 := by
    unfold a3
    split
    · refine State.updFw_keeps ?_ _ _
      exact h
    · exact h
  clear_value a3
  split
  · exact KeepsO.fault _ _
  · split
    · exact KeepsO.fault _ _
    · refine runCmd_keeps ?_ _ _ _ _ _ _ ?_
      · exact h
      · intro x16
        dsimp only
        refine State.start_keeps ?_ _ _ _
        refine ha3.of

theorem State.retarget_keeps {p : Part → Prop} {z s : State} (h : Keeps p z s) (c : Nat) (_ : p .intake := by first | assumption | decide) :
    Keeps p z (State.retarget s c) := by
  unfold State.retarget
  refine State.moveChanges_keeps ?_ _ _ _
  exact h

theorem execSysReset_keeps {p : Part → Prop} {z s : State} (h : Keeps p z s) (q : Req) (key : Nat) (_ : p .mbx := by first | assumption | decide) (_ : p .keeper := by first | assumption | decide) :
    KeepsO p z (execSysReset q key s) := by
  unfold execSysReset
  refine runCmd_keeps ?_ _ _ _ _ _ _ ?_
  · exact h
  · intro x3
    dsimp only
    refine h.of

theorem State.msixWrite_keeps {p : Part → Prop} {z s : State} (h : Keeps p z s) (i : Nat) (v : Nat) (_ : p .hif := by first | assumption | decide) (_ : p .out := by first | assumption | decide) :
    Keeps p z (State.msixWrite s i v) := by
  unfold State.msixWrite
  split
  · split
    · refine h.of
    · refine State.unmask_keeps ?_ _
      exact h
  · refine h.of

theorem State.leaveDiag_keeps {p : Part → Prop} {z s : State} (h : Keeps p z s)  (_ : p .mem := by first | assumption | decide) (_ : p .comb := by first | assumption | decide) (_ : p .vd := by first | assumption | decide) (_ : p .fault := by first | assumption | decide) :
    Keeps p z (State.leaveDiag s) := by
  unfold State.leaveDiag
  extract_lets a1 a2 a3
  have ha1 : Keeps p z a1 := by
    unfold a1
    split
    · refine State.initMemories_keeps ?_
      exact h
    · exact h
  clear_value a1
  refine State.startTraining_keeps ?_
  refine ha1.of

theorem State.shedCodec_keeps {p : Part → Prop} {z s : State} (h : Keeps p z s)  (_ : p .codec := by first | assumption | decide) (_ : p .dram := by first | assumption | decide) :
    Keeps p z (State.shedCodec s) := by
  unfold State.shedCodec
  refine State.shedAt_keeps ?_ _
  exact h

theorem execRingQuery_keeps {p : Part → Prop} {z s : State} (h : Keeps p z s) (q : Req) (_ : p .mbx := by first | assumption | decide) :
    KeepsO p z (execRingQuery q s) := by
  unfold execRingQuery
  refine runCmd_keeps ?_ _ _ _ _ _ _ ?_
  · exact h
  · intro x3
    exact h

theorem execFwActivate_keeps {p : Part → Prop} {z s : State} (h : Keeps p z s) (q : Req) (slot : Nat) (reset : Bool) (_ : p .mem := by first | assumption | decide) (_ : p .sys := by first | assumption | decide) (_ : p .mbx := by first | assumption | decide) (_ : p .hif := by first | assumption | decide) (_ : p .keeper := by first | assumption | decide) (_ : p .deck := by first | assumption | decide) (_ : p .profile := by first | assumption | decide) (_ : p .recs := by first | assumption | decide) (_ : p .mark := by first | assumption | decide) (_ : p .trestle := by first | assumption | decide) (_ : p .pio := by first | assumption | decide) (_ : p .pos := by first | assumption | decide) (_ : p .intake := by first | assumption | decide) (_ : p .span := by first | assumption | decide) (_ : p .stats := by first | assumption | decide) (_ : p .cal := by first | assumption | decide) (_ : p .reg := by first | assumption | decide) (_ : p .cmp := by first | assumption | decide) (_ : p .seg := by first | assumption | decide) (_ : p .codec := by first | assumption | decide) (_ : p .comb := by first | assumption | decide) (_ : p .print := by first | assumption | decide) (_ : p .motion := by first | assumption | decide) (_ : p .mon := by first | assumption | decide) (_ : p .vd := by first | assumption | decide) (_ : p .net := by first | assumption | decide) (_ : p .dram := by first | assumption | decide) (_ : p .dma := by first | assumption | decide) (_ : p .fault := by first | assumption | decide) (_ : p .fuse := by first | assumption | decide) (_ : p .fw := by first | assumption | decide) (_ : p .power := by first | assumption | decide) (_ : p .straps := by first | assumption | decide) (_ : p .now := by first | assumption | decide) :
    KeepsO p z (execFwActivate q slot reset s) := by
  unfold execFwActivate
  extract_lets a1 a2
  split
  · refine KeepsO.next ?_
    refine State.hifReset_keeps ?_
    refine State.bootNext_keeps ?_ _
    exact h
  · refine runCmd_keeps ?_ _ _ _ _ _ _ ?_
    · exact h
    · intro x11
      dsimp only
      refine State.bootNext_keeps ?_ _
      exact h

theorem State.bar2_keeps {p : Part → Prop} {z s : State} (h : Keeps p z s) (write : Bool) (offset : Nat) (len : Nat) (data : List Byte) (_ : p .mem := by first | assumption | decide) (_ : p .recs := by first | assumption | decide) (_ : p .comb := by first | assumption | decide) (_ : p .fault := by first | assumption | decide) (_ : p .free := by first | assumption | decide) (_ : p .out := by first | assumption | decide) :
    KeepsO p z (State.bar2 s write offset len data) := by
  unfold State.bar2
  extract_lets a1 a2
  split
  · refine KeepsO.next ?_
    exact h
  · split
    · exact KeepsO.fault _ _
    · split
      · exact KeepsO.fault _ _
      · split
        · split
          · exact KeepsO.fault _ _
          · refine KeepsO.next ?_
            refine State.barWrite_keeps ?_ _ _
            exact h
        · refine KeepsO.next ?_
          refine State.drawn_keeps ?_
          refine State.emit_keeps ?_ _
          exact h

theorem execBistResult_keeps {p : Part → Prop} {z s : State} (h : Keeps p z s) (q : Req) (_ : p .mbx := by first | assumption | decide) :
    KeepsO p z (execBistResult q s) := by
  unfold execBistResult
  extract_lets a1
  refine runCmd_keeps ?_ _ _ _ _ _ _ ?_
  · exact h
  · intro x5
    exact h

theorem execStandbySelfRefresh_keeps {p : Part → Prop} {z s : State} (h : Keeps p z s)  (_ : p .dram := by first | assumption | decide) (_ : p .out := by first | assumption | decide) :
    KeepsO p z (execStandbySelfRefresh s) := by
  unfold execStandbySelfRefresh
  split
  · refine KeepsO.next ?_
    refine State.selfRefreshes_keeps ?_
    refine State.refreshOwed_keeps ?_
    exact h
  · refine KeepsO.next ?_
    exact h

theorem execLcAdvance_keeps {p : Part → Prop} {z s : State} (h : Keeps p z s) (q : Req) (target : Nat) (confirm : Nat) (_ : p .mbx := by first | assumption | decide) (_ : p .print := by first | assumption | decide) (_ : p .fuse := by first | assumption | decide) :
    KeepsO p z (execLcAdvance q target confirm s) := by
  unfold execLcAdvance
  refine runCmd_keeps h _ _ _ _ _ _ (fun hr => ?_)
  refine State.advanceTo_keeps h _ ?_
  by_cases hp : lcPermits s.fuse.lifeCycle target = true
  · exact hp
  · simp only [hp] at hr
    split at hr <;> simp at hr

theorem execLookbackFetch_keeps {p : Part → Prop} {z s : State} (h : Keeps p z s) (q : Req) (overview : Bool) (epoch : Nat) (first : Nat) (lines : Nat) (xpos : Nat) (pixels : Nat) (dest : Nat) (_ : p .mbx := by first | assumption | decide) (_ : p .keeper := by first | assumption | decide) (_ : p .dram := by first | assumption | decide) :
    KeepsO p z (execLookbackFetch q overview epoch first lines xpos pixels dest s) := by
  unfold execLookbackFetch
  split
  · exact KeepsO.fault _ _
  · refine runCmd_keeps ?_ _ _ _ _ _ _ ?_
    · exact h
    · intro x5
      dsimp only
      refine State.start_keeps ?_ _ _ _
      exact h

theorem State.dmaIrq_keeps {p : Part → Prop} {z s : State} (h : Keeps p z s) (c : Nat) (_ : p .hif := by first | assumption | decide) (_ : p .out := by first | assumption | decide) :
    Keeps p z (State.dmaIrq s c) := by
  unfold State.dmaIrq
  refine State.raiseIrq_keeps ?_ _
  exact h

theorem execAxisQuery_keeps {p : Part → Prop} {z s : State} (h : Keeps p z s) (q : Req) (_ : p .mbx := by first | assumption | decide) :
    KeepsO p z (execAxisQuery q s) := by
  unfold execAxisQuery
  refine runCmd_keeps ?_ _ _ _ _ _ _ ?_
  · exact h
  · intro x3
    exact h

theorem execEvtQuery_keeps {p : Part → Prop} {z s : State} (h : Keeps p z s) (q : Req) (_ : p .mbx := by first | assumption | decide) :
    KeepsO p z (execEvtQuery q s) := by
  unfold execEvtQuery
  refine runCmd_keeps ?_ _ _ _ _ _ _ ?_
  · exact h
  · intro x3
    exact h

theorem execPrintShift_keeps {p : Part → Prop} {z s : State} (h : Keeps p z s) (q : Req) (lead : Nat) (shift : Int) (_ : p .mbx := by first | assumption | decide) (_ : p .print := by first | assumption | decide) :
    KeepsO p z (execPrintShift q lead shift s) := by
  unfold execPrintShift
  extract_lets a1 a2 a3 a4
  refine runCmd_keeps ?_ _ _ _ _ _ _ ?_
  · exact h
  · intro x8
    dsimp only
    refine h.of

theorem execLookbackQuery_keeps {p : Part → Prop} {z s : State} (h : Keeps p z s) (q : Req) (_ : p .mbx := by first | assumption | decide) :
    KeepsO p z (execLookbackQuery q s) := by
  unfold execLookbackQuery
  refine runCmd_keeps ?_ _ _ _ _ _ _ ?_
  · exact h
  · intro x3
    exact h

theorem execPrintQueueSet_keeps {p : Part → Prop} {z s : State} (h : Keeps p z s) (q : Req) (lead : Nat) (sizeLog2 : Nat) (base : Nat) (_ : p .mbx := by first | assumption | decide) (_ : p .print := by first | assumption | decide) :
    KeepsO p z (execPrintQueueSet q lead sizeLog2 base s) := by
  unfold execPrintQueueSet
  split
  · exact KeepsO.fault _ _
  · refine runCmd_keeps ?_ _ _ _ _ _ _ ?_
    · exact h
    · intro x5
      dsimp only
      refine State.updQueue_keeps ?_ _ _
      exact h

theorem execFwQuery_keeps {p : Part → Prop} {z s : State} (h : Keeps p z s) (q : Req) (_ : p .mbx := by first | assumption | decide) :
    KeepsO p z (execFwQuery q s) := by
  unfold execFwQuery
  extract_lets a1
  refine runCmd_keeps ?_ _ _ _ _ _ _ ?_
  · exact h
  · intro x5
    exact h

theorem execEvtClear_keeps {p : Part → Prop} {z s : State} (h : Keeps p z s) (q : Req) (_ : p .mbx := by first | assumption | decide) (_ : p .mark := by first | assumption | decide) (_ : p .trestle := by first | assumption | decide) :
    KeepsO p z (execEvtClear q s) := by
  unfold execEvtClear
  refine runCmd_keeps ?_ _ _ _ _ _ _ ?_
  · exact h
  · intro x3
    dsimp only
    refine State.evtClear_keeps ?_
    exact h

theorem execMailboxResponse_keeps {p : Part → Prop} {z s : State} (h : Keeps p z s) (n : Nat) (_ : p .mbx := by first | assumption | decide) (_ : p .hif := by first | assumption | decide) (_ : p .vd := by first | assumption | decide) (_ : p .net := by first | assumption | decide) (_ : p .out := by first | assumption | decide) :
    KeepsO p z (execMailboxResponse n s) := by
  unfold execMailboxResponse
  split
  · exact KeepsO.next h
  · split
    · exact KeepsO.next (State.updMbx_keeps h _ _)
    · split
      · split
        · exact KeepsO.next h
        · extract_lets _ s1
          have h1 : Keeps p z s1 := h.withBuf _ (fun x => memWrite_wf x _ _)
          exact KeepsO.next (State.raiseIrq_keeps (State.updMbx_keeps h1 _ _) _)
      · split
        · extract_lets s1 key
          have h1 : Keeps p z s1 := State.updMbx_keeps h _ _
          exact KeepsO.next (State.sendOwn_keeps h1.of _)
        · exact KeepsO.next (State.sendVd_keeps (State.updMbx_keeps h _ _) _ _)

theorem execSysResetDelayExpiry_keeps {p : Part → Prop} {z s : State} (h : Keeps p z s)  (_ : p .mem := by first | assumption | decide) (_ : p .sys := by first | assumption | decide) (_ : p .mbx := by first | assumption | decide) (_ : p .hif := by first | assumption | decide) (_ : p .keeper := by first | assumption | decide) (_ : p .deck := by first | assumption | decide) (_ : p .profile := by first | assumption | decide) (_ : p .recs := by first | assumption | decide) (_ : p .mark := by first | assumption | decide) (_ : p .trestle := by first | assumption | decide) (_ : p .pio := by first | assumption | decide) (_ : p .pos := by first | assumption | decide) (_ : p .intake := by first | assumption | decide) (_ : p .span := by first | assumption | decide) (_ : p .stats := by first | assumption | decide) (_ : p .cal := by first | assumption | decide) (_ : p .reg := by first | assumption | decide) (_ : p .cmp := by first | assumption | decide) (_ : p .seg := by first | assumption | decide) (_ : p .codec := by first | assumption | decide) (_ : p .comb := by first | assumption | decide) (_ : p .print := by first | assumption | decide) (_ : p .motion := by first | assumption | decide) (_ : p .mon := by first | assumption | decide) (_ : p .vd := by first | assumption | decide) (_ : p .net := by first | assumption | decide) (_ : p .dram := by first | assumption | decide) (_ : p .dma := by first | assumption | decide) (_ : p .fault := by first | assumption | decide) (_ : p .fuse := by first | assumption | decide) (_ : p .fw := by first | assumption | decide) (_ : p .power := by first | assumption | decide) (_ : p .straps := by first | assumption | decide) (_ : p .now := by first | assumption | decide) :
    KeepsO p z (execSysResetDelayExpiry s) := by
  unfold execSysResetDelayExpiry
  split
  · refine KeepsO.next ?_
    refine State.hifReset_keeps ?_
    exact h
  · refine KeepsO.next ?_
    exact h

theorem State.compareOne_keeps {p : Part → Prop} {z s : State} (h : Keeps p z s) (w : WebLine) (force : Option Nat) (_ : p .mem := by first | assumption | decide) (_ : p .reg := by first | assumption | decide) (_ : p .cmp := by first | assumption | decide) :
    Keeps p z (State.compareOne s w force).1 := by
  unfold State.compareOne
  extract_lets a1 a2 a3 a4 a5 a6 a7 a8 a9 a10 a11 a12 a13 a14 a15 a16
  have ha16 : Keeps p z a16 := by
    unfold a16
    refine h.of
  clear_value a16
  dsimp only
  refine State.learnPixels_keeps ?_ _ _ _ _ _
  exact ha16

theorem State.forwardReverse_keeps {p : Part → Prop} {z s : State} (h : Keeps p z s) (reverse : Bool) (_ : p .recs := by first | assumption | decide) (_ : p .trestle := by first | assumption | decide) (_ : p .pos := by first | assumption | decide) :
    Keeps p z (State.forwardReverse s reverse) := by
  unfold State.forwardReverse
  split
  · extract_lets a2 a3 a4
    have ha3 : Keeps p z a3 := by
      unfold a3
      refine h.of
    clear_value a3
    have ha4 : Keeps p z a4 := by
      unfold a4
      refine State.publish_keeps ?_ _ _
      exact ha3
    clear_value a4
    refine State.notifyIn_keeps ?_ _ _ _ _ _ _ _ _
    exact ha4
  · refine h.of

theorem execBistRun_keeps {p : Part → Prop} {z s : State} (h : Keeps p z s) (q : Req) (full : Bool) (_ : p .mbx := by first | assumption | decide) (_ : p .keeper := by first | assumption | decide) (_ : p .fault := by first | assumption | decide) :
    KeepsO p z (execBistRun q full s) := by
  unfold execBistRun
  extract_lets a1 a2
  have ha1 : Keeps p z a1 := by
    unfold a1
    refine State.start_keeps ?_ _ _ _
    exact h
  clear_value a1
  refine runCmd_keeps ?_ _ _ _ _ _ _ ?_
  · exact h
  · intro x8
    dsimp only
    refine ha1.of

theorem State.switchCams_keeps {p : Part → Prop} {z s : State} (h : Keeps p z s) (d : Container) (old : Container) (_ : p .intake := by first | assumption | decide) (_ : p .out := by first | assumption | decide) :
    Keeps p z (State.switchCams s d old) := by
  unfold State.switchCams
  refine Keeps.forEach (fun z1 s2 x3 h4 => ?_) ?_
  · split
    · refine State.retarget_keeps ?_ _
      refine State.updCam_keeps ?_ _ _
      exact h4
    · refine State.activateCam_keeps ?_ _ _ _ _
      exact h4
  · exact h

theorem execEthFrameRx_keeps {p : Part → Prop} {z s : State} (h : Keeps p z s) (port : Nat) (f : EthFrame) (_ : p .net := by first | assumption | decide) (_ : p .out := by first | assumption | decide) :
    KeepsO p z (execEthFrameRx port f s) := by
  unfold execEthFrameRx
  extract_lets a1 a2 a3
  have ha2 : Keeps p z a2 := by
    unfold a2
    refine State.updPort_keeps ?_ _ _
    exact h
  clear_value a2
  split
  · refine KeepsO.next ?_
    exact h
  · split
    · refine KeepsO.next ?_
      refine State.updPort_keeps ?_ _ _
      exact h
    · split
      · split
        · refine KeepsO.next ?_
          refine State.updPort_keeps ?_ _ _
          exact h
        · split
          · refine KeepsO.next ?_
            refine State.updPort_keeps ?_ _ _
            exact ha2
          · split
            · refine KeepsO.next ?_
              refine State.updPort_keeps ?_ _ _
              exact ha2
            · split
              · refine KeepsO.next ?_
                refine State.updPort_keeps ?_ _ _
                exact ha2
              · split
                · refine KeepsO.next ?_
                  refine ha2.of
                · refine KeepsO.next ?_
                  refine State.switchFrame_keeps ?_ _ _
                  exact ha2
      · split
        · refine KeepsO.next ?_
          refine State.updPort_keeps ?_ _ _
          exact h
        · split
          · refine KeepsO.next ?_
            refine State.updPort_keeps ?_ _ _
            exact ha2
          · split
            · refine KeepsO.next ?_
              refine State.updPort_keeps ?_ _ _
              exact ha2
            · split
              · refine KeepsO.next ?_
                refine State.updPort_keeps ?_ _ _
                exact ha2
              · split
                · refine KeepsO.next ?_
                  refine ha2.of
                · refine KeepsO.next ?_
                  refine State.switchFrame_keeps ?_ _ _
                  exact ha2

theorem State.deliverRequest_keeps {p : Part → Prop} {z s : State} (h : Keeps p z s)  (_ : p .cal := by first | assumption | decide) (_ : p .print := by first | assumption | decide) (_ : p .net := by first | assumption | decide) (_ : p .free := by first | assumption | decide) (_ : p .out := by first | assumption | decide) :
    Keeps p z (State.deliverRequest s) := by
  unfold State.deliverRequest
  extract_lets a1 a2 a3 a4 a5 a6 a7 a8 a9 a10 a11 a12 a13
  have ha9 : Keeps p z a9 := by
    unfold a9
    refine h.of
  clear_value a9
  have ha11 : Keeps p z a11 := by
    unfold a11
    split
    · refine State.emit_keeps ?_ _
      exact ha9
    · exact ha9
  clear_value a11
  have ha12 : Keeps p z a12 := by
    unfold a12
    split
    · refine State.setCode_keeps ?_ _ _
      exact ha11
    · exact ha11
  clear_value a12
  have ha13 : Keeps p z a13 := by
    unfold a13
    split
    · refine State.drawn_keeps ?_
      exact ha12
    · exact ha12
  clear_value a13
  split
  · refine State.sendSpeed_keeps ?_ _ _ _ _
    exact ha13
  · exact ha13

theorem State.takeRequest_keeps {p : Part → Prop} {z s : State} (h : Keeps p z s) (n : Nat) (_ : p .mbx := by first | assumption | decide) (_ : p .hif := by first | assumption | decide) (_ : p .out := by first | assumption | decide) :
    KeepsO p z (State.takeRequest s n) := by
  unfold State.takeRequest
  split
  · split
    · refine KeepsO.next ?_
      exact h
    · extract_lets a5
      have ha5 : Keeps p z a5 := by
        unfold a5
        refine State.takeFrom_keeps ?_ _
        exact h
      clear_value a5
      split
      · refine KeepsO.next ?_
        refine State.respond_keeps ?_ _ _ _
        exact ha5
      · split
        · exact KeepsO.fault _ _
        · refine KeepsO.next ?_
          refine State.updMbx_keeps ?_ _ _
          exact ha5
  · refine KeepsO.next ?_
    exact h

theorem execRecordWrite_keeps {p : Part → Prop} {z s : State} (h : Keeps p z s) (ring : Nat) (_ : p .mem := by first | assumption | decide) (_ : p .hif := by first | assumption | decide) (_ : p .recs := by first | assumption | decide) (_ : p .dram := by first | assumption | decide) (_ : p .out := by first | assumption | decide) :
    KeepsO p z (execRecordWrite ring s) := by
  unfold execRecordWrite
  refine KeepsO.next ?_
  refine State.writeRecord_keeps ?_ _
  exact h

theorem State.refFailed_keeps {p : Part → Prop} {z s : State} (h : Keeps p z s) (handle : Nat) (st : Status) (detail : Nat) (_ : p .recs := by first | assumption | decide) :
    Keeps p z (State.refFailed s handle st detail) := by
  unfold State.refFailed
  refine State.notify_keeps ?_ _ _ _ _
  exact h

theorem State.stretchTest_keeps {p : Part → Prop} {z s : State} (h : Keeps p z s) (d : Container) (o : RegObject) (l : LineSlot) (_ : p .recs := by first | assumption | decide) (_ : p .trestle := by first | assumption | decide) (_ : p .reg := by first | assumption | decide) :
    Keeps p z (State.stretchTest s d o l) := by
  unfold State.stretchTest
  extract_lets a1 a2 a3 a4 a5
  have ha5 : Keeps p z a5 := by
    unfold a5
    refine h.of
  clear_value a5
  split
  · refine State.loseLock_keeps ?_ _ _
    exact ha5
  · exact ha5

theorem State.refReady_keeps {p : Part → Prop} {z s : State} (h : Keeps p z s) (k : Nat) (_ : p .recs := by first | assumption | decide) :
    Keeps p z (State.refReady s k) := by
  unfold State.refReady
  refine State.notify_keeps ?_ _ _ _ _
  exact h

theorem State.armSwap_keeps {p : Part → Prop} {z s : State} (h : Keeps p z s) (ws : Int) (joint : Bool) (_ : p .deck := by first | assumption | decide) (_ : p .recs := by first | assumption | decide) (_ : p .intake := by first | assumption | decide) (_ : p .out := by first | assumption | decide) :
    Keeps p z (State.armSwap s ws joint).1 := by
  unfold State.armSwap
  extract_lets a1 a2 a3 a4 a5 a6 a7
  have ha6 : Keeps p z a6 := by
    unfold a6
    refine h.of
  clear_value a6
  have ha7 : Keeps p z a7 := by
    unfold a7
    refine Keeps.forEach (fun z10 s11 x12 h13 => ?_) ?_
    · refine State.retarget_keeps ?_ _
      exact h13
    · refine State.activateCams_keeps ?_ _ _ _
      exact ha6
  clear_value a7
  dsimp only
  refine State.notify_keeps ?_ _ _ _ _
  exact ha7

theorem State.enterCal_keeps {p : Part → Prop} {z s : State} (h : Keeps p z s)  (_ : p .sys := by first | assumption | decide) (_ : p .intake := by first | assumption | decide) (_ : p .cal := by first | assumption | decide) (_ : p .out := by first | assumption | decide) :
    Keeps p z (State.enterCal s) := by
  unfold State.enterCal
  extract_lets a1 a2 a3 a4 a5 a6
  have ha4 : Keeps p z a4 := by
    unfold a4
    refine h.of
  clear_value a4
  have ha5 : Keeps p z a5 := by
    unfold a5
    refine State.activateCams_keeps ?_ _ _ _
    exact ha4
  clear_value a5
  split
  · refine ha5.of
  · exact ha4

theorem execRingWriteTimeout_keeps {p : Part → Prop} {z s : State} (h : Keeps p z s) (overview : Bool) (_ : p .mem := by first | assumption | decide) (_ : p .codec := by first | assumption | decide) (_ : p .dram := by first | assumption | decide) :
    KeepsO p z (execRingWriteTimeout overview s) := by
  unfold execRingWriteTimeout
  refine KeepsO.next ?_
  refine State.closeGroup_keeps ?_ _ _
  exact h

theorem State.shedEval_keeps {p : Part → Prop} {z s : State} (h : Keeps p z s) (busyPercent : Nat) (ages : List Nat) (_ : p .recs := by first | assumption | decide) (_ : p .comb := by first | assumption | decide) :
    Keeps p z (State.shedEval s busyPercent ages) := by
  unfold State.shedEval
  extract_lets a1 a2 a3 a4 a5 a6
  have ha5 : Keeps p z a5 := by
    unfold a5
    refine h.of
  clear_value a5
  split
  · split
    · exact ha5
    · refine State.shedNote_keeps ?_ _ _
      refine ha5.of
  · split
    · split
      · split
        · refine h.of
        · refine State.shedNote_keeps ?_ _ _
          refine h.of
      · refine h.of
    · refine h.of

theorem State.commitDue_keeps {p : Part → Prop} {z s : State} (h : Keeps p z s) (c : Nat) (ser : Nat) (_ : p .intake := by first | assumption | decide) (_ : p .out := by first | assumption | decide) :
    Keeps p z (State.commitDue s c ser) := by
  unfold State.commitDue
  split
  · exact h
  · extract_lets a3
    have ha3 : Keeps p z a3 := by
      unfold a3
      split
      · split
        · refine State.startCommit_keeps ?_ _
          exact h
        · exact h
      · refine State.commitAtFrame_keeps ?_ _
        exact h
    clear_value a3
    refine State.deferLate_keeps ?_ _ _ _
    exact ha3

theorem State.recheck_keeps {p : Part → Prop} {z s : State} (h : Keeps p z s) (slot : Option Nat) (behind : Option Container) (_ : p .recs := by first | assumption | decide) :
    Keeps p z (State.recheck s slot behind).1 := by
  unfold State.recheck
  split
  · exact h
  · split
    · exact h
    · dsimp only
      refine State.notify_keeps ?_ _ _ _ _
      exact h

theorem State.activate_keeps {p : Part → Prop} {z s : State} (h : Keeps p z s) (slot : Nat) (_ : p .deck := by first | assumption | decide) (_ : p .trestle := by first | assumption | decide) (_ : p .pio := by first | assumption | decide) (_ : p .intake := by first | assumption | decide) (_ : p .cal := by first | assumption | decide) (_ : p .reg := by first | assumption | decide) (_ : p .comb := by first | assumption | decide) (_ : p .mon := by first | assumption | decide) (_ : p .vd := by first | assumption | decide) (_ : p .out := by first | assumption | decide) :
    Keeps p z (State.activate s slot) := by
  unfold State.activate
  extract_lets a1 a2 a3 a4 a5 a6 a7 a8 a9 a10 a11 a12
  have ha8 : Keeps p z a8 := by
    unfold a8
    refine h.of
  clear_value a8
  have ha9 : Keeps p z a9 := by
    unfold a9
    refine State.activateCams_keeps ?_ _ _ _
    exact ha8
  clear_value a9
  have ha12 : Keeps p z a12 := by
    unfold a12
    split
    · refine ha9.of
    · exact ha8
  clear_value a12
  refine State.sendPairInfo_keeps ?_
  refine State.activateTrestle_keeps ?_ _
  exact ha12

theorem execStripBreak_keeps {p : Part → Prop} {z s : State} (h : Keeps p z s)  (_ : p .intake := by first | assumption | decide) :
    KeepsO p z (execStripBreak s) := by
  unfold execStripBreak
  refine KeepsO.next ?_
  refine Keeps.forEach (fun z2 s3 x4 h5 => ?_) ?_
  · refine State.retarget_keeps ?_ _
    exact h5
  · refine State.strikeBreak_keeps ?_
    exact h

theorem execPos_keeps {p : Part → Prop} {z s : State} (h : Keeps p z s) (v0 : Int) (reverse : Bool) (overspeed : Bool) (freerun : Bool) (_ : p .recs := by first | assumption | decide) (_ : p .trestle := by first | assumption | decide) (_ : p .pos := by first | assumption | decide) (_ : p .vd := by first | assumption | decide) :
    KeepsO p z (execPos v0 reverse overspeed freerun s) := by
  unfold execPos
  split
  · refine KeepsO.next ?_
    exact h
  · extract_lets a4 a5 a6
    have ha6 : Keeps p z a6 := by
      unfold a6
      refine h.of
    clear_value a6
    refine KeepsO.next ?_
    refine State.forwardReverse_keeps ?_ _
    exact ha6

theorem State.inputRetired_keeps {p : Part → Prop} {z s : State} (h : Keeps p z s) (inst : Nat) (_ : p .pos := by first | assumption | decide) (_ : p .vd := by first | assumption | decide) (_ : p .out := by first | assumption | decide) :
    Keeps p z (State.inputRetired s inst) := by
  unfold State.inputRetired
  split
  · exact h
  · split
    · exact h
    · split
      · refine h.of
      · refine State.posChange_keeps ?_ _
        refine h.of

theorem execSpdRefreshTimer_keeps {p : Part → Prop} {z s : State} (h : Keeps p z s)  (_ : p .net := by first | assumption | decide) (_ : p .out := by first | assumption | decide) :
    KeepsO p z (execSpdRefreshTimer s) := by
  unfold execSpdRefreshTimer
  extract_lets a1
  refine KeepsO.next ?_
  refine State.sendSpeed_keeps ?_ _ _ _ _
  exact h

theorem execStallTimeout_keeps {p : Part → Prop} {z s : State} (h : Keeps p z s) (t : Nat) (_ : p .pos := by first | assumption | decide) (_ : p .vd := by first | assumption | decide) (_ : p .net := by first | assumption | decide) (_ : p .now := by first | assumption | decide) (_ : p .out := by first | assumption | decide) :
    KeepsO p z (execStallTimeout t s) := by
  unfold execStallTimeout
  split
  · refine KeepsO.next ?_
    exact h
  · extract_lets a4
    have ha4 : Keeps p z a4 := by
      unfold a4
      refine State.advance_keeps ?_ _
      exact h
    clear_value a4
    refine KeepsO.next ?_
    refine State.posChange_keeps ?_ _
    refine State.backlogFlag_keeps ?_
    refine ha4.of

theorem State.rowForce_keeps {p : Part → Prop} {z s : State} (h : Keeps p z s) (d : Container) (l : LineSlot) (j : Nat) (_ : p .recs := by first | assumption | decide) (_ : p .trestle := by first | assumption | decide) (_ : p .reg := by first | assumption | decide) :
    Keeps p z (State.rowForce s d l j) := by
  unfold State.rowForce
  extract_lets a1 a2 a3 a4 a5 a6 a7 a8 a9 a10 a11 a12 a13 a14
  have ha11 : Keeps p z a11 := by
    unfold a11
    refine h.of
  clear_value a11
  have ha14 : Keeps p z a14 := by
    unfold a14
    refine h.of
  clear_value a14
  split
  · refine h.of
  · split
    · split
      · refine State.notifyIn_keeps ?_ _ _ _ _ _ _ _ _
        exact ha11
      · refine h.of
    · split
      · refine State.loseLock_keeps ?_ _ _
        exact ha14
      · exact ha14

theorem State.markMissed_keeps {p : Part → Prop} {z s : State} (h : Keeps p z s) (m : Nat) (dec : MarkDecision) (why : Nat) (_ : p .recs := by first | assumption | decide) (_ : p .mark := by first | assumption | decide) :
    Keeps p z (State.markMissed s m dec why) := by
  unfold State.markMissed
  refine State.notify_keeps ?_ _ _ _ _
  refine State.updMarker_keeps ?_ _ _
  exact h

theorem State.dmaAborted_keeps {p : Part → Prop} {z s : State} (h : Keeps p z s) (c : Nat) (_ : p .mem := by first | assumption | decide) (_ : p .hif := by first | assumption | decide) (_ : p .dma := by first | assumption | decide) (_ : p .out := by first | assumption | decide) :
    Keeps p z (State.dmaAborted s c) := by
  unfold State.dmaAborted
  extract_lets a1 a2
  have ha2 : Keeps p z a2 := by
    unfold a2
    split
    · refine State.dmaBack_keeps ?_ _ _ _
      exact h
    · exact h
  clear_value a2
  refine State.dmaIrq_keeps ?_ _
  refine State.updDma_keeps ?_ _ _
  exact ha2

theorem execHelloTimer_keeps {p : Part → Prop} {z s : State} (h : Keeps p z s)  (_ : p .net := by first | assumption | decide) (_ : p .out := by first | assumption | decide) :
    KeepsO p z (execHelloTimer s) := by
  unfold execHelloTimer
  extract_lets a1 a2
  refine KeepsO.next ?_
  split
  · exact h
  · refine State.sendHello_keeps ?_ _ _
    exact h

theorem State.derateTo_keeps {p : Part → Prop} {z s : State} (h : Keeps p z s) (n : Nat) (_ : p .recs := by first | assumption | decide) (_ : p .power := by first | assumption | decide) :
    Keeps p z (State.derateTo s n) := by
  unfold State.derateTo
  refine State.notify_keeps ?_ _ _ _ _
  refine h.of

theorem State.bootNotify_keeps {p : Part → Prop} {z s : State} (h : Keeps p z s) (mismatch : Bool) (_ : p .recs := by first | assumption | decide) (_ : p .fw := by first | assumption | decide) :
    Keeps p z (State.bootNotify s mismatch) := by
  unfold State.bootNotify
  extract_lets a1 a2 a3 a4
  have ha2 : Keeps p z a2 := by
    unfold a2
    refine Keeps.foldl (fun z6 s7 x8 h9 => ?_) ?_
    · refine State.notify_keeps ?_ _ _ _ _
      exact h9
    · refine h.of
  clear_value a2
  have ha3 : Keeps p z a3 := by
    unfold a3
    split
    · exact ha2
    · refine State.notify_keeps ?_ _ _ _ _
      exact ha2
  clear_value a3
  have ha4 : Keeps p z a4 := by
    unfold a4
    split
    · refine State.notify_keeps ?_ _ _ _ _
      exact ha3
    · exact ha3
  clear_value a4
  refine State.notify_keeps ?_ _ _ _ _
  exact ha4

theorem State.disableRing_keeps {p : Part → Prop} {z s : State} (h : Keeps p z s) (k : Nat) (_ : p .mem := by first | assumption | decide) (_ : p .hif := by first | assumption | decide) (_ : p .recs := by first | assumption | decide) (_ : p .dram := by first | assumption | decide) (_ : p .out := by first | assumption | decide) :
    Keeps p z (State.disableRing s k) := by
  unfold State.disableRing
  extract_lets a1
  have ha1 : Keeps p z a1 := by
    unfold a1
    refine State.writeRecord_keeps ?_ _
    exact h
  clear_value a1
  refine State.updRing_keeps ?_ _ _
  exact ha1

theorem execMarkerActivate_keeps {p : Part → Prop} {z s : State} (h : Keeps p z s) (m : Nat) (_ : p .mark := by first | assumption | decide) (_ : p .out := by first | assumption | decide) :
    KeepsO p z (execMarkerActivate m s) := by
  unfold execMarkerActivate
  extract_lets a1
  refine KeepsO.next ?_
  refine State.markStarts_keeps ?_ _ _
  refine State.updMarker_keeps ?_ _ _
  exact h

theorem execHello_keeps {p : Part → Prop} {z s : State} (h : Keeps p z s) (srcAddr : Nat) (pmajor : Nat) (pminor : Nat) (len : Nat) (hifVersion : Nat) (reply : Bool) (_ : p .net := by first | assumption | decide) (_ : p .out := by first | assumption | decide) :
    KeepsO p z (execHello srcAddr pmajor pminor len hifVersion reply s) := by
  unfold execHello
  split
  · refine KeepsO.next ?_
    exact h
  · split
    · refine KeepsO.next ?_
      refine State.peerDropped_keeps ?_
      exact h
    · extract_lets a8 a9 a10
      have ha10 : Keeps p z a10 := by
        unfold a10
        refine h.of
      clear_value a10
      refine KeepsO.next ?_
      split
      · exact ha10
      · refine State.sendHello_keeps ?_ _ _
        exact ha10

theorem execIrqStatusClear_keeps {p : Part → Prop} {z s : State} (h : Keeps p z s) (value : Word) (same : Word) (_ : p .hif := by first | assumption | decide) (_ : p .out := by first | assumption | decide) :
    KeepsO p z (execIrqStatusClear value s same) := by
  unfold execIrqStatusClear
  refine KeepsO.next ?_
  refine State.raiseAll_keeps ?_ _
  refine h.of

theorem execTrain_keeps {p : Part → Prop} {z s : State} (h : Keeps p z s) (version : Nat) (role : Nat) (goodMask : Nat) (chipId : Nat) (ownGoodMask : Nat) (rttNs : Nat) (stamp : Nat) (_ : p .recs := by first | assumption | decide) (_ : p .vd := by first | assumption | decide) (_ : p .out := by first | assumption | decide) :
    KeepsO p z (execTrain version role goodMask chipId ownGoodMask rttNs stamp s) := by
  unfold execTrain
  split
  · refine KeepsO.next ?_
    exact h
  · extract_lets a4 a5 a6 a7 a8 a9
    have ha8 : Keeps p z a8 := by
      unfold a8
      refine h.of
    clear_value a8
    have ha9 : Keeps p z a9 := by
      unfold a9
      refine State.sendVd_keeps ?_ _ _
      exact ha8
    clear_value a9
    split
    · refine KeepsO.next ?_
      refine h.of
    · split
      · refine KeepsO.next ?_
        split
        · refine h.of
        · refine h.of
      · refine KeepsO.next ?_
        refine State.sendPairInfo_keeps ?_
        refine State.notify_keeps ?_ _ _ _ _
        exact ha9

theorem execExposureSet_keeps {p : Part → Prop} {z s : State} (h : Keeps p z s) (q : Req) (e : ExposureReq) (_ : p .mbx := by first | assumption | decide) (_ : p .intake := by first | assumption | decide) (_ : p .out := by first | assumption | decide) :
    KeepsO p z (execExposureSet q e s) := by
  unfold execExposureSet
  refine runCmd_keeps ?_ _ _ _ _ _ _ ?_
  · exact h
  · intro x3
    refine exposureEffect_keeps ?_ _
    exact h

theorem execRegisterWrite_keeps {p : Part → Prop} {z s : State} (h : Keeps p z s) (offset : Nat) (value : Word) (_ : p .mbx := by first | assumption | decide) (_ : p .hif := by first | assumption | decide) (_ : p .recs := by first | assumption | decide) (_ : p .dma := by first | assumption | decide) (_ : p .out := by first | assumption | decide) :
    KeepsO p z (execRegisterWrite offset value s) := by
  unfold execRegisterWrite
  extract_lets a1 a2 a3
  split
  · exact KeepsO.fault _ _
  · split
    · refine KeepsO.next ?_
      refine h.of
    · split
      · refine State.ringRegWrite_keeps ?_ _ _ _
        exact h
      · split
        · split
          · exact KeepsO.fault _ _
          · refine KeepsO.next ?_
            refine h.of
        · split
          · split
            · exact KeepsO.fault _ _
            · refine KeepsO.next ?_
              split
              · refine State.updMbx_keeps ?_ _ _
                exact h
              · exact h
          · split
            · exact KeepsO.fault _ _
            · split
              · refine KeepsO.next ?_
                refine State.msixWrite_keeps ?_ _ _
                exact h
              · split
                · refine State.bufWrite_keeps ?_ _ _
                  exact h
                · refine KeepsO.next ?_
                  exact h

theorem execIrqForce_keeps {p : Part → Prop} {z s : State} (h : Keeps p z s) (value : Word) (_ : p .hif := by first | assumption | decide) (_ : p .out := by first | assumption | decide) :
    KeepsO p z (execIrqForce value s) := by
  unfold execIrqForce
  refine KeepsO.next ?_
  refine State.raiseAll_keeps ?_ _
  exact h

theorem State.posStep_keeps {p : Part → Prop} {z s : State} (h : Keeps p z s) (n : Int) (_ : p .recs := by first | assumption | decide) (_ : p .trestle := by first | assumption | decide) (_ : p .pos := by first | assumption | decide) (_ : p .vd := by first | assumption | decide) (_ : p .out := by first | assumption | decide) :
    Keeps p z (State.posStep s n) := by
  unfold State.posStep
  split
  · exact h
  · extract_lets a3
    refine State.posChange_keeps ?_ _
    refine State.reverseCheck_keeps ?_ _
    refine State.backlogFlag_keeps ?_
    refine h.of

theorem execBrownoutRelease_keeps {p : Part → Prop} {z s : State} (h : Keeps p z s)  (_ : p .recs := by first | assumption | decide) (_ : p .print := by first | assumption | decide) (_ : p .power := by first | assumption | decide) :
    KeepsO p z (execBrownoutRelease s) := by
  unfold execBrownoutRelease
  split
  · refine KeepsO.next ?_
    exact h
  · extract_lets a4 a5 a6
    have ha5 : Keeps p z a5 := by
      unfold a5
      refine h.of
    clear_value a5
    have ha6 : Keeps p z a6 := by
      unfold a6
      refine Keeps.foldl (fun z9 s10 x11 h12 => ?_) ?_
      · refine State.updHead_keeps ?_ _ _
        exact h12
      · exact ha5
    clear_value a6
    refine KeepsO.next ?_
    refine State.notify_keeps ?_ _ _ _ _
    exact ha6

theorem State.complete_keeps {p : Part → Prop} {z s : State} (h : Keeps p z s) (r : Running) (st : Status) (detail : Nat) (_ : p .keeper := by first | assumption | decide) (_ : p .recs := by first | assumption | decide) (_ : p .net := by first | assumption | decide) (_ : p .out := by first | assumption | decide) :
    Keeps p z (State.complete s r st detail) := by
  unfold State.complete
  extract_lets a1 a2 a3
  have ha2 : Keeps p z a2 := by
    unfold a2
    refine h.of
  clear_value a2
  have ha3 : Keeps p z a3 := by
    unfold a3
    refine State.notify_keeps ?_ _ _ _ _
    exact ha2
  clear_value a3
  split
  · refine State.sendPeer_keeps ?_ _ _ _ _
    exact ha3
  · exact ha3

theorem State.swapBegins_keeps {p : Part → Prop} {z s : State} (h : Keeps p z s) (w : Swap) (_ : p .deck := by first | assumption | decide) (_ : p .recs := by first | assumption | decide) :
    Keeps p z (State.swapBegins s w) := by
  unfold State.swapBegins
  split
  · exact h
  · refine State.notify_keeps ?_ _ _ _ _
    refine h.of

theorem State.cancelSwap_keeps {p : Part → Prop} {z s : State} (h : Keeps p z s)  (_ : p .deck := by first | assumption | decide) (_ : p .recs := by first | assumption | decide) (_ : p .intake := by first | assumption | decide) (_ : p .print := by first | assumption | decide) :
    Keeps p z (State.cancelSwap s) := by
  unfold State.cancelSwap
  extract_lets coming target d1 d2 d3 s1 back
  have h1 : Keeps p z s1 := h.of (hc := by show (List.map _ _).length = _; rw [List.length_map])
  have hb : ∀ {z' s' : State} (x : Nat), Keeps p z' s' → Keeps p z' (back s' x) := by
    intro z' s' x h'
    exact Keeps.ite (State.startHead_keeps h' _ _) h'
  exact State.notify_keeps (Keeps.foldl (fun z' s' x h' => hb x h') (Keeps.forEach (fun z' s' x h' => State.retarget_keeps h' _) h1)) _ _ _ _

theorem State.endLossRun_keeps {p : Part → Prop} {z s : State} (h : Keeps p z s) (k : Nat) (run : Option (Nat × Nat)) (_ : p .recs := by first | assumption | decide) :
    Keeps p z (State.endLossRun s k run) := by
  unfold State.endLossRun
  split
  · exact h
  · split
    · exact h
    · refine State.notify_keeps ?_ _ _ _ _
      exact h

theorem execDeckArmSwap_keeps {p : Part → Prop} {z s : State} (h : Keeps p z s) (q : Req) (ws : Int) (_ : p .mbx := by first | assumption | decide) (_ : p .deck := by first | assumption | decide) (_ : p .recs := by first | assumption | decide) (_ : p .intake := by first | assumption | decide) (_ : p .vd := by first | assumption | decide) (_ : p .out := by first | assumption | decide) :
    KeepsO p z (execDeckArmSwap q ws s) := by
  unfold execDeckArmSwap
  extract_lets a1 a2
  split
  · refine KeepsO.next ?_
    refine State.askPeer_keeps ?_ _ _ _ _
    exact h
  · refine runCmd_keeps ?_ _ _ _ _ _ _ ?_
    · exact h
    · intro x10
      refine State.armSwap_keeps ?_ _ _
      exact h

theorem State.dmaGoesOn_keeps {p : Part → Prop} {z s : State} (h : Keeps p z s) (ch : Nat) (k : DmaChan) (held : Bool) (_ : p .mem := by first | assumption | decide) (_ : p .hif := by first | assumption | decide) (_ : p .dma := by first | assumption | decide) (_ : p .out := by first | assumption | decide) :
    KeepsO p z (State.dmaGoesOn s ch k held) := by
  unfold State.dmaGoesOn
  split
  · refine KeepsO.next ?_
    refine State.updDma_keeps ?_ _ _
    exact h
  · split
    · refine State.dmaFetch_keeps ?_ _
      exact h
    · split
      · refine KeepsO.next ?_
        refine State.dmaAborted_keeps ?_ _
        exact h
      · refine KeepsO.next ?_
        refine State.dmaIrq_keeps ?_ _
        refine State.updDma_keeps ?_ _ _
        exact h

theorem execFirmwareDmaDone_keeps {p : Part → Prop} {z s : State} (h : Keeps p z s)  (_ : p .mem := by first | assumption | decide) (_ : p .keeper := by first | assumption | decide) (_ : p .recs := by first | assumption | decide) (_ : p .net := by first | assumption | decide) (_ : p .free := by first | assumption | decide) (_ : p .out := by first | assumption | decide) :
    KeepsO p z (execFirmwareDmaDone s) := by
  unfold execFirmwareDmaDone
  split
  · refine KeepsO.next ?_
    exact h
  · split
    · extract_lets a5
      refine KeepsO.next ?_
      split
      · refine State.complete_keeps ?_ _ _ _
        refine State.drawn_keeps ?_
        refine State.write_keeps ?_ _ _
        exact h
      · refine State.complete_keeps ?_ _ _ _
        refine State.drawn_keeps ?_
        exact h
    · refine KeepsO.next ?_
      exact h

theorem State.markDecide_keeps {p : Part → Prop} {z s : State} (h : Keeps p z s) (m : Nat) (dec : MarkDecision) (_ : p .recs := by first | assumption | decide) (_ : p .mark := by first | assumption | decide) (_ : p .out := by first | assumption | decide) :
    Keeps p z (State.markDecide s m dec) := by
  unfold State.markDecide
  split
  · exact h
  · split
    · refine State.markMissed_keeps ?_ _ _ _
      exact h
    · split
      · refine State.markStart_keeps ?_ _ _
        refine State.updMarker_keeps ?_ _ _
        exact h
      · split
        · refine State.markMissed_keeps ?_ _ _ _
          exact h
        · refine State.updMarker_keeps ?_ _ _
          exact h

theorem State.regLine_keeps {p : Part → Prop} {z s : State} (h : Keeps p z s) (ser : Nat) (l : LineSlot) (_ : p .recs := by first | assumption | decide) (_ : p .trestle := by first | assumption | decide) (_ : p .reg := by first | assumption | decide) (_ : p .cmp := by first | assumption | decide) :
    Keeps p z (State.regLine s ser l) := by
  unfold State.regLine
  extract_lets a1 a2 a3 a4 a5
  have ha4 : Keeps p z a4 := by
    unfold a4
    refine h.of
  clear_value a4
  have ha5 : Keeps p z a5 := by
    unfold a5
    split
    · refine State.loseLock_keeps ?_ _ _
      exact ha4
    · exact ha4
  clear_value a5
  split
  · exact ha5
  · extract_lets a14 a15 a16 a17 a18
    have ha14 : Keeps p z a14 := by
      unfold a14
      split
      · exact ha5
      · refine State.stretchTest_keeps ?_ _ _ _
        exact ha5
    clear_value a14
    have ha15 : Keeps p z a15 := by
      unfold a15
      split
      · split
        · exact ha14
        · refine State.rowForce_keeps ?_ _ _ _
          exact ha14
      · exact ha14
    clear_value a15
    refine ha15.of

theorem execTempEvaluation_keeps {p : Part → Prop} {z s : State} (h : Keeps p z s) (sensors : List Int) (_ : p .recs := by first | assumption | decide) (_ : p .power := by first | assumption | decide) :
    KeepsO p z (execTempEvaluation sensors s) := by
  unfold execTempEvaluation
  split
  · refine KeepsO.next ?_
    refine h.of
  · split
    · refine KeepsO.next ?_
      exact h
    · extract_lets a7 a8 a9 a10 a11
      have ha10 : Keeps p z a10 := by
        unfold a10
        refine h.of
      clear_value a10
      refine KeepsO.next ?_
      split
      · split
        · refine State.derateTo_keeps ?_ _
          exact ha10
        · refine ha10.of
      · split
        · split
          · refine State.derateTo_keeps ?_ _
            exact ha10
          · refine ha10.of
        · refine ha10.of

theorem State.chipDone_keeps {p : Part → Prop} {z s : State} (h : Keeps p z s) (v1 : Nat) (code : Nat) (st : Status) (detail : Nat) (_ : p .keeper := by first | assumption | decide) (_ : p .recs := by first | assumption | decide) (_ : p .net := by first | assumption | decide) (_ : p .out := by first | assumption | decide) :
    Keeps p z (State.chipDone s v1 code st detail) := by
  unfold State.chipDone
  split
  · split
    · refine State.complete_keeps ?_ _ _ _
      exact h
    · exact h
  · exact h

theorem execRingConfigWrite_keeps {p : Part → Prop} {z s : State} (h : Keeps p z s) (ring : Nat) (offset : Nat) (value : Word) (_ : p .mem := by first | assumption | decide) (_ : p .hif := by first | assumption | decide) (_ : p .recs := by first | assumption | decide) (_ : p .dram := by first | assumption | decide) (_ : p .out := by first | assumption | decide) :
    KeepsO p z (execRingConfigWrite ring offset value s) := by
  have hu : ∀ f, KeepsO p z (.next (s.updRing ring f)) := fun f => KeepsO.next (State.updRing_keeps h _ f)
  have hf : ∀ n, KeepsO p z (.fault (.misuse n)) := fun n => KeepsO.fault _ _
  unfold execRingConfigWrite
  extract_lets r v cfgerr
  have hc : KeepsO p z cfgerr := hu _
  by_cases h8 : ring ≥ 8
  · rw [if_pos h8]; exact KeepsO.next h
  rw [if_neg h8]
  by_cases h0 : offset = 0x00
  · rw [if_pos h0]
    by_cases a : v % 64 ≠ 0
    · rw [if_pos a]; exact hf _
    rw [if_neg a]
    by_cases b : r.sizeLog2 ≠ 0
    · rw [if_pos b]; exact hc
    rw [if_neg b]; exact hu _
  rw [if_neg h0]
  by_cases h4 : offset = 0x04
  · rw [if_pos h4]
    by_cases a : v ≥ 256
    · rw [if_pos a]; exact hf _
    rw [if_neg a]
    by_cases b : r.sizeLog2 ≠ 0
    · rw [if_pos b]; exact hc
    rw [if_neg b]; exact hu _
  rw [if_neg h4]
  by_cases h9 : offset = 0x08
  · rw [if_pos h9]
    by_cases a : v ≥ 32
    · rw [if_pos a]; exact hf _
    rw [if_neg a]
    by_cases b : v = 0
    · rw [if_pos b]
      by_cases c : r.sizeLog2 = 0
      · rw [if_pos c]; exact KeepsO.next h
      · rw [if_neg c]; exact KeepsO.next (State.disableRing_keeps h _)
    rw [if_neg b]
    by_cases c : r.sizeLog2 ≠ 0
    · rw [if_pos c]; exact hc
    rw [if_neg c]
    by_cases d : v < 6 ∨ v > 20 ∨ !s.ringInDram r v
    · rw [if_pos d]; exact hf _
    rw [if_neg d]; exact hu _
  rw [if_neg h9]; exact KeepsO.next h

theorem State.stationDone_keeps {p : Part → Prop} {z s : State} (h : Keeps p z s) (st : Station) (_ : p .deck := by first | assumption | decide) (_ : p .recs := by first | assumption | decide) :
    Keeps p z (State.stationDone s st) := by
  unfold State.stationDone
  split
  · exact h
  · extract_lets a3 a4 a5 a6 a7 a8 a9
    have ha4 : Keeps p z a4 := by
      unfold a4
      refine State.swapBegins_keeps ?_ _
      exact h
    clear_value a4
    have ha8 : Keeps p z a8 := by
      unfold a8
      refine ha4.of
    clear_value a8
    split
    · refine State.notify_keeps ?_ _ _ _ _
      refine ha8.of
    · exact ha8

theorem State.armAnswer_keeps {p : Part → Prop} {z s : State} (h : Keeps p z s) (q : Req) (ws : Int) (status : Nat) (detail : Nat) (lmin : Nat) (_ : p .mbx := by first | assumption | decide) (_ : p .deck := by first | assumption | decide) (_ : p .recs := by first | assumption | decide) (_ : p .intake := by first | assumption | decide) (_ : p .vd := by first | assumption | decide) (_ : p .out := by first | assumption | decide) :
    Keeps p z (State.armAnswer s q ws status detail lmin) := by
  unfold State.armAnswer
  split
  · refine State.respond_keeps ?_ _ _ _
    exact h
  · split
    · refine State.respond_keeps ?_ _ _ _
      exact h
    · split
      · refine State.respond_keeps ?_ _ _ _
        exact h
      · split
        · refine State.respond_keeps ?_ _ _ _
          exact h
        · split
          · refine State.respond_keeps ?_ _ _ _
            refine State.askPeer_keeps ?_ _ _ _ _
            exact h
          · refine State.respond_keeps ?_ _ _ _
            refine State.armSwap_keeps ?_ _ _
            exact h

theorem State.abortFor_keeps {p : Part → Prop} {z s : State} (h : Keeps p z s) (mbx : Nat) (_ : p .mbx := by first | assumption | decide) (_ : p .keeper := by first | assumption | decide) (_ : p .deck := by first | assumption | decide) (_ : p .recs := by first | assumption | decide) (_ : p .net := by first | assumption | decide) (_ : p .fw := by first | assumption | decide) (_ : p .out := by first | assumption | decide) :
    Keeps p z (State.abortFor s mbx).1 := by
  unfold State.abortFor
  split
  · split
    · dsimp only
      refine State.abortRequest_keeps ?_ _ _
      exact h
    · exact h
  · split
    · split
      · dsimp only
        refine State.complete_keeps ?_ _ _ _
        refine h.of
      · exact h
    · split
      · exact h
      · exact h

theorem State.completeCode_keeps {p : Part → Prop} {z s : State} (h : Keeps p z s) (code : Nat) (st : Status) (detail : Nat) (_ : p .keeper := by first | assumption | decide) (_ : p .recs := by first | assumption | decide) (_ : p .net := by first | assumption | decide) (_ : p .out := by first | assumption | decide) :
    Keeps p z (State.completeCode s code st detail) := by
  unfold State.completeCode
  split
  · exact h
  · refine State.complete_keeps ?_ _ _ _
    exact h

theorem State.dmaFlr_keeps {p : Part → Prop} {z s : State} (h : Keeps p z s) (c : Nat) (_ : p .mem := by first | assumption | decide) (_ : p .hif := by first | assumption | decide) (_ : p .dma := by first | assumption | decide) (_ : p .out := by first | assumption | decide) :
    Keeps p z (State.dmaFlr s c) := by
  unfold State.dmaFlr
  extract_lets a1
  split
  · refine State.updDma_keeps ?_ _ _
    exact h
  · split
    · refine State.dmaAborted_keeps ?_ _
      refine State.updDma_keeps ?_ _ _
      exact h
    · refine State.updDma_keeps ?_ _ _
      exact h

theorem execDmaDrainDone_keeps {p : Part → Prop} {z s : State} (h : Keeps p z s) (ch : Nat) (done : Nat) (_ : p .mem := by first | assumption | decide) (_ : p .hif := by first | assumption | decide) (_ : p .comb := by first | assumption | decide) (_ : p .dma := by first | assumption | decide) (_ : p .fault := by first | assumption | decide) (_ : p .free := by first | assumption | decide) (_ : p .out := by first | assumption | decide) :
    KeepsO p z (execDmaDrainDone ch done s) := by
  unfold execDmaDrainDone
  extract_lets a1 a2
  have ha2 : Keeps p z a2 := by
    unfold a2
    split
    · exact h
    · extract_lets a6 a7
      have ha7 : Keeps p z a7.1 := by
        unfold a7
        refine State.dmaApply_keeps ?_ _ _ _ _
        exact h
      clear_value a7
      refine State.updDma_keeps ?_ _ _
      refine State.drawn_keeps ?_
      exact ha7
  clear_value a2
  split
  · refine KeepsO.next ?_
    exact h
  · split
    · refine KeepsO.next ?_
      refine State.dmaAborted_keeps ?_ _
      exact ha2
    · refine KeepsO.next ?_
      refine State.dmaIrq_keeps ?_ _
      refine State.updDma_keeps ?_ _ _
      exact ha2

theorem execDeckCancelSwap_keeps {p : Part → Prop} {z s : State} (h : Keeps p z s) (q : Req) (_ : p .mbx := by first | assumption | decide) (_ : p .deck := by first | assumption | decide) (_ : p .recs := by first | assumption | decide) (_ : p .intake := by first | assumption | decide) (_ : p .print := by first | assumption | decide) (_ : p .vd := by first | assumption | decide) (_ : p .out := by first | assumption | decide) :
    KeepsO p z (execDeckCancelSwap q s) := by
  unfold execDeckCancelSwap
  extract_lets a1 a2
  refine runCmd_keeps ?_ _ _ _ _ _ _ ?_
  · exact h
  · intro x6
    dsimp only
    split
    · refine State.askPeer_keeps ?_ _ _ _ _
      refine State.cancelSwap_keeps ?_
      exact h
    · refine State.cancelSwap_keeps ?_
      exact h

theorem State.motionDone_keeps {p : Part → Prop} {z s : State} (h : Keeps p z s)  (_ : p .keeper := by first | assumption | decide) (_ : p .recs := by first | assumption | decide) (_ : p .motion := by first | assumption | decide) (_ : p .net := by first | assumption | decide) (_ : p .out := by first | assumption | decide) :
    Keeps p z (State.motionDone s) := by
  unfold State.motionDone
  extract_lets a1 a2 a3
  have ha1 : Keeps p z a1 := by
    unfold a1
    split
    · split
      · refine State.complete_keeps ?_ _ _ _
        exact h
      · exact h
    · exact h
  clear_value a1
  have ha2 : Keeps p z a2 := by
    unfold a2
    split
    · split
      · split
        · refine State.complete_keeps ?_ _ _ _
          exact ha1
        · refine State.complete_keeps ?_ _ _ _
          exact ha1
      · exact ha1
    · exact ha1
  clear_value a2
  split
  · split
    · refine State.notify_keeps ?_ _ _ _ _
      refine ha2.of
    · exact ha2
  · exact ha2

theorem State.takeProfile_keeps {p : Part → Prop} {z s : State} (h : Keeps p z s)  (_ : p .deck := by first | assumption | decide) (_ : p .profile := by first | assumption | decide) (_ : p .recs := by first | assumption | decide) (_ : p .net := by first | assumption | decide) (_ : p .out := by first | assumption | decide) :
    Keeps p z (State.takeProfile s) := by
  unfold State.takeProfile
  split
  · exact h
  · extract_lets a3 a4 a5 a6 a7 a8 a9 a10 a11 a12
    have ha4 : Keeps p z a4 := by
      unfold a4
      refine h.of
    clear_value a4
    have ha5 : Keeps p z a5 := by
      unfold a5
      refine State.assignTargets_keeps ?_
      exact ha4
    clear_value a5
    have ha6 : Keeps p z a6.1 := by
      unfold a6
      refine State.recheck_keeps ?_ _ _
      exact ha5
    clear_value a6
    have ha7 : Keeps p z a7 := by
      unfold a7
      exact ha6
    have ha9 : Keeps p z a9 := by
      unfold a9
      split
      · refine ha7.of
      · exact ha7
    clear_value a9
    have ha10 : Keeps p z a10.1 := by
      unfold a10
      refine State.recheck_keeps ?_ _ _
      exact ha9
    clear_value a10
    have ha11 : Keeps p z a11 := by
      unfold a11
      exact ha10
    split
    · refine ha11.of
    · exact ha11

theorem State.learnEnds_keeps {p : Part → Prop} {z s : State} (h : Keeps p z s) (st : Status) (detail : Nat) (_ : p .mem := by first | assumption | decide) (_ : p .keeper := by first | assumption | decide) (_ : p .recs := by first | assumption | decide) (_ : p .reg := by first | assumption | decide) (_ : p .codec := by first | assumption | decide) :
    Keeps p z (State.learnEnds s st detail) := by
  unfold State.learnEnds
  split
  · exact h
  · extract_lets a3 a4 a5
    have ha4 : Keeps p z a4 := by
      unfold a4
      refine h.of
    clear_value a4
    have ha5 : Keeps p z a5 := by
      unfold a5
      refine State.resizeRing_keeps ?_
      refine State.updRef_keeps ?_ _ _
      exact ha4
    clear_value a5
    refine State.refFailed_keeps ?_ _ _ _
    refine State.endRunning_keeps ?_ _
    exact ha5

theorem execRefCommitDone_keeps {p : Part → Prop} {z s : State} (h : Keeps p z s)  (_ : p .keeper := by first | assumption | decide) (_ : p .recs := by first | assumption | decide) (_ : p .reg := by first | assumption | decide) :
    KeepsO p z (execRefCommitDone s) := by
  unfold execRefCommitDone
  split
  · refine KeepsO.next ?_
    exact h
  · extract_lets a4 a5 a6 a7
    have ha7 : Keeps p z a7 := by
      unfold a7
      refine State.endRunning_keeps ?_ _
      exact h
    clear_value a7
    split
    · exact KeepsO.fault _ _
    · refine KeepsO.next ?_
      refine State.refReady_keeps ?_ _
      refine State.updRef_keeps ?_ _ _
      exact ha7
    · refine KeepsO.next ?_
      refine State.refFailed_keeps ?_ _ _ _
      refine State.updRef_keeps ?_ _ _
      exact ha7

theorem execShedEvaluation_keeps {p : Part → Prop} {z s : State} (h : Keeps p z s) (busyPercent : Nat) (ages : List Nat) (_ : p .recs := by first | assumption | decide) (_ : p .comb := by first | assumption | decide) :
    KeepsO p z (execShedEvaluation busyPercent ages s) := by
  unfold execShedEvaluation
  refine KeepsO.next ?_
  refine State.shedEval_keeps ?_ _ _
  exact h

theorem execFwWriteDone_keeps {p : Part → Prop} {z s : State} (h : Keeps p z s)  (_ : p .keeper := by first | assumption | decide) (_ : p .recs := by first | assumption | decide) (_ : p .net := by first | assumption | decide) (_ : p .fw := by first | assumption | decide) (_ : p .out := by first | assumption | decide) :
    KeepsO p z (execFwWriteDone s) := by
  unfold execFwWriteDone
  split
  · extract_lets a2 a3 a4 a5 a6 a7
    have ha4 : Keeps p z a4 := by
      unfold a4
      refine State.updFw_keeps ?_ _ _
      exact h
    have ha6 : Keeps p z a6 := by
      unfold a6
      refine ha4.of
    clear_value a6
    split
    · split
      · refine KeepsO.next ?_
        refine State.complete_keeps ?_ _ _ _
        refine State.updFw_keeps ?_ _ _
        exact ha6
      · refine KeepsO.next ?_
        refine State.complete_keeps ?_ _ _ _
        refine State.updFw_keeps ?_ _ _
        exact ha6
    · refine KeepsO.next ?_
      refine State.complete_keeps ?_ _ _ _
      exact ha6
  · refine KeepsO.next ?_
    exact h

theorem execSpeedEvaluation_keeps {p : Part → Prop} {z s : State} (h : Keeps p z s)  (_ : p .cal := by first | assumption | decide) (_ : p .print := by first | assumption | decide) (_ : p .net := by first | assumption | decide) (_ : p .free := by first | assumption | decide) (_ : p .out := by first | assumption | decide) :
    KeepsO p z (execSpeedEvaluation s) := by
  unfold execSpeedEvaluation
  refine KeepsO.next ?_
  refine State.deliverRequest_keeps ?_
  split
  · refine State.evalLevels_keeps ?_ _
    exact h
  · exact h

theorem State.postRing_keeps {p : Part → Prop} {z s : State} (h : Keeps p z s) (k : Nat) (rec : Rec) (_ : p .recs := by first | assumption | decide) :
    Keeps p z (State.postRing s k rec) := by
  unfold State.postRing
  split
  · refine State.postTo_keeps ?_ _ _
    exact h
  · refine State.endLossRun_keeps ?_ _ _
    refine State.postTo_keeps ?_ _ _
    exact h

theorem execDmaAbort_keeps {p : Part → Prop} {z s : State} (h : Keeps p z s) (ch : Nat) (_ : p .mem := by first | assumption | decide) (_ : p .hif := by first | assumption | decide) (_ : p .dma := by first | assumption | decide) (_ : p .out := by first | assumption | decide) :
    KeepsO p z (execDmaAbort ch s) := by
  unfold execDmaAbort
  extract_lets a1
  split
  · refine KeepsO.next ?_
    exact h
  · split
    · refine KeepsO.next ?_
      refine State.updDma_keeps ?_ _ _
      exact h
    · split
      · refine KeepsO.next ?_
        refine State.dmaAborted_keeps ?_ _
        exact h
      · refine KeepsO.next ?_
        refine State.updDma_keeps ?_ _ _
        exact h

theorem State.moveEnded_keeps {p : Part → Prop} {z s : State} (h : Keeps p z s) (m : Move) (reached : Bool) (_ : p .keeper := by first | assumption | decide) (_ : p .recs := by first | assumption | decide) (_ : p .motion := by first | assumption | decide) (_ : p .net := by first | assumption | decide) (_ : p .out := by first | assumption | decide) :
    Keeps p z (State.moveEnded s m reached) := by
  unfold State.moveEnded
  extract_lets a1 a2 a3 a4
  have ha2 : Keeps p z a2 := by
    unfold a2
    refine h.of
  clear_value a2
  have ha4 : Keeps p z a4 := by
    unfold a4
    split
    · refine ha2.of
    · refine ha2.of
    · split
      · refine ha2.of
      · exact ha2
  clear_value a4
  refine State.motionDone_keeps ?_
  exact ha4

theorem execSysAbort_keeps {p : Part → Prop} {z s : State} (h : Keeps p z s) (q : Req) (mbx : Nat) (_ : p .mbx := by first | assumption | decide) (_ : p .keeper := by first | assumption | decide) (_ : p .deck := by first | assumption | decide) (_ : p .recs := by first | assumption | decide) (_ : p .net := by first | assumption | decide) (_ : p .fw := by first | assumption | decide) (_ : p .out := by first | assumption | decide) :
    KeepsO p z (execSysAbort q mbx s) := by
  unfold execSysAbort
  refine runCmd_keeps ?_ _ _ _ _ _ _ ?_
  · exact h
  · intro x3
    refine State.abortFor_keeps ?_ _
    exact h

theorem State.startPresets_keeps {p : Part → Prop} {z s : State} (h : Keeps p z s) (d : Container) (_ : p .keeper := by first | assumption | decide) (_ : p .recs := by first | assumption | decide) (_ : p .motion := by first | assumption | decide) (_ : p .net := by first | assumption | decide) (_ : p .out := by first | assumption | decide) :
    Keeps p z (State.startPresets s d) := by
  unfold State.startPresets
  extract_lets a1 a2 a3 a4 a5 a6 a7 a8
  have ha8 : Keeps p z a8 := by
    unfold a8
    refine h.of
  clear_value a8
  split
  · exact h
  · refine State.motionDone_keeps ?_
    refine Keeps.foldl (fun z14 s15 x16 h17 => ?_) ?_
    · refine State.beginMove_keeps ?_ _
      exact h17
    · exact ha8

theorem State.snapTake_keeps {p : Part → Prop} {z s : State} (h : Keeps p z s) (n : Snapshot) (now : List ((Nat × Nat) × Nat)) (noWeb : Bool) (_ : p .mem := by first | assumption | decide) (_ : p .keeper := by first | assumption | decide) (_ : p .recs := by first | assumption | decide) (_ : p .net := by first | assumption | decide) (_ : p .free := by first | assumption | decide) (_ : p .out := by first | assumption | decide) :
    Keeps p z (State.snapTake s n now noWeb) := by
  unfold State.snapTake
  extract_lets a1 a2 a3 a4
  have ha1 : Keeps p z a1 := by
    unfold a1
    refine Keeps.foldl (fun z6 s7 x8 h9 => ?_) ?_
    · refine State.takePart_keeps ?_ _ _
      exact h9
    · exact h
  clear_value a1
  have ha3 : Keeps p z a3 := by
    unfold a3
    refine State.snapHeader_keeps ?_ _ _
    exact ha1
  split
  · refine State.completeCode_keeps ?_ _ _ _
    refine ha3.of
  · refine ha1.of

theorem State.post_keeps {p : Part → Prop} {z s : State} (h : Keeps p z s) (rec : Rec) (_ : p .recs := by first | assumption | decide) :
    Keeps p z (State.post s rec) := by
  unfold State.post
  refine State.postRing_keeps ?_ _ _
  exact h

theorem State.leaveAtEnd_keeps {p : Part → Prop} {z s : State} (h : Keeps p z s)  (_ : p .mem := by first | assumption | decide) (_ : p .deck := by first | assumption | decide) (_ : p .profile := by first | assumption | decide) (_ : p .recs := by first | assumption | decide) (_ : p .comb := by first | assumption | decide) (_ : p .mon := by first | assumption | decide) (_ : p .vd := by first | assumption | decide) (_ : p .net := by first | assumption | decide) (_ : p .dram := by first | assumption | decide) (_ : p .dma := by first | assumption | decide) (_ : p .fault := by first | assumption | decide) (_ : p .out := by first | assumption | decide) :
    Keeps p z (State.leaveAtEnd s) := by
  unfold State.leaveAtEnd
  split
  · refine State.takeProfile_keeps ?_
    exact h
  · refine State.leaveDiag_keeps ?_
    exact h
  · refine State.leaveStandby_keeps ?_
    exact h
  · exact h

theorem execRefLearnAbort_keeps {p : Part → Prop} {z s : State} (h : Keeps p z s) (q : Req) (_ : p .mem := by first | assumption | decide) (_ : p .mbx := by first | assumption | decide) (_ : p .keeper := by first | assumption | decide) (_ : p .recs := by first | assumption | decide) (_ : p .reg := by first | assumption | decide) (_ : p .codec := by first | assumption | decide) :
    KeepsO p z (execRefLearnAbort q s) := by
  unfold execRefLearnAbort
  refine runCmd_keeps ?_ _ _ _ _ _ _ ?_
  · exact h
  · intro x3
    dsimp only
    refine State.learnEnds_keeps ?_ _ _
    exact h

theorem State.decideAll_keeps {p : Part → Prop} {z s : State} (h : Keeps p z s) (epoch : Nat) (seq : Nat) (a : Int) (b : Int) (v5 : List Nat) (_ : p .recs := by first | assumption | decide) (_ : p .mark := by first | assumption | decide) (_ : p .out := by first | assumption | decide) :
    Keeps p z (State.decideAll s epoch seq a b v5) := by
  induction v5 generalizing s epoch seq a b
  · rw [State.decideAll]
    exact h
  · rename_i e0 l0 ih
    rw [State.decideAll]
    apply ih
    refine State.markDecide_keeps ?_ _ _
    exact h

theorem State.markEvent_keeps {p : Part → Prop} {z s : State} (h : Keeps p z s) (m : Nat) (e : Event) (_ : p .recs := by first | assumption | decide) (_ : p .mark := by first | assumption | decide) (_ : p .out := by first | assumption | decide) :
    Keeps p z (State.markEvent s m e) := by
  unfold State.markEvent
  extract_lets a1 a2 a3
  clear_value a3
  split
  · refine State.updMarker_keeps ?_ _ _
    exact h
  · refine State.markDecide_keeps ?_ _ _
    exact h

theorem State.cameraSwitch_keeps {p : Part → Prop} {z s : State} (h : Keeps p z s) (w0 : Swap) (_ : p .deck := by first | assumption | decide) (_ : p .recs := by first | assumption | decide) (_ : p .mark := by first | assumption | decide) (_ : p .trestle := by first | assumption | decide) (_ : p .pio := by first | assumption | decide) (_ : p .pos := by first | assumption | decide) (_ : p .intake := by first | assumption | decide) (_ : p .cal := by first | assumption | decide) (_ : p .reg := by first | assumption | decide) (_ : p .vd := by first | assumption | decide) (_ : p .out := by first | assumption | decide) :
    Keeps p z (State.cameraSwitch s w0) := by
  unfold State.cameraSwitch
  extract_lets a1 a2 a3 a4 a5 a6 a7 a8 a9 a10 a11 a12 a13 a14 a15
  have ha1 : Keeps p z a1 := by
    unfold a1
    refine State.swapBegins_keeps ?_ _
    exact h
  clear_value a1
  have ha10 : Keeps p z a10 := by
    unfold a10
    refine ha1.of
  clear_value a10
  have ha11 : Keeps p z a11 := by
    unfold a11
    split
    · exact ha10
    · split
      · split
        · exact ha10
        · refine ha10.of
      · split
        · exact ha10
        · refine ha10.of
  clear_value a11
  have ha12 : Keeps p z a12 := by
    unfold a12
    refine State.notifyIn_keeps ?_ _ _ _ _ _ _ _ _
    exact ha11
  clear_value a12
  have ha13 : Keeps p z a13 := by
    unfold a13
    refine State.publish_keeps ?_ _ _
    refine State.activateTrestle_keeps ?_ _
    exact ha12
  clear_value a13
  have ha15 : Keeps p z a15 := by
    unfold a15
    refine ha13.of
  clear_value a15
  refine State.sendPairInfo_keeps ?_
  refine State.stationDone_keeps ?_ _
  refine State.setCodes_keeps ?_ _
  refine State.bindEpoch_keeps ?_ _ _
  exact ha15

theorem execViaductMbx_keeps {p : Part → Prop} {z s : State} (h : Keeps p z s) (response : Bool) (words : List Nat) (_ : p .mbx := by first | assumption | decide) (_ : p .hif := by first | assumption | decide) (_ : p .deck := by first | assumption | decide) (_ : p .recs := by first | assumption | decide) (_ : p .intake := by first | assumption | decide) (_ : p .vd := by first | assumption | decide) (_ : p .out := by first | assumption | decide) :
    KeepsO p z (execViaductMbx response words s) := by
  unfold execViaductMbx
  split
  · refine KeepsO.next ?_
    exact h
  · extract_lets a4 a5 a6 a7 a8
    have ha8 : Keeps p z a8 := by
      unfold a8
      refine h.of
    clear_value a8
    split
    · refine KeepsO.next ?_
      refine h.of
    · split
      · refine KeepsO.next ?_
        exact h
      · refine KeepsO.next ?_
        split
        · refine State.modeAnswer_keeps ?_ _
          exact ha8
        · split
          · refine State.armAnswer_keeps ?_ _ _ _ _ _
            exact ha8
          · exact ha8

theorem execCalTableReadDone_keeps {p : Part → Prop} {z s : State} (h : Keeps p z s)  (_ : p .mem := by first | assumption | decide) (_ : p .keeper := by first | assumption | decide) (_ : p .recs := by first | assumption | decide) (_ : p .cal := by first | assumption | decide) (_ : p .net := by first | assumption | decide) (_ : p .out := by first | assumption | decide) :
    KeepsO p z (execCalTableReadDone s) := by
  unfold execCalTableReadDone
  split
  · refine KeepsO.next ?_
    exact h
  · extract_lets a4 a5
    have ha4 : Keeps p z a4 := by
      unfold a4
      refine State.write_keeps ?_ _ _
      exact h
    clear_value a4
    refine KeepsO.next ?_
    refine State.completeCode_keeps ?_ _ _ _
    refine ha4.of

theorem execAxisHome_keeps {p : Part → Prop} {z s : State} (h : Keeps p z s) (q : Req) (axes : Nat) (_ : p .mbx := by first | assumption | decide) (_ : p .keeper := by first | assumption | decide) (_ : p .recs := by first | assumption | decide) (_ : p .motion := by first | assumption | decide) (_ : p .net := by first | assumption | decide) (_ : p .out := by first | assumption | decide) :
    KeepsO p z (execAxisHome q axes s) := by
  unfold execAxisHome
  extract_lets a1 a2 a3 a4 a5
  have ha5 : Keeps p z a5 := by
    unfold a5
    refine Keeps.foldl (fun z7 s8 x9 h10 => ?_) ?_
    · refine State.beginHome_keeps ?_ _
      exact h10
    · refine State.start_keeps ?_ _ _ _
      refine h.of
  clear_value a5
  split
  · exact KeepsO.fault _ _
  · refine runCmd_keeps ?_ _ _ _ _ _ _ ?_
    · exact h
    · intro x20
      dsimp only
      refine State.motionDone_keeps ?_
      exact ha5

theorem execStationSwitch_keeps {p : Part → Prop} {z s : State} (h : Keeps p z s) (m : Nat) (_ : p .deck := by first | assumption | decide) (_ : p .recs := by first | assumption | decide) :
    KeepsO p z (execStationSwitch m s) := by
  unfold execStationSwitch
  split
  · refine KeepsO.next ?_
    exact h
  · split
    · refine KeepsO.next ?_
      refine State.stationDone_keeps ?_ _
      exact h
    · refine KeepsO.next ?_
      exact h

theorem execLookbackAbort_keeps {p : Part → Prop} {z s : State} (h : Keeps p z s) (q : Req) (_ : p .mbx := by first | assumption | decide) (_ : p .keeper := by first | assumption | decide) (_ : p .recs := by first | assumption | decide) (_ : p .net := by first | assumption | decide) (_ : p .out := by first | assumption | decide) :
    KeepsO p z (execLookbackAbort q s) := by
  unfold execLookbackAbort
  refine runCmd_keeps ?_ _ _ _ _ _ _ ?_
  · exact h
  · intro x3
    dsimp only
    refine State.completeCode_keeps ?_ _ _ _
    exact h

theorem State.flr_keeps {p : Part → Prop} {z s : State} (h : Keeps p z s)  (_ : p .mem := by first | assumption | decide) (_ : p .mbx := by first | assumption | decide) (_ : p .hif := by first | assumption | decide) (_ : p .dma := by first | assumption | decide) (_ : p .out := by first | assumption | decide) :
    Keeps p z (State.flr s) := by
  unfold State.flr
  have h1 : Keeps p z { s with hif := s.hif.flr } :=
    { h with
      mbx := fun _ => Hif.flr_mbx s.hif
      same := fun x n => samePart_trans (h.same x n) (by cases x <;> first | exact absurd (by assumption) n | exact Eq.refl _ | exact ⟨Eq.refl _, Eq.refl _, Eq.refl _⟩) }
  exact Keeps.forEach (fun z' s' c h' => State.dmaFlr_keeps h' c) h1

theorem execRefLearnDone_keeps {p : Part → Prop} {z s : State} (h : Keeps p z s)  (_ : p .mem := by first | assumption | decide) (_ : p .keeper := by first | assumption | decide) (_ : p .recs := by first | assumption | decide) (_ : p .reg := by first | assumption | decide) (_ : p .codec := by first | assumption | decide) :
    KeepsO p z (execRefLearnDone s) := by
  unfold execRefLearnDone
  split
  · refine KeepsO.next ?_
    exact h
  · split
    · refine KeepsO.next ?_
      exact h
    · extract_lets a7 a8 a9
      have ha9 : Keeps p z a9 := by
        unfold a9
        refine h.of
      clear_value a9
      split
      · refine KeepsO.next ?_
        refine State.learnEnds_keeps ?_ _ _
        exact h
      · extract_lets a16
        have ha16 : Keeps p z a16 := by
          unfold a16
          refine State.resizeRing_keeps ?_
          refine State.updRef_keeps ?_ _ _
          refine State.write_keeps ?_ _ _
          exact ha9
        clear_value a16
        refine KeepsO.next ?_
        refine State.refReady_keeps ?_ _
        refine State.endRunning_keeps ?_ _
        exact ha16

end Sys2Proof.Machine
end

