-- ==== Sys2Proof/Laws/Keeps4.lean ====
section
/-! SUPPORT. What each operation of the block keeps, part 4: one lemma for each, in the order of their use (`Keeps`). -/

set_option linter.unusedVariables false
set_option linter.unusedSimpArgs false

namespace Sys2Proof.Machine

set_option Elab.async false

theorem execAxisMove_keeps {p : Part → Prop} {z s : State} (h : Keeps p z s) (q : Req) (axes : Nat) (relative : Bool) (interp : Bool) (profile : Nat) (targets : List Int) (_ : p .mbx := by first | assumption | decide) (_ : p .keeper := by first | assumption | decide) (_ : p .recs := by first | assumption | decide) (_ : p .motion := by first | assumption | decide) (_ : p .net := by first | assumption | decide) (_ : p .out := by first | assumption | decide) :
    KeepsO p z (execAxisMove q axes relative interp profile targets s) := by
  unfold execAxisMove
  extract_lets a1 a2 a3 a4
  have ha4 : Keeps p z a4 := by
    unfold a4
    refine Keeps.foldl (fun z6 s7 x8 h9 => ?_) ?_
    · refine State.beginMove_keeps ?_ _
      exact h9
    · refine State.start_keeps ?_ _ _ _
      refine h.of
  clear_value a4
  split
  · exact KeepsO.fault _ _
  · refine runCmd_keeps ?_ _ _ _ _ _ _ ?_
    · exact h
    · intro x19
      dsimp only
      refine State.motionDone_keeps ?_
      exact ha4

theorem execPcieFlr_keeps {p : Part → Prop} {z s : State} (h : Keeps p z s)  (_ : p .mem := by first | assumption | decide) (_ : p .mbx := by first | assumption | decide) (_ : p .hif := by first | assumption | decide) (_ : p .dma := by first | assumption | decide) (_ : p .out := by first | assumption | decide) :
    KeepsO p z (execPcieFlr s) := by
  unfold execPcieFlr
  refine KeepsO.next ?_
  refine State.flr_keeps ?_
  exact h

/-- Storing a crop keeps. -/
theorem State.storeCrop_keeps {p : Part → Prop} {z s : State} (h : Keeps p z s) (b : Descriptor) (crop : Option (List (List (List Nat)))) (_ : p .mem := by first | assumption | decide) (_ : p .recs := by first | assumption | decide) :
    Keeps p z (s.storeCrop b crop).2.2 := by
  unfold State.storeCrop
  split
  · exact h
  · rename_i k
    have ht := State.takeCropSlot_keeps h (s.deckOf b.epoch).cropReuse
    split
    · rename_i s1 e
      rw [e] at ht
      refine ht.of
    · rename_i x s1 e
      rw [e] at ht
      exact State.write_keeps ht _ _

theorem State.commitBlob_keeps {p : Part → Prop} {z s : State} (h : Keeps p z s) (b : Descriptor) (r : BlobOut) (_ : p .mem := by first | assumption | decide) (_ : p .recs := by first | assumption | decide) (_ : p .mark := by first | assumption | decide) (_ : p .trestle := by first | assumption | decide) (_ : p .seg := by first | assumption | decide) (_ : p .comb := by first | assumption | decide) (_ : p .net := by first | assumption | decide) (_ : p .free := by first | assumption | decide) (_ : p .out := by first | assumption | decide) :
    Keeps p z (State.commitBlob s b r) := by
  unfold State.commitBlob
  extract_lets _ _ s0 seq rec' c s1 s1' s2
  have h0 : Keeps p z s0 := h.of
  have hc : Keeps p z c.2.2 := by
    show Keeps p z (if _ then _ else _ : Nat × Bool × State).2.2
    split
    · exact State.storeCrop_keeps h0 _ _
    · exact h0
  have h1 : Keeps p z s1 := by
    show Keeps p z (if _ then _ else _)
    split
    · exact State.post_keeps hc _
    · exact h0
  have h1' : Keeps p z s1' := by
    show Keeps p z (if _ then _ else _)
    split
    · exact State.sendDefect_keeps h1 _ _ _ _ _ _ _ _
    · exact h1
  have h2 : Keeps p z s2 := by
    show Keeps p z (if _ then _ else _)
    split
    · exact State.publish_keeps h1' _ _
    · exact h1'
  split
  · exact State.decideAll_keeps h2 _ _ _ _ _
  · exact h2

theorem State.moveRest_keeps {p : Part → Prop} {z s : State} (h : Keeps p z s) (m : Move) (_ : p .keeper := by first | assumption | decide) (_ : p .recs := by first | assumption | decide) (_ : p .motion := by first | assumption | decide) (_ : p .net := by first | assumption | decide) (_ : p .out := by first | assumption | decide) :
    Keeps p z (State.moveRest s m) := by
  unfold State.moveRest
  split
  · refine State.homeBack_keeps ?_ _ _ _
    refine h.of
  · refine State.moveEnded_keeps ?_ _ _
    exact h

theorem State.faultRecord_keeps {p : Part → Prop} {z s : State} (h : Keeps p z s) (kind : Nat) (block : Nat) (inst : Nat) (code : Nat) (count : Nat) (detail : Nat) (line : Nat × Int) (arg : Nat) (_ : p .recs := by first | assumption | decide) :
    Keeps p z (State.faultRecord s kind block inst code count detail line arg) := by
  unfold State.faultRecord
  refine State.post_keeps ?_ _
  exact h

theorem execDeckActivate_keeps {p : Part → Prop} {z s : State} (h : Keeps p z s) (q : Req) (_ : p .mbx := by first | assumption | decide) (_ : p .keeper := by first | assumption | decide) (_ : p .deck := by first | assumption | decide) (_ : p .recs := by first | assumption | decide) (_ : p .trestle := by first | assumption | decide) (_ : p .pio := by first | assumption | decide) (_ : p .intake := by first | assumption | decide) (_ : p .cal := by first | assumption | decide) (_ : p .reg := by first | assumption | decide) (_ : p .comb := by first | assumption | decide) (_ : p .motion := by first | assumption | decide) (_ : p .mon := by first | assumption | decide) (_ : p .vd := by first | assumption | decide) (_ : p .net := by first | assumption | decide) (_ : p .out := by first | assumption | decide) :
    KeepsO p z (execDeckActivate q s) := by
  unfold execDeckActivate
  extract_lets a1 a2
  have ha2 : Keeps p z a2 := by
    unfold a2
    refine State.startPresets_keeps ?_ _
    refine State.activate_keeps ?_ _
    exact h
  clear_value a2
  refine runCmd_keeps ?_ _ _ _ _ _ _ ?_
  · exact h
  · intro x9
    exact ha2

theorem State.snapStep_keeps {p : Part → Prop} {z s : State} (h : Keeps p z s)  (_ : p .mem := by first | assumption | decide) (_ : p .keeper := by first | assumption | decide) (_ : p .recs := by first | assumption | decide) (_ : p .net := by first | assumption | decide) (_ : p .free := by first | assumption | decide) (_ : p .out := by first | assumption | decide) :
    Keeps p z (State.snapStep s) := by
  unfold State.snapStep
  split
  · exact h
  · extract_lets a3
    refine State.snapTake_keeps ?_ _ _ _
    exact h

theorem State.writeEvent_keeps {p : Part → Prop} {z s : State} (h : Keeps p z s) (head : Nat) (e : OpenEvent) (_ : p .recs := by first | assumption | decide) (_ : p .trestle := by first | assumption | decide) (_ : p .print := by first | assumption | decide) :
    Keeps p z (State.writeEvent s head e) := by
  unfold State.writeEvent
  split
  · refine h.of
  · extract_lets a3
    have ha3 : Keeps p z a3 := by
      unfold a3
      refine State.post_keeps ?_ _
      exact h
    clear_value a3
    split
    · refine State.publish_keeps ?_ _ _
      exact ha3
    · exact ha3

theorem State.inputAct_keeps {p : Part → Prop} {z s : State} (h : Keeps p z s) (i : Nat) (chan : Nat) (e : Event) (_ : p .recs := by first | assumption | decide) (_ : p .mark := by first | assumption | decide) (_ : p .trestle := by first | assumption | decide) (_ : p .pio := by first | assumption | decide) (_ : p .intake := by first | assumption | decide) (_ : p .comb := by first | assumption | decide) (_ : p .out := by first | assumption | decide) :
    Keeps p z (State.inputAct s i chan e) := by
  unfold State.inputAct
  split
  · split
    · refine h.of
    · exact h
  · split
    · refine State.markEvent_keeps ?_ _ _
      exact h
    · split
      · refine h.of
      · split
        · refine h.of
        · split
          · refine State.withdrawTask_keeps ?_ _
            exact h
          · split
            · refine State.startPulse_keeps ?_ _
              exact h
            · refine State.relayTake_keeps ?_ _ _ _
              exact h

theorem State.flushStats_keeps {p : Part → Prop} {z s : State} (h : Keeps p z s) (v0 : Nat) (_ : p .mem := by first | assumption | decide) (_ : p .recs := by first | assumption | decide) (_ : p .intake := by first | assumption | decide) (_ : p .stats := by first | assumption | decide) :
    Keeps p z (State.flushStats v0 s) := by
  induction v0 generalizing s
  · rw [State.flushStats]
    exact h
  · rename_i i0 ih
    rw [State.flushStats]
    split
    · exact h
    · extract_lets a4 a5 a6 a7 a8 a9 a10 a11 a12 a13 a14
      have ha10 : Keeps p z a10 := by
        unfold a10
        clear_value a8
        split
        · extract_lets a17
          have ha17 : Keeps p z a17 := by
            unfold a17
            refine State.write_keeps ?_ _ _
            exact h
          refine ha17.of
        · exact h
      clear_value a10
      have ha11 : Keeps p z a11 := by
        unfold a11
        refine State.post_keeps ?_ _
        exact ha10
      clear_value a11
      split
      · exact h
      · apply ih
        refine ha11.of

theorem execPerstAssert_keeps {p : Part → Prop} {z s : State} (h : Keeps p z s)  (_ : p .mem := by first | assumption | decide) (_ : p .mbx := by first | assumption | decide) (_ : p .hif := by first | assumption | decide) (_ : p .dma := by first | assumption | decide) (_ : p .out := by first | assumption | decide) :
    KeepsO p z (execPerstAssert s) := by
  unfold execPerstAssert
  extract_lets a1 a2
  have ha1 : Keeps p z a1 := by
    unfold a1
    refine State.flr_keeps ?_
    exact h
  clear_value a1
  refine KeepsO.next ?_
  refine ha1.of

theorem State.writeGap_keeps {p : Part → Prop} {z s : State} (h : Keeps p z s) (y1 : Nat) (more : Bool) (g : OpenGap) (_ : p .recs := by first | assumption | decide) :
    Keeps p z (State.writeGap s y1 more g) := by
  unfold State.writeGap
  extract_lets a1 a2
  have ha2 : Keeps p z a2 := by
    unfold a2
    split
    · refine h.of
    · exact h
  clear_value a2
  refine State.post_keeps ?_ _
  exact ha2

theorem State.commitRepeat_keeps {p : Part → Prop} {z s : State} (h : Keeps p z s) (typ : Nat) (r : RepeatStart) (flag : Bool) (gapped : Bool) (good : Nat) (count : Nat) (block : List Byte) (_ : p .mem := by first | assumption | decide) (_ : p .recs := by first | assumption | decide) :
    Keeps p z (State.commitRepeat s typ r flag gapped good count block) := by
  unfold State.commitRepeat
  extract_lets a1 a2 a3
  have ha3 : Keeps p z a3 := by
    unfold a3
    clear_value a1
    split
    · extract_lets a6
      have ha6 : Keeps p z a6 := by
        unfold a6
        refine State.write_keeps ?_ _ _
        exact h
      refine ha6.of
    · exact h
  clear_value a3
  refine State.post_keeps ?_ _
  exact ha3

theorem State.calRecord_keeps {p : Part → Prop} {z s : State} (h : Keeps p z s) (kind : Nat) (port : Option Nat) (cam : Option Nat) (count : Option Nat) (dp : Option Nat) (gmax : Option Nat) (gmin : Option Nat) (dark : Option Nat) (code : Option Nat) (_ : p .recs := by first | assumption | decide) (_ : p .free := by first | assumption | decide) :
    Keeps p z (State.calRecord s kind port cam count dp gmax gmin dark code) := by
  unfold State.calRecord
  extract_lets a1 a2
  refine State.post_keeps ?_ _
  refine h.of

theorem State.abruptStop_keeps {p : Part → Prop} {z s : State} (h : Keeps p z s) (m : Move) (_ : p .keeper := by first | assumption | decide) (_ : p .recs := by first | assumption | decide) (_ : p .motion := by first | assumption | decide) (_ : p .net := by first | assumption | decide) (_ : p .out := by first | assumption | decide) :
    Keeps p z (State.abruptStop s m) := by
  unfold State.abruptStop
  refine State.moveEnded_keeps ?_ _ _
  split
  · refine State.loseAxes_keeps ?_ _
    exact h
  · exact h

theorem State.homeChange_keeps {p : Part → Prop} {z s : State} (h : Keeps p z s) (a : Nat) (level : Bool) (_ : p .keeper := by first | assumption | decide) (_ : p .recs := by first | assumption | decide) (_ : p .motion := by first | assumption | decide) (_ : p .net := by first | assumption | decide) (_ : p .out := by first | assumption | decide) :
    Keeps p z (State.homeChange s a level) := by
  unfold State.homeChange
  split
  · exact h
  · extract_lets a3
    split
    · refine State.setMove_keeps ?_ _
      exact h
    · split
      · refine State.moveEnded_keeps ?_ _ _
        refine State.updAxis_keeps ?_ _ _
        exact h
      · exact h

theorem execSnapshotTimeout_keeps {p : Part → Prop} {z s : State} (h : Keeps p z s)  (_ : p .mem := by first | assumption | decide) (_ : p .keeper := by first | assumption | decide) (_ : p .recs := by first | assumption | decide) (_ : p .net := by first | assumption | decide) (_ : p .free := by first | assumption | decide) (_ : p .out := by first | assumption | decide) :
    KeepsO p z (execSnapshotTimeout s) := by
  unfold execSnapshotTimeout
  split
  · refine KeepsO.next ?_
    exact h
  · split
    · refine KeepsO.next ?_
      exact h
    · extract_lets a7
      refine KeepsO.next ?_
      refine State.snapTake_keeps ?_ _ _ _
      exact h

theorem State.verifyRecord_keeps {p : Part → Prop} {z s : State} (h : Keeps p z s) (i : VerItem) (c : CodeOut) (_ : p .mem := by first | assumption | decide) (_ : p .recs := by first | assumption | decide) (_ : p .mark := by first | assumption | decide) (_ : p .trestle := by first | assumption | decide) (_ : p .free := by first | assumption | decide) (_ : p .out := by first | assumption | decide) :
    Keeps p z (State.verifyRecord s i c) := by
  unfold State.verifyRecord
  extract_lets a1 a2 a3 a4 a5 a6 a7
  have ha5 : Keeps p z a5 := by
    unfold a5
    clear_value a3
    split
    · extract_lets a10
      have ha10 : Keeps p z a10 := by
        unfold a10
        refine State.write_keeps ?_ _ _
        exact h
      refine ha10.of
    · exact h
  clear_value a5
  have ha7 : Keeps p z a7 := by
    unfold a7
    refine State.post_keeps ?_ _
    exact ha5
  clear_value a7
  split
  · refine State.drawn_keeps ?_
    refine State.decideAll_keeps ?_ _ _ _ _ _
    refine State.publish_keeps ?_ _ _
    exact ha7
  · refine State.drawn_keeps ?_
    exact ha7

theorem State.itemReady_keeps {p : Part → Prop} {z s : State} (h : Keeps p z s)  (_ : p .mem := by first | assumption | decide) (_ : p .recs := by first | assumption | decide) (_ : p .mark := by first | assumption | decide) (_ : p .trestle := by first | assumption | decide) (_ : p .comb := by first | assumption | decide) (_ : p .print := by first | assumption | decide) (_ : p .free := by first | assumption | decide) (_ : p .out := by first | assumption | decide) :
    Keeps p z (State.itemReady s) := by
  unfold State.itemReady
  split
  · exact h
  · split
    · refine State.verifyRecord_keeps ?_ _ _
      refine h.of
    · extract_lets a6 a7 a8 a9 a10
      have ha10 : Keeps p z a10 := by
        unfold a10
        refine h.of
      clear_value a10
      split
      · exact h
      · split
        · refine State.verifyRecord_keeps ?_ _ _
          exact ha10
        · refine State.addTask_keeps ?_ _
          exact ha10

theorem State.calPortDone_keeps {p : Part → Prop} {z s : State} (h : Keeps p z s) (ph : CalPhase) (port : Nat) (_ : p .recs := by first | assumption | decide) (_ : p .cal := by first | assumption | decide) (_ : p .free := by first | assumption | decide) :
    Keeps p z (State.calPortDone s ph port) := by
  unfold State.calPortDone
  split
  · exact h
  · extract_lets a3 a4 a5 a6 a7 a8 a9 a10 a11 a12 a13
    have ha12 : Keeps p z a12 := by
      unfold a12
      refine h.of
    clear_value a12
    split
    · refine State.calRecord_keeps ?_ _ _ _ _ _ _ _ _ _
      refine h.of
    · refine State.calRecord_keeps ?_ _ _ _ _ _ _ _ _ _
      exact ha12

theorem State.deliverInput_keeps {p : Part → Prop} {z s : State} (h : Keeps p z s) (i : Nat) (cs : List Carried) (_ : p .recs := by first | assumption | decide) (_ : p .mark := by first | assumption | decide) (_ : p .trestle := by first | assumption | decide) (_ : p .pio := by first | assumption | decide) (_ : p .intake := by first | assumption | decide) (_ : p .comb := by first | assumption | decide) (_ : p .free := by first | assumption | decide) (_ : p .out := by first | assumption | decide) :
    Keeps p z (State.deliverInput s i cs) := by
  unfold State.deliverInput
  split
  · exact h
  · extract_lets a3 a4 a5 a6
    have ha6 : Keeps p z a6 := by
      unfold a6
      split
      · exact h
      · refine State.drawn_keeps ?_
        exact h
    clear_value a6
    split
    · refine State.updInput_keeps ?_ _ _
      exact h
    · refine State.inputAct_keeps ?_ _ _ _
      refine State.updInput_keeps ?_ _ _
      exact ha6

theorem State.stepMove_keeps {p : Part → Prop} {z s : State} (h : Keeps p z s) (m : Move) (_ : p .keeper := by first | assumption | decide) (_ : p .recs := by first | assumption | decide) (_ : p .motion := by first | assumption | decide) (_ : p .net := by first | assumption | decide) (_ : p .out := by first | assumption | decide) :
    Keeps p z (State.stepMove s m) := by
  unfold State.stepMove
  extract_lets a1 a2 a3 a4 a5 a6 a7
  have ha1 : Keeps p z a1 := by
    unfold a1
    refine State.stepAxis_keeps ?_ _ _
    exact h
  clear_value a1
  have ha2 : Keeps p z a2.1 := by
    unfold a2
    refine State.followSteps_keeps ?_ _ _
    exact ha1
  clear_value a2
  have ha7 : Keeps p z a7 := by
    unfold a7
    refine State.setMove_keeps ?_ _
    exact ha2
  clear_value a7
  split
  · refine State.moveRest_keeps ?_ _
    exact ha7
  · split
    · refine State.moveEnded_keeps ?_ _ _
      exact ha7
    · exact ha7

theorem State.gainRecord_keeps {p : Part → Prop} {z s : State} (h : Keeps p z s) (c : Nat) (_ : p .recs := by first | assumption | decide) (_ : p .free := by first | assumption | decide) :
    Keeps p z (State.gainRecord s c) := by
  unfold State.gainRecord
  refine State.calRecord_keeps ?_ _ _ _ _ _ _ _ _ _
  exact h

theorem State.writeGaps_keeps {p : Part → Prop} {z s : State} (h : Keeps p z s) (y1 : Nat) (more : OpenGap → Bool) (v3 : List OpenGap) (_ : p .recs := by first | assumption | decide) :
    Keeps p z (State.writeGaps s y1 more v3) := by
  induction v3 generalizing s y1 more
  · rw [State.writeGaps]
    exact h
  · rename_i e0 l0 ih
    rw [State.writeGaps]
    apply ih
    refine State.writeGap_keeps ?_ _ _ _
    exact h

theorem State.returnChannel_keeps {p : Part → Prop} {z s : State} (h : Keeps p z s) (block : Nat) (inst : Nat) (_ : p .recs := by first | assumption | decide) (_ : p .fault := by first | assumption | decide) :
    Keeps p z (State.returnChannel s block inst) := by
  unfold State.returnChannel
  refine State.faultRecord_keeps ?_ _ _ _ _ _ _ _ _
  refine h.of

theorem State.retireNow_keeps {p : Part → Prop} {z s : State} (h : Keeps p z s) (block : Nat) (inst : Nat) (code : Nat) (_ : p .recs := by first | assumption | decide) (_ : p .fault := by first | assumption | decide) :
    Keeps p z (State.retireNow s block inst code) := by
  unfold State.retireNow
  split
  · exact h
  · refine State.faultRecord_keeps ?_ _ _ _ _ _ _ _ _
    refine h.of

theorem State.passItem_keeps {p : Part → Prop} {z s : State} (h : Keeps p z s) (v : VerItem) (code : Bool) (_ : p .mem := by first | assumption | decide) (_ : p .recs := by first | assumption | decide) (_ : p .mark := by first | assumption | decide) (_ : p .trestle := by first | assumption | decide) (_ : p .print := by first | assumption | decide) (_ : p .free := by first | assumption | decide) (_ : p .out := by first | assumption | decide) :
    Keeps p z (State.passItem s v code) := by
  unfold State.passItem
  split
  · refine h.of
  · split
    · refine h.of
    · refine State.verifyRecord_keeps ?_ _ _
      exact h

theorem State.markUnusable_keeps {p : Part → Prop} {z s : State} (h : Keeps p z s) (block : Nat) (inst : Nat) (_ : p .recs := by first | assumption | decide) (_ : p .fault := by first | assumption | decide) :
    Keeps p z (State.markUnusable s block inst) := by
  unfold State.markUnusable
  split
  · exact h
  · refine State.faultRecord_keeps ?_ _ _ _ _ _ _ _ _
    refine h.of

theorem State.lightRecord_keeps {p : Part → Prop} {z s : State} (h : Keeps p z s) (light : Nat) (code : Nat) (_ : p .recs := by first | assumption | decide) (_ : p .free := by first | assumption | decide) :
    Keeps p z (State.lightRecord s light code) := by
  unfold State.lightRecord
  refine State.calRecord_keeps ?_ _ _ _ _ _ _ _ _ _
  exact h

theorem State.snapBegins_keeps {p : Part → Prop} {z s : State} (h : Keeps p z s) (q : Req) (n : Snapshot) (_ : p .mem := by first | assumption | decide) (_ : p .keeper := by first | assumption | decide) (_ : p .recs := by first | assumption | decide) (_ : p .net := by first | assumption | decide) (_ : p .free := by first | assumption | decide) (_ : p .out := by first | assumption | decide) :
    Keeps p z (State.snapBegins s q n) := by
  unfold State.snapBegins
  extract_lets a1 a2
  have ha1 : Keeps p z a1 := by
    unfold a1
    refine State.start_keeps ?_ _ _ _
    exact h
  clear_value a1
  split
  · refine State.snapStep_keeps ?_
    refine ha1.of
  · refine State.snapTake_keeps ?_ _ _ _
    exact ha1

theorem State.occurKind_keeps {p : Part → Prop} {z s : State} (h : Keeps p z s) (kind : Nat) (block : Nat) (inst : Nat) (code : Nat) (detail : Nat) (line : Nat × Int) (_ : p .recs := by first | assumption | decide) (_ : p .fault := by first | assumption | decide) :
    Keeps p z (State.occurKind s kind block inst code detail line).2 := by
  unfold State.occurKind
  split
  · exact h
  · extract_lets a3 a4 a5 a6 a7 a8 a9 a10
    have ha7 : Keeps p z a7 := by
      unfold a7
      refine h.of
    clear_value a7
    have ha10 : Keeps p z a10 := by
      unfold a10
      refine h.of
    clear_value a10
    split
    · dsimp only
      refine State.faultRecord_keeps ?_ _ _ _ _ _ _ _ _
      exact ha7
    · dsimp only
      split
      · refine State.faultRecord_keeps ?_ _ _ _ _ _ _ _ _
        exact ha10
      · exact ha10

theorem State.eventNow_keeps {p : Part → Prop} {z s : State} (h : Keeps p z s) (head : Nat) (kind : Nat) (reject : Bool) (epoch : Nat) (first : Int) (last : Int) (lines : Nat) (item : Option Nat) (arg0 : Nat) (arg1 : Nat) (_ : p .recs := by first | assumption | decide) (_ : p .trestle := by first | assumption | decide) (_ : p .print := by first | assumption | decide) :
    Keeps p z (State.eventNow s head kind reject epoch first last lines item arg0 arg1) := by
  unfold State.eventNow
  refine State.writeEvent_keeps ?_ _ _
  exact h

theorem State.statsReady_keeps {p : Part → Prop} {z s : State} (h : Keeps p z s)  (_ : p .mem := by first | assumption | decide) (_ : p .recs := by first | assumption | decide) (_ : p .intake := by first | assumption | decide) (_ : p .stats := by first | assumption | decide) :
    Keeps p z (State.statsReady s) := by
  unfold State.statsReady
  refine State.pruneStrips_keeps ?_
  refine State.flushStats_keeps ?_ _
  exact h

theorem State.writeEvents_keeps {p : Part → Prop} {z s : State} (h : Keeps p z s) (head : Nat) (v2 : List OpenEvent) (_ : p .recs := by first | assumption | decide) (_ : p .trestle := by first | assumption | decide) (_ : p .print := by first | assumption | decide) :
    Keeps p z (State.writeEvents s head v2) := by
  induction v2 generalizing s head
  · rw [State.writeEvents]
    exact h
  · rename_i e0 l0 ih
    rw [State.writeEvents]
    apply ih
    refine State.writeEvent_keeps ?_ _ _
    exact h

theorem State.failEssential_keeps {p : Part → Prop} {z s : State} (h : Keeps p z s) (block : Nat) (inst : Nat) (code : Nat) (_ : p .sys := by first | assumption | decide) (_ : p .recs := by first | assumption | decide) :
    Keeps p z (State.failEssential s block inst code) := by
  unfold State.failEssential
  extract_lets a1 a2
  have ha1 : Keeps p z a1 := by
    unfold a1
    split
    · exact h
    · refine State.faultRecord_keeps ?_ _ _ _ _ _ _ _ _
      exact h
  clear_value a1
  refine ha1.of

theorem State.dropFaulted_keeps {p : Part → Prop} {z s : State} (h : Keeps p z s) (t : Task) (cell : Nat) (code : Nat) (_ : p .mem := by first | assumption | decide) (_ : p .recs := by first | assumption | decide) (_ : p .mark := by first | assumption | decide) (_ : p .trestle := by first | assumption | decide) (_ : p .seg := by first | assumption | decide) (_ : p .comb := by first | assumption | decide) (_ : p .free := by first | assumption | decide) (_ : p .out := by first | assumption | decide) :
    Keeps p z (State.dropFaulted s t cell code) := by
  unfold State.dropFaulted
  extract_lets a1 a2 a3 a4 a5
  have ha1 : Keeps p z a1 := by
    unfold a1
    refine State.faultRecord_keeps ?_ _ _ _ _ _ _ _ _
    refine State.dropTask_keeps ?_ _
    exact h
  clear_value a1
  have ha3 : Keeps p z a3 := by
    unfold a3
    refine ha1.of
  clear_value a3
  split
  · refine ha3.of
  · refine ha3.of
  · refine State.verifyRecord_keeps ?_ _ _
    exact ha3
  · exact ha3

theorem State.calPort_keeps {p : Part → Prop} {z s : State} (h : Keeps p z s) (port : Nat) (_ : p .recs := by first | assumption | decide) (_ : p .cal := by first | assumption | decide) (_ : p .free := by first | assumption | decide) :
    Keeps p z (State.calPort s port) := by
  unfold State.calPort
  split
  · extract_lets a2 a3 a4
    split
    · exact h
    · split
      · exact h
      · split
        · exact h
        · split
          · refine State.calRecord_keeps ?_ _ _ _ _ _ _ _ _ _
            refine h.of
          · refine h.of
  · exact h

theorem State.flushLater_keeps {p : Part → Prop} {z s : State} (h : Keeps p z s) (wd : Int) (v2 : List LaterOut) (_ : p .mem := by first | assumption | decide) (_ : p .recs := by first | assumption | decide) (_ : p .mark := by first | assumption | decide) (_ : p .trestle := by first | assumption | decide) (_ : p .print := by first | assumption | decide) (_ : p .free := by first | assumption | decide) (_ : p .out := by first | assumption | decide) :
    Keeps p z (State.flushLater s wd v2) := by
  induction v2 generalizing s wd
  · exact h
  · rename_i e l ih
    cases e
    · exact ih (State.writeEvent_keeps h _ _) _
    · exact ih (State.writeEntry_keeps h _ _ _ _) _
    · exact ih (State.passItem_keeps h _ _) _

theorem State.calTake_keeps {p : Part → Prop} {z s : State} (h : Keeps p z s) (v0 : Nat) (v1 : Nat) (_ : p .recs := by first | assumption | decide) (_ : p .cal := by first | assumption | decide) (_ : p .free := by first | assumption | decide) :
    Keeps p z (State.calTake v0 v1 s) := by
  induction v0 generalizing s v1
  · rw [State.calTake]
    exact h
  · rename_i i0 ih
    rw [State.calTake]
    apply ih
    refine State.calPort_keeps ?_ _
    exact h

theorem State.laneBack_keeps {p : Part → Prop} {z s : State} (h : Keeps p z s) (lane : Nat) (_ : p .keeper := by first | assumption | decide) (_ : p .recs := by first | assumption | decide) (_ : p .vd := by first | assumption | decide) (_ : p .net := by first | assumption | decide) (_ : p .fault := by first | assumption | decide) (_ : p .out := by first | assumption | decide) :
    Keeps p z (State.laneBack s lane) := by
  unfold State.laneBack
  refine State.completeCode_keeps ?_ _ _ _
  refine State.retrain_keeps ?_
  refine State.returnChannel_keeps ?_ _ _
  exact h

theorem execPrintElemClear_keeps {p : Part → Prop} {z s : State} (h : Keeps p z s) (q : Req) (head : Nat) (element : Nat) (_ : p .mbx := by first | assumption | decide) (_ : p .recs := by first | assumption | decide) (_ : p .trestle := by first | assumption | decide) (_ : p .print := by first | assumption | decide) :
    KeepsO p z (execPrintElemClear q head element s) := by
  unfold execPrintElemClear
  extract_lets a1 a2 a3 a4 a5 a6
  have ha5 : Keeps p z a5 := by
    unfold a5
    refine Keeps.foldl (fun z8 s9 x10 h11 => ?_) ?_
    · refine State.setElem_keeps ?_ _ _ _ _
      exact h11
    · exact h
  clear_value a5
  have ha6 : Keeps p z a6 := by
    unfold a6
    refine State.updHead_keeps ?_ _ _
    exact ha5
  clear_value a6
  refine runCmd_keeps ?_ _ _ _ _ _ _ ?_
  · exact h
  · intro x20
    dsimp only
    refine State.eventNow_keeps ?_ _ _ _ _ _ _ _ _ _ _
    exact ha6

theorem State.holdCheck_keeps {p : Part → Prop} {z s : State} (h : Keeps p z s) (l : LineSlot) (_ : p .recs := by first | assumption | decide) :
    Keeps p z (State.holdCheck s l) := by
  unfold State.holdCheck
  extract_lets a1 a2 a3 a4 a5 a6 a7 a8 a9 a10 a11
  have ha3 : Keeps p z a3 := by
    unfold a3
    refine State.writeGaps_keeps ?_ _ _ _
    exact h
  clear_value a3
  have ha5 : Keeps p z a5 := by
    unfold a5
    refine ha3.of
  clear_value a5
  have ha8 : Keeps p z a8 := by
    unfold a8
    refine State.writeGaps_keeps ?_ _ _ _
    exact h
  clear_value a8
  have ha10 : Keeps p z a10 := by
    unfold a10
    refine ha8.of
  clear_value a10
  split
  · refine State.notifyIn_keeps ?_ _ _ _ _ _ _ _ _
    exact ha5
  · split
    · refine State.notifyIn_keeps ?_ _ _ _ _ _ _ _ _
      exact ha10
    · split
      · refine h.of
      · exact h

theorem State.kLimits_keeps {p : Part → Prop} {z s : State} (h : Keeps p z s) (d : Container) (v2 : List (Nat × List (Nat × Nat × Int))) (_ : p .recs := by first | assumption | decide) (_ : p .cal := by first | assumption | decide) (_ : p .free := by first | assumption | decide) :
    Keeps p z (State.kLimits s d v2) := by
  induction v2 generalizing s d
  · rw [State.kLimits]
    exact h
  · rename_i e0 l0 ih
    rw [State.kLimits]
    apply ih
    split
    · refine State.gainRecord_keeps ?_ _
      refine h.of
    · refine h.of

theorem State.deliverInputs_keeps {p : Part → Prop} {z s : State} (h : Keeps p z s) (cs : List Carried) (v2 : List Nat) (_ : p .recs := by first | assumption | decide) (_ : p .mark := by first | assumption | decide) (_ : p .trestle := by first | assumption | decide) (_ : p .pio := by first | assumption | decide) (_ : p .intake := by first | assumption | decide) (_ : p .comb := by first | assumption | decide) (_ : p .free := by first | assumption | decide) (_ : p .out := by first | assumption | decide) :
    Keeps p z (State.deliverInputs s cs v2) := by
  induction v2 generalizing s cs
  · rw [State.deliverInputs]
    exact h
  · rename_i e0 l0 ih
    rw [State.deliverInputs]
    apply ih
    refine State.deliverInput_keeps ?_ _ _
    exact h

theorem State.occurEssential_keeps {p : Part → Prop} {z s : State} (h : Keeps p z s) (block : Nat) (inst : Nat) (code : Nat) (detail : Nat) (line : Nat × Int) (_ : p .sys := by first | assumption | decide) (_ : p .recs := by first | assumption | decide) (_ : p .fault := by first | assumption | decide) :
    Keeps p z (State.occurEssential s block inst code detail line) := by
  unfold State.occurEssential
  extract_lets a1 a2 a3
  have ha1 : Keeps p z a1.2 := by
    unfold a1
    refine State.occurKind_keeps ?_ _ _ _ _ _ _
    exact h
  clear_value a1
  have ha2 : Keeps p z a2 := by
    unfold a2
    exact ha1
  split
  · refine ha2.of
  · exact ha2

theorem State.lightLimits_keeps {p : Part → Prop} {z s : State} (h : Keeps p z s) (d : Container) (res : List (Nat × Nat × Int)) (v3 : List Nat) (_ : p .recs := by first | assumption | decide) (_ : p .cal := by first | assumption | decide) (_ : p .free := by first | assumption | decide) :
    Keeps p z (State.lightLimits s d res v3) := by
  induction v3 generalizing s d res
  · rw [State.lightLimits]
    exact h
  · rename_i e0 l0 ih
    rw [State.lightLimits]
    apply ih
    split
    · exact h
    · extract_lets a22 a23 a24 a25
      have ha25 : Keeps p z a25 := by
        unfold a25
        refine h.of
      clear_value a25
      split
      · refine State.lightRecord_keeps ?_ _ _
        exact ha25
      · exact ha25

theorem execItemTaskReady_keeps {p : Part → Prop} {z s : State} (h : Keeps p z s)  (_ : p .mem := by first | assumption | decide) (_ : p .recs := by first | assumption | decide) (_ : p .mark := by first | assumption | decide) (_ : p .trestle := by first | assumption | decide) (_ : p .comb := by first | assumption | decide) (_ : p .print := by first | assumption | decide) (_ : p .free := by first | assumption | decide) (_ : p .out := by first | assumption | decide) :
    KeepsO p z (execItemTaskReady s) := by
  unfold execItemTaskReady
  refine KeepsO.next ?_
  refine State.itemReady_keeps ?_
  exact h

theorem State.itemEvent_keeps {p : Part → Prop} {z s : State} (h : Keeps p z s) (g : Grid) (kind : Nat) (line : Int) (item : Option Nat) (row : Nat) (slot : Nat) (_ : p .recs := by first | assumption | decide) (_ : p .trestle := by first | assumption | decide) (_ : p .print := by first | assumption | decide) :
    Keeps p z (State.itemEvent s g kind line item row slot) := by
  unfold State.itemEvent
  extract_lets a1
  refine State.eventNow_keeps ?_ _ _ _ _ _ _ _ _ _ _
  exact h

theorem State.closeGaps_keeps {p : Part → Prop} {z s : State} (h : Keeps p z s)  (_ : p .recs := by first | assumption | decide) :
    Keeps p z (State.closeGaps s) := by
  unfold State.closeGaps
  split
  · exact h
  · extract_lets a3 a4 a5 a6 a7 a8
    have ha6 : Keeps p z a6 := by
      unfold a6
      clear_value a4
      split
      · refine h.of
      · exact h
    clear_value a6
    have ha7 : Keeps p z a7 := by
      unfold a7
      refine State.writeGaps_keeps ?_ _ _ _
      exact ha6
    clear_value a7
    refine ha7.of

theorem State.closeEvents_keeps {p : Part → Prop} {z s : State} (h : Keeps p z s) (v1 : Nat) (v2 : OpenEvent → Bool) (_ : p .recs := by first | assumption | decide) (_ : p .trestle := by first | assumption | decide) (_ : p .print := by first | assumption | decide) :
    Keeps p z (State.closeEvents s v1 v2) := by
  unfold State.closeEvents
  extract_lets a1
  refine State.writeEvents_keeps ?_ _ _
  refine State.updHead_keeps ?_ _ _
  exact h

theorem State.endStrip_keeps {p : Part → Prop} {z s : State} (h : Keeps p z s)  (_ : p .mem := by first | assumption | decide) (_ : p .recs := by first | assumption | decide) (_ : p .intake := by first | assumption | decide) (_ : p .stats := by first | assumption | decide) :
    Keeps p z (State.endStrip s) := by
  unfold State.endStrip
  split
  · exact h
  · split
    · refine h.of
    · split
      · exact h
      · extract_lets a7 a8 a9 a10 a11
        refine State.statsReady_keeps ?_
        refine h.of

theorem execCalPhaseDone_keeps {p : Part → Prop} {z s : State} (h : Keeps p z s)  (_ : p .keeper := by first | assumption | decide) (_ : p .recs := by first | assumption | decide) (_ : p .cal := by first | assumption | decide) (_ : p .net := by first | assumption | decide) (_ : p .free := by first | assumption | decide) (_ : p .out := by first | assumption | decide) :
    KeepsO p z (execCalPhaseDone s) := by
  unfold execCalPhaseDone
  split
  · refine KeepsO.next ?_
    exact h
  · split
    · extract_lets a5 a6
      have ha5 : Keeps p z a5 := by
        unfold a5
        refine Keeps.forEach (fun z8 s9 x10 h11 => ?_) ?_
        · refine State.calPortDone_keeps ?_ _ _
          exact h11
        · exact h
      clear_value a5
      refine KeepsO.next ?_
      refine State.completeCode_keeps ?_ _ _ _
      refine ha5.of
    · refine KeepsO.next ?_
      exact h

theorem State.dramUnc_keeps {p : Part → Prop} {z s : State} (h : Keeps p z s) (a : Nat) (_ : p .sys := by first | assumption | decide) (_ : p .recs := by first | assumption | decide) (_ : p .dram := by first | assumption | decide) (_ : p .fault := by first | assumption | decide) :
    Keeps p z (State.dramUnc s a) := by
  unfold State.dramUnc
  extract_lets a1 a2 a3 a4 a5 a6 a7
  have ha3 : Keeps p z a3 := by
    unfold a3
    refine h.of
  clear_value a3
  have ha4 : Keeps p z a4.2 := by
    unfold a4
    refine State.occurKind_keeps ?_ _ _ _ _ _ _
    exact ha3
  clear_value a4
  have ha5 : Keeps p z a5 := by
    unfold a5
    exact ha4
  split
  · refine ha5.of
  · exact ha5

theorem State.takeStep_keeps {p : Part → Prop} {z s : State} (h : Keeps p z s) (m : Move) (n : Nat) (_ : p .keeper := by first | assumption | decide) (_ : p .recs := by first | assumption | decide) (_ : p .motion := by first | assumption | decide) (_ : p .net := by first | assumption | decide) (_ : p .now := by first | assumption | decide) (_ : p .out := by first | assumption | decide) :
    Keeps p z (State.takeStep s m n) := by
  unfold State.takeStep
  refine State.stepMove_keeps ?_ _
  refine State.advance_keeps ?_ _
  exact h

theorem State.portBack_keeps {p : Part → Prop} {z s : State} (h : Keeps p z s) (port : Nat) (_ : p .recs := by first | assumption | decide) (_ : p .fault := by first | assumption | decide) :
    Keeps p z (State.portBack s port) := by
  unfold State.portBack
  extract_lets a1
  have ha1 : Keeps p z a1 := by
    unfold a1
    refine State.returnChannel_keeps ?_ _ _
    exact h
  clear_value a1
  split
  · refine State.returnChannel_keeps ?_ _ _
    exact ha1
  · exact ha1

theorem execSysSnapshot_keeps {p : Part → Prop} {z s : State} (h : Keeps p z s) (q : Req) (dest : Nat) (destLen : Nat) (parts : Nat) (timeoutMs : Nat) (_ : p .mem := by first | assumption | decide) (_ : p .mbx := by first | assumption | decide) (_ : p .keeper := by first | assumption | decide) (_ : p .recs := by first | assumption | decide) (_ : p .net := by first | assumption | decide) (_ : p .dram := by first | assumption | decide) (_ : p .free := by first | assumption | decide) (_ : p .out := by first | assumption | decide) :
    KeepsO p z (execSysSnapshot q dest destLen parts timeoutMs s) := by
  unfold execSysSnapshot
  extract_lets a1 a2
  split
  · exact KeepsO.fault _ _
  · split
    · exact KeepsO.fault _ _
    · refine runCmd_keeps ?_ _ _ _ _ _ _ ?_
      · exact h
      · intro x10
        dsimp only
        refine State.snapBegins_keeps ?_ _ _
        exact h

theorem State.gapLine_keeps {p : Part → Prop} {z s : State} (h : Keeps p z s) (l : LineSlot) (strip : Nat) (ivs : List Interval) (split : Bool) (err : Bool) (_ : p .recs := by first | assumption | decide) :
    Keeps p z (State.gapLine s l strip ivs split err) := by
  unfold State.gapLine
  extract_lets a1 a2 a3 a4 a5 a6 a7 a8
  have ha6 : Keeps p z a6 := by
    unfold a6
    refine State.writeGaps_keeps ?_ _ _ _
    exact h
  clear_value a6
  refine ha6.of

theorem State.occur_keeps {p : Part → Prop} {z s : State} (h : Keeps p z s) (block : Nat) (inst : Nat) (code : Nat) (detail : Nat) (line : Nat × Int) (_ : p .recs := by first | assumption | decide) (_ : p .fault := by first | assumption | decide) :
    Keeps p z (State.occur s block inst code detail line).2 := by
  unfold State.occur
  refine State.occurKind_keeps ?_ _ _ _ _ _ _
  exact h

theorem State.deadEvents_keeps {p : Part → Prop} {z s : State} (h : Keeps p z s) (v1 : Nat) (e : Nat) (st : Nat) (first : Int) (at' : Option (Nat × Nat)) (_ : p .recs := by first | assumption | decide) (_ : p .trestle := by first | assumption | decide) (_ : p .print := by first | assumption | decide) :
    Keeps p z (State.deadEvents s v1 e st first at') := by
  unfold State.deadEvents
  extract_lets a1 a2 a3 a4 a5 a6
  have ha6 : Keeps p z a6 := by
    unfold a6
    refine State.eventNow_keeps ?_ _ _ _ _ _ _ _ _ _ _
    exact h
  clear_value a6
  split
  · refine State.eventNow_keeps ?_ _ _ _ _ _ _ _ _ _ _
    exact ha6
  · split
    · refine State.eventNow_keeps ?_ _ _ _ _ _ _ _ _ _ _
      exact ha6
    · exact ha6

theorem State.layDram_keeps {p : Part → Prop} {z s : State} (h : Keeps p z s) (v1 : Container) (trained : Bool) (gib : Nat) (type : Nat) (_ : p .mem := by first | assumption | decide) (_ : p .sys := by first | assumption | decide) (_ : p .recs := by first | assumption | decide) (_ : p .dram := by first | assumption | decide) :
    Keeps p z (State.layDram s v1 trained gib type) := by
  unfold State.layDram
  split
  · refine State.failEssential_keeps ?_ _ _ _
    refine h.of
  · extract_lets a4 a5 a6
    have ha6 : Keeps p z a6 := by
      unfold a6
      refine h.of
    clear_value a6
    refine State.initRing_keeps ?_ _
    refine State.initRing_keeps ?_ _
    exact ha6

theorem State.backNow_keeps {p : Part → Prop} {z s : State} (h : Keeps p z s) (block : Nat) (inst : Nat) (_ : p .keeper := by first | assumption | decide) (_ : p .recs := by first | assumption | decide) (_ : p .net := by first | assumption | decide) (_ : p .fault := by first | assumption | decide) (_ : p .out := by first | assumption | decide) :
    Keeps p z (State.backNow s block inst) := by
  unfold State.backNow
  refine State.completeCode_keeps ?_ _ _ _
  refine State.returnChannel_keeps ?_ _ _
  exact h

theorem State.retireFrames_keeps {p : Part → Prop} {z s : State} (h : Keeps p z s) (code : Nat) (v2 : List Nat) (_ : p .recs := by first | assumption | decide) (_ : p .fault := by first | assumption | decide) :
    Keeps p z (State.retireFrames s code v2) := by
  induction v2 generalizing s code
  · rw [State.retireFrames]
    exact h
  · rename_i e0 l0 ih
    rw [State.retireFrames]
    apply ih
    split
    · refine State.retireNow_keeps ?_ _ _ _
      exact h
    · exact h

theorem execPrintSubConfirm_keeps {p : Part → Prop} {z s : State} (h : Keeps p z s) (q : Req) (head : Nat) (accept : Bool) (element : Nat) (_ : p .mbx := by first | assumption | decide) (_ : p .recs := by first | assumption | decide) (_ : p .trestle := by first | assumption | decide) (_ : p .print := by first | assumption | decide) :
    KeepsO p z (execPrintSubConfirm q head accept element s) := by
  unfold execPrintSubConfirm
  extract_lets a1 a2 a3 a4 a5
  have ha5 : Keeps p z a5 := by
    unfold a5
    refine State.setElem_keeps ?_ _ _ _ _
    exact h
  clear_value a5
  refine runCmd_keeps ?_ _ _ _ _ _ _ ?_
  · exact h
  · intro x11
    dsimp only
    refine State.eventNow_keeps ?_ _ _ _ _ _ _ _ _ _ _
    exact ha5

theorem State.finishItem_keeps {p : Part → Prop} {z s : State} (h : Keeps p z s) (lead : Nat) (i : PrintItem) (status : Nat) (_ : p .mem := by first | assumption | decide) (_ : p .recs := by first | assumption | decide) (_ : p .mark := by first | assumption | decide) (_ : p .trestle := by first | assumption | decide) (_ : p .print := by first | assumption | decide) (_ : p .free := by first | assumption | decide) (_ : p .out := by first | assumption | decide) :
    Keeps p z (State.finishItem s lead i status) := by
  unfold State.finishItem
  extract_lets a1 a2
  have ha2 : Keeps p z a2 := by
    unfold a2
    refine State.writeEntry_keeps ?_ _ _ _ _
    refine State.updQueue_keeps ?_ _ _
    exact h
  clear_value a2
  split
  · refine State.passItem_keeps ?_ _ _
    exact ha2
  · exact ha2

theorem State.inputReturns_keeps {p : Part → Prop} {z s : State} (h : Keeps p z s) (inst : Nat) (_ : p .recs := by first | assumption | decide) (_ : p .pos := by first | assumption | decide) (_ : p .vd := by first | assumption | decide) (_ : p .fault := by first | assumption | decide) (_ : p .out := by first | assumption | decide) :
    Keeps p z (State.inputReturns s inst) := by
  unfold State.inputReturns
  extract_lets a1 a2 a3
  have ha1 : Keeps p z a1 := by
    unfold a1
    refine State.returnChannel_keeps ?_ _ _
    exact h
  clear_value a1
  have ha2 : Keeps p z a2 := by
    unfold a2
    split
    · refine State.updTth_keeps ?_ _ _
      exact ha1
    · exact ha1
  clear_value a2
  split
  · split
    · refine State.posChange_keeps ?_ _
      refine ha2.of
    · exact ha2
  · exact ha2

theorem State.chipEvent_keeps {p : Part → Prop} {z s : State} (h : Keeps p z s) (v1 : Nat) (kind : Nat) (a0 : Nat) (a1 : Nat) (_ : p .recs := by first | assumption | decide) (_ : p .trestle := by first | assumption | decide) (_ : p .print := by first | assumption | decide) :
    Keeps p z (State.chipEvent s v1 kind a0 a1) := by
  unfold State.chipEvent
  refine State.eventNow_keeps ?_ _ _ _ _ _ _ _ _ _ _
  exact h

theorem State.bootFailure_keeps {p : Part → Prop} {z s : State} (h : Keeps p z s) (e : BistEntry) (_ : p .sys := by first | assumption | decide) (_ : p .recs := by first | assumption | decide) (_ : p .vd := by first | assumption | decide) (_ : p .dram := by first | assumption | decide) (_ : p .fault := by first | assumption | decide) :
    Keeps p z (State.bootFailure s e) := by
  unfold State.bootFailure
  split
  · split
    · refine State.failEssential_keeps ?_ _ _ _
      exact h
    · refine State.failEssential_keeps ?_ _ _ _
      exact h
    · refine State.failEssential_keeps ?_ _ _ _
      refine h.of
    · split
      · refine State.failEssential_keeps ?_ _ _ _
        exact h
      · refine h.of
    · refine State.failEssential_keeps ?_ _ _ _
      exact h
    · refine h.of
    · refine h.of
    · refine h.of
    · refine h.of
    · refine h.of
    · refine State.failEssential_keeps ?_ _ _ _
      exact h
    · exact h
  · refine Keeps.foldl (fun z23 s24 x25 h26 => ?_) ?_
    · refine State.markUnusable_keeps ?_ _ _
      exact h26
    · exact h
  · refine State.markUnusable_keeps ?_ _ _
    exact h
  · refine State.failEssential_keeps ?_ _ _ _
    exact h
  · refine Keeps.foldl (fun z35 s36 x37 h38 => ?_) ?_
    · refine State.markUnusable_keeps ?_ _ _
      exact h38
    · refine State.markUnusable_keeps ?_ _ _
      exact h
  · refine State.failEssential_keeps ?_ _ _ _
    refine h.of
  · refine State.markUnusable_keeps ?_ _ _
    exact h

theorem State.portRetired_keeps {p : Part → Prop} {z s : State} (h : Keeps p z s) (c : Nat) (code : Nat) (_ : p .recs := by first | assumption | decide) (_ : p .intake := by first | assumption | decide) (_ : p .fault := by first | assumption | decide) :
    Keeps p z (State.portRetired s c code) := by
  unfold State.portRetired
  extract_lets a1
  have ha1 : Keeps p z a1 := by
    unfold a1
    split
    · refine State.retireNow_keeps ?_ _ _ _
      exact h
    · exact h
  clear_value a1
  refine State.voidRetired_keeps ?_ _
  exact ha1

theorem State.cutItems_keeps {p : Part → Prop} {z s : State} (h : Keeps p z s) (v1 : Nat) (lead : Nat) (epoch : Nat) (k : Nat) (g : Grid) (v6 : List PrintItem) (_ : p .recs := by first | assumption | decide) (_ : p .trestle := by first | assumption | decide) (_ : p .print := by first | assumption | decide) :
    Keeps p z (State.cutItems s v1 lead epoch k g v6) := by
  induction v6 generalizing s v1 lead epoch k g
  · rw [State.cutItems]
    exact h
  · rename_i e0 l0 ih
    rw [State.cutItems]
    apply ih
    split
    · exact h
    · refine State.mapItems_keeps ?_ _ _
      refine State.eventNow_keeps ?_ _ _ _ _ _ _ _ _ _ _
      exact h

theorem State.headBack_keeps {p : Part → Prop} {z s : State} (h : Keeps p z s) (v1 : Nat) (_ : p .keeper := by first | assumption | decide) (_ : p .recs := by first | assumption | decide) (_ : p .print := by first | assumption | decide) (_ : p .net := by first | assumption | decide) (_ : p .fault := by first | assumption | decide) (_ : p .out := by first | assumption | decide) :
    Keeps p z (State.headBack s v1) := by
  unfold State.headBack
  extract_lets a1
  split
  · refine State.completeCode_keeps ?_ _ _ _
    refine State.returnChannel_keeps ?_ _ _
    refine State.updHead_keeps ?_ _ _
    exact h
  · exact h

theorem State.stepNow_keeps {p : Part → Prop} {z s : State} (h : Keeps p z s) (m : Move) (_ : p .keeper := by first | assumption | decide) (_ : p .recs := by first | assumption | decide) (_ : p .motion := by first | assumption | decide) (_ : p .net := by first | assumption | decide) (_ : p .now := by first | assumption | decide) (_ : p .out := by first | assumption | decide) :
    Keeps p z (State.stepNow s m) := by
  unfold State.stepNow
  split
  · split
    · refine State.takeStep_keeps ?_ _ _
      exact h
    · exact h
  · exact h

theorem State.inputOccur_keeps {p : Part → Prop} {z s : State} (h : Keeps p z s) (inst : Nat) (code : Nat) (_ : p .recs := by first | assumption | decide) (_ : p .pos := by first | assumption | decide) (_ : p .vd := by first | assumption | decide) (_ : p .fault := by first | assumption | decide) (_ : p .out := by first | assumption | decide) :
    Keeps p z (State.inputOccur s inst code) := by
  unfold State.inputOccur
  extract_lets a1
  have ha1 : Keeps p z a1.2 := by
    unfold a1
    refine State.occur_keeps ?_ _ _ _ _ _
    exact h
  clear_value a1
  split
  · refine State.inputRetired_keeps ?_ _
    exact ha1
  · exact ha1

theorem State.afterRetire_keeps {p : Part → Prop} {z s : State} (h : Keeps p z s) (code : Nat) (_ : p .sys := by first | assumption | decide) (_ : p .recs := by first | assumption | decide) (_ : p .comb := by first | assumption | decide) (_ : p .fault := by first | assumption | decide) :
    Keeps p z (State.afterRetire s code) := by
  unfold State.afterRetire
  extract_lets a1 a2 a3
  have ha1 : Keeps p z a1 := by
    unfold a1
    refine State.retireFrames_keeps ?_ _ _
    exact h
  clear_value a1
  have ha3 : Keeps p z a3 := by
    unfold a3
    refine ha1.of
  clear_value a3
  split
  · refine State.failEssential_keeps ?_ _ _ _
    exact ha3
  · exact ha3

theorem State.noteLine_keeps {p : Part → Prop} {z s : State} (h : Keeps p z s) (v1 : Nat) (epoch : Nat) (k : Nat) (label : Int) (time : Nat) (notes : List LineNote) (_ : p .recs := by first | assumption | decide) (_ : p .trestle := by first | assumption | decide) (_ : p .print := by first | assumption | decide) :
    Keeps p z (State.noteLine s v1 epoch k label time notes) := by
  unfold State.noteLine
  extract_lets a1
  have ha1 : Keeps p z a1 := by
    unfold a1
    refine State.closeEvents_keeps ?_ _ _
    exact h
  clear_value a1
  refine State.updHead_keeps ?_ _ _
  exact ha1

theorem State.endDone_keeps {p : Part → Prop} {z s : State} (h : Keeps p z s) (lead : Nat) (v2 : List PrintItem) (_ : p .mem := by first | assumption | decide) (_ : p .recs := by first | assumption | decide) (_ : p .mark := by first | assumption | decide) (_ : p .trestle := by first | assumption | decide) (_ : p .print := by first | assumption | decide) (_ : p .free := by first | assumption | decide) (_ : p .out := by first | assumption | decide) :
    Keeps p z (State.endDone s lead v2) := by
  induction v2 generalizing s lead
  · rw [State.endDone]
    exact h
  · rename_i e0 l0 ih
    rw [State.endDone]
    apply ih
    split
    · refine State.finishItem_keeps ?_ _ _ _
      exact h
    · exact h

theorem State.lanesBack_keeps {p : Part → Prop} {z s : State} (h : Keeps p z s)  (_ : p .keeper := by first | assumption | decide) (_ : p .recs := by first | assumption | decide) (_ : p .vd := by first | assumption | decide) (_ : p .net := by first | assumption | decide) (_ : p .fault := by first | assumption | decide) (_ : p .out := by first | assumption | decide) :
    Keeps p z (State.lanesBack s) := by
  unfold State.lanesBack
  refine Keeps.foldl (fun z1 s2 x3 h4 => ?_) ?_
  · refine State.laneBack_keeps ?_ _
    exact h4
  · refine h.of

theorem execAxisStep_keeps {p : Part → Prop} {z s : State} (h : Keeps p z s) (a : Nat) (_ : p .keeper := by first | assumption | decide) (_ : p .recs := by first | assumption | decide) (_ : p .motion := by first | assumption | decide) (_ : p .net := by first | assumption | decide) (_ : p .now := by first | assumption | decide) (_ : p .out := by first | assumption | decide) :
    KeepsO p z (execAxisStep a s) := by
  unfold execAxisStep
  split
  · refine KeepsO.next ?_
    exact h
  · split
    · refine KeepsO.next ?_
      exact h
    · refine KeepsO.next ?_
      refine State.takeStep_keeps ?_ _ _
      exact h

theorem State.endEpochPath_keeps {p : Part → Prop} {z s : State} (h : Keeps p z s)  (_ : p .recs := by first | assumption | decide) (_ : p .seg := by first | assumption | decide) :
    Keeps p z (State.endEpochPath s) := by
  unfold State.endEpochPath
  extract_lets a1
  refine State.closeGaps_keeps ?_
  refine h.of

theorem State.portReturns_keeps {p : Part → Prop} {z s : State} (h : Keeps p z s) (c : Nat) (_ : p .keeper := by first | assumption | decide) (_ : p .recs := by first | assumption | decide) (_ : p .intake := by first | assumption | decide) (_ : p .net := by first | assumption | decide) (_ : p .fault := by first | assumption | decide) (_ : p .out := by first | assumption | decide) :
    Keeps p z (State.portReturns s c) := by
  unfold State.portReturns
  extract_lets a1 a2 a3 a4
  have ha2 : Keeps p z a2 := by
    unfold a2
    refine State.portBack_keeps ?_ _
    exact h
  clear_value a2
  have ha3 : Keeps p z a3 := by
    unfold a3
    split
    · refine State.portBack_keeps ?_ _
      exact ha2
    · exact ha2
  clear_value a3
  have ha4 : Keeps p z a4 := by
    unfold a4
    refine State.updCam_keeps ?_ _ _
    exact ha3
  clear_value a4
  split
  · split
    · refine State.complete_keeps ?_ _ _ _
      exact ha4
    · exact ha4
  · exact ha4

theorem State.withdraw_keeps {p : Part → Prop} {z s : State} (h : Keeps p z s) (lead : Nat) (index : Nat) (_ : p .mem := by first | assumption | decide) (_ : p .recs := by first | assumption | decide) (_ : p .mark := by first | assumption | decide) (_ : p .trestle := by first | assumption | decide) (_ : p .print := by first | assumption | decide) (_ : p .free := by first | assumption | decide) (_ : p .out := by first | assumption | decide) :
    Keeps p z (State.withdraw s lead index).1 := by
  unfold State.withdraw
  extract_lets a1 a2 a3 a4 a5 a6 a7
  have ha7 : Keeps p z a7 := by
    unfold a7
    refine State.writeEntry_keeps ?_ _ _ _ _
    refine State.updQueue_keeps ?_ _ _
    exact h
  clear_value a7
  split
  · split
    · exact h
    · extract_lets a15 a16
      have ha16 : Keeps p z a16 := by
        unfold a16
        refine State.headTally_keeps ?_ _ _
        refine State.finishItem_keeps ?_ _ _ _
        exact h
      clear_value a16
      dsimp only
      refine State.itemEvent_keeps ?_ _ _ _ _ _ _
      exact ha16
  · split
    · exact h
    · dsimp only
      refine State.itemEvent_keeps ?_ _ _ _ _ _ _
      exact ha7

theorem State.wdKnown_keeps {p : Part → Prop} {z s : State} (h : Keeps p z s) (wd : Int) (_ : p .mem := by first | assumption | decide) (_ : p .recs := by first | assumption | decide) (_ : p .mark := by first | assumption | decide) (_ : p .trestle := by first | assumption | decide) (_ : p .print := by first | assumption | decide) (_ : p .free := by first | assumption | decide) (_ : p .out := by first | assumption | decide) :
    Keeps p z (State.wdKnown s wd) := by
  unfold State.wdKnown
  refine State.flushLater_keeps ?_ _ _
  refine h.of

theorem State.codecOccur_keeps {p : Part → Prop} {z s : State} (h : Keeps p z s) (unit : Nat) (code : Nat) (line : Nat × Int) (_ : p .recs := by first | assumption | decide) (_ : p .codec := by first | assumption | decide) (_ : p .dram := by first | assumption | decide) (_ : p .fault := by first | assumption | decide) :
    Keeps p z (State.codecOccur s unit code line) := by
  unfold State.codecOccur
  extract_lets a1
  have ha1 : Keeps p z a1.2 := by
    unfold a1
    refine State.occur_keeps ?_ _ _ _ _ _
    exact h
  clear_value a1
  split
  · refine State.shedCodec_keeps ?_
    exact ha1
  · exact ha1

theorem State.endItems_keeps {p : Part → Prop} {z s : State} (h : Keeps p z s) (lead : Nat) (v2 : List PrintItem) (_ : p .mem := by first | assumption | decide) (_ : p .recs := by first | assumption | decide) (_ : p .mark := by first | assumption | decide) (_ : p .trestle := by first | assumption | decide) (_ : p .print := by first | assumption | decide) (_ : p .free := by first | assumption | decide) (_ : p .out := by first | assumption | decide) :
    Keeps p z (State.endItems s lead v2) := by
  induction v2 generalizing s lead
  · rw [State.endItems]
    exact h
  · rename_i e0 l0 ih
    rw [State.endItems]
    apply ih
    refine State.finishItem_keeps ?_ _ _ _
    exact h

theorem State.readUnc_keeps {p : Part → Prop} {z s : State} (h : Keeps p z s) (a : Nat) (_ : p .sys := by first | assumption | decide) (_ : p .recs := by first | assumption | decide) (_ : p .dram := by first | assumption | decide) (_ : p .fault := by first | assumption | decide) :
    Keeps p z (State.readUnc s a) := by
  unfold State.readUnc
  split
  · refine State.dramUnc_keeps ?_ _
    exact h
  · exact h

theorem State.loopRun_keeps {p : Part → Prop} {z s : State} (h : Keeps p z s) (st : StripStats) (_ : p .recs := by first | assumption | decide) (_ : p .intake := by first | assumption | decide) (_ : p .cal := by first | assumption | decide) (_ : p .free := by first | assumption | decide) (_ : p .out := by first | assumption | decide) :
    Keeps p z (State.loopRun s st) := by
  unfold State.loopRun
  extract_lets d target lights moved host deadLight stays trims apply s1
  have ha : ∀ {z' s' : State} (e : CamStats), Keeps p z' s' → Keeps p z' (apply e s') := by
    intro z' s' e h'
    exact Keeps.ite h' (State.addChange_keeps h' _ _ _ _ _ _)
  have h1 : Keeps p z s1 := Keeps.foldl (fun z' s' x h' => ha x h') h
  exact State.kLimits_keeps (State.lightLimits_keeps h1 _ _ _) _ _

/-- The strip account leaves the rings alone. -/
theorem RecState.account_rings (r : RecState) (p : Strip) (area : Nat) : (r.account p area).rings = r.rings := by
  unfold RecState.account
  repeat' split
  all_goals rfl

theorem State.recordsLine_keeps {p : Part → Prop} {z s : State} (h : Keeps p z s) (c : CompLine) (_ : p .mem := by first | assumption | decide) (_ : p .recs := by first | assumption | decide) (_ : p .intake := by first | assumption | decide) (_ : p .stats := by first | assumption | decide) (_ : p .cmp := by first | assumption | decide) :
    Keeps p z (State.recordsLine s c) := by
  unfold State.recordsLine
  extract_lets l strip split s1 _ s2 area _ _
  have h1 : Keeps p z s1 := State.holdCheck_keeps h _
  have h2 : Keeps p z s2 := by
    show Keeps p z (if _ then _ else _)
    split
    · refine h1.of
    · exact State.gapLine_keeps h1 _ _ _ _ _
  exact State.statsReady_keeps (h2.of (hr := congrArg List.length (RecState.account_rings _ _ _)))

theorem State.calLine_keeps {p : Part → Prop} {z s : State} (h : Keeps p z s) (strip : Nat) (_ : p .recs := by first | assumption | decide) (_ : p .cal := by first | assumption | decide) (_ : p .free := by first | assumption | decide) :
    Keeps p z (State.calLine s strip) := by
  unfold State.calLine
  split
  · exact h
  · split
    · exact h
    · extract_lets a5 a6 a7
      have ha7 : Keeps p z a7 := by
        unfold a7
        refine h.of
      clear_value a7
      refine Keeps.forEach (fun z10 s11 x12 h13 => ?_) ?_
      · refine State.calTake_keeps ?_ _ _
        exact h13
      · exact ha7

theorem State.countEvent_keeps {p : Part → Prop} {z s : State} (h : Keeps p z s) (v1 : Nat) (kind : Nat) (count : Nat) (_ : p .recs := by first | assumption | decide) (_ : p .trestle := by first | assumption | decide) (_ : p .print := by first | assumption | decide) :
    Keeps p z (State.countEvent s v1 kind count) := by
  unfold State.countEvent
  refine State.chipEvent_keeps ?_ _ _ _ _
  exact h

theorem State.spanEmit_keeps {p : Part → Prop} {z s : State} (h : Keeps p z s) (bufferError : Option Nat) (_ : p .sys := by first | assumption | decide) (_ : p .recs := by first | assumption | decide) (_ : p .span := by first | assumption | decide) (_ : p .codec := by first | assumption | decide) (_ : p .dram := by first | assumption | decide) (_ : p .fault := by first | assumption | decide) :
    Keeps p z (State.spanEmit s bufferError) := by
  unfold State.spanEmit
  split
  · exact h
  · extract_lets a3 a4 a5 a6 a7 a8 a9 a10
    have ha10 : Keeps p z a10 := by
      unfold a10
      split
      · refine h.of
      · refine State.codecLine_keeps ?_ _
        refine h.of
    clear_value a10
    split
    · exact ha10
    · refine State.occurEssential_keeps ?_ _ _ _ _ _
      exact ha10

theorem State.segErrors_keeps {p : Part → Prop} {z s : State} (h : Keeps p z s) (corrected : Nat) (queueError : Option (Nat × Nat)) (_ : p .recs := by first | assumption | decide) (_ : p .seg := by first | assumption | decide) (_ : p .fault := by first | assumption | decide) (_ : p .free := by first | assumption | decide) :
    Keeps p z (State.segErrors s corrected queueError) := by
  unfold State.segErrors
  extract_lets a1
  have ha1 : Keeps p z a1 := by
    unfold a1
    refine h.of
  clear_value a1
  split
  · exact ha1
  · extract_lets a6
    have ha6 : Keeps p z a6.2 := by
      unfold a6
      refine State.occur_keeps ?_ _ _ _ _ _
      refine State.queueEntryError_keeps ?_ _ _
      exact ha1
    clear_value a6
    split
    · refine State.segmenterRetired_keeps ?_
      exact ha6
    · exact ha6

theorem State.parityErrors_keeps {p : Part → Prop} {z s : State} (h : Keeps p z s) (v1 : Nat) (_ : p .recs := by first | assumption | decide) (_ : p .fault := by first | assumption | decide) :
    Keeps p z (State.parityErrors s v1) := by
  induction v1 generalizing s
  · rw [State.parityErrors]
    exact h
  · rename_i i0 ih
    rw [State.parityErrors]
    apply ih
    refine State.occur_keeps ?_ _ _ _ _ _
    exact h

theorem State.windowEnd_keeps {p : Part → Prop} {z s : State} (h : Keeps p z s) (v1 : Nat) (k : Nat) (_ : p .recs := by first | assumption | decide) (_ : p .trestle := by first | assumption | decide) (_ : p .print := by first | assumption | decide) :
    Keeps p z (State.windowEnd s v1 k) := by
  unfold State.windowEnd
  split
  · split
    · refine State.closeEvents_keeps ?_ _ _
      exact h
    · exact h
  · exact h

theorem execStatsLine_keeps {p : Part → Prop} {z s : State} (h : Keeps p z s)  (_ : p .mem := by first | assumption | decide) (_ : p .recs := by first | assumption | decide) (_ : p .intake := by first | assumption | decide) (_ : p .span := by first | assumption | decide) (_ : p .stats := by first | assumption | decide) :
    KeepsO p z (execStatsLine s) := by
  unfold execStatsLine
  split
  · refine KeepsO.next ?_
    exact h
  · extract_lets a4 a5 a6 a7 a8
    have ha5 : Keeps p z a5 := by
      unfold a5
      refine h.of
    clear_value a5
    have ha6 : Keeps p z a6 := by
      unfold a6
      split
      · split
        · refine State.endStrip_keeps ?_
          exact ha5
        · exact ha5
      · exact ha5
    clear_value a6
    split
    · refine KeepsO.next ?_
      exact ha5
    · refine KeepsO.next ?_
      refine State.endStrip_keeps ?_
      refine ha6.of

theorem State.tableOccur_keeps {p : Part → Prop} {z s : State} (h : Keeps p z s) (c : Nat) (line : Nat × Int) (_ : p .recs := by first | assumption | decide) (_ : p .intake := by first | assumption | decide) (_ : p .fault := by first | assumption | decide) :
    Keeps p z (State.tableOccur s c line) := by
  unfold State.tableOccur
  extract_lets a1
  have ha1 : Keeps p z a1.2 := by
    unfold a1
    refine State.occur_keeps ?_ _ _ _ _ _
    exact h
  clear_value a1
  split
  · refine State.portRetired_keeps ?_ _ _
    refine State.retireNow_keeps ?_ _ _ _
    exact ha1
  · exact ha1

theorem State.portOccur_keeps {p : Part → Prop} {z s : State} (h : Keeps p z s) (c : Nat) (code : Nat) (line : Nat × Int) (_ : p .recs := by first | assumption | decide) (_ : p .intake := by first | assumption | decide) (_ : p .fault := by first | assumption | decide) :
    Keeps p z (State.portOccur s c code line) := by
  unfold State.portOccur
  extract_lets a1
  have ha1 : Keeps p z a1.2 := by
    unfold a1
    refine State.occur_keeps ?_ _ _ _ _ _
    exact h
  clear_value a1
  split
  · refine State.portRetired_keeps ?_ _ _
    exact ha1
  · exact ha1

theorem State.judge_keeps {p : Part → Prop} {z s : State} (h : Keeps p z s) (d : Container) (v2 : Nat) (first : Int) (at' : Option (Nat × Nat)) (j : Nat × Bool) (_ : p .recs := by first | assumption | decide) (_ : p .trestle := by first | assumption | decide) (_ : p .print := by first | assumption | decide) :
    Keeps p z (State.judge s d v2 first at' j) := by
  unfold State.judge
  extract_lets a1 a2 a3 a4 a5
  have ha4 : Keeps p z a4 := by
    unfold a4
    refine State.updHead_keeps ?_ _ _
    exact h
  clear_value a4
  split
  · refine State.updHead_keeps ?_ _ _
    exact h
  · split
    · exact ha4
    · refine State.uncoverPartner_keeps ?_ _ _ _
      refine State.deadEvents_keeps ?_ _ _ _ _ _
      refine State.setElem_keeps ?_ _ _ _ _
      exact ha4

theorem State.inputOverflow_keeps {p : Part → Prop} {z s : State} (h : Keeps p z s) (inst : Nat) (_ : p .recs := by first | assumption | decide) (_ : p .pos := by first | assumption | decide) (_ : p .vd := by first | assumption | decide) (_ : p .fault := by first | assumption | decide) (_ : p .free := by first | assumption | decide) (_ : p .out := by first | assumption | decide) :
    Keeps p z (State.inputOverflow s inst) := by
  unfold State.inputOverflow
  refine State.inputOccur_keeps ?_ _ _
  extract_lets a2 a3
  have ha2 : Keeps p z a2 := by
    unfold a2
    refine State.drawn_keeps ?_
    exact h
  refine ha2.of

theorem execSensorTransferDone_keeps {p : Part → Prop} {z s : State} (h : Keeps p z s) (r : SensorResult) (_ : p .recs := by first | assumption | decide) (_ : p .intake := by first | assumption | decide) (_ : p .fault := by first | assumption | decide) (_ : p .out := by first | assumption | decide) :
    KeepsO p z (execSensorTransferDone r s) := by
  unfold execSensorTransferDone
  extract_lets a1 a2
  have ha2 : Keeps p z a2 := by
    unfold a2
    refine State.updCam_keeps ?_ _ _
    exact h
  clear_value a2
  split
  · refine KeepsO.next ?_
    exact h
  · split
    · refine KeepsO.next ?_
      exact h
    · split
      · refine KeepsO.next ?_
        refine State.portOccur_keeps ?_ _ _ _
        refine State.retryChange_keeps ?_ _
        exact h
      · split
        · extract_lets a18
          refine KeepsO.next ?_
          split
          · refine State.startCommit_keeps ?_ _
            exact ha2
          · refine State.commitAtFrame_keeps ?_ _
            exact ha2
        · refine KeepsO.next ?_
          refine State.commitDone_keeps ?_ _ _ _
          exact h

theorem State.switchHook_keeps {p : Part → Prop} {z s : State} (h : Keeps p z s) (pre : State) (_ : p .mem := by first | assumption | decide) (_ : p .keeper := by first | assumption | decide) (_ : p .recs := by first | assumption | decide) (_ : p .mark := by first | assumption | decide) (_ : p .trestle := by first | assumption | decide) (_ : p .cal := by first | assumption | decide) (_ : p .reg := by first | assumption | decide) (_ : p .codec := by first | assumption | decide) (_ : p .comb := by first | assumption | decide) (_ : p .print := by first | assumption | decide) (_ : p .mon := by first | assumption | decide) (_ : p .free := by first | assumption | decide) (_ : p .out := by first | assumption | decide) :
    Keeps p z (State.switchHook s pre) := by
  unfold State.switchHook
  split
  · exact h
  · extract_lets a3 a4 a5 a6 a7 a8 a9 a10
    have ha10 : Keeps p z a10 := by
      unfold a10
      refine h.of
    clear_value a10
    refine State.learnEnds_keeps ?_ _ _
    refine State.wdKnown_keeps ?_ _
    exact ha10

theorem State.taskFault_keeps {p : Part → Prop} {z s : State} (h : Keeps p z s) (t : Task) (cell : Nat) (code : Nat) (frameStore : Bool) (_ : p .mem := by first | assumption | decide) (_ : p .sys := by first | assumption | decide) (_ : p .recs := by first | assumption | decide) (_ : p .mark := by first | assumption | decide) (_ : p .trestle := by first | assumption | decide) (_ : p .seg := by first | assumption | decide) (_ : p .comb := by first | assumption | decide) (_ : p .fault := by first | assumption | decide) (_ : p .free := by first | assumption | decide) (_ : p .out := by first | assumption | decide) :
    Keeps p z (State.taskFault s t cell code frameStore) := by
  unfold State.taskFault
  extract_lets a1 a2 a3 a4 a5 a6 a7 a8 a9 a10 a11
  have ha3 : Keeps p z a3.2 := by
    unfold a3
    split
    · refine State.occur_keeps ?_ _ _ _ _ _
      exact h
    · refine State.occur_keeps ?_ _ _ _ _ _
      exact h
  clear_value a3
  have ha5 : Keeps p z a5 := by
    unfold a5
    exact ha3
  have ha6 : Keeps p z a6 := by
    unfold a6
    refine ha5.of
  clear_value a6
  have ha7 : Keeps p z a7 := by
    unfold a7
    refine State.dropFaulted_keeps ?_ _ _ _
    exact ha6
  clear_value a7
  have ha9 : Keeps p z a9 := by
    unfold a9
    refine State.setTask_keeps ?_ _
    exact ha6
  clear_value a9
  have ha11 : Keeps p z a11 := by
    unfold a11
    split
    · split
      · refine ha7.of
      · exact ha7
    · refine ha9.of
  clear_value a11
  split
  · refine State.afterRetire_keeps ?_ _
    exact ha11
  · exact ha11

theorem State.closeCoded_keeps {p : Part → Prop} {z s : State} (h : Keeps p z s) (ov : Bool) (error : Option Nat) (corrected : List Nat) (_ : p .mem := by first | assumption | decide) (_ : p .recs := by first | assumption | decide) (_ : p .codec := by first | assumption | decide) (_ : p .dram := by first | assumption | decide) (_ : p .fault := by first | assumption | decide) :
    Keeps p z (State.closeCoded s ov error corrected) := by
  unfold State.closeCoded
  extract_lets a1 a2 a3 a4
  have ha2 : Keeps p z a2 := by
    unfold a2
    refine h.of
  clear_value a2
  have ha3 : Keeps p z a3 := by
    unfold a3
    refine State.closeGroup_keeps ?_ _ _
    exact ha2
  clear_value a3
  split
  · refine State.closeGroup_keeps ?_ _ _
    exact ha2
  · refine State.codecOccur_keeps ?_ _ _ _
    refine ha3.of

theorem State.judgeAll_keeps {p : Part → Prop} {z s : State} (h : Keeps p z s) (d : Container) (v2 : Nat) (first : Int) (at' : Option (Nat × Nat)) (v5 : List (Nat × Bool)) (_ : p .recs := by first | assumption | decide) (_ : p .trestle := by first | assumption | decide) (_ : p .print := by first | assumption | decide) :
    Keeps p z (State.judgeAll s d v2 first at' v5) := by
  induction v5 generalizing s d v2 first at'
  · rw [State.judgeAll]
    exact h
  · rename_i e0 l0 ih
    rw [State.judgeAll]
    apply ih
    refine State.judge_keeps ?_ _ _ _ _ _
    exact h

theorem State.spanLine_keeps {p : Part → Prop} {z s : State} (h : Keeps p z s) (bufferError : Option Nat) (_ : p .sys := by first | assumption | decide) (_ : p .recs := by first | assumption | decide) (_ : p .span := by first | assumption | decide) (_ : p .codec := by first | assumption | decide) (_ : p .comb := by first | assumption | decide) (_ : p .dram := by first | assumption | decide) (_ : p .fault := by first | assumption | decide) :
    Keeps p z (State.spanLine s bufferError) := by
  unfold State.spanLine
  split
  · exact h
  · extract_lets a3
    have ha3 : Keeps p z a3 := by
      unfold a3
      refine State.spanEmit_keeps ?_ _
      exact h
    clear_value a3
    split
    · exact ha3
    · refine State.noteRepeat_keeps ?_ _
      exact ha3

theorem State.splitPair_keeps {p : Part → Prop} {z s : State} (h : Keeps p z s) (cause : Nat) (_ : p .keeper := by first | assumption | decide) (_ : p .recs := by first | assumption | decide) (_ : p .pos := by first | assumption | decide) (_ : p .seg := by first | assumption | decide) (_ : p .vd := by first | assumption | decide) (_ : p .net := by first | assumption | decide) (_ : p .fault := by first | assumption | decide) (_ : p .out := by first | assumption | decide) :
    Keeps p z (State.splitPair s cause) := by
  unfold State.splitPair
  split
  · exact h
  · extract_lets a3 a4 a5 a6 a7 a8
    have ha3 : Keeps p z a3 := by
      unfold a3
      refine State.closeSeam_keeps ?_
      exact h
    clear_value a3
    have ha8 : Keeps p z a8 := by
      unfold a8
      refine ha3.of
    clear_value a8
    refine State.lanesBack_keeps ?_
    refine State.notifyIn_keeps ?_ _ _ _ _ _ _ _ _
    refine State.ownPosition_keeps ?_
    exact ha8

theorem State.portsReturn_keeps {p : Part → Prop} {z s : State} (h : Keeps p z s)  (_ : p .keeper := by first | assumption | decide) (_ : p .recs := by first | assumption | decide) (_ : p .intake := by first | assumption | decide) (_ : p .net := by first | assumption | decide) (_ : p .fault := by first | assumption | decide) (_ : p .out := by first | assumption | decide) :
    Keeps p z (State.portsReturn s) := by
  unfold State.portsReturn
  refine Keeps.forEach (fun z1 s2 x3 h4 => ?_) ?_
  · split
    · refine State.portReturns_keeps ?_ _
      exact h4
    · exact h4
  · exact h

theorem State.withBad_keeps {p : Part → Prop} {z s : State} (h : Keeps p z s) (bad : List (Nat × Nat × Nat)) (_ : p .recs := by first | assumption | decide) (_ : p .codec := by first | assumption | decide) (_ : p .dram := by first | assumption | decide) (_ : p .fault := by first | assumption | decide) :
    Keeps p z (State.withBad s bad) := by
  unfold State.withBad
  refine Keeps.foldl (fun z1 s2 x3 h4 => ?_) ?_
  · refine State.codecOccur_keeps ?_ _ _ _
    exact h4
  · refine h.of

theorem State.dmaEnd_keeps {p : Part → Prop} {z s : State} (h : Keeps p z s) (c : Nat) (d : DmaDesc) (eccAt : Option Nat) (_ : p .mem := by first | assumption | decide) (_ : p .sys := by first | assumption | decide) (_ : p .hif := by first | assumption | decide) (_ : p .recs := by first | assumption | decide) (_ : p .comb := by first | assumption | decide) (_ : p .dram := by first | assumption | decide) (_ : p .dma := by first | assumption | decide) (_ : p .fault := by first | assumption | decide) (_ : p .free := by first | assumption | decide) (_ : p .out := by first | assumption | decide) :
    Keeps p z (State.dmaEnd s c d eccAt) := by
  unfold State.dmaEnd
  extract_lets a1 a2 a3 a4 a5 a6 a7
  have ha3 : Keeps p z a3.1 := by
    unfold a3
    refine State.dmaApply_keeps ?_ _ _ _ _
    exact h
  clear_value a3
  have ha5 : Keeps p z a5 := by
    unfold a5
    split
    · split
      · refine State.readUnc_keeps ?_ _
        refine State.drawn_keeps ?_
        exact ha3
      · refine State.drawn_keeps ?_
        exact ha3
    · refine State.drawn_keeps ?_
      exact ha3
  clear_value a5
  have ha6 : Keeps p z a6 := by
    unfold a6
    refine State.dmaBack_keeps ?_ _ _ _
    exact ha5
  clear_value a6
  have ha7 : Keeps p z a7 := by
    unfold a7
    refine State.updDma_keeps ?_ _ _
    exact ha6
  clear_value a7
  split
  · refine State.dmaIrq_keeps ?_ _
    exact ha7
  · exact ha7

theorem State.settleItems_keeps {p : Part → Prop} {z s : State} (h : Keeps p z s) (lead : Nat) (_ : p .mem := by first | assumption | decide) (_ : p .recs := by first | assumption | decide) (_ : p .mark := by first | assumption | decide) (_ : p .trestle := by first | assumption | decide) (_ : p .print := by first | assumption | decide) (_ : p .free := by first | assumption | decide) (_ : p .out := by first | assumption | decide) :
    Keeps p z (State.settleItems s lead) := by
  unfold State.settleItems
  refine State.endDone_keeps ?_ _ _
  exact h

theorem execHomeInputChange_keeps {p : Part → Prop} {z s : State} (h : Keeps p z s) (a : Nat) (level : Bool) (_ : p .keeper := by first | assumption | decide) (_ : p .recs := by first | assumption | decide) (_ : p .motion := by first | assumption | decide) (_ : p .net := by first | assumption | decide) (_ : p .now := by first | assumption | decide) (_ : p .out := by first | assumption | decide) :
    KeepsO p z (execHomeInputChange a level s) := by
  unfold execHomeInputChange
  extract_lets a1
  have ha1 : Keeps p z a1 := by
    unfold a1
    split
    · refine State.stepNow_keeps ?_ _
      exact h
    · exact h
  clear_value a1
  refine KeepsO.next ?_
  refine State.homeChange_keeps ?_ _ _
  refine State.updAxis_keeps ?_ _ _
  exact ha1

theorem State.beginWrite_keeps {p : Part → Prop} {z s : State} (h : Keeps p z s) (v1 : Nat) (_ : p .keeper := by first | assumption | decide) (_ : p .recs := by first | assumption | decide) (_ : p .trestle := by first | assumption | decide) (_ : p .print := by first | assumption | decide) (_ : p .net := by first | assumption | decide) (_ : p .free := by first | assumption | decide) (_ : p .out := by first | assumption | decide) :
    Keeps p z (State.beginWrite s v1) := by
  unfold State.beginWrite
  extract_lets a1 a2
  have ha2 : Keeps p z a2 := by
    unfold a2
    refine State.updChip_keeps ?_ _ _
    exact h
  clear_value a2
  split
  · refine State.challenge_keeps ?_ _
    refine State.emit_keeps ?_ _
    exact ha2
  · refine State.chipDone_keeps ?_ _ _ _ _
    refine State.countEvent_keeps ?_ _ _ _
    refine State.updChip_keeps ?_ _ _
    exact h

theorem State.payloadOccur_keeps {p : Part → Prop} {z s : State} (h : Keeps p z s) (c : Nat) (need : Nat) (v3 : CsiPacket) (line : Nat × Int) (_ : p .recs := by first | assumption | decide) (_ : p .intake := by first | assumption | decide) (_ : p .fault := by first | assumption | decide) :
    Keeps p z (State.payloadOccur s c need v3 line) := by
  unfold State.payloadOccur
  extract_lets a1 a2
  have ha1 : Keeps p z a1 := by
    unfold a1
    split
    · exact h
    · refine State.portOccur_keeps ?_ _ _ _
      exact h
  clear_value a1
  have ha2 : Keeps p z a2 := by
    unfold a2
    split
    · refine State.portOccur_keeps ?_ _ _ _
      exact ha1
    · exact ha1
  clear_value a2
  refine Keeps.foldl (fun z12 s13 x14 h15 => ?_) ?_
  · refine State.tableOccur_keeps ?_ _ _
    exact h15
  · exact ha2

theorem execPrintWithdraw_keeps {p : Part → Prop} {z s : State} (h : Keeps p z s) (q : Req) (lead : Nat) (index : Nat) (_ : p .mem := by first | assumption | decide) (_ : p .mbx := by first | assumption | decide) (_ : p .recs := by first | assumption | decide) (_ : p .mark := by first | assumption | decide) (_ : p .trestle := by first | assumption | decide) (_ : p .print := by first | assumption | decide) (_ : p .free := by first | assumption | decide) (_ : p .out := by first | assumption | decide) :
    KeepsO p z (execPrintWithdraw q lead index s) := by
  unfold execPrintWithdraw
  extract_lets a1
  have ha1 : Keeps p z a1.1 := by
    unfold a1
    refine State.withdraw_keeps ?_ _ _
    exact h
  clear_value a1
  refine runCmd_keeps ?_ _ _ _ _ _ _ ?_
  · exact h
  · intro x7
    exact ha1

theorem State.comesBack_keeps {p : Part → Prop} {z s : State} (h : Keeps p z s) (block : Nat) (inst : Nat) (_ : p .mem := by first | assumption | decide) (_ : p .keeper := by first | assumption | decide) (_ : p .recs := by first | assumption | decide) (_ : p .pos := by first | assumption | decide) (_ : p .intake := by first | assumption | decide) (_ : p .codec := by first | assumption | decide) (_ : p .print := by first | assumption | decide) (_ : p .vd := by first | assumption | decide) (_ : p .net := by first | assumption | decide) (_ : p .dram := by first | assumption | decide) (_ : p .fault := by first | assumption | decide) (_ : p .out := by first | assumption | decide) :
    Keeps p z (State.comesBack s block inst) := by
  unfold State.comesBack
  split
  · split
    · refine State.completeCode_keeps ?_ _ _ _
      refine State.portBack_keeps ?_ _
      exact h
    · split
      · refine State.updCam_keeps ?_ _ _
        exact h
      · refine State.portReturns_keeps ?_ _
        exact h
  · refine State.completeCode_keeps ?_ _ _ _
    refine State.shedCodec_keeps ?_
    refine State.returnChannel_keeps ?_ _ _
    exact h
  · refine State.backNow_keeps ?_ _ _
    refine State.frameParams_keeps ?_ _
    exact h
  · refine State.hsenHigh_keeps ?_ _
    refine State.updHead_keeps ?_ _ _
    exact h
  · refine State.completeCode_keeps ?_ _ _ _
    refine State.inputReturns_keeps ?_ _
    exact h
  · split
    · refine h.of
    · refine State.laneBack_keeps ?_ _
      exact h
  · refine State.backNow_keeps ?_ _ _
    exact h

theorem State.deliver_keeps {p : Part → Prop} {z s : State} (h : Keeps p z s) (parity : List Nat) (_ : p .recs := by first | assumption | decide) (_ : p .mark := by first | assumption | decide) (_ : p .trestle := by first | assumption | decide) (_ : p .pio := by first | assumption | decide) (_ : p .intake := by first | assumption | decide) (_ : p .comb := by first | assumption | decide) (_ : p .print := by first | assumption | decide) (_ : p .fault := by first | assumption | decide) (_ : p .free := by first | assumption | decide) (_ : p .out := by first | assumption | decide) :
    Keeps p z (State.deliver s parity) := by
  unfold State.deliver
  split
  · exact h
  · extract_lets a3 a4 a5 a6 a7 a8 a9 a10
    split
    · refine h.of
    · refine State.deliverSpeed_keeps ?_ _
      refine State.deliverStages_keeps ?_ _ _
      refine State.deliverInputs_keeps ?_ _ _
      refine State.parityErrors_keeps ?_ _
      refine h.of

theorem State.finishSwap_keeps {p : Part → Prop} {z s : State} (h : Keeps p z s)  (_ : p .mem := by first | assumption | decide) (_ : p .deck := by first | assumption | decide) (_ : p .recs := by first | assumption | decide) (_ : p .mark := by first | assumption | decide) (_ : p .trestle := by first | assumption | decide) (_ : p .pio := by first | assumption | decide) (_ : p .intake := by first | assumption | decide) (_ : p .cal := by first | assumption | decide) (_ : p .reg := by first | assumption | decide) (_ : p .comb := by first | assumption | decide) (_ : p .print := by first | assumption | decide) (_ : p .mon := by first | assumption | decide) (_ : p .vd := by first | assumption | decide) (_ : p .free := by first | assumption | decide) (_ : p .out := by first | assumption | decide) :
    Keeps p z (State.finishSwap s) := by
  unfold State.finishSwap
  split
  · exact h
  · extract_lets a3 a4 a5 a6 a7
    have ha3 : Keeps p z a3 := by
      unfold a3
      refine State.swapBegins_keeps ?_ _
      exact h
    clear_value a3
    have ha4 : Keeps p z a4 := by
      unfold a4
      refine State.activate_keeps ?_ _
      exact ha3
    clear_value a4
    have ha5 : Keeps p z a5 := by
      unfold a5
      split
      · exact ha3
      · refine State.notifyIn_keeps ?_ _ _ _ _ _ _ _ _
        exact ha4
    clear_value a5
    have ha7 : Keeps p z a7 := by
      unfold a7
      refine ha5.of
    clear_value a7
    refine State.notify_keeps ?_ _ _ _ _
    split
    · exact ha7
    · refine State.wdKnown_keeps ?_ _
      exact ha7

theorem State.toothReference_keeps {p : Part → Prop} {z s : State} (h : Keeps p z s) (k : Nat) (_ : p .recs := by first | assumption | decide) (_ : p .pos := by first | assumption | decide) (_ : p .vd := by first | assumption | decide) (_ : p .fault := by first | assumption | decide) (_ : p .out := by first | assumption | decide) :
    KeepsO p z (State.toothReference s k) := by
  unfold State.toothReference
  extract_lets a1 a2 a3 a4 a5 a6 a7 a8
  have ha5 : Keeps p z a5 := by
    unfold a5
    refine h.of
  clear_value a5
  have ha7 : Keeps p z a7 := by
    unfold a7
    refine State.updTth_keeps ?_ _ _
    exact ha5
  clear_value a7
  have ha8 : Keeps p z a8 := by
    unfold a8
    split
    · refine State.inputOccur_keeps ?_ _ _
      exact ha7
    · exact ha7
  clear_value a8
  split
  · split
    · exact KeepsO.fault _ _
    · refine KeepsO.next ?_
      refine ha8.of
  · refine KeepsO.next ?_
    exact ha8

theorem State.serialFail_keeps {p : Part → Prop} {z s : State} (h : Keeps p z s) (k : Nat) (code : Nat) (f : Serial → Serial) (_ : p .recs := by first | assumption | decide) (_ : p .pos := by first | assumption | decide) (_ : p .vd := by first | assumption | decide) (_ : p .fault := by first | assumption | decide) (_ : p .out := by first | assumption | decide) :
    Keeps p z (State.serialFail s k code f) := by
  unfold State.serialFail
  extract_lets a1 a2
  have ha2 : Keeps p z a2 := by
    unfold a2
    refine State.updSenc_keeps ?_ _ _
    exact h
  clear_value a2
  refine State.inputOccur_keeps ?_ _ _
  exact ha2

theorem State.closeFrame_keeps {p : Part → Prop} {z s : State} (h : Keeps p z s) (c : Nat) (v2 : Strip) (_ : p .recs := by first | assumption | decide) (_ : p .intake := by first | assumption | decide) (_ : p .fault := by first | assumption | decide) :
    Keeps p z (State.closeFrame s c v2) := by
  unfold State.closeFrame
  extract_lets a1 a2 a3 a4
  have ha3 : Keeps p z a3 := by
    unfold a3
    refine State.updCam_keeps ?_ _ _
    exact h
  clear_value a3
  have ha4 : Keeps p z a4 := by
    unfold a4
    refine Keeps.foldl (fun z8 s9 x10 h11 => ?_) ?_
    · refine State.correct_keeps ?_ _ _ _
      exact h11
    · exact ha3
  clear_value a4
  split
  · refine State.portOccur_keeps ?_ _ _ _
    exact ha4
  · exact ha4

theorem execLoopResultReady_keeps {p : Part → Prop} {z s : State} (h : Keeps p z s)  (_ : p .recs := by first | assumption | decide) (_ : p .intake := by first | assumption | decide) (_ : p .stats := by first | assumption | decide) (_ : p .cal := by first | assumption | decide) (_ : p .free := by first | assumption | decide) (_ : p .out := by first | assumption | decide) :
    KeepsO p z (execLoopResultReady s) := by
  unfold execLoopResultReady
  split
  · refine KeepsO.next ?_
    exact h
  · split
    · refine KeepsO.next ?_
      refine State.loopRun_keeps ?_ _
      refine h.of
    · refine KeepsO.next ?_
      exact h

theorem State.checkCopies_keeps {p : Part → Prop} {z s : State} (h : Keeps p z s) (v1 : List (Nat × Bool)) (_ : p .sys := by first | assumption | decide) (_ : p .recs := by first | assumption | decide) (_ : p .comb := by first | assumption | decide) (_ : p .fault := by first | assumption | decide) :
    Keeps p z (State.checkCopies s v1) := by
  induction v1 generalizing s
  · rw [State.checkCopies]
    exact h
  · rename_i e0 l0 ih
    rw [State.checkCopies]
    split
    · apply ih
      exact h
    · extract_lets a5 a6 a7 a8 a9
      have ha5 : Keeps p z a5.2 := by
        unfold a5
        refine State.occur_keeps ?_ _ _ _ _ _
        exact h
      clear_value a5
      have ha6 : Keeps p z a6 := by
        unfold a6
        exact ha5
      have ha8 : Keeps p z a8 := by
        unfold a8
        refine ha6.of
      clear_value a8
      have ha9 : Keeps p z a9 := by
        unfold a9
        split
        · refine State.afterRetire_keeps ?_ _
          exact ha8
        · split
          · refine State.afterRetire_keeps ?_ _
            refine State.retireNow_keeps ?_ _ _ _
            exact ha8
          · exact ha8
      clear_value a9
      apply ih
      exact ha9

theorem State.bandErrors_keeps {p : Part → Prop} {z s : State} (h : Keeps p z s) (l : LineSlot) (v2 : List BandHit) (_ : p .recs := by first | assumption | decide) (_ : p .reg := by first | assumption | decide) (_ : p .codec := by first | assumption | decide) (_ : p .dram := by first | assumption | decide) (_ : p .fault := by first | assumption | decide) :
    Keeps p z (State.bandErrors s l v2) := by
  induction v2 generalizing s l
  · rw [State.bandErrors]
    exact h
  · rename_i e0 l0 ih
    rw [State.bandErrors]
    apply ih
    split
    · refine State.codecOccur_keeps ?_ _ _ _
      refine h.of
    · refine h.of

theorem State.killFrame_keeps {p : Part → Prop} {z s : State} (h : Keeps p z s) (c : Nat) (cause : Nat) (_ : p .recs := by first | assumption | decide) (_ : p .intake := by first | assumption | decide) (_ : p .fault := by first | assumption | decide) :
    Keeps p z (State.killFrame s c cause) := by
  unfold State.killFrame
  split
  · exact h
  · split
    · exact h
    · extract_lets a5
      have ha5 : Keeps p z a5 := by
        unfold a5
        refine State.updCam_keeps ?_ _ _
        exact h
      clear_value a5
      refine State.portOccur_keeps ?_ _ _ _
      exact ha5

theorem execEncoderZEdge_keeps {p : Part → Prop} {z s : State} (h : Keeps p z s) (k : Nat) (t : Nat) (_ : p .recs := by first | assumption | decide) (_ : p .trestle := by first | assumption | decide) (_ : p .pos := by first | assumption | decide) (_ : p .vd := by first | assumption | decide) (_ : p .net := by first | assumption | decide) (_ : p .fault := by first | assumption | decide) (_ : p .now := by first | assumption | decide) (_ : p .out := by first | assumption | decide) :
    KeepsO p z (execEncoderZEdge k t s) := by
  unfold execEncoderZEdge
  split
  · refine KeepsO.next ?_
    exact h
  · extract_lets a4 a5 a6 a7 a8 a9 a10
    have ha4 : Keeps p z a4 := by
      unfold a4
      refine State.advance_keeps ?_ _
      exact h
    clear_value a4
    have ha9 : Keeps p z a9 := by
      unfold a9
      refine State.updEnc_keeps ?_ _ _
      exact ha4
    clear_value a9
    have ha10 : Keeps p z a10 := by
      unfold a10
      refine State.publish_keeps ?_ _ _
      exact ha9
    clear_value a10
    split
    · refine KeepsO.next ?_
      exact ha4
    · refine KeepsO.next ?_
      split
      · refine State.inputOccur_keeps ?_ _ _
        exact ha10
      · exact ha10

theorem State.lastSteps_keeps {p : Part → Prop} {z s : State} (h : Keeps p z s)  (_ : p .keeper := by first | assumption | decide) (_ : p .recs := by first | assumption | decide) (_ : p .motion := by first | assumption | decide) (_ : p .net := by first | assumption | decide) (_ : p .now := by first | assumption | decide) (_ : p .out := by first | assumption | decide) :
    Keeps p z (State.lastSteps s) := by
  unfold State.lastSteps
  refine Keeps.foldl (fun z1 s2 x3 h4 => ?_) ?_
  · refine State.stepNow_keeps ?_ _
    exact h4
  · exact h

theorem State.endIfIdle_keeps {p : Part → Prop} {z s : State} (h : Keeps p z s)  (_ : p .recs := by first | assumption | decide) (_ : p .seg := by first | assumption | decide) :
    Keeps p z (State.endIfIdle s) := by
  unfold State.endIfIdle
  split
  · refine State.endEpochPath_keeps ?_
    exact h
  · exact h

theorem execBandDecode_keeps {p : Part → Prop} {z s : State} (h : Keeps p z s) (error : Option (Nat × Nat)) (codecUnit : Nat) (_ : p .recs := by first | assumption | decide) (_ : p .reg := by first | assumption | decide) (_ : p .codec := by first | assumption | decide) (_ : p .dram := by first | assumption | decide) (_ : p .fault := by first | assumption | decide) :
    KeepsO p z (execBandDecode error s codecUnit) := by
  unfold execBandDecode
  extract_lets a1
  clear_value a1
  split
  · refine KeepsO.next ?_
    exact h
  · extract_lets a6 a7 a8
    split
    · refine KeepsO.next ?_
      exact h
    · extract_lets a13 a14 a15 a16 a17 a18 a19 a20
      have ha17 : Keeps p z a17 := by
        unfold a17
        refine State.decodeBand_keeps ?_ _ _ _ _
        exact h
      clear_value a17
      have ha20 : Keeps p z a20 := by
        unfold a20
        refine ha17.of
      clear_value a20
      split
      · exact KeepsO.fault _ _
      · refine KeepsO.next ?_
        split
        · refine State.codecOccur_keeps ?_ _ _ _
          exact ha20
        · exact ha20

theorem State.checkLimit_keeps {p : Part → Prop} {z s : State} (h : Keeps p z s) (v1 : Nat) (_ : p .recs := by first | assumption | decide) (_ : p .trestle := by first | assumption | decide) (_ : p .print := by first | assumption | decide) :
    Keeps p z (State.checkLimit s v1) := by
  unfold State.checkLimit
  extract_lets a1 a2
  split
  · refine State.updChip_keeps ?_ _ _
    exact h
  · split
    · exact h
    · refine State.countEvent_keeps ?_ _ _ _
      refine State.updChip_keeps ?_ _ _
      exact h

theorem State.geometryHit_keeps {p : Part → Prop} {z s : State} (h : Keeps p z s) (d : Container) (ser : Nat) (x : Nat × EccHit) (_ : p .recs := by first | assumption | decide) (_ : p .intake := by first | assumption | decide) (_ : p .fault := by first | assumption | decide) :
    Keeps p z (State.geometryHit s d ser x) := by
  unfold State.geometryHit
  extract_lets a1 a2 a3 a4 a5 a6
  have ha4 : Keeps p z a4 := by
    unfold a4
    refine State.updCam_keeps ?_ _ _
    exact h
  clear_value a4
  have ha6 : Keeps p z a6 := by
    unfold a6
    refine State.updCam_keeps ?_ _ _
    exact ha4
  clear_value a6
  split
  · exact ha4
  · split
    · refine State.tableOccur_keeps ?_ _ _
      exact ha6
    · exact ha6

theorem State.placeInStrip_keeps {p : Part → Prop} {z s : State} (h : Keeps p z s) (slot : LineSlot) (ser : Nat) (_ : p .keeper := by first | assumption | decide) (_ : p .recs := by first | assumption | decide) (_ : p .intake := by first | assumption | decide) (_ : p .net := by first | assumption | decide) (_ : p .fault := by first | assumption | decide) (_ : p .out := by first | assumption | decide) :
    Keeps p z (State.placeInStrip s slot ser) := by
  unfold State.placeInStrip
  split
  · extract_lets a2 a3 a4 a5 a6 a7
    have ha7 : Keeps p z a7 := by
      unfold a7
      refine h.of
    clear_value a7
    refine State.openFrames_keeps ?_ _ _
    refine State.portsReturn_keeps ?_
    exact ha7
  · split
    · exact h
    · extract_lets a15 a16
      have ha15 : Keeps p z a15 := by
        unfold a15
        refine State.updStrip_keeps ?_ _ _
        exact h
      clear_value a15
      split
      · split
        · refine ha15.of
        · exact ha15
      · exact ha15

theorem execCodecGroupClose_keeps {p : Part → Prop} {z s : State} (h : Keeps p z s) (overview : Bool) (error : Option Nat) (corrected : List Nat) (_ : p .mem := by first | assumption | decide) (_ : p .recs := by first | assumption | decide) (_ : p .codec := by first | assumption | decide) (_ : p .dram := by first | assumption | decide) (_ : p .fault := by first | assumption | decide) :
    KeepsO p z (execCodecGroupClose overview s error corrected) := by
  unfold execCodecGroupClose
  extract_lets a1 a2
  have ha1 : Keeps p z a1 := by
    unfold a1
    split
    · refine State.endOverview_keeps ?_
      exact h
    · exact h
  clear_value a1
  clear_value a2
  split
  · refine KeepsO.next ?_
    exact ha1
  · extract_lets a11
    split
    · refine KeepsO.next ?_
      refine State.closeCoded_keeps ?_ _ _ _
      exact ha1
    · refine KeepsO.next ?_
      exact ha1

theorem execSerialTimeout_keeps {p : Part → Prop} {z s : State} (h : Keeps p z s) (k : Nat) (t : Nat) (_ : p .recs := by first | assumption | decide) (_ : p .pos := by first | assumption | decide) (_ : p .vd := by first | assumption | decide) (_ : p .net := by first | assumption | decide) (_ : p .fault := by first | assumption | decide) (_ : p .now := by first | assumption | decide) (_ : p .out := by first | assumption | decide) :
    KeepsO p z (execSerialTimeout k t s) := by
  unfold execSerialTimeout
  split
  · refine KeepsO.next ?_
    exact h
  · refine KeepsO.next ?_
    refine State.serialFail_keeps ?_ _ _ _
    refine State.advance_keeps ?_ _
    exact h

theorem execToothEdge_keeps {p : Part → Prop} {z s : State} (h : Keeps p z s) (k : Nat) (t : Nat) (overflow : Bool) (_ : p .recs := by first | assumption | decide) (_ : p .pos := by first | assumption | decide) (_ : p .vd := by first | assumption | decide) (_ : p .net := by first | assumption | decide) (_ : p .fault := by first | assumption | decide) (_ : p .now := by first | assumption | decide) (_ : p .free := by first | assumption | decide) (_ : p .out := by first | assumption | decide) :
    KeepsO p z (execToothEdge k t s overflow) := by
  unfold execToothEdge
  extract_lets a1 a2 a3 a4 a5
  have ha2 : Keeps p z a2 := by
    unfold a2
    refine State.advance_keeps ?_ _
    exact h
  clear_value a2
  have ha5 : Keeps p z a5 := by
    unfold a5
    refine State.updTth_keeps ?_ _ _
    exact ha2
  clear_value a5
  split
  · refine KeepsO.next ?_
    exact h
  · split
    · refine KeepsO.next ?_
      refine State.inputOverflow_keeps ?_ _
      exact ha2
    · split
      · refine KeepsO.next ?_
        exact ha2
      · split
        · split
          · refine State.toothReference_keeps ?_ _
            exact ha5
          · refine KeepsO.next ?_
            exact ha5
        · refine KeepsO.next ?_
          exact ha5

theorem State.commitElems_keeps {p : Part → Prop} {z s : State} (h : Keeps p z s) (epoch : Nat) (v2 : List (Nat × Int × List (Nat × Bool))) (_ : p .recs := by first | assumption | decide) (_ : p .trestle := by first | assumption | decide) (_ : p .print := by first | assumption | decide) :
    Keeps p z (State.commitElems s epoch v2) := by
  induction v2 generalizing s epoch
  · rw [State.commitElems]
    exact h
  · rename_i e0 l0 ih
    rw [State.commitElems]
    apply ih
    refine State.judgeAll_keeps ?_ _ _ _ _ _
    exact h

theorem State.compareStep_keeps {p : Part → Prop} {z s : State} (h : Keeps p z s) (bufferError : Bool) (gapStateError : Bool) (hits : List BandHit) (corrected : Nat) (_ : p .mem := by first | assumption | decide) (_ : p .recs := by first | assumption | decide) (_ : p .trestle := by first | assumption | decide) (_ : p .span := by first | assumption | decide) (_ : p .reg := by first | assumption | decide) (_ : p .cmp := by first | assumption | decide) (_ : p .seg := by first | assumption | decide) (_ : p .codec := by first | assumption | decide) (_ : p .dram := by first | assumption | decide) (_ : p .fault := by first | assumption | decide) :
    Keeps p z (State.compareStep bufferError gapStateError hits corrected s) := by
  unfold State.compareStep
  split
  · exact h
  · extract_lets a3 a4 a5 a6 a7 a8 a9 a10 a11 a12 a13
    have ha6 : Keeps p z a6 := by
      unfold a6
      refine h.of
    clear_value a6
    have ha8 : Keeps p z a8 := by
      unfold a8
      refine State.bandErrors_keeps ?_ _ _
      refine State.switchBand_keeps ?_ _ _
      refine State.regLine_keeps ?_ _ _
      exact ha6
    clear_value a8
    have ha9 : Keeps p z a9.1 := by
      unfold a9
      refine State.compareOne_keeps ?_ _ _
      exact ha8
    clear_value a9
    have ha10 : Keeps p z a10 := by
      unfold a10
      exact ha9
    have ha12 : Keeps p z a12 := by
      unfold a12
      refine ha10.of
    clear_value a12
    have ha13 : Keeps p z a13 := by
      unfold a13
      split
      · refine State.occur_keeps ?_ _ _ _ _ _
        exact ha12
      · exact ha12
    clear_value a13
    split
    · refine State.occur_keeps ?_ _ _ _ _ _
      exact ha13
    · exact ha13

theorem State.nextExchange_keeps {p : Part → Prop} {z s : State} (h : Keeps p z s) (v1 : Nat) (_ : p .keeper := by first | assumption | decide) (_ : p .recs := by first | assumption | decide) (_ : p .trestle := by first | assumption | decide) (_ : p .print := by first | assumption | decide) (_ : p .net := by first | assumption | decide) (_ : p .free := by first | assumption | decide) (_ : p .out := by first | assumption | decide) :
    Keeps p z (State.nextExchange s v1) := by
  unfold State.nextExchange
  extract_lets a1 a2
  have ha2 : Keeps p z a2 := by
    unfold a2
    refine State.beginWrite_keeps ?_ _
    exact h
  clear_value a2
  split
  · exact h
  · split
    · split
      · refine State.beginAuth_keeps ?_ _
        exact ha2
      · exact ha2
    · split
      · refine State.beginAuth_keeps ?_ _
        exact h
      · exact h

theorem execEncoderEdge_keeps {p : Part → Prop} {z s : State} (h : Keeps p z s) (k : Nat) (a : Bool) (b : Bool) (t : Nat) (overflow : Bool) (_ : p .recs := by first | assumption | decide) (_ : p .trestle := by first | assumption | decide) (_ : p .pos := by first | assumption | decide) (_ : p .vd := by first | assumption | decide) (_ : p .net := by first | assumption | decide) (_ : p .fault := by first | assumption | decide) (_ : p .now := by first | assumption | decide) (_ : p .free := by first | assumption | decide) (_ : p .out := by first | assumption | decide) :
    KeepsO p z (execEncoderEdge k a b t s overflow) := by
  unfold execEncoderEdge
  split
  · refine KeepsO.next ?_
    exact h
  · extract_lets a4 a5 a6
    have ha4 : Keeps p z a4 := by
      unfold a4
      refine State.advance_keeps ?_ _
      exact h
    clear_value a4
    split
    · refine KeepsO.next ?_
      refine State.inputOverflow_keeps ?_ _
      exact ha4
    · split
      · refine KeepsO.next ?_
        refine State.inputOccur_keeps ?_ _ _
        refine State.updEnc_keeps ?_ _ _
        exact ha4
      · split
        · refine KeepsO.next ?_
          exact ha4
        · extract_lets a22 a23
          have ha23 : Keeps p z a23 := by
            unfold a23
            refine State.updEnc_keeps ?_ _ _
            exact ha4
          clear_value a23
          refine KeepsO.next ?_
          split
          · refine State.posStep_keeps ?_ _
            exact ha23
          · exact ha23

theorem State.linkLost_keeps {p : Part → Prop} {z s : State} (h : Keeps p z s) (st : Nat) (_ : p .mbx := by first | assumption | decide) (_ : p .keeper := by first | assumption | decide) (_ : p .recs := by first | assumption | decide) (_ : p .pos := by first | assumption | decide) (_ : p .seg := by first | assumption | decide) (_ : p .vd := by first | assumption | decide) (_ : p .net := by first | assumption | decide) (_ : p .fault := by first | assumption | decide) (_ : p .out := by first | assumption | decide) :
    Keeps p z (State.linkLost s st) := by
  unfold State.linkLost
  extract_lets a1 a2 a3 a4 a5
  have ha4 : Keeps p z a4 := by
    unfold a4
    refine h.of
  clear_value a4
  have ha5 : Keeps p z a5 := by
    unfold a5
    refine Keeps.foldl (fun z8 s9 x10 h11 => ?_) ?_
    · refine State.respond_keeps ?_ _ _ _
      exact h11
    · exact ha4
  clear_value a5
  refine State.splitPair_keeps ?_ _
  split
  · refine State.notify_keeps ?_ _ _ _ _
    exact ha5
  · exact ha5

theorem execSeamTimeout_keeps {p : Part → Prop} {z s : State} (h : Keeps p z s) (wln : Nat) (_ : p .keeper := by first | assumption | decide) (_ : p .recs := by first | assumption | decide) (_ : p .pos := by first | assumption | decide) (_ : p .seg := by first | assumption | decide) (_ : p .vd := by first | assumption | decide) (_ : p .net := by first | assumption | decide) (_ : p .fault := by first | assumption | decide) (_ : p .out := by first | assumption | decide) :
    KeepsO p z (execSeamTimeout wln s) := by
  unfold execSeamTimeout
  split
  · refine KeepsO.next ?_
    exact h
  · extract_lets a4
    refine KeepsO.next ?_
    split
    · refine State.splitPair_keeps ?_ _
      exact h
    · exact h

theorem execSerialWord_keeps {p : Part → Prop} {z s : State} (h : Keeps p z s) (k : Nat) (w : SerialWordIn) (t : Nat) (_ : p .recs := by first | assumption | decide) (_ : p .trestle := by first | assumption | decide) (_ : p .pos := by first | assumption | decide) (_ : p .vd := by first | assumption | decide) (_ : p .net := by first | assumption | decide) (_ : p .fault := by first | assumption | decide) (_ : p .now := by first | assumption | decide) (_ : p .free := by first | assumption | decide) (_ : p .out := by first | assumption | decide) :
    KeepsO p z (execSerialWord k w t s) := by
  unfold execSerialWord
  split
  · refine KeepsO.next ?_
    exact h
  · extract_lets a4 a5 a6 a7 a8 a9 a10 a11 a12 a13
    have ha5 : Keeps p z a5 := by
      unfold a5
      refine State.advance_keeps ?_ _
      exact h
    clear_value a5
    have ha8 : Keeps p z a8 := by
      unfold a8
      split
      · refine State.updSenc_keeps ?_ _ _
        exact ha5
      · exact ha5
    clear_value a8
    have ha13 : Keeps p z a13 := by
      unfold a13
      refine State.updSenc_keeps ?_ _ _
      exact ha8
    clear_value a13
    split
    · refine KeepsO.next ?_
      refine State.inputOverflow_keeps ?_ _
      exact ha5
    · split
      · refine KeepsO.next ?_
        refine State.serialFail_keeps ?_ _ _ _
        exact ha5
      · split
        · refine KeepsO.next ?_
          refine State.serialFail_keeps ?_ _ _ _
          exact ha8
        · refine KeepsO.next ?_
          split
          · refine State.posStep_keeps ?_ _
            exact ha13
          · exact ha13

theorem execLookbackFetchDone_keeps {p : Part → Prop} {z s : State} (h : Keeps p z s) (bad : List (Nat × Nat × Nat)) (_ : p .mem := by first | assumption | decide) (_ : p .keeper := by first | assumption | decide) (_ : p .recs := by first | assumption | decide) (_ : p .codec := by first | assumption | decide) (_ : p .net := by first | assumption | decide) (_ : p .dram := by first | assumption | decide) (_ : p .fault := by first | assumption | decide) (_ : p .free := by first | assumption | decide) (_ : p .out := by first | assumption | decide) :
    KeepsO p z (execLookbackFetchDone s bad) := by
  unfold execLookbackFetchDone
  split
  · refine KeepsO.next ?_
    exact h
  · split
    · extract_lets a5 a6 a7 a8 a9
      have ha8 : Keeps p z a8 := by
        unfold a8
        refine State.withBad_keeps ?_ _
        exact h
      clear_value a8
      have ha9 : Keeps p z a9 := by
        unfold a9
        refine State.write_keeps ?_ _ _
        refine State.endBad_keeps ?_
        exact ha8
      clear_value a9
      split
      · refine KeepsO.next ?_
        refine State.complete_keeps ?_ _ _ _
        refine State.writeFree_keeps ?_ _ _
        exact h
      · split
        · refine KeepsO.next ?_
          refine State.complete_keeps ?_ _ _ _
          refine State.writeFree_keeps ?_ _ _
          exact h
        · refine KeepsO.next ?_
          split
          · refine State.complete_keeps ?_ _ _ _
            exact ha9
          · refine State.complete_keeps ?_ _ _ _
            exact ha9
    · refine KeepsO.next ?_
      exact h

theorem State.stopAxes_keeps {p : Part → Prop} {z s : State} (h : Keeps p z s) (axes : Nat) (abrupt : Bool) (_ : p .keeper := by first | assumption | decide) (_ : p .recs := by first | assumption | decide) (_ : p .motion := by first | assumption | decide) (_ : p .net := by first | assumption | decide) (_ : p .now := by first | assumption | decide) (_ : p .out := by first | assumption | decide) :
    Keeps p z (State.stopAxes s axes abrupt) := by
  unfold State.stopAxes
  extract_lets a1 a2
  have ha1 : Keeps p z a1 := by
    unfold a1
    refine State.lastSteps_keeps ?_
    exact h
  clear_value a1
  split
  · refine Keeps.foldl (fun z7 s8 x9 h10 => ?_) ?_
    · refine State.abruptStop_keeps ?_ _
      exact h10
    · exact ha1
  · refine Keeps.foldl (fun z15 s16 x17 h18 => ?_) ?_
    · refine State.setMove_keeps ?_ _
      exact h18
    · exact ha1

theorem execCodecFlushTimeout_keeps {p : Part → Prop} {z s : State} (h : Keeps p z s) (overview : Bool) (error : Option Nat) (corrected : List Nat) (_ : p .mem := by first | assumption | decide) (_ : p .recs := by first | assumption | decide) (_ : p .codec := by first | assumption | decide) (_ : p .dram := by first | assumption | decide) (_ : p .fault := by first | assumption | decide) :
    KeepsO p z (execCodecFlushTimeout overview s error corrected) := by
  unfold execCodecFlushTimeout
  refine KeepsO.next ?_
  split
  · exact h
  · refine State.closeCoded_keeps ?_ _ _ _
    exact h

theorem State.headSwitched_keeps {p : Part → Prop} {z s : State} (h : Keeps p z s) (v1 : Nat) (oldEpoch : Nat) (_ : p .mem := by first | assumption | decide) (_ : p .deck := by first | assumption | decide) (_ : p .recs := by first | assumption | decide) (_ : p .mark := by first | assumption | decide) (_ : p .trestle := by first | assumption | decide) (_ : p .print := by first | assumption | decide) (_ : p .free := by first | assumption | decide) (_ : p .out := by first | assumption | decide) :
    Keeps p z (State.headSwitched s v1 oldEpoch) := by
  unfold State.headSwitched
  extract_lets a1 a2 a3 a4 a5
  refine State.stationDone_keeps ?_ _
  refine State.settleItems_keeps ?_ _
  refine State.cutItems_keeps ?_ _ _ _ _ _ _
  exact h

end Sys2Proof.Machine
end

