-- ==== Sys2Proof/Laws/Keeps5.lean ====
section
/-! SUPPORT. What each operation of the block keeps, part 5: one lemma for each, in the order of their use (`Keeps`). -/

set_option linter.unusedVariables false
set_option linter.unusedSimpArgs false

namespace Sys2Proof.Machine

set_option Elab.async false

theorem execEventDelivery_keeps {p : Part → Prop} {z s : State} (h : Keeps p z s) (parity : List Nat) (_ : p .recs := by first | assumption | decide) (_ : p .mark := by first | assumption | decide) (_ : p .trestle := by first | assumption | decide) (_ : p .pio := by first | assumption | decide) (_ : p .intake := by first | assumption | decide) (_ : p .comb := by first | assumption | decide) (_ : p .print := by first | assumption | decide) (_ : p .fault := by first | assumption | decide) (_ : p .free := by first | assumption | decide) (_ : p .out := by first | assumption | decide) :
    KeepsO p z (execEventDelivery parity s) := by
  unfold execEventDelivery
  refine KeepsO.next ?_
  refine State.deliver_keeps ?_ _
  exact h

theorem State.csiSyncError_keeps {p : Part → Prop} {z s : State} (h : Keeps p z s) (port : Nat) (_ : p .recs := by first | assumption | decide) (_ : p .intake := by first | assumption | decide) (_ : p .fault := by first | assumption | decide) :
    Keeps p z (State.csiSyncError s port) := by
  unfold State.csiSyncError
  split
  · exact h
  · extract_lets a3 a4
    have ha3 : Keeps p z a3 := by
      unfold a3
      refine State.updCam_keeps ?_ _ _
      exact h
    clear_value a3
    have ha4 : Keeps p z a4 := by
      unfold a4
      split
      · refine State.updCam_keeps ?_ _ _
        exact ha3
      · refine State.killFrame_keeps ?_ _ _
        exact ha3
    clear_value a4
    refine State.portOccur_keeps ?_ _ _ _
    exact ha4

theorem State.reinstate_keeps {p : Part → Prop} {z s : State} (h : Keeps p z s) (q : Req) (block : Nat) (inst : Nat) (_ : p .mem := by first | assumption | decide) (_ : p .keeper := by first | assumption | decide) (_ : p .recs := by first | assumption | decide) (_ : p .pos := by first | assumption | decide) (_ : p .intake := by first | assumption | decide) (_ : p .codec := by first | assumption | decide) (_ : p .print := by first | assumption | decide) (_ : p .vd := by first | assumption | decide) (_ : p .net := by first | assumption | decide) (_ : p .dram := by first | assumption | decide) (_ : p .fault := by first | assumption | decide) (_ : p .out := by first | assumption | decide) :
    Keeps p z (State.reinstate s q block inst) := by
  unfold State.reinstate
  extract_lets a1 a2 a3
  have ha3 : Keeps p z a3 := by
    unfold a3
    refine State.start_keeps ?_ _ _ _
    exact h
  clear_value a3
  split
  · refine State.completeCode_keeps ?_ _ _ _
    exact ha3
  · split
    · exact ha3
    · refine State.comesBack_keeps ?_ _ _
      exact ha3

theorem State.unitBist_keeps {p : Part → Prop} {z s : State} (h : Keeps p z s) (failures : List BistEntry) (_ : p .mem := by first | assumption | decide) (_ : p .keeper := by first | assumption | decide) (_ : p .recs := by first | assumption | decide) (_ : p .pos := by first | assumption | decide) (_ : p .intake := by first | assumption | decide) (_ : p .codec := by first | assumption | decide) (_ : p .print := by first | assumption | decide) (_ : p .vd := by first | assumption | decide) (_ : p .net := by first | assumption | decide) (_ : p .dram := by first | assumption | decide) (_ : p .fault := by first | assumption | decide) (_ : p .out := by first | assumption | decide) :
    Keeps p z (State.unitBist s failures) := by
  unfold State.unitBist
  split
  · exact h
  · split
    · split
      · exact h
      · split
        · refine State.complete_keeps ?_ _ _ _
          exact h
        · refine State.comesBack_keeps ?_ _ _
          exact h
    · exact h

theorem execDeckStage_keeps {p : Part → Prop} {z s : State} (h : Keeps p z s) (q : Req) (handle : Nat) (copies : List (Nat × Bool)) (_ : p .mem := by first | assumption | decide) (_ : p .sys := by first | assumption | decide) (_ : p .mbx := by first | assumption | decide) (_ : p .deck := by first | assumption | decide) (_ : p .recs := by first | assumption | decide) (_ : p .cal := by first | assumption | decide) (_ : p .comb := by first | assumption | decide) (_ : p .mon := by first | assumption | decide) (_ : p .dram := by first | assumption | decide) (_ : p .fault := by first | assumption | decide) :
    KeepsO p z (execDeckStage q handle s copies) := by
  induction handle generalizing s q copies
  · rw [execDeckStage]
    split
    · refine runCmd_keeps ?_ _ _ _ _ _ _ ?_
      · exact h
      · intro x4
        dsimp only
        refine State.checkCopies_keeps ?_ _
        refine State.stage_keeps ?_ _
        exact h
    · split
      · exact KeepsO.fault _ _
      · refine runCmd_keeps ?_ _ _ _ _ _ _ ?_
        · exact h
        · intro x14
          dsimp only
          refine State.checkCopies_keeps ?_ _
          refine State.stage_keeps ?_ _
          exact h
  · rename_i i0 ih
    rw [execDeckStage]
    split
    · refine runCmd_keeps ?_ _ _ _ _ _ _ ?_
      · exact h
      · intro x23
        dsimp only
        refine State.checkCopies_keeps ?_ _
        refine State.stage_keeps ?_ _
        exact h
    · split
      · exact KeepsO.fault _ _
      · refine runCmd_keeps ?_ _ _ _ _ _ _ ?_
        · exact h
        · intro x33
          dsimp only
          refine State.checkCopies_keeps ?_ _
          refine State.stage_keeps ?_ _
          exact h

theorem State.geometryLeaves_keeps {p : Part → Prop} {z s : State} (h : Keeps p z s) (hits : List (Nat × EccHit)) (_ : p .recs := by first | assumption | decide) (_ : p .intake := by first | assumption | decide) (_ : p .span := by first | assumption | decide) (_ : p .cal := by first | assumption | decide) (_ : p .fault := by first | assumption | decide) (_ : p .free := by first | assumption | decide) :
    Keeps p z (State.geometryLeaves s hits) := by
  unfold State.geometryLeaves
  split
  · exact h
  · extract_lets a3 a4 a5 a6 a7 a8 a9
    have ha4 : Keeps p z a4 := by
      unfold a4
      refine Keeps.foldl (fun z11 s12 x13 h14 => ?_) ?_
      · refine State.geometryHit_keeps ?_ _ _ _
        exact h14
      · exact h
    clear_value a4
    have ha6 : Keeps p z a6 := by
      unfold a6
      split
      · refine State.calLine_keeps ?_ _
        exact ha4
      · exact ha4
    clear_value a6
    have ha7 : Keeps p z a7 := by
      unfold a7
      refine Keeps.forEach (fun z23 s24 x25 h26 => ?_) ?_
      · split
        · refine State.updCam_keeps ?_ _ _
          exact h26
        · exact h26
      · exact ha6
    clear_value a7
    split
    · exact h
    · refine State.trimLines_keeps ?_ _
      refine ha7.of

theorem State.checkCapacity_keeps {p : Part → Prop} {z s : State} (h : Keeps p z s)  (_ : p .keeper := by first | assumption | decide) (_ : p .recs := by first | assumption | decide) (_ : p .pos := by first | assumption | decide) (_ : p .seg := by first | assumption | decide) (_ : p .vd := by first | assumption | decide) (_ : p .net := by first | assumption | decide) (_ : p .fault := by first | assumption | decide) (_ : p .out := by first | assumption | decide) :
    Keeps p z (State.checkCapacity s) := by
  unfold State.checkCapacity
  split
  · refine State.splitPair_keeps ?_ _
    exact h
  · exact h

theorem State.cellError_keeps {p : Part → Prop} {z s : State} (h : Keeps p z s) (cell : Nat) (code : Nat) (frameStore : Bool) (_ : p .mem := by first | assumption | decide) (_ : p .sys := by first | assumption | decide) (_ : p .recs := by first | assumption | decide) (_ : p .mark := by first | assumption | decide) (_ : p .trestle := by first | assumption | decide) (_ : p .seg := by first | assumption | decide) (_ : p .comb := by first | assumption | decide) (_ : p .fault := by first | assumption | decide) (_ : p .free := by first | assumption | decide) (_ : p .out := by first | assumption | decide) :
    Keeps p z (State.cellError s cell code frameStore) := by
  unfold State.cellError
  split
  · exact h
  · refine State.taskFault_keeps ?_ _ _ _ _
    exact h

theorem State.leaveCal_keeps {p : Part → Prop} {z s : State} (h : Keeps p z s)  (_ : p .mem := by first | assumption | decide) (_ : p .sys := by first | assumption | decide) (_ : p .keeper := by first | assumption | decide) (_ : p .recs := by first | assumption | decide) (_ : p .intake := by first | assumption | decide) (_ : p .stats := by first | assumption | decide) (_ : p .cal := by first | assumption | decide) (_ : p .net := by first | assumption | decide) (_ : p .fault := by first | assumption | decide) (_ : p .free := by first | assumption | decide) (_ : p .out := by first | assumption | decide) :
    Keeps p z (State.leaveCal s) := by
  unfold State.leaveCal
  extract_lets a1 a2 a3 a4 a5 a6
  have ha3 : Keeps p z a3 := by
    unfold a3
    refine h.of
  clear_value a3
  have ha4 : Keeps p z a4 := by
    unfold a4
    refine State.endStrip_keeps ?_
    refine Keeps.forEach (fun z10 s11 x12 h13 => ?_) ?_
    · refine State.retarget_keeps ?_ _
      exact h13
    · refine State.portsReturn_keeps ?_
      exact ha3
  clear_value a4
  have ha5 : Keeps p z a5 := by
    unfold a5
    split
    · exact ha4
    · extract_lets a21 a22 a23 a24 a25
      have ha23 : Keeps p z a23 := by
        unfold a23
        refine Keeps.foldl (fun z27 s28 x29 h30 => ?_) ?_
        · refine State.calRecord_keeps ?_ _ _ _ _ _ _ _ _ _
          exact h30
        · exact ha4
      clear_value a23
      have ha24 : Keeps p z a24 := by
        unfold a24
        refine Keeps.forEach (fun z35 s36 x37 h38 => ?_) ?_
        · refine State.calPortDone_keeps ?_ _ _
          exact h38
        · exact ha23
      clear_value a24
      refine State.completeCode_keeps ?_ _ _ _
      refine ha24.of
  clear_value a5
  refine ha5.of

theorem State.packetHeader_keeps {p : Part → Prop} {z s : State} (h : Keeps p z s) (c : Nat) (pk : CsiPacket) (short : Bool) (_ : p .recs := by first | assumption | decide) (_ : p .intake := by first | assumption | decide) (_ : p .fault := by first | assumption | decide) :
    Keeps p z (State.packetHeader s c pk short).2 := by
  unfold State.packetHeader
  split
  · exact h
  · split
    · exact h
    · split
      · extract_lets a6
        have ha6 : Keeps p z a6 := by
          unfold a6
          refine State.updCam_keeps ?_ _ _
          exact h
        clear_value a6
        exact ha6
      · extract_lets a11
        have ha11 : Keeps p z a11 := by
          unfold a11
          refine State.updCam_keeps ?_ _ _
          exact h
        clear_value a11
        dsimp only
        refine State.portOccur_keeps ?_ _ _ _
        refine State.killFrame_keeps ?_ _ _
        exact ha11

theorem State.itemsPass_keeps {p : Part → Prop} {z s : State} (h : Keeps p z s) (v1 : Nat) (lead : Nat) (epoch : Nat) (k : Nat) (fired : Bool) (shift : Int) (bad : PrintItem → Bool) (_ : p .mem := by first | assumption | decide) (_ : p .recs := by first | assumption | decide) (_ : p .mark := by first | assumption | decide) (_ : p .trestle := by first | assumption | decide) (_ : p .print := by first | assumption | decide) (_ : p .free := by first | assumption | decide) (_ : p .out := by first | assumption | decide) :
    Keeps p z (State.itemsPass s v1 lead epoch k fired shift bad) := by
  unfold State.itemsPass
  extract_lets a1
  refine State.settleItems_keeps ?_ _
  refine State.mapItems_keeps ?_ _ _
  exact h

theorem State.segmentStep_keeps {p : Part → Prop} {z s : State} (h : Keeps p z s) (labelError : Bool) (_ : p .mem := by first | assumption | decide) (_ : p .recs := by first | assumption | decide) (_ : p .intake := by first | assumption | decide) (_ : p .stats := by first | assumption | decide) (_ : p .cmp := by first | assumption | decide) (_ : p .seg := by first | assumption | decide) (_ : p .fault := by first | assumption | decide) :
    Keeps p z (State.segmentStep labelError s) := by
  unfold State.segmentStep
  split
  · exact h
  · extract_lets a3 a4 a5 a6 a7 a8 a9 a10 a11 a12 a13 a14 a15
    have ha4 : Keeps p z a4 := by
      unfold a4
      refine h.of
    clear_value a4
    have ha7 : Keeps p z a7 := by
      unfold a7
      split
      · refine State.endEpochPath_keeps ?_
        exact ha4
      · exact ha4
    clear_value a7
    have ha13 : Keeps p z a13 := by
      unfold a13
      refine ha7.of
    clear_value a13
    have ha14 : Keeps p z a14 := by
      unfold a14
      refine State.recordsLine_keeps ?_ _
      exact ha13
    clear_value a14
    have ha15 : Keeps p z a15.2 := by
      unfold a15
      split
      · refine State.occur_keeps ?_ _ _ _ _ _
        exact ha14
      · exact ha14
    clear_value a15
    refine State.endIfIdle_keeps ?_
    split
    · refine State.segmenterRetired_keeps ?_
      exact ha15
    · exact ha15

theorem State.closeNofe_keeps {p : Part → Prop} {z s : State} (h : Keeps p z s) (c : Nat) (_ : p .recs := by first | assumption | decide) (_ : p .intake := by first | assumption | decide) (_ : p .fault := by first | assumption | decide) :
    Keeps p z (State.closeNofe s c) := by
  unfold State.closeNofe
  split
  · exact h
  · extract_lets a3
    have ha3 : Keeps p z a3 := by
      unfold a3
      refine State.closeFrame_keeps ?_ _ _
      exact h
    clear_value a3
    refine State.portOccur_keeps ?_ _ _ _
    refine State.updCam_keeps ?_ _ _
    exact ha3

theorem execLanes_keeps {p : Part → Prop} {z s : State} (h : Keeps p z s) (mask : Nat) (firstSeq : Nat) (_ : p .keeper := by first | assumption | decide) (_ : p .recs := by first | assumption | decide) (_ : p .pos := by first | assumption | decide) (_ : p .seg := by first | assumption | decide) (_ : p .vd := by first | assumption | decide) (_ : p .net := by first | assumption | decide) (_ : p .fault := by first | assumption | decide) (_ : p .out := by first | assumption | decide) :
    KeepsO p z (execLanes mask firstSeq s) := by
  unfold execLanes
  split
  · refine KeepsO.next ?_
    exact h
  · refine KeepsO.next ?_
    refine State.checkCapacity_keeps ?_
    refine h.of

/-- Both answers of a packet header keep. -/
theorem State.packetHeader_keeps' {p : Part → Prop} {z s : State} (h : Keeps p z s) (c : Nat) (pk : CsiPacket) (short : Bool) (_ : p .recs := by first | assumption | decide) (_ : p .intake := by first | assumption | decide) (_ : p .fault := by first | assumption | decide) :
    Keeps p z (s.packetHeader c pk short).2 ∧ ∀ t, (s.packetHeader c pk short).1 = some t → Keeps p z t := by
  unfold State.packetHeader
  split
  · exact ⟨h, fun t e => by cases e⟩
  · split
    · exact ⟨h, fun t e => by cases e; exact h⟩
    · split
      · extract_lets s1
        have h1 : Keeps p z s1 := State.updCam_keeps h _ _
        exact ⟨h1, fun t e => by cases e; exact h1⟩
      · extract_lets s1
        have h1 : Keeps p z s1 := State.updCam_keeps h _ _
        exact ⟨State.portOccur_keeps (State.killFrame_keeps h1 _ _) _ _ _, fun t e => by cases e⟩

theorem State.csiLongPacket_keeps {p : Part → Prop} {z s : State} (h : Keeps p z s) (port : Nat) (v2 : CsiPacket) (_ : p .recs := by first | assumption | decide) (_ : p .intake := by first | assumption | decide) (_ : p .fault := by first | assumption | decide) :
    Keeps p z (State.csiLongPacket s port v2) := by
  unfold State.csiLongPacket
  split
  · exact h
  · rename_i c _
    have hk := State.packetHeader_keeps' h c v2 false
    split
    · rename_i s1 e
      rw [e] at hk
      exact hk.1
    · rename_i s1 s2 e
      rw [e] at hk
      have h1 : Keeps p z s1 := hk.2 s1 rfl
      extract_lets d need line s2 s3
      have h2 : Keeps p z s2 := Keeps.ite h1 (State.updCam_keeps h1 _ _)
      have h3 : Keeps p z s3 := by
        unfold s3
        split
        · exact Keeps.ite h2 (State.portOccur_keeps (State.updCam_keeps h2 _ _) _ _ _)
        · exact State.pixelPacket_keeps h2 _ _ _
      exact Keeps.ite (State.otherPacket_keeps h1 _) (Keeps.ite h1 (Keeps.ite (State.otherPacket_keeps h1 _)
        (Keeps.ite h3 (State.payloadOccur_keeps h3 _ _ _ _))))

theorem execLinkDown_keeps {p : Part → Prop} {z s : State} (h : Keeps p z s)  (_ : p .mbx := by first | assumption | decide) (_ : p .keeper := by first | assumption | decide) (_ : p .recs := by first | assumption | decide) (_ : p .pos := by first | assumption | decide) (_ : p .seg := by first | assumption | decide) (_ : p .vd := by first | assumption | decide) (_ : p .net := by first | assumption | decide) (_ : p .fault := by first | assumption | decide) (_ : p .out := by first | assumption | decide) :
    KeepsO p z (execLinkDown s) := by
  unfold execLinkDown
  refine KeepsO.next ?_
  split
  · refine State.linkLost_keeps ?_ _
    exact h
  · exact h

theorem State.frameStart_keeps {p : Part → Prop} {z s : State} (h : Keeps p z s) (c : Nat) (_ : p .recs := by first | assumption | decide) (_ : p .intake := by first | assumption | decide) (_ : p .fault := by first | assumption | decide) :
    Keeps p z (State.frameStart s c) := by
  unfold State.frameStart
  extract_lets a1 a2
  have ha1 : Keeps p z a1 := by
    unfold a1
    split
    · refine State.closeNofe_keeps ?_ _
      exact h
    · exact h
  clear_value a1
  have ha2 : Keeps p z a2 := by
    unfold a2
    refine State.updCam_keeps ?_ _ _
    exact ha1
  clear_value a2
  split
  · refine State.updCam_keeps ?_ _ _
    exact ha2
  · refine State.updCam_keeps ?_ _ _
    exact ha2

theorem State.enterStandby_keeps {p : Part → Prop} {z s : State} (h : Keeps p z s)  (_ : p .keeper := by first | assumption | decide) (_ : p .recs := by first | assumption | decide) (_ : p .pos := by first | assumption | decide) (_ : p .motion := by first | assumption | decide) (_ : p .mon := by first | assumption | decide) (_ : p .net := by first | assumption | decide) (_ : p .dram := by first | assumption | decide) (_ : p .now := by first | assumption | decide) (_ : p .out := by first | assumption | decide) :
    Keeps p z (State.enterStandby s) := by
  unfold State.enterStandby
  extract_lets a1 a2
  have ha1 : Keeps p z a1 := by
    unfold a1
    refine State.stopAxes_keeps ?_ _ _
    exact h
  clear_value a1
  refine State.selfRefreshes_keeps ?_
  refine State.refreshOwed_keeps ?_
  refine ha1.of

theorem State.authDue_keeps {p : Part → Prop} {z s : State} (h : Keeps p z s) (v1 : Nat) (_ : p .keeper := by first | assumption | decide) (_ : p .recs := by first | assumption | decide) (_ : p .trestle := by first | assumption | decide) (_ : p .print := by first | assumption | decide) (_ : p .net := by first | assumption | decide) (_ : p .free := by first | assumption | decide) (_ : p .out := by first | assumption | decide) :
    Keeps p z (State.authDue s v1) := by
  unfold State.authDue
  refine State.nextExchange_keeps ?_ _
  refine State.updChip_keeps ?_ _ _
  exact h

theorem State.setLane_keeps {p : Part → Prop} {z s : State} (h : Keeps p z s) (t : LaneTest) (_ : p .mbx := by first | assumption | decide) (_ : p .keeper := by first | assumption | decide) (_ : p .recs := by first | assumption | decide) (_ : p .pos := by first | assumption | decide) (_ : p .seg := by first | assumption | decide) (_ : p .vd := by first | assumption | decide) (_ : p .net := by first | assumption | decide) (_ : p .fault := by first | assumption | decide) (_ : p .out := by first | assumption | decide) :
    Keeps p z (State.setLane s t) := by
  unfold State.setLane
  extract_lets a1 a2 a3
  have ha2 : Keeps p z a2 := by
    unfold a2
    split
    · refine State.linkLost_keeps ?_ _
      exact h
    · exact h
  clear_value a2
  refine ha2.of

theorem execAxisStop_keeps {p : Part → Prop} {z s : State} (h : Keeps p z s) (q : Req) (axes : Nat) (abrupt : Bool) (_ : p .mbx := by first | assumption | decide) (_ : p .keeper := by first | assumption | decide) (_ : p .recs := by first | assumption | decide) (_ : p .motion := by first | assumption | decide) (_ : p .net := by first | assumption | decide) (_ : p .now := by first | assumption | decide) (_ : p .out := by first | assumption | decide) :
    KeepsO p z (execAxisStop q axes abrupt s) := by
  unfold execAxisStop
  refine runCmd_keeps ?_ _ _ _ _ _ _ ?_
  · exact h
  · intro x3
    dsimp only
    refine State.stopAxes_keeps ?_ _ _
    exact h

theorem State.csiLineStart_keeps {p : Part → Prop} {z s : State} (h : Keeps p z s) (port : Nat) (v2 : CsiPacket) (_ : p .recs := by first | assumption | decide) (_ : p .intake := by first | assumption | decide) (_ : p .fault := by first | assumption | decide) :
    Keeps p z (State.csiLineStart s port v2) := by
  unfold State.csiLineStart
  split
  · exact h
  · rename_i c _
    have hk := State.packetHeader_keeps' h c v2 true
    split
    · rename_i s1 e
      rw [e] at hk
      exact hk.1
    · rename_i s1 s2 e
      rw [e] at hk
      have h1 : Keeps p z s1 := hk.2 s1 rfl
      exact Keeps.ite (State.otherPacket_keeps h1 _) (State.updCam_keeps h1 _ _)

theorem State.commitTask_keeps {p : Part → Prop} {z s : State} (h : Keeps p z s) (t : Task) (o : TaskOut) (_ : p .mem := by first | assumption | decide) (_ : p .recs := by first | assumption | decide) (_ : p .mark := by first | assumption | decide) (_ : p .trestle := by first | assumption | decide) (_ : p .reg := by first | assumption | decide) (_ : p .seg := by first | assumption | decide) (_ : p .comb := by first | assumption | decide) (_ : p .print := by first | assumption | decide) (_ : p .net := by first | assumption | decide) (_ : p .free := by first | assumption | decide) (_ : p .out := by first | assumption | decide) :
    Keeps p z (State.commitTask s t o) := by
  unfold State.commitTask
  split
  · refine State.commitBlob_keeps ?_ _ _
    exact h
  · refine State.commitNodes_keeps ?_ _ _ _ _
    exact h
  · extract_lets a6
    refine State.sendRegister_keeps ?_ _ _ _
    refine State.commitRepeat_keeps ?_ _ _ _ _ _ _ _
    exact h
  · refine State.commitRepeat_keeps ?_ _ _ _ _ _ _ _
    exact h
  · refine State.verifyRecord_keeps ?_ _ _
    exact h
  · refine State.commitElems_keeps ?_ _ _
    exact h
  · exact h

theorem execBistDone_keeps {p : Part → Prop} {z s : State} (h : Keeps p z s) (failures : List BistEntry) (durationUs : Nat) (_ : p .mem := by first | assumption | decide) (_ : p .keeper := by first | assumption | decide) (_ : p .recs := by first | assumption | decide) (_ : p .pos := by first | assumption | decide) (_ : p .intake := by first | assumption | decide) (_ : p .codec := by first | assumption | decide) (_ : p .print := by first | assumption | decide) (_ : p .vd := by first | assumption | decide) (_ : p .net := by first | assumption | decide) (_ : p .dram := by first | assumption | decide) (_ : p .fault := by first | assumption | decide) (_ : p .out := by first | assumption | decide) :
    KeepsO p z (execBistDone failures durationUs s) := by
  unfold execBistDone
  split
  · extract_lets a2 a3
    have ha3 : Keeps p z a3 := by
      unfold a3
      refine h.of
    clear_value a3
    refine KeepsO.next ?_
    refine State.complete_keeps ?_ _ _ _
    exact ha3
  · refine KeepsO.next ?_
    refine State.unitBist_keeps ?_ _
    exact h

theorem State.comparedLine_keeps {p : Part → Prop} {z s : State} (h : Keeps p z s) (bufferError : Bool) (gapStateError : Bool) (hits : List BandHit) (corrected : Nat) (_ : p .mem := by first | assumption | decide) (_ : p .recs := by first | assumption | decide) (_ : p .trestle := by first | assumption | decide) (_ : p .span := by first | assumption | decide) (_ : p .reg := by first | assumption | decide) (_ : p .cmp := by first | assumption | decide) (_ : p .seg := by first | assumption | decide) (_ : p .codec := by first | assumption | decide) (_ : p .print := by first | assumption | decide) (_ : p .dram := by first | assumption | decide) (_ : p .fault := by first | assumption | decide) :
    Keeps p z (State.comparedLine s bufferError gapStateError hits corrected) := by
  unfold State.comparedLine
  extract_lets a1 a2
  have ha1 : Keeps p z a1 := by
    unfold a1
    refine State.compareStep_keeps ?_ _ _ _ _
    exact h
  clear_value a1
  split
  · refine State.shiftField_keeps ?_ _
    exact ha1
  · exact ha1

theorem State.csiOtherPacket_keeps {p : Part → Prop} {z s : State} (h : Keeps p z s) (port : Nat) (v2 : CsiPacket) (_ : p .recs := by first | assumption | decide) (_ : p .intake := by first | assumption | decide) (_ : p .fault := by first | assumption | decide) :
    Keeps p z (State.csiOtherPacket s port v2) := by
  unfold State.csiOtherPacket
  split
  · exact h
  · rename_i c _
    have hk := State.packetHeader_keeps' h c v2 false
    split
    · rename_i s1 e
      rw [e] at hk
      exact hk.1
    · rename_i s1 s2 e
      rw [e] at hk
      have h1 : Keeps p z s1 := hk.2 s1 rfl
      extract_lets own
      exact Keeps.ite h1 (State.otherPacket_keeps h1 _)

theorem execCsiSyncError_keeps {p : Part → Prop} {z s : State} (h : Keeps p z s) (port : Nat) (_ : p .mem := by first | assumption | decide) (_ : p .recs := by first | assumption | decide) (_ : p .intake := by first | assumption | decide) (_ : p .stats := by first | assumption | decide) (_ : p .fault := by first | assumption | decide) :
    KeepsO p z (execCsiSyncError port s) := by
  unfold execCsiSyncError
  refine KeepsO.next ?_
  refine State.endStrip_keeps ?_
  refine State.csiSyncError_keeps ?_ _
  exact h

theorem State.noteSwitch_keeps {p : Part → Prop} {z s : State} (h : Keeps p z s) (v1 : Nat) (_ : p .mem := by first | assumption | decide) (_ : p .deck := by first | assumption | decide) (_ : p .recs := by first | assumption | decide) (_ : p .mark := by first | assumption | decide) (_ : p .trestle := by first | assumption | decide) (_ : p .print := by first | assumption | decide) (_ : p .free := by first | assumption | decide) (_ : p .out := by first | assumption | decide) :
    Keeps p z (State.noteSwitch s v1) := by
  unfold State.noteSwitch
  split
  · exact h
  · split
    · refine State.headSwitched_keeps ?_ _ _
      exact h
    · exact h

theorem State.csiFrameEnd_keeps {p : Part → Prop} {z s : State} (h : Keeps p z s) (port : Nat) (v2 : CsiPacket) (_ : p .recs := by first | assumption | decide) (_ : p .intake := by first | assumption | decide) (_ : p .fault := by first | assumption | decide) :
    Keeps p z (State.csiFrameEnd s port v2) := by
  unfold State.csiFrameEnd
  split
  · exact h
  · rename_i c _
    have hk := State.packetHeader_keeps' h c v2 true
    split
    · rename_i s1 e
      rw [e] at hk
      exact hk.1
    · rename_i s1 s2 e
      rw [e] at hk
      have h1 : Keeps p z s1 := hk.2 s1 rfl
      split
      · exact State.otherPacket_keeps h1 _
      · split
        · exact State.updCam_keeps h1 _ _
        · split
          · exact h1
          · exact State.closeFrame_keeps h1 _ _

theorem State.edgeLine_keeps {p : Part → Prop} {z s : State} (h : Keeps p z s) (labelError : Bool) (_ : p .mem := by first | assumption | decide) (_ : p .recs := by first | assumption | decide) (_ : p .intake := by first | assumption | decide) (_ : p .stats := by first | assumption | decide) (_ : p .cmp := by first | assumption | decide) (_ : p .seg := by first | assumption | decide) (_ : p .vd := by first | assumption | decide) (_ : p .fault := by first | assumption | decide) (_ : p .out := by first | assumption | decide) :
    Keeps p z (State.edgeLine s labelError) := by
  unfold State.edgeLine
  extract_lets a1 a2 a3 a4
  have ha3 : Keeps p z a3 := by
    unfold a3
    refine State.segmentStep_keeps ?_ _
    refine h.of
  clear_value a3
  have ha4 : Keeps p z a4 := by
    unfold a4
    refine State.settleSeam_keeps ?_
    refine State.takeDiverted_keeps ?_ _
    exact ha3
  clear_value a4
  split
  · exact ha4
  · refine ha4.of

theorem State.writeEnds_keeps {p : Part → Prop} {z s : State} (h : Keeps p z s) (v1 : Nat) (ok : Bool) (_ : p .keeper := by first | assumption | decide) (_ : p .recs := by first | assumption | decide) (_ : p .trestle := by first | assumption | decide) (_ : p .print := by first | assumption | decide) (_ : p .net := by first | assumption | decide) (_ : p .free := by first | assumption | decide) (_ : p .out := by first | assumption | decide) :
    Keeps p z (State.writeEnds s v1 ok) := by
  unfold State.writeEnds
  extract_lets a1 a2
  split
  · refine State.nextExchange_keeps ?_ _
    refine State.chipDone_keeps ?_ _ _ _ _
    refine State.countEvent_keeps ?_ _ _ _
    refine State.updChip_keeps ?_ _ _
    exact h
  · refine State.nextExchange_keeps ?_ _
    refine State.chipDone_keeps ?_ _ _ _ _
    refine State.countEvent_keeps ?_ _ _ _
    refine State.updChip_keeps ?_ _ _
    exact h

theorem execGeometryLine_keeps {p : Part → Prop} {z s : State} (h : Keeps p z s) (hits : List (Nat × EccHit)) (_ : p .mem := by first | assumption | decide) (_ : p .keeper := by first | assumption | decide) (_ : p .recs := by first | assumption | decide) (_ : p .intake := by first | assumption | decide) (_ : p .span := by first | assumption | decide) (_ : p .cal := by first | assumption | decide) (_ : p .net := by first | assumption | decide) (_ : p .fault := by first | assumption | decide) (_ : p .free := by first | assumption | decide) (_ : p .out := by first | assumption | decide) :
    KeepsO p z (execGeometryLine s hits) := by
  unfold execGeometryLine
  refine KeepsO.next ?_
  refine State.snapStep_keeps ?_
  refine State.geometryLeaves_keeps ?_ _
  exact h

theorem State.writeDue_keeps {p : Part → Prop} {z s : State} (h : Keeps p z s) (v1 : Nat) (_ : p .keeper := by first | assumption | decide) (_ : p .recs := by first | assumption | decide) (_ : p .trestle := by first | assumption | decide) (_ : p .print := by first | assumption | decide) (_ : p .net := by first | assumption | decide) (_ : p .free := by first | assumption | decide) (_ : p .out := by first | assumption | decide) :
    Keeps p z (State.writeDue s v1) := by
  unfold State.writeDue
  refine State.nextExchange_keeps ?_ _
  refine State.updChip_keeps ?_ _ _
  exact h

theorem State.exitCloses_keeps {p : Part → Prop} {z s : State} (h : Keeps p z s)  (_ : p .recs := by first | assumption | decide) (_ : p .intake := by first | assumption | decide) (_ : p .fault := by first | assumption | decide) :
    Keeps p z (State.exitCloses s) := by
  unfold State.exitCloses
  split
  · exact h
  · extract_lets a3 a4 a5 a6
    have ha4 : ∀ y0 y1, Keeps p z y1 → Keeps p z (a4 y0 y1) := by
      intro x7
      intro x8
      intro hx9
      unfold a4
      refine Keeps.foldl (fun z11 s12 x13 h14 => ?_) ?_
      · split
        · exact h14
        · refine State.closeNofe_keeps ?_ _
          exact h14
        · refine State.closeFrame_keeps ?_ _ _
          exact h14
      · exact hx9
    clear_value a4
    refine Keeps.of (s := a5) ?_
    apply ha4
    apply ha4
    apply ha4
    apply ha4
    apply ha4
    apply ha4
    apply ha4
    apply ha4
    apply ha4
    apply ha4
    apply ha4
    apply ha4
    apply ha4
    apply ha4
    apply ha4
    apply ha4
    apply ha4
    apply ha4
    apply ha4
    apply ha4
    apply ha4
    apply ha4
    apply ha4
    apply ha4
    exact h

theorem State.authFailed_keeps {p : Part → Prop} {z s : State} (h : Keeps p z s) (v1 : Nat) (reason : Nat) (id : Nat) (_ : p .keeper := by first | assumption | decide) (_ : p .recs := by first | assumption | decide) (_ : p .trestle := by first | assumption | decide) (_ : p .print := by first | assumption | decide) (_ : p .net := by first | assumption | decide) (_ : p .free := by first | assumption | decide) (_ : p .out := by first | assumption | decide) :
    Keeps p z (State.authFailed s v1 reason id) := by
  unfold State.authFailed
  extract_lets a1
  have ha1 : Keeps p z a1 := by
    unfold a1
    refine State.updChip_keeps ?_ _ _
    exact h
  clear_value a1
  refine State.nextExchange_keeps ?_ _
  refine State.chipDone_keeps ?_ _ _ _ _
  refine State.chipEvent_keeps ?_ _ _ _ _
  exact ha1

theorem State.seamLine_keeps {p : Part → Prop} {z s : State} (h : Keeps p z s) (c : CompLine) (m : SeamMsg) (labelError : Bool) (_ : p .mem := by first | assumption | decide) (_ : p .recs := by first | assumption | decide) (_ : p .intake := by first | assumption | decide) (_ : p .stats := by first | assumption | decide) (_ : p .cmp := by first | assumption | decide) (_ : p .seg := by first | assumption | decide) (_ : p .vd := by first | assumption | decide) (_ : p .fault := by first | assumption | decide) (_ : p .out := by first | assumption | decide) :
    Keeps p z (State.seamLine s c m labelError) := by
  unfold State.seamLine
  extract_lets a1 a2 a3 a4 a5
  have ha2 : Keeps p z a2 := by
    unfold a2
    refine State.seamCuts_keeps ?_ _ _
    refine State.seamAbove_keeps ?_ _ _
    exact h
  clear_value a2
  have ha4 : Keeps p z a4 := by
    unfold a4
    refine State.segmentStep_keeps ?_ _
    refine ha2.of
  clear_value a4
  have ha5 : Keeps p z a5 := by
    unfold a5
    refine State.seamBelow_keeps ?_ _ _ _
    refine State.seamClosed_keeps ?_
    exact ha4
  clear_value a5
  refine ha5.of

theorem State.deadlineIn_keeps {p : Part → Prop} {z s : State} (h : Keeps p z s) (c : Nat) (ser : Nat) (v3 : Strip) (_ : p .recs := by first | assumption | decide) (_ : p .intake := by first | assumption | decide) (_ : p .fault := by first | assumption | decide) :
    Keeps p z (State.deadlineIn s c ser v3) := by
  unfold State.deadlineIn
  extract_lets a1 a2 a3
  have ha3 : Keeps p z a3 := by
    unfold a3
    split
    · refine State.updCam_keeps ?_ _ _
      exact h
    · exact h
  clear_value a3
  split
  · exact h
  · split
    · split
      · exact ha3
      · refine State.closeNofe_keeps ?_ _
        exact ha3
      · refine State.closeFrame_keeps ?_ _ _
        exact ha3
    · exact ha3

theorem execReinstate_keeps {p : Part → Prop} {z s : State} (h : Keeps p z s) (q : Req) (block : Nat) (inst : Nat) (_ : p .mem := by first | assumption | decide) (_ : p .mbx := by first | assumption | decide) (_ : p .keeper := by first | assumption | decide) (_ : p .recs := by first | assumption | decide) (_ : p .pos := by first | assumption | decide) (_ : p .intake := by first | assumption | decide) (_ : p .codec := by first | assumption | decide) (_ : p .print := by first | assumption | decide) (_ : p .vd := by first | assumption | decide) (_ : p .net := by first | assumption | decide) (_ : p .dram := by first | assumption | decide) (_ : p .fault := by first | assumption | decide) (_ : p .out := by first | assumption | decide) :
    KeepsO p z (execReinstate q block inst s) := by
  unfold execReinstate
  refine runCmd_keeps ?_ _ _ _ _ _ _ ?_
  · exact h
  · intro x3
    dsimp only
    refine State.reinstate_keeps ?_ _ _ _
    exact h

theorem State.authOk_keeps {p : Part → Prop} {z s : State} (h : Keeps p z s) (v1 : Nat) (id : Nat) (count : Nat) (_ : p .keeper := by first | assumption | decide) (_ : p .recs := by first | assumption | decide) (_ : p .trestle := by first | assumption | decide) (_ : p .print := by first | assumption | decide) (_ : p .net := by first | assumption | decide) (_ : p .free := by first | assumption | decide) (_ : p .out := by first | assumption | decide) :
    Keeps p z (State.authOk s v1 id count) := by
  unfold State.authOk
  extract_lets a1
  have ha1 : Keeps p z a1 := by
    unfold a1
    refine State.updChip_keeps ?_ _ _
    exact h
  clear_value a1
  refine State.nextExchange_keeps ?_ _
  refine State.chipDone_keeps ?_ _ _ _ _
  refine State.checkLimit_keeps ?_ _
  refine State.chipEvent_keeps ?_ _ _ _ _
  exact ha1

theorem State.dropAxes_keeps {p : Part → Prop} {z s : State} (h : Keeps p z s)  (_ : p .keeper := by first | assumption | decide) (_ : p .recs := by first | assumption | decide) (_ : p .motion := by first | assumption | decide) (_ : p .net := by first | assumption | decide) (_ : p .now := by first | assumption | decide) (_ : p .out := by first | assumption | decide) :
    Keeps p z (State.dropAxes s) := by
  unfold State.dropAxes
  refine Keeps.foldl (fun z1 s2 x3 h4 => ?_) ?_
  · refine State.driveEn_keeps ?_ _ _
    exact h4
  · refine State.stopAxes_keeps ?_ _ _
    exact h

theorem State.laneRetired_keeps {p : Part → Prop} {z s : State} (h : Keeps p z s) (lane : Nat) (_ : p .mbx := by first | assumption | decide) (_ : p .keeper := by first | assumption | decide) (_ : p .recs := by first | assumption | decide) (_ : p .pos := by first | assumption | decide) (_ : p .seg := by first | assumption | decide) (_ : p .vd := by first | assumption | decide) (_ : p .net := by first | assumption | decide) (_ : p .fault := by first | assumption | decide) (_ : p .out := by first | assumption | decide) :
    Keeps p z (State.laneRetired s lane) := by
  unfold State.laneRetired
  split
  · exact h
  · split
    · refine State.linkLost_keeps ?_ _
      exact h
    · extract_lets a6 a7
      split
      · refine State.linkLost_keeps ?_ _
        exact h
      · split
        · refine State.checkCapacity_keeps ?_
          refine State.sendVd_keeps ?_ _ _
          refine h.of
        · exact h

theorem execPrintUsageWrite_keeps {p : Part → Prop} {z s : State} (h : Keeps p z s) (q : Req) (head : Nat) (_ : p .mbx := by first | assumption | decide) (_ : p .keeper := by first | assumption | decide) (_ : p .recs := by first | assumption | decide) (_ : p .trestle := by first | assumption | decide) (_ : p .print := by first | assumption | decide) (_ : p .net := by first | assumption | decide) (_ : p .free := by first | assumption | decide) (_ : p .out := by first | assumption | decide) :
    KeepsO p z (execPrintUsageWrite q head s) := by
  unfold execPrintUsageWrite
  refine runCmd_keeps ?_ _ _ _ _ _ _ ?_
  · exact h
  · intro x3
    dsimp only
    refine State.writeDue_keeps ?_ _
    refine State.start_keeps ?_ _ _ _
    exact h

theorem State.attemptFailed_keeps {p : Part → Prop} {z s : State} (h : Keeps p z s) (v1 : Nat) (_ : p .keeper := by first | assumption | decide) (_ : p .recs := by first | assumption | decide) (_ : p .trestle := by first | assumption | decide) (_ : p .print := by first | assumption | decide) (_ : p .net := by first | assumption | decide) (_ : p .free := by first | assumption | decide) (_ : p .out := by first | assumption | decide) :
    Keeps p z (State.attemptFailed s v1) := by
  unfold State.attemptFailed
  extract_lets a1
  split
  · split
    · refine State.writeEnds_keeps ?_ _ _
      exact h
    · refine State.authFailed_keeps ?_ _ _ _
      exact h
  · refine State.challenge_keeps ?_ _
    refine State.updChip_keeps ?_ _ _
    exact h

theorem execCompareLine_keeps {p : Part → Prop} {z s : State} (h : Keeps p z s) (bufferError : Bool) (gapStateError : Bool) (hits : List BandHit) (corrected : Nat) (_ : p .mem := by first | assumption | decide) (_ : p .keeper := by first | assumption | decide) (_ : p .recs := by first | assumption | decide) (_ : p .trestle := by first | assumption | decide) (_ : p .span := by first | assumption | decide) (_ : p .reg := by first | assumption | decide) (_ : p .cmp := by first | assumption | decide) (_ : p .seg := by first | assumption | decide) (_ : p .codec := by first | assumption | decide) (_ : p .print := by first | assumption | decide) (_ : p .vd := by first | assumption | decide) (_ : p .net := by first | assumption | decide) (_ : p .dram := by first | assumption | decide) (_ : p .fault := by first | assumption | decide) (_ : p .free := by first | assumption | decide) (_ : p .out := by first | assumption | decide) :
    KeepsO p z (execCompareLine bufferError gapStateError s hits corrected) := by
  unfold execCompareLine
  extract_lets a1
  have ha1 : Keeps p z a1 := by
    unfold a1
    refine State.comparedLine_keeps ?_ _ _ _ _
    exact h
  clear_value a1
  refine KeepsO.next ?_
  split
  · exact ha1
  · refine State.snapStep_keeps ?_
    refine State.sendSeam_keeps ?_
    exact ha1

theorem execLaneSet_keeps {p : Part → Prop} {z s : State} (h : Keeps p z s) (q : Req) (cls : Nat) (lane : Nat) (pattern : Nat) (gen : Bool) (check : Bool) (loopback : Bool) (inject : Nat) (_ : p .mbx := by first | assumption | decide) (_ : p .keeper := by first | assumption | decide) (_ : p .recs := by first | assumption | decide) (_ : p .pos := by first | assumption | decide) (_ : p .seg := by first | assumption | decide) (_ : p .vd := by first | assumption | decide) (_ : p .net := by first | assumption | decide) (_ : p .fault := by first | assumption | decide) (_ : p .out := by first | assumption | decide) :
    KeepsO p z (execLaneSet q cls lane pattern gen check loopback inject s) := by
  unfold execLaneSet
  extract_lets a1
  split
  · exact KeepsO.fault _ _
  · refine runCmd_keeps ?_ _ _ _ _ _ _ ?_
    · exact h
    · intro x7
      dsimp only
      refine State.setLane_keeps ?_ _
      exact h

theorem State.taskDone_keeps {p : Part → Prop} {z s : State} (h : Keeps p z s) (cell : Nat) (_ : p .mem := by first | assumption | decide) (_ : p .sys := by first | assumption | decide) (_ : p .recs := by first | assumption | decide) (_ : p .mark := by first | assumption | decide) (_ : p .trestle := by first | assumption | decide) (_ : p .reg := by first | assumption | decide) (_ : p .seg := by first | assumption | decide) (_ : p .comb := by first | assumption | decide) (_ : p .print := by first | assumption | decide) (_ : p .net := by first | assumption | decide) (_ : p .fault := by first | assumption | decide) (_ : p .free := by first | assumption | decide) (_ : p .out := by first | assumption | decide) :
    Keeps p z (State.taskDone s cell) := by
  unfold State.taskDone
  split
  · exact h
  · split
    · exact h
    · refine State.taskFault_keeps ?_ _ _ _ _
      exact h
    · extract_lets a7 a8
      have ha7 : Keeps p z a7 := by
        unfold a7
        refine State.dropTask_keeps ?_ _
        exact h
      clear_value a7
      split
      · refine ha7.of
      · refine State.commitTask_keeps ?_ _ _
        refine ha7.of

theorem execCsiLongPacket_keeps {p : Part → Prop} {z s : State} (h : Keeps p z s) (port : Nat) (v1 : CsiPacket) (_ : p .mem := by first | assumption | decide) (_ : p .recs := by first | assumption | decide) (_ : p .intake := by first | assumption | decide) (_ : p .stats := by first | assumption | decide) (_ : p .fault := by first | assumption | decide) :
    KeepsO p z (execCsiLongPacket port v1 s) := by
  unfold execCsiLongPacket
  refine KeepsO.next ?_
  refine State.endStrip_keeps ?_
  refine State.csiLongPacket_keeps ?_ _ _
  exact h

theorem State.countLine_keeps {p : Part → Prop} {z s : State} (h : Keeps p z s) (v1 : Nat) (_ : p .keeper := by first | assumption | decide) (_ : p .recs := by first | assumption | decide) (_ : p .trestle := by first | assumption | decide) (_ : p .print := by first | assumption | decide) (_ : p .net := by first | assumption | decide) (_ : p .free := by first | assumption | decide) (_ : p .out := by first | assumption | decide) :
    Keeps p z (State.countLine s v1) := by
  unfold State.countLine
  split
  · exact h
  · extract_lets a3
    have ha3 : Keeps p z a3 := by
      unfold a3
      refine State.checkLimit_keeps ?_ _
      refine State.updChip_keeps ?_ _ _
      exact h
    clear_value a3
    split
    · refine State.writeDue_keeps ?_ _
      exact ha3
    · exact ha3

theorem execExitDeadline_keeps {p : Part → Prop} {z s : State} (h : Keeps p z s)  (_ : p .mem := by first | assumption | decide) (_ : p .recs := by first | assumption | decide) (_ : p .intake := by first | assumption | decide) (_ : p .stats := by first | assumption | decide) (_ : p .fault := by first | assumption | decide) :
    KeepsO p z (execExitDeadline s) := by
  unfold execExitDeadline
  refine KeepsO.next ?_
  refine State.endStrip_keeps ?_
  refine State.exitCloses_keeps ?_
  exact h

theorem execPrintAuth_keeps {p : Part → Prop} {z s : State} (h : Keeps p z s) (q : Req) (head : Nat) (_ : p .mbx := by first | assumption | decide) (_ : p .keeper := by first | assumption | decide) (_ : p .recs := by first | assumption | decide) (_ : p .trestle := by first | assumption | decide) (_ : p .print := by first | assumption | decide) (_ : p .net := by first | assumption | decide) (_ : p .free := by first | assumption | decide) (_ : p .out := by first | assumption | decide) :
    KeepsO p z (execPrintAuth q head s) := by
  unfold execPrintAuth
  refine runCmd_keeps ?_ _ _ _ _ _ _ ?_
  · exact h
  · intro x3
    dsimp only
    refine State.authDue_keeps ?_ _
    refine State.start_keeps ?_ _ _ _
    exact h

theorem execReplayRequest_keeps {p : Part → Prop} {z s : State} (h : Keeps p z s) (lane : Option Nat) (code : Nat) (first : Nat) (peer : Bool) (_ : p .mbx := by first | assumption | decide) (_ : p .keeper := by first | assumption | decide) (_ : p .recs := by first | assumption | decide) (_ : p .pos := by first | assumption | decide) (_ : p .seg := by first | assumption | decide) (_ : p .vd := by first | assumption | decide) (_ : p .net := by first | assumption | decide) (_ : p .fault := by first | assumption | decide) (_ : p .out := by first | assumption | decide) :
    KeepsO p z (execReplayRequest lane code s first peer) := by
  unfold execReplayRequest
  split
  · refine KeepsO.next ?_
    exact h
  · split
    · refine KeepsO.next ?_
      refine State.resend_keeps ?_ _
      exact h
    · extract_lets a8 a9
      have ha8 : ∀ y0, Keeps p z y0 → Keeps p z (a8 y0) := by
        intro x10
        intro hx11
        unfold a8
        refine State.emit_keeps ?_ _
        refine hx11.of
      clear_value a8
      split
      · refine KeepsO.next ?_
        apply ha8
        exact h
      · split
        · refine KeepsO.next ?_
          exact h
        · extract_lets a22 a23
          have ha22 : Keeps p z a22 := by
            unfold a22
            split
            · apply ha8
              refine h.of
            · refine h.of
          clear_value a22
          have ha23 : Keeps p z a23.2 := by
            unfold a23
            refine State.occur_keeps ?_ _ _ _ _ _
            exact ha22
          clear_value a23
          refine KeepsO.next ?_
          split
          · refine State.laneRetired_keeps ?_ _
            exact ha23
          · exact ha23

theorem State.labelledLine_keeps {p : Part → Prop} {z s : State} (h : Keeps p z s) (labelError : Bool) (_ : p .mem := by first | assumption | decide) (_ : p .recs := by first | assumption | decide) (_ : p .intake := by first | assumption | decide) (_ : p .stats := by first | assumption | decide) (_ : p .cmp := by first | assumption | decide) (_ : p .seg := by first | assumption | decide) (_ : p .vd := by first | assumption | decide) (_ : p .fault := by first | assumption | decide) (_ : p .out := by first | assumption | decide) :
    Keeps p z (State.labelledLine s labelError) := by
  unfold State.labelledLine
  split
  · exact h
  · split
    · split
      · exact h
      · split
        · refine State.seamLine_keeps ?_ _ _ _
          exact h
        · refine State.edgeLine_keeps ?_ _
          refine h.of
    · refine State.edgeLine_keeps ?_ _
      exact h

theorem State.enterPrint_keeps {p : Part → Prop} {z s : State} (h : Keeps p z s)  (_ : p .keeper := by first | assumption | decide) (_ : p .recs := by first | assumption | decide) (_ : p .trestle := by first | assumption | decide) (_ : p .print := by first | assumption | decide) (_ : p .net := by first | assumption | decide) (_ : p .free := by first | assumption | decide) (_ : p .out := by first | assumption | decide) :
    Keeps p z (State.enterPrint s) := by
  unfold State.enterPrint
  extract_lets a1
  refine Keeps.foldl (fun z3 s4 x5 h6 => ?_) ?_
  · refine State.authDue_keeps ?_ _
    refine State.startHead_keeps ?_ _ _
    refine State.updChip_keeps ?_ _ _
    exact h6
  · exact h

theorem State.autoWrite_keeps {p : Part → Prop} {z s : State} (h : Keeps p z s) (v1 : Nat) (_ : p .keeper := by first | assumption | decide) (_ : p .recs := by first | assumption | decide) (_ : p .trestle := by first | assumption | decide) (_ : p .print := by first | assumption | decide) (_ : p .net := by first | assumption | decide) (_ : p .free := by first | assumption | decide) (_ : p .out := by first | assumption | decide) :
    Keeps p z (State.autoWrite s v1) := by
  unfold State.autoWrite
  split
  · exact h
  · refine State.writeDue_keeps ?_ _
    exact h

theorem execCsiOtherPacket_keeps {p : Part → Prop} {z s : State} (h : Keeps p z s) (port : Nat) (v1 : CsiPacket) (_ : p .recs := by first | assumption | decide) (_ : p .intake := by first | assumption | decide) (_ : p .fault := by first | assumption | decide) :
    KeepsO p z (execCsiOtherPacket port v1 s) := by
  unfold execCsiOtherPacket
  refine KeepsO.next ?_
  refine State.csiOtherPacket_keeps ?_ _ _
  exact h

theorem State.csiFrameStart_keeps {p : Part → Prop} {z s : State} (h : Keeps p z s) (port : Nat) (v2 : CsiPacket) (_ : p .recs := by first | assumption | decide) (_ : p .intake := by first | assumption | decide) (_ : p .fault := by first | assumption | decide) (_ : p .out := by first | assumption | decide) :
    Keeps p z (State.csiFrameStart s port v2) := by
  unfold State.csiFrameStart
  split
  · exact h
  · rename_i c _
    have hk := State.packetHeader_keeps' h c v2 true
    split
    · rename_i s1 e
      rw [e] at hk
      exact hk.1
    · rename_i s1 s2 e
      rw [e] at hk
      have h1 : Keeps p z s1 := hk.2 s1 rfl
      exact Keeps.ite (State.otherPacket_keeps h1 _) (State.commitAtFrame_keeps (State.frameStart_keeps h1 _) _)

theorem State.deadline_keeps {p : Part → Prop} {z s : State} (h : Keeps p z s) (c : Nat) (ser : Nat) (_ : p .recs := by first | assumption | decide) (_ : p .intake := by first | assumption | decide) (_ : p .fault := by first | assumption | decide) :
    Keeps p z (State.deadline s c ser) := by
  unfold State.deadline
  refine Keeps.foldl (fun z1 s2 x3 h4 => ?_) ?_
  · refine State.deadlineIn_keeps ?_ _ _ _
    exact h4
  · exact h

theorem execCsiLineStart_keeps {p : Part → Prop} {z s : State} (h : Keeps p z s) (port : Nat) (v1 : CsiPacket) (_ : p .recs := by first | assumption | decide) (_ : p .intake := by first | assumption | decide) (_ : p .fault := by first | assumption | decide) :
    KeepsO p z (execCsiLineStart port v1 s) := by
  unfold execCsiLineStart
  refine KeepsO.next ?_
  refine State.csiLineStart_keeps ?_ _ _
  exact h

theorem execHeadGateClear_keeps {p : Part → Prop} {z s : State} (h : Keeps p z s) (inp : GateInput) (_ : p .keeper := by first | assumption | decide) (_ : p .recs := by first | assumption | decide) (_ : p .trestle := by first | assumption | decide) (_ : p .print := by first | assumption | decide) (_ : p .net := by first | assumption | decide) (_ : p .free := by first | assumption | decide) (_ : p .out := by first | assumption | decide) :
    KeepsO p z (execHeadGateClear inp s) := by
  unfold execHeadGateClear
  split
  · split
    · refine KeepsO.next ?_
      exact h
    · extract_lets a5
      have ha5 : Keeps p z a5 := by
        unfold a5
        refine State.updHead_keeps ?_ _ _
        exact h
      clear_value a5
      refine KeepsO.next ?_
      refine State.authDue_keeps ?_ _
      exact ha5
  · refine KeepsO.next ?_
    split
    · refine State.webClears_keeps ?_
      refine h.of
    · exact h
  · refine KeepsO.next ?_
    split
    · refine State.webClears_keeps ?_
      refine h.of
    · exact h
  · refine KeepsO.next ?_
    refine h.of

theorem State.nextLine_keeps {p : Part → Prop} {z s : State} (h : Keeps p z s) (v1 : Nat) (k : Nat) (_ : p .mem := by first | assumption | decide) (_ : p .deck := by first | assumption | decide) (_ : p .recs := by first | assumption | decide) (_ : p .mark := by first | assumption | decide) (_ : p .trestle := by first | assumption | decide) (_ : p .print := by first | assumption | decide) (_ : p .free := by first | assumption | decide) (_ : p .out := by first | assumption | decide) :
    Keeps p z (State.nextLine s v1 k) := by
  unfold State.nextLine
  refine State.updHead_keeps ?_ _ _
  refine State.noteSwitch_keeps ?_ _
  refine State.windowEnd_keeps ?_ _ _
  exact h

theorem execCsiFrameEnd_keeps {p : Part → Prop} {z s : State} (h : Keeps p z s) (port : Nat) (v1 : CsiPacket) (_ : p .mem := by first | assumption | decide) (_ : p .recs := by first | assumption | decide) (_ : p .intake := by first | assumption | decide) (_ : p .stats := by first | assumption | decide) (_ : p .fault := by first | assumption | decide) :
    KeepsO p z (execCsiFrameEnd port v1 s) := by
  unfold execCsiFrameEnd
  refine KeepsO.next ?_
  refine State.endStrip_keeps ?_
  refine State.csiFrameEnd_keeps ?_ _ _
  exact h

theorem execAuthRetryTimeout_keeps {p : Part → Prop} {z s : State} (h : Keeps p z s) (v0 : Nat) (_ : p .keeper := by first | assumption | decide) (_ : p .recs := by first | assumption | decide) (_ : p .trestle := by first | assumption | decide) (_ : p .print := by first | assumption | decide) (_ : p .net := by first | assumption | decide) (_ : p .free := by first | assumption | decide) (_ : p .out := by first | assumption | decide) :
    KeepsO p z (execAuthRetryTimeout v0 s) := by
  unfold execAuthRetryTimeout
  refine KeepsO.next ?_
  split
  · exact h
  · refine State.attemptFailed_keeps ?_ _
    exact h

theorem execSegmentLine_keeps {p : Part → Prop} {z s : State} (h : Keeps p z s) (labelError : Bool) (corrected : Nat) (queueError : Option (Nat × Nat)) (_ : p .mem := by first | assumption | decide) (_ : p .keeper := by first | assumption | decide) (_ : p .recs := by first | assumption | decide) (_ : p .intake := by first | assumption | decide) (_ : p .stats := by first | assumption | decide) (_ : p .cmp := by first | assumption | decide) (_ : p .seg := by first | assumption | decide) (_ : p .vd := by first | assumption | decide) (_ : p .net := by first | assumption | decide) (_ : p .fault := by first | assumption | decide) (_ : p .free := by first | assumption | decide) (_ : p .out := by first | assumption | decide) :
    KeepsO p z (execSegmentLine labelError s corrected queueError) := by
  unfold execSegmentLine
  refine KeepsO.next ?_
  refine State.snapStep_keeps ?_
  refine State.labelledLine_keeps ?_ _
  refine State.segErrors_keeps ?_ _ _
  exact h

theorem State.chipReply_keeps {p : Part → Prop} {z s : State} (h : Keeps p z s) (v1 : Nat) (r : ChipReply) (_ : p .keeper := by first | assumption | decide) (_ : p .recs := by first | assumption | decide) (_ : p .trestle := by first | assumption | decide) (_ : p .print := by first | assumption | decide) (_ : p .net := by first | assumption | decide) (_ : p .free := by first | assumption | decide) (_ : p .out := by first | assumption | decide) :
    Keeps p z (State.chipReply s v1 r) := by
  unfold State.chipReply
  split
  · refine State.emit_keeps ?_ _
    exact h
  · refine State.attemptFailed_keeps ?_ _
    exact h
  · extract_lets a6 a7
    have ha7 : Keeps p z a7 := by
      unfold a7
      refine State.chipRead_keeps ?_ _ _
      exact h
    clear_value a7
    split
    · refine State.writeEnds_keeps ?_ _ _
      exact ha7
    · split
      · refine State.authFailed_keeps ?_ _ _ _
        exact ha7
      · split
        · refine State.authFailed_keeps ?_ _ _ _
          exact ha7
        · split
          · refine State.authFailed_keeps ?_ _ _ _
            exact ha7
          · refine State.authOk_keeps ?_ _ _ _
            exact ha7

theorem State.skipLine_keeps {p : Part → Prop} {z s : State} (h : Keeps p z s) (v1 : Nat) (_ : p .mem := by first | assumption | decide) (_ : p .deck := by first | assumption | decide) (_ : p .recs := by first | assumption | decide) (_ : p .mark := by first | assumption | decide) (_ : p .trestle := by first | assumption | decide) (_ : p .print := by first | assumption | decide) (_ : p .free := by first | assumption | decide) (_ : p .out := by first | assumption | decide) :
    Keeps p z (State.skipLine s v1) := by
  unfold State.skipLine
  extract_lets a1 a2 a3 a4 a5 a6 a7
  have ha1 : Keeps p z a1 := by
    unfold a1
    refine State.toNewGrid_keeps ?_ _
    exact h
  clear_value a1
  have ha6 : Keeps p z a6 := by
    unfold a6
    refine State.noteLine_keeps ?_ _ _ _ _ _ _
    exact ha1
  clear_value a6
  have ha7 : Keeps p z a7 := by
    unfold a7
    refine State.updHead_keeps ?_ _ _
    refine State.headTally_keeps ?_ _ _
    exact ha6
  clear_value a7
  refine State.nextLine_keeps ?_ _ _
  refine State.itemsPass_keeps ?_ _ _ _ _ _ _ _
  exact ha7

theorem State.enterWeb_keeps {p : Part → Prop} {z s : State} (h : Keeps p z s) (target : Mode) (_ : p .sys := by first | assumption | decide) (_ : p .keeper := by first | assumption | decide) (_ : p .deck := by first | assumption | decide) (_ : p .recs := by first | assumption | decide) (_ : p .trestle := by first | assumption | decide) (_ : p .pio := by first | assumption | decide) (_ : p .pos := by first | assumption | decide) (_ : p .intake := by first | assumption | decide) (_ : p .cal := by first | assumption | decide) (_ : p .reg := by first | assumption | decide) (_ : p .comb := by first | assumption | decide) (_ : p .print := by first | assumption | decide) (_ : p .vd := by first | assumption | decide) (_ : p .net := by first | assumption | decide) (_ : p .free := by first | assumption | decide) (_ : p .out := by first | assumption | decide) :
    Keeps p z (State.enterWeb s target) := by
  unfold State.enterWeb
  extract_lets a1 a2 a3 a4 a5 a6 a7 a8 a9 a10 a11 a12 a13 a14 a15 a16 a17
  have ha13 : Keeps p z a13 := by
    unfold a13
    refine h.of
  clear_value a13
  have ha14 : Keeps p z a14 := by
    unfold a14
    split
    · refine State.notify_keeps ?_ _ _ _ _
      exact ha13
    · exact ha13
  clear_value a14
  have ha15 : Keeps p z a15 := by
    unfold a15
    refine State.activateCams_keeps ?_ _ _ _
    exact ha14
  clear_value a15
  have ha17 : Keeps p z a17 := by
    unfold a17
    refine State.activateTrestle_keeps ?_ _
    refine ha15.of
  clear_value a17
  refine State.sendPairInfo_keeps ?_
  split
  · refine State.enterPrint_keeps ?_
    exact ha17
  · exact ha17

theorem execCsiFrameStart_keeps {p : Part → Prop} {z s : State} (h : Keeps p z s) (port : Nat) (v1 : CsiPacket) (_ : p .mem := by first | assumption | decide) (_ : p .recs := by first | assumption | decide) (_ : p .intake := by first | assumption | decide) (_ : p .stats := by first | assumption | decide) (_ : p .fault := by first | assumption | decide) (_ : p .out := by first | assumption | decide) :
    KeepsO p z (execCsiFrameStart port v1 s) := by
  unfold execCsiFrameStart
  refine KeepsO.next ?_
  refine State.endStrip_keeps ?_
  refine State.csiFrameStart_keeps ?_ _ _
  exact h

theorem State.lineIntake_keeps {p : Part → Prop} {z s : State} (h : Keeps p z s) (slot : LineSlot) (trig : Bool) (_ : p .keeper := by first | assumption | decide) (_ : p .recs := by first | assumption | decide) (_ : p .trestle := by first | assumption | decide) (_ : p .intake := by first | assumption | decide) (_ : p .cal := by first | assumption | decide) (_ : p .net := by first | assumption | decide) (_ : p .fault := by first | assumption | decide) (_ : p .free := by first | assumption | decide) (_ : p .out := by first | assumption | decide) :
    Keeps p z (State.lineIntake s slot trig) := by
  unfold State.lineIntake
  extract_lets a1 a2 a3 a4 a5 a6 a7 a8 a9 a10 a11 a12 a13 a14 a15
  have ha5 : Keeps p z a5 := by
    unfold a5
    refine State.setCodes_keeps ?_ _
    refine h.of
  clear_value a5
  have ha6 : Keeps p z a6 := by
    unfold a6
    refine Keeps.forEach (fun z19 s20 x21 h22 => ?_) ?_
    · refine State.applyChange_keeps ?_ _ _
      refine State.deferLate_keeps ?_ _ _ _
      exact h22
    · refine State.pruneStrips_keeps ?_
      exact ha5
  clear_value a6
  have ha7 : Keeps p z a7 := by
    unfold a7
    refine Keeps.forEach (fun z29 s30 x31 h32 => ?_) ?_
    · refine State.applyImmediate_keeps ?_ _ _ _
      exact h32
    · exact ha6
  clear_value a7
  have ha8 : Keeps p z a8 := by
    unfold a8
    refine State.placeInStrip_keeps ?_ _ _
    exact ha7
  clear_value a8
  have ha9 : Keeps p z a9 := by
    unfold a9
    split
    · refine State.pulses_keeps ?_ _ _ _
      exact ha8
    · refine Keeps.forEach (fun z42 s43 x44 h45 => ?_) ?_
      · refine State.updCam_keeps ?_ _ _
        exact h45
      · exact ha8
  clear_value a9
  have ha11 : Keeps p z a11 := by
    unfold a11
    refine Keeps.forEach (fun z50 s51 x52 h53 => ?_) ?_
    · split
      · refine State.updCam_keeps ?_ _ _
        exact h53
      · exact h53
    · exact ha9
  clear_value a11
  have ha13 : Keeps p z a13 := by
    unfold a13
    refine ha11.of
  clear_value a13
  have ha14 : Keeps p z a14 := by
    unfold a14
    refine Keeps.forEach (fun z61 s62 x63 h64 => ?_) ?_
    · refine State.commitDue_keeps ?_ _ _
      exact h64
    · exact ha13
  clear_value a14
  have ha15 : Keeps p z a15 := by
    unfold a15
    refine Keeps.forEach (fun z69 s70 x71 h72 => ?_) ?_
    · refine State.deadline_keeps ?_ _ _
      exact h72
    · exact ha14
  clear_value a15
  split
  · refine State.publish_keeps ?_ _ _
    exact ha15
  · exact ha15

theorem State.hsenLow_keeps {p : Part → Prop} {z s : State} (h : Keeps p z s) (v1 : Nat) (_ : p .keeper := by first | assumption | decide) (_ : p .recs := by first | assumption | decide) (_ : p .trestle := by first | assumption | decide) (_ : p .print := by first | assumption | decide) (_ : p .net := by first | assumption | decide) (_ : p .free := by first | assumption | decide) (_ : p .out := by first | assumption | decide) :
    Keeps p z (State.hsenLow s v1) := by
  unfold State.hsenLow
  split
  · exact h
  · refine State.autoWrite_keeps ?_ _
    refine State.updHead_keeps ?_ _ _
    exact h

theorem State.fireLine_keeps {p : Part → Prop} {z s : State} (h : Keeps p z s) (overspeed : Bool) (_ : p .keeper := by first | assumption | decide) (_ : p .deck := by first | assumption | decide) (_ : p .recs := by first | assumption | decide) (_ : p .mark := by first | assumption | decide) (_ : p .trestle := by first | assumption | decide) (_ : p .pio := by first | assumption | decide) (_ : p .pos := by first | assumption | decide) (_ : p .intake := by first | assumption | decide) (_ : p .cal := by first | assumption | decide) (_ : p .reg := by first | assumption | decide) (_ : p .vd := by first | assumption | decide) (_ : p .net := by first | assumption | decide) (_ : p .fault := by first | assumption | decide) (_ : p .free := by first | assumption | decide) (_ : p .out := by first | assumption | decide) :
    Keeps p z (State.fireLine s overspeed) := by
  unfold State.fireLine
  extract_lets a1 a2 a3 a4 a5 a6 a7 a8
  have ha1 : Keeps p z a1 := by
    unfold a1
    split
    · refine State.switchCams_keeps ?_ _ _
      refine State.cameraSwitch_keeps ?_ _
      exact h
    · exact h
  clear_value a1
  have ha7 : Keeps p z a7 := by
    unfold a7
    refine ha1.of
  clear_value a7
  have ha8 : Keeps p z a8 := by
    unfold a8
    split
    · refine State.publish_keeps ?_ _ _
      exact ha7
    · exact ha7
  clear_value a8
  refine State.sendLine_keeps ?_ _
  refine State.lineIntake_keeps ?_ _ _
  refine State.publish_keeps ?_ _ _
  exact ha8

theorem execAuthResponse_keeps {p : Part → Prop} {z s : State} (h : Keeps p z s) (v0 : Nat) (r : ChipReply) (_ : p .keeper := by first | assumption | decide) (_ : p .recs := by first | assumption | decide) (_ : p .trestle := by first | assumption | decide) (_ : p .print := by first | assumption | decide) (_ : p .net := by first | assumption | decide) (_ : p .free := by first | assumption | decide) (_ : p .out := by first | assumption | decide) :
    KeepsO p z (execAuthResponse v0 r s) := by
  unfold execAuthResponse
  refine KeepsO.next ?_
  split
  · refine State.chipReply_keeps ?_ _ _
    exact h
  · exact h

theorem State.headRetired_keeps {p : Part → Prop} {z s : State} (h : Keeps p z s) (v1 : Nat) (_ : p .keeper := by first | assumption | decide) (_ : p .recs := by first | assumption | decide) (_ : p .trestle := by first | assumption | decide) (_ : p .print := by first | assumption | decide) (_ : p .net := by first | assumption | decide) (_ : p .free := by first | assumption | decide) (_ : p .out := by first | assumption | decide) :
    Keeps p z (State.headRetired s v1) := by
  unfold State.headRetired
  extract_lets a1
  refine State.mapItems_keeps ?_ _ _
  refine State.hsenLow_keeps ?_ _
  exact h

theorem State.stopHead_keeps {p : Part → Prop} {z s : State} (h : Keeps p z s) (v1 : Nat) (_ : p .keeper := by first | assumption | decide) (_ : p .recs := by first | assumption | decide) (_ : p .trestle := by first | assumption | decide) (_ : p .print := by first | assumption | decide) (_ : p .net := by first | assumption | decide) (_ : p .free := by first | assumption | decide) (_ : p .out := by first | assumption | decide) :
    Keeps p z (State.stopHead s v1) := by
  unfold State.stopHead
  extract_lets a1
  have ha1 : Keeps p z a1 := by
    unfold a1
    refine State.hsenLow_keeps ?_ _
    refine State.closeEvents_keeps ?_ _ _
    exact h
  clear_value a1
  refine State.updHead_keeps ?_ _ _
  exact ha1

theorem State.skipLines_keeps {p : Part → Prop} {z s : State} (h : Keeps p z s) (v0 : Nat) (v1 : Nat) (_ : p .mem := by first | assumption | decide) (_ : p .deck := by first | assumption | decide) (_ : p .recs := by first | assumption | decide) (_ : p .mark := by first | assumption | decide) (_ : p .trestle := by first | assumption | decide) (_ : p .print := by first | assumption | decide) (_ : p .free := by first | assumption | decide) (_ : p .out := by first | assumption | decide) :
    Keeps p z (State.skipLines v0 v1 s) := by
  induction v1 generalizing s v0
  · rw [State.skipLines]
    exact h
  · rename_i i0 ih
    rw [State.skipLines]
    split
    · apply ih
      refine State.skipLine_keeps ?_ _
      exact h
    · exact h

theorem State.enterAtEnd_keeps {p : Part → Prop} {z s : State} (h : Keeps p z s) (t : Mode) (_ : p .sys := by first | assumption | decide) (_ : p .keeper := by first | assumption | decide) (_ : p .deck := by first | assumption | decide) (_ : p .recs := by first | assumption | decide) (_ : p .trestle := by first | assumption | decide) (_ : p .pio := by first | assumption | decide) (_ : p .pos := by first | assumption | decide) (_ : p .intake := by first | assumption | decide) (_ : p .cal := by first | assumption | decide) (_ : p .reg := by first | assumption | decide) (_ : p .comb := by first | assumption | decide) (_ : p .print := by first | assumption | decide) (_ : p .motion := by first | assumption | decide) (_ : p .mon := by first | assumption | decide) (_ : p .vd := by first | assumption | decide) (_ : p .net := by first | assumption | decide) (_ : p .dram := by first | assumption | decide) (_ : p .now := by first | assumption | decide) (_ : p .free := by first | assumption | decide) (_ : p .out := by first | assumption | decide) :
    Keeps p z (State.enterAtEnd s t) := by
  unfold State.enterAtEnd
  extract_lets a1
  have ha1 : Keeps p z a1 := by
    unfold a1
    refine h.of
  clear_value a1
  split
  · split
    · exact ha1
    · refine State.enterWeb_keeps ?_ _
      exact ha1
  · split
    · refine State.enterCal_keeps ?_
      exact ha1
    · split
      · refine State.enterStandby_keeps ?_
        exact ha1
      · exact ha1

theorem execUsageWriteDone_keeps {p : Part → Prop} {z s : State} (h : Keeps p z s) (v0 : Nat) (r : ChipReply) (_ : p .keeper := by first | assumption | decide) (_ : p .recs := by first | assumption | decide) (_ : p .trestle := by first | assumption | decide) (_ : p .print := by first | assumption | decide) (_ : p .net := by first | assumption | decide) (_ : p .free := by first | assumption | decide) (_ : p .out := by first | assumption | decide) :
    KeepsO p z (execUsageWriteDone v0 r s) := by
  unfold execUsageWriteDone
  refine KeepsO.next ?_
  split
  · refine State.chipReply_keeps ?_ _ _
    exact h
  · exact h

theorem State.calTick_keeps {p : Part → Prop} {z s : State} (h : Keeps p z s)  (_ : p .keeper := by first | assumption | decide) (_ : p .recs := by first | assumption | decide) (_ : p .trestle := by first | assumption | decide) (_ : p .intake := by first | assumption | decide) (_ : p .cal := by first | assumption | decide) (_ : p .net := by first | assumption | decide) (_ : p .fault := by first | assumption | decide) (_ : p .free := by first | assumption | decide) (_ : p .out := by first | assumption | decide) :
    Keeps p z (State.calTick s) := by
  unfold State.calTick
  extract_lets a1 a2
  have ha1 : Keeps p z a1 := by
    unfold a1
    refine State.lineIntake_keeps ?_ _ _
    exact h
  clear_value a1
  refine ha1.of

theorem State.gateHeads_keeps {p : Part → Prop} {z s : State} (h : Keeps p z s) (hs : List Nat) (low : Bool) (_ : p .keeper := by first | assumption | decide) (_ : p .recs := by first | assumption | decide) (_ : p .trestle := by first | assumption | decide) (_ : p .print := by first | assumption | decide) (_ : p .net := by first | assumption | decide) (_ : p .free := by first | assumption | decide) (_ : p .out := by first | assumption | decide) :
    Keeps p z (State.gateHeads s hs low) := by
  unfold State.gateHeads
  extract_lets a1
  have ha1 : Keeps p z a1 := by
    unfold a1
    refine Keeps.foldl (fun z3 s4 x5 h6 => ?_) ?_
    · extract_lets a8
      have ha8 : Keeps p z3 a8 := by
        unfold a8
        refine State.cutLine_keeps ?_ _
        exact h6
      clear_value a8
      split
      · refine State.hsenLow_keeps ?_ _
        exact ha8
      · exact ha8
    · exact h
  clear_value a1
  split
  · exact ha1
  · refine State.publish_keeps ?_ _ _
    exact ha1

theorem State.gateAssert_keeps {p : Part → Prop} {z s : State} (h : Keeps p z s) (inp : GateInput) (_ : p .keeper := by first | assumption | decide) (_ : p .recs := by first | assumption | decide) (_ : p .trestle := by first | assumption | decide) (_ : p .print := by first | assumption | decide) (_ : p .net := by first | assumption | decide) (_ : p .free := by first | assumption | decide) (_ : p .out := by first | assumption | decide) :
    Keeps p z (State.gateAssert s inp) := by
  unfold State.gateAssert
  split
  · split
    · exact h
    · refine State.gateHeads_keeps ?_ _ _
      refine State.updHead_keeps ?_ _ _
      exact h
  · split
    · exact h
    · refine State.gateHeads_keeps ?_ _ _
      refine h.of
  · split
    · exact h
    · refine State.gateHeads_keeps ?_ _ _
      refine h.of
  · split
    · exact h
    · refine State.gateHeads_keeps ?_ _ _
      refine h.of

theorem State.idleSwitch_keeps {p : Part → Prop} {z s : State} (h : Keeps p z s) (v1 : Nat) (_ : p .mem := by first | assumption | decide) (_ : p .keeper := by first | assumption | decide) (_ : p .deck := by first | assumption | decide) (_ : p .recs := by first | assumption | decide) (_ : p .mark := by first | assumption | decide) (_ : p .trestle := by first | assumption | decide) (_ : p .print := by first | assumption | decide) (_ : p .net := by first | assumption | decide) (_ : p .free := by first | assumption | decide) (_ : p .out := by first | assumption | decide) :
    Keeps p z (State.idleSwitch s v1) := by
  unfold State.idleSwitch
  split
  · exact h
  · extract_lets a3 a4 a5 a6
    have ha5 : Keeps p z a5 := by
      unfold a5
      refine h.of
    clear_value a5
    have ha6 : Keeps p z a6 := by
      unfold a6
      split
      · refine State.startHead_keeps ?_ _ _
        exact ha5
      · exact ha5
    clear_value a6
    split
    · exact h
    · split
      · refine State.headSwitched_keeps ?_ _ _
        refine State.stopHead_keeps ?_ _
        exact h
      · refine State.stationDone_keeps ?_ _
        exact ha6

theorem State.leavePrint_keeps {p : Part → Prop} {z s : State} (h : Keeps p z s)  (_ : p .mem := by first | assumption | decide) (_ : p .keeper := by first | assumption | decide) (_ : p .recs := by first | assumption | decide) (_ : p .mark := by first | assumption | decide) (_ : p .trestle := by first | assumption | decide) (_ : p .cal := by first | assumption | decide) (_ : p .print := by first | assumption | decide) (_ : p .net := by first | assumption | decide) (_ : p .free := by first | assumption | decide) (_ : p .out := by first | assumption | decide) :
    Keeps p z (State.leavePrint s) := by
  unfold State.leavePrint
  extract_lets a1 a2 a3 a4
  have ha1 : Keeps p z a1 := by
    unfold a1
    refine Keeps.foldl (fun z6 s7 x8 h9 => ?_) ?_
    · refine State.stopHead_keeps ?_ _
      exact h9
    · exact h
  clear_value a1
  have ha2 : Keeps p z a2 := by
    unfold a2
    refine Keeps.foldl (fun z14 s15 x16 h17 => ?_) ?_
    · refine State.endItems_keeps ?_ _ _
      exact h17
    · exact ha1
  clear_value a2
  have ha4 : Keeps p z a4 := by
    unfold a4
    refine ha2.of
  clear_value a4
  refine State.deliverRequest_keeps ?_
  exact ha4

theorem execBrownout_keeps {p : Part → Prop} {z s : State} (h : Keeps p z s) (lowestMv : Nat) (_ : p .keeper := by first | assumption | decide) (_ : p .recs := by first | assumption | decide) (_ : p .trestle := by first | assumption | decide) (_ : p .print := by first | assumption | decide) (_ : p .motion := by first | assumption | decide) (_ : p .net := by first | assumption | decide) (_ : p .power := by first | assumption | decide) (_ : p .now := by first | assumption | decide) (_ : p .free := by first | assumption | decide) (_ : p .out := by first | assumption | decide) :
    KeepsO p z (execBrownout lowestMv s) := by
  unfold execBrownout
  split
  · refine KeepsO.next ?_
    exact h
  · split
    · refine KeepsO.next ?_
      refine h.of
    · extract_lets a7 a8 a9
      have ha7 : Keeps p z a7 := by
        unfold a7
        refine State.dropAxes_keeps ?_
        refine State.gateHeads_keeps ?_ _ _
        exact h
      clear_value a7
      have ha9 : Keeps p z a9 := by
        unfold a9
        refine ha7.of
      clear_value a9
      refine KeepsO.next ?_
      refine State.notify_keeps ?_ _ _ _ _
      exact ha9

theorem State.freeRunTick_keeps {p : Part → Prop} {z s : State} (h : Keeps p z s)  (_ : p .keeper := by first | assumption | decide) (_ : p .deck := by first | assumption | decide) (_ : p .recs := by first | assumption | decide) (_ : p .mark := by first | assumption | decide) (_ : p .trestle := by first | assumption | decide) (_ : p .pio := by first | assumption | decide) (_ : p .pos := by first | assumption | decide) (_ : p .intake := by first | assumption | decide) (_ : p .cal := by first | assumption | decide) (_ : p .reg := by first | assumption | decide) (_ : p .vd := by first | assumption | decide) (_ : p .net := by first | assumption | decide) (_ : p .fault := by first | assumption | decide) (_ : p .free := by first | assumption | decide) (_ : p .out := by first | assumption | decide) :
    Keeps p z (State.freeRunTick s) := by
  unfold State.freeRunTick
  split
  · split
    · extract_lets a3
      have ha3 : Keeps p z a3 := by
        unfold a3
        refine State.backlogFlag_keeps ?_
        refine State.fireLine_keeps ?_ _
        exact h
      clear_value a3
      refine State.posChange_keeps ?_ _
      exact ha3
    · exact h
  · exact h

theorem State.unitRetired_keeps {p : Part → Prop} {z s : State} (h : Keeps p z s) (block : Nat) (inst : Nat) (code : Nat) (_ : p .sys := by first | assumption | decide) (_ : p .mbx := by first | assumption | decide) (_ : p .keeper := by first | assumption | decide) (_ : p .recs := by first | assumption | decide) (_ : p .trestle := by first | assumption | decide) (_ : p .pos := by first | assumption | decide) (_ : p .intake := by first | assumption | decide) (_ : p .seg := by first | assumption | decide) (_ : p .codec := by first | assumption | decide) (_ : p .comb := by first | assumption | decide) (_ : p .print := by first | assumption | decide) (_ : p .vd := by first | assumption | decide) (_ : p .net := by first | assumption | decide) (_ : p .dram := by first | assumption | decide) (_ : p .fault := by first | assumption | decide) (_ : p .free := by first | assumption | decide) (_ : p .out := by first | assumption | decide) :
    Keeps p z (State.unitRetired s block inst code) := by
  unfold State.unitRetired
  split
  · split
    · refine State.portRetired_keeps ?_ _ _
      refine State.retireNow_keeps ?_ _ _ _
      exact h
    · exact h
  · split
    · refine State.portRetired_keeps ?_ _ _
      refine State.retireNow_keeps ?_ _ _ _
      exact h
    · refine State.retireNow_keeps ?_ _ _ _
      exact h
  · refine State.segmenterRetired_keeps ?_
    exact h
  · refine State.shedCodec_keeps ?_
    exact h
  · refine State.afterRetire_keeps ?_ _
    exact h
  · refine State.afterRetire_keeps ?_ _
    exact h
  · refine State.headRetired_keeps ?_ _
    exact h
  · refine State.inputRetired_keeps ?_ _
    exact h
  · refine State.laneRetired_keeps ?_ _
    exact h
  · exact h

theorem State.triggerNow_keeps {p : Part → Prop} {z s : State} (h : Keeps p z s)  (_ : p .keeper := by first | assumption | decide) (_ : p .deck := by first | assumption | decide) (_ : p .recs := by first | assumption | decide) (_ : p .mark := by first | assumption | decide) (_ : p .trestle := by first | assumption | decide) (_ : p .pio := by first | assumption | decide) (_ : p .pos := by first | assumption | decide) (_ : p .intake := by first | assumption | decide) (_ : p .cal := by first | assumption | decide) (_ : p .reg := by first | assumption | decide) (_ : p .vd := by first | assumption | decide) (_ : p .net := by first | assumption | decide) (_ : p .fault := by first | assumption | decide) (_ : p .free := by first | assumption | decide) (_ : p .out := by first | assumption | decide) :
    Keeps p z (State.triggerNow s) := by
  unfold State.triggerNow
  split
  · refine State.fireLine_keeps ?_ _
    split
    · refine h.of
    · exact h
  · exact h

theorem State.forceLines_keeps {p : Part → Prop} {z s : State} (h : Keeps p z s) (v0 : Nat) (_ : p .keeper := by first | assumption | decide) (_ : p .deck := by first | assumption | decide) (_ : p .recs := by first | assumption | decide) (_ : p .mark := by first | assumption | decide) (_ : p .trestle := by first | assumption | decide) (_ : p .pio := by first | assumption | decide) (_ : p .pos := by first | assumption | decide) (_ : p .intake := by first | assumption | decide) (_ : p .cal := by first | assumption | decide) (_ : p .reg := by first | assumption | decide) (_ : p .vd := by first | assumption | decide) (_ : p .net := by first | assumption | decide) (_ : p .fault := by first | assumption | decide) (_ : p .free := by first | assumption | decide) (_ : p .out := by first | assumption | decide) :
    Keeps p z (State.forceLines v0 s) := by
  induction v0 generalizing s
  · rw [State.forceLines]
    exact h
  · rename_i i0 ih
    rw [State.forceLines]
    split
    · apply ih
      refine State.fireLine_keeps ?_ _
      exact h
    · exact h

theorem State.headOccur_keeps {p : Part → Prop} {z s : State} (h : Keeps p z s) (v1 : Nat) (code : Nat) (_ : p .keeper := by first | assumption | decide) (_ : p .recs := by first | assumption | decide) (_ : p .trestle := by first | assumption | decide) (_ : p .print := by first | assumption | decide) (_ : p .net := by first | assumption | decide) (_ : p .fault := by first | assumption | decide) (_ : p .free := by first | assumption | decide) (_ : p .out := by first | assumption | decide) :
    Keeps p z (State.headOccur s v1 code) := by
  unfold State.headOccur
  extract_lets a1
  have ha1 : Keeps p z a1.2 := by
    unfold a1
    refine State.occur_keeps ?_ _ _ _ _ _
    exact h
  clear_value a1
  split
  · refine State.headRetired_keeps ?_ _
    exact ha1
  · exact ha1

theorem State.retireUnit_keeps {p : Part → Prop} {z s : State} (h : Keeps p z s) (block : Nat) (inst : Nat) (code : Nat) (_ : p .sys := by first | assumption | decide) (_ : p .mbx := by first | assumption | decide) (_ : p .keeper := by first | assumption | decide) (_ : p .recs := by first | assumption | decide) (_ : p .trestle := by first | assumption | decide) (_ : p .pos := by first | assumption | decide) (_ : p .intake := by first | assumption | decide) (_ : p .seg := by first | assumption | decide) (_ : p .codec := by first | assumption | decide) (_ : p .comb := by first | assumption | decide) (_ : p .print := by first | assumption | decide) (_ : p .vd := by first | assumption | decide) (_ : p .net := by first | assumption | decide) (_ : p .dram := by first | assumption | decide) (_ : p .fault := by first | assumption | decide) (_ : p .free := by first | assumption | decide) (_ : p .out := by first | assumption | decide) :
    Keeps p z (State.retireUnit s block inst code) := by
  unfold State.retireUnit
  split
  · exact h
  · refine State.unitRetired_keeps ?_ _ _ _
    refine State.retireNow_keeps ?_ _ _ _
    exact h

theorem State.modeLineHook_keeps {p : Part → Prop} {z s : State} (h : Keeps p z s) (pre : State) (_ : p .mem := by first | assumption | decide) (_ : p .keeper := by first | assumption | decide) (_ : p .recs := by first | assumption | decide) (_ : p .mark := by first | assumption | decide) (_ : p .trestle := by first | assumption | decide) (_ : p .cal := by first | assumption | decide) (_ : p .reg := by first | assumption | decide) (_ : p .codec := by first | assumption | decide) (_ : p .print := by first | assumption | decide) (_ : p .net := by first | assumption | decide) (_ : p .free := by first | assumption | decide) (_ : p .out := by first | assumption | decide) :
    Keeps p z (State.modeLineHook s pre) := by
  unfold State.modeLineHook
  split
  · extract_lets a2
    have ha2 : Keeps p z a2 := by
      unfold a2
      split
      · refine State.enterPrint_keeps ?_
        exact h
      · split
        · refine State.leavePrint_keeps ?_
          exact h
        · exact h
    clear_value a2
    split
    · refine State.learnEnds_keeps ?_ _ _
      exact ha2
    · exact ha2
  · exact h

theorem execHeadGateAssert_keeps {p : Part → Prop} {z s : State} (h : Keeps p z s) (inp : GateInput) (_ : p .keeper := by first | assumption | decide) (_ : p .recs := by first | assumption | decide) (_ : p .trestle := by first | assumption | decide) (_ : p .print := by first | assumption | decide) (_ : p .motion := by first | assumption | decide) (_ : p .net := by first | assumption | decide) (_ : p .now := by first | assumption | decide) (_ : p .free := by first | assumption | decide) (_ : p .out := by first | assumption | decide) :
    KeepsO p z (execHeadGateAssert inp s) := by
  unfold execHeadGateAssert
  extract_lets a1
  have ha1 : Keeps p z a1 := by
    unfold a1
    refine State.gateAssert_keeps ?_ _
    exact h
  clear_value a1
  refine KeepsO.next ?_
  split
  · refine State.dropAxes_keeps ?_
    exact ha1
  · exact ha1

theorem State.thermistorOutput_keeps {p : Part → Prop} {z s : State} (h : Keeps p z s) (v1 : Nat) (ch : Nat) (_ : p .keeper := by first | assumption | decide) (_ : p .recs := by first | assumption | decide) (_ : p .trestle := by first | assumption | decide) (_ : p .print := by first | assumption | decide) (_ : p .net := by first | assumption | decide) (_ : p .fault := by first | assumption | decide) (_ : p .free := by first | assumption | decide) (_ : p .out := by first | assumption | decide) :
    Keeps p z (State.thermistorOutput s v1 ch) := by
  unfold State.thermistorOutput
  extract_lets a1 a2 a3 a4
  have ha3 : Keeps p z a3 := by
    unfold a3
    refine State.headTally_keeps ?_ _ _
    refine State.updHead_keeps ?_ _ _
    exact h
  clear_value a3
  have ha4 : Keeps p z a4 := by
    unfold a4
    refine State.updHead_keeps ?_ _ _
    exact h
  clear_value a4
  split
  · refine State.headOccur_keeps ?_ _ _
    refine State.holdLine_keeps ?_ _
    exact ha3
  · split
    · exact ha4
    · split
      · refine State.holdLine_keeps ?_ _
        refine State.updHead_keeps ?_ _ _
        exact ha4
      · split
        · refine State.updHead_keeps ?_ _ _
          exact ha4
        · exact ha4

theorem State.burstDone_keeps {p : Part → Prop} {z s : State} (h : Keeps p z s) (lead : Nat) (itemId : Nat) (row : Nat) (ok : Bool) (_ : p .sys := by first | assumption | decide) (_ : p .keeper := by first | assumption | decide) (_ : p .recs := by first | assumption | decide) (_ : p .trestle := by first | assumption | decide) (_ : p .print := by first | assumption | decide) (_ : p .net := by first | assumption | decide) (_ : p .dram := by first | assumption | decide) (_ : p .fault := by first | assumption | decide) (_ : p .free := by first | assumption | decide) (_ : p .out := by first | assumption | decide) :
    Keeps p z (State.burstDone s lead itemId row ok) := by
  unfold State.burstDone
  split
  · refine State.burst_keeps ?_ _ _ _
    exact h
  · split
    · refine State.headOccur_keeps ?_ _ _
      refine State.readUnc_keeps ?_ _
      exact h
    · exact h

theorem State.triggerLine_keeps {p : Part → Prop} {z s : State} (h : Keeps p z s) (v1 : Nat) (bufferError : Bool) (_ : p .mem := by first | assumption | decide) (_ : p .keeper := by first | assumption | decide) (_ : p .deck := by first | assumption | decide) (_ : p .recs := by first | assumption | decide) (_ : p .mark := by first | assumption | decide) (_ : p .trestle := by first | assumption | decide) (_ : p .print := by first | assumption | decide) (_ : p .net := by first | assumption | decide) (_ : p .fault := by first | assumption | decide) (_ : p .free := by first | assumption | decide) (_ : p .out := by first | assumption | decide) :
    Keeps p z (State.triggerLine s v1 bufferError) := by
  unfold State.triggerLine
  extract_lets a1 a2 a3 a4 a5 a6 a7 a8 a9 a10 a11 a12 a13 a14 a15 a16 a17 a18 a19 a20
  have ha1 : Keeps p z a1 := by
    unfold a1
    refine State.toNewGrid_keeps ?_ _
    exact h
  clear_value a1
  have ha2 : Keeps p z a2 := by
    unfold a2
    split
    · exact ha1
    · refine State.prepare_keeps ?_ _
      exact ha1
  clear_value a2
  have ha17 : Keeps p z a17 := by
    unfold a17
    refine State.headTally_keeps ?_ _ _
    refine State.noteLine_keeps ?_ _ _ _ _ _ _
    exact ha2
  clear_value a17
  have ha18 : Keeps p z a18 := by
    unfold a18
    refine State.updHead_keeps ?_ _ _
    exact ha17
  clear_value a18
  have ha19 : Keeps p z a19 := by
    unfold a19
    split
    · refine State.countLine_keeps ?_ _
      refine State.emit_keeps ?_ _
      exact ha18
    · exact ha18
  clear_value a19
  have ha20 : Keeps p z a20 := by
    unfold a20
    refine State.nextLine_keeps ?_ _ _
    refine State.itemsPass_keeps ?_ _ _ _ _ _ _ _
    exact ha19
  clear_value a20
  split
  · refine State.headOccur_keeps ?_ _ _
    exact ha20
  · exact ha20

theorem State.stopAll_keeps {p : Part → Prop} {z s : State} (h : Keeps p z s)  (_ : p .mem := by first | assumption | decide) (_ : p .sys := by first | assumption | decide) (_ : p .keeper := by first | assumption | decide) (_ : p .recs := by first | assumption | decide) (_ : p .mark := by first | assumption | decide) (_ : p .trestle := by first | assumption | decide) (_ : p .pos := by first | assumption | decide) (_ : p .cal := by first | assumption | decide) (_ : p .print := by first | assumption | decide) (_ : p .motion := by first | assumption | decide) (_ : p .net := by first | assumption | decide) (_ : p .now := by first | assumption | decide) (_ : p .free := by first | assumption | decide) (_ : p .out := by first | assumption | decide) :
    Keeps p z (State.stopAll s) := by
  unfold State.stopAll
  extract_lets a1 a2 a3
  have ha2 : Keeps p z a2 := by
    unfold a2
    refine h.of
  clear_value a2
  have ha3 : Keeps p z a3 := by
    unfold a3
    split
    · split
      · refine State.leavePrint_keeps ?_
        exact ha2
      · exact ha2
    · exact h
  clear_value a3
  refine State.stopAxes_keeps ?_ _ _
  exact ha3

theorem State.triggerTick_keeps {p : Part → Prop} {z s : State} (h : Keeps p z s)  (_ : p .keeper := by first | assumption | decide) (_ : p .deck := by first | assumption | decide) (_ : p .recs := by first | assumption | decide) (_ : p .mark := by first | assumption | decide) (_ : p .trestle := by first | assumption | decide) (_ : p .pio := by first | assumption | decide) (_ : p .pos := by first | assumption | decide) (_ : p .intake := by first | assumption | decide) (_ : p .cal := by first | assumption | decide) (_ : p .reg := by first | assumption | decide) (_ : p .vd := by first | assumption | decide) (_ : p .net := by first | assumption | decide) (_ : p .fault := by first | assumption | decide) (_ : p .free := by first | assumption | decide) (_ : p .out := by first | assumption | decide) :
    Keeps p z (State.triggerTick s) := by
  unfold State.triggerTick
  extract_lets a1 a2 a3
  have ha1 : Keeps p z a1 := by
    unfold a1
    refine State.posChange_keeps ?_ _
    refine State.backlogFlag_keeps ?_
    exact h
  clear_value a1
  have ha2 : Keeps p z a2 := by
    unfold a2
    refine State.triggerNow_keeps ?_
    exact ha1
  clear_value a2
  have ha3 : Keeps p z a3 := by
    unfold a3
    refine State.forceLines_keeps ?_ _
    exact ha2
  clear_value a3
  refine State.posChange_keeps ?_ _
  refine State.backlogFlag_keeps ?_
  exact ha3

theorem State.leaveWeb_keeps {p : Part → Prop} {z s : State} (h : Keeps p z s)  (_ : p .mem := by first | assumption | decide) (_ : p .sys := by first | assumption | decide) (_ : p .keeper := by first | assumption | decide) (_ : p .deck := by first | assumption | decide) (_ : p .recs := by first | assumption | decide) (_ : p .mark := by first | assumption | decide) (_ : p .trestle := by first | assumption | decide) (_ : p .pio := by first | assumption | decide) (_ : p .pos := by first | assumption | decide) (_ : p .intake := by first | assumption | decide) (_ : p .stats := by first | assumption | decide) (_ : p .cal := by first | assumption | decide) (_ : p .reg := by first | assumption | decide) (_ : p .seg := by first | assumption | decide) (_ : p .codec := by first | assumption | decide) (_ : p .comb := by first | assumption | decide) (_ : p .print := by first | assumption | decide) (_ : p .mon := by first | assumption | decide) (_ : p .vd := by first | assumption | decide) (_ : p .net := by first | assumption | decide) (_ : p .fault := by first | assumption | decide) (_ : p .free := by first | assumption | decide) (_ : p .out := by first | assumption | decide) :
    Keeps p z (State.leaveWeb s) := by
  unfold State.leaveWeb
  extract_lets a1 a2 a3 a4 a5 a6
  have ha1 : Keeps p z a1 := by
    unfold a1
    split
    · refine State.leavePrint_keeps ?_
      exact h
    · exact h
  clear_value a1
  have ha5 : Keeps p z a5 := by
    unfold a5
    refine ha1.of
  clear_value a5
  have ha6 : Keeps p z a6 := by
    unfold a6
    refine Keeps.forEach (fun z13 s14 x15 h16 => ?_) ?_
    · refine State.retarget_keeps ?_ _
      exact h16
    · refine State.portsReturn_keeps ?_
      split
      · refine State.deliverRequest_keeps ?_
        exact ha5
      · exact ha5
  clear_value a6
  refine State.endIfIdle_keeps ?_
  refine State.learnEnds_keeps ?_ _ _
  refine State.finishSwap_keeps ?_
  refine State.endStrip_keeps ?_
  exact ha6

theorem execSysStop_keeps {p : Part → Prop} {z s : State} (h : Keeps p z s) (q : Req) (_ : p .mem := by first | assumption | decide) (_ : p .sys := by first | assumption | decide) (_ : p .mbx := by first | assumption | decide) (_ : p .keeper := by first | assumption | decide) (_ : p .recs := by first | assumption | decide) (_ : p .mark := by first | assumption | decide) (_ : p .trestle := by first | assumption | decide) (_ : p .pos := by first | assumption | decide) (_ : p .cal := by first | assumption | decide) (_ : p .print := by first | assumption | decide) (_ : p .motion := by first | assumption | decide) (_ : p .vd := by first | assumption | decide) (_ : p .net := by first | assumption | decide) (_ : p .now := by first | assumption | decide) (_ : p .free := by first | assumption | decide) (_ : p .out := by first | assumption | decide) :
    KeepsO p z (execSysStop q s) := by
  unfold execSysStop
  split
  · refine KeepsO.next ?_
    refine State.respond_keeps ?_ _ _ _
    exact h
  · extract_lets a5 a6 a7
    have ha5 : Keeps p z a5 := by
      unfold a5
      split
      · refine State.askPeer_keeps ?_ _ _ _ _
        exact h
      · exact h
    clear_value a5
    have ha7 : Keeps p z a7 := by
      unfold a7
      refine State.stopAll_keeps ?_
      exact ha5
    clear_value a7
    split
    · refine KeepsO.next ?_
      refine ha5.of
    · refine KeepsO.next ?_
      refine State.respond_keeps ?_ _ _ _
      exact ha7

theorem State.headTick_keeps {p : Part → Prop} {z s : State} (h : Keeps p z s) (v1 : Nat) (bufferError : Bool) (_ : p .mem := by first | assumption | decide) (_ : p .keeper := by first | assumption | decide) (_ : p .deck := by first | assumption | decide) (_ : p .recs := by first | assumption | decide) (_ : p .mark := by first | assumption | decide) (_ : p .trestle := by first | assumption | decide) (_ : p .print := by first | assumption | decide) (_ : p .net := by first | assumption | decide) (_ : p .fault := by first | assumption | decide) (_ : p .free := by first | assumption | decide) (_ : p .out := by first | assumption | decide) :
    Keeps p z (State.headTick s v1 bufferError) := by
  unfold State.headTick
  extract_lets a1 a2 a3 a4 a5
  have ha1 : Keeps p z a1 := by
    unfold a1
    refine State.idleSwitch_keeps ?_ _
    exact h
  clear_value a1
  have ha4 : Keeps p z a4 := by
    unfold a4
    refine State.skipLines_keeps ?_ _ _
    exact ha1
  clear_value a4
  have ha5 : Keeps p z a5 := by
    unfold a5
    refine State.idleSwitch_keeps ?_ _
    exact ha4
  clear_value a5
  split
  · exact ha1
  · split
    · refine State.triggerLine_keeps ?_ _ _
      exact ha5
    · exact ha5

theorem State.monitorToPrint_keeps {p : Part → Prop} {z s : State} (h : Keeps p z s) (ch : Nat) (_ : p .keeper := by first | assumption | decide) (_ : p .recs := by first | assumption | decide) (_ : p .trestle := by first | assumption | decide) (_ : p .print := by first | assumption | decide) (_ : p .net := by first | assumption | decide) (_ : p .fault := by first | assumption | decide) (_ : p .free := by first | assumption | decide) (_ : p .out := by first | assumption | decide) :
    Keeps p z (State.monitorToPrint s ch) := by
  unfold State.monitorToPrint
  extract_lets a1
  split
  · refine State.thermistorOutput_keeps ?_ _ _
    exact h
  · exact h

theorem State.afterLines_keeps {p : Part → Prop} {z s : State} (h : Keeps p z s) (pre : State) (_ : p .mem := by first | assumption | decide) (_ : p .keeper := by first | assumption | decide) (_ : p .recs := by first | assumption | decide) (_ : p .mark := by first | assumption | decide) (_ : p .trestle := by first | assumption | decide) (_ : p .intake := by first | assumption | decide) (_ : p .stats := by first | assumption | decide) (_ : p .cal := by first | assumption | decide) (_ : p .reg := by first | assumption | decide) (_ : p .codec := by first | assumption | decide) (_ : p .comb := by first | assumption | decide) (_ : p .print := by first | assumption | decide) (_ : p .mon := by first | assumption | decide) (_ : p .net := by first | assumption | decide) (_ : p .free := by first | assumption | decide) (_ : p .out := by first | assumption | decide) :
    Keeps p z (State.afterLines s pre) := by
  unfold State.afterLines
  refine State.snapStep_keeps ?_
  refine State.endStrip_keeps ?_
  refine State.modeLineHook_keeps ?_ _
  refine State.switchHook_keeps ?_ _
  exact h

theorem State.serveStops_keeps {p : Part → Prop} {z s : State} (h : Keeps p z s)  (_ : p .mem := by first | assumption | decide) (_ : p .sys := by first | assumption | decide) (_ : p .mbx := by first | assumption | decide) (_ : p .keeper := by first | assumption | decide) (_ : p .recs := by first | assumption | decide) (_ : p .mark := by first | assumption | decide) (_ : p .trestle := by first | assumption | decide) (_ : p .pos := by first | assumption | decide) (_ : p .cal := by first | assumption | decide) (_ : p .print := by first | assumption | decide) (_ : p .motion := by first | assumption | decide) (_ : p .net := by first | assumption | decide) (_ : p .now := by first | assumption | decide) (_ : p .free := by first | assumption | decide) (_ : p .out := by first | assumption | decide) :
    Keeps p z (State.serveStops s) := by
  unfold State.serveStops
  refine Keeps.foldl (fun z1 s2 x3 h4 => ?_) ?_
  · extract_lets a6
    have ha6 : Keeps p z1 a6 := by
      unfold a6
      refine State.stopAll_keeps ?_
      exact h4
    clear_value a6
    refine State.respond_keeps ?_ _ _ _
    exact ha6
  · refine h.of

theorem State.modeBegin_keeps {p : Part → Prop} {z s : State} (h : Keeps p z s) (q : Req) (t : Mode) (_ : p .mem := by first | assumption | decide) (_ : p .sys := by first | assumption | decide) (_ : p .keeper := by first | assumption | decide) (_ : p .deck := by first | assumption | decide) (_ : p .recs := by first | assumption | decide) (_ : p .mark := by first | assumption | decide) (_ : p .trestle := by first | assumption | decide) (_ : p .pio := by first | assumption | decide) (_ : p .pos := by first | assumption | decide) (_ : p .intake := by first | assumption | decide) (_ : p .stats := by first | assumption | decide) (_ : p .cal := by first | assumption | decide) (_ : p .reg := by first | assumption | decide) (_ : p .seg := by first | assumption | decide) (_ : p .codec := by first | assumption | decide) (_ : p .comb := by first | assumption | decide) (_ : p .print := by first | assumption | decide) (_ : p .mon := by first | assumption | decide) (_ : p .vd := by first | assumption | decide) (_ : p .net := by first | assumption | decide) (_ : p .dma := by first | assumption | decide) (_ : p .fault := by first | assumption | decide) (_ : p .free := by first | assumption | decide) (_ : p .out := by first | assumption | decide) :
    Keeps p z (State.modeBegin s q t) := by
  unfold State.modeBegin
  dsimp only
  refine State.start_keeps ?_ _ _ _
  have h1 : Keeps p z { s with sys := { s.sys with transit := true, target := t, modeSer := s.intake.ser } } := h.of
  have h2 := Keeps.ite (c := (s.sys.mode.isWeb && t.isWeb) = true) (h1.of (t := { s with sys := { s.sys with transit := true, target := t, modeSer := s.intake.ser, lineMode := t } }))
    (Keeps.ite (c := s.sys.mode.isWeb = true) (State.leaveWeb_keeps h1) (Keeps.ite (c := s.sys.mode = .calibrate) (State.leaveCal_keeps h1) h1))
  have h3 : ∀ {x : State}, Keeps p z x → Keeps p z (if t = .standby then { x with dma := x.dma.pauseAll } else x) := fun {x} hx =>
    Keeps.ite (hx.of (hd := by simp [DmaState.pauseAll])) hx
  refine Keeps.ite (State.askPeer_keeps (h3 h2) _ _ _ _) (Keeps.ite (State.askPeer_keeps (h3 h2) _ _ _ _) (Keeps.ite (h3 h2).of (h3 h2)))

theorem State.retireUnits_keeps {p : Part → Prop} {z s : State} (h : Keeps p z s) (code : Nat) (l : List (Nat × Nat)) (_ : p .sys := by first | assumption | decide) (_ : p .mbx := by first | assumption | decide) (_ : p .keeper := by first | assumption | decide) (_ : p .recs := by first | assumption | decide) (_ : p .trestle := by first | assumption | decide) (_ : p .pos := by first | assumption | decide) (_ : p .intake := by first | assumption | decide) (_ : p .seg := by first | assumption | decide) (_ : p .codec := by first | assumption | decide) (_ : p .comb := by first | assumption | decide) (_ : p .print := by first | assumption | decide) (_ : p .vd := by first | assumption | decide) (_ : p .net := by first | assumption | decide) (_ : p .dram := by first | assumption | decide) (_ : p .fault := by first | assumption | decide) (_ : p .free := by first | assumption | decide) (_ : p .out := by first | assumption | decide) :
    Keeps p z (State.retireUnits s code l) := by
  unfold State.retireUnits
  refine Keeps.foldl (fun z1 s2 x3 h4 => ?_) ?_
  · refine State.retireUnit_keeps ?_ _ _ _
    exact h4
  · exact h

theorem State.bootRetire_keeps {p : Part → Prop} {z s : State} (h : Keeps p z s)  (_ : p .sys := by first | assumption | decide) (_ : p .mbx := by first | assumption | decide) (_ : p .keeper := by first | assumption | decide) (_ : p .recs := by first | assumption | decide) (_ : p .trestle := by first | assumption | decide) (_ : p .pos := by first | assumption | decide) (_ : p .intake := by first | assumption | decide) (_ : p .seg := by first | assumption | decide) (_ : p .codec := by first | assumption | decide) (_ : p .comb := by first | assumption | decide) (_ : p .print := by first | assumption | decide) (_ : p .vd := by first | assumption | decide) (_ : p .net := by first | assumption | decide) (_ : p .dram := by first | assumption | decide) (_ : p .fault := by first | assumption | decide) (_ : p .free := by first | assumption | decide) (_ : p .out := by first | assumption | decide) :
    Keeps p z (State.bootRetire s) := by
  unfold State.bootRetire
  extract_lets a1 a2
  refine State.retireUnits_keeps ?_ _ _
  exact h

theorem execHeadLineTrigger_keeps {p : Part → Prop} {z s : State} (h : Keeps p z s) (v0 : Nat) (t : Nat) (bufferError : Bool) (_ : p .mem := by first | assumption | decide) (_ : p .keeper := by first | assumption | decide) (_ : p .deck := by first | assumption | decide) (_ : p .recs := by first | assumption | decide) (_ : p .mark := by first | assumption | decide) (_ : p .trestle := by first | assumption | decide) (_ : p .pos := by first | assumption | decide) (_ : p .print := by first | assumption | decide) (_ : p .net := by first | assumption | decide) (_ : p .fault := by first | assumption | decide) (_ : p .now := by first | assumption | decide) (_ : p .free := by first | assumption | decide) (_ : p .out := by first | assumption | decide) :
    KeepsO p z (execHeadLineTrigger v0 t s bufferError) := by
  unfold execHeadLineTrigger
  refine KeepsO.next ?_
  refine State.headTick_keeps ?_ _ _
  refine State.reachTick_keeps ?_ _
  exact h

theorem execLine_keeps {p : Part → Prop} {z s : State} (h : Keeps p z s) (wln : Nat) (wpos : Int) (epoch : Nat) (time : Nat) (ridx : Nat) (roff : Nat) (notrig : Bool) (_ : p .mem := by first | assumption | decide) (_ : p .keeper := by first | assumption | decide) (_ : p .deck := by first | assumption | decide) (_ : p .recs := by first | assumption | decide) (_ : p .mark := by first | assumption | decide) (_ : p .trestle := by first | assumption | decide) (_ : p .pio := by first | assumption | decide) (_ : p .pos := by first | assumption | decide) (_ : p .intake := by first | assumption | decide) (_ : p .stats := by first | assumption | decide) (_ : p .cal := by first | assumption | decide) (_ : p .reg := by first | assumption | decide) (_ : p .seg := by first | assumption | decide) (_ : p .codec := by first | assumption | decide) (_ : p .comb := by first | assumption | decide) (_ : p .print := by first | assumption | decide) (_ : p .mon := by first | assumption | decide) (_ : p .vd := by first | assumption | decide) (_ : p .net := by first | assumption | decide) (_ : p .fault := by first | assumption | decide) (_ : p .free := by first | assumption | decide) (_ : p .out := by first | assumption | decide) :
    KeepsO p z (execLine wln wpos epoch time ridx roff notrig s) := by
  unfold execLine
  split
  · exact KeepsO.next h
  · extract_lets due s1 slot s2 s3 s4 s5
    have h1 : Keeps p z s1 := by
      show Keeps p z (match due with | some w => _ | none => _)
      cases due
      · exact h
      · exact State.switchCams_keeps (State.cameraSwitch_keeps h _) _ _
    have h2 : Keeps p z s2 := h1.of
    have h3 : Keeps p z s3 := by
      show Keeps p z (match slot.refLabel with | some l => _ | none => _)
      cases slot.refLabel
      · exact h2
      · exact State.publish_keeps h2 _ _
    have h4 : Keeps p z s4 := State.lineIntake_keeps (State.publish_keeps h3 _ _) _ _
    have h5 : Keeps p z s5 := by
      show Keeps p z (if _ then _ else _)
      split
      · exact State.splitPair_keeps h4 _
      · exact h4
    exact KeepsO.next (State.afterLines_keeps h5 _)

theorem execLineTrigger_keeps {p : Part → Prop} {z s : State} (h : Keeps p z s) (t : Nat) (_ : p .mem := by first | assumption | decide) (_ : p .keeper := by first | assumption | decide) (_ : p .deck := by first | assumption | decide) (_ : p .recs := by first | assumption | decide) (_ : p .mark := by first | assumption | decide) (_ : p .trestle := by first | assumption | decide) (_ : p .pio := by first | assumption | decide) (_ : p .pos := by first | assumption | decide) (_ : p .intake := by first | assumption | decide) (_ : p .stats := by first | assumption | decide) (_ : p .cal := by first | assumption | decide) (_ : p .reg := by first | assumption | decide) (_ : p .codec := by first | assumption | decide) (_ : p .comb := by first | assumption | decide) (_ : p .print := by first | assumption | decide) (_ : p .mon := by first | assumption | decide) (_ : p .vd := by first | assumption | decide) (_ : p .net := by first | assumption | decide) (_ : p .fault := by first | assumption | decide) (_ : p .now := by first | assumption | decide) (_ : p .free := by first | assumption | decide) (_ : p .out := by first | assumption | decide) :
    KeepsO p z (execLineTrigger t s) := by
  unfold execLineTrigger
  split
  · refine KeepsO.next ?_
    exact h
  · extract_lets a4 a5
    have ha4 : Keeps p z a4 := by
      unfold a4
      refine State.advance_keeps ?_ _
      exact h
    clear_value a4
    have ha5 : Keeps p z a5 := by
      unfold a5
      refine ha4.of
    clear_value a5
    refine KeepsO.next ?_
    refine State.afterLines_keeps ?_ _
    refine State.triggerTick_keeps ?_
    exact ha5

theorem State.transitEnds_keeps {p : Part → Prop} {z s : State} (h : Keeps p z s) (m : Mode) (st : Status) (reason : Nat) (_ : p .mem := by first | assumption | decide) (_ : p .sys := by first | assumption | decide) (_ : p .mbx := by first | assumption | decide) (_ : p .hif := by first | assumption | decide) (_ : p .keeper := by first | assumption | decide) (_ : p .recs := by first | assumption | decide) (_ : p .mark := by first | assumption | decide) (_ : p .trestle := by first | assumption | decide) (_ : p .pos := by first | assumption | decide) (_ : p .cal := by first | assumption | decide) (_ : p .print := by first | assumption | decide) (_ : p .motion := by first | assumption | decide) (_ : p .net := by first | assumption | decide) (_ : p .now := by first | assumption | decide) (_ : p .free := by first | assumption | decide) (_ : p .out := by first | assumption | decide) :
    Keeps p z (State.transitEnds s m st reason) := by
  unfold State.transitEnds
  extract_lets a1 a2 a3
  have ha2 : Keeps p z a2 := by
    unfold a2
    refine h.of
  clear_value a2
  have ha3 : Keeps p z a3 := by
    unfold a3
    refine State.raiseIrq_keeps ?_ _
    refine State.completeCode_keeps ?_ _ _ _
    exact ha2
  clear_value a3
  refine State.serveStops_keeps ?_
  exact ha3

theorem execModeSet_keeps {p : Part → Prop} {z s : State} (h : Keeps p z s) (q : Req) (target : Nat) (_ : p .mem := by first | assumption | decide) (_ : p .sys := by first | assumption | decide) (_ : p .mbx := by first | assumption | decide) (_ : p .keeper := by first | assumption | decide) (_ : p .deck := by first | assumption | decide) (_ : p .recs := by first | assumption | decide) (_ : p .mark := by first | assumption | decide) (_ : p .trestle := by first | assumption | decide) (_ : p .pio := by first | assumption | decide) (_ : p .pos := by first | assumption | decide) (_ : p .intake := by first | assumption | decide) (_ : p .stats := by first | assumption | decide) (_ : p .cal := by first | assumption | decide) (_ : p .reg := by first | assumption | decide) (_ : p .seg := by first | assumption | decide) (_ : p .codec := by first | assumption | decide) (_ : p .comb := by first | assumption | decide) (_ : p .print := by first | assumption | decide) (_ : p .mon := by first | assumption | decide) (_ : p .vd := by first | assumption | decide) (_ : p .net := by first | assumption | decide) (_ : p .dma := by first | assumption | decide) (_ : p .fault := by first | assumption | decide) (_ : p .free := by first | assumption | decide) (_ : p .out := by first | assumption | decide) :
    KeepsO p z (execModeSet q target s) := by
  unfold execModeSet
  refine runCmd_keeps ?_ _ _ _ _ _ _ ?_
  · exact h
  · intro x3
    dsimp only
    refine State.modeBegin_keeps ?_ _ _
    exact h

theorem execCalTimedTrigger_keeps {p : Part → Prop} {z s : State} (h : Keeps p z s) (t : Nat) (_ : p .mem := by first | assumption | decide) (_ : p .keeper := by first | assumption | decide) (_ : p .recs := by first | assumption | decide) (_ : p .mark := by first | assumption | decide) (_ : p .trestle := by first | assumption | decide) (_ : p .intake := by first | assumption | decide) (_ : p .stats := by first | assumption | decide) (_ : p .cal := by first | assumption | decide) (_ : p .reg := by first | assumption | decide) (_ : p .codec := by first | assumption | decide) (_ : p .comb := by first | assumption | decide) (_ : p .print := by first | assumption | decide) (_ : p .mon := by first | assumption | decide) (_ : p .net := by first | assumption | decide) (_ : p .fault := by first | assumption | decide) (_ : p .now := by first | assumption | decide) (_ : p .free := by first | assumption | decide) (_ : p .out := by first | assumption | decide) :
    KeepsO p z (execCalTimedTrigger t s) := by
  unfold execCalTimedTrigger
  split
  · refine KeepsO.next ?_
    exact h
  · refine KeepsO.next ?_
    refine State.afterLines_keeps ?_ _
    refine State.calTick_keeps ?_
    refine State.advance_keeps ?_ _
    exact h

theorem execMonitorOutput_keeps {p : Part → Prop} {z s : State} (h : Keeps p z s) (ch : Nat) (code : Nat) (eccError : Bool) (_ : p .keeper := by first | assumption | decide) (_ : p .recs := by first | assumption | decide) (_ : p .trestle := by first | assumption | decide) (_ : p .print := by first | assumption | decide) (_ : p .mon := by first | assumption | decide) (_ : p .net := by first | assumption | decide) (_ : p .fault := by first | assumption | decide) (_ : p .free := by first | assumption | decide) (_ : p .out := by first | assumption | decide) :
    KeepsO p z (execMonitorOutput ch code eccError s) := by
  unfold execMonitorOutput
  split
  · refine KeepsO.next ?_
    exact h
  · extract_lets a4 a5
    have ha5 : Keeps p z a5 := by
      unfold a5
      refine h.of
    clear_value a5
    refine KeepsO.next ?_
    split
    · refine State.monitorToPrint_keeps ?_ _
      exact ha5
    · exact ha5

theorem execFreeRunLine_keeps {p : Part → Prop} {z s : State} (h : Keeps p z s) (t : Nat) (_ : p .mem := by first | assumption | decide) (_ : p .keeper := by first | assumption | decide) (_ : p .deck := by first | assumption | decide) (_ : p .recs := by first | assumption | decide) (_ : p .mark := by first | assumption | decide) (_ : p .trestle := by first | assumption | decide) (_ : p .pio := by first | assumption | decide) (_ : p .pos := by first | assumption | decide) (_ : p .intake := by first | assumption | decide) (_ : p .stats := by first | assumption | decide) (_ : p .cal := by first | assumption | decide) (_ : p .reg := by first | assumption | decide) (_ : p .codec := by first | assumption | decide) (_ : p .comb := by first | assumption | decide) (_ : p .print := by first | assumption | decide) (_ : p .mon := by first | assumption | decide) (_ : p .vd := by first | assumption | decide) (_ : p .net := by first | assumption | decide) (_ : p .fault := by first | assumption | decide) (_ : p .now := by first | assumption | decide) (_ : p .free := by first | assumption | decide) (_ : p .out := by first | assumption | decide) :
    KeepsO p z (execFreeRunLine t s) := by
  unfold execFreeRunLine
  split
  · refine KeepsO.next ?_
    exact h
  · refine KeepsO.next ?_
    refine State.afterLines_keeps ?_ _
    refine State.freeRunTick_keeps ?_
    refine State.advance_keeps ?_ _
    exact h

theorem State.safeHold_keeps {p : Part → Prop} {z s : State} (h : Keeps p z s)  (_ : p .mem := by first | assumption | decide) (_ : p .sys := by first | assumption | decide) (_ : p .mbx := by first | assumption | decide) (_ : p .hif := by first | assumption | decide) (_ : p .keeper := by first | assumption | decide) (_ : p .deck := by first | assumption | decide) (_ : p .recs := by first | assumption | decide) (_ : p .mark := by first | assumption | decide) (_ : p .trestle := by first | assumption | decide) (_ : p .pio := by first | assumption | decide) (_ : p .pos := by first | assumption | decide) (_ : p .intake := by first | assumption | decide) (_ : p .stats := by first | assumption | decide) (_ : p .cal := by first | assumption | decide) (_ : p .reg := by first | assumption | decide) (_ : p .seg := by first | assumption | decide) (_ : p .codec := by first | assumption | decide) (_ : p .comb := by first | assumption | decide) (_ : p .print := by first | assumption | decide) (_ : p .motion := by first | assumption | decide) (_ : p .mon := by first | assumption | decide) (_ : p .vd := by first | assumption | decide) (_ : p .net := by first | assumption | decide) (_ : p .dram := by first | assumption | decide) (_ : p .dma := by first | assumption | decide) (_ : p .fault := by first | assumption | decide) (_ : p .now := by first | assumption | decide) (_ : p .free := by first | assumption | decide) (_ : p .out := by first | assumption | decide) :
    Keeps p z (State.safeHold s) := by
  unfold State.safeHold
  split
  · refine h.of
  · extract_lets a3 a4 a5 a6 a7
    have ha3 : Keeps p z a3 := by
      unfold a3
      refine State.wakes_keeps ?_
      refine State.dropAxes_keeps ?_
      refine State.gateHeads_keeps ?_ _ _
      exact h
    clear_value a3
    have ha4 : Keeps p z a4 := by
      unfold a4
      split
      · refine State.splitPair_keeps ?_ _
        refine State.leaveWeb_keeps ?_
        exact ha3
      · split
        · refine State.leaveCal_keeps ?_
          exact ha3
        · exact ha3
    clear_value a4
    have ha6 : Keeps p z a6 := by
      unfold a6
      refine ha4.of
    clear_value a6
    split
    · refine State.transitEnds_keeps ?_ _ _ _
      exact ha6
    · refine ha6.of

theorem execModeTransitDone_keeps {p : Part → Prop} {z s : State} (h : Keeps p z s)  (_ : p .mem := by first | assumption | decide) (_ : p .sys := by first | assumption | decide) (_ : p .mbx := by first | assumption | decide) (_ : p .hif := by first | assumption | decide) (_ : p .keeper := by first | assumption | decide) (_ : p .deck := by first | assumption | decide) (_ : p .profile := by first | assumption | decide) (_ : p .recs := by first | assumption | decide) (_ : p .mark := by first | assumption | decide) (_ : p .trestle := by first | assumption | decide) (_ : p .pio := by first | assumption | decide) (_ : p .pos := by first | assumption | decide) (_ : p .intake := by first | assumption | decide) (_ : p .cal := by first | assumption | decide) (_ : p .reg := by first | assumption | decide) (_ : p .seg := by first | assumption | decide) (_ : p .comb := by first | assumption | decide) (_ : p .print := by first | assumption | decide) (_ : p .motion := by first | assumption | decide) (_ : p .mon := by first | assumption | decide) (_ : p .vd := by first | assumption | decide) (_ : p .net := by first | assumption | decide) (_ : p .dram := by first | assumption | decide) (_ : p .dma := by first | assumption | decide) (_ : p .fault := by first | assumption | decide) (_ : p .now := by first | assumption | decide) (_ : p .free := by first | assumption | decide) (_ : p .out := by first | assumption | decide) :
    KeepsO p z (execModeTransitDone s) := by
  unfold execModeTransitDone
  split
  · refine KeepsO.next ?_
    exact h
  · split
    · exact KeepsO.fault _ _
    · extract_lets a6 a7 a8 a9
      have ha7 : Keeps p z a7 := by
        unfold a7
        refine State.leaveAtEnd_keeps ?_
        exact h
      clear_value a7
      have ha8 : Keeps p z a8 := by
        unfold a8
        refine State.enterAtEnd_keeps ?_ _
        exact ha7
      clear_value a8
      have ha9 : Keeps p z a9 := by
        unfold a9
        split
        · refine State.splitPair_keeps ?_ _
          exact ha8
        · exact ha8
      clear_value a9
      split
      · refine KeepsO.next ?_
        refine State.transitEnds_keeps ?_ _ _ _
        exact ha7
      · refine KeepsO.next ?_
        refine State.transitEnds_keeps ?_ _ _ _
        exact ha9

theorem State.settle_keeps {p : Part → Prop} {z s : State} (h : Keeps p z s)  (_ : p .mem := by first | assumption | decide) (_ : p .sys := by first | assumption | decide) (_ : p .mbx := by first | assumption | decide) (_ : p .hif := by first | assumption | decide) (_ : p .keeper := by first | assumption | decide) (_ : p .deck := by first | assumption | decide) (_ : p .recs := by first | assumption | decide) (_ : p .mark := by first | assumption | decide) (_ : p .trestle := by first | assumption | decide) (_ : p .pio := by first | assumption | decide) (_ : p .pos := by first | assumption | decide) (_ : p .intake := by first | assumption | decide) (_ : p .stats := by first | assumption | decide) (_ : p .cal := by first | assumption | decide) (_ : p .reg := by first | assumption | decide) (_ : p .seg := by first | assumption | decide) (_ : p .codec := by first | assumption | decide) (_ : p .comb := by first | assumption | decide) (_ : p .print := by first | assumption | decide) (_ : p .motion := by first | assumption | decide) (_ : p .mon := by first | assumption | decide) (_ : p .vd := by first | assumption | decide) (_ : p .net := by first | assumption | decide) (_ : p .dram := by first | assumption | decide) (_ : p .dma := by first | assumption | decide) (_ : p .fault := by first | assumption | decide) (_ : p .now := by first | assumption | decide) (_ : p .free := by first | assumption | decide) (_ : p .out := by first | assumption | decide) :
    Keeps p z (State.settle s) := by
  unfold State.settle
  split
  · refine State.safeHold_keeps ?_
    exact h
  · exact h

theorem execTaskWatchdog_keeps {p : Part → Prop} {z s : State} (h : Keeps p z s) (cell : Nat) (_ : p .mem := by first | assumption | decide) (_ : p .sys := by first | assumption | decide) (_ : p .mbx := by first | assumption | decide) (_ : p .hif := by first | assumption | decide) (_ : p .keeper := by first | assumption | decide) (_ : p .deck := by first | assumption | decide) (_ : p .recs := by first | assumption | decide) (_ : p .mark := by first | assumption | decide) (_ : p .trestle := by first | assumption | decide) (_ : p .pio := by first | assumption | decide) (_ : p .pos := by first | assumption | decide) (_ : p .intake := by first | assumption | decide) (_ : p .stats := by first | assumption | decide) (_ : p .cal := by first | assumption | decide) (_ : p .reg := by first | assumption | decide) (_ : p .seg := by first | assumption | decide) (_ : p .codec := by first | assumption | decide) (_ : p .comb := by first | assumption | decide) (_ : p .print := by first | assumption | decide) (_ : p .motion := by first | assumption | decide) (_ : p .mon := by first | assumption | decide) (_ : p .vd := by first | assumption | decide) (_ : p .net := by first | assumption | decide) (_ : p .dram := by first | assumption | decide) (_ : p .dma := by first | assumption | decide) (_ : p .fault := by first | assumption | decide) (_ : p .now := by first | assumption | decide) (_ : p .free := by first | assumption | decide) (_ : p .out := by first | assumption | decide) :
    KeepsO p z (execTaskWatchdog cell s) := by
  unfold execTaskWatchdog
  refine KeepsO.next ?_
  refine State.settle_keeps ?_
  refine State.cellError_keeps ?_ _ _ _
  exact h

theorem execKeeperWatchdogExpiry_keeps {p : Part → Prop} {z s : State} (h : Keeps p z s)  (_ : p .mem := by first | assumption | decide) (_ : p .sys := by first | assumption | decide) (_ : p .mbx := by first | assumption | decide) (_ : p .hif := by first | assumption | decide) (_ : p .keeper := by first | assumption | decide) (_ : p .deck := by first | assumption | decide) (_ : p .recs := by first | assumption | decide) (_ : p .mark := by first | assumption | decide) (_ : p .trestle := by first | assumption | decide) (_ : p .pio := by first | assumption | decide) (_ : p .pos := by first | assumption | decide) (_ : p .intake := by first | assumption | decide) (_ : p .stats := by first | assumption | decide) (_ : p .cal := by first | assumption | decide) (_ : p .reg := by first | assumption | decide) (_ : p .seg := by first | assumption | decide) (_ : p .codec := by first | assumption | decide) (_ : p .comb := by first | assumption | decide) (_ : p .print := by first | assumption | decide) (_ : p .motion := by first | assumption | decide) (_ : p .mon := by first | assumption | decide) (_ : p .vd := by first | assumption | decide) (_ : p .net := by first | assumption | decide) (_ : p .dram := by first | assumption | decide) (_ : p .dma := by first | assumption | decide) (_ : p .fault := by first | assumption | decide) (_ : p .power := by first | assumption | decide) (_ : p .now := by first | assumption | decide) (_ : p .free := by first | assumption | decide) (_ : p .out := by first | assumption | decide) :
    KeepsO p z (execKeeperWatchdogExpiry s) := by
  unfold execKeeperWatchdogExpiry
  split
  · refine KeepsO.next ?_
    exact h
  · extract_lets a4 a5
    have ha5 : Keeps p z a5 := by
      unfold a5
      refine h.of
    clear_value a5
    refine KeepsO.next ?_
    split
    · exact ha5
    · refine State.settle_keeps ?_
      refine State.failEssential_keeps ?_ _ _ _
      exact ha5

theorem State.hostIfFailure_keeps {p : Part → Prop} {z s : State} (h : Keeps p z s)  (_ : p .mem := by first | assumption | decide) (_ : p .sys := by first | assumption | decide) (_ : p .mbx := by first | assumption | decide) (_ : p .hif := by first | assumption | decide) (_ : p .keeper := by first | assumption | decide) (_ : p .deck := by first | assumption | decide) (_ : p .recs := by first | assumption | decide) (_ : p .mark := by first | assumption | decide) (_ : p .trestle := by first | assumption | decide) (_ : p .pio := by first | assumption | decide) (_ : p .pos := by first | assumption | decide) (_ : p .intake := by first | assumption | decide) (_ : p .stats := by first | assumption | decide) (_ : p .cal := by first | assumption | decide) (_ : p .reg := by first | assumption | decide) (_ : p .seg := by first | assumption | decide) (_ : p .codec := by first | assumption | decide) (_ : p .comb := by first | assumption | decide) (_ : p .print := by first | assumption | decide) (_ : p .motion := by first | assumption | decide) (_ : p .mon := by first | assumption | decide) (_ : p .vd := by first | assumption | decide) (_ : p .net := by first | assumption | decide) (_ : p .dram := by first | assumption | decide) (_ : p .dma := by first | assumption | decide) (_ : p .fault := by first | assumption | decide) (_ : p .now := by first | assumption | decide) (_ : p .free := by first | assumption | decide) (_ : p .out := by first | assumption | decide) :
    Keeps p z (State.hostIfFailure s) := by
  unfold State.hostIfFailure
  split
  · exact h
  · refine State.settle_keeps ?_
    refine State.failEssential_keeps ?_ _ _ _
    exact h

/-- A fetcher's turn keeps. -/
theorem State.fetchTurn_keeps {p : Part → Prop} {z s : State} (h : Keeps p z s) (d : Container) (g : Grid) (k : Nat) (t : State × Bool)
    (e : s.fetchTurn d g k = some t) (_ : p .mem := by first | assumption | decide) (_ : p .recs := by first | assumption | decide) (_ : p .trestle := by first | assumption | decide) (_ : p .print := by first | assumption | decide) (_ : p .free := by first | assumption | decide) : Keeps p z t.1 := by
  have go : ∀ {s' : State} (f : ItemQueue → ItemQueue), Keeps p z s' → Keeps p z (s'.updQueue g.lead f) := fun f h' => State.updQueue_keeps h' _ f
  have miss : ∀ (a : Grid) (b : Nat) (c : Int) (i : Option Nat) (r w : Nat) (f : HeadCount → HeadCount),
      Keeps p z ((s.itemEvent a b c i r w).headTally g.lead f) := fun _ _ _ _ _ _ _ => State.headTally_keeps (State.itemEvent_keeps h _ _ _ _ _ _) _ _
  have late : ∀ (en : Entry) (st : Nat) (l : Int) (b : Nat) (c : Int) (i : Option Nat) (r w : Nat) (f : HeadCount → HeadCount),
      Keeps p z (((s.endEntry g en st l).itemEvent g b c i r w).headTally g.lead f) := fun _ _ _ _ _ _ _ _ _ =>
    State.headTally_keeps (State.itemEvent_keeps (State.endEntry_keeps h _ _ _ _) _ _ _ _ _ _) _ _
  unfold State.fetchTurn at e
  simp only [] at e
  repeat' split at e
  all_goals first
    | (cases e; done)
    | (cases e; exact h)
    | (cases e; exact go _ (miss _ _ _ _ _ _ _))
    | (cases e; with_reducible exact State.endEntry_keeps h _ _ _ _)
    | (cases e; with_reducible exact late _ _ _ _ _ _ _ _ _)
    | (cases e; exact go _ (State.acceptEntry_keeps h _ _ _))

/-- The fetcher's turns keep. -/
theorem State.fetchTurns_keeps {p : Part → Prop} {z : State} (d : Container) (g : Grid) (k : Nat) (_ : p .mem := by first | assumption | decide) (_ : p .recs := by first | assumption | decide) (_ : p .trestle := by first | assumption | decide) (_ : p .print := by first | assumption | decide) (_ : p .free := by first | assumption | decide) : ∀ (n : Nat) {s : State} (_ : Keeps p z s) (t : State)
    (_ : s.fetchTurns d g k n = some t), Keeps p z t
  | 0, s, h, t, e => by simp only [State.fetchTurns, Option.some.injEq] at e; exact e ▸ h
  | n + 1, s, h, t, e => by
    simp only [State.fetchTurns] at e
    split at e
    · cases e
    · rename_i s1 more e1
      have h1 : Keeps p z s1 := State.fetchTurn_keeps h d g k (s1, more) e1
      split at e
      · exact State.fetchTurns_keeps (p := p) d g k (by assumption) (by assumption) (by assumption) (by assumption) (by assumption) n h1 t e
      · cases e; exact h1

/-- A fetch that answers keeps. -/
theorem State.fetch_keeps {p : Part → Prop} {z s : State} (h : Keeps p z s) (lead epoch k : Nat) (t : State) (e : s.fetch lead epoch k = some t) (_ : p .mem := by first | assumption | decide) (_ : p .recs := by first | assumption | decide) (_ : p .trestle := by first | assumption | decide) (_ : p .print := by first | assumption | decide) (_ : p .free := by first | assumption | decide) : Keeps p z t := by
  unfold State.fetch at e
  simp only [] at e
  obtain ⟨a, ea, rfl⟩ := Option.map_eq_some_iff.mp e
  exact State.updQueue_keeps (State.fetchTurns_keeps (p := p) _ _ _ (by assumption) (by assumption) (by assumption) (by assumption) (by assumption) _ (State.updQueue_keeps h _ _) a ea) _ _

/-- A head's line start that answers keeps. -/
theorem State.headLineStart_keeps {p : Part → Prop} {z s : State} (h : Keeps p z s) (v0 t : Nat) (entryError : Bool) (u : State) (e : s.headLineStart v0 t entryError = some u) (_ : p .mem := by first | assumption | decide) (_ : p .sys := by first | assumption | decide) (_ : p .keeper := by first | assumption | decide) (_ : p .deck := by first | assumption | decide) (_ : p .recs := by first | assumption | decide) (_ : p .trestle := by first | assumption | decide) (_ : p .pos := by first | assumption | decide) (_ : p .print := by first | assumption | decide) (_ : p .net := by first | assumption | decide) (_ : p .dram := by first | assumption | decide) (_ : p .fault := by first | assumption | decide) (_ : p .now := by first | assumption | decide) (_ : p .free := by first | assumption | decide) (_ : p .out := by first | assumption | decide) : Keeps p z u := by
  unfold State.headLineStart at e
  extract_lets s0 s1 x lead s2 at e
  have h0 : Keeps p z s0 := State.reachTick_keeps h _
  have h1 : Keeps p z s1 := State.toNewGrid_keeps (State.headBack_keeps h0 _) _
  have h2 : Keeps p z s2 := Keeps.ite (State.readUnc_keeps h1 _) h1
  clear_value s0 s1 s2
  split at e
  · cases e; exact h0
  · split at e
    · cases e; exact State.prepare_keeps (State.headOccur_keeps h2 _ _) _
    · split at e
      · obtain ⟨a, ea, rfl⟩ := Option.map_eq_some_iff.mp e
        exact State.prepare_keeps (State.fetch_keeps h1 _ _ _ a ea) _
      · cases e; exact State.prepare_keeps h1 _

theorem execHeadLineStart_keeps {p : Part → Prop} {z s : State} (h : Keeps p z s) (v0 : Nat) (t : Nat) (entryError : Bool) (_ : p .mem := by first | assumption | decide) (_ : p .sys := by first | assumption | decide) (_ : p .mbx := by first | assumption | decide) (_ : p .hif := by first | assumption | decide) (_ : p .keeper := by first | assumption | decide) (_ : p .deck := by first | assumption | decide) (_ : p .recs := by first | assumption | decide) (_ : p .mark := by first | assumption | decide) (_ : p .trestle := by first | assumption | decide) (_ : p .pio := by first | assumption | decide) (_ : p .pos := by first | assumption | decide) (_ : p .intake := by first | assumption | decide) (_ : p .stats := by first | assumption | decide) (_ : p .cal := by first | assumption | decide) (_ : p .reg := by first | assumption | decide) (_ : p .seg := by first | assumption | decide) (_ : p .codec := by first | assumption | decide) (_ : p .comb := by first | assumption | decide) (_ : p .print := by first | assumption | decide) (_ : p .motion := by first | assumption | decide) (_ : p .mon := by first | assumption | decide) (_ : p .vd := by first | assumption | decide) (_ : p .net := by first | assumption | decide) (_ : p .dram := by first | assumption | decide) (_ : p .dma := by first | assumption | decide) (_ : p .fault := by first | assumption | decide) (_ : p .now := by first | assumption | decide) (_ : p .free := by first | assumption | decide) (_ : p .out := by first | assumption | decide) :
    KeepsO p z (execHeadLineStart v0 t s entryError) := by
  unfold execHeadLineStart
  split
  · exact KeepsO.fault _ _
  · rename_i s1 e
    have h1 : Keeps p z s1 := State.headLineStart_keeps h _ _ _ s1 e
    exact KeepsO.next (Keeps.ite (State.settle_keeps h1) h1)

theorem execBootDone_keeps {p : Part → Prop} {z s : State} (h : Keeps p z s) (failures : List BistEntry) (dramTrained : Bool) (fittedGib : Nat) (fittedType : Nat) (unequal : Bool) (_ : p .mem := by first | assumption | decide) (_ : p .sys := by first | assumption | decide) (_ : p .mbx := by first | assumption | decide) (_ : p .hif := by first | assumption | decide) (_ : p .keeper := by first | assumption | decide) (_ : p .deck := by first | assumption | decide) (_ : p .profile := by first | assumption | decide) (_ : p .recs := by first | assumption | decide) (_ : p .mark := by first | assumption | decide) (_ : p .trestle := by first | assumption | decide) (_ : p .pio := by first | assumption | decide) (_ : p .pos := by first | assumption | decide) (_ : p .intake := by first | assumption | decide) (_ : p .stats := by first | assumption | decide) (_ : p .cal := by first | assumption | decide) (_ : p .reg := by first | assumption | decide) (_ : p .seg := by first | assumption | decide) (_ : p .codec := by first | assumption | decide) (_ : p .comb := by first | assumption | decide) (_ : p .print := by first | assumption | decide) (_ : p .motion := by first | assumption | decide) (_ : p .mon := by first | assumption | decide) (_ : p .vd := by first | assumption | decide) (_ : p .net := by first | assumption | decide) (_ : p .dram := by first | assumption | decide) (_ : p .dma := by first | assumption | decide) (_ : p .fault := by first | assumption | decide) (_ : p .fw := by first | assumption | decide) (_ : p .now := by first | assumption | decide) (_ : p .free := by first | assumption | decide) (_ : p .out := by first | assumption | decide) :
    KeepsO p z (execBootDone failures dramTrained fittedGib fittedType s unequal) := by
  unfold execBootDone
  extract_lets a1 a2 a3 a4 a5 a6 a7 a8 a9 a10 a11 a12 a13
  have ha5 : Keeps p z a5 := by
    unfold a5
    refine h.of
  clear_value a5
  have ha6 : Keeps p z a6 := by
    unfold a6
    refine State.layDram_keeps ?_ _ _ _ _
    refine State.assignTargets_keeps ?_
    exact ha5
  clear_value a6
  have ha7 : Keeps p z a7 := by
    unfold a7
    refine State.bootRetire_keeps ?_
    refine Keeps.foldl (fun z20 s21 x22 h23 => ?_) ?_
    · refine State.bootFailure_keeps ?_ _
      exact h23
    · exact ha6
  clear_value a7
  have ha8 : Keeps p z a8 := by
    unfold a8
    refine State.afterRetire_keeps ?_ _
    exact ha7
  clear_value a8
  have ha11 : Keeps p z a11 := by
    unfold a11
    refine ha8.of
  clear_value a11
  have ha12 : Keeps p z a12 := by
    unfold a12
    split
    · refine State.enterStandby_keeps ?_
      exact ha11
    · refine ha11.of
  clear_value a12
  split
  · refine KeepsO.next ?_
    exact h
  · split
    · exact KeepsO.fault _ _
    · refine KeepsO.next ?_
      refine State.settle_keeps ?_
      refine State.bootNotify_keeps ?_ _
      exact ha12

theorem execEccScrub_keeps {p : Part → Prop} {z s : State} (h : Keeps p z s) (corrected : List Nat) (uncorrectable : List Nat) (_ : p .mem := by first | assumption | decide) (_ : p .sys := by first | assumption | decide) (_ : p .mbx := by first | assumption | decide) (_ : p .hif := by first | assumption | decide) (_ : p .keeper := by first | assumption | decide) (_ : p .deck := by first | assumption | decide) (_ : p .recs := by first | assumption | decide) (_ : p .mark := by first | assumption | decide) (_ : p .trestle := by first | assumption | decide) (_ : p .pio := by first | assumption | decide) (_ : p .pos := by first | assumption | decide) (_ : p .intake := by first | assumption | decide) (_ : p .stats := by first | assumption | decide) (_ : p .cal := by first | assumption | decide) (_ : p .reg := by first | assumption | decide) (_ : p .seg := by first | assumption | decide) (_ : p .codec := by first | assumption | decide) (_ : p .comb := by first | assumption | decide) (_ : p .print := by first | assumption | decide) (_ : p .motion := by first | assumption | decide) (_ : p .mon := by first | assumption | decide) (_ : p .vd := by first | assumption | decide) (_ : p .net := by first | assumption | decide) (_ : p .dram := by first | assumption | decide) (_ : p .dma := by first | assumption | decide) (_ : p .fault := by first | assumption | decide) (_ : p .now := by first | assumption | decide) (_ : p .free := by first | assumption | decide) (_ : p .out := by first | assumption | decide) :
    KeepsO p z (execEccScrub corrected uncorrectable s) := by
  unfold execEccScrub
  split
  · refine KeepsO.next ?_
    exact h
  · refine KeepsO.next ?_
    refine State.settle_keeps ?_
    refine Keeps.foldl (fun z6 s7 x8 h9 => ?_) ?_
    · refine State.readUnc_keeps ?_ _
      exact h9
    · refine Keeps.foldl (fun z13 s14 x15 h16 => ?_) ?_
      · refine State.readCorr_keeps ?_ _
        exact h16
      · exact h

theorem execSpanEmitLine_keeps {p : Part → Prop} {z s : State} (h : Keeps p z s) (bufferError : Option Nat) (_ : p .mem := by first | assumption | decide) (_ : p .sys := by first | assumption | decide) (_ : p .mbx := by first | assumption | decide) (_ : p .hif := by first | assumption | decide) (_ : p .keeper := by first | assumption | decide) (_ : p .deck := by first | assumption | decide) (_ : p .recs := by first | assumption | decide) (_ : p .mark := by first | assumption | decide) (_ : p .trestle := by first | assumption | decide) (_ : p .pio := by first | assumption | decide) (_ : p .pos := by first | assumption | decide) (_ : p .intake := by first | assumption | decide) (_ : p .span := by first | assumption | decide) (_ : p .stats := by first | assumption | decide) (_ : p .cal := by first | assumption | decide) (_ : p .reg := by first | assumption | decide) (_ : p .seg := by first | assumption | decide) (_ : p .codec := by first | assumption | decide) (_ : p .comb := by first | assumption | decide) (_ : p .print := by first | assumption | decide) (_ : p .motion := by first | assumption | decide) (_ : p .mon := by first | assumption | decide) (_ : p .vd := by first | assumption | decide) (_ : p .net := by first | assumption | decide) (_ : p .dram := by first | assumption | decide) (_ : p .dma := by first | assumption | decide) (_ : p .fault := by first | assumption | decide) (_ : p .now := by first | assumption | decide) (_ : p .free := by first | assumption | decide) (_ : p .out := by first | assumption | decide) :
    KeepsO p z (execSpanEmitLine bufferError s) := by
  unfold execSpanEmitLine
  refine KeepsO.next ?_
  refine State.settle_keeps ?_
  refine State.snapStep_keeps ?_
  refine State.spanLine_keeps ?_ _
  exact h

theorem execCellFault_keeps {p : Part → Prop} {z s : State} (h : Keeps p z s) (cell : Nat) (code : Nat) (frameStore : Bool) (param : Bool) (corrected : Bool) (_ : p .mem := by first | assumption | decide) (_ : p .sys := by first | assumption | decide) (_ : p .mbx := by first | assumption | decide) (_ : p .hif := by first | assumption | decide) (_ : p .keeper := by first | assumption | decide) (_ : p .deck := by first | assumption | decide) (_ : p .recs := by first | assumption | decide) (_ : p .mark := by first | assumption | decide) (_ : p .trestle := by first | assumption | decide) (_ : p .pio := by first | assumption | decide) (_ : p .pos := by first | assumption | decide) (_ : p .intake := by first | assumption | decide) (_ : p .stats := by first | assumption | decide) (_ : p .cal := by first | assumption | decide) (_ : p .reg := by first | assumption | decide) (_ : p .seg := by first | assumption | decide) (_ : p .codec := by first | assumption | decide) (_ : p .comb := by first | assumption | decide) (_ : p .print := by first | assumption | decide) (_ : p .motion := by first | assumption | decide) (_ : p .mon := by first | assumption | decide) (_ : p .vd := by first | assumption | decide) (_ : p .net := by first | assumption | decide) (_ : p .dram := by first | assumption | decide) (_ : p .dma := by first | assumption | decide) (_ : p .fault := by first | assumption | decide) (_ : p .now := by first | assumption | decide) (_ : p .free := by first | assumption | decide) (_ : p .out := by first | assumption | decide) :
    KeepsO p z (execCellFault cell code frameStore s param corrected) := by
  unfold execCellFault
  split
  · refine KeepsO.next ?_
    refine State.correctedError_keeps ?_ _ _
    exact h
  · extract_lets a5
    have ha5 : Keeps p z a5 := by
      unfold a5
      split
      · split
        · refine State.rewriteParam_keeps ?_ _ _
          exact h
        · exact h
      · exact h
    clear_value a5
    refine KeepsO.next ?_
    refine State.settle_keeps ?_
    refine State.cellError_keeps ?_ _ _ _
    exact ha5

theorem execDmaDescriptorDone_keeps {p : Part → Prop} {z s : State} (h : Keeps p z s) (ch : Nat) (eccAt : Option Nat) (corrected : List Nat) (_ : p .mem := by first | assumption | decide) (_ : p .sys := by first | assumption | decide) (_ : p .mbx := by first | assumption | decide) (_ : p .hif := by first | assumption | decide) (_ : p .keeper := by first | assumption | decide) (_ : p .deck := by first | assumption | decide) (_ : p .recs := by first | assumption | decide) (_ : p .mark := by first | assumption | decide) (_ : p .trestle := by first | assumption | decide) (_ : p .pio := by first | assumption | decide) (_ : p .pos := by first | assumption | decide) (_ : p .intake := by first | assumption | decide) (_ : p .stats := by first | assumption | decide) (_ : p .cal := by first | assumption | decide) (_ : p .reg := by first | assumption | decide) (_ : p .seg := by first | assumption | decide) (_ : p .codec := by first | assumption | decide) (_ : p .comb := by first | assumption | decide) (_ : p .print := by first | assumption | decide) (_ : p .motion := by first | assumption | decide) (_ : p .mon := by first | assumption | decide) (_ : p .vd := by first | assumption | decide) (_ : p .net := by first | assumption | decide) (_ : p .dram := by first | assumption | decide) (_ : p .dma := by first | assumption | decide) (_ : p .fault := by first | assumption | decide) (_ : p .now := by first | assumption | decide) (_ : p .free := by first | assumption | decide) (_ : p .out := by first | assumption | decide) :
    KeepsO p z (execDmaDescriptorDone ch eccAt s corrected) := by
  unfold execDmaDescriptorDone
  extract_lets a1
  split
  · split
    · refine State.dmaFetch_keeps ?_ _
      exact h
    · refine KeepsO.next ?_
      exact h
  · split
    · refine KeepsO.next ?_
      exact h
    · extract_lets a12
      have ha12 : Keeps p z a12 := by
        unfold a12
        refine State.dmaEnd_keeps ?_ _ _ _
        refine Keeps.foldl (fun z15 s16 x17 h18 => ?_) ?_
        · refine State.readCorr_keeps ?_ _
          exact h18
        · exact h
      clear_value a12
      split
      · refine State.dmaGoesOn_keeps ?_ _ _ _
        refine State.settle_keeps ?_
        exact ha12
      · refine State.dmaGoesOn_keeps ?_ _ _ _
        exact ha12

theorem execThermal_keeps {p : Part → Prop} {z s : State} (h : Keeps p z s)  (_ : p .mem := by first | assumption | decide) (_ : p .sys := by first | assumption | decide) (_ : p .mbx := by first | assumption | decide) (_ : p .hif := by first | assumption | decide) (_ : p .keeper := by first | assumption | decide) (_ : p .deck := by first | assumption | decide) (_ : p .recs := by first | assumption | decide) (_ : p .mark := by first | assumption | decide) (_ : p .trestle := by first | assumption | decide) (_ : p .pio := by first | assumption | decide) (_ : p .pos := by first | assumption | decide) (_ : p .intake := by first | assumption | decide) (_ : p .stats := by first | assumption | decide) (_ : p .cal := by first | assumption | decide) (_ : p .reg := by first | assumption | decide) (_ : p .seg := by first | assumption | decide) (_ : p .codec := by first | assumption | decide) (_ : p .comb := by first | assumption | decide) (_ : p .print := by first | assumption | decide) (_ : p .motion := by first | assumption | decide) (_ : p .mon := by first | assumption | decide) (_ : p .vd := by first | assumption | decide) (_ : p .net := by first | assumption | decide) (_ : p .dram := by first | assumption | decide) (_ : p .dma := by first | assumption | decide) (_ : p .fault := by first | assumption | decide) (_ : p .power := by first | assumption | decide) (_ : p .now := by first | assumption | decide) (_ : p .free := by first | assumption | decide) (_ : p .out := by first | assumption | decide) :
    KeepsO p z (execThermal s) := by
  unfold execThermal
  extract_lets a1 a2
  have ha2 : Keeps p z a2 := by
    unfold a2
    refine h.of
  clear_value a2
  refine KeepsO.next ?_
  split
  · exact ha2
  · refine State.settle_keeps ?_
    refine State.failEssential_keeps ?_ _ _ _
    exact ha2

theorem execBitmapBurstDone_keeps {p : Part → Prop} {z s : State} (h : Keeps p z s) (lead : Nat) (itemId : Nat) (row : Nat) (ok : Bool) (_ : p .mem := by first | assumption | decide) (_ : p .sys := by first | assumption | decide) (_ : p .mbx := by first | assumption | decide) (_ : p .hif := by first | assumption | decide) (_ : p .keeper := by first | assumption | decide) (_ : p .deck := by first | assumption | decide) (_ : p .recs := by first | assumption | decide) (_ : p .mark := by first | assumption | decide) (_ : p .trestle := by first | assumption | decide) (_ : p .pio := by first | assumption | decide) (_ : p .pos := by first | assumption | decide) (_ : p .intake := by first | assumption | decide) (_ : p .stats := by first | assumption | decide) (_ : p .cal := by first | assumption | decide) (_ : p .reg := by first | assumption | decide) (_ : p .seg := by first | assumption | decide) (_ : p .codec := by first | assumption | decide) (_ : p .comb := by first | assumption | decide) (_ : p .print := by first | assumption | decide) (_ : p .motion := by first | assumption | decide) (_ : p .mon := by first | assumption | decide) (_ : p .vd := by first | assumption | decide) (_ : p .net := by first | assumption | decide) (_ : p .dram := by first | assumption | decide) (_ : p .dma := by first | assumption | decide) (_ : p .fault := by first | assumption | decide) (_ : p .now := by first | assumption | decide) (_ : p .free := by first | assumption | decide) (_ : p .out := by first | assumption | decide) :
    KeepsO p z (execBitmapBurstDone lead itemId row ok s) := by
  unfold execBitmapBurstDone
  extract_lets a1
  have ha1 : Keeps p z a1 := by
    unfold a1
    refine State.burstDone_keeps ?_ _ _ _ _
    exact h
  clear_value a1
  refine KeepsO.next ?_
  split
  · exact ha1
  · refine State.settle_keeps ?_
    exact ha1

theorem execPllLossOfLock_keeps {p : Part → Prop} {z s : State} (h : Keeps p z s) (islands : List Nat) (_ : p .mem := by first | assumption | decide) (_ : p .sys := by first | assumption | decide) (_ : p .mbx := by first | assumption | decide) (_ : p .hif := by first | assumption | decide) (_ : p .keeper := by first | assumption | decide) (_ : p .deck := by first | assumption | decide) (_ : p .recs := by first | assumption | decide) (_ : p .mark := by first | assumption | decide) (_ : p .trestle := by first | assumption | decide) (_ : p .pio := by first | assumption | decide) (_ : p .pos := by first | assumption | decide) (_ : p .intake := by first | assumption | decide) (_ : p .stats := by first | assumption | decide) (_ : p .cal := by first | assumption | decide) (_ : p .reg := by first | assumption | decide) (_ : p .seg := by first | assumption | decide) (_ : p .codec := by first | assumption | decide) (_ : p .comb := by first | assumption | decide) (_ : p .print := by first | assumption | decide) (_ : p .motion := by first | assumption | decide) (_ : p .mon := by first | assumption | decide) (_ : p .vd := by first | assumption | decide) (_ : p .net := by first | assumption | decide) (_ : p .dram := by first | assumption | decide) (_ : p .dma := by first | assumption | decide) (_ : p .fault := by first | assumption | decide) (_ : p .now := by first | assumption | decide) (_ : p .free := by first | assumption | decide) (_ : p .out := by first | assumption | decide) :
    KeepsO p z (execPllLossOfLock islands s) := by
  unfold execPllLossOfLock
  split
  · refine KeepsO.next ?_
    exact h
  · split
    · extract_lets a5 a6
      have ha6 : Keeps p z a6 := by
        unfold a6
        split
        · refine h.of
        · exact h
      clear_value a6
      refine KeepsO.next ?_
      split
      · exact ha6
      · refine State.settle_keeps ?_
        refine State.failEssential_keeps ?_ _ _ _
        exact ha6
    · refine KeepsO.next ?_
      refine State.settle_keeps ?_
      refine State.retireUnits_keeps ?_ _ _
      exact h

theorem execTaskComplete_keeps {p : Part → Prop} {z s : State} (h : Keeps p z s) (cell : Nat) (bad : List (Nat × Nat × Nat)) (_ : p .mem := by first | assumption | decide) (_ : p .sys := by first | assumption | decide) (_ : p .mbx := by first | assumption | decide) (_ : p .hif := by first | assumption | decide) (_ : p .keeper := by first | assumption | decide) (_ : p .deck := by first | assumption | decide) (_ : p .recs := by first | assumption | decide) (_ : p .mark := by first | assumption | decide) (_ : p .trestle := by first | assumption | decide) (_ : p .pio := by first | assumption | decide) (_ : p .pos := by first | assumption | decide) (_ : p .intake := by first | assumption | decide) (_ : p .stats := by first | assumption | decide) (_ : p .cal := by first | assumption | decide) (_ : p .reg := by first | assumption | decide) (_ : p .seg := by first | assumption | decide) (_ : p .codec := by first | assumption | decide) (_ : p .comb := by first | assumption | decide) (_ : p .print := by first | assumption | decide) (_ : p .motion := by first | assumption | decide) (_ : p .mon := by first | assumption | decide) (_ : p .vd := by first | assumption | decide) (_ : p .net := by first | assumption | decide) (_ : p .dram := by first | assumption | decide) (_ : p .dma := by first | assumption | decide) (_ : p .fault := by first | assumption | decide) (_ : p .now := by first | assumption | decide) (_ : p .free := by first | assumption | decide) (_ : p .out := by first | assumption | decide) :
    KeepsO p z (execTaskComplete cell s bad) := by
  unfold execTaskComplete
  refine KeepsO.next ?_
  refine State.settle_keeps ?_
  refine State.endBad_keeps ?_
  refine State.taskDone_keeps ?_ _
  refine State.withBad_keeps ?_ _
  exact h

theorem execKeeperTakeRequest_keeps {p : Part → Prop} {z s : State} (h : Keeps p z s) (n : Nat) (bufferError : Bool) (_ : p .mem := by first | assumption | decide) (_ : p .sys := by first | assumption | decide) (_ : p .mbx := by first | assumption | decide) (_ : p .hif := by first | assumption | decide) (_ : p .keeper := by first | assumption | decide) (_ : p .deck := by first | assumption | decide) (_ : p .recs := by first | assumption | decide) (_ : p .mark := by first | assumption | decide) (_ : p .trestle := by first | assumption | decide) (_ : p .pio := by first | assumption | decide) (_ : p .pos := by first | assumption | decide) (_ : p .intake := by first | assumption | decide) (_ : p .stats := by first | assumption | decide) (_ : p .cal := by first | assumption | decide) (_ : p .reg := by first | assumption | decide) (_ : p .seg := by first | assumption | decide) (_ : p .codec := by first | assumption | decide) (_ : p .comb := by first | assumption | decide) (_ : p .print := by first | assumption | decide) (_ : p .motion := by first | assumption | decide) (_ : p .mon := by first | assumption | decide) (_ : p .vd := by first | assumption | decide) (_ : p .net := by first | assumption | decide) (_ : p .dram := by first | assumption | decide) (_ : p .dma := by first | assumption | decide) (_ : p .fault := by first | assumption | decide) (_ : p .now := by first | assumption | decide) (_ : p .free := by first | assumption | decide) (_ : p .out := by first | assumption | decide) :
    KeepsO p z (execKeeperTakeRequest n s bufferError) := by
  unfold execKeeperTakeRequest
  split
  · refine KeepsO.next ?_
    refine State.hostIfFailure_keeps ?_
    exact h
  · refine State.takeRequest_keeps ?_ _
    exact h

theorem execBar2Access_keeps {p : Part → Prop} {z s : State} (h : Keeps p z s) (write : Bool) (offset : Nat) (len : Nat) (data : List Byte) (parity : Bool) (_ : p .mem := by first | assumption | decide) (_ : p .sys := by first | assumption | decide) (_ : p .mbx := by first | assumption | decide) (_ : p .hif := by first | assumption | decide) (_ : p .keeper := by first | assumption | decide) (_ : p .deck := by first | assumption | decide) (_ : p .recs := by first | assumption | decide) (_ : p .mark := by first | assumption | decide) (_ : p .trestle := by first | assumption | decide) (_ : p .pio := by first | assumption | decide) (_ : p .pos := by first | assumption | decide) (_ : p .intake := by first | assumption | decide) (_ : p .stats := by first | assumption | decide) (_ : p .cal := by first | assumption | decide) (_ : p .reg := by first | assumption | decide) (_ : p .seg := by first | assumption | decide) (_ : p .codec := by first | assumption | decide) (_ : p .comb := by first | assumption | decide) (_ : p .print := by first | assumption | decide) (_ : p .motion := by first | assumption | decide) (_ : p .mon := by first | assumption | decide) (_ : p .vd := by first | assumption | decide) (_ : p .net := by first | assumption | decide) (_ : p .dram := by first | assumption | decide) (_ : p .dma := by first | assumption | decide) (_ : p .fault := by first | assumption | decide) (_ : p .now := by first | assumption | decide) (_ : p .free := by first | assumption | decide) (_ : p .out := by first | assumption | decide) :
    KeepsO p z (execBar2Access write offset len data s parity) := by
  unfold execBar2Access
  split
  · refine KeepsO.next ?_
    refine State.hostIfFailure_keeps ?_
    exact h
  · refine State.bar2_keeps ?_ _ _ _ _
    exact h

/- The same commands without the error that brings SAFE_HOLD. -/

/-- KEEPER_TAKE_REQUEST of a clean buffer. -/
theorem execKeeperTakeRequest_keeps' {p : Part → Prop} {z s : State} (h : Keeps p z s) (n : Nat) (_ : p .mbx := by first | assumption | decide) (_ : p .hif := by first | assumption | decide) (_ : p .out := by first | assumption | decide) :
    KeepsO p z (execKeeperTakeRequest n s false) := by
  unfold execKeeperTakeRequest
  rw [if_neg (by simp)]
  exact State.takeRequest_keeps h _

/-- BAR2_ACCESS without a parity error. -/
theorem execBar2Access_keeps' {p : Part → Prop} {z s : State} (h : Keeps p z s) (write : Bool) (offset len : Nat) (data : List Byte) (_ : p .mem := by first | assumption | decide) (_ : p .recs := by first | assumption | decide) (_ : p .comb := by first | assumption | decide) (_ : p .fault := by first | assumption | decide) (_ : p .free := by first | assumption | decide) (_ : p .out := by first | assumption | decide) :
    KeepsO p z (execBar2Access write offset len data s false) := by
  unfold execBar2Access
  rw [if_neg (by simp)]
  exact State.bar2_keeps h _ _ _ _

/-- HEAD_LINE_START without an entry error. -/
theorem execHeadLineStart_keeps' {p : Part → Prop} {z s : State} (h : Keeps p z s) (k t : Nat) (_ : p .mem := by first | assumption | decide) (_ : p .sys := by first | assumption | decide) (_ : p .keeper := by first | assumption | decide) (_ : p .deck := by first | assumption | decide) (_ : p .recs := by first | assumption | decide) (_ : p .trestle := by first | assumption | decide) (_ : p .pos := by first | assumption | decide) (_ : p .print := by first | assumption | decide) (_ : p .net := by first | assumption | decide) (_ : p .dram := by first | assumption | decide) (_ : p .fault := by first | assumption | decide) (_ : p .now := by first | assumption | decide) (_ : p .free := by first | assumption | decide) (_ : p .out := by first | assumption | decide) :
    KeepsO p z (execHeadLineStart k t s false) := by
  unfold execHeadLineStart
  split
  · exact KeepsO.fault _ _
  · rename_i s1 e
    exact KeepsO.next (State.headLineStart_keeps h _ _ _ s1 e)

/-- BITMAP_BURST_DONE of a burst that arrived. -/
theorem execBitmapBurstDone_keeps' {p : Part → Prop} {z s : State} (h : Keeps p z s) (lead itemId row : Nat) (_ : p .sys := by first | assumption | decide) (_ : p .keeper := by first | assumption | decide) (_ : p .recs := by first | assumption | decide) (_ : p .trestle := by first | assumption | decide) (_ : p .print := by first | assumption | decide) (_ : p .net := by first | assumption | decide) (_ : p .dram := by first | assumption | decide) (_ : p .fault := by first | assumption | decide) (_ : p .free := by first | assumption | decide) (_ : p .out := by first | assumption | decide) :
    KeepsO p z (execBitmapBurstDone lead itemId row true s) := by
  unfold execBitmapBurstDone
  extract_lets s1
  have h1 : Keeps p z s1 := State.burstDone_keeps h _ _ _ _
  clear_value s1
  rw [if_pos rfl]
  exact KeepsO.next h1

/-- DMA_DESCRIPTOR_DONE without a read error. -/
theorem execDmaDescriptorDone_keeps' {p : Part → Prop} {z s : State} (h : Keeps p z s) (ch : Nat) (corrected : List Nat) (_ : p .mem := by first | assumption | decide) (_ : p .sys := by first | assumption | decide) (_ : p .hif := by first | assumption | decide) (_ : p .recs := by first | assumption | decide) (_ : p .comb := by first | assumption | decide) (_ : p .dram := by first | assumption | decide) (_ : p .dma := by first | assumption | decide) (_ : p .fault := by first | assumption | decide) (_ : p .free := by first | assumption | decide) (_ : p .out := by first | assumption | decide) :
    KeepsO p z (execDmaDescriptorDone ch none s corrected) := by
  unfold execDmaDescriptorDone
  extract_lets k
  split
  · split
    · exact State.dmaFetch_keeps h _
    · exact KeepsO.next h
  · split
    · exact KeepsO.next h
    · extract_lets s1
      have h1 : Keeps p z s1 := State.dmaEnd_keeps (Keeps.foldl (fun z' s' x h' => State.readCorr_keeps h' x) h) _ _ _
      clear_value s1
      rw [if_neg (by decide)]
      exact State.dmaGoesOn_keeps h1 _ _ _

end Sys2Proof.Machine
end

