-- ==== Sys2Proof/Laws/Exec.lean ====
section
/-! SUPPORT. What any command leaves intact: the lemma of its meaning, gathered over the 231 commands. -/

namespace Sys2Proof.Machine

set_option linter.unusedSimpArgs false in
set_option maxHeartbeats 2000000 in
/-- Every command keeps what Keeps names, and every part that mayChange does not list for it. -/
theorem exec_keeps : ∀ (c : Instr) (s : State), KeepsO (fun x => x ∈ mayChange c) s (exec c s) := by
  intro c s
  cases c
  · apply @execSysNop_keeps <;> first | exact Keeps.refl s | simp [mayChange, resetParts, holdParts]
  · apply @execSysIdent_keeps <;> first | exact Keeps.refl s | simp [mayChange, resetParts, holdParts]
  · apply @execSysStatus_keeps <;> first | exact Keeps.refl s | simp [mayChange, resetParts, holdParts]
  · apply @execSysSnapshot_keeps <;> first | exact Keeps.refl s | simp [mayChange, resetParts, holdParts]
  · apply @execSnapshotTimeout_keeps <;> first | exact Keeps.refl s | simp [mayChange, resetParts, holdParts]
  · apply @execModeSet_keeps <;> first | exact Keeps.refl s | simp [mayChange, resetParts, holdParts]
  · apply @execModeTransitDone_keeps <;> first | exact Keeps.refl s | simp [mayChange, resetParts, holdParts]
  · apply @execSysStop_keeps <;> first | exact Keeps.refl s | simp [mayChange, resetParts, holdParts]
  · apply @execSysAbort_keeps <;> first | exact Keeps.refl s | simp [mayChange, resetParts, holdParts]
  · apply @execSysReset_keeps <;> first | exact Keeps.refl s | simp [mayChange, resetParts, holdParts]
  · apply @execSysResetDelayExpiry_keeps <;> first | exact Keeps.refl s | simp [mayChange, resetParts, holdParts]
  · apply @execCounterClear_keeps <;> first | exact Keeps.refl s | simp [mayChange, resetParts, holdParts]
  · apply @execReinstate_keeps <;> first | exact Keeps.refl s | simp [mayChange, resetParts, holdParts]
  · apply @execDeckLoad_keeps <;> first | exact Keeps.refl s | simp [mayChange, resetParts, holdParts]
  · apply @execDeckStage_keeps <;> first | exact Keeps.refl s | simp [mayChange, resetParts, holdParts]
  · apply @execDeckUnstage_keeps <;> first | exact Keeps.refl s | simp [mayChange, resetParts, holdParts]
  · apply @execDeckArmSwap_keeps <;> first | exact Keeps.refl s | simp [mayChange, resetParts, holdParts]
  · apply @execDeckCancelSwap_keeps <;> first | exact Keeps.refl s | simp [mayChange, resetParts, holdParts]
  · apply @execDeckActivate_keeps <;> first | exact Keeps.refl s | simp [mayChange, resetParts, holdParts]
  · apply @execDeckQuery_keeps <;> first | exact Keeps.refl s | simp [mayChange, resetParts, holdParts]
  · apply @execDeckDelete_keeps <;> first | exact Keeps.refl s | simp [mayChange, resetParts, holdParts]
  · apply @execProfileLoad_keeps <;> first | exact Keeps.refl s | simp [mayChange, resetParts, holdParts]
  · apply @execRefAlloc_keeps <;> first | exact Keeps.refl s | simp [mayChange, resetParts, holdParts]
  · apply @execRefCommit_keeps <;> first | exact Keeps.refl s | simp [mayChange, resetParts, holdParts]
  · apply @execRefCommitDone_keeps <;> first | exact Keeps.refl s | simp [mayChange, resetParts, holdParts]
  · apply @execRefDelete_keeps <;> first | exact Keeps.refl s | simp [mayChange, resetParts, holdParts]
  · apply @execRefQuery_keeps <;> first | exact Keeps.refl s | simp [mayChange, resetParts, holdParts]
  · apply @execRefLearn_keeps <;> first | exact Keeps.refl s | simp [mayChange, resetParts, holdParts]
  · apply @execRefLearnAbort_keeps <;> first | exact Keeps.refl s | simp [mayChange, resetParts, holdParts]
  · apply @execRefLearnDone_keeps <;> first | exact Keeps.refl s | simp [mayChange, resetParts, holdParts]
  · apply @execExposureSet_keeps <;> first | exact Keeps.refl s | simp [mayChange, resetParts, holdParts]
  · apply @execTdacSet_keeps <;> first | exact Keeps.refl s | simp [mayChange, resetParts, holdParts]
  · apply @execCalFlat_keeps <;> first | exact Keeps.refl s | simp [mayChange, resetParts, holdParts]
  · apply @execCalPhaseDone_keeps <;> first | exact Keeps.refl s | simp [mayChange, resetParts, holdParts]
  · apply @execCalQuery_keeps <;> first | exact Keeps.refl s | simp [mayChange, resetParts, holdParts]
  · apply @execCalTableRead_keeps <;> first | exact Keeps.refl s | simp [mayChange, resetParts, holdParts]
  · apply @execSensorXfer_keeps <;> first | exact Keeps.refl s | exact 0 | simp [mayChange, resetParts, holdParts]
  · apply @execPrintQueueSet_keeps <;> first | exact Keeps.refl s | simp [mayChange, resetParts, holdParts]
  · apply @execPrintWithdraw_keeps <;> first | exact Keeps.refl s | simp [mayChange, resetParts, holdParts]
  · apply @execPrintRearm_keeps <;> first | exact Keeps.refl s | simp [mayChange, resetParts, holdParts]
  · apply @execPrintShift_keeps <;> first | exact Keeps.refl s | simp [mayChange, resetParts, holdParts]
  · apply @execPrintElemQuery_keeps <;> first | exact Keeps.refl s | simp [mayChange, resetParts, holdParts]
  · apply @execPrintSubConfirm_keeps <;> first | exact Keeps.refl s | simp [mayChange, resetParts, holdParts]
  · apply @execPrintElemClear_keeps <;> first | exact Keeps.refl s | simp [mayChange, resetParts, holdParts]
  · apply @execPrintAuth_keeps <;> first | exact Keeps.refl s | simp [mayChange, resetParts, holdParts]
  · apply @execPrintUsageQuery_keeps <;> first | exact Keeps.refl s | simp [mayChange, resetParts, holdParts]
  · apply @execPrintUsageWrite_keeps <;> first | exact Keeps.refl s | simp [mayChange, resetParts, holdParts]
  · apply @execRingQuery_keeps <;> first | exact Keeps.refl s | simp [mayChange, resetParts, holdParts]
  · apply @execCropRelease_keeps <;> first | exact Keeps.refl s | simp [mayChange, resetParts, holdParts]
  · apply @execLookbackQuery_keeps <;> first | exact Keeps.refl s | simp [mayChange, resetParts, holdParts]
  · apply @execLookbackFetch_keeps <;> first | exact Keeps.refl s | simp [mayChange, resetParts, holdParts]
  · apply @execLookbackFetchDone_keeps <;> first | exact Keeps.refl s | simp [mayChange, resetParts, holdParts]
  · apply @execLookbackAbort_keeps <;> first | exact Keeps.refl s | simp [mayChange, resetParts, holdParts]
  · apply @execAxisMove_keeps <;> first | exact Keeps.refl s | simp [mayChange, resetParts, holdParts]
  · apply @execAxisHome_keeps <;> first | exact Keeps.refl s | simp [mayChange, resetParts, holdParts]
  · apply @execAxisStop_keeps <;> first | exact Keeps.refl s | simp [mayChange, resetParts, holdParts]
  · apply @execAxisQuery_keeps <;> first | exact Keeps.refl s | simp [mayChange, resetParts, holdParts]
  · apply @execAxisEnable_keeps <;> first | exact Keeps.refl s | simp [mayChange, resetParts, holdParts]
  · apply @execTimeQuery_keeps <;> first | exact Keeps.refl s | simp [mayChange, resetParts, holdParts]
  · apply @execTimeSet_keeps <;> first | exact Keeps.refl s | simp [mayChange, resetParts, holdParts]
  · apply @execTimeAdjust_keeps <;> first | exact Keeps.refl s | simp [mayChange, resetParts, holdParts]
  · apply @execNetQuery_keeps <;> first | exact Keeps.refl s | simp [mayChange, resetParts, holdParts]
  · apply @execPeek_keeps <;> first | exact Keeps.refl s | simp [mayChange, resetParts, holdParts]
  · apply @execPoke_keeps <;> first | exact Keeps.refl s | simp [mayChange, resetParts, holdParts]
  · apply @execLaneSet_keeps <;> first | exact Keeps.refl s | simp [mayChange, resetParts, holdParts]
  · apply @execLaneQuery_keeps <;> first | exact Keeps.refl s | simp [mayChange, resetParts, holdParts]
  · apply @execBistRun_keeps <;> first | exact Keeps.refl s | simp [mayChange, resetParts, holdParts]
  · apply @execBistDone_keeps <;> first | exact Keeps.refl s | simp [mayChange, resetParts, holdParts]
  · apply @execBistResult_keeps <;> first | exact Keeps.refl s | simp [mayChange, resetParts, holdParts]
  · apply @execFwQuery_keeps <;> first | exact Keeps.refl s | simp [mayChange, resetParts, holdParts]
  · apply @execFwWrite_keeps <;> first | exact Keeps.refl s | simp [mayChange, resetParts, holdParts]
  · apply @execFwWriteDone_keeps <;> first | exact Keeps.refl s | simp [mayChange, resetParts, holdParts]
  · apply @execFwActivate_keeps <;> first | exact Keeps.refl s | simp [mayChange, resetParts, holdParts]
  · apply @execKeyLoad_keeps <;> first | exact Keeps.refl s | simp [mayChange, resetParts, holdParts]
  · apply @execLcQuery_keeps <;> first | exact Keeps.refl s | simp [mayChange, resetParts, holdParts]
  · apply @execLcAdvance_keeps <;> first | exact Keeps.refl s | simp [mayChange, resetParts, holdParts]
  · apply @execEvtQuery_keeps <;> first | exact Keeps.refl s | simp [mayChange, resetParts, holdParts]
  · apply @execEvtClear_keeps <;> first | exact Keeps.refl s | simp [mayChange, resetParts, holdParts]
  · apply @execEvtInject_keeps <;> first | exact Keeps.refl s | simp [mayChange, resetParts, holdParts]
  · apply @execEvtGroup_keeps <;> first | exact Keeps.refl s | simp [mayChange, resetParts, holdParts]
  · apply @execMemQuery_keeps <;> first | exact Keeps.refl s | simp [mayChange, resetParts, holdParts]
  · apply @execMemAlloc_keeps <;> first | exact Keeps.refl s | simp [mayChange, resetParts, holdParts]
  · apply @execMemFree_keeps <;> first | exact Keeps.refl s | simp [mayChange, resetParts, holdParts]
  · apply @execMemCopy_keeps <;> first | exact Keeps.refl s | simp [mayChange, resetParts, holdParts]
  · apply @execMemCrc_keeps <;> first | exact Keeps.refl s | simp [mayChange, resetParts, holdParts]
  · apply @execFirmwareDmaDone_keeps <;> first | exact Keeps.refl s | simp [mayChange, resetParts, holdParts]
  · apply @execMailboxGo_keeps <;> first | exact Keeps.refl s | simp [mayChange, resetParts, holdParts]
  · rename_i n e; cases e
    · apply @execKeeperTakeRequest_keeps' <;> first | exact Keeps.refl s | simp [mayChange, resetParts, holdParts]
    · apply @execKeeperTakeRequest_keeps <;> first | exact Keeps.refl s | simp [mayChange, resetParts, holdParts]
  · apply @execMailboxResponse_keeps <;> first | exact Keeps.refl s | simp [mayChange, resetParts, holdParts]
  · apply @execMailboxAck_keeps <;> first | exact Keeps.refl s | simp [mayChange, resetParts, holdParts]
  · apply @execUdpRequest_keeps <;> first | exact Keeps.refl s | simp [mayChange, resetParts, holdParts]
  · apply @execFragmentTimeout_keeps <;> first | exact Keeps.refl s | simp [mayChange, resetParts, holdParts]
  · apply @execHifReset_keeps <;> first | exact Keeps.refl s | simp [mayChange, resetParts, holdParts]
  · apply @execIrqStatusClear_keeps <;> first | exact Keeps.refl s | simp [mayChange, resetParts, holdParts]
  · apply @execIrqForce_keeps <;> first | exact Keeps.refl s | simp [mayChange, resetParts, holdParts]
  · apply @execMsixUnmask_keeps <;> first | exact Keeps.refl s | simp [mayChange, resetParts, holdParts]
  · apply @execWinBaseLoWrite_keeps <;> first | exact Keeps.refl s | simp [mayChange, resetParts, holdParts]
  · apply @execWinBaseHiWrite_keeps <;> first | exact Keeps.refl s | simp [mayChange, resetParts, holdParts]
  · apply @execHostVersionWrite_keeps <;> first | exact Keeps.refl s | simp [mayChange, resetParts, holdParts]
  · apply @execRingConfigWrite_keeps <;> first | exact Keeps.refl s | simp [mayChange, resetParts, holdParts]
  · apply @execRegisterWrite_keeps <;> first | exact Keeps.refl s | simp [mayChange, resetParts, holdParts]
  · rename_i w o l d e; cases e
    · apply @execBar2Access_keeps' <;> first | exact Keeps.refl s | simp [mayChange, resetParts, holdParts]
    · apply @execBar2Access_keeps <;> first | exact Keeps.refl s | simp [mayChange, resetParts, holdParts]
  · apply @execRingEntryReturn_keeps <;> first | exact Keeps.refl s | simp [mayChange, resetParts, holdParts]
  · apply @execSpillDrain_keeps <;> first | exact Keeps.refl s | simp [mayChange, resetParts, holdParts]
  · apply @execRecordWrite_keeps <;> first | exact Keeps.refl s | simp [mayChange, resetParts, holdParts]
  · apply @execRingTimerExpiry_keeps <;> first | exact Keeps.refl s | simp [mayChange, resetParts, holdParts]
  · apply @execDmaStart_keeps <;> first | exact Keeps.refl s | simp [mayChange, resetParts, holdParts]
  · apply @execDmaPause_keeps <;> first | exact Keeps.refl s | simp [mayChange, resetParts, holdParts]
  · apply @execDmaAbort_keeps <;> first | exact Keeps.refl s | simp [mayChange, resetParts, holdParts]
  · apply @execDmaConfigWrite_keeps <;> first | exact Keeps.refl s | simp [mayChange, resetParts, holdParts]
  · rename_i k e l; cases e
    · apply @execDmaDescriptorDone_keeps' <;> first | exact Keeps.refl s | simp [mayChange, resetParts, holdParts]
    · apply @execDmaDescriptorDone_keeps <;> first | exact Keeps.refl s | simp [mayChange, resetParts, holdParts]
  · apply @execDmaDrainDone_keeps <;> first | exact Keeps.refl s | simp [mayChange, resetParts, holdParts]
  · apply @execItemEntryHandover_keeps <;> first | exact Keeps.refl s | simp [mayChange, resetParts, holdParts]
  · apply @execPcieFlr_keeps <;> first | exact Keeps.refl s | simp [mayChange, resetParts, holdParts]
  · apply @execPerstAssert_keeps <;> first | exact Keeps.refl s | simp [mayChange, resetParts, holdParts]
  · apply @execPcieLinkLoss_keeps <;> first | exact Keeps.refl s | simp [mayChange, resetParts, holdParts]
  · apply @execEncoderEdge_keeps <;> first | exact Keeps.refl s | simp [mayChange, resetParts, holdParts]
  · apply @execEncoderZEdge_keeps <;> first | exact Keeps.refl s | simp [mayChange, resetParts, holdParts]
  · apply @execStallTimeout_keeps <;> first | exact Keeps.refl s | simp [mayChange, resetParts, holdParts]
  · apply @execToothEdge_keeps <;> first | exact Keeps.refl s | simp [mayChange, resetParts, holdParts]
  · apply @execSerialPoll_keeps <;> first | exact Keeps.refl s | simp [mayChange, resetParts, holdParts]
  · apply @execSerialWord_keeps <;> first | exact Keeps.refl s | simp [mayChange, resetParts, holdParts]
  · apply @execSerialTimeout_keeps <;> first | exact Keeps.refl s | simp [mayChange, resetParts, holdParts]
  · apply @execLineTrigger_keeps <;> first | exact Keeps.refl s | simp [mayChange, resetParts, holdParts]
  · apply @execFreeRunLine_keeps <;> first | exact Keeps.refl s | simp [mayChange, resetParts, holdParts]
  · apply @execCalTimedTrigger_keeps <;> first | exact Keeps.refl s | simp [mayChange, resetParts, holdParts]
  · apply @execSensorTransferDone_keeps <;> first | exact Keeps.refl s | simp [mayChange, resetParts, holdParts]
  · apply @execSensorIbi_keeps <;> first | exact Keeps.refl s | simp [mayChange, resetParts, holdParts]
  · apply @execCsiFrameStart_keeps <;> first | exact Keeps.refl s | simp [mayChange, resetParts, holdParts]
  · apply @execCsiFrameEnd_keeps <;> first | exact Keeps.refl s | simp [mayChange, resetParts, holdParts]
  · apply @execCsiLineStart_keeps <;> first | exact Keeps.refl s | simp [mayChange, resetParts, holdParts]
  · apply @execCsiLongPacket_keeps <;> first | exact Keeps.refl s | simp [mayChange, resetParts, holdParts]
  · apply @execCsiOtherPacket_keeps <;> first | exact Keeps.refl s | simp [mayChange, resetParts, holdParts]
  · apply @execCsiSyncError_keeps <;> first | exact Keeps.refl s | simp [mayChange, resetParts, holdParts]
  · apply @execExitDeadline_keeps <;> first | exact Keeps.refl s | simp [mayChange, resetParts, holdParts]
  · apply @execStripBreak_keeps <;> first | exact Keeps.refl s | simp [mayChange, resetParts, holdParts]
  · apply @execGeometryLine_keeps <;> first | exact Keeps.refl s | simp [mayChange, resetParts, holdParts]
  · apply @execSpanEmitLine_keeps <;> first | exact Keeps.refl s | simp [mayChange, resetParts, holdParts]
  · apply @execCompareLine_keeps <;> first | exact Keeps.refl s | simp [mayChange, resetParts, holdParts]
  · apply @execBandDecode_keeps <;> first | exact Keeps.refl s | simp [mayChange, resetParts, holdParts]
  · apply @execSegmentLine_keeps <;> first | exact Keeps.refl s | simp [mayChange, resetParts, holdParts]
  · apply @execQswarmEnqueue_keeps <;> first | exact Keeps.refl s | simp [mayChange, resetParts, holdParts]
  · apply @execStatsLine_keeps <;> first | exact Keeps.refl s | simp [mayChange, resetParts, holdParts]
  · apply @execLoopResultReady_keeps <;> first | exact Keeps.refl s | simp [mayChange, resetParts, holdParts]
  · apply @execCodecGroupClose_keeps <;> first | exact Keeps.refl s | simp [mayChange, resetParts, holdParts]
  · apply @execCodecFlushTimeout_keeps <;> first | exact Keeps.refl s | simp [mayChange, resetParts, holdParts]
  · apply @execRingWriteTimeout_keeps <;> first | exact Keeps.refl s | simp [mayChange, resetParts, holdParts]
  · apply @execDescriptorAccept_keeps <;> first | exact Keeps.refl s | simp [mayChange, resetParts, holdParts]
  · apply @execFieldTaskReady_keeps <;> first | exact Keeps.refl s | simp [mayChange, resetParts, holdParts]
  · apply @execRepeatTaskReady_keeps <;> first | exact Keeps.refl s | simp [mayChange, resetParts, holdParts]
  · apply @execItemTaskReady_keeps <;> first | exact Keeps.refl s | simp [mayChange, resetParts, holdParts]
  · apply @execWindowTaskReady_keeps <;> first | exact Keeps.refl s | simp [mayChange, resetParts, holdParts]
  · apply @execEventTask_keeps <;> first | exact Keeps.refl s | simp [mayChange, resetParts, holdParts]
  · apply @execTaskDispatch_keeps <;> first | exact Keeps.refl s | simp [mayChange, resetParts, holdParts]
  · apply @execTaskComplete_keeps <;> first | exact Keeps.refl s | simp [mayChange, resetParts, holdParts]
  · apply @execTaskWatchdog_keeps <;> first | exact Keeps.refl s | simp [mayChange, resetParts, holdParts]
  · apply @execCellFault_keeps <;> first | exact Keeps.refl s | simp [mayChange, resetParts, holdParts]
  · apply @execShedEvaluation_keeps <;> first | exact Keeps.refl s | simp [mayChange, resetParts, holdParts]
  · apply @execFrameClockChange_keeps <;> first | exact Keeps.refl s | simp [mayChange, resetParts, holdParts]
  · apply @execMarkerActivate_keeps <;> first | exact Keeps.refl s | simp [mayChange, resetParts, holdParts]
  · apply @execMarkerDeactivate_keeps <;> first | exact Keeps.refl s | simp [mayChange, resetParts, holdParts]
  · apply @execHeadLineTrigger_keeps <;> first | exact Keeps.refl s | simp [mayChange, resetParts, holdParts]
  · rename_i k t e; cases e
    · apply @execHeadLineStart_keeps' <;> first | exact Keeps.refl s | simp [mayChange, resetParts, holdParts]
    · apply @execHeadLineStart_keeps <;> first | exact Keeps.refl s | simp [mayChange, resetParts, holdParts]
  · apply @execHeadLineReprepare_keeps <;> first | exact Keeps.refl s | simp [mayChange, resetParts, holdParts]
  · rename_i a b r e; cases e
    · apply @execBitmapBurstDone_keeps <;> first | exact Keeps.refl s | simp [mayChange, resetParts, holdParts]
    · apply @execBitmapBurstDone_keeps' <;> first | exact Keeps.refl s | simp [mayChange, resetParts, holdParts]
  · apply @execHeadGateAssert_keeps <;> first | exact Keeps.refl s | simp [mayChange, resetParts, holdParts]
  · apply @execHeadGateClear_keeps <;> first | exact Keeps.refl s | simp [mayChange, resetParts, holdParts]
  · apply @execGateRearmExpiry_keeps <;> first | exact Keeps.refl s | simp [mayChange, resetParts, holdParts]
  · apply @execHsenSettleExpiry_keeps <;> first | exact Keeps.refl s | simp [mayChange, resetParts, holdParts]
  · apply @execSpeedEvaluation_keeps <;> first | exact Keeps.refl s | simp [mayChange, resetParts, holdParts]
  · apply @execSpdHoldExpiry_keeps <;> first | exact Keeps.refl s | simp [mayChange, resetParts, holdParts]
  · apply @execAuthResponse_keeps <;> first | exact Keeps.refl s | simp [mayChange, resetParts, holdParts]
  · apply @execAuthRetryTimeout_keeps <;> first | exact Keeps.refl s | simp [mayChange, resetParts, holdParts]
  · apply @execUsageWriteDone_keeps <;> first | exact Keeps.refl s | simp [mayChange, resetParts, holdParts]
  · apply @execMonitorOutput_keeps <;> first | exact Keeps.refl s | simp [mayChange, resetParts, holdParts]
  · apply @execPinInputEdge_keeps <;> first | exact Keeps.refl s | simp [mayChange, resetParts, holdParts]
  · apply @execEventDelivery_keeps <;> first | exact Keeps.refl s | simp [mayChange, resetParts, holdParts]
  · apply @execRelayFire_keeps <;> first | exact Keeps.refl s | simp [mayChange, resetParts, holdParts]
  · apply @execPinOutPulseEnd_keeps <;> first | exact Keeps.refl s | simp [mayChange, resetParts, holdParts]
  · apply @execEthFrameRx_keeps <;> first | exact Keeps.refl s | simp [mayChange, resetParts, holdParts]
  · apply @execMacAgeing_keeps <;> first | exact Keeps.refl s | simp [mayChange, resetParts, holdParts]
  · apply @execPtpSync_keeps <;> first | exact Keeps.refl s | simp [mayChange, resetParts, holdParts]
  · apply @execPtpAnnounceTimeout_keeps <;> first | exact Keeps.refl s | simp [mayChange, resetParts, holdParts]
  · apply @execHello_keeps <;> first | exact Keeps.refl s | simp [mayChange, resetParts, holdParts]
  · apply @execHelloTimer_keeps <;> first | exact Keeps.refl s | simp [mayChange, resetParts, holdParts]
  · apply @execBulk_keeps <;> first | exact Keeps.refl s | simp [mayChange, resetParts, holdParts]
  · apply @execSpdRefreshTimer_keeps <;> first | exact Keeps.refl s | simp [mayChange, resetParts, holdParts]
  · apply @execLinkTrainRetry_keeps <;> first | exact Keeps.refl s | simp [mayChange, resetParts, holdParts]
  · apply @execTrain_keeps <;> first | exact Keeps.refl s | simp [mayChange, resetParts, holdParts]
  · apply @execLinkDown_keeps <;> first | exact Keeps.refl s | simp [mayChange, resetParts, holdParts]
  · apply @execPairinfo_keeps <;> first | exact Keeps.refl s | simp [mayChange, resetParts, holdParts]
  · apply @execViaductMbx_keeps <;> first | exact Keeps.refl s | simp [mayChange, resetParts, holdParts]
  · apply @execLanes_keeps <;> first | exact Keeps.refl s | simp [mayChange, resetParts, holdParts]
  · apply @execPosSendTimer_keeps <;> first | exact Keeps.refl s | simp [mayChange, resetParts, holdParts]
  · apply @execPos_keeps <;> first | exact Keeps.refl s | simp [mayChange, resetParts, holdParts]
  · apply @execLine_keeps <;> first | exact Keeps.refl s | simp [mayChange, resetParts, holdParts]
  · apply @execSeam_keeps <;> first | exact Keeps.refl s | simp [mayChange, resetParts, holdParts]
  · apply @execPart_keeps <;> first | exact Keeps.refl s | simp [mayChange, resetParts, holdParts]
  · apply @execCut_keeps <;> first | exact Keeps.refl s | simp [mayChange, resetParts, holdParts]
  · apply @execSeamTimeout_keeps <;> first | exact Keeps.refl s | simp [mayChange, resetParts, holdParts]
  · apply @execReplayRequest_keeps <;> first | exact Keeps.refl s | simp [mayChange, resetParts, holdParts]
  · apply @execDramRefreshDue_keeps <;> first | exact Keeps.refl s | simp [mayChange, resetParts, holdParts]
  · apply @execMr4Read_keeps <;> first | exact Keeps.refl s | simp [mayChange, resetParts, holdParts]
  · apply @execDqsTracking_keeps <;> first | exact Keeps.refl s | simp [mayChange, resetParts, holdParts]
  · apply @execEccScrub_keeps <;> first | exact Keeps.refl s | simp [mayChange, resetParts, holdParts]
  · apply @execSetPointChange_keeps <;> first | exact Keeps.refl s | simp [mayChange, resetParts, holdParts]
  · apply @execStandbySelfRefresh_keeps <;> first | exact Keeps.refl s | simp [mayChange, resetParts, holdParts]
  · apply @execAxisVelocityUpdate_keeps <;> first | exact Keeps.refl s | simp [mayChange, resetParts, holdParts]
  · apply @execAxisStep_keeps <;> first | exact Keeps.refl s | simp [mayChange, resetParts, holdParts]
  · apply @execHomeInputChange_keeps <;> first | exact Keeps.refl s | simp [mayChange, resetParts, holdParts]
  · apply @execVinUvloRising_keeps <;> first | exact Keeps.refl s | simp [mayChange, resetParts, holdParts]
  · apply @execVinUvloFalling_keeps <;> first | exact Keeps.refl s | simp [mayChange, resetParts, holdParts]
  · apply @execBrownout_keeps <;> first | exact Keeps.refl s | simp [mayChange, resetParts, holdParts]
  · apply @execBrownoutRelease_keeps <;> first | exact Keeps.refl s | simp [mayChange, resetParts, holdParts]
  · apply @execPorstN_keeps <;> first | exact Keeps.refl s | simp [mayChange, resetParts, holdParts]
  · apply @execResetRelease_keeps <;> first | exact Keeps.refl s | simp [mayChange, resetParts, holdParts]
  · apply @execBootLoadDone_keeps <;> first | exact Keeps.refl s | simp [mayChange, resetParts, holdParts]
  · apply @execBootDone_keeps <;> first | exact Keeps.refl s | simp [mayChange, resetParts, holdParts]
  · apply @execTempEvaluation_keeps <;> first | exact Keeps.refl s | simp [mayChange, resetParts, holdParts]
  · apply @execThermal_keeps <;> first | exact Keeps.refl s | simp [mayChange, resetParts, holdParts]
  · apply @execKeeperWatchdogExpiry_keeps <;> first | exact Keeps.refl s | simp [mayChange, resetParts, holdParts]
  · apply @execPllLossOfLock_keeps <;> first | exact Keeps.refl s | simp [mayChange, resetParts, holdParts]
  · apply @execHeartbeat_keeps <;> first | exact Keeps.refl s | simp [mayChange, resetParts, holdParts]
  · apply @execPerstRelease_keeps <;> first | exact Keeps.refl s | simp [mayChange, resetParts, holdParts]
  · apply @execPcieLinkUp_keeps <;> first | exact Keeps.refl s | simp [mayChange, resetParts, holdParts]
  · apply @execEthLinkChange_keeps <;> first | exact Keeps.refl s | simp [mayChange, resetParts, holdParts]
  · apply @execCalTableReadDone_keeps <;> first | exact Keeps.refl s | simp [mayChange, resetParts, holdParts]
  · apply @execStationSwitch_keeps <;> first | exact Keeps.refl s | simp [mayChange, resetParts, holdParts]
  · apply @execTestInstruction_keeps <;> first | exact Keeps.refl s | simp [mayChange, resetParts, holdParts]
  · apply @execPtpSyncSend_keeps <;> first | exact Keeps.refl s | simp [mayChange, resetParts, holdParts]
  · apply @execPtpDelayReqSend_keeps <;> first | exact Keeps.refl s | simp [mayChange, resetParts, holdParts]

end Sys2Proof.Machine
end

