-- ==== Sys2Proof/Laws/Filter.lean ====
section
/-! SUPPORT. What the filter of R69 does with a sequence of samples: the laws behind `filterPasses`. -/

namespace Sys2Proof.Machine

/-- Fewer than N + 1 samples after a change leave the filtered level as it is: two changes lie at least N + 1 samples apart. -/
theorem filter_changes_apart (n : Nat) : ∀ (l : List Bool) (f : Filter), f.run + l.length ≤ n → (l.foldl (Filter.sample n) f).level = f.level
  | [], _, _ => rfl
  | b :: r, f, h => by
    simp only [List.length_cons] at h
    unfold List.foldl Filter.sample
    split
    · exact filter_changes_apart n r { f with run := 0 } (by show 0 + r.length ≤ n; omega)
    · rw [if_neg (by omega)]
      exact filter_changes_apart n r { f with run := f.run + 1 } (by show f.run + 1 + r.length ≤ n; omega)

/-- N + 1 consecutive samples of the other level change the filtered level, with the last of them. -/
theorem filter_follows (n : Nat) (b : Bool) : ∀ (k : Nat) (f : Filter), f.level ≠ b → f.run + k = n →
    ((List.replicate (k + 1) b).foldl (Filter.sample n) f).level = b ∧ ((List.replicate k b).foldl (Filter.sample n) f).level = f.level
  | 0, f, h, e => by
    refine ⟨?_, rfl⟩
    show (Filter.sample n f b).level = b
    unfold Filter.sample
    rw [if_neg (fun x => h x.symm), if_pos (by omega)]
  | k + 1, f, h, e => by
    have hs : Filter.sample n f b = { f with run := f.run + 1 } := by
      unfold Filter.sample
      rw [if_neg (fun x => h x.symm), if_neg (by omega)]
    have := filter_follows n b k { f with run := f.run + 1 } h (by show f.run + 1 + k = n; omega)
    refine ⟨?_, ?_⟩
    · rw [List.replicate_succ, List.foldl_cons, hs]; exact this.1
    · rw [List.replicate_succ, List.foldl_cons, hs]; exact this.2

end Sys2Proof.Machine
end

