-- ==== Sys2Proof/Laws/Total.lean ====
section
/-! SUPPORT. The commands that never stop: each answers a next state in every state. -/

namespace Sys2Proof.Machine

/-- A Zaster command answers a next state. -/
theorem runCmd_next (code : Nat) (q : Req) (modes : ModeSet) (urgent : Bool) (refuse : Option Reply) (e : State × Reply) (s : State) :
    ∃ t, runCmd code q modes urgent refuse e s = .next t := by
  unfold runCmd
  repeat' split
  all_goals exact ⟨_, rfl⟩

theorem execSysNop_next (q : Req) (s : State) : ∃ u, execSysNop q s = .next u := by
  exact runCmd_next ..

theorem execSysIdent_next (q : Req) (s : State) : ∃ u, execSysIdent q s = .next u := by
  exact runCmd_next ..

theorem execSysStatus_next (q : Req) (s : State) : ∃ u, execSysStatus q s = .next u := by
  exact runCmd_next ..

theorem execSnapshotTimeout_next (s : State) : ∃ u, execSnapshotTimeout s = .next u := by
  unfold execSnapshotTimeout
  try dsimp only
  repeat' split
  all_goals first | exact ⟨_, rfl⟩ | exact runCmd_next ..

theorem execModeSet_next (q : Req) (target : Nat) (s : State) : ∃ u, execModeSet q target s = .next u := by
  exact runCmd_next ..

theorem execSysStop_next (q : Req) (s : State) : ∃ u, execSysStop q s = .next u := by
  unfold execSysStop
  try dsimp only
  repeat' split
  all_goals first | exact ⟨_, rfl⟩ | exact runCmd_next ..

theorem execSysAbort_next (q : Req) (mbx : Nat) (s : State) : ∃ u, execSysAbort q mbx s = .next u := by
  exact runCmd_next ..

theorem execSysReset_next (q : Req) (key : Nat) (s : State) : ∃ u, execSysReset q key s = .next u := by
  exact runCmd_next ..

theorem execSysResetDelayExpiry_next (s : State) : ∃ u, execSysResetDelayExpiry s = .next u := by
  unfold execSysResetDelayExpiry
  try dsimp only
  repeat' split
  all_goals first | exact ⟨_, rfl⟩ | exact runCmd_next ..

theorem execReinstate_next (q : Req) (block inst : Nat) (s : State) : ∃ u, execReinstate q block inst s = .next u := by
  exact runCmd_next ..

theorem execDeckUnstage_next (q : Req) (s : State) : ∃ u, execDeckUnstage q s = .next u := by
  exact runCmd_next ..

theorem execDeckArmSwap_next (q : Req) (ws : Int) (s : State) : ∃ u, execDeckArmSwap q ws s = .next u := by
  unfold execDeckArmSwap
  try dsimp only
  repeat' split
  all_goals first | exact ⟨_, rfl⟩ | exact runCmd_next ..

theorem execDeckCancelSwap_next (q : Req) (s : State) : ∃ u, execDeckCancelSwap q s = .next u := by
  unfold execDeckCancelSwap
  try dsimp only
  repeat' split
  all_goals first | exact ⟨_, rfl⟩ | exact runCmd_next ..

theorem execDeckActivate_next (q : Req) (s : State) : ∃ u, execDeckActivate q s = .next u := by
  unfold execDeckActivate
  try dsimp only
  repeat' split
  all_goals first | exact ⟨_, rfl⟩ | exact runCmd_next ..

theorem execDeckQuery_next (q : Req) (s : State) : ∃ u, execDeckQuery q s = .next u := by
  exact runCmd_next ..

theorem execDeckDelete_next (q : Req) (handle : Nat) (s : State) : ∃ u, execDeckDelete q handle s = .next u := by
  unfold execDeckDelete
  try dsimp only
  repeat' split
  all_goals first | exact ⟨_, rfl⟩ | exact runCmd_next ..

theorem execRefAlloc_next (q : Req) (len : Nat) (s : State) : ∃ u, execRefAlloc q len s = .next u := by
  unfold execRefAlloc
  try dsimp only
  repeat' split
  all_goals first | exact ⟨_, rfl⟩ | exact runCmd_next ..

theorem execRefCommit_next (q : Req) (handle : Nat) (s : State) : ∃ u, execRefCommit q handle s = .next u := by
  unfold execRefCommit
  try dsimp only
  repeat' split
  all_goals first | exact ⟨_, rfl⟩ | exact runCmd_next ..

theorem execRefDelete_next (q : Req) (handle : Nat) (s : State) : ∃ u, execRefDelete q handle s = .next u := by
  unfold execRefDelete
  try dsimp only
  repeat' split
  all_goals first | exact ⟨_, rfl⟩ | exact runCmd_next ..

theorem execRefQuery_next (q : Req) (s : State) : ∃ u, execRefQuery q s = .next u := by
  exact runCmd_next ..

theorem execRefLearnAbort_next (q : Req) (s : State) : ∃ u, execRefLearnAbort q s = .next u := by
  exact runCmd_next ..

theorem execRefLearnDone_next (s : State) : ∃ u, execRefLearnDone s = .next u := by
  unfold execRefLearnDone
  try dsimp only
  repeat' split
  all_goals first | exact ⟨_, rfl⟩ | exact runCmd_next ..

theorem execExposureSet_next (q : Req) (e : ExposureReq) (s : State) : ∃ u, execExposureSet q e s = .next u := by
  exact runCmd_next ..

theorem execTdacSet_next (q : Req) (tdac code : Nat) (s : State) : ∃ u, execTdacSet q tdac code s = .next u := by
  exact runCmd_next ..

theorem execCalFlat_next (q : Req) (white : Bool) (ports : Nat) (s : State) : ∃ u, execCalFlat q white ports s = .next u := by
  exact runCmd_next ..

theorem execCalPhaseDone_next (s : State) : ∃ u, execCalPhaseDone s = .next u := by
  unfold execCalPhaseDone
  try dsimp only
  repeat' split
  all_goals first | exact ⟨_, rfl⟩ | exact runCmd_next ..

theorem execCalQuery_next (q : Req) (s : State) : ∃ u, execCalQuery q s = .next u := by
  exact runCmd_next ..

theorem execSensorXfer_next (q : Req) (camera : Nat) (write : Bool) (aw dw addr value : Nat) (reply : Option Nat) (s : State) : ∃ u, execSensorXfer q camera write aw dw addr value reply s = .next u := by
  unfold execSensorXfer
  try dsimp only
  repeat' split
  all_goals first | exact ⟨_, rfl⟩ | exact runCmd_next ..

theorem execPrintWithdraw_next (q : Req) (lead index : Nat) (s : State) : ∃ u, execPrintWithdraw q lead index s = .next u := by
  unfold execPrintWithdraw
  try dsimp only
  repeat' split
  all_goals first | exact ⟨_, rfl⟩ | exact runCmd_next ..

theorem execPrintRearm_next (q : Req) (s : State) : ∃ u, execPrintRearm q s = .next u := by
  exact runCmd_next ..

theorem execPrintShift_next (q : Req) (lead : Nat) (shift : Int) (s : State) : ∃ u, execPrintShift q lead shift s = .next u := by
  unfold execPrintShift
  try dsimp only
  repeat' split
  all_goals first | exact ⟨_, rfl⟩ | exact runCmd_next ..

theorem execPrintElemQuery_next (q : Req) (head : Nat) (s : State) : ∃ u, execPrintElemQuery q head s = .next u := by
  exact runCmd_next ..

theorem execPrintSubConfirm_next (q : Req) (head : Nat) (accept : Bool) (element : Nat) (s : State) : ∃ u, execPrintSubConfirm q head accept element s = .next u := by
  unfold execPrintSubConfirm
  try dsimp only
  repeat' split
  all_goals first | exact ⟨_, rfl⟩ | exact runCmd_next ..

theorem execPrintElemClear_next (q : Req) (head element : Nat) (s : State) : ∃ u, execPrintElemClear q head element s = .next u := by
  unfold execPrintElemClear
  try dsimp only
  repeat' split
  all_goals first | exact ⟨_, rfl⟩ | exact runCmd_next ..

theorem execPrintAuth_next (q : Req) (head : Nat) (s : State) : ∃ u, execPrintAuth q head s = .next u := by
  exact runCmd_next ..

theorem execPrintUsageQuery_next (q : Req) (s : State) : ∃ u, execPrintUsageQuery q s = .next u := by
  exact runCmd_next ..

theorem execPrintUsageWrite_next (q : Req) (head : Nat) (s : State) : ∃ u, execPrintUsageWrite q head s = .next u := by
  exact runCmd_next ..

theorem execRingQuery_next (q : Req) (s : State) : ∃ u, execRingQuery q s = .next u := by
  exact runCmd_next ..

theorem execCropRelease_next (q : Req) (handle : Nat) (s : State) : ∃ u, execCropRelease q handle s = .next u := by
  exact runCmd_next ..

theorem execLookbackQuery_next (q : Req) (s : State) : ∃ u, execLookbackQuery q s = .next u := by
  exact runCmd_next ..

theorem execLookbackFetchDone_next (bad : List (Nat × Nat × Nat)) (s : State) : ∃ u, execLookbackFetchDone s bad = .next u := by
  unfold execLookbackFetchDone
  try dsimp only
  repeat' split
  all_goals first | exact ⟨_, rfl⟩ | exact runCmd_next ..

theorem execLookbackAbort_next (q : Req) (s : State) : ∃ u, execLookbackAbort q s = .next u := by
  exact runCmd_next ..

theorem execAxisStop_next (q : Req) (axes : Nat) (abrupt : Bool) (s : State) : ∃ u, execAxisStop q axes abrupt s = .next u := by
  exact runCmd_next ..

theorem execAxisQuery_next (q : Req) (s : State) : ∃ u, execAxisQuery q s = .next u := by
  exact runCmd_next ..

theorem execAxisEnable_next (q : Req) (axes enable : Nat) (s : State) : ∃ u, execAxisEnable q axes enable s = .next u := by
  unfold execAxisEnable
  try dsimp only
  repeat' split
  all_goals first | exact ⟨_, rfl⟩ | exact runCmd_next ..

theorem execTimeQuery_next (q : Req) (s : State) : ∃ u, execTimeQuery q s = .next u := by
  exact runCmd_next ..

theorem execTimeSet_next (q : Req) (time : Nat) (s : State) : ∃ u, execTimeSet q time s = .next u := by
  exact runCmd_next ..

theorem execNetQuery_next (q : Req) (s : State) : ∃ u, execNetQuery q s = .next u := by
  exact runCmd_next ..

theorem execLaneQuery_next (q : Req) (cls lane : Nat) (received : List (List Bool)) (s : State) : ∃ u, execLaneQuery q cls lane s received = .next u := by
  unfold execLaneQuery
  try dsimp only
  repeat' split
  all_goals first | exact ⟨_, rfl⟩ | exact runCmd_next ..

theorem execBistRun_next (q : Req) (full : Bool) (s : State) : ∃ u, execBistRun q full s = .next u := by
  unfold execBistRun
  try dsimp only
  repeat' split
  all_goals first | exact ⟨_, rfl⟩ | exact runCmd_next ..

theorem execBistDone_next (failures : List BistEntry) (durationUs : Nat) (s : State) : ∃ u, execBistDone failures durationUs s = .next u := by
  unfold execBistDone
  try dsimp only
  repeat' split
  all_goals first | exact ⟨_, rfl⟩ | exact runCmd_next ..

theorem execBistResult_next (q : Req) (s : State) : ∃ u, execBistResult q s = .next u := by
  unfold execBistResult
  try dsimp only
  repeat' split
  all_goals first | exact ⟨_, rfl⟩ | exact runCmd_next ..

theorem execFwQuery_next (q : Req) (s : State) : ∃ u, execFwQuery q s = .next u := by
  unfold execFwQuery
  try dsimp only
  repeat' split
  all_goals first | exact ⟨_, rfl⟩ | exact runCmd_next ..

theorem execFwWriteDone_next (s : State) : ∃ u, execFwWriteDone s = .next u := by
  unfold execFwWriteDone
  try dsimp only
  repeat' split
  all_goals first | exact ⟨_, rfl⟩ | exact runCmd_next ..

theorem execFwActivate_next (q : Req) (slot : Nat) (reset : Bool) (s : State) : ∃ u, execFwActivate q slot reset s = .next u := by
  unfold execFwActivate
  try dsimp only
  repeat' split
  all_goals first | exact ⟨_, rfl⟩ | exact runCmd_next ..

theorem execKeyLoad_next (q : Req) (slot : Nat) (key : List Byte) (s : State) : ∃ u, execKeyLoad q slot key s = .next u := by
  unfold execKeyLoad
  try dsimp only
  repeat' split
  all_goals first | exact ⟨_, rfl⟩ | exact runCmd_next ..

theorem execLcQuery_next (q : Req) (s : State) : ∃ u, execLcQuery q s = .next u := by
  unfold execLcQuery
  try dsimp only
  repeat' split
  all_goals first | exact ⟨_, rfl⟩ | exact runCmd_next ..

theorem execLcAdvance_next (q : Req) (target confirm : Nat) (s : State) : ∃ u, execLcAdvance q target confirm s = .next u := by
  unfold execLcAdvance
  try dsimp only
  repeat' split
  all_goals first | exact ⟨_, rfl⟩ | exact runCmd_next ..

theorem execEvtQuery_next (q : Req) (s : State) : ∃ u, execEvtQuery q s = .next u := by
  exact runCmd_next ..

theorem execEvtClear_next (q : Req) (s : State) : ∃ u, execEvtClear q s = .next u := by
  exact runCmd_next ..

theorem execEvtGroup_next (q : Req) (enable disable : Nat) (s : State) : ∃ u, execEvtGroup q enable disable s = .next u := by
  unfold execEvtGroup
  try dsimp only
  repeat' split
  all_goals first | exact ⟨_, rfl⟩ | exact runCmd_next ..

theorem execMemQuery_next (q : Req) (s : State) : ∃ u, execMemQuery q s = .next u := by
  exact runCmd_next ..

theorem execMemAlloc_next (q : Req) (len : Nat) (s : State) : ∃ u, execMemAlloc q len s = .next u := by
  unfold execMemAlloc
  try dsimp only
  repeat' split
  all_goals first | exact ⟨_, rfl⟩ | exact runCmd_next ..

theorem execMemFree_next (q : Req) (handle : Nat) (s : State) : ∃ u, execMemFree q handle s = .next u := by
  unfold execMemFree
  try dsimp only
  repeat' split
  all_goals first | exact ⟨_, rfl⟩ | exact runCmd_next ..

theorem execFirmwareDmaDone_next (s : State) : ∃ u, execFirmwareDmaDone s = .next u := by
  unfold execFirmwareDmaDone
  try dsimp only
  repeat' split
  all_goals first | exact ⟨_, rfl⟩ | exact runCmd_next ..

theorem execMailboxResponse_next (n : Nat) (s : State) : ∃ u, execMailboxResponse n s = .next u := by
  unfold execMailboxResponse
  try dsimp only
  repeat' split
  all_goals first | exact ⟨_, rfl⟩ | exact runCmd_next ..

theorem execUdpRequest_next (srcAddr srcPort : Nat) (data : List Byte) (firstFragment lastFragment : Bool) (s : State) : ∃ u, execUdpRequest srcAddr srcPort data firstFragment lastFragment s = .next u := by
  unfold execUdpRequest
  try dsimp only
  repeat' split
  all_goals first | exact ⟨_, rfl⟩ | exact runCmd_next ..

theorem execFragmentTimeout_next (s : State) : ∃ u, execFragmentTimeout s = .next u := by
  exact ⟨_, rfl⟩

theorem execHifReset_next (value : Word) (s : State) : ∃ u, execHifReset value s = .next u := by
  unfold execHifReset
  try dsimp only
  repeat' split
  all_goals first | exact ⟨_, rfl⟩ | exact runCmd_next ..

theorem execIrqStatusClear_next (value same : Word) (s : State) : ∃ u, execIrqStatusClear value s same = .next u := by
  exact ⟨_, rfl⟩

theorem execIrqForce_next (value : Word) (s : State) : ∃ u, execIrqForce value s = .next u := by
  exact ⟨_, rfl⟩

theorem execMsixUnmask_next (vector : Nat) (s : State) : ∃ u, execMsixUnmask vector s = .next u := by
  exact ⟨_, rfl⟩

theorem execRingEntryReturn_next (ring index : Nat) (s : State) : ∃ u, execRingEntryReturn ring index s = .next u := by
  unfold execRingEntryReturn
  try dsimp only
  repeat' split
  all_goals first | exact ⟨_, rfl⟩ | exact runCmd_next ..

theorem execSpillDrain_next (ring : Nat) (s : State) : ∃ u, execSpillDrain ring s = .next u := by
  unfold execSpillDrain
  try dsimp only
  repeat' split
  all_goals first | exact ⟨_, rfl⟩ | exact runCmd_next ..

theorem execRecordWrite_next (ring : Nat) (s : State) : ∃ u, execRecordWrite ring s = .next u := by
  exact ⟨_, rfl⟩

theorem execRingTimerExpiry_next (ring : Nat) (s : State) : ∃ u, execRingTimerExpiry ring s = .next u := by
  unfold execRingTimerExpiry
  try dsimp only
  repeat' split
  all_goals first | exact ⟨_, rfl⟩ | exact runCmd_next ..

theorem execDmaAbort_next (ch : Nat) (s : State) : ∃ u, execDmaAbort ch s = .next u := by
  unfold execDmaAbort
  try dsimp only
  repeat' split
  all_goals first | exact ⟨_, rfl⟩ | exact runCmd_next ..

theorem execDmaDrainDone_next (ch done : Nat) (s : State) : ∃ u, execDmaDrainDone ch done s = .next u := by
  unfold execDmaDrainDone
  try dsimp only
  repeat' split
  all_goals first | exact ⟨_, rfl⟩ | exact runCmd_next ..

theorem execPcieFlr_next (s : State) : ∃ u, execPcieFlr s = .next u := by
  exact ⟨_, rfl⟩

theorem execPerstAssert_next (s : State) : ∃ u, execPerstAssert s = .next u := by
  unfold execPerstAssert
  try dsimp only
  repeat' split
  all_goals first | exact ⟨_, rfl⟩ | exact runCmd_next ..

theorem execPcieLinkLoss_next (s : State) : ∃ u, execPcieLinkLoss s = .next u := by
  exact ⟨_, rfl⟩

theorem execEncoderEdge_next (k : Nat) (a b : Bool) (t : Nat) (overflow : Bool) (s : State) : ∃ u, execEncoderEdge k a b t s overflow = .next u := by
  unfold execEncoderEdge
  try dsimp only
  repeat' split
  all_goals first | exact ⟨_, rfl⟩ | exact runCmd_next ..

theorem execEncoderZEdge_next (k t : Nat) (s : State) : ∃ u, execEncoderZEdge k t s = .next u := by
  unfold execEncoderZEdge
  try dsimp only
  repeat' split
  all_goals first | exact ⟨_, rfl⟩ | exact runCmd_next ..

theorem execStallTimeout_next (t : Nat) (s : State) : ∃ u, execStallTimeout t s = .next u := by
  unfold execStallTimeout
  try dsimp only
  repeat' split
  all_goals first | exact ⟨_, rfl⟩ | exact runCmd_next ..

theorem execSerialPoll_next (k t : Nat) (s : State) : ∃ u, execSerialPoll k t s = .next u := by
  unfold execSerialPoll
  try dsimp only
  repeat' split
  all_goals first | exact ⟨_, rfl⟩ | exact runCmd_next ..

theorem execSerialWord_next (k : Nat) (w : SerialWordIn) (t : Nat) (s : State) : ∃ u, execSerialWord k w t s = .next u := by
  unfold execSerialWord
  try dsimp only
  repeat' split
  all_goals first | exact ⟨_, rfl⟩ | exact runCmd_next ..

theorem execSerialTimeout_next (k t : Nat) (s : State) : ∃ u, execSerialTimeout k t s = .next u := by
  unfold execSerialTimeout
  try dsimp only
  repeat' split
  all_goals first | exact ⟨_, rfl⟩ | exact runCmd_next ..

theorem execLineTrigger_next (t : Nat) (s : State) : ∃ u, execLineTrigger t s = .next u := by
  unfold execLineTrigger
  try dsimp only
  repeat' split
  all_goals first | exact ⟨_, rfl⟩ | exact runCmd_next ..

theorem execFreeRunLine_next (t : Nat) (s : State) : ∃ u, execFreeRunLine t s = .next u := by
  unfold execFreeRunLine
  try dsimp only
  repeat' split
  all_goals first | exact ⟨_, rfl⟩ | exact runCmd_next ..

theorem execCalTimedTrigger_next (t : Nat) (s : State) : ∃ u, execCalTimedTrigger t s = .next u := by
  unfold execCalTimedTrigger
  try dsimp only
  repeat' split
  all_goals first | exact ⟨_, rfl⟩ | exact runCmd_next ..

theorem execSensorTransferDone_next (r : SensorResult) (s : State) : ∃ u, execSensorTransferDone r s = .next u := by
  unfold execSensorTransferDone
  try dsimp only
  repeat' split
  all_goals first | exact ⟨_, rfl⟩ | exact runCmd_next ..

theorem execSensorIbi_next (camera : Nat) (s : State) : ∃ u, execSensorIbi camera s = .next u := by
  exact ⟨_, rfl⟩

theorem execCsiFrameStart_next (port : Nat) (p : CsiPacket) (s : State) : ∃ u, execCsiFrameStart port p s = .next u := by
  exact ⟨_, rfl⟩

theorem execCsiFrameEnd_next (port : Nat) (p : CsiPacket) (s : State) : ∃ u, execCsiFrameEnd port p s = .next u := by
  exact ⟨_, rfl⟩

theorem execCsiLineStart_next (port : Nat) (p : CsiPacket) (s : State) : ∃ u, execCsiLineStart port p s = .next u := by
  exact ⟨_, rfl⟩

theorem execCsiLongPacket_next (port : Nat) (p : CsiPacket) (s : State) : ∃ u, execCsiLongPacket port p s = .next u := by
  exact ⟨_, rfl⟩

theorem execCsiOtherPacket_next (port : Nat) (p : CsiPacket) (s : State) : ∃ u, execCsiOtherPacket port p s = .next u := by
  exact ⟨_, rfl⟩

theorem execCsiSyncError_next (port : Nat) (s : State) : ∃ u, execCsiSyncError port s = .next u := by
  exact ⟨_, rfl⟩

theorem execExitDeadline_next (s : State) : ∃ u, execExitDeadline s = .next u := by
  exact ⟨_, rfl⟩

theorem execStripBreak_next (s : State) : ∃ u, execStripBreak s = .next u := by
  exact ⟨_, rfl⟩

theorem execGeometryLine_next (hits : List (Nat × EccHit)) (s : State) : ∃ u, execGeometryLine s hits = .next u := by
  exact ⟨_, rfl⟩

theorem execSpanEmitLine_next (bufferError : Option Nat) (s : State) : ∃ u, execSpanEmitLine bufferError s = .next u := by
  exact ⟨_, rfl⟩

theorem execCompareLine_next (bufferError gapStateError : Bool) (hits : List BandHit) (corrected : Nat) (s : State) : ∃ u, execCompareLine bufferError gapStateError s hits corrected = .next u := by
  unfold execCompareLine
  try dsimp only
  repeat' split
  all_goals first | exact ⟨_, rfl⟩ | exact runCmd_next ..

theorem execSegmentLine_next (labelError : Bool) (corrected : Nat) (queueError : Option (Nat × Nat)) (s : State) : ∃ u, execSegmentLine labelError s corrected queueError = .next u := by
  exact ⟨_, rfl⟩

theorem execQswarmEnqueue_next (s : State) : ∃ u, execQswarmEnqueue s = .next u := by
  exact ⟨_, rfl⟩

theorem execStatsLine_next (s : State) : ∃ u, execStatsLine s = .next u := by
  unfold execStatsLine
  try dsimp only
  repeat' split
  all_goals first | exact ⟨_, rfl⟩ | exact runCmd_next ..

theorem execLoopResultReady_next (s : State) : ∃ u, execLoopResultReady s = .next u := by
  unfold execLoopResultReady
  try dsimp only
  repeat' split
  all_goals first | exact ⟨_, rfl⟩ | exact runCmd_next ..

theorem execCodecGroupClose_next (overview : Bool) (error : Option Nat) (corrected : List Nat) (s : State) : ∃ u, execCodecGroupClose overview s error corrected = .next u := by
  unfold execCodecGroupClose
  try dsimp only
  repeat' split
  all_goals first | exact ⟨_, rfl⟩ | exact runCmd_next ..

theorem execCodecFlushTimeout_next (overview : Bool) (error : Option Nat) (corrected : List Nat) (s : State) : ∃ u, execCodecFlushTimeout overview s error corrected = .next u := by
  exact ⟨_, rfl⟩

theorem execRingWriteTimeout_next (overview : Bool) (s : State) : ∃ u, execRingWriteTimeout overview s = .next u := by
  exact ⟨_, rfl⟩

theorem execDescriptorAccept_next (s : State) : ∃ u, execDescriptorAccept s = .next u := by
  exact ⟨_, rfl⟩

theorem execFieldTaskReady_next (s : State) : ∃ u, execFieldTaskReady s = .next u := by
  exact ⟨_, rfl⟩

theorem execRepeatTaskReady_next (stage : Nat) (s : State) : ∃ u, execRepeatTaskReady stage s = .next u := by
  exact ⟨_, rfl⟩

theorem execItemTaskReady_next (s : State) : ∃ u, execItemTaskReady s = .next u := by
  exact ⟨_, rfl⟩

theorem execWindowTaskReady_next (stage head : Nat) (s : State) : ∃ u, execWindowTaskReady stage head s = .next u := by
  exact ⟨_, rfl⟩

theorem execEventTask_next (stage : Nat) (s : State) : ∃ u, execEventTask stage s = .next u := by
  exact ⟨_, rfl⟩

theorem execTaskDispatch_next (s : State) : ∃ u, execTaskDispatch s = .next u := by
  exact ⟨_, rfl⟩

theorem execTaskComplete_next (cell : Nat) (bad : List (Nat × Nat × Nat)) (s : State) : ∃ u, execTaskComplete cell s bad = .next u := by
  exact ⟨_, rfl⟩

theorem execTaskWatchdog_next (cell : Nat) (s : State) : ∃ u, execTaskWatchdog cell s = .next u := by
  exact ⟨_, rfl⟩

theorem execCellFault_next (cell code : Nat) (frameStore param corrected : Bool) (s : State) : ∃ u, execCellFault cell code frameStore s param corrected = .next u := by
  unfold execCellFault
  try dsimp only
  repeat' split
  all_goals first | exact ⟨_, rfl⟩ | exact runCmd_next ..

theorem execShedEvaluation_next (busyPercent : Nat) (ages : List Nat) (s : State) : ∃ u, execShedEvaluation busyPercent ages s = .next u := by
  exact ⟨_, rfl⟩

theorem execFrameClockChange_next (frame mhz : Nat) (s : State) : ∃ u, execFrameClockChange frame mhz s = .next u := by
  unfold execFrameClockChange
  try dsimp only
  repeat' split
  all_goals first | exact ⟨_, rfl⟩ | exact runCmd_next ..

theorem execMarkerActivate_next (m : Nat) (s : State) : ∃ u, execMarkerActivate m s = .next u := by
  unfold execMarkerActivate
  try dsimp only
  repeat' split
  all_goals first | exact ⟨_, rfl⟩ | exact runCmd_next ..

theorem execMarkerDeactivate_next (m : Nat) (s : State) : ∃ u, execMarkerDeactivate m s = .next u := by
  unfold execMarkerDeactivate
  try dsimp only
  repeat' split
  all_goals first | exact ⟨_, rfl⟩ | exact runCmd_next ..

theorem execHeadLineTrigger_next (h t : Nat) (bufferError : Bool) (s : State) : ∃ u, execHeadLineTrigger h t s bufferError = .next u := by
  exact ⟨_, rfl⟩

theorem execHeadLineReprepare_next (h t : Nat) (s : State) : ∃ u, execHeadLineReprepare h t s = .next u := by
  unfold execHeadLineReprepare
  try dsimp only
  repeat' split
  all_goals first | exact ⟨_, rfl⟩ | exact runCmd_next ..

theorem execBitmapBurstDone_next (lead itemId row : Nat) (ok : Bool) (s : State) : ∃ u, execBitmapBurstDone lead itemId row ok s = .next u := by
  exact ⟨_, rfl⟩

theorem execHeadGateAssert_next (inp : GateInput) (s : State) : ∃ u, execHeadGateAssert inp s = .next u := by
  unfold execHeadGateAssert
  try dsimp only
  repeat' split
  all_goals first | exact ⟨_, rfl⟩ | exact runCmd_next ..

theorem execHeadGateClear_next (inp : GateInput) (s : State) : ∃ u, execHeadGateClear inp s = .next u := by
  unfold execHeadGateClear
  try dsimp only
  repeat' split
  all_goals first | exact ⟨_, rfl⟩ | exact runCmd_next ..

theorem execGateRearmExpiry_next (h : Nat) (s : State) : ∃ u, execGateRearmExpiry h s = .next u := by
  unfold execGateRearmExpiry
  try dsimp only
  repeat' split
  all_goals first | exact ⟨_, rfl⟩ | exact runCmd_next ..

theorem execHsenSettleExpiry_next (h : Nat) (s : State) : ∃ u, execHsenSettleExpiry h s = .next u := by
  exact ⟨_, rfl⟩

theorem execSpeedEvaluation_next (s : State) : ∃ u, execSpeedEvaluation s = .next u := by
  exact ⟨_, rfl⟩

theorem execSpdHoldExpiry_next (s : State) : ∃ u, execSpdHoldExpiry s = .next u := by
  exact ⟨_, rfl⟩

theorem execAuthResponse_next (h : Nat) (r : ChipReply) (s : State) : ∃ u, execAuthResponse h r s = .next u := by
  exact ⟨_, rfl⟩

theorem execAuthRetryTimeout_next (h : Nat) (s : State) : ∃ u, execAuthRetryTimeout h s = .next u := by
  exact ⟨_, rfl⟩

theorem execUsageWriteDone_next (h : Nat) (r : ChipReply) (s : State) : ∃ u, execUsageWriteDone h r s = .next u := by
  exact ⟨_, rfl⟩

theorem execMonitorOutput_next (ch code : Nat) (eccError : Bool) (s : State) : ∃ u, execMonitorOutput ch code eccError s = .next u := by
  unfold execMonitorOutput
  try dsimp only
  repeat' split
  all_goals first | exact ⟨_, rfl⟩ | exact runCmd_next ..

theorem execPinInputEdge_next (pin : Nat) (level : Bool) (s : State) : ∃ u, execPinInputEdge pin level s = .next u := by
  unfold execPinInputEdge
  try dsimp only
  repeat' split
  all_goals first | exact ⟨_, rfl⟩ | exact runCmd_next ..

theorem execEventDelivery_next (parity : List Nat) (s : State) : ∃ u, execEventDelivery parity s = .next u := by
  exact ⟨_, rfl⟩

theorem execRelayFire_next (r : Nat) (s : State) : ∃ u, execRelayFire r s = .next u := by
  unfold execRelayFire
  try dsimp only
  repeat' split
  all_goals first | exact ⟨_, rfl⟩ | exact runCmd_next ..

theorem execPinOutPulseEnd_next (n : Nat) (s : State) : ∃ u, execPinOutPulseEnd n s = .next u := by
  unfold execPinOutPulseEnd
  try dsimp only
  repeat' split
  all_goals first | exact ⟨_, rfl⟩ | exact runCmd_next ..

theorem execEthFrameRx_next (port : Nat) (f : EthFrame) (s : State) : ∃ u, execEthFrameRx port f s = .next u := by
  unfold execEthFrameRx
  try dsimp only
  repeat' split
  all_goals first | exact ⟨_, rfl⟩ | exact runCmd_next ..

theorem execMacAgeing_next (mac : Nat) (eccError : Bool) (s : State) : ∃ u, execMacAgeing mac s eccError = .next u := by
  exact ⟨_, rfl⟩

theorem execPtpSync_next (port : Nat) (masterNs : Int) (fromMaster : Nat) (udp : Bool) (s : State) : ∃ u, execPtpSync port masterNs fromMaster s udp = .next u := by
  unfold execPtpSync
  try dsimp only
  repeat' split
  all_goals first | exact ⟨_, rfl⟩ | exact runCmd_next ..

theorem execPtpAnnounceTimeout_next (arrival : Bool) (s : State) : ∃ u, execPtpAnnounceTimeout s arrival = .next u := by
  unfold execPtpAnnounceTimeout
  try dsimp only
  repeat' split
  all_goals first | exact ⟨_, rfl⟩ | exact runCmd_next ..

theorem execHello_next (srcAddr pmajor pminor len hifVersion : Nat) (reply : Bool) (s : State) : ∃ u, execHello srcAddr pmajor pminor len hifVersion reply s = .next u := by
  unfold execHello
  try dsimp only
  repeat' split
  all_goals first | exact ⟨_, rfl⟩ | exact runCmd_next ..

theorem execHelloTimer_next (s : State) : ∃ u, execHelloTimer s = .next u := by
  unfold execHelloTimer
  try dsimp only
  repeat' split
  all_goals first | exact ⟨_, rfl⟩ | exact runCmd_next ..

theorem execBulk_next (srcAddr srcPort handle kind offset : Nat) (data : List Byte) (pmajor : Nat) (short : Bool) (s : State) : ∃ u, execBulk srcAddr srcPort handle kind offset data s pmajor short = .next u := by
  unfold execBulk
  try dsimp only
  repeat' split
  all_goals first | exact ⟨_, rfl⟩ | exact runCmd_next ..

theorem execSpdRefreshTimer_next (s : State) : ∃ u, execSpdRefreshTimer s = .next u := by
  unfold execSpdRefreshTimer
  try dsimp only
  repeat' split
  all_goals first | exact ⟨_, rfl⟩ | exact runCmd_next ..

theorem execLinkTrainRetry_next (s : State) : ∃ u, execLinkTrainRetry s = .next u := by
  exact ⟨_, rfl⟩

theorem execTrain_next (version role goodMask chipId : Nat) (ownGoodMask rttNs stamp : Nat) (s : State) : ∃ u, execTrain version role goodMask chipId ownGoodMask rttNs stamp s = .next u := by
  unfold execTrain
  try dsimp only
  repeat' split
  all_goals first | exact ⟨_, rfl⟩ | exact runCmd_next ..

theorem execLinkDown_next (s : State) : ∃ u, execLinkDown s = .next u := by
  exact ⟨_, rfl⟩

theorem execPairinfo_next (epoch width pitch posPitch : Nat) (s : State) : ∃ u, execPairinfo epoch width pitch s posPitch = .next u := by
  exact ⟨_, rfl⟩

theorem execViaductMbx_next (response : Bool) (words : List Nat) (s : State) : ∃ u, execViaductMbx response words s = .next u := by
  unfold execViaductMbx
  try dsimp only
  repeat' split
  all_goals first | exact ⟨_, rfl⟩ | exact runCmd_next ..

theorem execLanes_next (mask firstSeq : Nat) (s : State) : ∃ u, execLanes mask firstSeq s = .next u := by
  unfold execLanes
  try dsimp only
  repeat' split
  all_goals first | exact ⟨_, rfl⟩ | exact runCmd_next ..

theorem execPosSendTimer_next (s : State) : ∃ u, execPosSendTimer s = .next u := by
  exact ⟨_, rfl⟩

theorem execPos_next (h : Int) (reverse overspeed freerun : Bool) (s : State) : ∃ u, execPos h reverse overspeed freerun s = .next u := by
  unfold execPos
  try dsimp only
  repeat' split
  all_goals first | exact ⟨_, rfl⟩ | exact runCmd_next ..

theorem execLine_next (wln : Nat) (wpos : Int) (epoch time ridx roff : Nat) (notrig : Bool) (s : State) : ∃ u, execLine wln wpos epoch time ridx roff notrig s = .next u := by
  unfold execLine
  try dsimp only
  repeat' split
  all_goals first | exact ⟨_, rfl⟩ | exact runCmd_next ..

theorem execSeam_next (wln epoch state label : Nat) (merge : Bool) (s : State) : ∃ u, execSeam wln epoch state label s merge = .next u := by
  exact ⟨_, rfl⟩

theorem execPart_next (d : Descriptor) (label : Nat) (s : State) : ∃ u, execPart d label s = .next u := by
  unfold execPart
  try dsimp only
  repeat' split
  all_goals first | exact ⟨_, rfl⟩ | exact runCmd_next ..

theorem execCut_next (label wln : Nat) (s : State) : ∃ u, execCut label wln s = .next u := by
  exact ⟨_, rfl⟩

theorem execSeamTimeout_next (wln : Nat) (s : State) : ∃ u, execSeamTimeout wln s = .next u := by
  unfold execSeamTimeout
  try dsimp only
  repeat' split
  all_goals first | exact ⟨_, rfl⟩ | exact runCmd_next ..

theorem execReplayRequest_next (lane : Option Nat) (code first : Nat) (peer : Bool) (s : State) : ∃ u, execReplayRequest lane code s first peer = .next u := by
  unfold execReplayRequest
  try dsimp only
  repeat' split
  all_goals first | exact ⟨_, rfl⟩ | exact runCmd_next ..

theorem execDramRefreshDue_next (rank : Nat) (wait12 wait3 : Bool) (ahead : Nat) (s : State) : ∃ u, execDramRefreshDue rank s wait12 wait3 ahead = .next u := by
  unfold execDramRefreshDue
  try dsimp only
  repeat' split
  all_goals first | exact ⟨_, rfl⟩ | exact runCmd_next ..

theorem execMr4Read_next (codes : List Nat) (s : State) : ∃ u, execMr4Read codes s = .next u := by
  exact ⟨_, rfl⟩

theorem execDqsTracking_next (s : State) : ∃ u, execDqsTracking s = .next u := by
  exact ⟨_, rfl⟩

theorem execEccScrub_next (corrected : List Nat) (uncorrectable : List Nat) (s : State) : ∃ u, execEccScrub corrected uncorrectable s = .next u := by
  unfold execEccScrub
  try dsimp only
  repeat' split
  all_goals first | exact ⟨_, rfl⟩ | exact runCmd_next ..

theorem execSetPointChange_next (sp : Nat) (s : State) : ∃ u, execSetPointChange sp s = .next u := by
  unfold execSetPointChange
  try dsimp only
  repeat' split
  all_goals first | exact ⟨_, rfl⟩ | exact runCmd_next ..

theorem execStandbySelfRefresh_next (s : State) : ∃ u, execStandbySelfRefresh s = .next u := by
  unfold execStandbySelfRefresh
  try dsimp only
  repeat' split
  all_goals first | exact ⟨_, rfl⟩ | exact runCmd_next ..

theorem execAxisVelocityUpdate_next (a : Nat) (s : State) : ∃ u, execAxisVelocityUpdate a s = .next u := by
  unfold execAxisVelocityUpdate
  try dsimp only
  repeat' split
  all_goals first | exact ⟨_, rfl⟩ | exact runCmd_next ..

theorem execAxisStep_next (a : Nat) (s : State) : ∃ u, execAxisStep a s = .next u := by
  unfold execAxisStep
  try dsimp only
  repeat' split
  all_goals first | exact ⟨_, rfl⟩ | exact runCmd_next ..

theorem execHomeInputChange_next (a : Nat) (level : Bool) (s : State) : ∃ u, execHomeInputChange a level s = .next u := by
  unfold execHomeInputChange
  try dsimp only
  repeat' split
  all_goals first | exact ⟨_, rfl⟩ | exact runCmd_next ..

theorem execVinUvloRising_next (s : State) : ∃ u, execVinUvloRising s = .next u := by
  exact ⟨_, rfl⟩

theorem execVinUvloFalling_next (s : State) : ∃ u, execVinUvloFalling s = .next u := by
  unfold execVinUvloFalling
  try dsimp only
  repeat' split
  all_goals first | exact ⟨_, rfl⟩ | exact runCmd_next ..

theorem execBrownout_next (lowestMv : Nat) (s : State) : ∃ u, execBrownout lowestMv s = .next u := by
  unfold execBrownout
  try dsimp only
  repeat' split
  all_goals first | exact ⟨_, rfl⟩ | exact runCmd_next ..

theorem execBrownoutRelease_next (s : State) : ∃ u, execBrownoutRelease s = .next u := by
  unfold execBrownoutRelease
  try dsimp only
  repeat' split
  all_goals first | exact ⟨_, rfl⟩ | exact runCmd_next ..

theorem execPorstN_next (s : State) : ∃ u, execPorstN s = .next u := by
  exact ⟨_, rfl⟩

theorem execBootLoadDone_next (records : List BootRecord) (images : List FwImage) (profile : List Byte) (s : State) : ∃ u, execBootLoadDone records images profile s = .next u := by
  unfold execBootLoadDone
  try dsimp only
  repeat' split
  all_goals first | exact ⟨_, rfl⟩ | exact runCmd_next ..

theorem execTempEvaluation_next (sensors : List Int) (s : State) : ∃ u, execTempEvaluation sensors s = .next u := by
  unfold execTempEvaluation
  try dsimp only
  repeat' split
  all_goals first | exact ⟨_, rfl⟩ | exact runCmd_next ..

theorem execThermal_next (s : State) : ∃ u, execThermal s = .next u := by
  unfold execThermal
  try dsimp only
  repeat' split
  all_goals first | exact ⟨_, rfl⟩ | exact runCmd_next ..

theorem execKeeperWatchdogExpiry_next (s : State) : ∃ u, execKeeperWatchdogExpiry s = .next u := by
  unfold execKeeperWatchdogExpiry
  try dsimp only
  repeat' split
  all_goals first | exact ⟨_, rfl⟩ | exact runCmd_next ..

theorem execPllLossOfLock_next (islands : List Nat) (s : State) : ∃ u, execPllLossOfLock islands s = .next u := by
  unfold execPllLossOfLock
  try dsimp only
  repeat' split
  all_goals first | exact ⟨_, rfl⟩ | exact runCmd_next ..

theorem execHeartbeat_next (s : State) : ∃ u, execHeartbeat s = .next u := by
  exact ⟨_, rfl⟩

theorem execPerstRelease_next (s : State) : ∃ u, execPerstRelease s = .next u := by
  exact ⟨_, rfl⟩

theorem execPcieLinkUp_next (s : State) : ∃ u, execPcieLinkUp s = .next u := by
  unfold execPcieLinkUp
  try dsimp only
  repeat' split
  all_goals first | exact ⟨_, rfl⟩ | exact runCmd_next ..

theorem execEthLinkChange_next (port : Nat) (up : Bool) (s : State) : ∃ u, execEthLinkChange port up s = .next u := by
  exact ⟨_, rfl⟩

theorem execCalTableReadDone_next (s : State) : ∃ u, execCalTableReadDone s = .next u := by
  unfold execCalTableReadDone
  try dsimp only
  repeat' split
  all_goals first | exact ⟨_, rfl⟩ | exact runCmd_next ..

theorem execStationSwitch_next (m : Nat) (s : State) : ∃ u, execStationSwitch m s = .next u := by
  unfold execStationSwitch
  try dsimp only
  repeat' split
  all_goals first | exact ⟨_, rfl⟩ | exact runCmd_next ..

theorem execPtpSyncSend_next (s : State) : ∃ u, execPtpSyncSend s = .next u := by
  exact ⟨_, rfl⟩

theorem execPtpDelayReqSend_next (s : State) : ∃ u, execPtpDelayReqSend s = .next u := by
  exact ⟨_, rfl⟩

end Sys2Proof.Machine
end

