-- ==== Sys2Proof/Laws/Ops.lean ====
section
/-! SUPPORT. What the shared operations do, said once: running a Zaster command, completing one, raising an interrupt cause, updating one entry of a list
of units, and reading a part of the state through an operation that keeps it. -/

namespace Sys2Proof.Machine
theorem run_ok {code : Nat} {q : Req} {modes : ModeSet} {urgent : Bool} {refuse : Option Reply} {e : State × Reply} {s : State}
   (h : Allowed q s modes urgent) (hr : refuse = none) :
   runCmd code q modes urgent refuse e s = .next ((if usesDram code then e.1.wakeDram else e.1).respond code q e.2) := by
  subst hr
  have : admission s q modes urgent = none := by
    obtain ⟨h1, h2, h3⟩ := h
    simp only [admission, h1, Bool.not_true, Bool.false_eq_true, if_false]
    by_cases hm : q.mbx = 1
    · simp [hm, h2 hm, h3]
    · simp [hm, h3]
  simp [runCmd, this]
theorem adm_none {q : Req} {modes : ModeSet} {urgent : Bool} {s : State}
   (h : Allowed q s modes urgent) : admission s q modes urgent = none := by
    obtain ⟨h1, h2, h3⟩ := h
    simp only [admission, h1, Bool.not_true, Bool.false_eq_true, if_false]
    by_cases hm : q.mbx = 1
    · simp [hm, h2 hm, h3]
    · simp [hm, h3]

theorem sys_of {s t : State} (h : samePart .sys s t) : t.sys = s.sys := (h : s.sys = t.sys).symm
theorem mem_of {s t : State} (h : samePart .mem s t) : t.mem = s.mem := (h : s.mem = t.mem).symm
theorem raise_bit (s : State) (v : Nat) : bitAt (s.raiseIrq v).hif.irqStatus v = true := by
  unfold State.raiseIrq
  split
  · assumption
  · unfold State.sendVector
    have : bitAt (setBit s.hif.irqStatus v) v = true := by
      rename_i h
      unfold setBit; rw [if_neg h]
      simp only [bitAt, decide_eq_true_eq] at h ⊢
      rw [Nat.add_div_right _ (Nat.two_pow_pos v)]; omega
    repeat' split
    all_goals simp [this, State.emit]
theorem getN_map {α β : Type} (f : α → β) (l : List α) (k : Nat) (d : α) : getN (l.map f) k (f d) = f (getN l k d) := by
  induction l generalizing k <;> cases k <;> simp_all [getN]
theorem complete_keeper (s : State) (code : Nat) (st : Status) (d : Nat) :
    (s.completeCode code st d).keeper = { s.keeper with running := s.keeper.running.filter (fun x => !(x.code == code)) } := by
  unfold State.completeCode State.runningCmd
  split
  · rename_i h
    have : s.keeper.running.filter (fun x => !(x.code == code)) = s.keeper.running := by
      rw [List.filter_eq_self]; intro a ha; simpa using List.find?_eq_none.mp h a ha
    rw [this]
  · rename_i r h
    have hr : r.code = code := by have := List.find?_some h; simpa using this
    have key : Keeps (· ≠ .keeper) ({ s with keeper.running := s.keeper.running.filter (fun x => !(x.code == r.code)) } : State) (s.complete r st d) := by
      unfold State.complete
      split
      · exact State.sendPeer_keeps (State.notify_keeps (Keeps.refl _) _ _ _ _) _ _ _ _
      · exact State.notify_keeps (Keeps.refl _) _ _ _ _
    have := key.same .keeper (by simp)
    simp only [samePart] at this
    rw [← this, hr]
theorem complete_keeper' (s : State) (r : Running) (st : Status) (d : Nat) :
    (s.complete r st d).keeper = { s.keeper with running := s.keeper.running.filter (fun x => !(x.code == r.code)) } := by
    have key : Keeps (· ≠ .keeper) ({ s with keeper.running := s.keeper.running.filter (fun x => !(x.code == r.code)) } : State) (s.complete r st d) := by
      unfold State.complete
      split
      · exact State.sendPeer_keeps (State.notify_keeps (Keeps.refl _) _ _ _ _) _ _ _ _
      · exact State.notify_keeps (Keeps.refl _) _ _ _ _
    have := key.same .keeper (by simp)
    simp only [samePart] at this
    rw [← this]
theorem run_false (s : State) (code : Nat) (st : Status) (d : Nat) : (s.completeCode code st d).isRunning code = false := by
  simp [State.isRunning, complete_keeper]
theorem fault_complete (s : State) (code : Nat) (st : Status) (d : Nat) : (s.completeCode code st d).fault = s.fault :=
  ((State.completeCode_keeps (p := (· ≠ .fault)) (Keeps.refl s) code st d).same .fault (by simp) : s.fault = _).symm
theorem fault_complete' (s : State) (r : Running) (st : Status) (d : Nat) : (s.complete r st d).fault = s.fault :=
  ((State.complete_keeps (p := (· ≠ .fault)) (Keeps.refl s) r st d).same .fault (by simp) : s.fault = _).symm
theorem chan_set (f : FaultState) (c : Channel) : (f.setChannel c).channels.find? (fun d => d.block == c.block && d.inst == c.inst) = some c := by
  simp only [FaultState.setChannel, List.find?_append]
  have : (List.filter (fun d => !(d.block == c.block && d.inst == c.inst)) f.channels).find? (fun d => d.block == c.block && d.inst == c.inst) = none := by
    rw [List.find?_eq_none]; intro x hx; have := (List.mem_filter.mp hx).2; simp only [Bool.not_eq_true', Bool.not_eq_true] at this ⊢; exact this
  rw [this]; simp
theorem back_fault (s : State) (b i : Nat) : (s.returnChannel b i).fault = s.fault.setChannel { block := b, inst := i } := by
  unfold State.returnChannel
  exact ((State.faultRecord_keeps (p := (· ≠ .fault)) (Keeps.refl _) _ _ _ _ _ _ _ _).same .fault (by simp) : _ = _).symm
theorem chan_of {s t : State} (h : t.fault = s.fault) (b i : Nat) : t.channel b i = s.channel b i := by unfold State.channel; rw [h]
theorem chan_back (s : State) (b i : Nat) : (s.returnChannel b i).channel b i = { block := b, inst := i } := by
  unfold State.channel; rw [back_fault]
  have := chan_set s.fault { block := b, inst := i }
  simp only at this; rw [this]; rfl

theorem run_plain {code : Nat} {q : Req} {modes : ModeSet} {urgent : Bool} {refuse : Option Reply} {e : State × Reply} {s : State}
   (h : Allowed q s modes urgent) (hr : refuse = none) (hu : usesDram code = false := by rfl) :
   runCmd code q modes urgent refuse e s = .next (e.1.respond code q e.2) := by
  rw [run_ok h hr, hu]; rfl
theorem run_no {code : Nat} {q : Req} {modes : ModeSet} {urgent : Bool} {refuse : Option Reply} {e : State × Reply} {s : State} {r : Reply}
   (h : Allowed q s modes urgent) (hr : refuse = some r) :
   runCmd code q modes urgent refuse e s = .next (s.respond code q r) := by
  subst hr; simp [runCmd, adm_none h]
theorem wb_len (l : List Nat) : (wordsBytes l).length = 4 * l.length := by
  unfold wordsBytes; induction l <;> simp_all [show ∀ n v, (leBytes n v).length = n from fun n v => by induction n generalizing v <;> simp_all [leBytes]]; omega
theorem wk (x : State) : x.wakeDram.keeper = x.keeper ∧ x.wakeDram.mem = x.mem := by unfold State.wakeDram; split <;> simp

theorem setBit_ne {w i v : Nat} (h : i ≠ v) : bitAt (setBit w v) i = bitAt w i := by
  unfold setBit; split
  · rfl
  · rename_i hn
    simp only [bitAt, decide_eq_true_eq] at hn
    have e : (w + 2 ^ v) / 2 ^ i % 2 = w / 2 ^ i % 2 := by
      rcases Nat.lt_or_gt_of_ne h with h | h
      · obtain ⟨d, rfl⟩ := Nat.exists_eq_add_of_lt h
        rw [show 2 ^ (i + d + 1) = 2 ^ i * (2 * 2 ^ d) from by rw [Nat.pow_succ, Nat.pow_add]; ac_rfl, Nat.add_mul_div_left _ _ (Nat.two_pow_pos i)]
        omega
      · obtain ⟨d, rfl⟩ := Nat.exists_eq_add_of_lt h
        rw [show 2 ^ (v + d + 1) = 2 ^ v * (2 * 2 ^ d) from by rw [Nat.pow_succ, Nat.pow_add]; ac_rfl, ← Nat.div_div_eq_div_mul, ← Nat.div_div_eq_div_mul,
          Nat.add_div_right _ (Nat.two_pow_pos v), ← Nat.div_div_eq_div_mul, ← Nat.div_div_eq_div_mul]
        rw [show (w / 2 ^ v).succ / 2 = w / 2 ^ v / 2 from by omega]
    simp only [bitAt, e]
theorem getN_upd {α : Type} (l : List α) (n : Nat) (f : α → α) (d : α) (h : n < l.length) : getN (updAt l n f) n d = f (getN l n d) := by
  simp [getN, updAt, h]
theorem mb_raise (s : State) (v n : Nat) : (s.raiseIrq v).mailbox n = s.mailbox n := by
  have := (State.raiseIrq_keeps (p := (· ≠ .mbx)) (Keeps.refl s) v).same .mbx (by simp)
  simp only [samePart] at this; unfold State.mailbox; rw [← this]
theorem mb_upd (s : State) (n : Nat) (f : Mailbox → Mailbox) (h : n < s.hif.mbx.length) : (s.updMbx n f).mailbox n = f (s.mailbox n) := getN_upd _ _ _ _ h
theorem buf_raise (s : State) (v : Nat) : (s.raiseIrq v).hif.buf = s.hif.buf := by
  unfold State.raiseIrq State.sendVector State.emit; repeat' split
  all_goals rfl
theorem mem_bitsSetFrom : ∀ (k i w j : Nat), j ∈ bitsSetFrom k i w ↔ i ≤ j ∧ j < i + k ∧ bitAt w (j - i) = true
  | 0, i, w, j => by simp [bitsSetFrom]; omega
  | k + 1, i, w, j => by
    unfold bitsSetFrom
    have ih := mem_bitsSetFrom k (i + 1) (w / 2) j
    have hb : ∀ d, bitAt (w / 2) d = bitAt w (d + 1) := by intro d; simp only [bitAt]; rw [Nat.div_div_eq_div_mul, Nat.pow_succ, Nat.mul_comm]
    split
    · rename_i h
      simp only [List.mem_cons, ih, hb]
      constructor
      · rintro (rfl | ⟨a, b, c⟩)
        · simp [bitAt, h]
        · refine ⟨by omega, by omega, ?_⟩; rw [show j - (i+1) + 1 = j - i from by omega] at c; exact c
      · rintro ⟨a, b, c⟩
        by_cases e : j = i
        · exact .inl e
        · right; refine ⟨by omega, by omega, ?_⟩; rw [show j - (i+1) + 1 = j - i from by omega]; exact c
    · rename_i h
      simp only [ih, hb]
      constructor
      · rintro ⟨a, b, c⟩
        refine ⟨by omega, by omega, ?_⟩; rw [show j - (i+1) + 1 = j - i from by omega] at c; exact c
      · rintro ⟨a, b, c⟩
        by_cases e : j = i
        · subst e; simp [bitAt] at c; omega
        · refine ⟨by omega, by omega, ?_⟩; rw [show j - (i+1) + 1 = j - i from by omega]; exact c
theorem bitAt_lsb (v : Word) (i : Nat) : bitAt v.toNat i = v.getLsbD i := by
  simp [bitAt, BitVec.getLsbD, Nat.testBit_eq_decide_div_mod_eq]

theorem mem_natsFrom : ∀ (n i k : Nat), k ∈ natsFrom n i → i ≤ k ∧ k < i + n
  | 0, i, k, h => by simp [natsFrom] at h
  | n + 1, i, k, h => by
    simp only [natsFrom, List.mem_cons] at h
    rcases h with rfl | h
    · omega
    · have := mem_natsFrom n (i + 1) k h; omega
theorem mem_upto {n k : Nat} (h : k ∈ upto n) : k < n := by have := mem_natsFrom _ _ _ h; omega
theorem getN_upd_ne {α : Type} (l : List α) (n j : Nat) (f : α → α) (d : α) (h : j ≠ n) : getN (updAt l n f) j d = getN l j d := by
  simp [getN, updAt, List.getElem?_modify, Ne.symm h]
theorem isr_wake (x : State) (c : Nat) : x.wakeDram.isRunning c = x.isRunning c := by unfold State.wakeDram; split <;> rfl
theorem run_dram {code : Nat} {q : Req} {modes : ModeSet} {urgent : Bool} {refuse : Option Reply} {e : State × Reply} {s : State}
   (h : Allowed q s modes urgent) (hr : refuse = none) (hu : usesDram code = true := by rfl) :
   runCmd code q modes urgent refuse e s = .next (e.1.wakeDram.respond code q e.2) := by
  rw [run_ok h hr, hu]; rfl
end Sys2Proof.Machine
end

