-- ==== Sys2Proof/Laws/Parts.lean ====
section
/-! SUPPORT. Reading each part of the state through `samePart`, and what the print block's shared operations leave. -/

namespace Sys2Proof.Machine
theorem keeper_of {s t : State} (h : samePart .keeper s t) : t.keeper = s.keeper := (h : s.keeper = t.keeper).symm
theorem deck_of {s t : State} (h : samePart .deck s t) : t.deck = s.deck := (h : s.deck = t.deck).symm
theorem profile_of {s t : State} (h : samePart .profile s t) : t.profile = s.profile := (h : s.profile = t.profile).symm
theorem recs_of {s t : State} (h : samePart .recs s t) : t.recs = s.recs := (h : s.recs = t.recs).symm
theorem mark_of {s t : State} (h : samePart .mark s t) : t.mark = s.mark := (h : s.mark = t.mark).symm
theorem trestle_of {s t : State} (h : samePart .trestle s t) : t.trestle = s.trestle := (h : s.trestle = t.trestle).symm
theorem pio_of {s t : State} (h : samePart .pio s t) : t.pio = s.pio := (h : s.pio = t.pio).symm
theorem pos_of {s t : State} (h : samePart .pos s t) : t.pos = s.pos := (h : s.pos = t.pos).symm
theorem intake_of {s t : State} (h : samePart .intake s t) : t.intake = s.intake := (h : s.intake = t.intake).symm
theorem span_of {s t : State} (h : samePart .span s t) : t.span = s.span := (h : s.span = t.span).symm
theorem stats_of {s t : State} (h : samePart .stats s t) : t.stats = s.stats := (h : s.stats = t.stats).symm
theorem cal_of {s t : State} (h : samePart .cal s t) : t.cal = s.cal := (h : s.cal = t.cal).symm
theorem reg_of {s t : State} (h : samePart .reg s t) : t.reg = s.reg := (h : s.reg = t.reg).symm
theorem cmp_of {s t : State} (h : samePart .cmp s t) : t.cmp = s.cmp := (h : s.cmp = t.cmp).symm
theorem seg_of {s t : State} (h : samePart .seg s t) : t.seg = s.seg := (h : s.seg = t.seg).symm
theorem codec_of {s t : State} (h : samePart .codec s t) : t.codec = s.codec := (h : s.codec = t.codec).symm
theorem comb_of {s t : State} (h : samePart .comb s t) : t.comb = s.comb := (h : s.comb = t.comb).symm
theorem print_of {s t : State} (h : samePart .print s t) : t.print = s.print := (h : s.print = t.print).symm
theorem motion_of {s t : State} (h : samePart .motion s t) : t.motion = s.motion := (h : s.motion = t.motion).symm
theorem mon_of {s t : State} (h : samePart .mon s t) : t.mon = s.mon := (h : s.mon = t.mon).symm
theorem vd_of {s t : State} (h : samePart .vd s t) : t.vd = s.vd := (h : s.vd = t.vd).symm
theorem net_of {s t : State} (h : samePart .net s t) : t.net = s.net := (h : s.net = t.net).symm
theorem dram_of {s t : State} (h : samePart .dram s t) : t.dram = s.dram := (h : s.dram = t.dram).symm
theorem dma_of {s t : State} (h : samePart .dma s t) : t.dma = s.dma := (h : s.dma = t.dma).symm
theorem fault_of {s t : State} (h : samePart .fault s t) : t.fault = s.fault := (h : s.fault = t.fault).symm
theorem fuse_of {s t : State} (h : samePart .fuse s t) : t.fuse = s.fuse := (h : s.fuse = t.fuse).symm
theorem fw_of {s t : State} (h : samePart .fw s t) : t.fw = s.fw := (h : s.fw = t.fw).symm
theorem power_of {s t : State} (h : samePart .power s t) : t.power = s.power := (h : s.power = t.power).symm
theorem now_of {s t : State} (h : samePart .now s t) : t.now = s.now := (h : s.now = t.now).symm
theorem free_of {s t : State} (h : samePart .free s t) : t.free = s.free := (h : s.free = t.free).symm
theorem out_of {s t : State} (h : samePart .out s t) : t.out = s.out := (h : s.out = t.out).symm
theorem head_upd (s : State) (c : Nat) (f : Head → Head) (h : c < s.print.head.length) : (s.updHead c f).head c = f (s.head c) := getN_upd _ _ _ _ h
theorem queue_upd (s : State) (c : Nat) (f : ItemQueue → ItemQueue) (h : c < s.print.queue.length) : (s.updQueue c f).queueOf c = f (s.queueOf c) := getN_upd _ _ _ _ h
theorem post_print (s : State) (r : Rec) : (s.post r).print = s.print := print_of ((State.post_keeps (p := (· ≠ .print)) (Keeps.refl s) _).same .print (by simp))
theorem publish_print (s : State) (a : Nat) (b : Int) : (s.publish a b).print = s.print := print_of ((State.publish_keeps (p := (· ≠ .print)) (Keeps.refl s) a b).same .print (by simp))
theorem ev_print (s : State) (h : Nat) (e : OpenEvent) : (s.writeEvent h e).print.head = s.print.head ∧ (s.writeEvent h e).print.queue = s.print.queue := by
  unfold State.writeEvent
  split
  · exact ⟨rfl, rfl⟩
  · extract_lets s1
    have h1 : s1.print = s.print := post_print _ _
    split
    · rw [publish_print, h1]; exact ⟨rfl, rfl⟩
    · rw [h1]; exact ⟨rfl, rfl⟩
theorem entry_print (s : State) (a b : Nat) (c : Int) (d : Nat) : (s.writeEntry a b c d).print.queue = s.print.queue := by
  unfold State.writeEntry; split <;> rfl
theorem lookup_insert {β : Type} (k : Nat) (v : β) : ∀ l : List (Nat × β), lookupN k (insertN k v l) = some v
  | [] => by simp [insertN, lookupN]
  | (j, w) :: r => by
    unfold insertN; split
    · simp [lookupN]
    · rename_i h; simp [lookupN, h, lookup_insert k v r]
theorem lookup_erase {β : Type} (k : Nat) : ∀ l : List (Nat × β), lookupN k (eraseN k l) = none
  | [] => by simp [eraseN, lookupN]
  | (j, w) :: r => by
    have ih := lookup_erase k r
    unfold eraseN at *
    by_cases h : j = k
    · simp [List.filter_cons, h, ih]
    · simp [List.filter_cons, h, ih, lookupN]
theorem lookup_erase_ne {β : Type} (k e : Nat) (he : e ≠ k) : ∀ l : List (Nat × β), lookupN e (eraseN k l) = lookupN e l
  | [] => by simp [eraseN, lookupN]
  | (j, w) :: r => by
    have ih := lookup_erase_ne k e he r
    unfold eraseN at *
    by_cases h : j = k
    · simp [List.filter_cons, h, ih, lookupN, show ¬ k = e from fun x => he x.symm]
    · simp [List.filter_cons, h, ih, lookupN]
theorem set_elem (s : State) (h e st : Nat) (a : Option (Nat × Nat)) (hl : h < s.print.head.length) :
    ((s.setElem h e st a).head h).elems = if st = 0 then eraseN e (s.head h).elems else insertN e st (s.head h).elems := by
  unfold State.setElem; rw [head_upd _ _ _ hl]; cases a <;> rfl
theorem st_head (s : State) (c : Nat) (q : Req) (l : List Nat) (h : Nat) : (s.start c q l).head h = s.head h := rfl
theorem em_head (s : State) (o : Out) (h : Nat) : (s.emit o).head h = s.head h := rfl
theorem em_print (s : State) (o : Out) : (s.emit o).print = s.print := rfl
theorem dr_head (s : State) (h : Nat) : s.drawn.head h = s.head h := rfl
theorem dr_print (s : State) : s.drawn.print = s.print := rfl
theorem isr_start (s : State) (c : Nat) (q : Req) (l : List Nat) : (s.start c q l).isRunning c = true := by simp [State.start, State.isRunning]
theorem cam_upd (s : State) (c : Nat) (f : Camera → Camera) (h : c < s.intake.cam.length) : (s.updCam c f).cam c = f (s.cam c) := getN_upd _ _ _ _ h
theorem mem_insert (ch : Change) : ∀ l : List Change, ch ∈ insertChange ch l
  | [] => by simp [insertChange]
  | x :: r => by
    unfold insertChange; split
    · simp
    · exact List.mem_cons_of_mem _ (mem_insert ch r)
end Sys2Proof.Machine
end

