-- ==== Sys2Proof/Laws/State.lean ====
section
/-! SUPPORT. One lemma per field of the state for each of the plain updates: the field that the update changes, and the fields it leaves. -/

namespace Sys2Proof.Machine

/-! `State.write`. -/

@[simp] theorem State.write_mem (s : State) (a : Nat) (bs : List Byte) : (s.write a bs).mem = memWrite s.mem a bs := rfl
@[simp] theorem State.write_sys (s : State) (a : Nat) (bs : List Byte) : (s.write a bs).sys = s.sys := rfl
@[simp] theorem State.write_hif (s : State) (a : Nat) (bs : List Byte) : (s.write a bs).hif = s.hif := rfl
@[simp] theorem State.write_keeper (s : State) (a : Nat) (bs : List Byte) : (s.write a bs).keeper = s.keeper := rfl
@[simp] theorem State.write_deck (s : State) (a : Nat) (bs : List Byte) : (s.write a bs).deck = s.deck := rfl
@[simp] theorem State.write_profile (s : State) (a : Nat) (bs : List Byte) : (s.write a bs).profile = s.profile := rfl
@[simp] theorem State.write_recs (s : State) (a : Nat) (bs : List Byte) : (s.write a bs).recs = s.recs := rfl
@[simp] theorem State.write_mark (s : State) (a : Nat) (bs : List Byte) : (s.write a bs).mark = s.mark := rfl
@[simp] theorem State.write_trestle (s : State) (a : Nat) (bs : List Byte) : (s.write a bs).trestle = s.trestle := rfl
@[simp] theorem State.write_pio (s : State) (a : Nat) (bs : List Byte) : (s.write a bs).pio = s.pio := rfl
@[simp] theorem State.write_pos (s : State) (a : Nat) (bs : List Byte) : (s.write a bs).pos = s.pos := rfl
@[simp] theorem State.write_intake (s : State) (a : Nat) (bs : List Byte) : (s.write a bs).intake = s.intake := rfl
@[simp] theorem State.write_span (s : State) (a : Nat) (bs : List Byte) : (s.write a bs).span = s.span := rfl
@[simp] theorem State.write_stats (s : State) (a : Nat) (bs : List Byte) : (s.write a bs).stats = s.stats := rfl
@[simp] theorem State.write_cal (s : State) (a : Nat) (bs : List Byte) : (s.write a bs).cal = s.cal := rfl
@[simp] theorem State.write_reg (s : State) (a : Nat) (bs : List Byte) : (s.write a bs).reg = s.reg := rfl
@[simp] theorem State.write_cmp (s : State) (a : Nat) (bs : List Byte) : (s.write a bs).cmp = s.cmp := rfl
@[simp] theorem State.write_seg (s : State) (a : Nat) (bs : List Byte) : (s.write a bs).seg = s.seg := rfl
@[simp] theorem State.write_codec (s : State) (a : Nat) (bs : List Byte) : (s.write a bs).codec = s.codec := rfl
@[simp] theorem State.write_comb (s : State) (a : Nat) (bs : List Byte) : (s.write a bs).comb = s.comb := rfl
@[simp] theorem State.write_print (s : State) (a : Nat) (bs : List Byte) : (s.write a bs).print = s.print := rfl
@[simp] theorem State.write_motion (s : State) (a : Nat) (bs : List Byte) : (s.write a bs).motion = s.motion := rfl
@[simp] theorem State.write_mon (s : State) (a : Nat) (bs : List Byte) : (s.write a bs).mon = s.mon := rfl
@[simp] theorem State.write_vd (s : State) (a : Nat) (bs : List Byte) : (s.write a bs).vd = s.vd := rfl
@[simp] theorem State.write_net (s : State) (a : Nat) (bs : List Byte) : (s.write a bs).net = s.net := rfl
@[simp] theorem State.write_dram (s : State) (a : Nat) (bs : List Byte) : (s.write a bs).dram = s.dram := rfl
@[simp] theorem State.write_dma (s : State) (a : Nat) (bs : List Byte) : (s.write a bs).dma = s.dma := rfl
@[simp] theorem State.write_fault (s : State) (a : Nat) (bs : List Byte) : (s.write a bs).fault = s.fault := rfl
@[simp] theorem State.write_fuse (s : State) (a : Nat) (bs : List Byte) : (s.write a bs).fuse = s.fuse := rfl
@[simp] theorem State.write_fw (s : State) (a : Nat) (bs : List Byte) : (s.write a bs).fw = s.fw := rfl
@[simp] theorem State.write_power (s : State) (a : Nat) (bs : List Byte) : (s.write a bs).power = s.power := rfl
@[simp] theorem State.write_part (s : State) (a : Nat) (bs : List Byte) : (s.write a bs).part = s.part := rfl
@[simp] theorem State.write_vdRole (s : State) (a : Nat) (bs : List Byte) : (s.write a bs).vdRole = s.vdRole := rfl
@[simp] theorem State.write_bistFullStrap (s : State) (a : Nat) (bs : List Byte) : (s.write a bs).bistFullStrap = s.bistFullStrap := rfl
@[simp] theorem State.write_now (s : State) (a : Nat) (bs : List Byte) : (s.write a bs).now = s.now := rfl
@[simp] theorem State.write_free (s : State) (a : Nat) (bs : List Byte) : (s.write a bs).free = s.free := rfl
@[simp] theorem State.write_out (s : State) (a : Nat) (bs : List Byte) : (s.write a bs).out = s.out := rfl
@[simp] theorem State.write_pending (s : State) (a : Nat) (bs : List Byte) : (s.write a bs).pending = s.pending := rfl

/-! `State.clear`. -/

@[simp] theorem State.clear_mem (s : State) (a n : Nat) : (s.clear a n).mem = memClear s.mem a n := rfl
@[simp] theorem State.clear_sys (s : State) (a n : Nat) : (s.clear a n).sys = s.sys := rfl
@[simp] theorem State.clear_hif (s : State) (a n : Nat) : (s.clear a n).hif = s.hif := rfl
@[simp] theorem State.clear_keeper (s : State) (a n : Nat) : (s.clear a n).keeper = s.keeper := rfl
@[simp] theorem State.clear_deck (s : State) (a n : Nat) : (s.clear a n).deck = s.deck := rfl
@[simp] theorem State.clear_profile (s : State) (a n : Nat) : (s.clear a n).profile = s.profile := rfl
@[simp] theorem State.clear_recs (s : State) (a n : Nat) : (s.clear a n).recs = s.recs := rfl
@[simp] theorem State.clear_mark (s : State) (a n : Nat) : (s.clear a n).mark = s.mark := rfl
@[simp] theorem State.clear_trestle (s : State) (a n : Nat) : (s.clear a n).trestle = s.trestle := rfl
@[simp] theorem State.clear_pio (s : State) (a n : Nat) : (s.clear a n).pio = s.pio := rfl
@[simp] theorem State.clear_pos (s : State) (a n : Nat) : (s.clear a n).pos = s.pos := rfl
@[simp] theorem State.clear_intake (s : State) (a n : Nat) : (s.clear a n).intake = s.intake := rfl
@[simp] theorem State.clear_span (s : State) (a n : Nat) : (s.clear a n).span = s.span := rfl
@[simp] theorem State.clear_stats (s : State) (a n : Nat) : (s.clear a n).stats = s.stats := rfl
@[simp] theorem State.clear_cal (s : State) (a n : Nat) : (s.clear a n).cal = s.cal := rfl
@[simp] theorem State.clear_reg (s : State) (a n : Nat) : (s.clear a n).reg = s.reg := rfl
@[simp] theorem State.clear_cmp (s : State) (a n : Nat) : (s.clear a n).cmp = s.cmp := rfl
@[simp] theorem State.clear_seg (s : State) (a n : Nat) : (s.clear a n).seg = s.seg := rfl
@[simp] theorem State.clear_codec (s : State) (a n : Nat) : (s.clear a n).codec = s.codec := rfl
@[simp] theorem State.clear_comb (s : State) (a n : Nat) : (s.clear a n).comb = s.comb := rfl
@[simp] theorem State.clear_print (s : State) (a n : Nat) : (s.clear a n).print = s.print := rfl
@[simp] theorem State.clear_motion (s : State) (a n : Nat) : (s.clear a n).motion = s.motion := rfl
@[simp] theorem State.clear_mon (s : State) (a n : Nat) : (s.clear a n).mon = s.mon := rfl
@[simp] theorem State.clear_vd (s : State) (a n : Nat) : (s.clear a n).vd = s.vd := rfl
@[simp] theorem State.clear_net (s : State) (a n : Nat) : (s.clear a n).net = s.net := rfl
@[simp] theorem State.clear_dram (s : State) (a n : Nat) : (s.clear a n).dram = s.dram := rfl
@[simp] theorem State.clear_dma (s : State) (a n : Nat) : (s.clear a n).dma = s.dma := rfl
@[simp] theorem State.clear_fault (s : State) (a n : Nat) : (s.clear a n).fault = s.fault := rfl
@[simp] theorem State.clear_fuse (s : State) (a n : Nat) : (s.clear a n).fuse = s.fuse := rfl
@[simp] theorem State.clear_fw (s : State) (a n : Nat) : (s.clear a n).fw = s.fw := rfl
@[simp] theorem State.clear_power (s : State) (a n : Nat) : (s.clear a n).power = s.power := rfl
@[simp] theorem State.clear_part (s : State) (a n : Nat) : (s.clear a n).part = s.part := rfl
@[simp] theorem State.clear_vdRole (s : State) (a n : Nat) : (s.clear a n).vdRole = s.vdRole := rfl
@[simp] theorem State.clear_bistFullStrap (s : State) (a n : Nat) : (s.clear a n).bistFullStrap = s.bistFullStrap := rfl
@[simp] theorem State.clear_now (s : State) (a n : Nat) : (s.clear a n).now = s.now := rfl
@[simp] theorem State.clear_free (s : State) (a n : Nat) : (s.clear a n).free = s.free := rfl
@[simp] theorem State.clear_out (s : State) (a n : Nat) : (s.clear a n).out = s.out := rfl
@[simp] theorem State.clear_pending (s : State) (a n : Nat) : (s.clear a n).pending = s.pending := rfl

/-! `State.drawn`. -/

@[simp] theorem State.drawn_mem (s : State) : (s.drawn).mem = s.mem := rfl
@[simp] theorem State.drawn_sys (s : State) : (s.drawn).sys = s.sys := rfl
@[simp] theorem State.drawn_hif (s : State) : (s.drawn).hif = s.hif := rfl
@[simp] theorem State.drawn_keeper (s : State) : (s.drawn).keeper = s.keeper := rfl
@[simp] theorem State.drawn_deck (s : State) : (s.drawn).deck = s.deck := rfl
@[simp] theorem State.drawn_profile (s : State) : (s.drawn).profile = s.profile := rfl
@[simp] theorem State.drawn_recs (s : State) : (s.drawn).recs = s.recs := rfl
@[simp] theorem State.drawn_mark (s : State) : (s.drawn).mark = s.mark := rfl
@[simp] theorem State.drawn_trestle (s : State) : (s.drawn).trestle = s.trestle := rfl
@[simp] theorem State.drawn_pio (s : State) : (s.drawn).pio = s.pio := rfl
@[simp] theorem State.drawn_pos (s : State) : (s.drawn).pos = s.pos := rfl
@[simp] theorem State.drawn_intake (s : State) : (s.drawn).intake = s.intake := rfl
@[simp] theorem State.drawn_span (s : State) : (s.drawn).span = s.span := rfl
@[simp] theorem State.drawn_stats (s : State) : (s.drawn).stats = s.stats := rfl
@[simp] theorem State.drawn_cal (s : State) : (s.drawn).cal = s.cal := rfl
@[simp] theorem State.drawn_reg (s : State) : (s.drawn).reg = s.reg := rfl
@[simp] theorem State.drawn_cmp (s : State) : (s.drawn).cmp = s.cmp := rfl
@[simp] theorem State.drawn_seg (s : State) : (s.drawn).seg = s.seg := rfl
@[simp] theorem State.drawn_codec (s : State) : (s.drawn).codec = s.codec := rfl
@[simp] theorem State.drawn_comb (s : State) : (s.drawn).comb = s.comb := rfl
@[simp] theorem State.drawn_print (s : State) : (s.drawn).print = s.print := rfl
@[simp] theorem State.drawn_motion (s : State) : (s.drawn).motion = s.motion := rfl
@[simp] theorem State.drawn_mon (s : State) : (s.drawn).mon = s.mon := rfl
@[simp] theorem State.drawn_vd (s : State) : (s.drawn).vd = s.vd := rfl
@[simp] theorem State.drawn_net (s : State) : (s.drawn).net = s.net := rfl
@[simp] theorem State.drawn_dram (s : State) : (s.drawn).dram = s.dram := rfl
@[simp] theorem State.drawn_dma (s : State) : (s.drawn).dma = s.dma := rfl
@[simp] theorem State.drawn_fault (s : State) : (s.drawn).fault = s.fault := rfl
@[simp] theorem State.drawn_fuse (s : State) : (s.drawn).fuse = s.fuse := rfl
@[simp] theorem State.drawn_fw (s : State) : (s.drawn).fw = s.fw := rfl
@[simp] theorem State.drawn_power (s : State) : (s.drawn).power = s.power := rfl
@[simp] theorem State.drawn_part (s : State) : (s.drawn).part = s.part := rfl
@[simp] theorem State.drawn_vdRole (s : State) : (s.drawn).vdRole = s.vdRole := rfl
@[simp] theorem State.drawn_bistFullStrap (s : State) : (s.drawn).bistFullStrap = s.bistFullStrap := rfl
@[simp] theorem State.drawn_now (s : State) : (s.drawn).now = s.now := rfl
@[simp] theorem State.drawn_free (s : State) : (s.drawn).free = s.free + 1 := rfl
@[simp] theorem State.drawn_out (s : State) : (s.drawn).out = s.out := rfl
@[simp] theorem State.drawn_pending (s : State) : (s.drawn).pending = s.pending := rfl

/-! `State.emit`. -/

@[simp] theorem State.emit_mem (s : State) (o : Out) : (s.emit o).mem = s.mem := rfl
@[simp] theorem State.emit_sys (s : State) (o : Out) : (s.emit o).sys = s.sys := rfl
@[simp] theorem State.emit_hif (s : State) (o : Out) : (s.emit o).hif = s.hif := rfl
@[simp] theorem State.emit_keeper (s : State) (o : Out) : (s.emit o).keeper = s.keeper := rfl
@[simp] theorem State.emit_deck (s : State) (o : Out) : (s.emit o).deck = s.deck := rfl
@[simp] theorem State.emit_profile (s : State) (o : Out) : (s.emit o).profile = s.profile := rfl
@[simp] theorem State.emit_recs (s : State) (o : Out) : (s.emit o).recs = s.recs := rfl
@[simp] theorem State.emit_mark (s : State) (o : Out) : (s.emit o).mark = s.mark := rfl
@[simp] theorem State.emit_trestle (s : State) (o : Out) : (s.emit o).trestle = s.trestle := rfl
@[simp] theorem State.emit_pio (s : State) (o : Out) : (s.emit o).pio = s.pio := rfl
@[simp] theorem State.emit_pos (s : State) (o : Out) : (s.emit o).pos = s.pos := rfl
@[simp] theorem State.emit_intake (s : State) (o : Out) : (s.emit o).intake = s.intake := rfl
@[simp] theorem State.emit_span (s : State) (o : Out) : (s.emit o).span = s.span := rfl
@[simp] theorem State.emit_stats (s : State) (o : Out) : (s.emit o).stats = s.stats := rfl
@[simp] theorem State.emit_cal (s : State) (o : Out) : (s.emit o).cal = s.cal := rfl
@[simp] theorem State.emit_reg (s : State) (o : Out) : (s.emit o).reg = s.reg := rfl
@[simp] theorem State.emit_cmp (s : State) (o : Out) : (s.emit o).cmp = s.cmp := rfl
@[simp] theorem State.emit_seg (s : State) (o : Out) : (s.emit o).seg = s.seg := rfl
@[simp] theorem State.emit_codec (s : State) (o : Out) : (s.emit o).codec = s.codec := rfl
@[simp] theorem State.emit_comb (s : State) (o : Out) : (s.emit o).comb = s.comb := rfl
@[simp] theorem State.emit_print (s : State) (o : Out) : (s.emit o).print = s.print := rfl
@[simp] theorem State.emit_motion (s : State) (o : Out) : (s.emit o).motion = s.motion := rfl
@[simp] theorem State.emit_mon (s : State) (o : Out) : (s.emit o).mon = s.mon := rfl
@[simp] theorem State.emit_vd (s : State) (o : Out) : (s.emit o).vd = s.vd := rfl
@[simp] theorem State.emit_net (s : State) (o : Out) : (s.emit o).net = s.net := rfl
@[simp] theorem State.emit_dram (s : State) (o : Out) : (s.emit o).dram = s.dram := rfl
@[simp] theorem State.emit_dma (s : State) (o : Out) : (s.emit o).dma = s.dma := rfl
@[simp] theorem State.emit_fault (s : State) (o : Out) : (s.emit o).fault = s.fault := rfl
@[simp] theorem State.emit_fuse (s : State) (o : Out) : (s.emit o).fuse = s.fuse := rfl
@[simp] theorem State.emit_fw (s : State) (o : Out) : (s.emit o).fw = s.fw := rfl
@[simp] theorem State.emit_power (s : State) (o : Out) : (s.emit o).power = s.power := rfl
@[simp] theorem State.emit_part (s : State) (o : Out) : (s.emit o).part = s.part := rfl
@[simp] theorem State.emit_vdRole (s : State) (o : Out) : (s.emit o).vdRole = s.vdRole := rfl
@[simp] theorem State.emit_bistFullStrap (s : State) (o : Out) : (s.emit o).bistFullStrap = s.bistFullStrap := rfl
@[simp] theorem State.emit_now (s : State) (o : Out) : (s.emit o).now = s.now := rfl
@[simp] theorem State.emit_free (s : State) (o : Out) : (s.emit o).free = s.free := rfl
@[simp] theorem State.emit_out (s : State) (o : Out) : (s.emit o).out = s.out ++ [o] := rfl
@[simp] theorem State.emit_pending (s : State) (o : Out) : (s.emit o).pending = s.pending := rfl

/-! `State.updRing`. -/

@[simp] theorem State.updRing_mem (s : State) (k : Nat) (f : Ring → Ring) : (s.updRing k f).mem = s.mem := rfl
@[simp] theorem State.updRing_sys (s : State) (k : Nat) (f : Ring → Ring) : (s.updRing k f).sys = s.sys := rfl
@[simp] theorem State.updRing_hif (s : State) (k : Nat) (f : Ring → Ring) : (s.updRing k f).hif = s.hif := rfl
@[simp] theorem State.updRing_keeper (s : State) (k : Nat) (f : Ring → Ring) : (s.updRing k f).keeper = s.keeper := rfl
@[simp] theorem State.updRing_deck (s : State) (k : Nat) (f : Ring → Ring) : (s.updRing k f).deck = s.deck := rfl
@[simp] theorem State.updRing_profile (s : State) (k : Nat) (f : Ring → Ring) : (s.updRing k f).profile = s.profile := rfl
@[simp] theorem State.updRing_recs (s : State) (k : Nat) (f : Ring → Ring) : (s.updRing k f).recs = { s.recs with rings := updAt s.recs.rings k f } := rfl
@[simp] theorem State.updRing_mark (s : State) (k : Nat) (f : Ring → Ring) : (s.updRing k f).mark = s.mark := rfl
@[simp] theorem State.updRing_trestle (s : State) (k : Nat) (f : Ring → Ring) : (s.updRing k f).trestle = s.trestle := rfl
@[simp] theorem State.updRing_pio (s : State) (k : Nat) (f : Ring → Ring) : (s.updRing k f).pio = s.pio := rfl
@[simp] theorem State.updRing_pos (s : State) (k : Nat) (f : Ring → Ring) : (s.updRing k f).pos = s.pos := rfl
@[simp] theorem State.updRing_intake (s : State) (k : Nat) (f : Ring → Ring) : (s.updRing k f).intake = s.intake := rfl
@[simp] theorem State.updRing_span (s : State) (k : Nat) (f : Ring → Ring) : (s.updRing k f).span = s.span := rfl
@[simp] theorem State.updRing_stats (s : State) (k : Nat) (f : Ring → Ring) : (s.updRing k f).stats = s.stats := rfl
@[simp] theorem State.updRing_cal (s : State) (k : Nat) (f : Ring → Ring) : (s.updRing k f).cal = s.cal := rfl
@[simp] theorem State.updRing_reg (s : State) (k : Nat) (f : Ring → Ring) : (s.updRing k f).reg = s.reg := rfl
@[simp] theorem State.updRing_cmp (s : State) (k : Nat) (f : Ring → Ring) : (s.updRing k f).cmp = s.cmp := rfl
@[simp] theorem State.updRing_seg (s : State) (k : Nat) (f : Ring → Ring) : (s.updRing k f).seg = s.seg := rfl
@[simp] theorem State.updRing_codec (s : State) (k : Nat) (f : Ring → Ring) : (s.updRing k f).codec = s.codec := rfl
@[simp] theorem State.updRing_comb (s : State) (k : Nat) (f : Ring → Ring) : (s.updRing k f).comb = s.comb := rfl
@[simp] theorem State.updRing_print (s : State) (k : Nat) (f : Ring → Ring) : (s.updRing k f).print = s.print := rfl
@[simp] theorem State.updRing_motion (s : State) (k : Nat) (f : Ring → Ring) : (s.updRing k f).motion = s.motion := rfl
@[simp] theorem State.updRing_mon (s : State) (k : Nat) (f : Ring → Ring) : (s.updRing k f).mon = s.mon := rfl
@[simp] theorem State.updRing_vd (s : State) (k : Nat) (f : Ring → Ring) : (s.updRing k f).vd = s.vd := rfl
@[simp] theorem State.updRing_net (s : State) (k : Nat) (f : Ring → Ring) : (s.updRing k f).net = s.net := rfl
@[simp] theorem State.updRing_dram (s : State) (k : Nat) (f : Ring → Ring) : (s.updRing k f).dram = s.dram := rfl
@[simp] theorem State.updRing_dma (s : State) (k : Nat) (f : Ring → Ring) : (s.updRing k f).dma = s.dma := rfl
@[simp] theorem State.updRing_fault (s : State) (k : Nat) (f : Ring → Ring) : (s.updRing k f).fault = s.fault := rfl
@[simp] theorem State.updRing_fuse (s : State) (k : Nat) (f : Ring → Ring) : (s.updRing k f).fuse = s.fuse := rfl
@[simp] theorem State.updRing_fw (s : State) (k : Nat) (f : Ring → Ring) : (s.updRing k f).fw = s.fw := rfl
@[simp] theorem State.updRing_power (s : State) (k : Nat) (f : Ring → Ring) : (s.updRing k f).power = s.power := rfl
@[simp] theorem State.updRing_part (s : State) (k : Nat) (f : Ring → Ring) : (s.updRing k f).part = s.part := rfl
@[simp] theorem State.updRing_vdRole (s : State) (k : Nat) (f : Ring → Ring) : (s.updRing k f).vdRole = s.vdRole := rfl
@[simp] theorem State.updRing_bistFullStrap (s : State) (k : Nat) (f : Ring → Ring) : (s.updRing k f).bistFullStrap = s.bistFullStrap := rfl
@[simp] theorem State.updRing_now (s : State) (k : Nat) (f : Ring → Ring) : (s.updRing k f).now = s.now := rfl
@[simp] theorem State.updRing_free (s : State) (k : Nat) (f : Ring → Ring) : (s.updRing k f).free = s.free := rfl
@[simp] theorem State.updRing_out (s : State) (k : Nat) (f : Ring → Ring) : (s.updRing k f).out = s.out := rfl
@[simp] theorem State.updRing_pending (s : State) (k : Nat) (f : Ring → Ring) : (s.updRing k f).pending = s.pending := rfl

/-! `State.updMbx`. -/

@[simp] theorem State.updMbx_mem (s : State) (n : Nat) (f : Mailbox → Mailbox) : (s.updMbx n f).mem = s.mem := rfl
@[simp] theorem State.updMbx_sys (s : State) (n : Nat) (f : Mailbox → Mailbox) : (s.updMbx n f).sys = s.sys := rfl
@[simp] theorem State.updMbx_hif (s : State) (n : Nat) (f : Mailbox → Mailbox) : (s.updMbx n f).hif = { s.hif with mbx := updAt s.hif.mbx n f } := rfl
@[simp] theorem State.updMbx_keeper (s : State) (n : Nat) (f : Mailbox → Mailbox) : (s.updMbx n f).keeper = s.keeper := rfl
@[simp] theorem State.updMbx_deck (s : State) (n : Nat) (f : Mailbox → Mailbox) : (s.updMbx n f).deck = s.deck := rfl
@[simp] theorem State.updMbx_profile (s : State) (n : Nat) (f : Mailbox → Mailbox) : (s.updMbx n f).profile = s.profile := rfl
@[simp] theorem State.updMbx_recs (s : State) (n : Nat) (f : Mailbox → Mailbox) : (s.updMbx n f).recs = s.recs := rfl
@[simp] theorem State.updMbx_mark (s : State) (n : Nat) (f : Mailbox → Mailbox) : (s.updMbx n f).mark = s.mark := rfl
@[simp] theorem State.updMbx_trestle (s : State) (n : Nat) (f : Mailbox → Mailbox) : (s.updMbx n f).trestle = s.trestle := rfl
@[simp] theorem State.updMbx_pio (s : State) (n : Nat) (f : Mailbox → Mailbox) : (s.updMbx n f).pio = s.pio := rfl
@[simp] theorem State.updMbx_pos (s : State) (n : Nat) (f : Mailbox → Mailbox) : (s.updMbx n f).pos = s.pos := rfl
@[simp] theorem State.updMbx_intake (s : State) (n : Nat) (f : Mailbox → Mailbox) : (s.updMbx n f).intake = s.intake := rfl
@[simp] theorem State.updMbx_span (s : State) (n : Nat) (f : Mailbox → Mailbox) : (s.updMbx n f).span = s.span := rfl
@[simp] theorem State.updMbx_stats (s : State) (n : Nat) (f : Mailbox → Mailbox) : (s.updMbx n f).stats = s.stats := rfl
@[simp] theorem State.updMbx_cal (s : State) (n : Nat) (f : Mailbox → Mailbox) : (s.updMbx n f).cal = s.cal := rfl
@[simp] theorem State.updMbx_reg (s : State) (n : Nat) (f : Mailbox → Mailbox) : (s.updMbx n f).reg = s.reg := rfl
@[simp] theorem State.updMbx_cmp (s : State) (n : Nat) (f : Mailbox → Mailbox) : (s.updMbx n f).cmp = s.cmp := rfl
@[simp] theorem State.updMbx_seg (s : State) (n : Nat) (f : Mailbox → Mailbox) : (s.updMbx n f).seg = s.seg := rfl
@[simp] theorem State.updMbx_codec (s : State) (n : Nat) (f : Mailbox → Mailbox) : (s.updMbx n f).codec = s.codec := rfl
@[simp] theorem State.updMbx_comb (s : State) (n : Nat) (f : Mailbox → Mailbox) : (s.updMbx n f).comb = s.comb := rfl
@[simp] theorem State.updMbx_print (s : State) (n : Nat) (f : Mailbox → Mailbox) : (s.updMbx n f).print = s.print := rfl
@[simp] theorem State.updMbx_motion (s : State) (n : Nat) (f : Mailbox → Mailbox) : (s.updMbx n f).motion = s.motion := rfl
@[simp] theorem State.updMbx_mon (s : State) (n : Nat) (f : Mailbox → Mailbox) : (s.updMbx n f).mon = s.mon := rfl
@[simp] theorem State.updMbx_vd (s : State) (n : Nat) (f : Mailbox → Mailbox) : (s.updMbx n f).vd = s.vd := rfl
@[simp] theorem State.updMbx_net (s : State) (n : Nat) (f : Mailbox → Mailbox) : (s.updMbx n f).net = s.net := rfl
@[simp] theorem State.updMbx_dram (s : State) (n : Nat) (f : Mailbox → Mailbox) : (s.updMbx n f).dram = s.dram := rfl
@[simp] theorem State.updMbx_dma (s : State) (n : Nat) (f : Mailbox → Mailbox) : (s.updMbx n f).dma = s.dma := rfl
@[simp] theorem State.updMbx_fault (s : State) (n : Nat) (f : Mailbox → Mailbox) : (s.updMbx n f).fault = s.fault := rfl
@[simp] theorem State.updMbx_fuse (s : State) (n : Nat) (f : Mailbox → Mailbox) : (s.updMbx n f).fuse = s.fuse := rfl
@[simp] theorem State.updMbx_fw (s : State) (n : Nat) (f : Mailbox → Mailbox) : (s.updMbx n f).fw = s.fw := rfl
@[simp] theorem State.updMbx_power (s : State) (n : Nat) (f : Mailbox → Mailbox) : (s.updMbx n f).power = s.power := rfl
@[simp] theorem State.updMbx_part (s : State) (n : Nat) (f : Mailbox → Mailbox) : (s.updMbx n f).part = s.part := rfl
@[simp] theorem State.updMbx_vdRole (s : State) (n : Nat) (f : Mailbox → Mailbox) : (s.updMbx n f).vdRole = s.vdRole := rfl
@[simp] theorem State.updMbx_bistFullStrap (s : State) (n : Nat) (f : Mailbox → Mailbox) : (s.updMbx n f).bistFullStrap = s.bistFullStrap := rfl
@[simp] theorem State.updMbx_now (s : State) (n : Nat) (f : Mailbox → Mailbox) : (s.updMbx n f).now = s.now := rfl
@[simp] theorem State.updMbx_free (s : State) (n : Nat) (f : Mailbox → Mailbox) : (s.updMbx n f).free = s.free := rfl
@[simp] theorem State.updMbx_out (s : State) (n : Nat) (f : Mailbox → Mailbox) : (s.updMbx n f).out = s.out := rfl
@[simp] theorem State.updMbx_pending (s : State) (n : Nat) (f : Mailbox → Mailbox) : (s.updMbx n f).pending = s.pending := rfl

/-! `State.updSlot`. -/

@[simp] theorem State.updSlot_mem (s : State) (k : Nat) (f : DeckSlot → DeckSlot) : (s.updSlot k f).mem = s.mem := rfl
@[simp] theorem State.updSlot_sys (s : State) (k : Nat) (f : DeckSlot → DeckSlot) : (s.updSlot k f).sys = s.sys := rfl
@[simp] theorem State.updSlot_hif (s : State) (k : Nat) (f : DeckSlot → DeckSlot) : (s.updSlot k f).hif = s.hif := rfl
@[simp] theorem State.updSlot_keeper (s : State) (k : Nat) (f : DeckSlot → DeckSlot) : (s.updSlot k f).keeper = s.keeper := rfl
@[simp] theorem State.updSlot_deck (s : State) (k : Nat) (f : DeckSlot → DeckSlot) : (s.updSlot k f).deck = { s.deck with slots := updAt s.deck.slots k f } := rfl
@[simp] theorem State.updSlot_profile (s : State) (k : Nat) (f : DeckSlot → DeckSlot) : (s.updSlot k f).profile = s.profile := rfl
@[simp] theorem State.updSlot_recs (s : State) (k : Nat) (f : DeckSlot → DeckSlot) : (s.updSlot k f).recs = s.recs := rfl
@[simp] theorem State.updSlot_mark (s : State) (k : Nat) (f : DeckSlot → DeckSlot) : (s.updSlot k f).mark = s.mark := rfl
@[simp] theorem State.updSlot_trestle (s : State) (k : Nat) (f : DeckSlot → DeckSlot) : (s.updSlot k f).trestle = s.trestle := rfl
@[simp] theorem State.updSlot_pio (s : State) (k : Nat) (f : DeckSlot → DeckSlot) : (s.updSlot k f).pio = s.pio := rfl
@[simp] theorem State.updSlot_pos (s : State) (k : Nat) (f : DeckSlot → DeckSlot) : (s.updSlot k f).pos = s.pos := rfl
@[simp] theorem State.updSlot_intake (s : State) (k : Nat) (f : DeckSlot → DeckSlot) : (s.updSlot k f).intake = s.intake := rfl
@[simp] theorem State.updSlot_span (s : State) (k : Nat) (f : DeckSlot → DeckSlot) : (s.updSlot k f).span = s.span := rfl
@[simp] theorem State.updSlot_stats (s : State) (k : Nat) (f : DeckSlot → DeckSlot) : (s.updSlot k f).stats = s.stats := rfl
@[simp] theorem State.updSlot_cal (s : State) (k : Nat) (f : DeckSlot → DeckSlot) : (s.updSlot k f).cal = s.cal := rfl
@[simp] theorem State.updSlot_reg (s : State) (k : Nat) (f : DeckSlot → DeckSlot) : (s.updSlot k f).reg = s.reg := rfl
@[simp] theorem State.updSlot_cmp (s : State) (k : Nat) (f : DeckSlot → DeckSlot) : (s.updSlot k f).cmp = s.cmp := rfl
@[simp] theorem State.updSlot_seg (s : State) (k : Nat) (f : DeckSlot → DeckSlot) : (s.updSlot k f).seg = s.seg := rfl
@[simp] theorem State.updSlot_codec (s : State) (k : Nat) (f : DeckSlot → DeckSlot) : (s.updSlot k f).codec = s.codec := rfl
@[simp] theorem State.updSlot_comb (s : State) (k : Nat) (f : DeckSlot → DeckSlot) : (s.updSlot k f).comb = s.comb := rfl
@[simp] theorem State.updSlot_print (s : State) (k : Nat) (f : DeckSlot → DeckSlot) : (s.updSlot k f).print = s.print := rfl
@[simp] theorem State.updSlot_motion (s : State) (k : Nat) (f : DeckSlot → DeckSlot) : (s.updSlot k f).motion = s.motion := rfl
@[simp] theorem State.updSlot_mon (s : State) (k : Nat) (f : DeckSlot → DeckSlot) : (s.updSlot k f).mon = s.mon := rfl
@[simp] theorem State.updSlot_vd (s : State) (k : Nat) (f : DeckSlot → DeckSlot) : (s.updSlot k f).vd = s.vd := rfl
@[simp] theorem State.updSlot_net (s : State) (k : Nat) (f : DeckSlot → DeckSlot) : (s.updSlot k f).net = s.net := rfl
@[simp] theorem State.updSlot_dram (s : State) (k : Nat) (f : DeckSlot → DeckSlot) : (s.updSlot k f).dram = s.dram := rfl
@[simp] theorem State.updSlot_dma (s : State) (k : Nat) (f : DeckSlot → DeckSlot) : (s.updSlot k f).dma = s.dma := rfl
@[simp] theorem State.updSlot_fault (s : State) (k : Nat) (f : DeckSlot → DeckSlot) : (s.updSlot k f).fault = s.fault := rfl
@[simp] theorem State.updSlot_fuse (s : State) (k : Nat) (f : DeckSlot → DeckSlot) : (s.updSlot k f).fuse = s.fuse := rfl
@[simp] theorem State.updSlot_fw (s : State) (k : Nat) (f : DeckSlot → DeckSlot) : (s.updSlot k f).fw = s.fw := rfl
@[simp] theorem State.updSlot_power (s : State) (k : Nat) (f : DeckSlot → DeckSlot) : (s.updSlot k f).power = s.power := rfl
@[simp] theorem State.updSlot_part (s : State) (k : Nat) (f : DeckSlot → DeckSlot) : (s.updSlot k f).part = s.part := rfl
@[simp] theorem State.updSlot_vdRole (s : State) (k : Nat) (f : DeckSlot → DeckSlot) : (s.updSlot k f).vdRole = s.vdRole := rfl
@[simp] theorem State.updSlot_bistFullStrap (s : State) (k : Nat) (f : DeckSlot → DeckSlot) : (s.updSlot k f).bistFullStrap = s.bistFullStrap := rfl
@[simp] theorem State.updSlot_now (s : State) (k : Nat) (f : DeckSlot → DeckSlot) : (s.updSlot k f).now = s.now := rfl
@[simp] theorem State.updSlot_free (s : State) (k : Nat) (f : DeckSlot → DeckSlot) : (s.updSlot k f).free = s.free := rfl
@[simp] theorem State.updSlot_out (s : State) (k : Nat) (f : DeckSlot → DeckSlot) : (s.updSlot k f).out = s.out := rfl
@[simp] theorem State.updSlot_pending (s : State) (k : Nat) (f : DeckSlot → DeckSlot) : (s.updSlot k f).pending = s.pending := rfl

/-! `State.updCam`. -/

@[simp] theorem State.updCam_mem (s : State) (c : Nat) (f : Camera → Camera) : (s.updCam c f).mem = s.mem := rfl
@[simp] theorem State.updCam_sys (s : State) (c : Nat) (f : Camera → Camera) : (s.updCam c f).sys = s.sys := rfl
@[simp] theorem State.updCam_hif (s : State) (c : Nat) (f : Camera → Camera) : (s.updCam c f).hif = s.hif := rfl
@[simp] theorem State.updCam_keeper (s : State) (c : Nat) (f : Camera → Camera) : (s.updCam c f).keeper = s.keeper := rfl
@[simp] theorem State.updCam_deck (s : State) (c : Nat) (f : Camera → Camera) : (s.updCam c f).deck = s.deck := rfl
@[simp] theorem State.updCam_profile (s : State) (c : Nat) (f : Camera → Camera) : (s.updCam c f).profile = s.profile := rfl
@[simp] theorem State.updCam_recs (s : State) (c : Nat) (f : Camera → Camera) : (s.updCam c f).recs = s.recs := rfl
@[simp] theorem State.updCam_mark (s : State) (c : Nat) (f : Camera → Camera) : (s.updCam c f).mark = s.mark := rfl
@[simp] theorem State.updCam_trestle (s : State) (c : Nat) (f : Camera → Camera) : (s.updCam c f).trestle = s.trestle := rfl
@[simp] theorem State.updCam_pio (s : State) (c : Nat) (f : Camera → Camera) : (s.updCam c f).pio = s.pio := rfl
@[simp] theorem State.updCam_pos (s : State) (c : Nat) (f : Camera → Camera) : (s.updCam c f).pos = s.pos := rfl
@[simp] theorem State.updCam_intake (s : State) (c : Nat) (f : Camera → Camera) : (s.updCam c f).intake = { s.intake with cam := updAt s.intake.cam c f } := rfl
@[simp] theorem State.updCam_span (s : State) (c : Nat) (f : Camera → Camera) : (s.updCam c f).span = s.span := rfl
@[simp] theorem State.updCam_stats (s : State) (c : Nat) (f : Camera → Camera) : (s.updCam c f).stats = s.stats := rfl
@[simp] theorem State.updCam_cal (s : State) (c : Nat) (f : Camera → Camera) : (s.updCam c f).cal = s.cal := rfl
@[simp] theorem State.updCam_reg (s : State) (c : Nat) (f : Camera → Camera) : (s.updCam c f).reg = s.reg := rfl
@[simp] theorem State.updCam_cmp (s : State) (c : Nat) (f : Camera → Camera) : (s.updCam c f).cmp = s.cmp := rfl
@[simp] theorem State.updCam_seg (s : State) (c : Nat) (f : Camera → Camera) : (s.updCam c f).seg = s.seg := rfl
@[simp] theorem State.updCam_codec (s : State) (c : Nat) (f : Camera → Camera) : (s.updCam c f).codec = s.codec := rfl
@[simp] theorem State.updCam_comb (s : State) (c : Nat) (f : Camera → Camera) : (s.updCam c f).comb = s.comb := rfl
@[simp] theorem State.updCam_print (s : State) (c : Nat) (f : Camera → Camera) : (s.updCam c f).print = s.print := rfl
@[simp] theorem State.updCam_motion (s : State) (c : Nat) (f : Camera → Camera) : (s.updCam c f).motion = s.motion := rfl
@[simp] theorem State.updCam_mon (s : State) (c : Nat) (f : Camera → Camera) : (s.updCam c f).mon = s.mon := rfl
@[simp] theorem State.updCam_vd (s : State) (c : Nat) (f : Camera → Camera) : (s.updCam c f).vd = s.vd := rfl
@[simp] theorem State.updCam_net (s : State) (c : Nat) (f : Camera → Camera) : (s.updCam c f).net = s.net := rfl
@[simp] theorem State.updCam_dram (s : State) (c : Nat) (f : Camera → Camera) : (s.updCam c f).dram = s.dram := rfl
@[simp] theorem State.updCam_dma (s : State) (c : Nat) (f : Camera → Camera) : (s.updCam c f).dma = s.dma := rfl
@[simp] theorem State.updCam_fault (s : State) (c : Nat) (f : Camera → Camera) : (s.updCam c f).fault = s.fault := rfl
@[simp] theorem State.updCam_fuse (s : State) (c : Nat) (f : Camera → Camera) : (s.updCam c f).fuse = s.fuse := rfl
@[simp] theorem State.updCam_fw (s : State) (c : Nat) (f : Camera → Camera) : (s.updCam c f).fw = s.fw := rfl
@[simp] theorem State.updCam_power (s : State) (c : Nat) (f : Camera → Camera) : (s.updCam c f).power = s.power := rfl
@[simp] theorem State.updCam_part (s : State) (c : Nat) (f : Camera → Camera) : (s.updCam c f).part = s.part := rfl
@[simp] theorem State.updCam_vdRole (s : State) (c : Nat) (f : Camera → Camera) : (s.updCam c f).vdRole = s.vdRole := rfl
@[simp] theorem State.updCam_bistFullStrap (s : State) (c : Nat) (f : Camera → Camera) : (s.updCam c f).bistFullStrap = s.bistFullStrap := rfl
@[simp] theorem State.updCam_now (s : State) (c : Nat) (f : Camera → Camera) : (s.updCam c f).now = s.now := rfl
@[simp] theorem State.updCam_free (s : State) (c : Nat) (f : Camera → Camera) : (s.updCam c f).free = s.free := rfl
@[simp] theorem State.updCam_out (s : State) (c : Nat) (f : Camera → Camera) : (s.updCam c f).out = s.out := rfl
@[simp] theorem State.updCam_pending (s : State) (c : Nat) (f : Camera → Camera) : (s.updCam c f).pending = s.pending := rfl

/-! `State.updHead`. -/

@[simp] theorem State.updHead_mem (s : State) (h : Nat) (f : Head → Head) : (s.updHead h f).mem = s.mem := rfl
@[simp] theorem State.updHead_sys (s : State) (h : Nat) (f : Head → Head) : (s.updHead h f).sys = s.sys := rfl
@[simp] theorem State.updHead_hif (s : State) (h : Nat) (f : Head → Head) : (s.updHead h f).hif = s.hif := rfl
@[simp] theorem State.updHead_keeper (s : State) (h : Nat) (f : Head → Head) : (s.updHead h f).keeper = s.keeper := rfl
@[simp] theorem State.updHead_deck (s : State) (h : Nat) (f : Head → Head) : (s.updHead h f).deck = s.deck := rfl
@[simp] theorem State.updHead_profile (s : State) (h : Nat) (f : Head → Head) : (s.updHead h f).profile = s.profile := rfl
@[simp] theorem State.updHead_recs (s : State) (h : Nat) (f : Head → Head) : (s.updHead h f).recs = s.recs := rfl
@[simp] theorem State.updHead_mark (s : State) (h : Nat) (f : Head → Head) : (s.updHead h f).mark = s.mark := rfl
@[simp] theorem State.updHead_trestle (s : State) (h : Nat) (f : Head → Head) : (s.updHead h f).trestle = s.trestle := rfl
@[simp] theorem State.updHead_pio (s : State) (h : Nat) (f : Head → Head) : (s.updHead h f).pio = s.pio := rfl
@[simp] theorem State.updHead_pos (s : State) (h : Nat) (f : Head → Head) : (s.updHead h f).pos = s.pos := rfl
@[simp] theorem State.updHead_intake (s : State) (h : Nat) (f : Head → Head) : (s.updHead h f).intake = s.intake := rfl
@[simp] theorem State.updHead_span (s : State) (h : Nat) (f : Head → Head) : (s.updHead h f).span = s.span := rfl
@[simp] theorem State.updHead_stats (s : State) (h : Nat) (f : Head → Head) : (s.updHead h f).stats = s.stats := rfl
@[simp] theorem State.updHead_cal (s : State) (h : Nat) (f : Head → Head) : (s.updHead h f).cal = s.cal := rfl
@[simp] theorem State.updHead_reg (s : State) (h : Nat) (f : Head → Head) : (s.updHead h f).reg = s.reg := rfl
@[simp] theorem State.updHead_cmp (s : State) (h : Nat) (f : Head → Head) : (s.updHead h f).cmp = s.cmp := rfl
@[simp] theorem State.updHead_seg (s : State) (h : Nat) (f : Head → Head) : (s.updHead h f).seg = s.seg := rfl
@[simp] theorem State.updHead_codec (s : State) (h : Nat) (f : Head → Head) : (s.updHead h f).codec = s.codec := rfl
@[simp] theorem State.updHead_comb (s : State) (h : Nat) (f : Head → Head) : (s.updHead h f).comb = s.comb := rfl
@[simp] theorem State.updHead_print (s : State) (h : Nat) (f : Head → Head) : (s.updHead h f).print = { s.print with head := updAt s.print.head h f } := rfl
@[simp] theorem State.updHead_motion (s : State) (h : Nat) (f : Head → Head) : (s.updHead h f).motion = s.motion := rfl
@[simp] theorem State.updHead_mon (s : State) (h : Nat) (f : Head → Head) : (s.updHead h f).mon = s.mon := rfl
@[simp] theorem State.updHead_vd (s : State) (h : Nat) (f : Head → Head) : (s.updHead h f).vd = s.vd := rfl
@[simp] theorem State.updHead_net (s : State) (h : Nat) (f : Head → Head) : (s.updHead h f).net = s.net := rfl
@[simp] theorem State.updHead_dram (s : State) (h : Nat) (f : Head → Head) : (s.updHead h f).dram = s.dram := rfl
@[simp] theorem State.updHead_dma (s : State) (h : Nat) (f : Head → Head) : (s.updHead h f).dma = s.dma := rfl
@[simp] theorem State.updHead_fault (s : State) (h : Nat) (f : Head → Head) : (s.updHead h f).fault = s.fault := rfl
@[simp] theorem State.updHead_fuse (s : State) (h : Nat) (f : Head → Head) : (s.updHead h f).fuse = s.fuse := rfl
@[simp] theorem State.updHead_fw (s : State) (h : Nat) (f : Head → Head) : (s.updHead h f).fw = s.fw := rfl
@[simp] theorem State.updHead_power (s : State) (h : Nat) (f : Head → Head) : (s.updHead h f).power = s.power := rfl
@[simp] theorem State.updHead_part (s : State) (h : Nat) (f : Head → Head) : (s.updHead h f).part = s.part := rfl
@[simp] theorem State.updHead_vdRole (s : State) (h : Nat) (f : Head → Head) : (s.updHead h f).vdRole = s.vdRole := rfl
@[simp] theorem State.updHead_bistFullStrap (s : State) (h : Nat) (f : Head → Head) : (s.updHead h f).bistFullStrap = s.bistFullStrap := rfl
@[simp] theorem State.updHead_now (s : State) (h : Nat) (f : Head → Head) : (s.updHead h f).now = s.now := rfl
@[simp] theorem State.updHead_free (s : State) (h : Nat) (f : Head → Head) : (s.updHead h f).free = s.free := rfl
@[simp] theorem State.updHead_out (s : State) (h : Nat) (f : Head → Head) : (s.updHead h f).out = s.out := rfl
@[simp] theorem State.updHead_pending (s : State) (h : Nat) (f : Head → Head) : (s.updHead h f).pending = s.pending := rfl

/-! `State.updDma`. -/

@[simp] theorem State.updDma_mem (s : State) (c : Nat) (f : DmaChan → DmaChan) : (s.updDma c f).mem = s.mem := rfl
@[simp] theorem State.updDma_sys (s : State) (c : Nat) (f : DmaChan → DmaChan) : (s.updDma c f).sys = s.sys := rfl
@[simp] theorem State.updDma_hif (s : State) (c : Nat) (f : DmaChan → DmaChan) : (s.updDma c f).hif = s.hif := rfl
@[simp] theorem State.updDma_keeper (s : State) (c : Nat) (f : DmaChan → DmaChan) : (s.updDma c f).keeper = s.keeper := rfl
@[simp] theorem State.updDma_deck (s : State) (c : Nat) (f : DmaChan → DmaChan) : (s.updDma c f).deck = s.deck := rfl
@[simp] theorem State.updDma_profile (s : State) (c : Nat) (f : DmaChan → DmaChan) : (s.updDma c f).profile = s.profile := rfl
@[simp] theorem State.updDma_recs (s : State) (c : Nat) (f : DmaChan → DmaChan) : (s.updDma c f).recs = s.recs := rfl
@[simp] theorem State.updDma_mark (s : State) (c : Nat) (f : DmaChan → DmaChan) : (s.updDma c f).mark = s.mark := rfl
@[simp] theorem State.updDma_trestle (s : State) (c : Nat) (f : DmaChan → DmaChan) : (s.updDma c f).trestle = s.trestle := rfl
@[simp] theorem State.updDma_pio (s : State) (c : Nat) (f : DmaChan → DmaChan) : (s.updDma c f).pio = s.pio := rfl
@[simp] theorem State.updDma_pos (s : State) (c : Nat) (f : DmaChan → DmaChan) : (s.updDma c f).pos = s.pos := rfl
@[simp] theorem State.updDma_intake (s : State) (c : Nat) (f : DmaChan → DmaChan) : (s.updDma c f).intake = s.intake := rfl
@[simp] theorem State.updDma_span (s : State) (c : Nat) (f : DmaChan → DmaChan) : (s.updDma c f).span = s.span := rfl
@[simp] theorem State.updDma_stats (s : State) (c : Nat) (f : DmaChan → DmaChan) : (s.updDma c f).stats = s.stats := rfl
@[simp] theorem State.updDma_cal (s : State) (c : Nat) (f : DmaChan → DmaChan) : (s.updDma c f).cal = s.cal := rfl
@[simp] theorem State.updDma_reg (s : State) (c : Nat) (f : DmaChan → DmaChan) : (s.updDma c f).reg = s.reg := rfl
@[simp] theorem State.updDma_cmp (s : State) (c : Nat) (f : DmaChan → DmaChan) : (s.updDma c f).cmp = s.cmp := rfl
@[simp] theorem State.updDma_seg (s : State) (c : Nat) (f : DmaChan → DmaChan) : (s.updDma c f).seg = s.seg := rfl
@[simp] theorem State.updDma_codec (s : State) (c : Nat) (f : DmaChan → DmaChan) : (s.updDma c f).codec = s.codec := rfl
@[simp] theorem State.updDma_comb (s : State) (c : Nat) (f : DmaChan → DmaChan) : (s.updDma c f).comb = s.comb := rfl
@[simp] theorem State.updDma_print (s : State) (c : Nat) (f : DmaChan → DmaChan) : (s.updDma c f).print = s.print := rfl
@[simp] theorem State.updDma_motion (s : State) (c : Nat) (f : DmaChan → DmaChan) : (s.updDma c f).motion = s.motion := rfl
@[simp] theorem State.updDma_mon (s : State) (c : Nat) (f : DmaChan → DmaChan) : (s.updDma c f).mon = s.mon := rfl
@[simp] theorem State.updDma_vd (s : State) (c : Nat) (f : DmaChan → DmaChan) : (s.updDma c f).vd = s.vd := rfl
@[simp] theorem State.updDma_net (s : State) (c : Nat) (f : DmaChan → DmaChan) : (s.updDma c f).net = s.net := rfl
@[simp] theorem State.updDma_dram (s : State) (c : Nat) (f : DmaChan → DmaChan) : (s.updDma c f).dram = s.dram := rfl
@[simp] theorem State.updDma_dma (s : State) (c : Nat) (f : DmaChan → DmaChan) : (s.updDma c f).dma = { s.dma with chan := updAt s.dma.chan (c - 8) f } := rfl
@[simp] theorem State.updDma_fault (s : State) (c : Nat) (f : DmaChan → DmaChan) : (s.updDma c f).fault = s.fault := rfl
@[simp] theorem State.updDma_fuse (s : State) (c : Nat) (f : DmaChan → DmaChan) : (s.updDma c f).fuse = s.fuse := rfl
@[simp] theorem State.updDma_fw (s : State) (c : Nat) (f : DmaChan → DmaChan) : (s.updDma c f).fw = s.fw := rfl
@[simp] theorem State.updDma_power (s : State) (c : Nat) (f : DmaChan → DmaChan) : (s.updDma c f).power = s.power := rfl
@[simp] theorem State.updDma_part (s : State) (c : Nat) (f : DmaChan → DmaChan) : (s.updDma c f).part = s.part := rfl
@[simp] theorem State.updDma_vdRole (s : State) (c : Nat) (f : DmaChan → DmaChan) : (s.updDma c f).vdRole = s.vdRole := rfl
@[simp] theorem State.updDma_bistFullStrap (s : State) (c : Nat) (f : DmaChan → DmaChan) : (s.updDma c f).bistFullStrap = s.bistFullStrap := rfl
@[simp] theorem State.updDma_now (s : State) (c : Nat) (f : DmaChan → DmaChan) : (s.updDma c f).now = s.now := rfl
@[simp] theorem State.updDma_free (s : State) (c : Nat) (f : DmaChan → DmaChan) : (s.updDma c f).free = s.free := rfl
@[simp] theorem State.updDma_out (s : State) (c : Nat) (f : DmaChan → DmaChan) : (s.updDma c f).out = s.out := rfl
@[simp] theorem State.updDma_pending (s : State) (c : Nat) (f : DmaChan → DmaChan) : (s.updDma c f).pending = s.pending := rfl

/-! `State.updMarker`. -/

@[simp] theorem State.updMarker_mem (s : State) (m : Nat) (f : Marker → Marker) : (s.updMarker m f).mem = s.mem := rfl
@[simp] theorem State.updMarker_sys (s : State) (m : Nat) (f : Marker → Marker) : (s.updMarker m f).sys = s.sys := rfl
@[simp] theorem State.updMarker_hif (s : State) (m : Nat) (f : Marker → Marker) : (s.updMarker m f).hif = s.hif := rfl
@[simp] theorem State.updMarker_keeper (s : State) (m : Nat) (f : Marker → Marker) : (s.updMarker m f).keeper = s.keeper := rfl
@[simp] theorem State.updMarker_deck (s : State) (m : Nat) (f : Marker → Marker) : (s.updMarker m f).deck = s.deck := rfl
@[simp] theorem State.updMarker_profile (s : State) (m : Nat) (f : Marker → Marker) : (s.updMarker m f).profile = s.profile := rfl
@[simp] theorem State.updMarker_recs (s : State) (m : Nat) (f : Marker → Marker) : (s.updMarker m f).recs = s.recs := rfl
@[simp] theorem State.updMarker_mark (s : State) (m : Nat) (f : Marker → Marker) : (s.updMarker m f).mark = { s.mark with marker := updAt s.mark.marker m f } := rfl
@[simp] theorem State.updMarker_trestle (s : State) (m : Nat) (f : Marker → Marker) : (s.updMarker m f).trestle = s.trestle := rfl
@[simp] theorem State.updMarker_pio (s : State) (m : Nat) (f : Marker → Marker) : (s.updMarker m f).pio = s.pio := rfl
@[simp] theorem State.updMarker_pos (s : State) (m : Nat) (f : Marker → Marker) : (s.updMarker m f).pos = s.pos := rfl
@[simp] theorem State.updMarker_intake (s : State) (m : Nat) (f : Marker → Marker) : (s.updMarker m f).intake = s.intake := rfl
@[simp] theorem State.updMarker_span (s : State) (m : Nat) (f : Marker → Marker) : (s.updMarker m f).span = s.span := rfl
@[simp] theorem State.updMarker_stats (s : State) (m : Nat) (f : Marker → Marker) : (s.updMarker m f).stats = s.stats := rfl
@[simp] theorem State.updMarker_cal (s : State) (m : Nat) (f : Marker → Marker) : (s.updMarker m f).cal = s.cal := rfl
@[simp] theorem State.updMarker_reg (s : State) (m : Nat) (f : Marker → Marker) : (s.updMarker m f).reg = s.reg := rfl
@[simp] theorem State.updMarker_cmp (s : State) (m : Nat) (f : Marker → Marker) : (s.updMarker m f).cmp = s.cmp := rfl
@[simp] theorem State.updMarker_seg (s : State) (m : Nat) (f : Marker → Marker) : (s.updMarker m f).seg = s.seg := rfl
@[simp] theorem State.updMarker_codec (s : State) (m : Nat) (f : Marker → Marker) : (s.updMarker m f).codec = s.codec := rfl
@[simp] theorem State.updMarker_comb (s : State) (m : Nat) (f : Marker → Marker) : (s.updMarker m f).comb = s.comb := rfl
@[simp] theorem State.updMarker_print (s : State) (m : Nat) (f : Marker → Marker) : (s.updMarker m f).print = s.print := rfl
@[simp] theorem State.updMarker_motion (s : State) (m : Nat) (f : Marker → Marker) : (s.updMarker m f).motion = s.motion := rfl
@[simp] theorem State.updMarker_mon (s : State) (m : Nat) (f : Marker → Marker) : (s.updMarker m f).mon = s.mon := rfl
@[simp] theorem State.updMarker_vd (s : State) (m : Nat) (f : Marker → Marker) : (s.updMarker m f).vd = s.vd := rfl
@[simp] theorem State.updMarker_net (s : State) (m : Nat) (f : Marker → Marker) : (s.updMarker m f).net = s.net := rfl
@[simp] theorem State.updMarker_dram (s : State) (m : Nat) (f : Marker → Marker) : (s.updMarker m f).dram = s.dram := rfl
@[simp] theorem State.updMarker_dma (s : State) (m : Nat) (f : Marker → Marker) : (s.updMarker m f).dma = s.dma := rfl
@[simp] theorem State.updMarker_fault (s : State) (m : Nat) (f : Marker → Marker) : (s.updMarker m f).fault = s.fault := rfl
@[simp] theorem State.updMarker_fuse (s : State) (m : Nat) (f : Marker → Marker) : (s.updMarker m f).fuse = s.fuse := rfl
@[simp] theorem State.updMarker_fw (s : State) (m : Nat) (f : Marker → Marker) : (s.updMarker m f).fw = s.fw := rfl
@[simp] theorem State.updMarker_power (s : State) (m : Nat) (f : Marker → Marker) : (s.updMarker m f).power = s.power := rfl
@[simp] theorem State.updMarker_part (s : State) (m : Nat) (f : Marker → Marker) : (s.updMarker m f).part = s.part := rfl
@[simp] theorem State.updMarker_vdRole (s : State) (m : Nat) (f : Marker → Marker) : (s.updMarker m f).vdRole = s.vdRole := rfl
@[simp] theorem State.updMarker_bistFullStrap (s : State) (m : Nat) (f : Marker → Marker) : (s.updMarker m f).bistFullStrap = s.bistFullStrap := rfl
@[simp] theorem State.updMarker_now (s : State) (m : Nat) (f : Marker → Marker) : (s.updMarker m f).now = s.now := rfl
@[simp] theorem State.updMarker_free (s : State) (m : Nat) (f : Marker → Marker) : (s.updMarker m f).free = s.free := rfl
@[simp] theorem State.updMarker_out (s : State) (m : Nat) (f : Marker → Marker) : (s.updMarker m f).out = s.out := rfl
@[simp] theorem State.updMarker_pending (s : State) (m : Nat) (f : Marker → Marker) : (s.updMarker m f).pending = s.pending := rfl

/-! `State.updAxis`. -/

@[simp] theorem State.updAxis_mem (s : State) (a : Nat) (f : Axis → Axis) : (s.updAxis a f).mem = s.mem := rfl
@[simp] theorem State.updAxis_sys (s : State) (a : Nat) (f : Axis → Axis) : (s.updAxis a f).sys = s.sys := rfl
@[simp] theorem State.updAxis_hif (s : State) (a : Nat) (f : Axis → Axis) : (s.updAxis a f).hif = s.hif := rfl
@[simp] theorem State.updAxis_keeper (s : State) (a : Nat) (f : Axis → Axis) : (s.updAxis a f).keeper = s.keeper := rfl
@[simp] theorem State.updAxis_deck (s : State) (a : Nat) (f : Axis → Axis) : (s.updAxis a f).deck = s.deck := rfl
@[simp] theorem State.updAxis_profile (s : State) (a : Nat) (f : Axis → Axis) : (s.updAxis a f).profile = s.profile := rfl
@[simp] theorem State.updAxis_recs (s : State) (a : Nat) (f : Axis → Axis) : (s.updAxis a f).recs = s.recs := rfl
@[simp] theorem State.updAxis_mark (s : State) (a : Nat) (f : Axis → Axis) : (s.updAxis a f).mark = s.mark := rfl
@[simp] theorem State.updAxis_trestle (s : State) (a : Nat) (f : Axis → Axis) : (s.updAxis a f).trestle = s.trestle := rfl
@[simp] theorem State.updAxis_pio (s : State) (a : Nat) (f : Axis → Axis) : (s.updAxis a f).pio = s.pio := rfl
@[simp] theorem State.updAxis_pos (s : State) (a : Nat) (f : Axis → Axis) : (s.updAxis a f).pos = s.pos := rfl
@[simp] theorem State.updAxis_intake (s : State) (a : Nat) (f : Axis → Axis) : (s.updAxis a f).intake = s.intake := rfl
@[simp] theorem State.updAxis_span (s : State) (a : Nat) (f : Axis → Axis) : (s.updAxis a f).span = s.span := rfl
@[simp] theorem State.updAxis_stats (s : State) (a : Nat) (f : Axis → Axis) : (s.updAxis a f).stats = s.stats := rfl
@[simp] theorem State.updAxis_cal (s : State) (a : Nat) (f : Axis → Axis) : (s.updAxis a f).cal = s.cal := rfl
@[simp] theorem State.updAxis_reg (s : State) (a : Nat) (f : Axis → Axis) : (s.updAxis a f).reg = s.reg := rfl
@[simp] theorem State.updAxis_cmp (s : State) (a : Nat) (f : Axis → Axis) : (s.updAxis a f).cmp = s.cmp := rfl
@[simp] theorem State.updAxis_seg (s : State) (a : Nat) (f : Axis → Axis) : (s.updAxis a f).seg = s.seg := rfl
@[simp] theorem State.updAxis_codec (s : State) (a : Nat) (f : Axis → Axis) : (s.updAxis a f).codec = s.codec := rfl
@[simp] theorem State.updAxis_comb (s : State) (a : Nat) (f : Axis → Axis) : (s.updAxis a f).comb = s.comb := rfl
@[simp] theorem State.updAxis_print (s : State) (a : Nat) (f : Axis → Axis) : (s.updAxis a f).print = s.print := rfl
@[simp] theorem State.updAxis_motion (s : State) (a : Nat) (f : Axis → Axis) : (s.updAxis a f).motion = { s.motion with axis := updAt s.motion.axis a f } := rfl
@[simp] theorem State.updAxis_mon (s : State) (a : Nat) (f : Axis → Axis) : (s.updAxis a f).mon = s.mon := rfl
@[simp] theorem State.updAxis_vd (s : State) (a : Nat) (f : Axis → Axis) : (s.updAxis a f).vd = s.vd := rfl
@[simp] theorem State.updAxis_net (s : State) (a : Nat) (f : Axis → Axis) : (s.updAxis a f).net = s.net := rfl
@[simp] theorem State.updAxis_dram (s : State) (a : Nat) (f : Axis → Axis) : (s.updAxis a f).dram = s.dram := rfl
@[simp] theorem State.updAxis_dma (s : State) (a : Nat) (f : Axis → Axis) : (s.updAxis a f).dma = s.dma := rfl
@[simp] theorem State.updAxis_fault (s : State) (a : Nat) (f : Axis → Axis) : (s.updAxis a f).fault = s.fault := rfl
@[simp] theorem State.updAxis_fuse (s : State) (a : Nat) (f : Axis → Axis) : (s.updAxis a f).fuse = s.fuse := rfl
@[simp] theorem State.updAxis_fw (s : State) (a : Nat) (f : Axis → Axis) : (s.updAxis a f).fw = s.fw := rfl
@[simp] theorem State.updAxis_power (s : State) (a : Nat) (f : Axis → Axis) : (s.updAxis a f).power = s.power := rfl
@[simp] theorem State.updAxis_part (s : State) (a : Nat) (f : Axis → Axis) : (s.updAxis a f).part = s.part := rfl
@[simp] theorem State.updAxis_vdRole (s : State) (a : Nat) (f : Axis → Axis) : (s.updAxis a f).vdRole = s.vdRole := rfl
@[simp] theorem State.updAxis_bistFullStrap (s : State) (a : Nat) (f : Axis → Axis) : (s.updAxis a f).bistFullStrap = s.bistFullStrap := rfl
@[simp] theorem State.updAxis_now (s : State) (a : Nat) (f : Axis → Axis) : (s.updAxis a f).now = s.now := rfl
@[simp] theorem State.updAxis_free (s : State) (a : Nat) (f : Axis → Axis) : (s.updAxis a f).free = s.free := rfl
@[simp] theorem State.updAxis_out (s : State) (a : Nat) (f : Axis → Axis) : (s.updAxis a f).out = s.out := rfl
@[simp] theorem State.updAxis_pending (s : State) (a : Nat) (f : Axis → Axis) : (s.updAxis a f).pending = s.pending := rfl

/-! `State.updPort`. -/

@[simp] theorem State.updPort_mem (s : State) (i : Nat) (f : NetPort → NetPort) : (s.updPort i f).mem = s.mem := rfl
@[simp] theorem State.updPort_sys (s : State) (i : Nat) (f : NetPort → NetPort) : (s.updPort i f).sys = s.sys := rfl
@[simp] theorem State.updPort_hif (s : State) (i : Nat) (f : NetPort → NetPort) : (s.updPort i f).hif = s.hif := rfl
@[simp] theorem State.updPort_keeper (s : State) (i : Nat) (f : NetPort → NetPort) : (s.updPort i f).keeper = s.keeper := rfl
@[simp] theorem State.updPort_deck (s : State) (i : Nat) (f : NetPort → NetPort) : (s.updPort i f).deck = s.deck := rfl
@[simp] theorem State.updPort_profile (s : State) (i : Nat) (f : NetPort → NetPort) : (s.updPort i f).profile = s.profile := rfl
@[simp] theorem State.updPort_recs (s : State) (i : Nat) (f : NetPort → NetPort) : (s.updPort i f).recs = s.recs := rfl
@[simp] theorem State.updPort_mark (s : State) (i : Nat) (f : NetPort → NetPort) : (s.updPort i f).mark = s.mark := rfl
@[simp] theorem State.updPort_trestle (s : State) (i : Nat) (f : NetPort → NetPort) : (s.updPort i f).trestle = s.trestle := rfl
@[simp] theorem State.updPort_pio (s : State) (i : Nat) (f : NetPort → NetPort) : (s.updPort i f).pio = s.pio := rfl
@[simp] theorem State.updPort_pos (s : State) (i : Nat) (f : NetPort → NetPort) : (s.updPort i f).pos = s.pos := rfl
@[simp] theorem State.updPort_intake (s : State) (i : Nat) (f : NetPort → NetPort) : (s.updPort i f).intake = s.intake := rfl
@[simp] theorem State.updPort_span (s : State) (i : Nat) (f : NetPort → NetPort) : (s.updPort i f).span = s.span := rfl
@[simp] theorem State.updPort_stats (s : State) (i : Nat) (f : NetPort → NetPort) : (s.updPort i f).stats = s.stats := rfl
@[simp] theorem State.updPort_cal (s : State) (i : Nat) (f : NetPort → NetPort) : (s.updPort i f).cal = s.cal := rfl
@[simp] theorem State.updPort_reg (s : State) (i : Nat) (f : NetPort → NetPort) : (s.updPort i f).reg = s.reg := rfl
@[simp] theorem State.updPort_cmp (s : State) (i : Nat) (f : NetPort → NetPort) : (s.updPort i f).cmp = s.cmp := rfl
@[simp] theorem State.updPort_seg (s : State) (i : Nat) (f : NetPort → NetPort) : (s.updPort i f).seg = s.seg := rfl
@[simp] theorem State.updPort_codec (s : State) (i : Nat) (f : NetPort → NetPort) : (s.updPort i f).codec = s.codec := rfl
@[simp] theorem State.updPort_comb (s : State) (i : Nat) (f : NetPort → NetPort) : (s.updPort i f).comb = s.comb := rfl
@[simp] theorem State.updPort_print (s : State) (i : Nat) (f : NetPort → NetPort) : (s.updPort i f).print = s.print := rfl
@[simp] theorem State.updPort_motion (s : State) (i : Nat) (f : NetPort → NetPort) : (s.updPort i f).motion = s.motion := rfl
@[simp] theorem State.updPort_mon (s : State) (i : Nat) (f : NetPort → NetPort) : (s.updPort i f).mon = s.mon := rfl
@[simp] theorem State.updPort_vd (s : State) (i : Nat) (f : NetPort → NetPort) : (s.updPort i f).vd = s.vd := rfl
@[simp] theorem State.updPort_net (s : State) (i : Nat) (f : NetPort → NetPort) : (s.updPort i f).net = { s.net with ports := updAt s.net.ports i f } := rfl
@[simp] theorem State.updPort_dram (s : State) (i : Nat) (f : NetPort → NetPort) : (s.updPort i f).dram = s.dram := rfl
@[simp] theorem State.updPort_dma (s : State) (i : Nat) (f : NetPort → NetPort) : (s.updPort i f).dma = s.dma := rfl
@[simp] theorem State.updPort_fault (s : State) (i : Nat) (f : NetPort → NetPort) : (s.updPort i f).fault = s.fault := rfl
@[simp] theorem State.updPort_fuse (s : State) (i : Nat) (f : NetPort → NetPort) : (s.updPort i f).fuse = s.fuse := rfl
@[simp] theorem State.updPort_fw (s : State) (i : Nat) (f : NetPort → NetPort) : (s.updPort i f).fw = s.fw := rfl
@[simp] theorem State.updPort_power (s : State) (i : Nat) (f : NetPort → NetPort) : (s.updPort i f).power = s.power := rfl
@[simp] theorem State.updPort_part (s : State) (i : Nat) (f : NetPort → NetPort) : (s.updPort i f).part = s.part := rfl
@[simp] theorem State.updPort_vdRole (s : State) (i : Nat) (f : NetPort → NetPort) : (s.updPort i f).vdRole = s.vdRole := rfl
@[simp] theorem State.updPort_bistFullStrap (s : State) (i : Nat) (f : NetPort → NetPort) : (s.updPort i f).bistFullStrap = s.bistFullStrap := rfl
@[simp] theorem State.updPort_now (s : State) (i : Nat) (f : NetPort → NetPort) : (s.updPort i f).now = s.now := rfl
@[simp] theorem State.updPort_free (s : State) (i : Nat) (f : NetPort → NetPort) : (s.updPort i f).free = s.free := rfl
@[simp] theorem State.updPort_out (s : State) (i : Nat) (f : NetPort → NetPort) : (s.updPort i f).out = s.out := rfl
@[simp] theorem State.updPort_pending (s : State) (i : Nat) (f : NetPort → NetPort) : (s.updPort i f).pending = s.pending := rfl

/-! `State.updRef`. -/

@[simp] theorem State.updRef_mem (s : State) (k : Nat) (f : RefSlot → RefSlot) : (s.updRef k f).mem = s.mem := rfl
@[simp] theorem State.updRef_sys (s : State) (k : Nat) (f : RefSlot → RefSlot) : (s.updRef k f).sys = s.sys := rfl
@[simp] theorem State.updRef_hif (s : State) (k : Nat) (f : RefSlot → RefSlot) : (s.updRef k f).hif = s.hif := rfl
@[simp] theorem State.updRef_keeper (s : State) (k : Nat) (f : RefSlot → RefSlot) : (s.updRef k f).keeper = s.keeper := rfl
@[simp] theorem State.updRef_deck (s : State) (k : Nat) (f : RefSlot → RefSlot) : (s.updRef k f).deck = s.deck := rfl
@[simp] theorem State.updRef_profile (s : State) (k : Nat) (f : RefSlot → RefSlot) : (s.updRef k f).profile = s.profile := rfl
@[simp] theorem State.updRef_recs (s : State) (k : Nat) (f : RefSlot → RefSlot) : (s.updRef k f).recs = s.recs := rfl
@[simp] theorem State.updRef_mark (s : State) (k : Nat) (f : RefSlot → RefSlot) : (s.updRef k f).mark = s.mark := rfl
@[simp] theorem State.updRef_trestle (s : State) (k : Nat) (f : RefSlot → RefSlot) : (s.updRef k f).trestle = s.trestle := rfl
@[simp] theorem State.updRef_pio (s : State) (k : Nat) (f : RefSlot → RefSlot) : (s.updRef k f).pio = s.pio := rfl
@[simp] theorem State.updRef_pos (s : State) (k : Nat) (f : RefSlot → RefSlot) : (s.updRef k f).pos = s.pos := rfl
@[simp] theorem State.updRef_intake (s : State) (k : Nat) (f : RefSlot → RefSlot) : (s.updRef k f).intake = s.intake := rfl
@[simp] theorem State.updRef_span (s : State) (k : Nat) (f : RefSlot → RefSlot) : (s.updRef k f).span = s.span := rfl
@[simp] theorem State.updRef_stats (s : State) (k : Nat) (f : RefSlot → RefSlot) : (s.updRef k f).stats = s.stats := rfl
@[simp] theorem State.updRef_cal (s : State) (k : Nat) (f : RefSlot → RefSlot) : (s.updRef k f).cal = s.cal := rfl
@[simp] theorem State.updRef_reg (s : State) (k : Nat) (f : RefSlot → RefSlot) : (s.updRef k f).reg = { s.reg with slots := updAt s.reg.slots k f } := rfl
@[simp] theorem State.updRef_cmp (s : State) (k : Nat) (f : RefSlot → RefSlot) : (s.updRef k f).cmp = s.cmp := rfl
@[simp] theorem State.updRef_seg (s : State) (k : Nat) (f : RefSlot → RefSlot) : (s.updRef k f).seg = s.seg := rfl
@[simp] theorem State.updRef_codec (s : State) (k : Nat) (f : RefSlot → RefSlot) : (s.updRef k f).codec = s.codec := rfl
@[simp] theorem State.updRef_comb (s : State) (k : Nat) (f : RefSlot → RefSlot) : (s.updRef k f).comb = s.comb := rfl
@[simp] theorem State.updRef_print (s : State) (k : Nat) (f : RefSlot → RefSlot) : (s.updRef k f).print = s.print := rfl
@[simp] theorem State.updRef_motion (s : State) (k : Nat) (f : RefSlot → RefSlot) : (s.updRef k f).motion = s.motion := rfl
@[simp] theorem State.updRef_mon (s : State) (k : Nat) (f : RefSlot → RefSlot) : (s.updRef k f).mon = s.mon := rfl
@[simp] theorem State.updRef_vd (s : State) (k : Nat) (f : RefSlot → RefSlot) : (s.updRef k f).vd = s.vd := rfl
@[simp] theorem State.updRef_net (s : State) (k : Nat) (f : RefSlot → RefSlot) : (s.updRef k f).net = s.net := rfl
@[simp] theorem State.updRef_dram (s : State) (k : Nat) (f : RefSlot → RefSlot) : (s.updRef k f).dram = s.dram := rfl
@[simp] theorem State.updRef_dma (s : State) (k : Nat) (f : RefSlot → RefSlot) : (s.updRef k f).dma = s.dma := rfl
@[simp] theorem State.updRef_fault (s : State) (k : Nat) (f : RefSlot → RefSlot) : (s.updRef k f).fault = s.fault := rfl
@[simp] theorem State.updRef_fuse (s : State) (k : Nat) (f : RefSlot → RefSlot) : (s.updRef k f).fuse = s.fuse := rfl
@[simp] theorem State.updRef_fw (s : State) (k : Nat) (f : RefSlot → RefSlot) : (s.updRef k f).fw = s.fw := rfl
@[simp] theorem State.updRef_power (s : State) (k : Nat) (f : RefSlot → RefSlot) : (s.updRef k f).power = s.power := rfl
@[simp] theorem State.updRef_part (s : State) (k : Nat) (f : RefSlot → RefSlot) : (s.updRef k f).part = s.part := rfl
@[simp] theorem State.updRef_vdRole (s : State) (k : Nat) (f : RefSlot → RefSlot) : (s.updRef k f).vdRole = s.vdRole := rfl
@[simp] theorem State.updRef_bistFullStrap (s : State) (k : Nat) (f : RefSlot → RefSlot) : (s.updRef k f).bistFullStrap = s.bistFullStrap := rfl
@[simp] theorem State.updRef_now (s : State) (k : Nat) (f : RefSlot → RefSlot) : (s.updRef k f).now = s.now := rfl
@[simp] theorem State.updRef_free (s : State) (k : Nat) (f : RefSlot → RefSlot) : (s.updRef k f).free = s.free := rfl
@[simp] theorem State.updRef_out (s : State) (k : Nat) (f : RefSlot → RefSlot) : (s.updRef k f).out = s.out := rfl
@[simp] theorem State.updRef_pending (s : State) (k : Nat) (f : RefSlot → RefSlot) : (s.updRef k f).pending = s.pending := rfl

end Sys2Proof.Machine
end

