-- ==== Sys2Proof/Tests/Slice0.lean ====
section
/-! SUPPORT. Tests: well-formedness (one well-formed term of each command, an ill-formed one for each check), worked examples of the manual, one step of a
command on a small state, and for every statement with hypotheses a state and operands that meet them. -/

namespace Sys2Proof.Tests

open Sys2Proof Sys2Proof.Machine

set_option maxRecDepth 100000

/-- A request. -/
def r0 : Req := { mbx := 0, seq := 0 }
/-- An EXPOSURE_SET payload. -/
def e0 : ExposureReq := { camera := 0, immediate := false, mask := 0, exposureNs := 0, k := [0, 0, 0, 0], boff := [0, 0, 0, 0], regs := [] }
/-- A CSI-2 packet. -/
def p0 : CsiPacket := { vc := 0, dt := 0, ecc := 0, wc := 0, crcOk := true, payload := [], number := 0 }
/-- A serial word. -/
def w0 : SerialWordIn := { pos := 0, nE := true, nW := true, crc := 0 }
/-- An Ethernet frame. -/
def f0 : EthFrame := { dst := 0, src := 0, len := 64 }
/-- The end of a sensor transfer. -/
def s0 : SensorResult := { camera := 0, commit := false, ok := true, stopTick := 0 }

/-! Well-formedness. -/

theorem test_wf_accepts_0 : ([.sysNop r0, .sysIdent r0, .sysStatus r0, .sysSnapshot r0 0 0 0 0, .snapshotTimeout, .modeSet r0 0, .modeTransitDone, .sysStop r0, .sysAbort r0 0, .sysReset r0 0, .sysResetDelayExpiry, .counterClear r0 0, .reinstate r0 0 0, .deckLoad r0 0 0 0, .deckStage r0 0 [], .deckUnstage r0, .deckArmSwap r0 0, .deckCancelSwap r0, .deckActivate r0, .deckQuery r0, .deckDelete r0 0, .profileLoad r0 0 0, .refAlloc r0 0, .refCommit r0 0] : List Instr).all Instr.wf = true := by decide

theorem test_wf_accepts_1 : ([.refCommitDone, .refDelete r0 0, .refQuery r0, .refLearn r0 0 0 0, .refLearnAbort r0, .refLearnDone, .exposureSet r0 e0, .tdacSet r0 0 0, .calFlat r0 false 0, .calPhaseDone, .calQuery r0, .calTableRead r0 0 0, .sensorXfer r0 0 false 0 0 0 0 none, .printQueueSet r0 0 0 0, .printWithdraw r0 0 0, .printRearm r0, .printShift r0 0 0, .printElemQuery r0 0, .printSubConfirm r0 0 false 0, .printElemClear r0 0 0, .printAuth r0 0, .printUsageQuery r0, .printUsageWrite r0 0, .ringQuery r0] : List Instr).all Instr.wf = true := by decide

theorem test_wf_accepts_2 : ([.cropRelease r0 0, .lookbackQuery r0, .lookbackFetch r0 false 0 0 0 0 0 0, .lookbackFetchDone [], .lookbackAbort r0, .axisMove r0 0 false false 0 (List.replicate 6 0), .axisHome r0 0, .axisStop r0 0 false, .axisQuery r0, .axisEnable r0 0 0, .timeQuery r0, .timeSet r0 0, .timeAdjust r0 0 0 false false, .netQuery r0, .peek r0 0 1, .poke r0 0 [0], .laneSet r0 0 0 0 false false false 0, .laneQuery r0 0 0 [], .bistRun r0 false, .bistDone [] 0, .bistResult r0, .fwQuery r0, .fwWrite r0 0 0 0 false false, .fwWriteDone] : List Instr).all Instr.wf = true := by decide

theorem test_wf_accepts_3 : ([.fwActivate r0 0 false, .keyLoad r0 0 (List.replicate 32 0), .lcQuery r0, .lcAdvance r0 0 0, .evtQuery r0, .evtClear r0, .evtInject r0 0 0, .evtGroup r0 0 0, .memQuery r0, .memAlloc r0 0, .memFree r0 0, .memCopy r0 0 0 0, .memCrc r0 0 0, .firmwareDmaDone, .mailboxGo 0 0, .keeperTakeRequest 0 false, .mailboxResponse 0, .mailboxAck 0 0, .udpRequest 0 0 [] false false, .fragmentTimeout, .hifReset 0, .irqStatusClear 0 0, .irqForce 0, .msixUnmask 0] : List Instr).all Instr.wf = true := by decide

theorem test_wf_accepts_4 : ([.winBaseLoWrite 0, .winBaseHiWrite 0, .hostVersionWrite 0, .ringConfigWrite 0 0 0, .registerWrite 0 0, .bar2Access false 0 0 [] false, .ringEntryReturn 0 0, .spillDrain 0, .recordWrite 0, .ringTimerExpiry 0, .dmaStart 8, .dmaPause 8 false, .dmaAbort 8, .dmaConfigWrite 8 0 0, .dmaDescriptorDone 8 none [], .dmaDrainDone 8 0, .itemEntryHandover 0 0, .pcieFlr, .perstAssert, .pcieLinkLoss, .encoderEdge 0 false false 0 false, .encoderZEdge 0 0, .stallTimeout 0, .toothEdge 0 0 false] : List Instr).all Instr.wf = true := by decide

theorem test_wf_accepts_5 : ([.serialPoll 0 0, .serialWord 0 w0 0, .serialTimeout 0 0, .lineTrigger 0, .freeRunLine 0, .calTimedTrigger 0, .sensorTransferDone s0, .sensorIbi 0, .csiFrameStart 0 p0, .csiFrameEnd 0 p0, .csiLineStart 0 p0, .csiLongPacket 0 p0, .csiOtherPacket 0 p0, .csiSyncError 0, .exitDeadline, .stripBreak, .geometryLine [], .spanEmitLine none, .compareLine false false [] 0, .bandDecode none 0, .segmentLine false 0 none, .qswarmEnqueue, .statsLine, .loopResultReady] : List Instr).all Instr.wf = true := by decide

theorem test_wf_accepts_6 : ([.codecGroupClose false none [], .codecFlushTimeout false none [], .ringWriteTimeout false, .descriptorAccept, .fieldTaskReady, .repeatTaskReady 0, .itemTaskReady, .windowTaskReady 0 0, .eventTask 0, .taskDispatch, .taskComplete 0 [], .taskWatchdog 0, .cellFault 0 0 false false false, .shedEvaluation 0 [], .frameClockChange 0 0, .markerActivate 0, .markerDeactivate 0, .headLineTrigger 0 0 false, .headLineStart 0 0 false, .headLineReprepare 0 0, .bitmapBurstDone 0 0 0 false, .headGateAssert (.hopen 0), .headGateClear (.hopen 0), .gateRearmExpiry 0] : List Instr).all Instr.wf = true := by decide

theorem test_wf_accepts_7 : ([.hsenSettleExpiry 0, .speedEvaluation, .spdHoldExpiry, .authResponse 0 .nack, .authRetryTimeout 0, .usageWriteDone 0 .nack, .monitorOutput 0 0 false, .pinInputEdge 0 false, .eventDelivery [], .relayFire 0, .pinOutPulseEnd 0, .ethFrameRx 0 f0, .macAgeing 0 false, .ptpSync 0 0 0 false, .ptpAnnounceTimeout false, .hello 0 0 0 0 0 false, .helloTimer, .bulk 0 0 0 0 0 [] 0 false, .spdRefreshTimer, .linkTrainRetry, .train 0 0 0 0 0 0 0, .linkDown, .pairinfo 0 0 0 0, .viaductMbx false []] : List Instr).all Instr.wf = true := by decide

theorem test_wf_accepts_8 : ([.lanes 0 0, .posSendTimer, .pos 0 false false false, .line 0 0 0 0 0 0 false, .seam 0 0 0 0 false, .part {} 0, .cut 0 0, .seamTimeout 0, .replayRequest none 0 0 false, .dramRefreshDue 0 false false 0, .mr4Read (List.replicate 8 0), .dqsTracking, .eccScrub [] [], .setPointChange 0, .standbySelfRefresh, .axisVelocityUpdate 0, .axisStep 0, .homeInputChange 0 false, .vinUvloRising, .vinUvloFalling, .brownout 0, .brownoutRelease, .porstN, .resetRelease 0 false] : List Instr).all Instr.wf = true := by decide

theorem test_wf_accepts_9 : ([.bootLoadDone [] [] [], .bootDone [] false 0 0 false, .tempEvaluation (List.replicate 8 0), .thermal, .keeperWatchdogExpiry, .pllLossOfLock [], .heartbeat, .perstRelease, .pcieLinkUp, .ethLinkChange 0 false, .calTableReadDone, .stationSwitch 0, .testInstruction false, .ptpSyncSend, .ptpDelayReqSend] : List Instr).all Instr.wf = true := by decide

theorem test_wf_refuses_0 : ([.sysNop { r0 with mbx := 4 }, .sysIdent { r0 with mbx := 4 }, .sysStatus { r0 with mbx := 4 }, .sysSnapshot { r0 with mbx := 4 } 0 0 0 0, .sysSnapshot r0 18446744073709551616 0 0 0, .sysSnapshot r0 0 4294967296 0 0, .sysSnapshot r0 0 0 4294967296 0, .sysSnapshot r0 0 0 0 65536, .modeSet { r0 with mbx := 4 } 0, .modeSet r0 16, .sysStop { r0 with mbx := 4 }, .sysAbort { r0 with mbx := 4 } 0, .sysAbort r0 4, .sysReset { r0 with mbx := 4 } 0, .sysReset r0 4294967296, .counterClear { r0 with mbx := 4 } 0, .counterClear r0 4294967296, .reinstate { r0 with mbx := 4 } 0 0, .reinstate r0 256 0, .reinstate r0 0 65536] : List Instr).all (fun c => !c.wf) = true := by decide

theorem test_wf_refuses_1 : ([.deckLoad { r0 with mbx := 4 } 0 0 0, .deckLoad r0 18446744073709551616 0 0, .deckLoad r0 0 4294967296 0, .deckLoad r0 0 0 256, .deckStage { r0 with mbx := 4 } 0 [], .deckStage r0 4294967296 [], .deckStage r0 0 [(16, true)], .deckUnstage { r0 with mbx := 4 }, .deckArmSwap { r0 with mbx := 4 } 0, .deckArmSwap r0 9223372036854775808, .deckArmSwap r0 (-9223372036854775809), .deckCancelSwap { r0 with mbx := 4 }, .deckActivate { r0 with mbx := 4 }, .deckQuery { r0 with mbx := 4 }, .deckDelete { r0 with mbx := 4 } 0, .deckDelete r0 4294967296, .profileLoad { r0 with mbx := 4 } 0 0, .profileLoad r0 18446744073709551616 0, .profileLoad r0 0 4294967296, .refAlloc { r0 with mbx := 4 } 0] : List Instr).all (fun c => !c.wf) = true := by decide

theorem test_wf_refuses_2 : ([.refAlloc r0 18446744073709551616, .refCommit { r0 with mbx := 4 } 0, .refCommit r0 4294967296, .refDelete { r0 with mbx := 4 } 0, .refDelete r0 4294967296, .refQuery { r0 with mbx := 4 }, .refLearn { r0 with mbx := 4 } 0 0 0, .refLearn r0 4294967296 0 0, .refLearn r0 0 4294967296 0, .refLearn r0 0 0 2097152, .refLearnAbort { r0 with mbx := 4 }, .exposureSet { r0 with mbx := 4 } e0, .exposureSet r0 { e0 with camera := 32 }, .exposureSet r0 { e0 with mask := 16 }, .exposureSet r0 { e0 with exposureNs := 4294967296 }, .exposureSet r0 { e0 with k := [] }, .exposureSet r0 { e0 with k := [65536, 0, 0, 0] }, .exposureSet r0 { e0 with boff := [] }, .exposureSet r0 { e0 with boff := [32768, 0, 0, 0] }, .exposureSet r0 { e0 with regs := List.replicate 9 (0, 0) }] : List Instr).all (fun c => !c.wf) = true := by decide

theorem test_wf_refuses_3 : ([.exposureSet r0 { e0 with regs := [(65536, 0)] }, .exposureSet r0 { e0 with regs := [(0, 4294967296)] }, .tdacSet { r0 with mbx := 4 } 0 0, .tdacSet r0 64 0, .tdacSet r0 0 4096, .calFlat { r0 with mbx := 4 } false 0, .calFlat r0 false 16777216, .calQuery { r0 with mbx := 4 }, .calTableRead { r0 with mbx := 4 } 0 0, .calTableRead r0 18446744073709551616 0, .calTableRead r0 0 32, .sensorXfer { r0 with mbx := 4 } 0 false 0 0 0 0 none, .sensorXfer r0 32 false 0 0 0 0 none, .sensorXfer r0 0 false 2 0 0 0 none, .sensorXfer r0 0 false 0 4 0 0 none, .sensorXfer r0 0 false 0 0 65536 0 none, .sensorXfer r0 0 false 0 0 0 4294967296 none, .sensorXfer r0 0 false 0 0 0 0 (some 4294967296), .printQueueSet { r0 with mbx := 4 } 0 0 0, .printQueueSet r0 8 0 0] : List Instr).all (fun c => !c.wf) = true := by decide

theorem test_wf_refuses_4 : ([.printQueueSet r0 0 32 0, .printQueueSet r0 0 0 18446744073709551616, .printWithdraw { r0 with mbx := 4 } 0 0, .printWithdraw r0 8 0, .printWithdraw r0 0 4294967296, .printRearm { r0 with mbx := 4 }, .printShift { r0 with mbx := 4 } 0 0, .printShift r0 8 0, .printShift r0 0 32768, .printShift r0 0 (-32769), .printElemQuery { r0 with mbx := 4 } 0, .printElemQuery r0 8, .printSubConfirm { r0 with mbx := 4 } 0 false 0, .printSubConfirm r0 8 false 0, .printSubConfirm r0 0 false 4096, .printElemClear { r0 with mbx := 4 } 0 0, .printElemClear r0 8 0, .printElemClear r0 0 65536, .printAuth { r0 with mbx := 4 } 0, .printAuth r0 8] : List Instr).all (fun c => !c.wf) = true := by decide

theorem test_wf_refuses_5 : ([.printUsageQuery { r0 with mbx := 4 }, .printUsageWrite { r0 with mbx := 4 } 0, .printUsageWrite r0 8, .ringQuery { r0 with mbx := 4 }, .cropRelease { r0 with mbx := 4 } 0, .cropRelease r0 4294967296, .lookbackQuery { r0 with mbx := 4 }, .lookbackFetch { r0 with mbx := 4 } false 0 0 0 0 0 0, .lookbackFetch r0 false 4294967296 0 0 0 0 0, .lookbackFetch r0 false 0 18446744073709551616 0 0 0 0, .lookbackFetch r0 false 0 0 4294967296 0 0 0, .lookbackFetch r0 false 0 0 0 4294967296 0 0, .lookbackFetch r0 false 0 0 0 0 4294967296 0, .lookbackFetch r0 false 0 0 0 0 0 18446744073709551616, .lookbackFetchDone [(24, 0, 0)], .lookbackAbort { r0 with mbx := 4 }, .axisMove { r0 with mbx := 4 } 0 false false 0 (List.replicate 6 0), .axisMove r0 64 false false 0 (List.replicate 6 0), .axisMove r0 0 false false 16 (List.replicate 6 0), .axisMove r0 0 false false 0 []] : List Instr).all (fun c => !c.wf) = true := by decide

theorem test_wf_refuses_6 : ([.axisMove r0 0 false false 0 (List.replicate 6 2147483648), .axisHome { r0 with mbx := 4 } 0, .axisHome r0 64, .axisStop { r0 with mbx := 4 } 0 false, .axisStop r0 64 false, .axisQuery { r0 with mbx := 4 }, .axisEnable { r0 with mbx := 4 } 0 0, .axisEnable r0 64 0, .axisEnable r0 0 64, .timeQuery { r0 with mbx := 4 }, .timeSet { r0 with mbx := 4 } 0, .timeSet r0 18446744073709551616, .timeAdjust { r0 with mbx := 4 } 0 0 false false, .timeAdjust r0 9223372036854775808 0 false false, .timeAdjust r0 (-9223372036854775809) 0 false false, .timeAdjust r0 0 18446744073709551616 false false, .netQuery { r0 with mbx := 4 }, .peek { r0 with mbx := 4 } 0 1, .peek r0 18446744073709551616 1, .peek r0 0 0] : List Instr).all (fun c => !c.wf) = true := by decide

theorem test_wf_refuses_7 : ([.peek r0 0 1017, .poke { r0 with mbx := 4 } 0 [0], .poke r0 18446744073709551616 [0], .poke r0 0 [], .poke r0 0 (List.replicate 1017 0), .poke r0 0 [4294967296], .laneSet { r0 with mbx := 4 } 0 0 0 false false false 0, .laneSet r0 4 0 0 false false false 0, .laneSet r0 0 256 0 false false false 0, .laneSet r0 0 0 4 false false false 0, .laneSet r0 0 0 0 false false false 4294967296, .laneQuery { r0 with mbx := 4 } 0 0 [], .laneQuery r0 4 0 [], .laneQuery r0 0 256 [], .bistRun { r0 with mbx := 4 } false, .bistDone [] 4294967296, .bistResult { r0 with mbx := 4 }, .fwQuery { r0 with mbx := 4 }, .fwWrite { r0 with mbx := 4 } 0 0 0 false false, .fwWrite r0 18446744073709551616 0 0 false false] : List Instr).all (fun c => !c.wf) = true := by decide

theorem test_wf_refuses_8 : ([.fwWrite r0 0 4294967296 0 false false, .fwWrite r0 0 0 16777216 false false, .fwActivate { r0 with mbx := 4 } 0 false, .fwActivate r0 2 false, .keyLoad { r0 with mbx := 4 } 0 (List.replicate 32 0), .keyLoad r0 8 (List.replicate 32 0), .keyLoad r0 0 [], .lcQuery { r0 with mbx := 4 }, .lcAdvance { r0 with mbx := 4 } 0 0, .lcAdvance r0 8 0, .lcAdvance r0 0 4294967296, .evtQuery { r0 with mbx := 4 }, .evtClear { r0 with mbx := 4 }, .evtInject { r0 with mbx := 4 } 0 0, .evtInject r0 64 0, .evtInject r0 0 9223372036854775808, .evtInject r0 0 (-9223372036854775809), .evtGroup { r0 with mbx := 4 } 0 0, .evtGroup r0 256 0, .evtGroup r0 0 256] : List Instr).all (fun c => !c.wf) = true := by decide

theorem test_wf_refuses_9 : ([.memQuery { r0 with mbx := 4 }, .memAlloc { r0 with mbx := 4 } 0, .memAlloc r0 4294967296, .memFree { r0 with mbx := 4 } 0, .memFree r0 4294967296, .memCopy { r0 with mbx := 4 } 0 0 0, .memCopy r0 18446744073709551616 0 0, .memCopy r0 0 18446744073709551616 0, .memCopy r0 0 0 4294967296, .memCrc { r0 with mbx := 4 } 0 0, .memCrc r0 18446744073709551616 0, .memCrc r0 0 4294967296, .mailboxGo 4 0, .mailboxGo 0 4294967296, .keeperTakeRequest 4 false, .mailboxResponse 4, .mailboxAck 4 0, .mailboxAck 0 4294967296, .udpRequest 4294967296 0 [] false false, .udpRequest 0 65536 [] false false] : List Instr).all (fun c => !c.wf) = true := by decide

theorem test_wf_refuses_10 : ([.msixUnmask 32, .ringConfigWrite 8 0 0, .ringConfigWrite 0 256 0, .registerWrite 1048576 0, .bar2Access false 4294967296 0 [] false, .bar2Access false 0 4294967296 [] false, .ringEntryReturn 8 0, .ringEntryReturn 0 4294967296, .spillDrain 8, .recordWrite 8, .ringTimerExpiry 8, .dmaStart 7, .dmaStart 16, .dmaPause 7 false, .dmaPause 16 false, .dmaAbort 7, .dmaAbort 16, .dmaConfigWrite 7 0 0, .dmaConfigWrite 16 0 0, .dmaConfigWrite 8 256 0] : List Instr).all (fun c => !c.wf) = true := by decide

theorem test_wf_refuses_11 : ([.dmaDescriptorDone 7 none [], .dmaDescriptorDone 16 none [], .dmaDescriptorDone 8 (some 16777216) [], .dmaDescriptorDone 8 none [1099511627776], .dmaDrainDone 7 0, .dmaDrainDone 16 0, .dmaDrainDone 8 4294967296, .itemEntryHandover 8 0, .itemEntryHandover 0 4294967296, .encoderEdge 2 false false 0 false, .encoderZEdge 2 0, .toothEdge 2 0 false, .serialPoll 2 0, .serialWord 2 w0 0, .serialWord 0 { w0 with pos := 2 ^ 40 } 0, .serialWord 0 { w0 with crc := 64 } 0, .serialTimeout 2 0, .sensorTransferDone { s0 with camera := 24 }, .sensorIbi 24, .csiFrameStart 24 p0] : List Instr).all (fun c => !c.wf) = true := by decide

theorem test_wf_refuses_12 : ([.csiFrameStart 0 { p0 with vc := 16 }, .csiFrameStart 0 { p0 with dt := 64 }, .csiFrameStart 0 { p0 with ecc := 3 }, .csiFrameStart 0 { p0 with wc := 65536 }, .csiFrameStart 0 { p0 with number := 65536 }, .csiFrameEnd 24 p0, .csiFrameEnd 0 { p0 with vc := 16 }, .csiLineStart 24 p0, .csiLineStart 0 { p0 with vc := 16 }, .csiLongPacket 24 p0, .csiLongPacket 0 { p0 with vc := 16 }, .csiOtherPacket 24 p0, .csiOtherPacket 0 { p0 with vc := 16 }, .csiSyncError 24, .geometryLine [(24, default)], .spanEmitLine (some 32), .compareLine false false [{ (default : BandHit) with x0 := 131072 }] 0, .compareLine false false [{ (default : BandHit) with x1 := 131072 }] 0, .compareLine false false [{ (default : BandHit) with y := 1048576 }] 0, .compareLine false false [{ (default : BandHit) with codecUnit := 24 }] 0] : List Instr).all (fun c => !c.wf) = true := by decide

theorem test_wf_refuses_13 : ([.bandDecode none 24, .segmentLine false 0 (some (4096, 0)), .segmentLine false 0 (some (0, 16)), .codecGroupClose false (some 24) [], .codecGroupClose false none [24], .codecFlushTimeout false (some 24) [], .codecFlushTimeout false none [24], .repeatTaskReady 16, .windowTaskReady 16 0, .windowTaskReady 0 8, .eventTask 16, .taskComplete 256 [], .taskComplete 0 [(24, 0, 0)], .taskWatchdog 256, .cellFault 256 0 false false false, .cellFault 0 4294967296 false false false, .shedEvaluation 101 [], .frameClockChange 16 0, .frameClockChange 0 65536, .markerActivate 8] : List Instr).all (fun c => !c.wf) = true := by decide

theorem test_wf_refuses_14 : ([.markerDeactivate 8, .headLineTrigger 8 0 false, .headLineStart 8 0 false, .headLineReprepare 8 0, .bitmapBurstDone 8 0 0 false, .bitmapBurstDone 0 4294967296 0 false, .bitmapBurstDone 0 0 4294967296 false, .headGateAssert (.hopen 8), .headGateClear (.hopen 8), .gateRearmExpiry 8, .hsenSettleExpiry 8, .authResponse 8 .nack, .authRetryTimeout 8, .usageWriteDone 8 .nack, .monitorOutput 32 0 false, .monitorOutput 0 4096 false, .pinInputEdge 32 false, .eventDelivery [64], .relayFire 16, .pinOutPulseEnd 32] : List Instr).all (fun c => !c.wf) = true := by decide

theorem test_wf_refuses_15 : ([.ethFrameRx 2 f0, .ethFrameRx 0 { f0 with dst := 281474976710656 }, .ethFrameRx 0 { f0 with src := 281474976710656 }, .ethFrameRx 0 { f0 with len := 65536 }, .ethFrameRx 0 { f0 with ptpEvent := 4 }, .ethFrameRx 0 { f0 with domain := 256 }, .ethFrameRx 0 { f0 with correction := 18446744073709551616 }, .ethFrameRx 0 { f0 with udpPort := 65536 }, .ethFrameRx 0 { f0 with srcIp := 4294967296 }, .ethFrameRx 0 { f0 with srcPort := 65536 }, .macAgeing 281474976710656 false, .ptpSync 2 0 0 false, .ptpSync 0 0 18446744073709551616 false, .hello 4294967296 0 0 0 0 false, .hello 0 256 0 0 0 false, .hello 0 0 256 0 0 false, .hello 0 0 0 65536 0 false, .hello 0 0 0 0 4294967296 false, .bulk 0 0 0 0 0 [] 256 false, .bulk 4294967296 0 0 0 0 [] 0 false] : List Instr).all (fun c => !c.wf) = true := by decide

theorem test_wf_refuses_16 : ([.bulk 0 65536 0 0 0 [] 0 false, .bulk 0 0 4294967296 0 0 [] 0 false, .bulk 0 0 0 4294967296 0 [] 0 false, .bulk 0 0 0 0 4294967296 [] 0 false, .train 65536 0 0 0 0 0 0, .train 0 256 0 0 0 0 0, .train 0 0 512 0 0 0 0, .train 0 0 0 18446744073709551616 0 0 0, .train 0 0 0 0 512 0 0, .train 0 0 0 0 0 4294967296 0, .train 0 0 0 0 0 0 4294967296, .pairinfo 4294967296 0 0 0, .pairinfo 0 131072 0 0, .pairinfo 0 0 1099511627776 0, .pairinfo 0 0 0 1099511627776, .viaductMbx false [4294967296], .lanes 256 0, .lanes 0 65536, .pos 9223372036854775808 false false false, .pos (-9223372036854775809) false false false] : List Instr).all (fun c => !c.wf) = true := by decide

theorem test_wf_refuses_17 : ([.line 281474976710656 0 0 0 0 0 false, .line 0 140737488355328 0 0 0 0 false, .line 0 (-140737488355329) 0 0 0 0 false, .line 0 0 4294967296 0 0 0 false, .line 0 0 0 18446744073709551616 0 0 false, .line 0 0 0 0 4294967296 0 false, .line 0 0 0 0 0 4294967296 false, .seam 281474976710656 0 0 0 false, .seam 0 4294967296 0 0 false, .seam 0 0 4 0 false, .seam 0 0 0 65536 false, .part { epoch := 4294967296 } 0, .part { y0 := 281474976710656, y1 := 281474976710656 } 0, .part { y1 := 281474976710656 } 0, .part { x0 := 131072 } 0, .part { x1 := 131072 } 0, .part { y0 := 1 } 0, .part {} 65536, .cut 65536 0, .cut 0 281474976710656] : List Instr).all (fun c => !c.wf) = true := by decide

theorem test_wf_refuses_18 : ([.seamTimeout 281474976710656, .replayRequest (some 256) 0 0 false, .replayRequest none 256 0 false, .replayRequest none 0 65536 false, .dramRefreshDue 16 false false 0, .dramRefreshDue 0 false false 9, .mr4Read [], .mr4Read (List.replicate 8 256), .eccScrub [8] [], .eccScrub [] [8], .setPointChange 4, .axisVelocityUpdate 6, .axisStep 6, .homeInputChange 6 false, .brownout 65536, .resetRelease 4 false, .bootDone [] false 65536 0 false, .bootDone [] false 0 2 false, .tempEvaluation [], .tempEvaluation (List.replicate 8 32768)] : List Instr).all (fun c => !c.wf) = true := by decide

theorem test_wf_refuses_19 : ([.pllLossOfLock [42], .ethLinkChange 2 false, .stationSwitch 8, .sysNop { r0 with mbx := 4 }, .sysNop { r0 with seq := 4294967296 }, .sysNop { r0 with srcAddr := 4294967296 }, .sysNop { r0 with srcPort := 65536 }] : List Instr).all (fun c => !c.wf) = true := by decide

/-! Worked values from outside the model: the example of FIPS 180-4 for SHA-256 ("abc"), by which R356 authenticates a chip, and the value that
R42 gives for its CRC-32 ("123456789"). -/

theorem test_sha256_abc : (sha256 [0x61, 0x62, 0x63]).take 8 = [0xba, 0x78, 0x16, 0xbf, 0x8f, 0x01, 0xcf, 0xea] := by decide
theorem test_crc32_check : crc32 [0x31, 0x32, 0x33, 0x34, 0x35, 0x36, 0x37, 0x38, 0x39] = 0xCBF43926 := by decide



set_option linter.unusedVariables false

/-! For every statement with hypotheses: a state and operands that meet the hypotheses of each of its clauses together. -/

/-- A state in a mode, no transit under way, everything else as after reset. -/
def inMode (m : Mode) : State := { State.reset with sys := { State.reset.sys with mode := m, target := m, lineMode := m } }
/-- In a transit from one mode to another. -/
def inTransit (m t : Mode) : State := { State.reset with sys := { State.reset.sys with mode := m, target := t, lineMode := m, transit := true } }
/-- A section of n words, those listed (offset, word) set. -/
def sec (id inst n : Nat) (l : List (Nat × Nat)) : Section :=
  { id := id, inst := inst, ver := 1, body := wordsBytes ((upto n).map (fun i => (lookupN (4 * i) l).getD 0)) }
/-- A state with these profile sections. -/
def withProfile (s : State) (l : List Section) : State := { s with profile := { s.profile with current := { sections := l } } }
/-- A state with a deck of these sections, active in slot 0 with epoch 0. -/
def withDeck (s : State) (l : List Section) : State :=
  { s with deck := { s.deck with active := some 0, epochs := [(0, { deckId := 1, deckRev := 1, sections := l })],
                                 slots := updAt s.deck.slots 0 (fun _ => { gen := 1, deck := some { deckId := 1, deckRev := 1, sections := l } }) } }
/-- The twelve DRAM regions laid out, 16 MiB each. -/
def withRegions (s : State) : State := { s with dram.regions := (upto 12).map (fun r => (0x1000000000 + 0x1000000 * r, 0x1000000)) }
/-- Camera 0 provided, on port 0. -/
def camOn (s : State) : State := withProfile s [sec 0x8010 0 102 [(0x18, 0x80000000)]]
/-- A command runs. -/
def running (s : State) (code : Nat) (args : List Nat) : State := { s with keeper := { s.keeper with running := [{ code := code, req := r0, args := args }] } }

/-- A deck container of 104 bytes: its header, CRC-32 by R42, and one GLOBAL section with INSPECT and VERIFY 0. -/
def deckBytes : List Byte := wordsBytes [0x4B434544, 0x10000, 0x68, 0x9E028340, 0x1, 0x5, 0x6, 0x0, 0x0, 0x0, 0x0, 0x0, 0x0, 0x0, 0x0, 0x0, 0x1000001, 0x20, 0x7, 0x0, 0x0, 0x0, 0x0, 0x0, 0x0, 0x0]
/-- A profile container of 88 bytes: its header, CRC-32 by R42, and one section of 16 bytes. -/
def profBytes : List Byte := wordsBytes [0x464F5250, 0x10000, 0x58, 0x1F494781, 0x1, 0x8, 0x9, 0x0, 0x0, 0x0, 0x0, 0x0, 0x0, 0x0, 0x0, 0x0, 0x1008070, 0x10, 0x0, 0x0, 0x0, 0x0]
/-- Bytes placed in memory. -/
def put (s : State) (a : Nat) (b : List Byte) : State := { s with mem := memWrite s.mem a b }
/-- A NETWORK section with an own address and one allowed source, 10.0.0.2. -/
def netSec : Section := sec 0x8030 0 32 [(0x0C, 0x0A000001), (0x40, 0x0A000002), (0x44, 0x80000020)]
/-- Ring 0 enabled with 64 entries at the start of DRAM. -/
def ringOn (s : State) : State := s.updRing 0 (fun r => { r with baseHi := 0x10, sizeLog2 := 6 })
/-- Host channel 8 with a ring of 16 descriptors in the HOST region. -/
def chanOn (s : State) (f : DmaChan → DmaChan) : State :=
  (withRegions s).updDma 8 (fun k => f { k with baseLo := 0x0B000000, sizeLog2 := 4 })

/-- A reference object of 16 x 256 pixels, one tile in its image index, no tolerance index, its CRC-32 in the header. -/
def objBytes : List Byte := wordsBytes [0x4F464552, 0x10000, 0x8C, 0x0, 0xB5CA9E7A, 0x3, 0x4, 0x3, 0x10, 0x100, 0x0, 0x0, 0x0, 0x0, 0x10001, 0x0, 0x80, 0x0, 0x0, 0x0, 0x0, 0x0, 0x0, 0x0, 0x0, 0x0, 0x0, 0x0, 0x0, 0x0, 0x0, 0x0, 0x88, 0x400, 0x0]
/-- Reference slot 0 with these fields. -/
def refIn (s : State) (o : RefSlot) : State := { s with reg.slots := updAt s.reg.slots 0 (fun _ => o) }
/-- A deck of these sections staged in slot 1. -/
def stageIn (s : State) (l : List Section) : State :=
  { s with deck.staged := some 1, deck.slots := updAt s.deck.slots 1 (fun _ => { gen := 1, deck := some { deckId := 2, deckRev := 1, sections := l } }) }
/-- A PRINT_HEAD section of the profile with head 0 wired, 2,560 elements. -/
def headSec : Section := sec 0x8020 0 256 [(0, 0x80000A00)]
/-- GLOBAL with INSPECT, VERIFY and REFCMP 0 and PRINT 1. -/
def printSec : Section := sec 0x0001 0 8 [(0x08, 2), (0x0C, 1000), (0x10, 1024), (0x14, 3)]
/-- Head 0 replaced by its image. -/
def head0 (s : State) (f : Head → Head) : State := { s with print.head := updAt s.print.head 0 f }

/-- A line of the web in INSPECT. -/
def slot0 : LineSlot := { wln := 0, wpos := 0, epoch := 0, time := 0, tick := 0, ridx := 0, roff := 0, mode := .inspect }
/-- A stitched line. -/
def wl0 : WebLine := { ser := 0, strip := 0, slot := slot0 }
/-- The deck of an epoch, added. -/
def deckAt (s : State) (e : Nat) (l : List Section) : State := { s with deck.epochs := (e, { sections := l }) :: s.deck.epochs }
/-- The look-back ring holds group 0: n lines of epoch e from line y. -/
def held (s : State) (e y n : Nat) : State :=
  put { withRegions s with codec.lb.held := [(0, 0, 64)] } 0x1003001000 (leBytes 8 0 ++ wordsBytes [e, n] ++ leBytes 8 y ++ leBytes 8 0)
/-- A RECIPE section of one stage. -/
def rcp (op trig : Nat) (p : List Nat) : Section :=
  { id := 0x0060, inst := 0, ver := 1,
    body := wordsBytes ([1, 4 * p.length, 0, 0, op * 2 ^ 24 + trig * 2 ^ 20, 0, 4 * p.length, 0] ++ List.replicate 60 0 ++ p) }
/-- Axis 0 wired and enabled. -/
def axisOn (s : State) : State :=
  { withProfile s [sec 0x8060 0 24 [(0, 0x80000000)]] with motion.axis := updAt s.motion.axis 0 (fun a => { a with en := true }) }
/-- A move of axis 0. -/
def move0 : Move := { lead := 0, positive := true, total := 2, rem := some 2, vstart := 1000, vmax := 1000, acc := 1, dec := 1, v := 1024000 }
/-- The POSITION_IN section of the profile: both quadrature inputs with their markers, tooth input 0 with 2 teeth missing, serial input 0 in BiSS mode. -/
def posSec : Section := sec 0x8001 0 54 [(0, 0x0909), (0x08, 100), (0x30, 0x4000 + 0x20000), (0x38, 3 + 0x180000)]

/-- A task of TILE_REG on no cell. -/
def task0 : Task := { id := 0, stage := 0, op := 1, prio := 0, epoch := 0, wln := 0, input := .nodes 0 0 1, frame := some 0 }
/-- A NETWORK section with an own address, one allowed source, the PTP role and both ports enabled. -/
def netSec2 (role : Nat) : Section :=
  sec 0x8030 0 32 [(0, 0x0404), (0x0C, 0x0A000001), (0x18, role), (0x1C, 0x640000), (0x40, 0x0A000002), (0x44, 0x80000020)]

/-- A deck container whose header's reserved half-word 0x12 is not 0. -/
def badDeckBytes : List Byte := wordsBytes [0x4B434544, 0x10000, 0x68, 0x4B6B12A, 0x10001, 0x5, 0x6, 0x0, 0x0, 0x0, 0x0, 0x0, 0x0, 0x0, 0x0, 0x0, 0x1000001, 0x20, 0x7, 0x0, 0x0, 0x0, 0x0, 0x0, 0x0, 0x0]
/-- An object whose reserved word 0x3C is not 0. -/
def badObjBytes : List Byte := wordsBytes [0x4F464552, 0x10000, 0x8C, 0x0, 0xA9ED066F, 0x3, 0x4, 0x3, 0x10, 0x100, 0x0, 0x0, 0x0, 0x0, 0x10001, 0x1, 0x80, 0x0, 0x0, 0x0, 0x0, 0x0, 0x0, 0x0, 0x0, 0x0, 0x0, 0x0, 0x0, 0x0, 0x0, 0x0, 0x88, 0x400, 0x0]

theorem wit_StepRunsFrontCommand :
    ∃ (s : State) (c : Instr) (rest : List Instr), s.pending = c :: rest :=
  ⟨{ State.reset with pending := [.heartbeat, .porstN] }, .heartbeat, [.porstN], by first | decide | (unfold Allowed; decide)⟩

theorem wit_EmptyQueueIdlesNoWordForms :
    ∃ s : State, s.pending = [] :=
  ⟨State.reset, by first | decide | (unfold Allowed; decide)⟩

theorem wit_StepKeepsInvariant :
    (∃ s t : State, (s.Inv) ∧ (step s = .next t)) ∧
    (∃ s t : State, s.pending = [.heartbeat] ∧ s.Inv ∧ step s = .next t) :=
  ⟨⟨State.reset, State.reset, ⟨⟨by decide, by decide, by decide, by decide, by decide, by decide, by decide, by decide, by decide⟩, rfl⟩⟩,
   ⟨{ State.reset with pending := [.heartbeat] }, { State.reset with hif.heartbeat := 1 }, ⟨rfl, ⟨by decide, by decide, by decide, by decide, by decide, by decide, by decide, by decide, by decide⟩, rfl⟩⟩⟩

theorem wit_StepTakesOneCommand :
    ∃ s t : State, step s = .next t :=
  ⟨{ State.reset with pending := [.heartbeat] }, { State.reset with hif.heartbeat := 1 }, rfl⟩

theorem wit_LifeCycleNeverGoesBack :
    ∃ s t : State, (s.fuse.lifeCycle ≤ 5) ∧ (step s = .next t) :=
  ⟨{ State.reset with pending := [.heartbeat], fuse.lifeCycle := 5 }, { State.reset with hif.heartbeat := 1, fuse.lifeCycle := 5 }, ⟨by decide, rfl⟩⟩

theorem wit_CommandsChangeOnlyTheirParts :
    ∃ (c : Instr) (s t : State) (x : Part), (x ∉ mayChange c) ∧ (exec c s = .next t) :=
  ⟨.heartbeat, State.reset, { State.reset with hif.heartbeat := 1 }, .mem, ⟨by decide, rfl⟩⟩

theorem wit_OnlyNamedCommandsStop :
    ∃ (c : Instr) (s : State), mayStop c = false :=
  ⟨.heartbeat, State.reset, by first | decide | (unfold Allowed; decide)⟩

theorem wit_RequestChecksAnswerFirst :
    (∃ (c : Instr) (s : State) (code : Nat) (q : Req) (modes : ModeSet) (urgent : Bool), (c.wf = true) ∧ (zaster c = some (code, q, modes, urgent))) ∧
    (∃ (s : State) (n : Nat) (r : Request), (∀ d, r.dgLen = some d → d = r.len)) ∧
    (∃ c s code q modes urgent, Instr.wf c = true ∧ zaster c = some (code, q, modes, urgent) ∧ ModeSet.has modes (State.sys s).mode = false) ∧
    (∃ c s code q modes urgent, Instr.wf c = true ∧ zaster c = some (code, q, modes, urgent) ∧ ModeSet.has modes (State.sys s).mode = true ∧ q.mbx = 1 ∧ urgent = false) ∧
    (∃ (n : Nat) (s : State) (r : Request), r.dgLen = none ∧ 4080 < r.len) ∧
    (∃ (n : Nat) (s : State) (r : Request), r.dgLen = none ∧ r.len ≤ 4080 ∧ s.served n r = false) ∧
    (∃ (n : Nat) (s : State) (r : Request), r.dgLen = none ∧ r.len ≤ 4080 ∧ s.served n r = true ∧ cmdRow r.cmd = none) ∧
    (∃ (n : Nat) (s : State) (r : Request) (row : CmdRow) (m : Nat), r.dgLen = none ∧ r.len ≤ 4080 ∧ s.served n r = true ∧ cmdRow r.cmd = some row ∧ lenCheck row r = some m) ∧
    (∃ (n : Nat) (s : State) (r : Request) (row : CmdRow), r.dgLen = none ∧ r.len ≤ 4080 ∧ s.served n r = true ∧ cmdRow r.cmd = some row ∧ lenCheck row r = none) :=
  ⟨⟨.sysNop { r0 with mbx := 3 }, State.reset, 0, { r0 with mbx := 3 }, .nb, true, by first | decide | (unfold Allowed; decide)⟩,
   ⟨inMode .standby, 0, { cmd := 0, seq := 1, len := 0, dgLen := some 0, hostVersion := 0x01000000 }, fun _ h => (Option.some.inj h).symm⟩,
   ⟨.sysNop r0, State.reset, 0, r0, .nb, true, by first | decide | (unfold Allowed; decide)⟩,
   ⟨.deckQuery { r0 with mbx := 1 }, inMode .standby, 0x0106, { r0 with mbx := 1 }, .nb, false, by first | decide | (unfold Allowed; decide)⟩,
   ⟨0, inMode .standby, { cmd := 0, seq := 1, len := 4081 }, by first | decide | (unfold Allowed; decide)⟩,
   ⟨0, inMode .standby, { cmd := 0, seq := 1, len := 4080, hostVersion := 0x02000000 }, by first | decide | (unfold Allowed; decide)⟩,
   ⟨0, inMode .standby, { cmd := 0xFFFF, seq := 1, len := 4080, hostVersion := 0x01000000 + 1 }, by first | decide | (unfold Allowed; decide)⟩,
   ⟨0, inMode .standby, { cmd := 4, seq := 1, len := 4080, hostVersion := 0x01000000 + 1 }, (cmdRow 4).getD default, (lenCheck ((cmdRow 4).getD default) { cmd := 4, seq := 1, len := 4080, hostVersion := 0x01000000 + 1 }).getD 0, by first | decide | (unfold Allowed; decide)⟩,
   ⟨0, inMode .standby, { cmd := 0, seq := 1, len := 0, hostVersion := 0x01000000 + 1 }, (cmdRow 0).getD default, by first | decide | (unfold Allowed; decide)⟩⟩

theorem wit_ResponsesAndCommandRows :
    (∃ (s : State) (code : Nat) (q : Req) (r : Reply), (s.hif.mbx.length = 4) ∧ (q.mbx < 4)) ∧
    (∃ (s : State) (code : Nat) (q : Req) (r : Reply), (s.hif.mbx.length = 4) ∧ (q.mbx < 4)) ∧
    (∃ (c : Instr) (code : Nat) (q : Req) (modes : ModeSet) (urgent : Bool), zaster c = some (code, q, modes, urgent)) :=
  ⟨⟨State.reset, 0, r0, {}, by first | decide | (unfold Allowed; decide)⟩,
   ⟨State.reset, 0, { r0 with mbx := 3 }, {}, by first | decide | (unfold Allowed; decide)⟩,
   ⟨.lcAdvance r0 2 0, 0x0905, r0, .cfg, false, by first | decide | (unfold Allowed; decide)⟩⟩

theorem wit_ReportsAnswerAndChangeNothing :
    (∃ q s, Allowed q s .nb true) ∧
    (∃ q s, Allowed q s .nb false) ∧
    (∃ q s, Allowed q s .nb false ∧ s.oldestHeld false = none ∧ s.oldestHeld true = none) :=
  ⟨⟨{ r0 with mbx := 1 }, inMode .selftest, by first | decide | (unfold Allowed; decide)⟩,
   ⟨r0, inMode .safeHold, by first | decide | (unfold Allowed; decide)⟩,
   ⟨r0, inMode .standby, by first | decide | (unfold Allowed; decide)⟩⟩

theorem wit_ResetsKeepFusesAndFlash :
    (∃ (q : Req) (s : State), Allowed q s .nb true) ∧
    (∃ (q : Req) (s : State) (key : Nat), (Allowed q s .nb true) ∧ (key ≠ 0x0A5A)) ∧
    (∃ (v : Word) (s : State), v ≠ 0x0A5A) ∧
    (∃ (c : Instr) (s : State), (c = .hifReset 0x0A5A ∨ (c = .sysResetDelayExpiry ∧ s.keeper.resetPending = true ∧ ∀ m ∈ s.hif.mbx, ∀ r ∈ m.executed, r.cmd ≠ 7) ∨ c = .porstN ∨ c = .vinUvloFalling)) ∧
    (∃ (c : Instr) (s : State), (c = .hifReset 0x0A5A ∨ (c = .sysResetDelayExpiry ∧ s.keeper.resetPending = true ∧ ∀ m ∈ s.hif.mbx, ∀ r ∈ m.executed, r.cmd ≠ 7) ∨ c = .porstN ∨ c = .vinUvloFalling)) ∧
    (∃ (c : Instr) (s : State), (c = .hifReset 0x0A5A ∨ (c = .sysResetDelayExpiry ∧ s.keeper.resetPending = true ∧ ∀ m ∈ s.hif.mbx, ∀ r ∈ m.executed, r.cmd ≠ 7) ∨ c = .porstN ∨ c = .vinUvloFalling)) ∧
    (∃ (c : Instr) (s : State), (c = .hifReset 0x0A5A ∨ (c = .sysResetDelayExpiry ∧ s.keeper.resetPending = true ∧ ∀ m ∈ s.hif.mbx, ∀ r ∈ m.executed, r.cmd ≠ 7) ∨ c = .porstN ∨ c = .vinUvloFalling)) :=
  ⟨⟨r0, inMode .standby, by first | decide | (unfold Allowed; decide)⟩,
   ⟨r0, inMode .standby, 0, by first | decide | (unfold Allowed; decide)⟩,
   ⟨0, State.reset, by first | decide | (unfold Allowed; decide)⟩,
   ⟨.hifReset 0x0A5A, State.reset, .inl rfl⟩,
   ⟨.sysResetDelayExpiry, { State.reset with keeper.resetPending := true }, .inr (.inl ⟨rfl, by decide⟩)⟩,
   ⟨.porstN, State.reset, .inr (.inr (.inl rfl))⟩,
   ⟨.vinUvloFalling, State.reset, .inr (.inr (.inr rfl))⟩⟩

theorem wit_CounterClearAndAbortActOnWhatTheyName :
    (∃ (q : Req) (parts : Nat) (s : State), (Allowed q s .nb false) ∧ (partsReserved parts = false)) ∧
    (∃ (q : Req) (parts : Nat) (s : State), (Allowed q s .nb false) ∧ (partsReserved parts = true)) ∧
    (∃ (q : Req) (parts : Nat) (s : State), (Allowed q s .nb false) ∧ (partsReserved parts = true)) ∧
    (∃ (q : Req) (m : Nat) (s : State) (r : Request) (row : CmdRow), (Allowed q s .nb true) ∧ ((s.mailbox m).taken.find? (fun x => x.cmd != 6) = some r) ∧ (cmdRow r.cmd = some row)) ∧
    (∃ (m : Nat) (r : Request) (s : State), r.cmd ≠ 0x0100) ∧
    (∃ (q : Req) (m : Nat) (s : State), (Allowed q s .nb true) ∧ ((s.mailbox m).taken.find? (fun x => x.cmd != 6) = none) ∧ ((∀ r ∈ s.keeper.running, r.req.mbx ≠ m))) :=
  ⟨⟨r0, 0, inMode .standby, by first | decide | (unfold Allowed; decide)⟩,
   ⟨r0, 1, inMode .standby, by first | decide | (unfold Allowed; decide)⟩,
   ⟨r0, 2 ^ 18, inMode .standby, by first | decide | (unfold Allowed; decide)⟩,
   ⟨r0, 0, (inMode .standby).updMbx 0 (fun m => { m with taken := [{ cmd := 0x0106, seq := 1, len := 0 }] }), { cmd := 0x0106, seq := 1, len := 0 }, (cmdRow 0x0106).getD default, by first | decide | (unfold Allowed; decide)⟩,
   ⟨0, { cmd := 6, seq := 0, len := 0 }, State.reset, by first | decide | (unfold Allowed; decide)⟩,
   ⟨r0, 3, inMode .standby, by first | decide | (unfold Allowed; decide)⟩⟩

theorem wit_ModesChangeByTransit :
    (∃ (q : Req) (target : Nat) (t : Mode) (s : State), (Allowed q s .nb false) ∧ (modeOf target = some t) ∧ (t ≠ s.sys.mode) ∧ (s.modeRefuse q target = none)) ∧
    (∃ (q : Req) (target : Nat) (s : State), (Allowed q s .nb false) ∧ (s.sys.transit = false) ∧ (s.followRefuse q = none) ∧ (q.mbx ≠ 3) ∧ (modeOf target = some s.sys.mode)) ∧
    (∃ (q : Req) (target : Nat) (s : State), (Allowed q s .nb false) ∧ (s.sys.transit = true)) ∧
    (∃ s : State, (s.transitReady = true) ∧ ((s.sys.mode = .diagnostic → s.comb.codeTouched = false)) ∧ ((s.sys.target.needsDeck = true → s.activeDeck.isSome = true ∧ (s.sys.mode = .configure → s.profile.loaded = none)))) ∧
    (∃ s : State, (s.transitReady = true) ∧ ((s.sys.mode = .diagnostic → s.comb.codeTouched = false)) ∧ ((s.sys.target.needsDeck = true → s.activeDeck.isSome = true ∧ (s.sys.mode = .configure → s.profile.loaded = none)))) ∧
    (∃ s : State, (s.transitReady = true) ∧ ((s.sys.mode = .diagnostic → s.comb.codeTouched = false)) ∧ ((s.sys.target.needsDeck = true → s.activeDeck.isSome = true ∧ (s.sys.mode = .configure → s.profile.loaded = none)))) ∧
    (∃ (q : Req) (s : State), (Allowed q s .nb true) ∧ (s.sys.transit = true) ∧ (s.vd.pair ≠ 2)) ∧
    (∃ (q : Req) (s : State), (Allowed q s .nb true) ∧ (s.sys.transit = false)) ∧
    (∃ (q : Req) (s : State), (Allowed q s .nb true) ∧ (s.sys.transit = false)) :=
  ⟨⟨r0, 3, .configure, inMode .standby, by first | decide | (unfold Allowed; decide)⟩,
   ⟨r0, 2, inMode .standby, by first | decide | (unfold Allowed; decide)⟩,
   ⟨r0, 2, inTransit .standby .configure, by first | decide | (unfold Allowed; decide)⟩,
   ⟨inTransit .standby .configure, by first | decide | (unfold Allowed; decide)⟩,
   ⟨withDeck (inTransit .configure .makeready) [], by first | decide | (unfold Allowed; decide)⟩,
   ⟨inTransit .diagnostic .standby, by first | decide | (unfold Allowed; decide)⟩,
   ⟨{ r0 with mbx := 1 }, inTransit .standby .configure, by first | decide | (unfold Allowed; decide)⟩,
   ⟨r0, inMode .inspect, by first | decide | (unfold Allowed; decide)⟩,
   ⟨r0, inMode .standby, by first | decide | (unfold Allowed; decide)⟩⟩

theorem wit_SnapshotsAreTakenAndDelivered :
    (∃ (q : Req) (dest destLen parts timeoutMs : Nat) (s : State), (Allowed q s .nb false) ∧ (partsReserved parts = false) ∧ (s.keeper.snapshot = none) ∧ ((s.newSnapshot q dest parts timeoutMs).length ≤ destLen) ∧ (s.rangeOf dest (s.newSnapshot q dest parts timeoutMs).length = some 6)) ∧
    (∃ (q : Req) (dest destLen parts timeoutMs : Nat) (s : State), (Allowed q s .nb false) ∧ (partsReserved parts = false) ∧ (s.keeper.snapshot = none) ∧ ((s.newSnapshot q dest parts timeoutMs).length ≤ destLen) ∧ (s.rangeOf dest (s.newSnapshot q dest parts timeoutMs).length = some 6)) ∧
    (∃ (q : Req) (dest destLen parts timeoutMs : Nat) (s : State), (Allowed q s .nb false) ∧ (partsReserved parts = false) ∧ (s.keeper.snapshot.isSome = true)) ∧
    (∃ (q : Req) (dest destLen parts timeoutMs : Nat) (s : State), (Allowed q s .nb false) ∧ (partsReserved parts = false) ∧ (s.keeper.snapshot = none) ∧ (destLen < (s.newSnapshot q dest parts timeoutMs).length)) ∧
    (∃ (q : Req) (dest destLen parts timeoutMs : Nat) (s : State), (Allowed q s .nb false) ∧ (partsReserved parts = true)) ∧
    (∃ (s : State) (n : Snapshot), (s.keeper.snapshot = some n) ∧ (n.fired = none)) :=
  ⟨⟨r0, 0x1000000000, 4096, 0, 0, inMode .configure, by first | decide | (unfold Allowed; decide)⟩,
   ⟨r0, 0x1000000000, 2 ^ 24, 2, 0, inMode .inspect, by first | decide | (unfold Allowed; decide)⟩,
   ⟨r0, 0, 0, 0, 0, { inMode .configure with keeper.snapshot := some { req := r0, dest := 0, ser := 0, line := 0 } }, by first | decide | (unfold Allowed; decide)⟩,
   ⟨r0, 0x1000000000, 15, 0, 0, inMode .configure, by first | decide | (unfold Allowed; decide)⟩,
   ⟨r0, 0x1000000000, 4096, 1, 0, inMode .configure, by first | decide | (unfold Allowed; decide)⟩,
   ⟨{ inMode .inspect with keeper.snapshot := some { req := r0, dest := 0, ser := 0, line := 0 } }, { req := r0, dest := 0, ser := 0, line := 0 }, by first | decide | (unfold Allowed; decide)⟩⟩

theorem wit_ReinstateAndSelfTestRun :
    (∃ (q : Req) (block inst : Nat) (s : State), (Allowed q s .op false) ∧ (s.isRunning 0x0009 = true)) ∧
    (∃ (q : Req) (block inst : Nat) (s : State), (Allowed q s .op false) ∧ (s.isRunning 0x0009 = false) ∧ ((block = 0 ∨ block = 3 ∨ block ≥ 0x0C ∨ s.isRetired block inst = false))) ∧
    (∃ (q : Req) (block inst : Nat) (s : State), (Allowed q s .op false) ∧ (s.isRunning 0x0009 = false) ∧ ((block = 0 ∨ block = 3 ∨ block ≥ 0x0C ∨ s.isRetired block inst = false))) ∧
    (∃ (q : Req) (block inst : Nat) (s : State), (Allowed q s .op false) ∧ (s.isRunning 0x0009 = false) ∧ ((block = 0 ∨ block = 3 ∨ block ≥ 0x0C ∨ s.isRetired block inst = false))) ∧
    (∃ (q : Req) (block inst : Nat) (s : State), (Allowed q s .op false) ∧ (s.isRunning 0x0009 = false) ∧ ((block = 0 ∨ block = 3 ∨ block ≥ 0x0C ∨ s.isRetired block inst = false))) ∧
    (∃ (q : Req) (unit : Nat) (s : State), (Allowed q s .op false) ∧ (s.isRunning 0x0009 = false) ∧ (s.isRetired 6 unit = true) ∧ ((s.channel 6 unit).unusable = false)) ∧
    (∃ (q : Req) (cell : Nat) (s : State), (Allowed q s .op false) ∧ (s.isRunning 0x0009 = false) ∧ (s.isRetired 7 cell = true)) ∧
    (∃ (r : Running) (cell us : Nat) (failures : List BistEntry) (s : State), (s.isRunning 0x0804 = false) ∧ (s.runningCmd 0x0009 = some r) ∧ (r.args = [7, cell])) ∧
    (∃ (q : Req) (full : Bool) (s : State), (Allowed q s .diag false) ∧ (s.isRunning 0x0804 = false)) ∧
    (∃ (q : Req) (full : Bool) (s : State), (Allowed q s .diag false) ∧ (s.isRunning 0x0804 = true)) ∧
    (∃ (failures : List BistEntry) (us : Nat) (r : Running) (s : State), s.runningCmd 0x0804 = some r) ∧
    (∃ (q : Req) (s : State), Allowed q s .nb false) :=
  ⟨⟨r0, 7, 0, running (inMode .configure) 9 [7, 0], by first | decide | (unfold Allowed; decide)⟩,
   ⟨r0, 0, 0, inMode .configure, by first | decide | (unfold Allowed; decide)⟩,
   ⟨r0, 3, 0, inMode .configure, by first | decide | (unfold Allowed; decide)⟩,
   ⟨r0, 0x0C, 0, inMode .configure, by first | decide | (unfold Allowed; decide)⟩,
   ⟨r0, 0x0B, 0, inMode .configure, by first | decide | (unfold Allowed; decide)⟩,
   ⟨r0, 5, { inMode .configure with fault.channels := [{ block := 6, inst := 5, retired := true }] }, by first | decide | (unfold Allowed; decide)⟩,
   ⟨r0, 5, { inMode .configure with fault.channels := [{ block := 7, inst := 5, retired := true }] }, by first | decide | (unfold Allowed; decide)⟩,
   ⟨{ code := 9, req := r0, args := [7, 0] }, 0, 0, [], running (inMode .configure) 9 [7, 0], by first | decide | (unfold Allowed; decide)⟩,
   ⟨r0, true, inMode .diagnostic, by first | decide | (unfold Allowed; decide)⟩,
   ⟨r0, true, running (inMode .diagnostic) 0x0804 [1], by first | decide | (unfold Allowed; decide)⟩,
   ⟨[], 0, { code := 0x0804, req := r0, args := [1] }, running (inMode .diagnostic) 0x0804 [1], by first | decide | (unfold Allowed; decide)⟩,
   ⟨r0, inMode .standby, by first | decide | (unfold Allowed; decide)⟩⟩

theorem wit_DiagnosticCommandsReadWriteAndTest :
    (∃ (q : Req) (addr count : Nat) (s : State), (Allowed q s .diag false) ∧ (s.diagLocked = none) ∧ (count ≤ 1016) ∧ ((s.rangeOf (addr / 4 * 4) (4 * count)).isSome = true)) ∧
    (∃ (q : Req) (addr count : Nat) (s : State), (Allowed q s .diag false) ∧ (s.diagLocked = none) ∧ (count ≤ 1016) ∧ ((s.rangeOf (addr / 4 * 4) (4 * count)).isSome = true)) ∧
    (∃ (q : Req) (addr r : Nat) (words : List Nat) (s : State), (Allowed q s .diag false) ∧ (s.diagLocked = none) ∧ (s.rangeOf (addr / 4 * 4) (4 * words.length) = some r) ∧ (r ≠ 2) ∧ (s.dmaHeld (addr / 4 * 4) (4 * words.length) = false) ∧ (s.ownedMisuse (addr / 4 * 4) (4 * words.length) = none)) ∧
    (∃ (q : Req) (addr r : Nat) (words : List Nat) (s : State), (Allowed q s .diag false) ∧ (s.diagLocked = none) ∧ (s.rangeOf (addr / 4 * 4) (4 * words.length) = some r) ∧ (r ≠ 2) ∧ (s.dmaHeld (addr / 4 * 4) (4 * words.length) = false) ∧ (s.ownedMisuse (addr / 4 * 4) (4 * words.length) = none)) ∧
    (∃ (q : Req) (addr : Nat) (words : List Nat) (s : State), (Allowed q s .diag false) ∧ (s.diagLocked = none) ∧ (s.rangeOf (addr / 4 * 4) (4 * words.length) = some 2)) ∧
    (∃ (q : Req) (addr count : Nat) (words : List Nat) (s : State), (Allowed q s .diag false) ∧ ((s.fuse.lifeCycle = 3 ∨ (s.fuse.lifeCycle = 2 ∧ s.profile.current.b 0x8070 0 0x00 0 false = true)))) ∧
    (∃ (q : Req) (addr count : Nat) (words : List Nat) (s : State), (Allowed q s .diag false) ∧ ((s.fuse.lifeCycle = 3 ∨ (s.fuse.lifeCycle = 2 ∧ s.profile.current.b 0x8070 0 0x00 0 false = true)))) ∧
    (∃ (q : Req) (cls lane pattern inject : Nat) (gen check loopback : Bool) (s : State), (Allowed q s .diag false) ∧ ((cls = 0 ∧ lane ≤ 95 ∨ (cls = 1 ∨ cls = 2) ∧ lane ≤ 8))) ∧
    (∃ (q : Req) (cls lane pattern inject : Nat) (gen check loopback : Bool) (s : State), (Allowed q s .diag false) ∧ ((cls = 0 ∧ lane ≤ 95 ∨ (cls = 1 ∨ cls = 2) ∧ lane ≤ 8))) ∧
    (∃ (q : Req) (cls lane pattern inject : Nat) (gen check loopback : Bool) (s : State), (Allowed q s .diag false) ∧ ((cls = 0 ∧ lane ≤ 95 ∨ (cls = 1 ∨ cls = 2) ∧ lane ≤ 8))) ∧
    (∃ (q : Req) (cls lane pattern inject : Nat) (gen check loopback : Bool) (s : State), (Allowed q s .diag false) ∧ ((cls = 0 ∧ lane ≤ 95 ∨ (cls = 1 ∨ cls = 2) ∧ lane ≤ 8))) ∧
    (∃ (q : Req) (cls lane pattern inject : Nat) (gen check loopback : Bool) (s : State), (Allowed q s .diag false) ∧ ((cls = 0 ∧ 95 < lane ∨ (cls = 1 ∨ cls = 2) ∧ 8 < lane))) ∧
    (∃ (q : Req) (cls lane pattern inject : Nat) (gen check loopback : Bool) (s : State), (Allowed q s .diag false) ∧ ((cls = 0 ∧ 95 < lane ∨ (cls = 1 ∨ cls = 2) ∧ 8 < lane))) ∧
    (∃ (q : Req) (cls lane : Nat) (received : List (List Bool)) (s : State), Allowed q s .diag false) ∧
    (∃ (q : Req) (cls lane : Nat) (received : List (List Bool)) (s : State), Allowed q s .diag false) ∧
    (∃ (s : State) (lane : Nat), lane ≤ 95 ∧ s.camLaneProvided lane = true) ∧
    (∃ (s : State) (cls lane : Nat), Allowed r0 s .diag false ∧ (cls = 0 ∨ cls = 2) ∧ (∀ t ∈ s.vd.tests, t.cls = cls → t.lane = lane → t.check = false)) :=
  ⟨⟨r0, 0x1000000003, 1, inMode .diagnostic, by first | decide | (unfold Allowed; decide)⟩,
   ⟨r0, 0x1000000000, 1016, inMode .diagnostic, by first | decide | (unfold Allowed; decide)⟩,
   ⟨r0, 0, 0, [1], inMode .diagnostic, by first | decide | (unfold Allowed; decide)⟩,
   ⟨r0, 0x1000000000, 6, [1], inMode .diagnostic, by first | decide | (unfold Allowed; decide)⟩,
   ⟨r0, 0x0010000000, [1], inMode .diagnostic, by first | decide | (unfold Allowed; decide)⟩,
   ⟨r0, 0, 0, [], { inMode .diagnostic with fuse.lifeCycle := 3 }, by first | decide | (unfold Allowed; decide)⟩,
   ⟨r0, 0, 0, [], withProfile { inMode .diagnostic with fuse.lifeCycle := 2 } [sec 0x8070 0 8 [(0, 1)]], by first | decide | (unfold Allowed; decide)⟩,
   ⟨r0, 0, 95, 0, 0, false, true, false, inMode .diagnostic, by first | decide | (unfold Allowed; decide)⟩,
   ⟨r0, 1, 8, 0, 0, true, false, false, inMode .diagnostic, by first | decide | (unfold Allowed; decide)⟩,
   ⟨r0, 2, 8, 0, 0, false, true, false, inMode .diagnostic, by first | decide | (unfold Allowed; decide)⟩,
   ⟨r0, 1, 8, 0, 0, true, true, false, inMode .diagnostic, by first | decide | (unfold Allowed; decide)⟩,
   ⟨r0, 0, 96, 0, 0, false, true, false, inMode .diagnostic, by first | decide | (unfold Allowed; decide)⟩,
   ⟨r0, 2, 9, 0, 0, false, true, false, inMode .diagnostic, by first | decide | (unfold Allowed; decide)⟩,
   ⟨r0, 0, 0, [], inMode .diagnostic, by first | decide | (unfold Allowed; decide)⟩,
   ⟨r0, 1, 0, [], inMode .diagnostic, by first | decide | (unfold Allowed; decide)⟩,
   ⟨camOn (inMode .diagnostic), 0, by first | decide | (unfold Allowed; decide)⟩,
   ⟨inMode .diagnostic, 2, 0, by first | decide | (unfold Allowed; decide)⟩⟩

theorem wit_HostRegionBlocksAndTransfers :
    (∃ (q : Req) (len a : Nat) (s : State), (Allowed q s .op false) ∧ (s.allocBlock 11 (s.dram.hostBlocks.map (·.2)) (ceilDiv len 4096 * 4096) = some a)) ∧
    (∃ (q : Req) (len : Nat) (s : State), (Allowed q s .op false) ∧ (s.allocBlock 11 (s.dram.hostBlocks.map (·.2)) (ceilDiv len 4096 * 4096) = none)) ∧
    (∃ (q : Req) (handle : Nat) (s : State), (Allowed q s .op false) ∧ ((∃ b ∈ s.dram.hostBlocks, b.1 = handle)) ∧ ((∀ r ∈ s.keeper.running, r.code ≠ 0x0B03 ∧ r.code ≠ 0x0B04))) ∧
    (∃ (q : Req) (handle : Nat) (s : State), (Allowed q s .op false) ∧ ((∀ b ∈ s.dram.hostBlocks, b.1 ≠ handle))) ∧
    (∃ (q : Req) (src dst len : Nat) (s : State), (Allowed q s .op false) ∧ (s.isRunning 0x0B03 = false) ∧ (len < 2 ^ 24) ∧ ((len ≠ 0 → s.sourceBad src len = false ∧ (s.rangeOf dst len).isSome = true ∧ (s.inRegion 11 dst len = true ∨ inBlocks s.refWritable dst len = true)))) ∧
    (∃ (q : Req) (addr len : Nat) (s : State), (Allowed q s .op false) ∧ (s.isRunning 0x0B04 = false) ∧ (len < 2 ^ 24) ∧ ((len ≠ 0 → s.sourceBad addr len = false))) ∧
    (∃ (q : Req) (src dst len : Nat) (s : State), (Allowed q s .op false) ∧ (len ≠ 0) ∧ (len < 2 ^ 24) ∧ (s.sourceBad src len = true)) ∧
    (∃ (r : Running) (src dst n : Nat) (s : State), (s.keeper.running.find? (fun r => r.code == 0x0B03 || r.code == 0x0B04) = some r) ∧ (r.args = [src, dst, n]) ∧ (s.mem.wf = true)) ∧
    (∃ (r : Running) (src dst n : Nat) (s : State), (s.keeper.running.find? (fun r => r.code == 0x0B03 || r.code == 0x0B04) = some r) ∧ (r.args = [src, dst, n]) ∧ (s.mem.wf = true)) :=
  ⟨⟨r0, 4096, 0x100B000000, withRegions (inMode .configure), by first | decide | (unfold Allowed; decide)⟩,
   ⟨r0, 2 ^ 50, inMode .configure, by first | decide | (unfold Allowed; decide)⟩,
   ⟨r0, 1, { inMode .configure with dram.hostBlocks := [(1, 0x1000000000, 4096)] }, by first | decide | (unfold Allowed; decide)⟩,
   ⟨r0, 2, { inMode .configure with dram.hostBlocks := [(1, 0x1000000000, 4096)] }, by first | decide | (unfold Allowed; decide)⟩,
   ⟨r0, 0x1000000000, 0x100B000000, 16, withRegions (inMode .configure), by first | decide | (unfold Allowed; decide)⟩,
   ⟨r0, 0x1000000000, 2 ^ 24 - 1, inMode .configure, by first | decide | (unfold Allowed; decide)⟩,
   ⟨r0, 0x2000000000, 0x100B000000, 16, withRegions (inMode .configure), by first | decide | (unfold Allowed; decide)⟩,
   ⟨{ code := 0x0B03, req := r0, args := [0x1000000000, 0x1000001000, 4] }, 0x1000000000, 0x1000001000, 4, running (inMode .configure) 0x0B03 [0x1000000000, 0x1000001000, 4], by first | decide | (unfold Allowed; decide)⟩,
   ⟨{ code := 0x0B04, req := r0, args := [0x1000000000, 0x1000000000, 4] }, 0x1000000000, 0x1000000000, 4, running (inMode .configure) 0x0B04 [0x1000000000, 0x1000000000, 4], by first | decide | (unfold Allowed; decide)⟩⟩

theorem wit_FirmwareIsWrittenVerifiedAndActivated :
    (∃ (q : Req) (src offset len : Nat) (first last : Bool) (s : State), (Allowed q s .cfgWeb false) ∧ (s.isRunning 0x0901 = false) ∧ ((if first = true then offset = 0 else (getN s.fw.slots (1 - s.sys.fwSlot) {}).state = 1 ∧ (getN s.fw.slots (1 - s.sys.fwSlot) {}).nextOffset = offset)) ∧ ((len = 0 ∨ s.rangeOf src len = some 6)) ∧ (offset + len ≤ 0x400000)) ∧
    (∃ (q : Req) (src offset len : Nat) (first last : Bool) (s : State), (Allowed q s .cfgWeb false) ∧ (s.isRunning 0x0901 = false) ∧ ((if first = true then offset = 0 else (getN s.fw.slots (1 - s.sys.fwSlot) {}).state = 1 ∧ (getN s.fw.slots (1 - s.sys.fwSlot) {}).nextOffset = offset)) ∧ ((len = 0 ∨ s.rangeOf src len = some 6)) ∧ (offset + len ≤ 0x400000)) ∧
    (∃ (q : Req) (src offset len : Nat) (last : Bool) (s : State), (Allowed q s .cfgWeb false) ∧ (s.isRunning 0x0901 = false) ∧ (offset ≠ 0)) ∧
    (∃ (src offset len : Nat) (last : Bool) (r : Running) (s : State), (s.fw.writing = some (src, offset, len, last)) ∧ (s.runningCmd 0x0901 = some r) ∧ (s.fw.slots.length = 2) ∧ (s.sys.fwSlot < 2)) ∧
    (∃ (q : Req) (slot : Nat) (reset : Bool) (s : State), (Allowed q s .op false) ∧ (slot < 2) ∧ ((getN s.fw.slots slot {}).state = 2)) ∧
    (∃ (q : Req) (slot : Nat) (reset : Bool) (s : State), (Allowed q s .op false) ∧ (slot < 2) ∧ ((getN s.fw.slots slot {}).state = 2)) ∧
    (∃ (q : Req) (slot : Nat) (s : State), (Allowed q s .op false) ∧ (slot < 2) ∧ ((getN s.fw.slots slot {}).state ≠ 2)) :=
  ⟨⟨r0, 0x1000000000, 0, 0x400000, true, false, inMode .configure, by first | decide | (unfold Allowed; decide)⟩,
   ⟨r0, 0, 64, 0, false, true, { inMode .configure with fw.slots := [{}, { state := 1, nextOffset := 64 }] }, by first | decide | (unfold Allowed; decide)⟩,
   ⟨r0, 0, 1, 0, true, inMode .configure, by first | decide | (unfold Allowed; decide)⟩,
   ⟨0x1000000000, 0, 4, true, { code := 0x0901, req := r0 }, { running (inMode .configure) 0x0901 [] with fw.writing := some (0x1000000000, 0, 4, true) }, by first | decide | (unfold Allowed; decide)⟩,
   ⟨r0, 1, false, { inMode .configure with fw.slots := [{}, { state := 2 }] }, by first | decide | (unfold Allowed; decide)⟩,
   ⟨r0, 0, true, { inMode .configure with fw.slots := [{ state := 2 }, {}] }, by first | decide | (unfold Allowed; decide)⟩,
   ⟨r0, 1, inMode .configure, by first | decide | (unfold Allowed; decide)⟩⟩

theorem wit_KeysLifeCycleAndTestPort :
    (∃ (q : Req) (slot : Nat) (key : List Byte) (s : State), (Allowed q s .cfg false) ∧ (slot < 8)) ∧
    (∃ (q : Req) (target : Nat) (s : State), (Allowed q s .cfg false) ∧ (lcPermits s.fuse.lifeCycle target = true) ∧ ((target = 2 → s.sys.patched = true ∧ s.profile.current.testProt ≠ 0))) ∧
    (∃ (q : Req) (target : Nat) (s : State), (Allowed q s .cfg false) ∧ (lcPermits s.fuse.lifeCycle target = true) ∧ ((target = 2 → s.sys.patched = true ∧ s.profile.current.testProt ≠ 0))) ∧
    (∃ (q : Req) (target : Nat) (s : State), (Allowed q s .cfg false) ∧ (lcPermits s.fuse.lifeCycle target = true) ∧ ((target = 2 → s.sys.patched = true ∧ s.profile.current.testProt ≠ 0))) ∧
    (∃ (q : Req) (target confirm : Nat) (s : State), (Allowed q s .cfg false) ∧ (confirm ≠ 0x4C435354)) ∧
    (∃ (q : Req) (target : Nat) (s : State), (Allowed q s .cfg false) ∧ (lcPermits s.fuse.lifeCycle target = false)) ∧
    (∃ (q : Req) (target : Nat) (s : State), (Allowed q s .cfg false) ∧ (lcPermits s.fuse.lifeCycle target = false)) ∧
    (∃ s : State, s.webRunning = true) ∧
    (∃ s : State, s.webRunning = false) :=
  ⟨⟨r0, 7, List.replicate 32 0, inMode .configure, by first | decide | (unfold Allowed; decide)⟩,
   ⟨r0, 2, { inMode .configure with sys.patched := true }, by first | decide | (unfold Allowed; decide)⟩,
   ⟨r0, 5, inMode .configure, by first | decide | (unfold Allowed; decide)⟩,
   ⟨r0, 4, { inMode .configure with fuse.lifeCycle := 3 }, by first | decide | (unfold Allowed; decide)⟩,
   ⟨r0, 2, 0, inMode .configure, by first | decide | (unfold Allowed; decide)⟩,
   ⟨r0, 1, inMode .configure, by first | decide | (unfold Allowed; decide)⟩,
   ⟨r0, 3, inMode .configure, by first | decide | (unfold Allowed; decide)⟩,
   ⟨inMode .inspect, by first | decide | (unfold Allowed; decide)⟩,
   ⟨inMode .standby, by first | decide | (unfold Allowed; decide)⟩⟩

theorem wit_MailboxesTakeServeAndAnswer :
    (∃ (n value : Nat) (s : State), 2 ≤ value) ∧
    (∃ (n value : Nat) (s : State), (value < 2) ∧ (2 ≤ n ∨ value = 0)) ∧
    (∃ (n value : Nat) (s : State), (value < 2) ∧ (2 ≤ n ∨ value = 0)) ∧
    (∃ (n : Nat) (s : State), n < 2) ∧
    (∃ (n : Nat) (s : State), s.keeperNext ≠ some n) ∧
    (∃ (n : Nat) (r : Request) (s : State), (s.keeperNext = some n) ∧ (s.offered n = some r)) ∧
    (∃ (n : Nat) (r : Request) (s : State), (s.keeperNext = some n) ∧ (s.offered n = some r)) ∧
    (∃ (n : Nat) (r : Response) (rest : List Response) (s : State), (n < 2) ∧ ((s.mailbox n).executed = r :: rest) ∧ ((s.mailbox n).discard = 0) ∧ ((s.mailbox n).rspValid = false) ∧ (s.hif.mbx.length = 4)) ∧
    (∃ (n : Nat) (s : State), (n < 2) ∧ ((s.mailbox n).rspValid = true) ∧ ((s.mailbox n).discard = 0)) ∧
    (∃ (n : Nat) (s : State), (s.mailbox n).executed = []) ∧
    (∃ (r : Response) (rest : List Response) (s : State), ((s.mailbox 2).executed = r :: rest) ∧ ((s.mailbox 2).discard = 0) ∧ (s.hif.mbx.length = 4)) ∧
    (∃ (r : Response) (rest : List Response) (s : State), ((s.mailbox 3).executed = r :: rest) ∧ ((s.mailbox 3).discard = 0) ∧ (s.hif.mbx.length = 4)) ∧
    (∃ (n : Nat) (s : State) (r : Request), s.keeperNext = some n ∧ s.offered n = some r ∧ s.requestCheck n r = none) ∧
    (∃ (n : Nat) (s : State) (r : Request), s.keeperNext = some n ∧ s.offered n = some r ∧ (s.requestCheck n r).isSome = true) ∧
    (∃ (n : Nat) (s : State) (r : Request), s.requestCheck n r = none ∧ r.reservedSet = true) :=
  ⟨⟨0, 2, State.reset, by first | decide | (unfold Allowed; decide)⟩,
   ⟨2, 1, State.reset, by first | decide | (unfold Allowed; decide)⟩,
   ⟨0, 0, State.reset, by first | decide | (unfold Allowed; decide)⟩,
   ⟨1, State.reset, by first | decide | (unfold Allowed; decide)⟩,
   ⟨0, State.reset, by first | decide | (unfold Allowed; decide)⟩,
   ⟨2, { cmd := 0, seq := 1, len := 0 }, { inMode .standby with hif.udpQueue := [{ cmd := 0, seq := 1, len := 0 }] }, by first | decide | (unfold Allowed; decide)⟩,
   ⟨0, ((State.offered ((inMode .standby).updMbx 0 (fun m => { m with reqBusy := true })) 0).getD default), (inMode .standby).updMbx 0 (fun m => { m with reqBusy := true }), by first | decide | (unfold Allowed; decide)⟩,
   ⟨1, { status := 0, cmd := 0, seq := 1, detail := 0 }, [], (inMode .standby).updMbx 1 (fun m => { m with executed := [{ status := 0, cmd := 0, seq := 1, detail := 0 }] }), by first | decide | (unfold Allowed; decide)⟩,
   ⟨0, (inMode .standby).updMbx 0 (fun m => { m with rspValid := true }), by first | decide | (unfold Allowed; decide)⟩,
   ⟨0, State.reset, by first | decide | (unfold Allowed; decide)⟩,
   ⟨{ status := 0, cmd := 0, seq := 1, detail := 0 }, [], (inMode .standby).updMbx 2 (fun m => { m with executed := [{ status := 0, cmd := 0, seq := 1, detail := 0 }] }), by first | decide | (unfold Allowed; decide)⟩,
   ⟨{ status := 0, cmd := 0, seq := 1, detail := 0 }, [], (inMode .standby).updMbx 3 (fun m => { m with executed := [{ status := 0, cmd := 0, seq := 1, detail := 0 }] }), by first | decide | (unfold Allowed; decide)⟩,
   ⟨2, { inMode .standby with hif.udpQueue := [{ cmd := 0, seq := 1, len := 0 }] }, { cmd := 0, seq := 1, len := 0 }, by first | decide | (unfold Allowed; decide)⟩,
   ⟨2, { inMode .standby with hif.udpQueue := [{ cmd := 0xFFFF, seq := 1, len := 0 }] }, { cmd := 0xFFFF, seq := 1, len := 0 }, by first | decide | (unfold Allowed; decide)⟩,
   ⟨0, inMode .standby, { cmd := 0, seq := 1, len := 0, hostVersion := 0x01000000 + 1, flags := 1 }, by first | decide | (unfold Allowed; decide)⟩⟩

theorem wit_UdpRequestsAreQueuedOnce :
    (∃ (a p : Nat) (data : List Byte) (f l : Bool) (s : State), s.profile.current.f 0x8030 0 0x0C 31 0 0 = 0) ∧
    (∃ (a p : Nat) (data : List Byte) (f l : Bool) (s : State), (s.profile.current.f 0x8030 0 0x0C 31 0 0 ≠ 0) ∧ (s.profile.current.allows a = false)) ∧
    (∃ (a p : Nat) (data : List Byte) (s : State), (s.profile.current.f 0x8030 0 0x0C 31 0 0 ≠ 0) ∧ (s.profile.current.allows a = true)) ∧
    (∃ (o : Out) (s : State), (s.fault.netUnusable = false) ∧ (s.net.ports.any (·.link) = true)) ∧
    (∃ (a p : Nat) (data : List Byte) (s : State), (s.profile.current.f 0x8030 0 0x0C 31 0 0 ≠ 0) ∧ (s.profile.current.allows a = true) ∧ (s.hif.fragments = none)) ∧
    (∃ (a p : Nat) (data : List Byte) (g : Fragments) (s : State), (s.profile.current.f 0x8030 0 0x0C 31 0 0 ≠ 0) ∧ (s.profile.current.allows a = true) ∧ (s.hif.fragments = some g) ∧ (g.srcAddr = a) ∧ (g.srcPort = p) ∧ ((g.data ++ data).length ≤ 4096)) ∧
    (∃ (a p : Nat) (data : List Byte) (g : Fragments) (s : State), (s.profile.current.f 0x8030 0 0x0C 31 0 0 ≠ 0) ∧ (s.profile.current.allows a = true) ∧ (s.hif.fragments = some g) ∧ (g.srcAddr = a) ∧ (g.srcPort = p) ∧ ((g.data ++ data).length ≤ 4096)) ∧
    (∃ (a p : Nat) (data : List Byte) (s : State), s.profile.current.f 0x8030 0 0x0C 31 0 0 ≠ 0 ∧ s.profile.current.allows a = true ∧ (s.hif.udpLast.find? (fun x => x.1 == (a, p) && x.2.seq == (requestOf data s.hif.hostVersion a p (some (data.length - 16))).seq)).isSome = true) ∧
    (∃ (a p : Nat) (data : List Byte) (s : State), s.profile.current.f 0x8030 0 0x0C 31 0 0 ≠ 0 ∧ s.profile.current.allows a = true ∧ s.hif.udpLast = [] ∧ s.hif.udpQueue.length = 8 ∧ s.hif.udpQueue.any (fun q => q.srcAddr == a && q.srcPort == p && q.seq == (requestOf data s.hif.hostVersion a p (some (data.length - 16))).seq) = false ∧ (s.mailbox 2).taken = [] ∧ (s.mailbox 2).executed = []) :=
  ⟨⟨0, 0, [], true, true, State.reset, by first | decide | (unfold Allowed; decide)⟩,
   ⟨0x0A000003, 0, [], true, true, withProfile (inMode .configure) [netSec], by first | decide | (unfold Allowed; decide)⟩,
   ⟨0x0A000002, 47800, [], withProfile (inMode .configure) [netSec], by first | decide | (unfold Allowed; decide)⟩,
   ⟨.msix 0, { State.reset with net.ports := [{ link := true }, {}] }, by first | decide | (unfold Allowed; decide)⟩,
   ⟨0x0A000002, 47800, [], withProfile (inMode .configure) [netSec], by first | decide | (unfold Allowed; decide)⟩,
   ⟨0x0A000002, 47800, [], { srcAddr := 0x0A000002, srcPort := 47800, data := [] }, { withProfile (inMode .configure) [netSec] with hif.fragments := some { srcAddr := 0x0A000002, srcPort := 47800, data := [] } }, by first | decide | (unfold Allowed; decide)⟩,
   ⟨0x0A000002, 47800, List.replicate 4096 0, { srcAddr := 0x0A000002, srcPort := 47800, data := [] }, { withProfile (inMode .configure) [netSec] with hif.fragments := some { srcAddr := 0x0A000002, srcPort := 47800, data := [] } }, by first | decide | (unfold Allowed; decide)⟩,
   ⟨0x0A000002, 47800, leBytes 16 0, { withProfile (inMode .configure) [netSec] with hif.udpLast := [((0x0A000002, 47800), { status := 0, cmd := 0, seq := 0, detail := 0 })] }, by first | decide | (unfold Allowed; decide)⟩,
   ⟨0x0A000002, 47800, leBytes 16 0, { withProfile (inMode .configure) [netSec] with hif.udpQueue := List.replicate 8 { cmd := 0, seq := 1, len := 0 } }, by first | decide | (unfold Allowed; decide)⟩⟩

theorem wit_InterruptsWindowVersionAndLink :
    (∃ (v : Word) (i : Nat) (s : State), (i < 32) ∧ (s.hif.irqStatus < 2 ^ 32)) ∧
    (∃ (v : Word) (i : Nat) (s : State), (i < 32) ∧ (s.hif.irqStatus < 2 ^ 32)) ∧
    (∃ (k : Nat) (s : State), (k < 32) ∧ (s.hif.msixTable.length = 128)) ∧
    (∃ (v : Word) (s : State), v.toNat % 2 ^ 16 / 2 = 0) ∧
    (∃ (v : Word) (s : State), v.toNat % 2 ^ 16 / 2 = 0) ∧
    (∃ (v : Word) (s : State), v.toNat % 2 ^ 16 / 2 ≠ 0) ∧
    (∃ (k : Nat) (s : State), k < 32 ∧ s.hif.msixTable.length = 128 ∧ bitAt s.hif.pba k = true ∧ bitAt s.hif.irqStatus k = true ∧ bitAt s.hif.irqMask k = false ∧ s.hif.msixEnable = true ∧ s.hif.linkUp = true) :=
  ⟨⟨1, 0, State.reset, by first | decide | (unfold Allowed; decide)⟩,
   ⟨1, 31, State.reset, by first | decide | (unfold Allowed; decide)⟩,
   ⟨31, State.reset, by first | decide | (unfold Allowed; decide)⟩,
   ⟨0x01000001, State.reset, by first | decide | (unfold Allowed; decide)⟩,
   ⟨0x00000000, State.reset, by first | decide | (unfold Allowed; decide)⟩,
   ⟨2, State.reset, by first | decide | (unfold Allowed; decide)⟩,
   ⟨31, { State.reset with hif.pba := 2 ^ 31, hif.irqStatus := 2 ^ 31, hif.irqMask := 0, hif.msixEnable := true, hif.linkUp := true }, by first | decide | (unfold Allowed; decide)⟩⟩

theorem wit_RecordRingsAndPlainRegisters :
    (∃ (k : Nat) (v : Word) (s : State), (k < 8) ∧ ((s.ring k).sizeLog2 = 0)) ∧
    (∃ (k : Nat) (v : Word) (s : State), (k < 8) ∧ ((s.ring k).sizeLog2 ≠ 0)) ∧
    (∃ (k : Nat) (rec : Rec) (rest : List Rec) (s : State), (k < 8) ∧ (s.recs.rings.length = 8) ∧ ((s.ring k).inflight = rec :: rest) ∧ (s.mem.wf = true)) ∧
    (∃ (k i : Nat) (s : State), (i < (s.ring k).size) ∧ (s.mem.wf = true) ∧ (k < s.recs.rings.length)) ∧
    (∃ (k : Nat) (rec : Rec) (rest : List Rec) (s : State), ((s.ring k).spill = rec :: rest) ∧ (s.entryFree (s.ring k) (s.ring k).inflight.length = true)) ∧
    (∃ (k : Nat) (s : State), ((s.ring k).timerUs ≠ 0) ∧ ((s.ring k).announced ≠ 0)) ∧
    (∃ (k : Nat) (v : Word) (s : State), k < 8) ∧
    (∃ (n : Nat) (s : State), n < 4) ∧
    (∃ (n o : Nat) (v : Word) (s : State), (n < 2) ∧ (o < 0x1000) ∧ (o % 4 = 0) ∧ ((s.mailbox n).reqBusy = false)) ∧
    (∃ (k : Nat) (v : Word) (s : State), k < 8 ∧ (s.ring k).sizeLog2 = 0 ∧ 6 ≤ v.toNat ∧ v.toNat ≤ 20 ∧ s.ringInDram (s.ring k) v.toNat = true) ∧
    (∃ (k : Nat) (v : Word) (s : State), k < 8 ∧ (s.ring k).sizeLog2 = 0 ∧ 6 ≤ v.toNat ∧ v.toNat ≤ 20 ∧ s.ringInDram (s.ring k) v.toNat = true) :=
  ⟨⟨7, 0, State.reset, by first | decide | (unfold Allowed; decide)⟩,
   ⟨0, 0, ringOn State.reset, by first | decide | (unfold Allowed; decide)⟩,
   ⟨0, { typ := 1 }, [], (ringOn State.reset).updRing 0 (fun r => { r with inflight := [{ typ := 1 }] }), by first | decide | (unfold Allowed; decide)⟩,
   ⟨0, 63, ringOn State.reset, by first | decide | (unfold Allowed; decide)⟩,
   ⟨0, { typ := 1 }, [], put ((ringOn State.reset).updRing 0 (fun r => { r with spill := [{ typ := 1 }] })) 0x1000000000 (leBytes 4 0x80000000), by first | decide | (unfold Allowed; decide)⟩,
   ⟨0, State.reset.updRing 0 (fun r => { r with timerUs := 1, announced := 1 }), by first | decide | (unfold Allowed; decide)⟩,
   ⟨7, 0, State.reset, by first | decide | (unfold Allowed; decide)⟩,
   ⟨3, State.reset, by first | decide | (unfold Allowed; decide)⟩,
   ⟨1, 0xFFC, 0, State.reset, by first | decide | (unfold Allowed; decide)⟩,
   ⟨0, 6, State.reset.updRing 0 (fun r => { r with baseHi := 0x10 }), by first | decide | (unfold Allowed; decide)⟩,
   ⟨7, 20, State.reset.updRing 7 (fun r => { r with baseHi := 0x10 }), by first | decide | (unfold Allowed; decide)⟩⟩

theorem wit_HostChannelsRunPauseAndAbort :
    (∃ (c : Nat) (s : State), (8 ≤ c) ∧ (c ≤ 15) ∧ (s.dma.chan.length = 8) ∧ ((s.dmaChan c).sizeLog2 ≠ 0)) ∧
    (∃ (c : Nat) (s : State), (8 ≤ c) ∧ (c ≤ 15) ∧ (s.dma.chan.length = 8)) ∧
    (∃ (c : Nat) (s : State), (8 ≤ c) ∧ (c ≤ 15) ∧ (s.dma.chan.length = 8)) ∧
    (∃ (c : Nat) (s : State), (8 ≤ c) ∧ (c ≤ 15) ∧ (s.dma.chan.length = 8)) ∧
    (∃ (c done : Nat) (s : State), (8 ≤ c) ∧ (c ≤ 15) ∧ (s.dma.chan.length = 8) ∧ ((s.dmaChan c).run = .draining) ∧ ((s.dmaChan c).abort = false)) ∧
    (∃ (c : Nat) (corrected : List Nat) (d : DmaDesc) (s : State), (8 ≤ c) ∧ (c ≤ 15) ∧ (s.dma.chan.length = 8) ∧ (s.mem.wf = true) ∧ ((s.dmaChan c).run = .draining) ∧ ((s.dmaChan c).abort = false) ∧ ((s.dmaChan c).cur = some d)) ∧
    (∃ (c : Nat) (ecc : Option Nat) (corrected : List Nat) (d : DmaDesc) (s : State), (8 ≤ c) ∧ (c ≤ 15) ∧ (s.dma.chan.length = 8) ∧ ((s.dmaChan c).run = .running) ∧ ((s.dmaChan c).cur = some d)) ∧
    (∃ (c : Instr) (s : State), (s.dma.chan.length = 8) ∧ ((c = .pcieFlr ∨ c = .perstAssert))) ∧
    (∃ (c : Instr) (s : State), (s.dma.chan.length = 8) ∧ ((c = .pcieFlr ∨ c = .perstAssert))) ∧
    (∃ (c : Nat) (s : State), 8 ≤ c ∧ c ≤ 15 ∧ s.dma.chan.length = 8 ∧ (s.dmaChan c).sizeLog2 ≠ 0 ∧ (s.dmaChan c).run = .idle ∧ (s.dmaChan c).pause = false ∧ s.dmaRingOk (s.dmaChan c) = false) ∧
    (∃ (c : Nat) (s : State), 8 ≤ c ∧ c ≤ 15 ∧ s.dma.chan.length = 8 ∧ (s.dmaChan c).sizeLog2 ≠ 0 ∧ (s.dmaChan c).run = .idle ∧ (s.dmaChan c).pause = false ∧ s.dmaRingOk (s.dmaChan c) = true ∧ bitAt (wordAt (s.read (s.dmaChan c).addr 32) 0) 31 = false) ∧
    (∃ (c : Nat) (s : State), 8 ≤ c ∧ c ≤ 15 ∧ s.dma.chan.length = 8 ∧ (s.dmaChan c).sizeLog2 ≠ 0 ∧ (s.dmaChan c).run = .idle ∧ (s.dmaChan c).pause = false ∧ s.dmaRingOk (s.dmaChan c) = true ∧ bitAt (wordAt (s.read (s.dmaChan c).addr 32) 0) 31 = true ∧ dmaReserved (s.read (s.dmaChan c).addr 32) = false ∧ s.dmaMisuse (dmaDescOf (s.read (s.dmaChan c).addr 32)) = none) ∧
    (∃ (c : Nat) (s : State), 8 ≤ c ∧ c ≤ 15 ∧ s.dma.chan.length = 8 ∧ (s.dmaChan c).sizeLog2 ≠ 0 ∧ ((s.dmaChan c).run ≠ .idle ∨ (s.dmaChan c).pause = true)) ∧
    (∃ (c : Nat) (s : State), 8 ≤ c ∧ c ≤ 15 ∧ s.dma.chan.length = 8 ∧ (s.dmaChan c).run = .paused ∧ (s.dmaChan c).standbyPaused = false ∧ (s.dmaChan c).cur.isSome = true) ∧
    (∃ (c : Nat) (s : State), 8 ≤ c ∧ c ≤ 15 ∧ s.dma.chan.length = 8 ∧ (s.dmaChan c).run = .running) ∧
    (∃ (c : Nat) (s : State), 8 ≤ c ∧ c ≤ 15 ∧ s.dma.chan.length = 8 ∧ (s.dmaChan c).run = .paused ∧ (s.dmaChan c).resetDue = false) ∧
    (∃ (c : Nat) (s : State), 8 ≤ c ∧ c ≤ 15 ∧ (s.dmaChan c).run = .idle ∧ s.dmaRingOk (s.dmaChan c) = true ∧ bitAt (wordAt (s.read (s.dmaChan c).addr 32) 0) 31 = true ∧ dmaReserved (s.read (s.dmaChan c).addr 32) = true) ∧
    (∃ (c r : Nat) (s : State), 8 ≤ c ∧ c ≤ 15 ∧ (s.dmaChan c).run = .idle ∧ s.dmaRingOk (s.dmaChan c) = true ∧ bitAt (wordAt (s.read (s.dmaChan c).addr 32) 0) 31 = true ∧ dmaReserved (s.read (s.dmaChan c).addr 32) = false ∧ s.dmaMisuse (dmaDescOf (s.read (s.dmaChan c).addr 32)) = some r) :=
  ⟨⟨8, chanOn (inMode .configure) (fun k => k), by first | decide | (unfold Allowed; decide)⟩,
   ⟨8, State.reset, by first | decide | (unfold Allowed; decide)⟩,
   ⟨15, State.reset, by first | decide | (unfold Allowed; decide)⟩,
   ⟨15, State.reset, by first | decide | (unfold Allowed; decide)⟩,
   ⟨8, 0, chanOn (inMode .configure) (fun k => { k with run := .draining }), by first | decide | (unfold Allowed; decide)⟩,
   ⟨8, [], { op := 1, irq := false, len := 0, src := 0, dst := 0, pattern := 0 }, chanOn (inMode .configure) (fun k => { k with run := .draining, cur := some { op := 1, irq := false, len := 0, src := 0, dst := 0, pattern := 0 } }), by first | decide | (unfold Allowed; decide)⟩,
   ⟨8, none, [], { op := 1, irq := false, len := 0, src := 0, dst := 0, pattern := 0 }, chanOn (inMode .configure) (fun k => { k with run := .running, cur := some { op := 1, irq := false, len := 0, src := 0, dst := 0, pattern := 0 } }), by first | decide | (unfold Allowed; decide)⟩,
   ⟨.pcieFlr, State.reset, ⟨by decide, .inl rfl⟩⟩,
   ⟨.perstAssert, State.reset, ⟨by decide, .inr rfl⟩⟩,
   ⟨15, State.reset.updDma 15 (fun k => { k with sizeLog2 := 4 }), by first | decide | (unfold Allowed; decide)⟩,
   ⟨8, chanOn (inMode .configure) (fun k => k), by first | decide | (unfold Allowed; decide)⟩,
   ⟨8, put (chanOn (inMode .configure) (fun k => k)) 0x100B000000 (leBytes 4 0x80000001), by first | decide | (unfold Allowed; decide)⟩,
   ⟨8, chanOn (inMode .configure) (fun k => { k with pause := true }), by first | decide | (unfold Allowed; decide)⟩,
   ⟨8, chanOn (inMode .configure) (fun k => { k with run := .paused, cur := some { op := 1, irq := false, len := 0, src := 0, dst := 0, pattern := 0 } }), by first | decide | (unfold Allowed; decide)⟩,
   ⟨8, chanOn (inMode .configure) (fun k => { k with run := .running }), by first | decide | (unfold Allowed; decide)⟩,
   ⟨8, chanOn (inMode .configure) (fun k => { k with run := .paused }), by first | decide | (unfold Allowed; decide)⟩,
   ⟨8, put (chanOn (inMode .configure) (fun k => k)) 0x100B000000 (leBytes 4 0x80000801), by first | decide | (unfold Allowed; decide)⟩,
   ⟨8, 488, put (chanOn (inMode .configure) (fun k => k)) 0x100B000000 (leBytes 4 0x80000007), by first | decide | (unfold Allowed; decide)⟩⟩

theorem wit_ChannelRingRegistersWriteOnlyWhileIdle :
    (∃ (c offset : Nat) (v : Word) (s : State), (8 ≤ c) ∧ (c ≤ 15) ∧ (s.dma.chan.length = 8) ∧ ((offset = 0 ∧ v.toNat % 32 = 0 ∨ offset = 4 ∧ v.toNat / 2 ^ 21 = 0 ∧ v.toNat / 2 ^ 8 % 2 ^ 8 = 0 ∧ (v.toNat / 2 ^ 16 = 0 ∨ 4 ≤ v.toNat / 2 ^ 16 ∧ v.toNat / 2 ^ 16 ≤ 16)))) ∧
    (∃ (c offset : Nat) (v : Word) (s : State), (8 ≤ c) ∧ (c ≤ 15) ∧ (s.dma.chan.length = 8) ∧ ((offset = 0 ∧ v.toNat % 32 = 0 ∨ offset = 4 ∧ v.toNat / 2 ^ 21 = 0 ∧ v.toNat / 2 ^ 8 % 2 ^ 8 = 0 ∧ (v.toNat / 2 ^ 16 = 0 ∨ 4 ≤ v.toNat / 2 ^ 16 ∧ v.toNat / 2 ^ 16 ≤ 16)))) ∧
    (∃ (c offset : Nat) (v : Word) (s : State), (8 ≤ c) ∧ (c ≤ 15) ∧ (s.dma.chan.length = 8) ∧ ((offset = 0 ∧ v.toNat % 32 = 0 ∨ offset = 4 ∧ v.toNat / 2 ^ 21 = 0 ∧ v.toNat / 2 ^ 8 % 2 ^ 8 = 0 ∧ (v.toNat / 2 ^ 16 = 0 ∨ 4 ≤ v.toNat / 2 ^ 16 ∧ v.toNat / 2 ^ 16 ≤ 16)))) ∧
    (∃ (c offset : Nat) (v : Word) (s : State), (8 ≤ c) ∧ (c ≤ 15) ∧ (s.dma.chan.length = 8) ∧ ((offset = 0 ∧ v.toNat % 32 = 0 ∨ offset = 4 ∧ v.toNat / 2 ^ 21 = 0 ∧ v.toNat / 2 ^ 8 % 2 ^ 8 = 0 ∧ (v.toNat / 2 ^ 16 = 0 ∨ 4 ≤ v.toNat / 2 ^ 16 ∧ v.toNat / 2 ^ 16 ≤ 16)))) :=
  ⟨⟨8, 0, 0xFFFFFFE0, State.reset, by first | decide | (unfold Allowed; decide)⟩,
   ⟨15, 4, 0x00040010, State.reset, by first | decide | (unfold Allowed; decide)⟩,
   ⟨8, 4, 0x00100010, State.reset, by first | decide | (unfold Allowed; decide)⟩,
   ⟨8, 4, 0x00000010, chanOn (inMode .configure) (fun k => { k with run := .running }), by first | decide | (unfold Allowed; decide)⟩⟩

theorem wit_HostAccessesReadAndWriteTheWindow :
    (∃ (offset len : Nat) (data : List Byte) (s : State), (s.hif.linkUp = true) ∧ (1 ≤ len) ∧ (len ≤ 512) ∧ (offset + len ≤ 2 ^ 30) ∧ ((s.rangeOf (s.hif.winBase + offset) len).isSome = true) ∧ (s.hostVisible (s.hif.winBase + offset) len false = true)) ∧
    (∃ (offset len : Nat) (data : List Byte) (s : State), (s.hif.linkUp = true) ∧ (1 ≤ len) ∧ (len ≤ 512) ∧ (offset + len ≤ 2 ^ 30) ∧ ((s.rangeOf (s.hif.winBase + offset) len).isSome = true) ∧ (s.hostVisible (s.hif.winBase + offset) len false = true)) ∧
    (∃ (offset len : Nat) (data : List Byte) (s : State), (s.hif.linkUp = true) ∧ (1 ≤ data.length) ∧ (data.length ≤ 512) ∧ (offset + data.length ≤ 2 ^ 30) ∧ (s.mem.wf = true) ∧ ((s.rangeOf (s.hif.winBase + offset) data.length).isSome = true) ∧ (s.hostVisible (s.hif.winBase + offset) data.length true = true) ∧ (s.writeMisuse (s.hif.winBase + offset) data = none) ∧ ((data.length = 4 → bitAt (ofLe data) 31 = false))) ∧
    (∃ (offset len : Nat) (data : List Byte) (s : State), (s.hif.linkUp = true) ∧ (1 ≤ data.length) ∧ (data.length ≤ 512) ∧ (offset + data.length ≤ 2 ^ 30) ∧ (s.mem.wf = true) ∧ ((s.rangeOf (s.hif.winBase + offset) data.length).isSome = true) ∧ (s.hostVisible (s.hif.winBase + offset) data.length true = true) ∧ (s.writeMisuse (s.hif.winBase + offset) data = none) ∧ ((data.length = 4 → bitAt (ofLe data) 31 = false))) ∧
    (∃ (w : Bool) (offset len : Nat) (data : List Byte) (s : State), (s.hif.linkUp = true) ∧ (1 ≤ (if w = true then data.length else len)) ∧ ((if w = true then data.length else len) ≤ 512) ∧ (offset + (if w = true then data.length else len) ≤ 2 ^ 30)) ∧
    (∃ (w : Bool) (offset len : Nat) (data : List Byte) (s : State), (s.hif.linkUp = true) ∧ (1 ≤ (if w = true then data.length else len)) ∧ ((if w = true then data.length else len) ≤ 512) ∧ (offset + (if w = true then data.length else len) ≤ 2 ^ 30)) ∧
    (∃ (w : Bool) (offset len : Nat) (data : List Byte) (s : State), s.hif.linkUp = true) ∧
    (∃ (w : Bool) (offset len : Nat) (data : List Byte) (s : State), s.hif.linkUp = false) ∧
    (∃ (lead index : Nat) (s : State), (index < (s.queueOf lead).size) ∧ (s.mem.wf = true)) ∧
    (∃ (offset len : Nat) (s : State), s.hif.linkUp = true ∧ 1 ≤ len ∧ len ≤ 512 ∧ offset + len ≤ 2 ^ 30 ∧ s.rangeOf (s.hif.winBase + offset) len = none) ∧
    (∃ (offset : Nat) (data : List Byte) (s : State), s.hif.linkUp = true ∧ 1 ≤ data.length ∧ data.length ≤ 512 ∧ offset + data.length ≤ 2 ^ 30 ∧ (s.rangeOf (s.hif.winBase + offset) data.length).isSome = true ∧ s.hostVisible (s.hif.winBase + offset) data.length true = false) ∧
    (∃ (offset : Nat) (data : List Byte) (s : State), s.hif.linkUp = true ∧ 1 ≤ data.length ∧ data.length ≤ 512 ∧ offset + data.length ≤ 2 ^ 30 ∧ s.hostVisible (s.hif.winBase + offset) data.length true = true ∧ s.dmaHeld (s.hif.winBase + offset) data.length = false ∧ s.handsOver (s.hif.winBase + offset) data = false ∧ s.ownedMisuse (s.hif.winBase + offset) data.length = some 342) ∧
    (∃ (lead index : Nat) (s : State), index < (s.queueOf lead).size ∧ s.mem.wf = true ∧ s.entryOwned (s.queueOf lead) index = true) ∧
    (∃ (lead index : Nat) (s : State), index < (s.queueOf lead).size ∧ s.mem.wf = true ∧ s.entryOwned (s.queueOf lead) index = false) ∧
    (∃ (s : State), s.hif.linkUp = true ∧ s.sys.mode = .safeHold) :=
  ⟨⟨0, 512, [], { inMode .configure with hif.linkUp := true, hif.winHi := 0x10 }, by first | decide | (unfold Allowed; decide)⟩,
   ⟨2 ^ 30 - 1, 1, [], { inMode .configure with hif.linkUp := true, hif.winHi := 0x10 }, by first | decide | (unfold Allowed; decide)⟩,
   ⟨0, 0, [1], { withRegions (inMode .configure) with hif.linkUp := true, hif.winHi := 0x10, hif.winLo := 0xB0 }, by first | decide | (unfold Allowed; decide)⟩,
   ⟨0, 0, leBytes 4 0x7FFFFFFF, { withRegions (inMode .configure) with hif.linkUp := true, hif.winHi := 0x10, hif.winLo := 0xB0 }, by first | decide | (unfold Allowed; decide)⟩,
   ⟨true, 0x3FFFFFFF, 0, [1], { inMode .configure with hif.linkUp := true, hif.winHi := 0x10 }, by first | decide | (unfold Allowed; decide)⟩,
   ⟨false, 0, 512, [], { inMode .configure with hif.linkUp := true, hif.winHi := 0x10 }, by first | decide | (unfold Allowed; decide)⟩,
   ⟨true, 0, 0, [1], { inMode .configure with hif.linkUp := true }, by first | decide | (unfold Allowed; decide)⟩,
   ⟨true, 0, 0, [], State.reset, by first | decide | (unfold Allowed; decide)⟩,
   ⟨0, 0, { State.reset with print.queue := updAt State.reset.print.queue 0 (fun q => { q with base := some 0x1000000000, sizeLog2 := 4 }) }, by first | decide | (unfold Allowed; decide)⟩,
   ⟨0, 1, { inMode .configure with hif.linkUp := true, hif.winHi := 0x20 }, by first | decide | (unfold Allowed; decide)⟩,
   ⟨0, [1], { inMode .configure with hif.linkUp := true, hif.winHi := 0x10 }, by first | decide | (unfold Allowed; decide)⟩,
   ⟨0, [1], put { { State.reset with print.queue := updAt State.reset.print.queue 0 (fun q => { q with base := some 0x1000000000, sizeLog2 := 4 }) } with sys.mode := .configure, hif.linkUp := true, hif.winHi := 0x10 } 0x1000000000 (leBytes 4 0x80000000), by first | decide | (unfold Allowed; decide)⟩,
   ⟨0, 15, put ({ State.reset with print.queue := updAt State.reset.print.queue 0 (fun q => { q with base := some 0x1000000000, sizeLog2 := 4 }) }) 0x10000003C0 (leBytes 4 0x80000000), by first | decide | (unfold Allowed; decide)⟩,
   ⟨0, 15, { State.reset with print.queue := updAt State.reset.print.queue 0 (fun q => { q with base := some 0x1000000000, sizeLog2 := 4 }) }, by first | decide | (unfold Allowed; decide)⟩,
   ⟨{ inMode .safeHold with hif.linkUp := true }, by first | decide | (unfold Allowed; decide)⟩⟩

theorem wit_DecksAreLoadedStagedAndSwapped :
    (∃ (q : Req) (addr len slot k : Nat) (s : State), (Allowed q s .op false) ∧ (s.loadSlot slot = .ok k) ∧ (s.deck.slots.length = 16) ∧ (k < 16)) ∧
    (∃ (q : Req) (addr len slot k : Nat) (s : State), (Allowed q s .op false) ∧ (s.loadSlot slot = .ok k) ∧ (s.deck.slots.length = 16) ∧ (k < 16)) ∧
    (∃ (q : Req) (addr len slot : Nat) (r : Reply) (s : State), (Allowed q s .op false) ∧ (s.loadSlot slot = .error r)) ∧
    (∃ (q : Req) (handle k : Nat) (copies : List (Nat × Bool)) (s : State), (Allowed q s .op false) ∧ (s.slotOf handle = some k) ∧ (s.deck.swap = none) ∧ (s.oldHalfBusy = false) ∧ (s.stageCheckNow ((s.slotDeck k).getD {}) = none)) ∧
    (∃ (q : Req) (s : State), (Allowed q s .op false) ∧ (s.deck.swap = none) ∧ (s.deck.staged.isSome = true)) ∧
    (∃ (q : Req) (k : Nat) (s : State), (Allowed q s .nw false) ∧ (s.deck.staged = some k)) ∧
    (∃ (q : Req) (ws : Int) (s : State), (Allowed q s .web false) ∧ (s.leads = false) ∧ (s.follows = false) ∧ (s.armRefuse ws false = none)) ∧
    (∃ (q : Req) (ws : Int) (s : State), (Allowed q s .web false) ∧ (s.leads = true) ∧ (s.armRefuse ws true = none) ∧ (s.follows = false)) ∧
    (∃ (q : Req) (s : State), (Allowed q s .web false) ∧ (s.followRefuse q = none) ∧ (s.cancelRefuse = none)) ∧
    (∃ (q : Req) (handle k : Nat) (s : State), (Allowed q s .op false) ∧ (s.slotOf handle = some k) ∧ (s.slotHeld k = false)) ∧
    (∃ (q : Req) (handle k : Nat) (s : State), (Allowed q s .op false) ∧ (s.slotOf handle = some k) ∧ (s.slotHeld k = true)) ∧
    (∃ (q : Req) (addr len : Nat) (s : State), Allowed q s .cfg false) ∧
    (∃ (addr len : Nat) (s : State), Allowed r0 s .op false ∧ s.containerInDram addr len = false) ∧
    (∃ (addr len : Nat) (s : State) (e : Nat × Nat), s.containerInDram addr len = true ∧ (parseContainer false (memRead s.mem addr (min len (2 ^ 24)))).1 = some e) ∧
    (∃ (addr len : Nat) (s : State), s.containerInDram addr len = true ∧ (parseContainer false (memRead s.mem addr (min len (2 ^ 24)))).1 = none) ∧
    (∃ (addr len : Nat) (s : State) (e : Nat × Nat), s.containerInDram addr len = true ∧ (parseContainer true (memRead s.mem addr (min len (2 ^ 24)))).1 = some e) ∧
    (∃ (addr len : Nat) (s : State), s.containerInDram addr len = true ∧ (parseContainer true (memRead s.mem addr (min len (2 ^ 24)))).1 = none ∧ s.profileRefuse (parseContainer true (memRead s.mem addr (min len (2 ^ 24)))).2 = none) ∧
    (∃ (s : State) (p : Container) (x : Reply), s.profileRefuse p = some x) ∧
    (∃ (addr len : Nat) (s : State), s.containerInDram addr len = true ∧ (parseContainer false (memRead s.mem addr (min len (2 ^ 24)))).1 = none ∧ s.headerReserved addr = true) ∧
    (∃ (r : Nat) (s : State), s.stageMisuse ((s.slotDeck 0).getD {}) = some r) ∧
    (∃ (m : Nat) (p : Container), p.profileMisuse = some m) :=
  ⟨⟨r0, 0, 0, 15, 15, inMode .configure, ⟨⟨by decide, by decide⟩, rfl, by decide, by decide⟩⟩,
   ⟨r0, 0x1000000000, 104, 0xFF, 0, put (inMode .configure) 0x1000000000 deckBytes, ⟨⟨by decide, by decide⟩, rfl, by decide, by decide⟩⟩,
   ⟨r0, 0, 0, 16, (.fail .notFound 0), inMode .configure, ⟨⟨by decide, by decide⟩, rfl⟩⟩,
   ⟨r0, 0x10000, 0, [], withDeck (withRegions (inMode .configure)) [printSec], by first | decide | (unfold Allowed; decide)⟩,
   ⟨r0, stageIn (withDeck (withRegions (inMode .configure)) [printSec]) [printSec], by first | decide | (unfold Allowed; decide)⟩,
   ⟨r0, 1, stageIn (withDeck (withRegions (inMode .configure)) [printSec]) [printSec], by first | decide | (unfold Allowed; decide)⟩,
   ⟨r0, 1000000000, stageIn (withDeck (withRegions (inMode .inspect)) [printSec]) [printSec], by first | decide | (unfold Allowed; decide)⟩,
   ⟨r0, 1000000000, { stageIn (withDeck (withRegions (inMode .inspect)) [printSec]) [printSec] with vdRole := 1, vd.pair := 2 }, by first | decide | (unfold Allowed; decide)⟩,
   ⟨r0, { stageIn (withDeck (withRegions (inMode .inspect)) [printSec]) [printSec] with deck.swap := some { ws := 1000000000, switchLine := 1000, slot := 1, waiting := [.camera] } }, by first | decide | (unfold Allowed; decide)⟩,
   ⟨r0, 0x10000, 0, { withDeck (withRegions (inMode .configure)) [printSec] with deck.active := none }, by first | decide | (unfold Allowed; decide)⟩,
   ⟨r0, 0x10000, 0, withDeck (withRegions (inMode .configure)) [printSec], by first | decide | (unfold Allowed; decide)⟩,
   ⟨r0, 0, 0, inMode .configure, by first | decide | (unfold Allowed; decide)⟩,
   ⟨0x2000000000, 4, inMode .configure, by first | decide | (unfold Allowed; decide)⟩,
   ⟨0x1000000000, 64, inMode .configure, (7, 0x01000000), by first | decide | (unfold Allowed; decide)⟩,
   ⟨0x1000000000, 104, put (inMode .configure) 0x1000000000 deckBytes, by first | decide | (unfold Allowed; decide)⟩,
   ⟨0x1000000000, 64, inMode .configure, (7, 0x01000000), by first | decide | (unfold Allowed; decide)⟩,
   ⟨0x1000000000, 88, put (inMode .configure) 0x1000000000 profBytes, by first | decide | (unfold Allowed; decide)⟩,
   ⟨inMode .configure, { length := 448 * 1024 + 4 }, resource 0x10 449, by first | decide | (unfold Allowed; decide)⟩,
   ⟨0x1000000000, 104, put (inMode .configure) 0x1000000000 badDeckBytes, by first | decide | (unfold Allowed; decide)⟩,
   ⟨15, withDeck (withRegions (inMode .configure)) [sec 0x0001 0 8 [(0x08, 0x80000002), (0x0C, 1000), (0x10, 1024), (0x14, 3)]], by first | decide | (unfold Allowed; decide)⟩,
   ⟨46, { sections := [sec 0x8010 0 102 [(0x18, 0x80000000)]] }, by first | decide | (unfold Allowed; decide)⟩⟩

theorem wit_ReferencesAreCommittedAndLearned :
    (∃ (q : Req) (len k a : Nat) (s : State), (Allowed q s .op false) ∧ (s.reg.slots.length = 8) ∧ (s.freeRef = some k) ∧ (s.allocBlock 2 s.refUsed len = some a)) ∧
    (∃ (q : Req) (len : Nat) (s : State), (Allowed q s .op false) ∧ (s.freeRef = none)) ∧
    (∃ (q : Req) (handle k : Nat) (s : State), (Allowed q s .op false) ∧ (s.refOf handle = some k)) ∧
    (∃ (r : Running) (k : Nat) (s : State), (s.runningCmd 0x0201 = some r) ∧ (r.args = [k]) ∧ (k < s.reg.slots.length)) ∧
    (∃ (q : Req) (handle k : Nat) (s : State), (Allowed q s .op false) ∧ (s.refOf handle = some k) ∧ (s.reg.slots.length = 8) ∧ (k < 8)) ∧
    (∃ (q : Req) (refId refRev lines k : Nat) (s : State), (Allowed q s .lm false) ∧ (s.isRunning 0x0204 = false) ∧ (s.freeRef = some k) ∧ (k < s.reg.slots.length) ∧ (256 ≤ lines) ∧ (lines ≤ 1048576) ∧ (Learn.taken { slot := 0, refId := 0, refRev := 0, lines := lines, width := (s.activeDeck.getD {}).width, nrep := 1, epoch := 0 } < s.ringData false)) ∧
    (∃ (q : Req) (refId refRev lines k : Nat) (s : State), (Allowed q s .lm false) ∧ (s.isRunning 0x0204 = false) ∧ (s.freeRef = some k) ∧ (lines < 256 ∨ 1048576 < lines) ∧ (Learn.taken { slot := 0, refId := 0, refRev := 0, lines := lines, width := (s.activeDeck.getD {}).width, nrep := 1, epoch := 0 } < s.ringData false)) ∧
    (∃ (q : Req) (refId refRev lines k : Nat) (s : State), (Allowed q s .lm false) ∧ (s.isRunning 0x0204 = false) ∧ (s.freeRef = some k) ∧ (lines < 256 ∨ 1048576 < lines) ∧ (Learn.taken { slot := 0, refId := 0, refRev := 0, lines := lines, width := (s.activeDeck.getD {}).width, nrep := 1, epoch := 0 } < s.ringData false)) ∧
    (∃ (q : Req) (l : Learn) (s : State), (Allowed q s .lm false) ∧ (s.reg.learn = some l) ∧ (l.slot < s.reg.slots.length)) ∧
    (∃ (q : Req) (s : State), (Allowed q s .lm false) ∧ (s.reg.learn = none)) ∧
    (∃ (l : Learn) (a : Nat) (s : State), (s.reg.learn = some l) ∧ (l.encoding = true) ∧ (l.slot < s.reg.slots.length) ∧ (s.allocBlock 2 s.refUsed (s.learnedObject (s.deckOf l.epoch) l).length = some a)) ∧
    (∃ (l : Learn) (s : State), (s.reg.learn = some l) ∧ (l.encoding = false)) ∧
    (∃ (handle k : Nat) (s : State), s.refOf handle = some k ∧ (s.refSlot k).st = .failed ∧ s.isRunning 0x0201 = false ∧ s.reg.slots.length = 8) ∧
    (∃ (handle k : Nat) (s : State), s.refOf handle = some k ∧ (s.refSlot k).st = .checking ∧ s.isRunning 0x0201 = false ∧ s.reg.slots.length = 8) ∧
    (∃ (handle k : Nat) (s : State), s.refOf handle = some k ∧ (s.refSlot k).st = .learning ∧ s.isRunning 0x0201 = false ∧ s.reg.slots.length = 8) ∧
    (∃ (handle k : Nat) (s : State), s.refOf handle = some k ∧ (s.refSlot k).st = .ready ∧ s.isRunning 0x0201 = false ∧ s.reg.slots.length = 8) ∧
    (∃ (s : State), checkObject (s.read (s.refSlot 0).addr (s.refSlot 0).len) (s.refSlot 0).len = none) ∧
    (∃ (s : State), (checkObject (s.read (s.refSlot 0).addr (s.refSlot 0).len) (s.refSlot 0).len).isSome = true) ∧
    (∃ (handle k : Nat) (s : State), s.refOf handle = some k ∧ (s.refSlot k).st ≠ .checking ∧ s.deck.refActive = some k) ∧
    (∃ (handle k : Nat) (s : State), s.refOf handle = some k ∧ (s.refSlot k).st ≠ .checking ∧ (s.refSlot k).st ≠ .learning ∧ s.deck.refActive ≠ some k ∧ s.deck.refStaged ≠ some k) ∧
    (∃ (r : Running) (k m : Nat) (s : State), s.runningCmd 0x0201 = some r ∧ r.args = [k] ∧ k < s.reg.slots.length ∧ checkObject (s.read (s.refSlot k).addr (s.refSlot k).len) (s.refSlot k).len = none ∧ objectMisuse (s.read (s.refSlot k).addr (s.refSlot k).len) = some m) :=
  ⟨⟨r0, 0, 0, 0x1002000000, withRegions (inMode .configure), by first | decide | (unfold Allowed; decide)⟩,
   ⟨r0, 0, { inMode .configure with reg.slots := List.replicate 8 { st := .ready } }, by first | decide | (unfold Allowed; decide)⟩,
   ⟨r0, 0x10000, 0, refIn (inMode .configure) { gen := 1, addr := 0x1000000000, len := 140, st := .allocated }, by first | decide | (unfold Allowed; decide)⟩,
   ⟨{ code := 0x0201, req := r0, args := [0] }, 0, running (refIn (inMode .configure) { gen := 1, addr := 0x1000000000, len := 140, st := .checking }) 0x0201 [0], by first | decide | (unfold Allowed; decide)⟩,
   ⟨r0, 0x10000, 0, refIn (inMode .configure) { gen := 1, addr := 0x1000000000, len := 140, st := .ready }, by first | decide | (unfold Allowed; decide)⟩,
   ⟨r0, 1, 1, 256, 0, withDeck (withRegions (inMode .learn)) [], by first | decide | (unfold Allowed; decide)⟩,
   ⟨r0, 1, 1, 255, 0, withDeck (withRegions (inMode .learn)) [], by first | decide | (unfold Allowed; decide)⟩,
   ⟨r0, 1, 1, 1048577, 0, { withDeck (withRegions (inMode .learn)) [] with dram.regions := (upto 12).map (fun r => (0x1000000000 + 2 ^ 44 * r, 2 ^ 44)) }, by first | decide | (unfold Allowed; decide)⟩,
   ⟨r0, { slot := 0, refId := 1, refRev := 1, lines := 0, width := 0, nrep := 1, epoch := 0 }, { inMode .makeready with reg.learn := some { slot := 0, refId := 1, refRev := 1, lines := 0, width := 0, nrep := 1, epoch := 0 } }, by first | decide | (unfold Allowed; decide)⟩,
   ⟨r0, inMode .learn, by first | decide | (unfold Allowed; decide)⟩,
   ⟨{ slot := 0, refId := 1, refRev := 1, lines := 0, width := 0, nrep := 1, epoch := 0, encoding := true }, 0x1002000000, { withRegions (inMode .learn) with reg.learn := some { slot := 0, refId := 1, refRev := 1, lines := 0, width := 0, nrep := 1, epoch := 0, encoding := true } }, by first | decide | (unfold Allowed; decide)⟩,
   ⟨{ slot := 0, refId := 1, refRev := 1, lines := 0, width := 0, nrep := 1, epoch := 0 }, { inMode .learn with reg.learn := some { slot := 0, refId := 1, refRev := 1, lines := 0, width := 0, nrep := 1, epoch := 0 } }, by first | decide | (unfold Allowed; decide)⟩,
   ⟨0x10000, 0, refIn (inMode .configure) { gen := 1, addr := 0x1000000000, len := 140, st := .failed }, by first | decide | (unfold Allowed; decide)⟩,
   ⟨0x10000, 0, refIn (inMode .configure) { gen := 1, addr := 0x1000000000, len := 140, st := .checking }, by first | decide | (unfold Allowed; decide)⟩,
   ⟨0x10000, 0, refIn (inMode .configure) { gen := 1, addr := 0x1000000000, len := 140, st := .learning }, by first | decide | (unfold Allowed; decide)⟩,
   ⟨0x10000, 0, refIn (inMode .configure) { gen := 1, addr := 0x1000000000, len := 140, st := .ready }, by first | decide | (unfold Allowed; decide)⟩,
   ⟨put (refIn (inMode .configure) { gen := 1, addr := 0x1000000000, len := 140, st := .checking }) 0x1000000000 objBytes, by first | decide | (unfold Allowed; decide)⟩,
   ⟨refIn (inMode .configure) { gen := 1, addr := 0x1000000000, len := 140, st := .checking }, by first | decide | (unfold Allowed; decide)⟩,
   ⟨0x10000, 0, { refIn (inMode .configure) { gen := 1, st := .ready } with deck.refActive := some 0 }, by first | decide | (unfold Allowed; decide)⟩,
   ⟨0x10000, 0, refIn (inMode .configure) { gen := 1, addr := 0x1000000000, len := 140, st := .ready }, by first | decide | (unfold Allowed; decide)⟩,
   ⟨{ code := 0x0201, req := r0, args := [0] }, 0, (objectMisuse badObjBytes).getD 0, put (running (refIn (inMode .configure) { gen := 1, addr := 0x1000000000, len := 140, st := .checking }) 0x0201 [0]) 0x1000000000 badObjBytes, by first | decide | (unfold Allowed; decide)⟩⟩

theorem wit_ExposureAndCalibrationRun :
    (∃ (q : Req) (e : ExposureReq) (s : State), (Allowed q s .webCal false) ∧ (exposureRefuse e s = none) ∧ (e.camera < s.intake.cam.length) ∧ (e.immediate = true)) ∧
    (∃ (q : Req) (e : ExposureReq) (n : Nat) (s : State), (Allowed q s .webCal false) ∧ (exposureRefuse e s = none) ∧ (e.camera < s.intake.cam.length) ∧ (e.immediate = false) ∧ (n = s.reachable (bitAt e.mask 3) (s.camDeck.latch e.camera) (s.camDeck.nreg e.camera)) ∧ ((s.cam e.camera).changes.find? (fun ch => ch.target == n) = none)) ∧
    (∃ (q : Req) (e : ExposureReq) (r : Reply) (s : State), (Allowed q s .webCal false) ∧ (exposureRefuse e s = some r)) ∧
    (∃ (q : Req) (e : ExposureReq) (r : Reply) (s : State), (Allowed q s .webCal false) ∧ (exposureRefuse e s = some r)) ∧
    (∃ (q : Req) (t code : Nat) (s : State), (Allowed q s .ops false) ∧ (tdacRefuse t s = none) ∧ (t < s.cal.code.length)) ∧
    (∃ (q : Req) (t code : Nat) (s : State), (Allowed q s .ops false) ∧ (tdacRefuse t s = none) ∧ (t < s.cal.code.length)) ∧
    (∃ (q : Req) (white : Bool) (ports : Nat) (s : State), (Allowed q s .cal false) ∧ (calFlatRefuse white ports s = none)) ∧
    (∃ (ph : CalPhase) (s : State), s.cal.phase = some ph) ∧
    (∃ (q : Req) (dest port : Nat) (x : Nat × Nat) (s : State), (Allowed q s .op false) ∧ (s.profile.current.portCam port = some x) ∧ (s.isRunning 0x0304 = false) ∧ (s.destMisuse dest 262144 = none)) ∧
    (∃ (q : Req) (dest port m : Nat) (x : Nat × Nat) (s : State), (Allowed q s .op false) ∧ (s.profile.current.portCam port = some x) ∧ (s.isRunning 0x0304 = false) ∧ (s.destMisuse dest 262144 = some m)) ∧
    (∃ (q : Req) (dest port m : Nat) (x : Nat × Nat) (s : State), (Allowed q s .op false) ∧ (s.profile.current.portCam port = some x) ∧ (s.isRunning 0x0304 = false) ∧ (s.destMisuse dest 262144 = some m)) ∧
    (∃ (dest port : Nat) (s : State), s.cal.reading = some (dest, port)) ∧
    (∃ (q : Req) (camera aw dw addr value v : Nat) (s : State), (Allowed q s .cfgDiag false) ∧ (s.profile.current.portsEn camera = true)) ∧
    (∃ (st : StripStats) (s : State), s.stats.latest = some st) ∧
    (∃ (ph : CalPhase) (s : State), s.cal.phase = some ph ∧ (bitsSet 24 ph.ports).all (fun p => ph.ended s.camDeck.ffLines p) = true) ∧
    (∃ (ph : CalPhase) (s : State), s.cal.phase = some ph ∧ (bitsSet 24 ph.ports).all (fun p => ph.ended s.camDeck.ffLines p) = false) ∧
    (∃ (st : StripStats) (s : State), s.stats.latest = some st ∧ s.stats.loopDue = true ∧ s.webRunning = true ∧ st.cams.all (fun e => !e.mixed && e.gen == (s.cam e.cam).gen) = true) ∧
    (∃ (st : StripStats) (s : State), s.stats.latest = some st ∧ (s.stats.loopDue = false ∨ s.webRunning = false)) :=
  ⟨⟨r0, { e0 with immediate := true, mask := 1 }, withDeck (camOn (inMode .inspect)) [sec 0x0020 0 76 [(0x10, 0x80000000)]], by first | decide | (unfold Allowed; decide)⟩,
   ⟨r0, e0, (State.reachable (camOn (inMode .inspect)) (bitAt e0.mask 3) ((State.camDeck (camOn (inMode .inspect))).latch 0) ((State.camDeck (camOn (inMode .inspect))).nreg 0)), camOn (inMode .inspect), by first | decide | (unfold Allowed; decide)⟩,
   ⟨r0, e0, (.fail .notFound 3), inMode .inspect, by first | decide | (unfold Allowed; decide)⟩,
   ⟨r0, { e0 with immediate := true, mask := 1 }, (.fail .denied 1), camOn (inMode .inspect), by first | decide | (unfold Allowed; decide)⟩,
   ⟨r0, 47, 0xFFF, inMode .inspect, by first | decide | (unfold Allowed; decide)⟩,
   ⟨r0, 0, 0, inMode .configure, by first | decide | (unfold Allowed; decide)⟩,
   ⟨r0, false, 1, camOn (inMode .calibrate), by first | decide | (unfold Allowed; decide)⟩,
   ⟨{ white := false, ports := 1 }, { camOn (inMode .calibrate) with cal.phase := some { white := false, ports := 1 } }, by first | decide | (unfold Allowed; decide)⟩,
   ⟨r0, 0x100B000000, 0, (0, 0), withRegions (camOn (inMode .configure)), by first | decide | (unfold Allowed; decide)⟩,
   ⟨r0, 0x2000000000, 0, 32, (0, 0), withRegions (camOn (inMode .configure)), by first | decide | (unfold Allowed; decide)⟩,
   ⟨r0, 0x1000000000, 0, 427, (0, 0), withRegions (camOn (inMode .configure)), by first | decide | (unfold Allowed; decide)⟩,
   ⟨0, 0, { State.reset with cal.reading := some (0, 0) }, by first | decide | (unfold Allowed; decide)⟩,
   ⟨r0, 0, 0, 0, 0, 0, 5, camOn (inMode .configure), by first | decide | (unfold Allowed; decide)⟩,
   ⟨{ strip := 0, epoch := 0 }, { State.reset with stats.latest := some { strip := 0, epoch := 0 } }, by first | decide | (unfold Allowed; decide)⟩,
   ⟨{ white := false, ports := 1, failed := 1 }, { State.reset with cal.phase := some { white := false, ports := 1, failed := 1 } }, by first | decide | (unfold Allowed; decide)⟩,
   ⟨{ white := false, ports := 1 }, { State.reset with cal.phase := some { white := false, ports := 1 } }, by first | decide | (unfold Allowed; decide)⟩,
   ⟨{ strip := 0, epoch := 0 }, { inMode .inspect with stats.latest := some { strip := 0, epoch := 0 }, stats.loopDue := true }, by first | decide | (unfold Allowed; decide)⟩,
   ⟨{ strip := 0, epoch := 0 }, { State.reset with stats.latest := some { strip := 0, epoch := 0 } }, by first | decide | (unfold Allowed; decide)⟩⟩

theorem wit_PrintCommandsActOnQueuesAndHeads :
    (∃ (q : Req) (lead sizeLog2 base : Nat) (s : State), (Allowed q s .op false) ∧ (lead < s.print.queue.length) ∧ (queueRefuse lead sizeLog2 s = none)) ∧
    (∃ (q : Req) (lead sizeLog2 base : Nat) (s : State), (Allowed q s .op false) ∧ (lead < s.print.queue.length) ∧ (queueRefuse lead sizeLog2 s = none)) ∧
    (∃ (q : Req) (lead index : Nat) (s : State), (Allowed q s .prt false) ∧ (lead < s.print.queue.length)) ∧
    (∃ (q : Req) (s : State), Allowed q s .nb false) ∧
    (∃ (q : Req) (lead : Nat) (shift : Int) (s : State), Allowed q s .web false) ∧
    (∃ (q : Req) (head : Nat) (s : State), (Allowed q s .nb false) ∧ (s.profile.current.headWired head = true)) ∧
    (∃ (q : Req) (head element : Nat) (accept : Bool) (s : State), (Allowed q s .prt false) ∧ (head < s.print.head.length) ∧ ((s.head head).elemState element = 2)) ∧
    (∃ (q : Req) (head element : Nat) (s : State), (Allowed q s .op false) ∧ (head < s.print.head.length) ∧ (s.profile.current.headWired head = true) ∧ (element < s.profile.current.elements head) ∧ (element ≠ 0xFFFF)) ∧
    (∃ (q : Req) (head element : Nat) (s : State), (Allowed q s .op false) ∧ (head < s.print.head.length) ∧ (s.profile.current.headWired head = true) ∧ (element < s.profile.current.elements head) ∧ (element ≠ 0xFFFF)) ∧
    (∃ (q : Req) (head : Nat) (s : State), (Allowed q s .op false) ∧ (head < s.print.head.length) ∧ (chipRefuse 0x0413 head s = none) ∧ ((s.head head).chip.writeDue = false)) ∧
    (∃ (q : Req) (head id : Nat) (key : List Byte) (s : State), (Allowed q s .op false) ∧ (head < s.print.head.length) ∧ (chipRefuse 0x0415 head s = none) ∧ ((s.head head).chip.chipId = some id) ∧ (s.headKey head = some key)) ∧
    (∃ (lead index : Nat) (i : PrintItem) (s : State), lead < s.print.queue.length ∧ (s.queueOf lead).items.find? (fun i => i.index == index) = some i ∧ i.started = true) ∧
    (∃ (lead index : Nat) (i : PrintItem) (s : State), lead < s.print.queue.length ∧ (s.queueOf lead).items.find? (fun i => i.index == index) = some i ∧ i.started = false) ∧
    (∃ (lead index : Nat) (s : State), lead < s.print.queue.length ∧ (s.queueOf lead).items.find? (fun i => i.index == index) = none ∧ s.entryOwned (s.queueOf lead) index = false) ∧
    (∃ (s : State), Allowed r0 s .nb false ∧ s.print.estop = true) ∧
    (∃ (s : State), Allowed r0 s .nb false ∧ s.print.estop = false) ∧
    (∃ (s : State) (lead : Nat), Allowed r0 s .web false ∧ s.camDeck.headUsed s.profile.current lead = true ∧ s.camDeck.groupLead lead = lead ∧ s.camDeck.shiftSrc lead = 2) ∧
    (∃ (s : State) (lead : Nat), Allowed r0 s .web false ∧ s.camDeck.shiftSrc lead ≠ 2) :=
  ⟨⟨r0, 0, 16, 0x1000000000, withProfile (inMode .configure) [headSec], by first | decide | (unfold Allowed; decide)⟩,
   ⟨r0, 0, 0, 0x1000000000, withProfile (inMode .configure) [headSec], by first | decide | (unfold Allowed; decide)⟩,
   ⟨r0, 7, 0, withProfile (inMode .print) [headSec], by first | decide | (unfold Allowed; decide)⟩,
   ⟨r0, inMode .standby, by first | decide | (unfold Allowed; decide)⟩,
   ⟨r0, 0, 5, withProfile (inMode .print) [headSec], by first | decide | (unfold Allowed; decide)⟩,
   ⟨r0, 0, withProfile (inMode .configure) [headSec], by first | decide | (unfold Allowed; decide)⟩,
   ⟨r0, 0, 5, true, head0 (withProfile (inMode .print) [headSec]) (fun k => { k with elems := [(5, 2)] }), by first | decide | (unfold Allowed; decide)⟩,
   ⟨r0, 0, 2559, withProfile (inMode .configure) [headSec], by first | decide | (unfold Allowed; decide)⟩,
   ⟨r0, 0, 0, withProfile (inMode .configure) [headSec], by first | decide | (unfold Allowed; decide)⟩,
   ⟨r0, 0, withProfile (inMode .configure) [headSec], by first | decide | (unfold Allowed; decide)⟩,
   ⟨r0, 0, 7, [], { head0 (withProfile (inMode .configure) [headSec]) (fun k => { k with chip := { k.chip with chipId := some 7 } }) with fuse.keyRam := [some []] }, by first | decide | (unfold Allowed; decide)⟩,
   ⟨0, 5, { index := 5, epoch := 0, itemId := 1, row := 0, slot := 0, symb := 0, knockout := false, first := 0, height := 2, width := 1, xpos := 0, bitmap := 0, stride := 0, dataAddr := 0, dataLen := 0, started := true }, { withProfile (inMode .print) [headSec] with print.queue := updAt State.reset.print.queue 0 (fun q => { q with base := some 0x1000000000, sizeLog2 := 4, items := [{ index := 5, epoch := 0, itemId := 1, row := 0, slot := 0, symb := 0, knockout := false, first := 0, height := 2, width := 1, xpos := 0, bitmap := 0, stride := 0, dataAddr := 0, dataLen := 0, started := true }] }) }, by first | decide | (unfold Allowed; decide)⟩,
   ⟨0, 5, { index := 5, epoch := 0, itemId := 1, row := 0, slot := 0, symb := 0, knockout := false, first := 0, height := 2, width := 1, xpos := 0, bitmap := 0, stride := 0, dataAddr := 0, dataLen := 0 }, { withProfile (inMode .print) [headSec] with print.queue := updAt State.reset.print.queue 0 (fun q => { q with base := some 0x1000000000, sizeLog2 := 4, items := [{ index := 5, epoch := 0, itemId := 1, row := 0, slot := 0, symb := 0, knockout := false, first := 0, height := 2, width := 1, xpos := 0, bitmap := 0, stride := 0, dataAddr := 0, dataLen := 0 }] }) }, by first | decide | (unfold Allowed; decide)⟩,
   ⟨0, 4, { withProfile (inMode .print) [headSec] with print.queue := updAt State.reset.print.queue 0 (fun q => { q with base := some 0x1000000000, sizeLog2 := 4, items := [{ index := 5, epoch := 0, itemId := 1, row := 0, slot := 0, symb := 0, knockout := false, first := 0, height := 2, width := 1, xpos := 0, bitmap := 0, stride := 0, dataAddr := 0, dataLen := 0 }] }) }, by first | decide | (unfold Allowed; decide)⟩,
   ⟨{ inMode .print with print.estop := true }, by first | decide | (unfold Allowed; decide)⟩,
   ⟨inMode .print, by first | decide | (unfold Allowed; decide)⟩,
   ⟨withDeck (withProfile (inMode .print) [headSec]) [printSec, sec 0x0080 0 440 [(0, 0x80000000 + 0x80000), (0x4C, 64)]], 0, by first | decide | (unfold Allowed; decide)⟩,
   ⟨withProfile (inMode .print) [headSec], 0, by first | decide | (unfold Allowed; decide)⟩⟩

theorem wit_AreasAreFetchedAndClocksSet :
    (∃ (q : Req) (handle : Nat) (s : State), Allowed q s .op false) ∧
    (∃ (q : Req) (ov : Bool) (epoch first lines xpos pixels dest : Nat) (s : State), Allowed q s .op false) ∧
    (∃ (ov e first lines xpos pixels dest held : Nat) (bad : List (Nat × Nat × Nat)) (r : Running) (s : State), (s.runningCmd 0x0522 = some r) ∧ (r.args = [ov, e, first, lines, xpos, pixels, dest, held])) ∧
    (∃ (bad : List (Nat × Nat × Nat)) (s : State), s.runningCmd 0x0522 = none) ∧
    (∃ (q : Req) (s : State), Allowed q s .op false) ∧
    (∃ (q : Req) (time : Nat) (s : State), Allowed q s .ops false) ∧
    (∃ (q : Req) (step : Int) (incr : Nat) (applyStep applyIncr : Bool) (s : State), Allowed q s .ops false) ∧
    (∃ (handle : Nat) (s : State), Allowed r0 s .op false ∧ s.cropValid handle = true) ∧
    (∃ (handle : Nat) (s : State), Allowed r0 s .op false ∧ s.cropValid handle = false) ∧
    (∃ (s : State), Allowed r0 s .op false ∧ s.isRunning 0x0522 = true) ∧
    (∃ (s : State), Allowed r0 s .op false ∧ s.isRunning 0x0522 = false) ∧
    (∃ (s : State), s.areaHeld false 0 0 0 = true) ∧
    (∃ (s : State), Allowed r0 s .ops false ∧ s.servoActive = true) ∧
    (∃ (time : Nat) (s : State), Allowed r0 s .ops false ∧ s.servoActive = false ∧ time < 2 ^ 64) ∧
    (∃ (dest n m : Nat) (s : State), s.isRunning 0x0522 = false ∧ s.fetchMisuse dest n = some m) ∧
    (∃ (incr : Nat) (s : State), s.servoActive = false ∧ incr < 0x380000000) :=
  ⟨⟨r0, 0, inMode .configure, by first | decide | (unfold Allowed; decide)⟩,
   ⟨r0, false, 0, 0, 1, 0, 1, 0x1000000000, inMode .configure, by first | decide | (unfold Allowed; decide)⟩,
   ⟨0, 0, 0, 0, 0, 0, 0x1000000000, 1, [], { code := 0x0522, req := r0, args := [0, 0, 0, 0, 0, 0, 0x1000000000, 1] }, running (inMode .configure) 0x0522 [0, 0, 0, 0, 0, 0, 0x1000000000, 1], by first | decide | (unfold Allowed; decide)⟩,
   ⟨[(0, 0, 0)], State.reset, by first | decide | (unfold Allowed; decide)⟩,
   ⟨r0, inMode .configure, by first | decide | (unfold Allowed; decide)⟩,
   ⟨r0, 0, inMode .configure, by first | decide | (unfold Allowed; decide)⟩,
   ⟨r0, 0, 0, true, true, inMode .configure, by first | decide | (unfold Allowed; decide)⟩,
   ⟨0x10003, { inMode .configure with recs.cropHeld := [3], recs.cropGen := [(3, 1)] }, by first | decide | (unfold Allowed; decide)⟩,
   ⟨0x10004, { inMode .configure with recs.cropHeld := [3], recs.cropGen := [(3, 1)] }, by first | decide | (unfold Allowed; decide)⟩,
   ⟨running (inMode .configure) 0x0522 [0, 0, 0, 0, 0, 0, 0x1000000000, 1], by first | decide | (unfold Allowed; decide)⟩,
   ⟨inMode .configure, by first | decide | (unfold Allowed; decide)⟩,
   ⟨inMode .configure, by first | decide | (unfold Allowed; decide)⟩,
   ⟨{ withProfile (inMode .configure) [sec 0x8030 0 32 [(0x18, 1)]] with net.master := some default }, by first | decide | (unfold Allowed; decide)⟩,
   ⟨2 ^ 64 - 1, inMode .configure, by first | decide | (unfold Allowed; decide)⟩,
   ⟨0x2000000000, 4, 32, inMode .configure, by first | decide | (unfold Allowed; decide)⟩,
   ⟨0x37FFFFFFF, inMode .configure, by first | decide | (unfold Allowed; decide)⟩⟩

theorem wit_TheFabricCarriesEvents :
    (∃ (q : Req) (s : State), Allowed q s .nb false) ∧
    (∃ (q : Req) (enable disable : Nat) (s : State), Allowed q s .ns false) ∧
    (∃ (q : Req) (channel : Nat) (tag : Int) (s : State), 64 ≤ channel) ∧
    (∃ (q : Req) (channel : Nat) (tag : Int) (s : State), (Allowed q s .ns false) ∧ (channel < 64) ∧ (s.fault.trestleUnusable = false)) ∧
    (∃ (q : Req) (channel : Nat) (tag : Int) (s : State), (Allowed q s .ns false) ∧ (channel < 64) ∧ (s.fault.trestleUnusable = false)) ∧
    (∃ (parity : List Nat) (p : Pub) (rest : List Pub) (s : State), s.trestle.bus = p :: rest) ∧
    (∃ (parity : List Nat) (s : State), s.trestle.bus = []) ∧
    (∃ (pubs : List Pub) (c : Nat) (x : Carried), carriedOf pubs c = some x) ∧
    (∃ (r : Nat) (e : Event) (rest : List Event) (s : State), ((s.relay r).pending = e :: rest) ∧ (r < s.trestle.relays.length)) ∧
    (∃ (r : Nat) (s : State), (s.relay r).pending = []) ∧
    (∃ (ch code : Nat) (s : State), (ch < 32) ∧ (s.mon.chan.length = 32) ∧ (s.sys.inReset = false) ∧ (s.mon.running = true) ∧ (s.fault.monitorUnusable = false) ∧ (s.camDeck.monEn ch = true) ∧ (s.mon.swapDue = false)) ∧
    (∃ (ch code : Nat) (ecc : Bool) (s : State), s.sys.inReset = true ∨ s.mon.running = false ∨ s.camDeck.monEn ch = false) ∧
    (∃ (ch code : Nat) (ecc : Bool) (s : State), s.sys.inReset = true ∨ s.mon.running = false ∨ s.camDeck.monEn ch = false) ∧
    (∃ (ch code : Nat) (ecc : Bool) (s : State), s.sys.inReset = true ∨ s.mon.running = false ∨ s.camDeck.monEn ch = false) ∧
    (∃ (s : State), Allowed r0 s .ns false ∧ s.fault.trestleUnusable = false ∧ bitAt s.trestle.groups (63 / 8) = true) ∧
    (∃ (s : State), Allowed r0 s .ns false ∧ s.fault.trestleUnusable = false ∧ bitAt s.trestle.groups (63 / 8) = false) ∧
    (∃ (r : Nat) (e : Event) (s : State) (c : Nat), (s.relay r).pending = [e] ∧ r < s.trestle.relays.length ∧ s.relayReady r e = true ∧ s.camDeck.pubChannel (0x40 + r) = some c ∧ s.fabricRuns = true ∧ bitAt s.trestle.groups (c / 8) = true) ∧
    (∃ (r : Nat) (e : Event) (s : State), (s.relay r).pending = [e] ∧ r < s.trestle.relays.length ∧ s.relayReady r e = false) ∧
    (∃ (pin c : Nat) (s : State), getN s.pio.inLevel pin false = false ∧ pin < 32 ∧ s.fabricRuns = true ∧ s.camDeck.pubChannel (0x20 + pin) = some c ∧ bitAt s.trestle.groups (c / 8) = true) :=
  ⟨⟨r0, inMode .standby, by first | decide | (unfold Allowed; decide)⟩,
   ⟨r0, 0xFF, 1, inMode .configure, by first | decide | (unfold Allowed; decide)⟩,
   ⟨r0, 64, 0, State.reset, by first | decide | (unfold Allowed; decide)⟩,
   ⟨r0, 63, 0, inMode .configure, by first | decide | (unfold Allowed; decide)⟩,
   ⟨r0, 0, 5, { inMode .inspect with trestle.groups := 0 }, by first | decide | (unfold Allowed; decide)⟩,
   ⟨[], { producer := 0x40, channel := 0, hop := 1, origin := 0, epoch := 0, tag := 0, cycle := 0 }, [], { State.reset with trestle.bus := [{ producer := 0x40, channel := 0, hop := 1, origin := 0, epoch := 0, tag := 0, cycle := 0 }] }, by first | decide | (unfold Allowed; decide)⟩,
   ⟨[], State.reset, by first | decide | (unfold Allowed; decide)⟩,
   ⟨[{ producer := 0x40, channel := 0, hop := 1, origin := 0, epoch := 0, tag := 0, cycle := 0 }], 0, ((carriedOf [{ producer := 0x40, channel := 0, hop := 1, origin := 0, epoch := 0, tag := 0, cycle := 0 }] 0).getD default), by first | decide | (unfold Allowed; decide)⟩,
   ⟨0, { hop := 1, origin := 0, epoch := 0, tag := 0 }, [], { withDeck (inMode .inspect) [sec 0x0090 0 240 [(0x010, 0x05050505), (0x030, 0x05050505), (0x050, 0x05050505)]] with trestle.relays := updAt State.reset.trestle.relays 0 (fun r => { r with pending := [{ hop := 1, origin := 0, epoch := 0, tag := 0 }] }) }, by first | decide | (unfold Allowed; decide)⟩,
   ⟨15, State.reset, by first | decide | (unfold Allowed; decide)⟩,
   ⟨31, 0, { withDeck (inMode .inspect) [] with mon.running := true }, by first | decide | (unfold Allowed; decide)⟩,
   ⟨0, 0, false, { withDeck (inMode .inspect) [sec 0x00A1 0 100 []] with mon.running := true }, .inr (.inr (by decide))⟩,
   ⟨0, 0, false, { State.reset with mon.running := false }, .inr (.inl rfl)⟩,
   ⟨0, 0, false, { State.reset with sys.inReset := true }, .inl rfl⟩,
   ⟨inMode .configure, by first | decide | (unfold Allowed; decide)⟩,
   ⟨{ inMode .configure with trestle.groups := 0x7F }, by first | decide | (unfold Allowed; decide)⟩,
   ⟨0, { hop := 1, origin := 0, epoch := 0, tag := 0 }, { withDeck (inMode .inspect) [sec 0x0090 0 240 [(0x010, 0x05050505), (0x030, 0x05050505), (0x050, 0x05050505)]] with trestle.relays := updAt State.reset.trestle.relays 0 (fun r => { r with pending := [{ hop := 1, origin := 0, epoch := 0, tag := 0 }] }) }, 5, by first | decide | (unfold Allowed; decide)⟩,
   ⟨0, { hop := 1, origin := 0, epoch := 0, tag := 1000 }, { withDeck (inMode .inspect) [sec 0x0090 0 240 [(0x204, 1)]] with trestle.relays := updAt State.reset.trestle.relays 0 (fun r => { r with pending := [{ hop := 1, origin := 0, epoch := 0, tag := 1000 }] }) }, by first | decide | (unfold Allowed; decide)⟩,
   ⟨0, 5, { withDeck (inMode .inspect) [sec 0x0090 0 240 [(0x010, 0x05050505), (0x030, 0x05050505), (0x050, 0x05050505)]] with trestle.relays := updAt State.reset.trestle.relays 0 (fun r => { r with pending := [{ hop := 1, origin := 0, epoch := 0, tag := 0 }] }) }, by first | decide | (unfold Allowed; decide)⟩⟩

theorem wit_AxesMoveHomeAndStop :
    (∃ (q : Req) (axes profile : Nat) (relative interp : Bool) (targets : List Int) (s : State), (Allowed q s .ops false) ∧ (axesRefuse 0x0600 axes interp s = none)) ∧
    (∃ (q : Req) (axes : Nat) (s : State), (Allowed q s .ops false) ∧ (axesRefuse 0x0601 axes false s = none) ∧ ((∀ a ∈ bitsSet 6 axes, badProfile (s.camDeck.motionProfile (s.camDeck.homeProfile a)) = false ∧ s.camDeck.homeSlow a ≤ (s.camDeck.motionProfile (s.camDeck.homeProfile a)).1))) ∧
    (∃ (q : Req) (axes : Nat) (s : State), Allowed q s .nb true) ∧
    (∃ s : State, (∀ m ∈ s.motion.moves, m.rem = some 1 → m.stopping = false → s.stepNow m = s)) ∧
    (∃ s : State, (∀ m ∈ s.motion.moves, m.rem = some 1 → m.stopping = false → s.stepNow m = s)) ∧
    (∃ (m : Move) (s : State), (∀ n, m.dueIn = some n → s.now < m.base + n)) ∧
    (∃ (q : Req) (axes enable : Nat) (s : State), (Allowed q s .ops false) ∧ (s.motion.axis.length = 6)) ∧
    (∃ (a : Nat) (m : Move) (s : State), s.moveOf a = some m) ∧
    (∃ (a n : Nat) (m : Move) (s : State), (s.moveOf a = some m) ∧ (a < s.motion.axis.length) ∧ ((∀ f ∈ m.follow, f.1 ≠ a)) ∧ (n = (if m.frac ≥ stepUnit then 0 else ceilDiv (stepUnit - m.frac) m.v))) ∧
    (∃ (a : Nat) (s : State), s.moveOf a = none) ∧
    (∃ (a : Nat) (level : Bool) (s r : State), (r = (match s.moveOf a with | some m => s.stepNow m | none => s)) ∧ (a < r.motion.axis.length)) ∧
    (∃ (d : Container), badProfile (d.motionProfile 0) = true) ∧
    (∃ (d : Container), badProfile (d.motionProfile 15) = false) ∧
    (∃ (s : State), s.motion.axis.length = 6 ∧ s.print.estop = true) ∧
    (∃ (axes enable : Nat) (s : State), s.print.estop = false ∧ (∀ a ∈ bitsSet 6 axes, bitAt enable a = true ∨ s.moving a = false)) ∧
    (∃ (a : Nat) (m : Move) (s : State), s.moveOf a = some m ∧ m.frac + m.ticks * m.v < stepUnit) ∧
    (∃ (a : Nat) (m : Move) (s : State), s.moveOf a = some m ∧ stepUnit ≤ m.frac + m.ticks * m.v) ∧
    (∃ (a n : Nat) (m : Move) (s : State), s.moveOf a = some m ∧ a < s.motion.axis.length ∧ (∀ f ∈ m.follow, f.1 ≠ a) ∧ n = (if m.frac ≥ stepUnit then 0 else ceilDiv (stepUnit - m.frac) m.v) ∧ m.v ≠ 0 ∧ n ≤ m.ticks) ∧
    (∃ (a n : Nat) (m : Move) (s : State), s.moveOf a = some m ∧ a < s.motion.axis.length ∧ (∀ f ∈ m.follow, f.1 ≠ a) ∧ n = (if m.frac ≥ stepUnit then 0 else ceilDiv (stepUnit - m.frac) m.v) ∧ (m.v = 0 ∨ m.ticks < n)) ∧
    (∃ (a : Nat) (m : Move) (s : State), a < s.motion.axis.length ∧ s.moveOf a = some m ∧ m.kind = .home 1) ∧
    (∃ (a : Nat) (m : Move) (s : State), a < s.motion.axis.length ∧ s.moveOf a = some m ∧ m.kind = .home 2 ∧ m.stopping = false) ∧
    (∃ (a : Nat) (s : State), a < s.motion.axis.length ∧ s.moveOf a = none) :=
  ⟨⟨r0, 1, 0, false, false, [5, 0, 0, 0, 0, 0], axisOn (inMode .configure), by first | decide | (unfold Allowed; decide)⟩,
   ⟨r0, 1, axisOn (inMode .configure), by first | decide | (unfold Allowed; decide)⟩,
   ⟨{ r0 with mbx := 1 }, 0x3F, inMode .standby, by first | decide | (unfold Allowed; decide)⟩,
   ⟨State.reset, by first | decide | (unfold Allowed; decide)⟩,
   ⟨{ axisOn (inMode .configure) with motion.moves := [{ move0 with rem := some 1 }] }, by first | decide | (unfold Allowed; decide)⟩,
   ⟨{ move0 with frac := stepUnit - 204800000, base := 5 }, { State.reset with now := 204 }, fun n h => (Option.some.inj h) ▸ (by decide)⟩,
   ⟨r0, 1, 1, inMode .configure, by first | decide | (unfold Allowed; decide)⟩,
   ⟨0, move0, { axisOn (inMode .configure) with motion.moves := [move0] }, by first | decide | (unfold Allowed; decide)⟩,
   ⟨0, 0, { move0 with frac := stepUnit }, { axisOn (inMode .configure) with motion.moves := [{ move0 with frac := stepUnit }] }, by first | decide | (unfold Allowed; decide)⟩,
   ⟨5, State.reset, by first | decide | (unfold Allowed; decide)⟩,
   ⟨0, true, State.reset, State.reset, ⟨rfl, by decide⟩⟩,
   ⟨{ sections := [sec 0x00A0 0 88 []] }, by first | decide | (unfold Allowed; decide)⟩,
   ⟨{}, by first | decide | (unfold Allowed; decide)⟩,
   ⟨{ inMode .configure with print.estop := true }, by first | decide | (unfold Allowed; decide)⟩,
   ⟨0x3F, 0, inMode .configure, by first | decide | (unfold Allowed; decide)⟩,
   ⟨0, { move0 with frac := stepUnit - 204800001 }, { axisOn (inMode .configure) with motion.moves := [{ move0 with frac := stepUnit - 204800001 }] }, by first | decide | (unfold Allowed; decide)⟩,
   ⟨0, { move0 with frac := stepUnit - 204800000 }, { axisOn (inMode .configure) with motion.moves := [{ move0 with frac := stepUnit - 204800000 }] }, by first | decide | (unfold Allowed; decide)⟩,
   ⟨0, 200, { move0 with frac := stepUnit - 204800000 }, { axisOn (inMode .configure) with motion.moves := [{ move0 with frac := stepUnit - 204800000 }] }, by first | decide | (unfold Allowed; decide)⟩,
   ⟨0, 201, { move0 with frac := stepUnit - 204800001 }, { axisOn (inMode .configure) with motion.moves := [{ move0 with frac := stepUnit - 204800001 }] }, by first | decide | (unfold Allowed; decide)⟩,
   ⟨0, { move0 with kind := .home 1 }, { axisOn (inMode .configure) with motion.moves := [{ move0 with kind := .home 1 }] }, by first | decide | (unfold Allowed; decide)⟩,
   ⟨0, { move0 with kind := .home 2 }, { axisOn (inMode .configure) with motion.moves := [{ move0 with kind := .home 2 }] }, by first | decide | (unfold Allowed; decide)⟩,
   ⟨5, State.reset, by first | decide | (unfold Allowed; decide)⟩⟩

theorem wit_PositionInputsCount :
    (∃ (k t : Nat) (a b o : Bool) (s : State), 2 ≤ k ∨ s.profile.current.encEn k = false ∨ s.posRuns = false) ∧
    (∃ (k t : Nat) (a b o : Bool) (s : State), 2 ≤ k ∨ s.profile.current.encEn k = false ∨ s.posRuns = false) ∧
    (∃ (k t : Nat) (a b o : Bool) (s : State), 2 ≤ k ∨ s.profile.current.encEn k = false ∨ s.posRuns = false) ∧
    (∃ (k t0 : Nat) (a b : Bool) (n0 : Int) (s : State), (k < s.pos.enc.length) ∧ (k < 2) ∧ (s.profile.current.encEn k = true) ∧ (s.posRuns = true)) ∧
    (∃ (k t0 : Nat) (a b : Bool) (n0 : Int) (s : State), (k < s.pos.enc.length) ∧ (k < 2) ∧ (s.profile.current.encEn k = true) ∧ (s.posRuns = true)) ∧
    (∃ (k t0 : Nat) (a b : Bool) (s : State), (k < s.pos.enc.length) ∧ (k < 2) ∧ (s.profile.current.encEn k = true) ∧ (s.posRuns = true)) ∧
    (∃ (p : Container) (k t : Nat) (a b : Bool) (e : Encoder), ((∀ x, e.lastA = some x → x + p.encN k < t)) ∧ ((∀ x, e.lastB = some x → x + p.encN k < t))) ∧
    (∃ (k t0 : Nat) (s : State), (k < s.pos.enc.length) ∧ (k < 2) ∧ (s.profile.current.encEn k = true) ∧ (s.profile.current.encZen k = true) ∧ (s.posRuns = true)) ∧
    (∃ (t0 : Nat) (s : State), s.posRuns = true) ∧
    (∃ (k t0 : Nat) (o : Bool) (s : State), 2 ≤ k ∨ s.profile.current.tthMode k = 0 ∨ s.teethRun = false) ∧
    (∃ (k t0 : Nat) (o : Bool) (s : State), 2 ≤ k ∨ s.profile.current.tthMode k = 0 ∨ s.teethRun = false) ∧
    (∃ (k t0 : Nat) (o : Bool) (s : State), 2 ≤ k ∨ s.profile.current.tthMode k = 0 ∨ s.teethRun = false) ∧
    (∃ (k t0 : Nat) (s : State), (k < 2) ∧ (s.profile.current.tthMode k ≠ 0) ∧ (s.teethRun = true) ∧ (risePasses (s.profile.current.tthN k) (getN s.pos.tth k {}).lastEdge (max s.now t0) = false)) ∧
    (∃ (k t0 : Nat) (s : State), (k < s.pos.tth.length) ∧ (k < 2) ∧ (s.profile.current.tthMode k ≠ 0) ∧ (s.teethRun = true) ∧ (risePasses (s.profile.current.tthN k) (getN s.pos.tth k {}).lastEdge (max s.now t0) = true) ∧ ((getN s.pos.tth k {}).lastInterval = none)) ∧
    (∃ (k t0 l y : Nat) (s : State), (k < s.pos.tth.length) ∧ (k < 2) ∧ (s.profile.current.tthMode k ≠ 0) ∧ (s.teethRun = true) ∧ ((getN s.pos.tth k {}).lastEdge = some l) ∧ ((getN s.pos.tth k {}).lastInterval = some y) ∧ (risePasses (s.profile.current.tthN k) (some l) (max s.now t0) = true) ∧ (isReference (s.profile.current.tthMode k) (s.profile.current.tthMissing k) (max s.now t0 - l) y = true) ∧ ((getN s.pos.tth k {}).haveRef = false)) ∧
    (∃ (k t0 : Nat) (s : State), (k < s.pos.senc.length) ∧ (k < 2) ∧ (s.profile.current.sencEn k = true) ∧ (s.posRuns = true)) ∧
    (∃ (k t0 : Nat) (w : SerialWordIn) (s : State), (k < s.pos.senc.length) ∧ (k < 2) ∧ (s.posRuns = true) ∧ ((getN s.pos.senc k {}).busy = true)) ∧
    (∃ (k t0 : Nat) (w : SerialWordIn) (s : State), (getN s.pos.senc k {}).busy = false) ∧
    (∃ (k t0 : Nat) (a b : Bool) (w : SerialWordIn) (s : State), (k < 2) ∧ (s.posRuns = true)) ∧
    (∃ (s : State), (getN s.pos.enc 0 {}).zSeen = true ∧ (getN s.pos.enc 0 {}).zBack = false ∧ s.profile.current.zrev 0 ≠ 0 ∧ (getN s.pos.enc 0 {}).zNet ≠ (s.profile.current.zrev 0 : Int)) ∧
    (∃ (s : State), (getN s.pos.enc 0 {}).zSeen = true ∧ (getN s.pos.enc 0 {}).zNet = (s.profile.current.zrev 0 : Int)) ∧
    (∃ (k t0 l y : Nat) (s : State), s.profile.current.tthMode k ≠ 0 ∧ s.posRuns = true ∧ (getN s.pos.tth k {}).lastEdge = some l ∧ (getN s.pos.tth k {}).lastInterval = some y ∧ isReference (s.profile.current.tthMode k) (s.profile.current.tthMissing k) (max s.now t0 - l) y = true ∧ (getN s.pos.tth k {}).haveRef = false ∧ s.camDeck.refSource ≠ k) ∧
    (∃ (k t0 l y : Nat) (s : State), s.profile.current.tthMode k ≠ 0 ∧ s.posRuns = true ∧ (getN s.pos.tth k {}).lastEdge = some l ∧ (getN s.pos.tth k {}).lastInterval = some y ∧ isReference (s.profile.current.tthMode k) (s.profile.current.tthMissing k) (max s.now t0 - l) y = true ∧ (getN s.pos.tth k {}).haveRef = false ∧ s.camDeck.refSource = k ∧ s.isRetired 0x0A (2 + k) = false ∧ s.pos.refQueue.length < 16) ∧
    (∃ (k t0 l y : Nat) (s : State), s.profile.current.tthMode k ≠ 0 ∧ s.posRuns = true ∧ (getN s.pos.tth k {}).lastEdge = some l ∧ (getN s.pos.tth k {}).lastInterval = some y ∧ isReference (s.profile.current.tthMode k) (s.profile.current.tthMissing k) (max s.now t0 - l) y = true ∧ (getN s.pos.tth k {}).haveRef = false ∧ s.camDeck.refSource = k ∧ s.isRetired 0x0A (2 + k) = false ∧ 16 ≤ s.pos.refQueue.length) ∧
    (∃ (k : Nat) (w : SerialWordIn) (s : State), s.profile.current.sencBiss k = true ∧ w.crc = bissCrc (s.profile.current.sencBits k) w.pos w.nE w.nW ∧ w.nE = true ∧ w.nW = true ∧ s.pos.inService = some (2 + k) ∧ (getN s.pos.senc k {}).lastPos = some 16777215) ∧
    (∃ (k : Nat) (w : SerialWordIn) (s : State), s.profile.current.sencBiss k = true ∧ w.crc ≠ bissCrc (s.profile.current.sencBits k) w.pos w.nE w.nW) ∧
    (∃ (k : Nat) (s : State), k < 2 ∧ s.posRuns = true ∧ s.profile.current.encEn k = true ∧ s.profile.current.tthMode k ≠ 0 ∧ s.teethRun = true) ∧
    (∃ (k t0 : Nat) (s : State), risePasses (s.profile.current.encN k) (getN s.pos.enc k {}).lastZ (max s.now t0) = false) ∧
    (∃ (k t0 : Nat) (s : State), (getN s.pos.senc k {}).busy = true ∧ max s.now t0 ≤ (getN s.pos.senc k {}).since) :=
  ⟨⟨2, 0, true, true, false, State.reset, by first | decide | (unfold Allowed; decide)⟩,
   ⟨1, 0, true, true, false, inMode .configure, by first | decide | (unfold Allowed; decide)⟩,
   ⟨1, 0, true, true, true, withProfile { inMode .standby with sys.inReset := true } [posSec], by first | decide | (unfold Allowed; decide)⟩,
   ⟨0, 0, true, false, 1, withProfile (inMode .inspect) [posSec], by first | decide | (unfold Allowed; decide)⟩,
   ⟨1, 0, false, true, -1, withProfile (inMode .inspect) [posSec], by first | decide | (unfold Allowed; decide)⟩,
   ⟨1, 0, true, true, withProfile (inMode .inspect) [posSec], by first | decide | (unfold Allowed; decide)⟩,
   ⟨{ sections := [posSec] }, 0, 10, true, true, { lastA := some 0, lastB := some 0 }, ⟨fun _ h => (Option.some.inj h) ▸ (by decide), fun _ h => (Option.some.inj h) ▸ (by decide)⟩⟩,
   ⟨1, 0, withProfile (inMode .inspect) [posSec], by first | decide | (unfold Allowed; decide)⟩,
   ⟨0, inMode .inspect, by first | decide | (unfold Allowed; decide)⟩,
   ⟨2, 0, false, State.reset, by first | decide | (unfold Allowed; decide)⟩,
   ⟨1, 0, true, inMode .inspect, by first | decide | (unfold Allowed; decide)⟩,
   ⟨0, 0, false, withProfile (inMode .standby) [posSec], by first | decide | (unfold Allowed; decide)⟩,
   ⟨0, 30, { withProfile (inMode .inspect) [posSec] with pos.tth := [{ lastEdge := some 30 }, {}] }, by first | decide | (unfold Allowed; decide)⟩,
   ⟨0, 0, withProfile (inMode .inspect) [posSec], by first | decide | (unfold Allowed; decide)⟩,
   ⟨0, 30, 0, 10, { withProfile (inMode .inspect) [posSec] with pos.tth := [{ lastEdge := some 0, lastInterval := some 10 }, {}], now := 25 }, by first | decide | (unfold Allowed; decide)⟩,
   ⟨0, 0, withProfile (inMode .inspect) [posSec], by first | decide | (unfold Allowed; decide)⟩,
   ⟨0, 0, w0, { withProfile (inMode .inspect) [posSec] with pos.senc := [{ busy := true }, {}] }, by first | decide | (unfold Allowed; decide)⟩,
   ⟨1, 0, w0, State.reset, by first | decide | (unfold Allowed; decide)⟩,
   ⟨0, 0, true, true, { w0 with overflow := true }, { withProfile (inMode .inspect) [posSec] with pos.senc := [{ busy := true }, {}] }, by first | decide | (unfold Allowed; decide)⟩,
   ⟨{ withProfile (inMode .inspect) [posSec] with pos.enc := [{ zSeen := true, zNet := 99 }, {}] }, by first | decide | (unfold Allowed; decide)⟩,
   ⟨{ withProfile (inMode .inspect) [posSec] with pos.enc := [{ zSeen := true, zNet := 100 }, {}] }, by first | decide | (unfold Allowed; decide)⟩,
   ⟨0, 25, 0, 10, { withProfile (inMode .inspect) [posSec] with pos.tth := [{ lastEdge := some 0, lastInterval := some 10 }, {}] }, by first | decide | (unfold Allowed; decide)⟩,
   ⟨0, 25, 0, 10, withDeck ({ withProfile (inMode .inspect) [posSec] with pos.tth := [{ lastEdge := some 0, lastInterval := some 10 }, {}], pos.refQueue := List.replicate 15 0 }) [sec 0x0010 0 8 [(0, 0)]], by first | decide | (unfold Allowed; decide)⟩,
   ⟨0, 25, 0, 10, withDeck ({ withProfile (inMode .inspect) [posSec] with pos.tth := [{ lastEdge := some 0, lastInterval := some 10 }, {}], pos.refQueue := List.replicate 16 0 }) [sec 0x0010 0 8 [(0, 0)]], by first | decide | (unfold Allowed; decide)⟩,
   ⟨0, { w0 with pos := 0, crc := bissCrc 24 0 true true }, { withProfile (inMode .inspect) [posSec] with pos.senc := [{ busy := true, lastPos := some 16777215 }, {}], pos.inService := some 2 }, by first | decide | (unfold Allowed; decide)⟩,
   ⟨0, { w0 with crc := Nat.xor 1 (bissCrc 24 0 true true) }, { withProfile (inMode .inspect) [posSec] with pos.senc := [{ busy := true }, {}] }, by first | decide | (unfold Allowed; decide)⟩,
   ⟨0, withProfile (inMode .inspect) [posSec], by first | decide | (unfold Allowed; decide)⟩,
   ⟨0, 9, { withProfile (inMode .inspect) [posSec] with pos.enc := [{ lastZ := some 9 }, {}] }, by first | decide | (unfold Allowed; decide)⟩,
   ⟨0, 9, { withProfile (inMode .inspect) [posSec] with pos.senc := [{ busy := true, since := 9 }, {}] }, by first | decide | (unfold Allowed; decide)⟩⟩

theorem wit_LineTriggersAdvanceTheThreshold :
    (∃ (t0 : Nat) (s : State), s.webRunning = false ∨ s.follows = true ∨ s.pos.freeRun = true) ∧
    (∃ (t0 : Nat) (s : State), s.webRunning = false ∨ s.follows = true ∨ s.pos.freeRun = true) ∧
    (∃ (t0 : Nat) (s : State), s.webRunning = false ∨ s.follows = true ∨ s.pos.freeRun = true) ∧
    (∃ (t0 : Nat) (p : PosState) (s : State), (s.webRunning = true) ∧ (s.follows = false) ∧ (s.pos.freeRun = false) ∧ (s.deck.swap = none) ∧ (0 < s.camDeck.pitch) ∧ (p = s.pos.idleTo s.camDeck (max s.now t0))) ∧
    (∃ (t0 : Nat) (s : State), s.webRunning = false ∨ s.follows = true ∨ s.pos.freeRun = false) ∧
    (∃ (t0 : Nat) (s : State), s.webRunning = false ∨ s.follows = true ∨ s.pos.freeRun = false) ∧
    (∃ (t0 a l : Nat) (s : State), (s.webRunning = true) ∧ (s.follows = false) ∧ (s.pos.freeRun = true) ∧ (s.deck.swap = none) ∧ (s.pos.period = some a) ∧ (s.pos.lastTrig = some l) ∧ (l + a ≤ max s.now t0)) ∧
    (∃ (t0 : Nat) (s : State), (s.webRunning = true) ∧ (s.follows = false) ∧ (s.pos.freeRun = true) ∧ (s.pos.period = none)) ∧
    (∃ (t0 : Nat) (s : State), (s.sys.lineMode = .calibrate) ∧ (s.sys.mode.isWeb = false)) ∧
    (∃ (t0 : Nat) (s : State), s.sys.lineMode ≠ .calibrate) ∧
    (∃ (s : State), s.webRunning = true ∧ s.follows = false ∧ s.pos.freeRun = false ∧ (s.pos.idleTo s.camDeck 0).mayFire s.camDeck 0 = true) ∧
    (∃ (s : State), s.webRunning = true ∧ s.follows = false ∧ s.pos.freeRun = false ∧ (s.pos.idleTo s.camDeck 0).h < s.pos.t) :=
  ⟨⟨0, State.reset, by first | decide | (unfold Allowed; decide)⟩,
   ⟨0, { withDeck (inMode .inspect) [] with vdRole := 2, vd.pair := 2 }, by first | decide | (unfold Allowed; decide)⟩,
   ⟨0, { withDeck (inMode .inspect) [] with pos.freeRun := true }, by first | decide | (unfold Allowed; decide)⟩,
   ⟨0, (PosState.idleTo (State.pos (withDeck (inMode .inspect) [])) (State.camDeck (withDeck (inMode .inspect) [])) 0), withDeck (inMode .inspect) [], by first | decide | (unfold Allowed; decide)⟩,
   ⟨0, State.reset, by first | decide | (unfold Allowed; decide)⟩,
   ⟨0, withDeck (inMode .inspect) [], by first | decide | (unfold Allowed; decide)⟩,
   ⟨500, 500, 0, { withDeck (inMode .inspect) [] with pos.freeRun := true, pos.period := some 500, pos.lastTrig := some 0 }, by first | decide | (unfold Allowed; decide)⟩,
   ⟨0, { withDeck (inMode .inspect) [] with pos.freeRun := true }, by first | decide | (unfold Allowed; decide)⟩,
   ⟨0, inMode .calibrate, by first | decide | (unfold Allowed; decide)⟩,
   ⟨0, inMode .inspect, by first | decide | (unfold Allowed; decide)⟩,
   ⟨withDeck (inMode .inspect) [], by first | decide | (unfold Allowed; decide)⟩,
   ⟨{ withDeck (inMode .inspect) [] with pos.t := 1 }, by first | decide | (unfold Allowed; decide)⟩⟩

theorem wit_CameraPortsTakeTheirPackets :
    (∃ (port : Nat) (p : CsiPacket) (s : State), s.decodes port = none) ∧
    (∃ (port : Nat) (p : CsiPacket) (s : State), p.overflow = true) ∧
    (∃ (port c : Nat) (p : CsiPacket) (i : Instr) (s : State), (s.decodes port = some c) ∧ (c < s.intake.cam.length) ∧ (2 ≤ p.ecc) ∧ ((p.overflow = false ∧ (i = .csiFrameStart port p ∨ i = .csiFrameEnd port p ∨ i = .csiLineStart port p)) ∨ i = .csiLongPacket port p ∨ i = .csiOtherPacket port p)) ∧
    (∃ (port c : Nat) (p : CsiPacket) (i : Instr) (s : State), (s.decodes port = some c) ∧ (c < s.intake.cam.length) ∧ (2 ≤ p.ecc) ∧ ((p.overflow = false ∧ (i = .csiFrameStart port p ∨ i = .csiFrameEnd port p ∨ i = .csiLineStart port p)) ∨ i = .csiLongPacket port p ∨ i = .csiOtherPacket port p)) ∧
    (∃ (port c : Nat) (p : CsiPacket) (i : Instr) (s : State), (s.decodes port = some c) ∧ (c < s.intake.cam.length) ∧ (2 ≤ p.ecc) ∧ ((p.overflow = false ∧ (i = .csiFrameStart port p ∨ i = .csiFrameEnd port p ∨ i = .csiLineStart port p)) ∨ i = .csiLongPacket port p ∨ i = .csiOtherPacket port p)) ∧
    (∃ (port c : Nat) (p : CsiPacket) (i : Instr) (s : State), (s.decodes port = some c) ∧ (c < s.intake.cam.length) ∧ (2 ≤ p.ecc) ∧ ((p.overflow = false ∧ (i = .csiFrameStart port p ∨ i = .csiFrameEnd port p ∨ i = .csiLineStart port p)) ∨ i = .csiLongPacket port p ∨ i = .csiOtherPacket port p)) ∧
    (∃ (port c : Nat) (p : CsiPacket) (i : Instr) (s : State), (s.decodes port = some c) ∧ (c < s.intake.cam.length) ∧ (2 ≤ p.ecc) ∧ ((p.overflow = false ∧ (i = .csiFrameStart port p ∨ i = .csiFrameEnd port p ∨ i = .csiLineStart port p)) ∨ i = .csiLongPacket port p ∨ i = .csiOtherPacket port p)) ∧
    (∃ (port c : Nat) (p : CsiPacket) (i : Instr) (s : State), (s.decodes port = some c) ∧ (c < s.intake.cam.length) ∧ (p.ecc = 0) ∧ (p.vc ≠ (s.portDeck c).camVc c) ∧ ((p.overflow = false ∧ (i = .csiFrameStart port p ∨ i = .csiFrameEnd port p ∨ i = .csiLineStart port p)) ∨ i = .csiLongPacket port p ∨ i = .csiOtherPacket port p)) ∧
    (∃ (port c : Nat) (p : CsiPacket) (i : Instr) (s : State), (s.decodes port = some c) ∧ (c < s.intake.cam.length) ∧ (p.ecc = 0) ∧ (p.vc ≠ (s.portDeck c).camVc c) ∧ ((p.overflow = false ∧ (i = .csiFrameStart port p ∨ i = .csiFrameEnd port p ∨ i = .csiLineStart port p)) ∨ i = .csiLongPacket port p ∨ i = .csiOtherPacket port p)) ∧
    (∃ (port c : Nat) (p : CsiPacket) (i : Instr) (s : State), (s.decodes port = some c) ∧ (c < s.intake.cam.length) ∧ (p.ecc = 0) ∧ (p.vc ≠ (s.portDeck c).camVc c) ∧ ((p.overflow = false ∧ (i = .csiFrameStart port p ∨ i = .csiFrameEnd port p ∨ i = .csiLineStart port p)) ∨ i = .csiLongPacket port p ∨ i = .csiOtherPacket port p)) ∧
    (∃ (port c : Nat) (p : CsiPacket) (i : Instr) (s : State), (s.decodes port = some c) ∧ (c < s.intake.cam.length) ∧ (p.ecc = 0) ∧ (p.vc ≠ (s.portDeck c).camVc c) ∧ ((p.overflow = false ∧ (i = .csiFrameStart port p ∨ i = .csiFrameEnd port p ∨ i = .csiLineStart port p)) ∨ i = .csiLongPacket port p ∨ i = .csiOtherPacket port p)) ∧
    (∃ (port c : Nat) (p : CsiPacket) (i : Instr) (s : State), (s.decodes port = some c) ∧ (c < s.intake.cam.length) ∧ (p.ecc = 0) ∧ (p.vc ≠ (s.portDeck c).camVc c) ∧ ((p.overflow = false ∧ (i = .csiFrameStart port p ∨ i = .csiFrameEnd port p ∨ i = .csiLineStart port p)) ∨ i = .csiLongPacket port p ∨ i = .csiOtherPacket port p)) ∧
    (∃ (port c : Nat) (p : CsiPacket) (s : State), (s.decodes port = some c) ∧ (c < s.intake.cam.length) ∧ (p.ecc = 0) ∧ (p.overflow = false) ∧ (p.vc = (s.portDeck c).camVc c)) ∧
    (∃ (port c : Nat) (s : State), (s.decodes port = some c) ∧ (c < s.intake.cam.length)) ∧
    (∃ (camera : Nat) (s : State), camera < s.intake.cam.length) ∧
    (∃ (r : SensorResult) (s : State), (s.cam r.camera).busChange = none) ∧
    (∃ (r : SensorResult) (ch : Change) (s : State), (r.camera < s.intake.cam.length) ∧ ((s.cam r.camera).busChange = some ch) ∧ (ch.sent = true)) ∧
    (∃ (s : State) (id : Nat), s.decodes 0 = some 0 ∧ (s.cam 0).openStrip = none ∧ ((s.cam 0).frames.find? (fun f => f.2 == FrameSt.waiting)).map (·.1) = some id) ∧
    (∃ (s : State), s.decodes 0 = some 0 ∧ (s.cam 0).openStrip = none ∧ (s.cam 0).frames.find? (fun f => f.2 == FrameSt.waiting) = none) ∧
    (∃ (s : State), s.decodes 0 = some 0 ∧ (s.cam 0).dropping = true) ∧
    (∃ (s : State) (id : Nat) (q : Strip), s.decodes 0 = some 0 ∧ (s.cam 0).dropping = false ∧ (s.cam 0).openStrip = some id ∧ s.strip id = some q ∧ q.id = id) ∧
    (∃ (s : State), s.decodes 0 = some 0 ∧ (s.portDeck 0).camDt 0 = 0x24 ∧ (s.cam 0).dropping = false ∧ (s.cam 0).openStrip = none) ∧
    (∃ (s : State) (p : CsiPacket) (id : Nat) (q : Strip), s.decodes 0 = some 0 ∧ p.dt = (s.portDeck 0).camDt 0 ∧ (s.cam 0).dropping = false ∧ (s.cam 0).openStrip = some id ∧ s.strip id = some q ∧ (s.deckOf q.epoch).lnum 0 = false ∧ (s.cam 0).killed = false ∧ (s.cam 0).nextK < q.len ∧ p.crcOk = true ∧ (s.deckOf q.epoch).linePx 0 * dtBits ((s.deckOf q.epoch).camDt 0) / 8 ≤ p.wc ∧ (s.cam 0).unsettled (q.startSer + (s.cam 0).nextK) = false) ∧
    (∃ (r : SensorResult) (ch : Change), r.ok = true ∧ r.commit = false ∧ ch.latch = false ∧ ch.source ≠ .activation) ∧
    (∃ (r : SensorResult) (ch : Change), r.ok = true ∧ r.commit = true ∧ ch.commitStarted = true ∧ ch.latch = false ∧ ch.applied = false) ∧
    (∃ (r : SensorResult) (ch : Change), r.ok = false ∧ (r.commit = true → ch.commitStarted = true)) :=
  ⟨⟨0, p0, State.reset, by first | decide | (unfold Allowed; decide)⟩,
   ⟨0, { p0 with overflow := true }, camOn (inMode .inspect), by first | decide | (unfold Allowed; decide)⟩,
   ⟨0, 0, { p0 with ecc := 2 }, .csiFrameStart 0 { p0 with ecc := 2 }, camOn (inMode .inspect), ⟨by decide, by decide, by decide, .inl ⟨rfl, .inl rfl⟩⟩⟩,
   ⟨0, 0, { p0 with ecc := 2 }, .csiFrameEnd 0 { p0 with ecc := 2 }, camOn (inMode .inspect), ⟨by decide, by decide, by decide, .inl ⟨rfl, .inr (.inl rfl)⟩⟩⟩,
   ⟨0, 0, { p0 with ecc := 2 }, .csiLineStart 0 { p0 with ecc := 2 }, camOn (inMode .inspect), ⟨by decide, by decide, by decide, .inl ⟨rfl, .inr (.inr rfl)⟩⟩⟩,
   ⟨0, 0, { p0 with ecc := 2 }, .csiLongPacket 0 { p0 with ecc := 2 }, camOn (inMode .inspect), ⟨by decide, by decide, by decide, .inr (.inl rfl)⟩⟩,
   ⟨0, 0, { p0 with ecc := 2 }, .csiOtherPacket 0 { p0 with ecc := 2 }, camOn (inMode .inspect), ⟨by decide, by decide, by decide, .inr (.inr rfl)⟩⟩,
   ⟨0, 0, { p0 with vc := 15 }, .csiFrameStart 0 { p0 with vc := 15 }, camOn (inMode .inspect), ⟨by decide, by decide, by decide, by decide, .inl ⟨rfl, .inl rfl⟩⟩⟩,
   ⟨0, 0, { p0 with vc := 15 }, .csiFrameEnd 0 { p0 with vc := 15 }, camOn (inMode .inspect), ⟨by decide, by decide, by decide, by decide, .inl ⟨rfl, .inr (.inl rfl)⟩⟩⟩,
   ⟨0, 0, { p0 with vc := 15 }, .csiLineStart 0 { p0 with vc := 15 }, camOn (inMode .inspect), ⟨by decide, by decide, by decide, by decide, .inl ⟨rfl, .inr (.inr rfl)⟩⟩⟩,
   ⟨0, 0, { p0 with vc := 15 }, .csiLongPacket 0 { p0 with vc := 15 }, camOn (inMode .inspect), ⟨by decide, by decide, by decide, by decide, .inr (.inl rfl)⟩⟩,
   ⟨0, 0, { p0 with vc := 15 }, .csiOtherPacket 0 { p0 with vc := 15 }, camOn (inMode .inspect), ⟨by decide, by decide, by decide, by decide, .inr (.inr rfl)⟩⟩,
   ⟨0, 0, p0, camOn (inMode .inspect), by first | decide | (unfold Allowed; decide)⟩,
   ⟨0, 0, camOn (inMode .inspect), by first | decide | (unfold Allowed; decide)⟩,
   ⟨23, State.reset, by first | decide | (unfold Allowed; decide)⟩,
   ⟨s0, State.reset, by first | decide | (unfold Allowed; decide)⟩,
   ⟨{ s0 with ok := true }, { source := .host, target := 5, sent := true, latch := false }, { camOn (inMode .inspect) with intake.cam := updAt State.reset.intake.cam 0 (fun c => { c with changes := [{ source := .host, target := 5, sent := true, latch := false }] }) }, by first | decide | (unfold Allowed; decide)⟩,
   ⟨{ camOn (inMode .inspect) with intake.cam := updAt State.reset.intake.cam 0 (fun c => { c with frames := [(5, .waiting)] }) }, 5, by first | decide | (unfold Allowed; decide)⟩,
   ⟨{ camOn (inMode .inspect) with intake.cam := updAt State.reset.intake.cam 0 (fun c => { c with frames := [] }) }, by first | decide | (unfold Allowed; decide)⟩,
   ⟨{ camOn (inMode .inspect) with intake.cam := updAt State.reset.intake.cam 0 (fun c => { c with dropping := true }) }, by first | decide | (unfold Allowed; decide)⟩,
   ⟨withDeck ({ camOn (inMode .inspect) with intake.cam := updAt State.reset.intake.cam 0 (fun c => { c with openStrip := some 5 }), intake.strips := [{ id := 5, epoch := 0, index := 0, startSer := 0, startWln := 0, startTime := 0, len := 1 }] }) [], 5, { id := 5, epoch := 0, index := 0, startSer := 0, startWln := 0, startTime := 0, len := 1 }, by first | decide | (unfold Allowed; decide)⟩,
   ⟨{ camOn (inMode .inspect) with intake.cam := updAt State.reset.intake.cam 0 (fun c => { c with dropping := false }) }, by first | decide | (unfold Allowed; decide)⟩,
   ⟨withDeck ({ camOn (inMode .inspect) with intake.cam := updAt State.reset.intake.cam 0 (fun c => { c with openStrip := some 5 }), intake.strips := [{ id := 5, epoch := 0, index := 0, startSer := 0, startWln := 0, startTime := 0, len := 1 }] }) [sec 0x0020 0 76 [(0, 0x12400), (4, 2048)]], { p0 with dt := 0x24, wc := 6144 }, 5, { id := 5, epoch := 0, index := 0, startSer := 0, startWln := 0, startTime := 0, len := 1 }, by first | decide | (unfold Allowed; decide)⟩,
   ⟨s0, { source := .host, target := 5, sent := true, latch := false }, by first | decide | (unfold Allowed; decide)⟩,
   ⟨{ s0 with commit := true }, { source := .host, target := 5, sent := true, latch := false, commitStarted := true }, by first | decide | (unfold Allowed; decide)⟩,
   ⟨{ s0 with ok := false }, { source := .host, target := 5, sent := true, latch := false }, by first | decide | (unfold Allowed; decide)⟩⟩

theorem wit_WebLinesMoveThroughThePath :
    (∃ (hits : List (Nat × EccHit)) (s : State), (s.intake.slots = [] ∨ (∃ x rest, s.intake.slots = x :: rest ∧ s.geometryReady x.1 x.2.1 (s.deckOf x.2.2.epoch) = false))) ∧
    (∃ (hits : List (Nat × EccHit)) (s : State), (s.intake.slots = [] ∨ (∃ x rest, s.intake.slots = x :: rest ∧ s.geometryReady x.1 x.2.1 (s.deckOf x.2.2.epoch) = false))) ∧
    (∃ (hits : List (Nat × EccHit)) (ser strip : Nat) (l : LineSlot) (rest : List (Nat × Nat × LineSlot)) (s : State), (s.intake.slots = (ser, strip, l) :: rest) ∧ (s.geometryReady ser strip (s.deckOf l.epoch) = true)) ∧
    (∃ (e : Option Nat) (s : State), s.span.fromGeometry = []) ∧
    (∃ (e : Option Nat) (ser strip : Nat) (l : LineSlot) (parts : List CamSpan) (rest : List (Nat × Nat × LineSlot × List CamSpan)) (s : State), s.span.fromGeometry = (ser, strip, l, parts) :: rest) ∧
    (∃ (e : Option Nat) (ser strip : Nat) (l : LineSlot) (parts : List CamSpan) (rest : List (Nat × Nat × LineSlot × List CamSpan)) (s : State), s.span.fromGeometry = (ser, strip, l, parts) :: rest) ∧
    (∃ (a b : Bool) (hits : List BandHit) (n : Nat) (s : State), s.span.toCompare = []) ∧
    (∃ (a b : Bool) (hits : List BandHit) (n : Nat) (w : WebLine) (rest : List WebLine) (s : State), s.span.toCompare = w :: rest) ∧
    (∃ s : State, s.span.toStats = []) ∧
    (∃ (w : WebLine) (rest : List WebLine) (s : State), (s.span.toStats = w :: rest) ∧ (s.fault.statsUnusable = true)) ∧
    (∃ (w : WebLine) (rest : List WebLine) (x : StripStats) (p : Strip) (s : State), (s.span.toStats = w :: rest) ∧ (s.fault.statsUnusable = false) ∧ ((s.stats.cur = none ∧ x = freshStats (s.deckOf w.slot.epoch) w ∨ s.stats.cur = some x)) ∧ (x.strip = w.strip) ∧ (s.strip w.strip = some p)) ∧
    (∃ (w : WebLine) (rest : List WebLine) (x : StripStats) (p : Strip) (s : State), (s.span.toStats = w :: rest) ∧ (s.fault.statsUnusable = false) ∧ ((s.stats.cur = none ∧ x = freshStats (s.deckOf w.slot.epoch) w ∨ s.stats.cur = some x)) ∧ (x.strip = w.strip) ∧ (s.strip w.strip = some p)) ∧
    (∃ (b : Bool) (n : Nat) (e : Option (Nat × Nat)) (s : State), s.cmp.out = []) ∧
    (∃ (b : Bool) (n : Nat) (e : Option (Nat × Nat)) (c : CompLine) (rest : List CompLine) (s : State), (s.cmp.out = c :: rest) ∧ (s.merging c.slot.epoch = false)) ∧
    (∃ (c : CompLine) (rest : List CompLine) (s : State), s.cmp.out = c :: rest ∧ s.merging c.slot.epoch = false ∧ s.vdRole = 0 ∧ s.vd.unions = [] ∧ s.vd.parts = [] ∧ s.vd.touched = [] ∧ s.seg.diverted = [] ∧ s.seg.epoch = some c.slot.epoch ∧ rest ≠ []) :=
  ⟨⟨[], State.reset, .inl rfl⟩,
   ⟨[], withDeck { inMode .inspect with intake.slots := [(0, 0, slot0)] } [sec 0x0020 0 76 [(0, 0x12400)]], .inr ⟨(0, 0, slot0), [], rfl, by decide⟩⟩,
   ⟨[], 0, 0, slot0, [], withDeck { inMode .inspect with intake.slots := [(0, 0, slot0)] } [], by first | decide | (unfold Allowed; decide)⟩,
   ⟨none, State.reset, by first | decide | (unfold Allowed; decide)⟩,
   ⟨none, 0, 0, slot0, [], [], { State.reset with span.fromGeometry := [(0, 0, slot0, [])] }, by first | decide | (unfold Allowed; decide)⟩,
   ⟨some 23, 0, 0, { slot0 with mode := .calibrate, overspeed := true }, [], [], { State.reset with span.fromGeometry := [(0, 0, { slot0 with mode := .calibrate, overspeed := true }, [])] }, by first | decide | (unfold Allowed; decide)⟩,
   ⟨false, false, [], 0, State.reset, by first | decide | (unfold Allowed; decide)⟩,
   ⟨true, false, [], 0, wl0, [], { State.reset with span.toCompare := [wl0] }, by first | decide | (unfold Allowed; decide)⟩,
   ⟨State.reset, by first | decide | (unfold Allowed; decide)⟩,
   ⟨wl0, [], { State.reset with span.toStats := [wl0], fault.statsUnusable := true }, by first | decide | (unfold Allowed; decide)⟩,
   ⟨wl0, [], freshStats {} wl0, { id := 0, epoch := 0, index := 0, startSer := 0, startWln := 0, startTime := 0, len := 1 }, { State.reset with span.toStats := [wl0], intake.strips := [{ id := 0, epoch := 0, index := 0, startSer := 0, startWln := 0, startTime := 0, len := 1 }] }, ⟨rfl, rfl, .inl ⟨rfl, rfl⟩, rfl, rfl⟩⟩,
   ⟨wl0, [], { strip := 0, epoch := 0 }, { id := 0, epoch := 0, index := 0, startSer := 0, startWln := 0, startTime := 0, len := 1, ended := true, lines := 1 }, { State.reset with span.toStats := [wl0], stats.cur := some { strip := 0, epoch := 0 }, intake.strips := [{ id := 0, epoch := 0, index := 0, startSer := 0, startWln := 0, startTime := 0, len := 1, ended := true, lines := 1 }] }, ⟨rfl, rfl, .inr rfl, rfl, rfl⟩⟩,
   ⟨false, 0, none, State.reset, by first | decide | (unfold Allowed; decide)⟩,
   ⟨false, 0, none, { ser := 0, strip := 0, slot := slot0 }, [], { State.reset with cmp.out := [{ ser := 0, strip := 0, slot := slot0 }] }, by first | decide | (unfold Allowed; decide)⟩,
   ⟨{ ser := 0, strip := 0, slot := slot0 }, [{ ser := 0, strip := 0, slot := slot0 }], { State.reset with cmp.out := [{ ser := 0, strip := 0, slot := slot0 }, { ser := 0, strip := 0, slot := slot0 }], seg.epoch := some 0 }, by first | decide | (unfold Allowed; decide)⟩⟩

theorem wit_CodecGroupsCloseAndSwarmsEnqueue :
    (∃ (ov : Bool) (e : Option Nat) (cor : List Nat) (s : State), (s.codec.ring ov).rows = []) ∧
    (∃ (ov : Bool) (e : Option Nat) (cor : List Nat) (s : State), (s.codec.ring ov).rows = []) ∧
    (∃ (e : Option Nat) (cor : List Nat) (s : State), s.codec.lb.rows = []) ∧
    (∃ (e : Option Nat) (cor : List Nat) (s : State), (s.codec.ovLines = []) ∧ (s.codec.ov.rows = [])) ∧
    (∃ (ov : Bool) (cor : List Nat) (i : Instr) (s : State), (s.mem.wf = true) ∧ ((s.codec.ring ov).groupRows ≠ []) ∧ ((i = .codecFlushTimeout ov none cor ∨ i = .ringWriteTimeout ov ∨ i = .codecGroupClose ov none cor ∧ s.codec.ovLines = [] ∧ (s.codec.ring ov).groupRows.length = 16))) ∧
    (∃ (ov : Bool) (cor : List Nat) (i : Instr) (s : State), (s.mem.wf = true) ∧ ((s.codec.ring ov).groupRows ≠ []) ∧ ((i = .codecFlushTimeout ov none cor ∨ i = .ringWriteTimeout ov ∨ i = .codecGroupClose ov none cor ∧ s.codec.ovLines = [] ∧ (s.codec.ring ov).groupRows.length = 16))) ∧
    (∃ (ov : Bool) (cor : List Nat) (i : Instr) (s : State), (s.mem.wf = true) ∧ ((s.codec.ring ov).groupRows ≠ []) ∧ ((i = .codecFlushTimeout ov none cor ∨ i = .ringWriteTimeout ov ∨ i = .codecGroupClose ov none cor ∧ s.codec.ovLines = [] ∧ (s.codec.ring ov).groupRows.length = 16))) ∧
    (∃ (ov : Bool) (u : Nat) (cor : List Nat) (i : Instr) (s : State), (s.mem.wf = true) ∧ ((s.codec.ring ov).groupRows ≠ []) ∧ ((i = .codecFlushTimeout ov (some u) cor ∨ i = .codecGroupClose ov (some u) cor ∧ s.codec.ovLines = [] ∧ (s.codec.ring ov).groupRows.length = 16))) ∧
    (∃ (ov : Bool) (u : Nat) (cor : List Nat) (i : Instr) (s : State), (s.mem.wf = true) ∧ ((s.codec.ring ov).groupRows ≠ []) ∧ ((i = .codecFlushTimeout ov (some u) cor ∨ i = .codecGroupClose ov (some u) cor ∧ s.codec.ovLines = [] ∧ (s.codec.ring ov).groupRows.length = 16))) ∧
    (∃ (e : Option (Nat × Nat)) (u : Nat) (s : State), (s.span.toCompare = []) ∧ (s.pos.lastLine = none)) ∧
    (∃ (e : Option (Nat × Nat)) (u : Nat) (w : WebLine) (s : State), (s.span.toCompare.head? = some w) ∧ (s.boundObject w.slot.epoch = none)) ∧
    (∃ (e : Option (Nat × Nat)) (u : Nat) (w : WebLine) (o : RegObject) (s : State), (s.span.toCompare.head? = some w) ∧ (s.boundObject w.slot.epoch = some o)) ∧
    (∃ s : State, 4096 ≤ s.seg.queue.length) ∧
    (∃ (d : Descriptor) (rest : List Descriptor) (s : State), (s.seg.queue.length < 4096) ∧ (s.seg.waiting = d :: rest)) ∧
    (∃ (c : Comp) (s : State), (s.seg.queue.length < 4096) ∧ (s.seg.waiting = []) ∧ (s.seg.comps.find? (fun c => c.swarm && c.due) = some c) ∧ (c.linkHard = true ∨ 0 < c.d.hardArea)) ∧
    (∃ s : State, (s.seg.waiting = []) ∧ (s.seg.comps.find? (fun c => c.swarm && c.due) = none) ∧ (s.seg.qswarm = none ∨ 2048 < s.seg.queue.length ∧ s.seg.qswarmDue = false)) ∧
    (∃ s : State, (s.seg.waiting = []) ∧ (s.seg.comps.find? (fun c => c.swarm && c.due) = none) ∧ (s.seg.qswarm = none ∨ 2048 < s.seg.queue.length ∧ s.seg.qswarmDue = false)) ∧
    (∃ (q : Descriptor) (s : State), (s.seg.queue.length < 4096) ∧ (s.seg.waiting = []) ∧ (s.seg.comps.find? (fun c => c.swarm && c.due) = none) ∧ (s.seg.qswarm = some q) ∧ (s.seg.queue.length ≤ 2048 ∨ s.seg.qswarmDue = true)) ∧
    (∃ (q : Descriptor) (s : State), (s.seg.queue.length < 4096) ∧ (s.seg.waiting = []) ∧ (s.seg.comps.find? (fun c => c.swarm && c.due) = none) ∧ (s.seg.qswarm = some q) ∧ (s.seg.queue.length ≤ 2048 ∨ s.seg.qswarmDue = true)) ∧
    (∃ (w : WebLine) (o : RegObject) (s : State), s.span.toCompare.head? = some w ∧ s.boundObject w.slot.epoch = some o ∧ (let d := s.deckOf w.slot.epoch; let c := s.coarse d o w.slot; ((bandLines d.bandB o.lines ((coarseY d.origin o.lines c.1 c.2 + s.reg.coff) / 64)).map (· / 256)).eraseDups.all (s.tilesOk d o.obj)) = false) ∧
    (∃ (w : WebLine) (o : RegObject) (s : State), s.span.toCompare.head? = some w ∧ s.boundObject w.slot.epoch = some o ∧ (let d := s.deckOf w.slot.epoch; let c := s.coarse d o w.slot; ((bandLines d.bandB o.lines ((coarseY d.origin o.lines c.1 c.2 + s.reg.coff) / 64)).map (· / 256)).eraseDups.all (s.tilesOk d o.obj)) = true) :=
  ⟨⟨false, none, [], State.reset, by first | decide | (unfold Allowed; decide)⟩,
   ⟨true, some 3, [0], State.reset, by first | decide | (unfold Allowed; decide)⟩,
   ⟨none, [], State.reset, by first | decide | (unfold Allowed; decide)⟩,
   ⟨none, [], State.reset, by first | decide | (unfold Allowed; decide)⟩,
   ⟨false, [], .codecFlushTimeout false none [], { State.reset with codec.lb.rows := [{ epoch := 0, y := 0, time := 0, planes := [] }] }, ⟨by decide, by decide, .inl rfl⟩⟩,
   ⟨true, [], .ringWriteTimeout true, { State.reset with codec.ov.rows := [{ epoch := 0, y := 0, time := 0, planes := [] }] }, ⟨by decide, by decide, .inr (.inl rfl)⟩⟩,
   ⟨false, [], .codecGroupClose false none [], { State.reset with codec.lb.rows := List.replicate 16 { epoch := 0, y := 0, time := 0, planes := [] } }, ⟨by decide, by decide, .inr (.inr ⟨rfl, by decide, by decide⟩)⟩⟩,
   ⟨false, 1, [], .codecFlushTimeout false (some 1) [], { State.reset with codec.lb.rows := [{ epoch := 0, y := 0, time := 0, planes := [] }] }, ⟨by decide, by decide, .inl rfl⟩⟩,
   ⟨true, 0, [5], .codecGroupClose true (some 0) [5], { State.reset with codec.ov.rows := List.replicate 16 { epoch := 0, y := 0, time := 0, planes := [] } }, ⟨by decide, by decide, .inr ⟨rfl, by decide, by decide⟩⟩⟩,
   ⟨none, 0, State.reset, by first | decide | (unfold Allowed; decide)⟩,
   ⟨none, 0, wl0, { State.reset with span.toCompare := [wl0] }, by first | decide | (unfold Allowed; decide)⟩,
   ⟨none, 0, wl0, { slot := 0, lines := 1, nominal := 0, obj := { lines := 1, width := 1, addr := 0x1000000000, imgIndex := 0 } }, { State.reset with span.toCompare := [wl0], reg.binds := [(0, (0, { lines := 1, width := 1, addr := 0x1000000000, imgIndex := 0 }))] }, ⟨rfl, rfl⟩⟩,
   ⟨{ State.reset with seg.queue := List.replicate 4096 {} }, by simp⟩,
   ⟨{}, [], { State.reset with seg.waiting := [{}] }, by first | decide | (unfold Allowed; decide)⟩,
   ⟨{ id := 3, swarm := true, due := true, linkHard := true }, { State.reset with seg.comps := [{ id := 3, swarm := true, due := true, linkHard := true }] }, by first | decide | (unfold Allowed; decide)⟩,
   ⟨State.reset, by first | decide | (unfold Allowed; decide)⟩,
   ⟨{ State.reset with seg.qswarm := some {}, seg.queue := List.replicate 2049 {} }, ⟨rfl, rfl, .inr ⟨by simp, rfl⟩⟩⟩,
   ⟨{}, { State.reset with seg.qswarm := some {} }, by first | decide | (unfold Allowed; decide)⟩,
   ⟨{}, { State.reset with seg.qswarm := some {}, seg.qswarmDue := true, seg.queue := List.replicate 4095 {} }, ⟨by simp, rfl, rfl, rfl, .inr rfl⟩⟩,
   ⟨wl0, { slot := 0, lines := 1, nominal := 0, obj := { lines := 1, width := 1, addr := 0x1000000000, imgIndex := 0 } }, { State.reset with span.toCompare := [wl0], reg.binds := [(0, (0, { lines := 1, width := 1, addr := 0x1000000000, imgIndex := 0 }))] }, ⟨rfl, rfl, by decide⟩⟩,
   ⟨wl0, { slot := 0, lines := 1, nominal := 0, obj := { lines := 1, width := 1, addr := 0x1000000000, imgIndex := 0 } }, put ({ State.reset with span.toCompare := [wl0], reg.binds := [(0, (0, { lines := 1, width := 1, addr := 0x1000000000, imgIndex := 0 }))] }) 0x1000000000 (leBytes 8 (20 * 2 ^ 40 + 8) ++ List.replicate 16 0 ++ List.replicate 4 0xFF), ⟨rfl, rfl, by decide⟩⟩⟩

theorem wit_ReadyInputsBecomeTasks :
    (∃ (s : State) (f : Nat), s.pickFrame = some f) ∧
    (∃ s : State, s.seg.queue = []) ∧
    (∃ (pre post : List Descriptor) (b : Descriptor) (i : Nat) (st : Stage) (s : State), (s.seg.queue = pre ++ b :: post) ∧ ((∀ x ∈ pre, ∃ t ∈ s.comb.tasks, ∃ y : Descriptor, t.input = .blob y ∧ y.epoch = x.epoch ∧ y.seq = x.seq)) ∧ ((∀ t ∈ s.comb.tasks, ∀ y : Descriptor, t.input = .blob y → ¬ (y.epoch = b.epoch ∧ y.seq = b.seq))) ∧ ((s.deckOf b.epoch).chainStage 0x10 = some (i, st))) ∧
    (∃ s : State, (s.comb.nextRow.1 = 0) ∧ (s.epochAfter 0 = none)) ∧
    (∃ (e r i : Nat) (st : Stage) (s : State), (s.comb.nextRow = (e, r)) ∧ (e ≠ 0) ∧ (s.lineReached e ((r + 1) * (s.deckOf e).fieldLines - 1) = true) ∧ ((s.deckOf e).stageOf 0x01 1 = some (i, st))) ∧
    (∃ (stage : Nat) (s : State), s.comb.repeats = []) ∧
    (∃ (stage : Nat) (r : RepeatStart) (rest : List RepeatStart) (st : Stage) (s : State), (s.comb.repeats = r :: rest) ∧ (getN s.comb.repeatPtr stage 0 ≤ r.n) ∧ ((s.deckOf r.epoch).stage stage = some st) ∧ (st.trig = 2)) ∧
    (∃ s : State, s.print.verify = []) ∧
    (∃ (i : VerItem) (rest : List VerItem) (k last : Nat) (st : Stage) (s : State), (s.print.verify = i :: rest) ∧ ((s.deckOf i.epoch).stageOf 0x20 3 = some (k, st)) ∧ (last = (s.itemBox i).elim 0 (fun b => b.2.1 + fld (wordAt st.param 0) 15 8)) ∧ (s.epochOver i.epoch = true ∨ s.comb.lines.any (fun l => l.epoch == i.epoch && decide (wposDiff l.wpos i.y1 > 0)) = true ∧ s.lineReached i.epoch last = true)) ∧
    (∃ (stage head : Nat) (s : State), (s.head head).log = []) ∧
    (∃ (stage head n y : Nat) (st : Stage) (p : WindowPtr) (l f : FiredLine) (s : State), (p = s.comb.windowPtr stage head) ∧ ((s.deckOf p.epoch).stage stage = some st) ∧ (st.trig = 4) ∧ (bitAt (wordAt st.param 8) head = true) ∧ (n = max 1 (fld (wordAt st.param 0) 31 16)) ∧ ((s.head head).log.find? (fun x => x.epoch == p.epoch && x.k == (p.window + 1) * n - 1) = some l) ∧ (s.sampleLine (s.deckOf p.epoch) head p.epoch l.label = (some y, true)) ∧ (s.lineReached p.epoch y = true) ∧ (f ∈ (s.head head).log) ∧ (f.epoch = p.epoch) ∧ (p.window * n ≤ f.k) ∧ (f.k < (p.window + 1) * n) ∧ (f.fired ≠ 0)) ∧
    (∃ (stage : Nat) (s : State), s.comb.events = []) ∧
    (∃ (stage : Nat) (e : StageEvent) (rest : List StageEvent) (st : Stage) (s : State), (s.comb.events = e :: rest) ∧ (e.stage = stage) ∧ ((s.deckOf e.epoch).stage stage = some st) ∧ (st.op = 0x30) ∧ (s.lineReached e.epoch e.wln = true)) ∧
    (∃ (s : State) (f g : Nat), s.pickFrame = some f ∧ g < 16 ∧ s.frameUp g = true) ∧
    (∃ (s : State) (r : RepeatStart), s.comb.repeats = [r] ∧ s.lineReached r.epoch (r.wln + 0) = false ∧ s.epochOver r.epoch = false) :=
  ⟨⟨State.reset, 0, by first | decide | (unfold Allowed; decide)⟩,
   ⟨State.reset, by first | decide | (unfold Allowed; decide)⟩,
   ⟨[], [], {}, 1, { op := 0x10, trig := 0, prio := 2, param := wordsBytes [0] }, { State.reset with seg.queue := [{}] }, ⟨rfl, fun _ h => absurd h List.not_mem_nil, fun _ h => absurd h List.not_mem_nil, by decide⟩⟩,
   ⟨State.reset, by first | decide | (unfold Allowed; decide)⟩,
   ⟨1, 0, 0, { op := 0x01, trig := 1, prio := 0, param := wordsBytes [4 * 2 ^ 16 + 16 * 2 ^ 8 + 1, 0] }, held (deckAt { inMode .configure with comb.nextRow := (1, 0) } 1 []) 1 240 16, by first | decide | (unfold Allowed; decide)⟩,
   ⟨0, State.reset, by first | decide | (unfold Allowed; decide)⟩,
   ⟨0, { n := 0, epoch := 0, wln := 0, wpos := 0, time := 0, ridx := 0 }, [], stageAt (rcp 2 2 [0, 0]).body 0, held (deckAt { inMode .configure with comb.repeats := [{ n := 0, epoch := 0, wln := 0, wpos := 0, time := 0, ridx := 0 }] } 0 [rcp 2 2 [0, 0]]) 0 0 16, by first | decide | (unfold Allowed; decide)⟩,
   ⟨State.reset, by first | decide | (unfold Allowed; decide)⟩,
   ⟨{ epoch := 0, itemId := 1, symb := 0, data := [], y0 := 0, y1 := 0, x0 := 0, x1 := 0 }, [], 0, 0, stageAt (rcp 0x20 3 [0, 0]).body 0, held (deckAt { inMode .configure with print.verify := [{ epoch := 0, itemId := 1, symb := 0, data := [], y0 := 0, y1 := 0, x0 := 0, x1 := 0 }] } 0 [rcp 0x20 3 [0, 0]]) 0 0 16, by first | decide | (unfold Allowed; decide)⟩,
   ⟨0, 0, State.reset, by first | decide | (unfold Allowed; decide)⟩,
   ⟨0, 0, 1, 0, stageAt (rcp 3 4 [0x10000, 0, 1]).body 0, { stage := 0, head := 0, epoch := 0, window := 0 }, { epoch := 0, k := 0, label := 0, shift := 0, fired := 1 }, { epoch := 0, k := 0, label := 0, shift := 0, fired := 1 }, held (deckAt { inMode .configure with print.head := updAt State.reset.print.head 0 (fun h => { h with log := [{ epoch := 0, k := 0, label := 0, shift := 0, fired := 1 }] }), comb.lines := [{ epoch := 0, wln := 0, wpos := 200000, time := 0 }] } 0 [rcp 3 4 [0x10000, 0, 1]]) 0 0 16, by first | decide | (unfold Allowed; decide)⟩,
   ⟨0, State.reset, by first | decide | (unfold Allowed; decide)⟩,
   ⟨0, { stage := 0, epoch := 0, wln := 15, tag := 0 }, [], stageAt (rcp 0x30 5 [0]).body 0, held (deckAt { inMode .configure with comb.events := [{ stage := 0, epoch := 0, wln := 15, tag := 0 }] } 0 [rcp 0x30 5 [0]]) 0 0 16, by first | decide | (unfold Allowed; decide)⟩,
   ⟨State.reset, 0, 15, by first | decide | (unfold Allowed; decide)⟩,
   ⟨{ inMode .inspect with comb.repeats := [{ n := 0, epoch := 0, wln := 0, wpos := 0, time := 0, ridx := 0 }] }, { n := 0, epoch := 0, wln := 0, wpos := 0, time := 0, ridx := 0 }, by first | decide | (unfold Allowed; decide)⟩⟩

theorem wit_TasksRunCommitAndFault :
    (∃ s : State, (∀ x ∈ s.comb.tasks, x.cell.isSome = true)) ∧
    (∃ s : State, ((∀ x ∈ s.comb.tasks, x.cell = none → s.placeTask x = x)) ∧ ((∃ x ∈ s.comb.tasks, x.cell = none ∧ s.cellsFor x ≠ []))) ∧
    (∃ (cell code : Nat) (b p : Bool) (bad : List (Nat × Nat × Nat)) (s : State), (s.sys.failed = false) ∧ (s.taskOn cell = none)) ∧
    (∃ (cell : Nat) (x : Task) (o : TaskOut) (bad : List (Nat × Nat × Nat)) (s : State), (s.sys.failed = false) ∧ (s.taskOn cell = some x) ∧ (x.out = some o) ∧ (o ≠ .trap)) ∧
    (∃ (cell code : Nat) (p : Bool) (bad : List (Nat × Nat × Nat)) (i : Instr) (x : Task) (s y : State), (s.sys.failed = false) ∧ (s.taskOn cell = some x) ∧ ((i = .taskWatchdog cell ∧ code = 2 ∧ y = s ∨ i = .cellFault cell code false p ∧ y = s ∨ i = .taskComplete cell bad ∧ x.out = some .trap ∧ code = 4 ∧ y = s.withBad bad)) ∧ ((y.occur 7 cell code 0 (y.taskLine x)).1 = false)) ∧
    (∃ (cell code : Nat) (p : Bool) (bad : List (Nat × Nat × Nat)) (i : Instr) (x : Task) (s y : State), (s.sys.failed = false) ∧ (s.taskOn cell = some x) ∧ ((i = .taskWatchdog cell ∧ code = 2 ∧ y = s ∨ i = .cellFault cell code false p ∧ y = s ∨ i = .taskComplete cell bad ∧ x.out = some .trap ∧ code = 4 ∧ y = s.withBad bad)) ∧ ((y.occur 7 cell code 0 (y.taskLine x)).1 = false)) ∧
    (∃ (cell code : Nat) (p : Bool) (bad : List (Nat × Nat × Nat)) (i : Instr) (x : Task) (s y : State), (s.sys.failed = false) ∧ (s.taskOn cell = some x) ∧ ((i = .taskWatchdog cell ∧ code = 2 ∧ y = s ∨ i = .cellFault cell code false p ∧ y = s ∨ i = .taskComplete cell bad ∧ x.out = some .trap ∧ code = 4 ∧ y = s.withBad bad)) ∧ ((y.occur 7 cell code 0 (y.taskLine x)).1 = false)) ∧
    (∃ (cell code : Nat) (p : Bool) (x : Task) (s y : State), (s.sys.failed = false) ∧ (s.taskOn cell = some x) ∧ (y = (if p then s.rewriteParam (cell / 16) x.epoch else s)) ∧ ((y.occur 8 (cell / 16) 1 0 (y.taskLine x)).1 = false)) ∧
    (∃ (frame mhz : Nat) (s : State), ((∀ x ∈ s.comb.tasks, ∀ c, x.cell = some c → c / 16 ≠ frame)) ∧ (mhz ∈ [1200, 1000, 800, 600]) ∧ (mhz ≤ s.clockLimit)) ∧
    (∃ (frame mhz : Nat) (s : State), ((∀ x ∈ s.comb.tasks, ∀ c, x.cell = some c → c / 16 ≠ frame)) ∧ (mhz ∈ [1200, 1000, 800, 600]) ∧ (mhz ≤ s.clockLimit)) ∧
    (∃ (frame mhz : Nat) (s : State), (∃ x ∈ s.comb.tasks, ∃ c, x.cell = some c ∧ c / 16 = frame) ∨ ¬ mhz ∈ [1200, 1000, 800, 600] ∨ s.clockLimit < mhz) ∧
    (∃ (frame mhz : Nat) (s : State), (∃ x ∈ s.comb.tasks, ∃ c, x.cell = some c ∧ c / 16 = frame) ∨ ¬ mhz ∈ [1200, 1000, 800, 600] ∨ s.clockLimit < mhz) ∧
    (∃ (frame mhz : Nat) (s : State), (∃ x ∈ s.comb.tasks, ∃ c, x.cell = some c ∧ c / 16 = frame) ∨ ¬ mhz ∈ [1200, 1000, 800, 600] ∨ s.clockLimit < mhz) ∧
    (∃ (s : State) (ages : List Nat) (i : Nat), 2000 < maxN ages ∧ lowestRank (s.camDeck.sheddable.filter (fun x => !s.comb.shed.contains x.1)) = some i) ∧
    (∃ (busy : Nat) (ages : List Nat) (s : State), maxN ages < 500 ∧ busy < 75 ∧ s.comb.calm + 1 < 10) ∧
    (∃ (busy : Nat) (ages pre : List Nat) (i : Nat) (s : State), maxN ages < 500 ∧ busy < 75 ∧ 10 ≤ s.comb.calm + 1 ∧ s.comb.shed = pre ++ [i]) ∧
    (∃ (busy : Nat) (ages : List Nat), maxN ages ≤ 2000 ∧ (75 ≤ busy ∨ 500 ≤ maxN ages)) ∧
    (∃ (i : Task), i.withdrawn = false ∧ i.faults < 2) :=
  ⟨⟨State.reset, by first | decide | (unfold Allowed; decide)⟩,
   ⟨{ inMode .inspect with comb.tasks := [{ task0 with cell := none }] }, ⟨by decide, ⟨_, List.mem_singleton.mpr rfl, rfl, by decide⟩⟩⟩,
   ⟨255, 0, false, false, [], State.reset, by first | decide | (unfold Allowed; decide)⟩,
   ⟨5, { task0 with cell := some 5, out := some (.nodes []) }, .nodes [], [], { inMode .inspect with comb.tasks := [{ task0 with cell := some 5, out := some (.nodes []) }] }, ⟨rfl, rfl, rfl, by decide⟩⟩,
   ⟨5, 2, false, [], .taskWatchdog 5, { task0 with cell := some 5 }, { inMode .inspect with comb.tasks := [{ task0 with cell := some 5 }] }, { inMode .inspect with comb.tasks := [{ task0 with cell := some 5 }] }, ⟨rfl, rfl, .inl ⟨rfl, rfl, rfl⟩, by decide⟩⟩,
   ⟨5, 1, false, [], .cellFault 5 1 false, { task0 with cell := some 5, faults := 2 }, { inMode .inspect with comb.tasks := [{ task0 with cell := some 5, faults := 2 }] }, { inMode .inspect with comb.tasks := [{ task0 with cell := some 5, faults := 2 }] }, ⟨rfl, rfl, .inr (.inl ⟨rfl, rfl⟩), by decide⟩⟩,
   ⟨5, 4, false, [], .taskComplete 5, { task0 with cell := some 5, out := some .trap, withdrawn := true }, { inMode .inspect with comb.tasks := [{ task0 with cell := some 5, out := some .trap, withdrawn := true }] }, { inMode .inspect with comb.tasks := [{ task0 with cell := some 5, out := some .trap, withdrawn := true }] }, ⟨rfl, rfl, .inr (.inr ⟨rfl, rfl, rfl, rfl⟩), by decide⟩⟩,
   ⟨5, 1, false, { task0 with cell := some 5 }, { inMode .inspect with comb.tasks := [{ task0 with cell := some 5 }] }, { inMode .inspect with comb.tasks := [{ task0 with cell := some 5 }] }, ⟨rfl, rfl, rfl, by decide⟩⟩,
   ⟨15, 600, State.reset, ⟨fun _ h => absurd h List.not_mem_nil, by decide, by decide⟩⟩,
   ⟨0, 1200, State.reset, ⟨fun _ h => absurd h List.not_mem_nil, by decide, by decide⟩⟩,
   ⟨0, 800, { inMode .inspect with comb.tasks := [{ task0 with cell := some 5 }] }, .inl ⟨_, List.mem_singleton.mpr rfl, 5, rfl, rfl⟩⟩,
   ⟨0, 700, State.reset, .inr (.inl (by decide))⟩,
   ⟨0, 1200, { State.reset with power.derate := 1 }, .inr (.inr (by decide))⟩,
   ⟨withDeck (inMode .inspect) [{ rcp 0x30 5 [0] with body := wordsBytes ([1, 4, 0, 0, 0x30501000, 0, 4, 0] ++ List.replicate 61 0) }], [2001], 0, by first | decide | (unfold Allowed; decide)⟩,
   ⟨74, [499], { State.reset with comb.calm := 8 }, by first | decide | (unfold Allowed; decide)⟩,
   ⟨74, [499], [3], 5, { State.reset with comb.calm := 9, comb.shed := [3, 5] }, by first | decide | (unfold Allowed; decide)⟩,
   ⟨75, [2000], by first | decide | (unfold Allowed; decide)⟩,
   ⟨{ task0 with faults := 1 }, by first | decide | (unfold Allowed; decide)⟩⟩

theorem wit_MarkersActAndStationsSwitch :
    (∃ (m : Nat) (s : State), (m < s.mark.marker.length) ∧ ((∀ q ∈ (s.marker m).queue, s.reached m q.p0 = true → (s.deckOf q.epoch).markMode m = 1))) ∧
    (∃ (m : Nat) (s : State), (m < s.mark.marker.length) ∧ ((∀ q ∈ (s.marker m).queue, s.reached m q.p0 = true → (s.deckOf q.epoch).markMode m = 1))) ∧
    (∃ (m : Nat) (s : State), (m < s.mark.marker.length) ∧ ((∀ q ∈ (s.marker m).queue, s.reached m q.p0 = true → (s.deckOf q.epoch).markMode m ≠ 1)) ∧ ((∃ q ∈ (s.marker m).queue, s.reached m q.p0 = true))) ∧
    (∃ (m : Nat) (s : State), m < s.mark.marker.length) ∧
    (∃ (m : Nat) (s : State), s.deck.swap = none) ∧
    (∃ (m : Nat) (w : Swap) (s : State), (s.deck.swap = some w) ∧ (¬ Station.marker m ∈ w.waiting ∨ s.highWpos < w.here + s.profile.current.markOff m)) ∧
    (∃ (m : Nat) (w : Swap) (s : State), (s.deck.swap = some w) ∧ (¬ Station.marker m ∈ w.waiting ∨ s.highWpos < w.here + s.profile.current.markOff m)) ∧
    (∃ (m : Nat) (w : Swap) (s : State), (s.deck.swap = some w) ∧ (Station.marker m ∈ w.waiting) ∧ (w.here + s.profile.current.markOff m ≤ s.highWpos)) ∧
    (∃ (m : Nat) (s : State), m < s.mark.marker.length ∧ (∀ q ∈ (s.marker m).gates, s.reached m q.p1 = false)) ∧
    (∃ (m : Nat) (s : State), m < s.mark.marker.length ∧ (∃ q ∈ (s.marker m).gates, s.reached m q.p1 = true)) ∧
    (∃ (m : Nat) (w : Swap), Station.marker m ∈ w.waiting ∧ ∀ x ∈ w.waiting, x = .marker m) ∧
    (∃ (m : Nat) (w : Swap), Station.marker m ∈ w.waiting ∧ ∃ x ∈ w.waiting, x ≠ .marker m) :=
  ⟨⟨7, State.reset, by first | decide | (unfold Allowed; decide)⟩,
   ⟨0, withDeck { inMode .inspect with mark.marker := updAt State.reset.mark.marker 0 (fun m => { m with queue := [{ p0 := 0, p1 := 100, epoch := 0 }] }) } [sec 0x0071 0 36 [(0x10, 1)]], by first | decide | (unfold Allowed; decide)⟩,
   ⟨0, withDeck { inMode .inspect with mark.marker := updAt State.reset.mark.marker 0 (fun m => { m with queue := [{ p0 := 0, p1 := 100, epoch := 0 }] }) } [], by first | decide | (unfold Allowed; decide)⟩,
   ⟨7, State.reset, by first | decide | (unfold Allowed; decide)⟩,
   ⟨0, State.reset, by first | decide | (unfold Allowed; decide)⟩,
   ⟨7, { ws := 0, waiting := [.camera] }, { inMode .inspect with deck.swap := some { ws := 0, waiting := [.camera] } }, by first | decide | (unfold Allowed; decide)⟩,
   ⟨7, { ws := 1, waiting := [.marker 7] }, { inMode .inspect with deck.swap := some { ws := 1, waiting := [.marker 7] } }, by first | decide | (unfold Allowed; decide)⟩,
   ⟨7, { ws := 0, waiting := [.marker 7, .camera] }, { inMode .inspect with deck.swap := some { ws := 0, waiting := [.marker 7, .camera] } }, by first | decide | (unfold Allowed; decide)⟩,
   ⟨0, withDeck { inMode .inspect with mark.marker := updAt State.reset.mark.marker 0 (fun m => { m with gates := [{ p0 := 0, p1 := 100, epoch := 0 }] }) } [], by first | decide | (unfold Allowed; decide)⟩,
   ⟨0, withDeck { inMode .inspect with mark.marker := updAt State.reset.mark.marker 0 (fun m => { m with gates := [{ p0 := -100, p1 := 0, epoch := 0 }] }) } [], by first | decide | (unfold Allowed; decide)⟩,
   ⟨7, { ws := 0, waiting := [.marker 7] }, by first | decide | (unfold Allowed; decide)⟩,
   ⟨7, { ws := 0, waiting := [.marker 7, .camera] }, by first | decide | (unfold Allowed; decide)⟩⟩

theorem wit_HeadsPrintTheirLines :
    (∃ (h tick : Nat) (s : State) (b : Bool), (s.deck.swap = none) ∧ ((s.head h).on = false ∨ (s.reachTick tick).lineDue h = false ∧ (s.reachTick tick).pos.h < (s.reachTick tick).afterNextAtH h)) ∧
    (∃ (h tick : Nat) (s : State) (b : Bool), (s.deck.swap = none) ∧ ((s.head h).on = false ∨ (s.reachTick tick).lineDue h = false ∧ (s.reachTick tick).pos.h < (s.reachTick tick).afterNextAtH h)) ∧
    (∃ (h tick : Nat) (s : State), (s.deck.swap = none) ∧ (h < s.print.head.length) ∧ ((s.head h).on = true) ∧ ((s.reachTick tick).lineDue h = true) ∧ ((s.reachTick tick).pos.h < (s.reachTick tick).afterNextAtH h)) ∧
    (∃ (h tick : Nat) (s : State), (s.deck.swap = none) ∧ (h < s.print.head.length) ∧ ((s.head h).on = true) ∧ ((s.reachTick tick).lineDue h = true) ∧ ((s.reachTick tick).pos.h < (s.reachTick tick).afterNextAtH h)) ∧
    (∃ (h tick : Nat) (b : Bool) (s : State), ((s.head h).on = false ∨ (s.head h).prep.isSome = true) ∧ (b = false ∨ s.sys.failed = false)) ∧
    (∃ (h tick : Nat) (b : Bool) (s : State), ((s.head h).on = false ∨ (s.head h).prep.isSome = true) ∧ (b = false ∨ s.sys.failed = false)) ∧
    (∃ (h tick : Nat) (s : State), (s.deck.swap = none) ∧ (h < s.print.head.length) ∧ ((s.head h).on = true) ∧ ((s.head h).prep = none) ∧ ((s.head h).returning = false) ∧ ((s.reachTick tick).isUpstream h = false ∨ ((s.reachTick tick).fetch (((s.reachTick tick).headDeck h).groupLead h) (s.head h).epoch (s.head h).k).isSome = true)) ∧
    (∃ (h tick : Nat) (s : State) (l : PrepLine), (h < s.print.head.length) ∧ ((s.head h).on = true) ∧ ((s.head h).prep = some l)) ∧
    (∃ (lead item row : Nat) (s : State), (∀ i ∈ (s.queueOf lead).items, i.itemId ≠ item)) ∧
    (∃ (lead item row : Nat) (i : PrintItem) (s : State), (lead < s.print.queue.length) ∧ ((s.queueOf lead).items.find? (fun i => i.itemId == item && decide (row < i.height) && (lookupN row i.rows).isNone) = some i)) ∧
    (∃ s : State, (s.print.estop = false) ∧ (s.profile.current.ioPin 0 ≠ 0xFF) ∧ (s.print.head.length = 8)) ∧
    (∃ (h : Nat) (s : State), (h < s.print.head.length) ∧ ((s.head h).hopen = false)) ∧
    (∃ (h : Nat) (s : State), (h < s.print.head.length) ∧ ((s.head h).hopen = true)) ∧
    (∃ s : State, s.print.head.length = 8) ∧
    (∃ (h : Nat) (s : State), h < s.print.head.length) ∧
    (∃ (h : Nat) (s : State), h < s.print.head.length) ∧
    (∃ s : State, s.sys.lineMode.isPrint = false) ∧
    (∃ s : State, s.sys.lineMode.isPrint = true) ∧
    (∃ (h tick : Nat) (s : State), (s.head h).on = true ∧ (s.head h).prep.isSome = true) ∧
    (∃ (tick : Nat) (l : PrepLine) (s : State), l.start + msTicks ≤ max s.now tick) ∧
    (∃ (tick : Nat) (l : PrepLine) (s : State), max s.now tick < l.start + msTicks) ∧
    (∃ (s : State), s.print.webAbsent = true ∧ s.print.jam = true ∧ s.print.estop = true ∧ (s.head 0).hopen = true) ∧
    (∃ (h : Nat) (s : State), h < s.print.head.length ∧ (s.head h).on = true ∧ (s.head h).hopen = false ∧ s.print.estop = false ∧ s.print.estopHeld = false ∧ s.power.brownout = false ∧ s.isRetired 9 h = false) ∧
    (∃ (h : Nat) (s : State), h < s.print.head.length ∧ (s.head h).hsen = true) :=
  ⟨⟨0, 0, State.reset, false, by first | decide | (unfold Allowed; decide)⟩,
   ⟨0, 0, head0 (inMode .print) (fun k => { k with on := true, k := 1000000 }), false, by first | decide | (unfold Allowed; decide)⟩,
   ⟨0, 0, head0 (withDeck (withProfile (inMode .print) [headSec]) [printSec, sec 0x0080 0 440 [(0, 0x80000000), (4, 0xBB800000), (8, 0x10000000)]]) (fun k => { k with on := true }), by first | decide | (unfold Allowed; decide)⟩,
   ⟨0, 0, head0 (withDeck (withProfile (inMode .print) [headSec]) [printSec, sec 0x0080 0 440 [(0, 0x80000000), (4, 0xBB800000), (8, 0x10000000)]]) (fun k => { k with on := true }), by first | decide | (unfold Allowed; decide)⟩,
   ⟨0, 0, false, State.reset, by first | decide | (unfold Allowed; decide)⟩,
   ⟨7, 0, true, State.reset, by first | decide | (unfold Allowed; decide)⟩,
   ⟨0, 0, head0 (withDeck (withProfile (inMode .print) [headSec]) [printSec, sec 0x0080 0 440 [(0, 0x80000000), (4, 0xBB800000), (8, 0x10000000)]]) (fun k => { k with on := true }), by first | decide | (unfold Allowed; decide)⟩,
   ⟨0, 0, head0 (withDeck (withProfile (inMode .print) [headSec]) [printSec, sec 0x0080 0 440 [(0, 0x80000000), (4, 0xBB800000), (8, 0x10000000)]]) (fun k => { k with on := true, prep := some { epoch := 0, k := 0, start := 0 } }), { epoch := 0, k := 0, start := 0 }, by first | decide | (unfold Allowed; decide)⟩,
   ⟨0, 1, 0, State.reset, by first | decide | (unfold Allowed; decide)⟩,
   ⟨0, 1, 1, { index := 5, epoch := 0, itemId := 1, row := 0, slot := 0, symb := 0, knockout := false, first := 0, height := 2, width := 1, xpos := 0, bitmap := 0, stride := 0, dataAddr := 0, dataLen := 0 }, { State.reset with print.queue := updAt State.reset.print.queue 0 (fun q => { q with items := [{ index := 5, epoch := 0, itemId := 1, row := 0, slot := 0, symb := 0, knockout := false, first := 0, height := 2, width := 1, xpos := 0, bitmap := 0, stride := 0, dataAddr := 0, dataLen := 0 }] }) }, by first | decide | (unfold Allowed; decide)⟩,
   ⟨withProfile State.reset [sec 0x8050 0 64 []], by first | decide | (unfold Allowed; decide)⟩,
   ⟨7, State.reset, by first | decide | (unfold Allowed; decide)⟩,
   ⟨0, head0 (withDeck (withProfile (inMode .print) [headSec]) [printSec, sec 0x0080 0 440 [(0, 0x80000000), (4, 0xBB800000), (8, 0x10000000)]]) (fun k => { k with hopen := true }), by first | decide | (unfold Allowed; decide)⟩,
   ⟨State.reset, by first | decide | (unfold Allowed; decide)⟩,
   ⟨7, State.reset, by first | decide | (unfold Allowed; decide)⟩,
   ⟨7, State.reset, by first | decide | (unfold Allowed; decide)⟩,
   ⟨inMode .inspect, by first | decide | (unfold Allowed; decide)⟩,
   ⟨inMode .printVerify, by first | decide | (unfold Allowed; decide)⟩,
   ⟨0, 0, head0 (withDeck (withProfile (inMode .print) [headSec]) [printSec, sec 0x0080 0 440 [(0, 0x80000000), (4, 0xBB800000), (8, 0x10000000)]]) (fun k => { k with on := true, prep := some { epoch := 0, k := 0, start := 0 } }), by first | decide | (unfold Allowed; decide)⟩,
   ⟨200000, { epoch := 0, k := 0, start := 0 }, State.reset, by first | decide | (unfold Allowed; decide)⟩,
   ⟨199999, { epoch := 0, k := 0, start := 0 }, State.reset, by first | decide | (unfold Allowed; decide)⟩,
   ⟨{ head0 State.reset (fun k => { k with hopen := true }) with print.webAbsent := true, print.jam := true, print.estop := true }, by first | decide | (unfold Allowed; decide)⟩,
   ⟨0, head0 (withDeck (withProfile (inMode .print) [headSec]) [printSec, sec 0x0080 0 440 [(0, 0x80000000), (4, 0xBB800000), (8, 0x10000000)]]) (fun k => { k with on := true }), by first | decide | (unfold Allowed; decide)⟩,
   ⟨0, head0 (withDeck (withProfile (inMode .print) [headSec]) [printSec, sec 0x0080 0 440 [(0, 0x80000000), (4, 0xBB800000), (8, 0x10000000)]]) (fun k => { k with hsen := true }), by first | decide | (unfold Allowed; decide)⟩⟩

theorem wit_ChipAnswersAuthenticate :
    (∃ (h id count : Nat) (key : List Byte) (s : State), (h < s.print.head.length) ∧ ((s.head h).chip.phase = 1) ∧ (s.headKey h = some key) ∧ (((s.head h).chip.chipId = some id → (s.head h).chip.count ≤ count))) ∧
    (∃ (h id count : Nat) (mac : List Byte) (s : State), (h < s.print.head.length) ∧ ((s.head h).chip.phase = 1) ∧ ((s.headKey h = none ∨ (∃ key, s.headKey h = some key ∧ mac ≠ chipMac 0x41 key (s.head h).chip.nonce id count) ∨ (∃ key, s.headKey h = some key ∧ mac = chipMac 0x41 key (s.head h).chip.nonce id count ∧ (s.head h).chip.chipId = some id ∧ count < (s.head h).chip.count)))) ∧
    (∃ (h id count : Nat) (mac : List Byte) (s : State), (h < s.print.head.length) ∧ ((s.head h).chip.phase = 1) ∧ ((s.headKey h = none ∨ (∃ key, s.headKey h = some key ∧ mac ≠ chipMac 0x41 key (s.head h).chip.nonce id count) ∨ (∃ key, s.headKey h = some key ∧ mac = chipMac 0x41 key (s.head h).chip.nonce id count ∧ (s.head h).chip.chipId = some id ∧ count < (s.head h).chip.count)))) ∧
    (∃ (h : Nat) (s : State), (h < s.print.head.length) ∧ ((s.head h).chip.phase ≠ 0) ∧ ((s.head h).chip.attempts < 2)) ∧
    (∃ (h : Nat) (s : State), (h < s.print.head.length) ∧ ((s.head h).chip.phase ≠ 0) ∧ (2 ≤ (s.head h).chip.attempts)) ∧
    (∃ (h id count : Nat) (mac : List Byte) (s : State), (h < s.print.head.length) ∧ ((s.head h).chip.phase = 2)) ∧
    (∃ (h : Nat) (s : State), (s.head h).chip.phase = 0) ∧
    (∃ (h : Nat) (s : State), (s.head h).chip.phase = 1) ∧
    (∃ (h : Nat) (s : State), (s.head h).chip.phase = 2 ∧ h < s.print.head.length ∧ s.headKey h = some [] ∧ (s.head h).chip.chipId = some 7 ∧ (s.head h).chip.written = 5) ∧
    (∃ (h : Nat) (s : State), (s.head h).chip.phase = 2 ∧ (s.head h).chip.chipId ≠ some 7) ∧
    (∃ (s : State) (id count : Nat) (mac : List Byte), (s.head 0).chip.phase = 1 ∧ ∃ key, s.headKey 0 = some key ∧ mac ≠ chipMac 0x41 key (s.head 0).chip.nonce id count) :=
  ⟨⟨0, 7, 5, [], { head0 (inMode .configure) (fun k => { k with chip := { k.chip with phase := 1, chipId := some 7, count := 5 } }) with fuse.keyRam := [some []] }, ⟨by decide, rfl, rfl, fun _ => by decide⟩⟩,
   ⟨7, 7, 5, [], { inMode .configure with print.head := updAt State.reset.print.head 7 (fun k => { k with chip := { k.chip with phase := 1 } }) }, ⟨by decide, rfl, .inl rfl⟩⟩,
   ⟨0, 7, 4, chipMac 0x41 [] [] 7 4, { head0 (inMode .configure) (fun k => { k with chip := { k.chip with phase := 1, chipId := some 7, count := 5 } }) with fuse.keyRam := [some []] }, ⟨by decide, rfl, .inr (.inr ⟨[], rfl, rfl, rfl, by decide⟩)⟩⟩,
   ⟨0, { head0 (inMode .configure) (fun k => { k with chip := { k.chip with phase := 2, attempts := 1 } }) with fuse.keyRam := [some []] }, by first | decide | (unfold Allowed; decide)⟩,
   ⟨0, { head0 (inMode .configure) (fun k => { k with chip := { k.chip with phase := 1, attempts := 2 } }) with fuse.keyRam := [some []] }, by first | decide | (unfold Allowed; decide)⟩,
   ⟨0, 7, 5, [], { head0 (inMode .configure) (fun k => { k with chip := { k.chip with phase := 2 } }) with fuse.keyRam := [some []] }, by first | decide | (unfold Allowed; decide)⟩,
   ⟨0, State.reset, by first | decide | (unfold Allowed; decide)⟩,
   ⟨0, { head0 (inMode .configure) (fun k => { k with chip := { k.chip with phase := 1 } }) with fuse.keyRam := [some []] }, by first | decide | (unfold Allowed; decide)⟩,
   ⟨0, { head0 (inMode .configure) (fun k => { k with chip := { k.chip with phase := 2, chipId := some 7, written := 5 } }) with fuse.keyRam := [some []] }, by first | decide | (unfold Allowed; decide)⟩,
   ⟨0, { head0 (inMode .configure) (fun k => { k with chip := { k.chip with phase := 2 } }) with fuse.keyRam := [some []] }, by first | decide | (unfold Allowed; decide)⟩,
   ⟨{ head0 (inMode .configure) (fun k => { k with chip := { k.chip with phase := 1 } }) with fuse.keyRam := [some []] }, 7, 5, [], ⟨rfl, [], rfl, fun h => by have := congrArg List.length h; revert this; decide⟩⟩⟩

theorem wit_NetworkForwardsAndAnswers :
    (∃ (port : Nat) (f : EthFrame) (s : State), (port < s.net.ports.length) ∧ (port ≤ 1) ∧ (s.fault.netUnusable = false) ∧ (s.net.switchUp = false ∨ (getN s.net.ports port {}).link = false)) ∧
    (∃ (port : Nat) (f : EthFrame) (s : State), (port < s.net.ports.length) ∧ (port ≤ 1) ∧ (s.fault.netUnusable = false) ∧ (s.net.switchUp = false ∨ (getN s.net.ports port {}).link = false)) ∧
    (∃ (port : Nat) (f : EthFrame) (s : State), (port < s.net.ports.length) ∧ (port ≤ 1) ∧ (s.fault.netUnusable = false) ∧ (s.net.switchUp = true) ∧ ((getN s.net.ports port {}).link = true)) ∧
    (∃ (port o : Nat) (f : EthFrame) (s : State), (port ≤ 1) ∧ (o < s.net.ports.length) ∧ (o ≤ 1) ∧ (o ≠ port) ∧ (s.fault.netUnusable = false) ∧ (s.net.switchUp = true) ∧ ((getN s.net.ports port {}).link = true) ∧ ((getN s.net.ports o {}).link = true) ∧ (f.fcsOk = true) ∧ (f.pause = false) ∧ (f.src ≠ s.ownMac) ∧ (f.noSpace = false) ∧ (f.bufferError = false) ∧ (64 ≤ f.len) ∧ (f.len ≤ 1522) ∧ (f.multicast = false) ∧ (f.dst ≠ s.ownMac) ∧ (f.dst ≠ f.src) ∧ (lookupN f.dst s.net.macTable = some o) ∧ (f.ptpEvent = 0) ∧ (s.net.macTable.length < 1024)) ∧
    (∃ (port : Nat) (up : Bool) (s : State), port < s.net.ports.length) ∧
    (∃ (port src : Nat) (ns : Int) (udp : Bool) (s : State), (s.net.master = some src) ∧ (s.profile.current.ptpTakes udp = true) ∧ (s.net.mastering = false) ∧ (s.profile.current.ptpRole ≠ 0) ∧ (s.fault.netUnusable = false) ∧ (s.net.delays ≠ [])) ∧
    (∃ (port src : Nat) (ns : Int) (udp : Bool) (s : State), s.net.master ≠ some src ∨ s.profile.current.ptpTakes udp = false ∨ s.net.mastering = true ∨ s.profile.current.ptpRole = 0) ∧
    (∃ (port src : Nat) (ns : Int) (udp : Bool) (s : State), s.net.master ≠ some src ∨ s.profile.current.ptpTakes udp = false ∨ s.net.mastering = true ∨ s.profile.current.ptpRole = 0) ∧
    (∃ (port src : Nat) (ns : Int) (udp : Bool) (s : State), s.net.master ≠ some src ∨ s.profile.current.ptpTakes udp = false ∨ s.net.mastering = true ∨ s.profile.current.ptpRole = 0) ∧
    (∃ (port src : Nat) (ns : Int) (udp : Bool) (s : State), s.net.master ≠ some src ∨ s.profile.current.ptpTakes udp = false ∨ s.net.mastering = true ∨ s.profile.current.ptpRole = 0) ∧
    (∃ (a mj mn len v : Nat) (reply : Bool) (s : State), (s.profile.current.ipv4 ≠ 0) ∧ (s.fault.netUnusable = false)) ∧
    (∃ (a port hd kind off : Nat) (data : List Byte) (s : State), (s.profile.current.ipv4 ≠ 0) ∧ (s.fault.netUnusable = false) ∧ (s.profile.current.allows a = false)) ∧
    (∃ (a port hd kind off : Nat) (data : List Byte) (s : State), (s.profile.current.ipv4 ≠ 0) ∧ (s.fault.netUnusable = false) ∧ (s.profile.current.allows a = true)) ∧
    (∃ (f : EthFrame) (s : State), s.net.switchUp = true ∧ (getN s.net.ports 0 {}).link = true ∧ f.fcsOk = false) ∧
    (∃ (f : EthFrame) (s : State), s.net.switchUp = true ∧ (getN s.net.ports 0 {}).link = true ∧ f.fcsOk = true ∧ f.pause = true) ∧
    (∃ (f : EthFrame) (s : State), s.net.switchUp = true ∧ (getN s.net.ports 0 {}).link = true ∧ f.fcsOk = true ∧ f.pause = false ∧ f.src = s.ownMac) ∧
    (∃ (s : State), s.net.mastering = true ∧ s.profile.current.ptpRole = 2) ∧
    (∃ (s : State), s.net.mastering = false ∨ s.profile.current.ptpRole ≠ 2) ∧
    (∃ (s : State), s.net.master.isSome = true ∧ s.net.mastering = false ∧ s.profile.current.ptpRole ≠ 0) ∧
    (∃ (s : State), s.net.locked = true ∧ s.profile.current.lockNs = 100 ∧ s.net.delays ≠ []) ∧
    (∃ (mj len : Nat) (s : State), s.profile.current.ipv4 ≠ 0 ∧ s.fault.netUnusable = false ∧ (1 < mj ∨ len < 24)) ∧
    (∃ (s : State), s.profile.current.helloS = 0) ∧
    (∃ (s : State), s.profile.current.helloS ≠ 0 ∧ s.net.ports.any (·.link) = false) ∧
    (∃ (hd kind off b len : Nat) (data : List Byte) (s : State), s.profile.current.ipv4 ≠ 0 ∧ s.fault.netUnusable = false ∧ s.profile.current.allows 0x0A000002 = true ∧ s.bulkTarget hd kind = some (b, len, true) ∧ data.length % 4 = 0 ∧ data.length ≤ 1408 ∧ off + data.length ≤ len) ∧
    (∃ (hd kind : Nat) (s : State), s.bulkTarget hd kind = none) ∧
    (∃ (s : State), s.bulkTarget 1 1 = some (0x1000000000, 4096, true) ∧ 4096 < 4093 + 4) ∧
    (∃ (f : EthFrame) (s : State), f.fcsOk = true ∧ 64 ≤ f.len ∧ f.len ≤ 1522 ∧ f.pause = false ∧ f.src ≠ s.ownMac ∧ f.noSpace = true) ∧
    (∃ (f : EthFrame) (s : State), f.fcsOk = true ∧ 64 ≤ f.len ∧ f.len ≤ 1522 ∧ f.pause = false ∧ f.src ≠ s.ownMac ∧ f.bufferError = true ∧ f.noSpace = false) ∧
    (∃ (f : EthFrame), f.fcsOk = true ∧ f.len < 64) :=
  ⟨⟨1, f0, State.reset, by first | decide | (unfold Allowed; decide)⟩,
   ⟨0, f0, { State.reset with net.switchUp := true }, by first | decide | (unfold Allowed; decide)⟩,
   ⟨0, f0, { withProfile (inMode .configure) [netSec2 0] with net.switchUp := true, net.ports := [{ link := true }, { link := true }] }, by first | decide | (unfold Allowed; decide)⟩,
   ⟨0, 1, { f0 with dst := 0x22, src := 0x11, len := 1522 }, { State.reset with net.switchUp := true, net.ports := [{ link := true }, { link := true }], net.macTable := [(0x22, 1)] }, by first | decide | (unfold Allowed; decide)⟩,
   ⟨1, true, State.reset, by first | decide | (unfold Allowed; decide)⟩,
   ⟨0, 3, 0, false, { withProfile (inMode .configure) [netSec2 1] with net.master := some 3, net.delays := [10] }, by first | decide | (unfold Allowed; decide)⟩,
   ⟨0, 0, 0, false, State.reset, by first | decide | (unfold Allowed; decide)⟩,
   ⟨0, 3, 0, false, { withProfile (inMode .configure) [netSec2 1] with net.master := some 3, net.mastering := true }, by first | decide | (unfold Allowed; decide)⟩,
   ⟨0, 3, 0, false, { withProfile (inMode .configure) [netSec2 0] with net.master := some 3 }, by first | decide | (unfold Allowed; decide)⟩,
   ⟨0, 3, 0, true, { withProfile (inMode .configure) [netSec2 1] with net.master := some 3 }, by first | decide | (unfold Allowed; decide)⟩,
   ⟨5, 1, 0, 24, 0, false, withProfile (inMode .configure) [netSec2 0], by first | decide | (unfold Allowed; decide)⟩,
   ⟨0x0A000003, 0, 0, 0, 0, [], withProfile (inMode .configure) [netSec2 0], by first | decide | (unfold Allowed; decide)⟩,
   ⟨0x0A000002, 0, 0, 0, 0, [], withProfile (inMode .configure) [netSec2 0], by first | decide | (unfold Allowed; decide)⟩,
   ⟨{ f0 with fcsOk := false }, { State.reset with net.switchUp := true, net.ports := [{ link := true }, { link := true }], fuse.mac := 0x33 }, by first | decide | (unfold Allowed; decide)⟩,
   ⟨{ f0 with pause := true }, { State.reset with net.switchUp := true, net.ports := [{ link := true }, { link := true }], fuse.mac := 0x33 }, by first | decide | (unfold Allowed; decide)⟩,
   ⟨{ f0 with src := 0x33 }, { State.reset with net.switchUp := true, net.ports := [{ link := true }, { link := true }], fuse.mac := 0x33 }, by first | decide | (unfold Allowed; decide)⟩,
   ⟨{ withProfile (inMode .configure) [netSec2 2] with net.mastering := true }, by first | decide | (unfold Allowed; decide)⟩,
   ⟨State.reset, by first | decide | (unfold Allowed; decide)⟩,
   ⟨{ withProfile (inMode .configure) [netSec2 1] with net.master := some 3 }, by first | decide | (unfold Allowed; decide)⟩,
   ⟨{ withProfile (inMode .configure) [netSec2 1] with net.locked := true, net.delays := [10] }, by first | decide | (unfold Allowed; decide)⟩,
   ⟨2, 23, withProfile (inMode .configure) [netSec2 0], by first | decide | (unfold Allowed; decide)⟩,
   ⟨withProfile (inMode .configure) [netSec2 0], by first | decide | (unfold Allowed; decide)⟩,
   ⟨State.reset, by first | decide | (unfold Allowed; decide)⟩,
   ⟨1, 1, 4092, 0x1000000000, 4096, [1, 2, 3, 4], { withProfile (inMode .configure) [netSec2 0] with dram.hostBlocks := [(1, 0x1000000000, 4096)] }, by first | decide | (unfold Allowed; decide)⟩,
   ⟨2, 1, State.reset, by first | decide | (unfold Allowed; decide)⟩,
   ⟨{ State.reset with dram.hostBlocks := [(1, 0x1000000000, 4096)] }, by first | decide | (unfold Allowed; decide)⟩,
   ⟨{ f0 with noSpace := true }, { State.reset with net.switchUp := true, net.ports := [{ link := true }, { link := true }], fuse.mac := 0x33 }, by first | decide | (unfold Allowed; decide)⟩,
   ⟨{ f0 with bufferError := true }, { State.reset with net.switchUp := true, net.ports := [{ link := true }, { link := true }], fuse.mac := 0x33 }, by first | decide | (unfold Allowed; decide)⟩,
   ⟨{ f0 with len := 63 }, by first | decide | (unfold Allowed; decide)⟩⟩

theorem wit_PairingLinkTrainsAndFails :
    (∃ (v role good chip own rtt st : Nat) (s : State), (s.vd.link = 1) ∧ (s.mayTrain = true)) ∧
    (∃ (v role good chip own rtt st : Nat) (s : State), s.vd.link ≠ 1 ∨ s.mayTrain = false) ∧
    (∃ (a : Nat × Nat × Req × Int) (w : List Nat) (s : State), (s.vd.link = 2) ∧ (s.vd.asked.find? (fun a => a.1 == leAt (wordsBytes w) 4 4) = some a) ∧ (a.2.1 ≠ 0x0103)) ∧
    (∃ (w : List Nat) (s : State), (s.vd.link = 2) ∧ (s.vd.asked.find? (fun a => a.1 == leAt (wordsBytes w) 4 4) = none)) ∧
    (∃ (m q : Nat) (z s : State), (s.vd.link = 2) ∧ (q < 2 ^ 16) ∧ (z = { s with vd := { s.vd with tx := lanesUsed m } })) ∧
    (∃ (m q : Nat) (s : State), s.vd.link ≠ 2 ∨ 2 ^ 16 ≤ q) ∧
    (∃ (m q : Nat) (s : State), s.vd.link ≠ 2 ∨ 2 ^ 16 ≤ q) ∧
    (∃ (c n : Nat) (s : State), s.vd.link = 2) ∧
    (∃ (l : Option Nat) (c n : Nat) (s : State), s.vd.link = 2) ∧
    (∃ (l : Nat) (s : State), (s.vd.link = 2) ∧ (l ≤ 8) ∧ (s.vd.pair ≠ 2)) ∧
    (∃ (l : Option Nat) (c n : Nat) (peer : Bool) (s : State), s.vd.link ≠ 2) ∧
    (∃ (s : State), s.mayTrain = true ∧ s.vd.link = 0) ∧
    (∃ (s : State), s.mayTrain = false ∨ s.vd.link ≠ 0) ∧
    (∃ (good own : Nat) (s : State), s.vd.link = 1 ∧ s.mayTrain = true ∧ lanesUsed good ≠ 0 ∧ lanesUsed (s.liveLanes own) ≠ 0 ∧ bitAt good 8 = true ∧ bitAt (s.liveLanes own) 8 = true) ∧
    (∃ (good own : Nat) (s : State), s.vd.link = 1 ∧ s.mayTrain = true ∧ bitAt good 8 = false) ∧
    (∃ (s : State), (s.vd.link = 1 ∨ s.vd.link = 2) ∧ s.vd.pair ≠ 2) ∧
    (∃ (s : State), (s.vd.link = 1 ∨ s.vd.link = 2) ∧ s.vd.pair = 2) ∧
    (∃ (s : State), s.vd.link = 0 ∨ s.vd.link = 3) ∧
    (∃ (s : State), s.vdRole = 2 ∧ s.vd.link = 2) ∧
    (∃ (s : State), s.vdRole ≠ 2 ∨ s.vd.link ≠ 2) ∧
    (∃ (m q : Nat) (z s : State), s.vd.link = 2 ∧ q < 2 ^ 16 ∧ z.vd.tx = lanesUsed m ∧ z.capacityOk = false ∧ s.vd.pair = 2) ∧
    (∃ (m : Nat) (z : State), z.vd.tx = lanesUsed m ∧ z.capacityOk = true) ∧
    (∃ (s : State), s.vdRole = 1 ∧ s.vd.pair = 2) ∧
    (∃ (s : State), s.vdRole ≠ 1 ∨ s.vd.pair ≠ 2) :=
  ⟨⟨1, 2, 0x1FF, 0, 0x1FF, 0, 53125, { State.reset with vdRole := 1, vd.link := 1 }, by first | decide | (unfold Allowed; decide)⟩,
   ⟨1, 2, 0x1FF, 0, 0x1FF, 0, 53125, State.reset, by first | decide | (unfold Allowed; decide)⟩,
   ⟨(0, 4, r0, 0), [0, 0, 0, 0], { State.reset with vd.link := 2, vd.asked := [(0, 4, r0, 0)] }, by first | decide | (unfold Allowed; decide)⟩,
   ⟨[0, 0, 0, 0], { State.reset with vd.link := 2 }, by first | decide | (unfold Allowed; decide)⟩,
   ⟨0xFF, 0xFFFF, { State.reset with vd.link := 2, vd.tx := 0xFF }, { State.reset with vd.link := 2 }, by first | decide | (unfold Allowed; decide)⟩,
   ⟨0, 0, State.reset, by first | decide | (unfold Allowed; decide)⟩,
   ⟨0, 2 ^ 16, { State.reset with vd.link := 2 }, by first | decide | (unfold Allowed; decide)⟩,
   ⟨0, 0, { State.reset with vd.link := 2 }, by first | decide | (unfold Allowed; decide)⟩,
   ⟨none, 0, 0, { State.reset with vd.link := 2 }, by first | decide | (unfold Allowed; decide)⟩,
   ⟨8, { State.reset with vd.link := 2 }, by first | decide | (unfold Allowed; decide)⟩,
   ⟨none, 0, 0, false, State.reset, by first | decide | (unfold Allowed; decide)⟩,
   ⟨{ State.reset with vdRole := 1 }, by first | decide | (unfold Allowed; decide)⟩,
   ⟨State.reset, by first | decide | (unfold Allowed; decide)⟩,
   ⟨0x101, 0x1FF, { State.reset with vdRole := 2, vd.link := 1 }, by first | decide | (unfold Allowed; decide)⟩,
   ⟨0xFF, 0x1FF, { State.reset with vdRole := 2, vd.link := 1 }, by first | decide | (unfold Allowed; decide)⟩,
   ⟨{ State.reset with vd.link := 2 }, by first | decide | (unfold Allowed; decide)⟩,
   ⟨{ State.reset with vd.link := 2, vd.pair := 2 }, by first | decide | (unfold Allowed; decide)⟩,
   ⟨{ State.reset with vd.link := 3 }, by first | decide | (unfold Allowed; decide)⟩,
   ⟨{ State.reset with vdRole := 2, vd.link := 2 }, by first | decide | (unfold Allowed; decide)⟩,
   ⟨State.reset, by first | decide | (unfold Allowed; decide)⟩,
   ⟨0, 0, { State.reset with vd.link := 2, vd.pair := 2, vd.tx := 0 }, { State.reset with vd.link := 2, vd.pair := 2 }, by first | decide | (unfold Allowed; decide)⟩,
   ⟨0xFF, { State.reset with vd.tx := 0xFF, vd.rx := 0xFF, vd.rate := 53125 }, by first | decide | (unfold Allowed; decide)⟩,
   ⟨{ State.reset with vdRole := 1, vd.pair := 2 }, by first | decide | (unfold Allowed; decide)⟩,
   ⟨State.reset, by first | decide | (unfold Allowed; decide)⟩⟩

theorem wit_SecondaryFollowsAndSeamsJoin :
    (∃ (h : Int) (r o f : Bool) (s : State), (s.vdRole = 2) ∧ (s.vd.pair = 2)) ∧
    (∃ (h : Int) (r o f : Bool) (s : State), s.vdRole ≠ 2 ∨ s.vd.pair ≠ 2) ∧
    (∃ (wln : Nat) (wpos : Int) (ep time ridx roff : Nat) (nt : Bool) (s : State), (s.vdRole = 2) ∧ (s.vd.pair = 2) ∧ (s.webRunning = true) ∧ (s.deck.swap = none)) ∧
    (∃ (wln : Nat) (wpos : Int) (ep time ridx roff : Nat) (nt : Bool) (s : State), s.vdRole ≠ 2 ∨ s.vd.pair ≠ 2 ∨ s.webRunning = false) ∧
    (∃ (wln : Nat) (wpos : Int) (ep time ridx roff : Nat) (nt : Bool) (s : State), s.vdRole ≠ 2 ∨ s.vd.pair ≠ 2 ∨ s.webRunning = false) ∧
    (∃ (d : Descriptor) (label : Nat) (s : State), s.vdRole ≠ 1) ∧
    (∃ (d : Descriptor) (label : Nat) (s : State), (s.vdRole = 1) ∧ (d.area ≠ 0) ∧ (s.seg.epoch = some d.epoch) ∧ (s.seg.last.getD 0 ≤ d.y1) ∧ ((∀ u ∈ s.vd.unions, u.peer.contains label = false))) ∧
    (∃ (d : Descriptor) (label : Nat) (u : SeamUnion) (s : State), (s.vdRole = 1) ∧ (d.area ≠ 0) ∧ (bitAt d.flags 2 = false) ∧ (s.vd.unions = [u]) ∧ (u.peer.contains label = true) ∧ (u.own ≠ []) ∧ (u.cutAt = none) ∧ (s.vd.parts = [])) ∧
    (∃ (wln : Nat) (c : CompLine) (r : List CompLine) (s : State), (s.cmp.out = c :: r) ∧ (s.vd.pair = 2) ∧ (s.merging c.slot.epoch = true) ∧ (c.slot.wln = wln) ∧ ((∀ m ∈ s.vd.seamIn, m.epoch ≠ c.slot.epoch ∨ m.wln ≠ wln))) ∧
    (∃ (wln : Nat) (s : State), s.cmp.out = [] ∨ (∃ c r, s.cmp.out = c :: r ∧ (s.merging c.slot.epoch = false ∨ c.slot.wln ≠ wln ∨ ∃ m ∈ s.vd.seamIn, m.epoch = c.slot.epoch ∧ m.wln = wln))) ∧
    (∃ (wln : Nat) (s : State), s.cmp.out = [] ∨ (∃ c r, s.cmp.out = c :: r ∧ (s.merging c.slot.epoch = false ∨ c.slot.wln ≠ wln ∨ ∃ m ∈ s.vd.seamIn, m.epoch = c.slot.epoch ∧ m.wln = wln))) ∧
    (∃ (wln : Nat) (s : State), s.cmp.out = [] ∨ (∃ c r, s.cmp.out = c :: r ∧ (s.merging c.slot.epoch = false ∨ c.slot.wln ≠ wln ∨ ∃ m ∈ s.vd.seamIn, m.epoch = c.slot.epoch ∧ m.wln = wln))) ∧
    (∃ (s : State), s.vdRole = 2 ∧ s.vd.pair = 2) ∧
    (∃ (s : State), s.vdRole ≠ 2 ∨ s.vd.pair ≠ 2) ∧
    (∃ (s : State), s.vd.pair = 2) :=
  ⟨⟨5, false, false, false, { withDeck (inMode .inspect) [] with vdRole := 2, vd.pair := 2 }, by first | decide | (unfold Allowed; decide)⟩,
   ⟨5, false, false, false, State.reset, by first | decide | (unfold Allowed; decide)⟩,
   ⟨5, 1000, 0, 0, 0, 0, false, { withDeck (inMode .inspect) [] with vdRole := 2, vd.pair := 2 }, by first | decide | (unfold Allowed; decide)⟩,
   ⟨0, 0, 0, 0, 0, 0, false, State.reset, by first | decide | (unfold Allowed; decide)⟩,
   ⟨0, 0, 0, 0, 0, 0, false, { State.reset with vdRole := 2, vd.pair := 2 }, by first | decide | (unfold Allowed; decide)⟩,
   ⟨{}, 0, State.reset, by first | decide | (unfold Allowed; decide)⟩,
   ⟨{ area := 1, y1 := 5 }, 9, { State.reset with vdRole := 1, vd.unions := [{ acc := { id := 0 }, own := [1], peer := [2] }], seg.epoch := some 0, seg.last := some 5 }, ⟨by decide, by decide, rfl, by decide, by decide⟩⟩,
   ⟨{ area := 1 }, 2, { acc := { id := 0 }, own := [1], peer := [2] }, { State.reset with vdRole := 1, vd.unions := [{ acc := { id := 0 }, own := [1], peer := [2] }] }, by first | decide | (unfold Allowed; decide)⟩,
   ⟨0, { ser := 0, strip := 0, slot := slot0 }, [], { withDeck (inMode .inspect) [sec 0x0051 0 4 [(0x08, 0x10000)]] with vdRole := 2, vd.pair := 2, cmp.out := [{ ser := 0, strip := 0, slot := slot0 }] }, by first | decide | (unfold Allowed; decide)⟩,
   ⟨0, State.reset, .inl rfl⟩,
   ⟨0, { State.reset with cmp.out := [{ ser := 0, strip := 0, slot := slot0 }] }, .inr ⟨_, _, rfl, .inl (by decide)⟩⟩,
   ⟨1, { withDeck (inMode .inspect) [sec 0x0051 0 4 [(0x08, 0x10000)]] with vdRole := 2, vd.pair := 2, cmp.out := [{ ser := 0, strip := 0, slot := slot0 }] }, .inr ⟨_, _, rfl, .inr (.inl (by decide))⟩⟩,
   ⟨{ withDeck (inMode .inspect) [] with vdRole := 2, vd.pair := 2 }, by first | decide | (unfold Allowed; decide)⟩,
   ⟨State.reset, by first | decide | (unfold Allowed; decide)⟩,
   ⟨{ State.reset with vd.pair := 2 }, by first | decide | (unfold Allowed; decide)⟩⟩

theorem wit_DramControllerWorks :
    (∃ (r n : Nat) (a b : Bool) (s : State), (s.dramRuns = true) ∧ (r < s.dram.owed.length) ∧ (r < s.dram.ahead.length) ∧ (r < 16)) ∧
    (∃ (codes : List Nat) (s : State), s.dramRuns = true) ∧
    (∃ s : State, s.dramRuns = true) ∧
    (∃ (a : Nat) (s : State), (s.dramRuns = true) ∧ (s.profile.current.f 0x8040 0 0x0C 31 16 24 ≠ 0)) ∧
    (∃ (l m : List Nat) (s : State), s.dramRuns = false ∨ s.profile.current.f 0x8040 0 0x0C 31 16 24 = 0) ∧
    (∃ (r n : Nat) (a b : Bool) (codes : List Nat) (s : State), s.dramRuns = false) ∧
    (∃ (a : Nat) (s : State), s.dramRuns = true ∧ s.profile.current.f 0x8040 0 0x0C 31 16 24 ≠ 0 ∧ s.eccChecked a = true) ∧
    (∃ (a : Nat) (s : State), s.dramRuns = true ∧ s.profile.current.f 0x8040 0 0x0C 31 16 24 ≠ 0 ∧ s.eccChecked a = false ∧ s.sys.failed = false) ∧
    (∃ (sp : Nat) (s : State), s.dramRuns = true ∧ sp = s.wantedSetPoint ∧ sp ≠ s.dram.setPoint) ∧
    (∃ (sp : Nat) (s : State), s.dramRuns = false ∨ sp ≠ s.wantedSetPoint ∨ sp = s.dram.setPoint) ∧
    (∃ (s : State), s.sys.mode = .standby ∧ s.dram.awake = true ∧ s.dramRuns = true) ∧
    (∃ (s : State), s.sys.mode ≠ .standby ∨ s.dram.awake = false) :=
  ⟨⟨15, 0, true, false, { State.reset with dram.trained := true }, by first | decide | (unfold Allowed; decide)⟩,
   ⟨List.replicate 8 0, { State.reset with dram.trained := true }, by first | decide | (unfold Allowed; decide)⟩,
   ⟨{ State.reset with dram.trained := true }, by first | decide | (unfold Allowed; decide)⟩,
   ⟨0x1000000000, { withRegions State.reset with dram.trained := true }, by first | decide | (unfold Allowed; decide)⟩,
   ⟨[], [], State.reset, by first | decide | (unfold Allowed; decide)⟩,
   ⟨0, 0, true, false, [], State.reset, by first | decide | (unfold Allowed; decide)⟩,
   ⟨0x1000000000, { withRegions State.reset with dram.trained := true }, by first | decide | (unfold Allowed; decide)⟩,
   ⟨0x1003000000, { withRegions State.reset with dram.trained := true }, by first | decide | (unfold Allowed; decide)⟩,
   ⟨1, { State.reset with dram.trained := true, power.derate := 4 }, by first | decide | (unfold Allowed; decide)⟩,
   ⟨0, { State.reset with dram.trained := true }, by first | decide | (unfold Allowed; decide)⟩,
   ⟨{ inMode .standby with dram.trained := true, dram.awake := true }, by first | decide | (unfold Allowed; decide)⟩,
   ⟨State.reset, by first | decide | (unfold Allowed; decide)⟩⟩

theorem wit_PowerAndBootAct :
    (∃ (mv : Nat) (s : State), (s.sys.inReset = false) ∧ (s.power.brownout = false) ∧ (s.print.head.length = 8)) ∧
    (∃ (mv : Nat) (s : State), (s.sys.inReset = false) ∧ (s.power.brownout = true)) ∧
    (∃ s : State, s.print.head.length = 8) ∧
    (∃ (role : Nat) (full : Bool) (s : State), (s.sys.inReset = true) ∧ (s.sys.heldInReset = false) ∧ (s.power.hot = false)) ∧
    (∃ (role : Nat) (full : Bool) (s : State), s.sys.inReset = false ∨ s.sys.heldInReset = true ∨ s.power.hot = true) ∧
    (∃ (role : Nat) (full : Bool) (s : State), s.sys.inReset = false ∨ s.sys.heldInReset = true ∨ s.power.hot = true) ∧
    (∃ (gib ty : Nat) (s : State), (s.sys.mode = .selftest) ∧ (({} : Container).ratesBad ty = false) ∧ (s.sys.failed = false) ∧ (s.profile.storedValid = false) ∧ (s.fault.channels = [])) ∧
    (∃ (l : List Int) (top : Int) (s : State), (s.sys.inReset = false) ∧ (s.sys.mode ≠ .boot) ∧ (l.length = 8) ∧ (top = maxI (l.headD 0) l)) ∧
    (∃ (l : List Int) (top : Int) (s : State), (s.sys.inReset = false) ∧ (s.sys.mode ≠ .boot) ∧ (l.length = 8) ∧ (top = maxI (l.headD 0) l)) ∧
    (∃ (l : List Int) (top : Int) (s : State), (s.sys.inReset = false) ∧ (s.sys.mode ≠ .boot) ∧ (l.length = 8) ∧ (top = maxI (l.headD 0) l)) ∧
    (∃ s : State, (s.sys.inReset = false) ∧ (s.sys.mode ≠ .safeHold)) ∧
    (∃ s : State, s.sys.inReset = false) ∧
    (∃ (mv : Nat) (l : List Nat) (m : List Int) (s : State), s.sys.inReset = true) ∧
    (∃ (s : State), s.print.head.length = 8 ∧ s.power.brownout = true) ∧
    (∃ (role : Nat) (s : State), s.sys.inReset = true ∧ s.sys.heldInReset = false ∧ s.power.down = true) ∧
    (∃ (role : Nat) (s : State), s.sys.inReset = true ∧ s.sys.heldInReset = false ∧ s.power.down = false ∧ 3 ≤ role) ∧
    (∃ (s : State), s.sys.inReset = false ∧ s.sys.mode = .boot) ∧
    (∃ (s : State), s.sys.inReset = true ∨ s.sys.mode ≠ .boot) ∧
    (∃ (l : List Nat), l.any essentialIsland = true) ∧
    (∃ (u tr : Bool) (ty : Nat) (s : State), s.sys.mode = .selftest ∧ (u = true ∨ (tr = true ∧ s.profile.storedValid = false ∧ ({} : Container).ratesBad ty = true))) ∧
    (∃ (ty : Nat) (s : State), s.sys.mode = .selftest ∧ s.profile.storedValid = false ∧ ({} : Container).ratesBad ty = true) :=
  ⟨⟨4500, State.reset, by first | decide | (unfold Allowed; decide)⟩,
   ⟨4500, { State.reset with power.brownout := true }, by first | decide | (unfold Allowed; decide)⟩,
   ⟨State.reset, by first | decide | (unfold Allowed; decide)⟩,
   ⟨2, true, { State.reset with sys.inReset := true }, by first | decide | (unfold Allowed; decide)⟩,
   ⟨0, false, State.reset, by first | decide | (unfold Allowed; decide)⟩,
   ⟨0, false, { State.reset with sys.inReset := true, sys.heldInReset := true }, by first | decide | (unfold Allowed; decide)⟩,
   ⟨16, 1, inMode .selftest, by first | decide | (unfold Allowed; decide)⟩,
   ⟨List.replicate 8 2016, 2016, inMode .configure, ⟨rfl, by decide, rfl, by decide⟩⟩,
   ⟨List.replicate 8 1920, 1920, inMode .configure, ⟨rfl, by decide, rfl, by decide⟩⟩,
   ⟨List.replicate 8 2015, 2015, inMode .configure, ⟨rfl, by decide, rfl, by decide⟩⟩,
   ⟨inMode .print, by first | decide | (unfold Allowed; decide)⟩,
   ⟨State.reset, by first | decide | (unfold Allowed; decide)⟩,
   ⟨0, [], [], { State.reset with sys.inReset := true }, by first | decide | (unfold Allowed; decide)⟩,
   ⟨{ State.reset with power.brownout := true }, by first | decide | (unfold Allowed; decide)⟩,
   ⟨0, { State.reset with sys.inReset := true, power.down := true }, by first | decide | (unfold Allowed; decide)⟩,
   ⟨3, { State.reset with sys.inReset := true }, by first | decide | (unfold Allowed; decide)⟩,
   ⟨State.reset, by first | decide | (unfold Allowed; decide)⟩,
   ⟨inMode .selftest, by first | decide | (unfold Allowed; decide)⟩,
   ⟨[22], by first | decide | (unfold Allowed; decide)⟩,
   ⟨true, true, 1, inMode .selftest, by first | decide | (unfold Allowed; decide)⟩,
   ⟨0, inMode .selftest, by first | decide | (unfold Allowed; decide)⟩⟩

theorem wit_WebPositionsCompareAcrossWraps :
    (∃ (a b m n : Int), (-(2 ^ 47) ≤ a - b) ∧ (a - b < 2 ^ 47)) ∧
    (∃ (a b m n : Int), (-(2 ^ 47) ≤ a - b) ∧ (a - b < 2 ^ 47)) :=
  ⟨⟨-(2 ^ 47), 0, 1, 0, by first | decide | (unfold Allowed; decide)⟩,
   ⟨2 ^ 47 - 1, 0, 0, 1, by first | decide | (unfold Allowed; decide)⟩⟩

theorem wit_CrossWebPositions :
    (∃ (s : State) (d : Container) (x : Nat), s.vdRole ≠ 2) ∧
    (∃ (s : State) (d : Container) (x : Nat), s.vdRole = 2) ∧
    (∃ (epoch width pitch posPitch : Nat) (s : State), (s.vdRole = 2) ∧ (s.vd.link = 2) ∧ (s.vd.peerRole ≠ 2)) ∧
    (∃ (s : State) (d : Container), (s.vdRole ≠ 2) ∧ (d.pxPitch = 0xA55D5555)) :=
  ⟨⟨State.reset, {}, 0, by first | decide | (unfold Allowed; decide)⟩,
   ⟨{ State.reset with vdRole := 2 }, {}, 0, by first | decide | (unfold Allowed; decide)⟩,
   ⟨0, 0, 0, 0, { State.reset with vdRole := 2, vd.link := 2 }, by first | decide | (unfold Allowed; decide)⟩,
   ⟨State.reset, {}, by first | decide | (unfold Allowed; decide)⟩⟩

theorem wit_DramChannelsInterleave :
    (∃ a : Nat, 0x1000000000 ≤ a) ∧
    (∃ a b : Nat, (0x1000000000 ≤ a) ∧ (a / 256 = b / 256)) ∧
    (∃ base ch : Nat, (0x1000000000 ≤ base) ∧ (base % 2048 = 0) ∧ (ch < 8)) ∧
    (∃ base ch : Nat, (0x1000000000 ≤ base) ∧ (base % 2048 = 0) ∧ (ch < 8)) :=
  ⟨⟨0x1000000000, by first | decide | (unfold Allowed; decide)⟩,
   ⟨0x1000000000, 0x10000000FF, by first | decide | (unfold Allowed; decide)⟩,
   ⟨0x1000000000, 7, by first | decide | (unfold Allowed; decide)⟩,
   ⟨0x1000000800, 0, by first | decide | (unfold Allowed; decide)⟩⟩

theorem wit_CodingStaysWithinNear :
    (∃ (d n a b c s : Nat), (a < 2 ^ d) ∧ (b < 2 ^ d) ∧ (c < 2 ^ d) ∧ (s < 2 ^ d)) ∧
    (∃ (d n a b c s : Nat), (a < 2 ^ d) ∧ (b < 2 ^ d) ∧ (c < 2 ^ d) ∧ (s < 2 ^ d)) :=
  ⟨⟨8, 3, 255, 0, 255, 255, by first | decide | (unfold Allowed; decide)⟩,
   ⟨1, 0, 0, 1, 0, 1, by first | decide | (unfold Allowed; decide)⟩⟩

theorem wit_CodeWordsAreReadBack :
    (∃ (depth k m : Nat) (rest : List Bool), (depth ≤ 12) ∧ (k ≤ depth) ∧ (m < 2 ^ (depth + 1))) ∧
    (∃ (depth k m : Nat) (rest : List Bool), (depth ≤ 12) ∧ (k ≤ depth) ∧ (m < 2 ^ (depth + 1))) :=
  ⟨⟨12, 12, 2 ^ 13 - 1, [], by first | decide | (unfold Allowed; decide)⟩,
   ⟨0, 0, 1, [], by first | decide | (unfold Allowed; decide)⟩⟩

theorem wit_ImageTilesDecodeAlone :
    (∃ (near width : Nat) (table : Option Nat) (ls : List (List (List Nat))) (tail : List Byte), (near < 16) ∧ ((∀ v, table = some v → v < 2 ^ 96)) ∧ ((∀ l ∈ ls, l.length = 3 ∧ ∀ p ∈ l, p.length = width ∧ ∀ x ∈ p, x < 256))) ∧
    (∃ (near width : Nat) (table : Option Nat) (ls : List (List (List Nat))) (tail : List Byte), (near < 16) ∧ ((∀ v, table = some v → v < 2 ^ 96)) ∧ ((∀ l ∈ ls, l.length = 3 ∧ ∀ p ∈ l, p.length = width ∧ ∀ x ∈ p, x < 256))) :=
  ⟨⟨15, 1, none, [[[255], [0], [7]]], [], ⟨by decide, fun _ h => (nomatch h), by decide⟩⟩,
   ⟨0, 0, some (2 ^ 96 - 1), [], [], ⟨by decide, fun _ h => (Option.some.inj h) ▸ (by decide), by decide⟩⟩⟩

theorem wit_ReinstateAndBistComplete :
    (∃ (q : Req) (block inst : Nat) (s : State), (Allowed q s .op false) ∧ (s.isRunning 0x0009 = false)) ∧
    (∃ (q : Req) (block inst : Nat) (s : State), (Allowed q s .op false) ∧ (s.isRunning 0x0009 = false)) ∧
    (∃ (q : Req) (full : Bool) (s : State), (Allowed q s .diag false) ∧ (s.isRunning 0x0804 = false)) ∧
    (∃ (failures : List BistEntry) (us : Nat) (s : State), s.isRunning 0x0804 = true) ∧
    (∃ (failures : List BistEntry) (us : Nat) (s : State), (s.isRunning 0x0804 = false) ∧ (s.isRunning 0x0009 = false)) ∧
    (∃ (failures : List BistEntry) (us block inst : Nat) (r : Running) (s : State), (s.isRunning 0x0804 = false) ∧ (s.runningCmd 0x0009 = some r) ∧ (r.args = [block, inst]) ∧ (block ≠ 1) ∧ (s.needsBist block inst = true)) ∧
    (∃ (q : Req) (s : State), Allowed q s .nb false) ∧
    (∃ (block inst : Nat) (s : State), block ≠ 0 ∧ block ≠ 3 ∧ block < 0x0C ∧ s.isRetired block inst = true ∧ s.needsBist (backBlock block) (s.backInst block inst) = true) ∧
    (∃ (block inst : Nat) (f : List BistEntry), f.any (fun e => backBlock e.block == block && e.inst == inst) = true) :=
  ⟨⟨r0, 6, 5, { inMode .configure with fault.channels := [{ block := 6, inst := 5, retired := true }] }, by first | decide | (unfold Allowed; decide)⟩,
   ⟨r0, 0x0C, 0, inMode .configure, by first | decide | (unfold Allowed; decide)⟩,
   ⟨r0, true, inMode .diagnostic, by first | decide | (unfold Allowed; decide)⟩,
   ⟨[], 0, running (inMode .diagnostic) 0x0804 [1], by first | decide | (unfold Allowed; decide)⟩,
   ⟨[], 0, State.reset, by first | decide | (unfold Allowed; decide)⟩,
   ⟨[], 0, 7, 5, { code := 9, req := r0, args := [7, 5] }, { running (inMode .configure) 9 [7, 5] with fault.channels := [{ block := 7, inst := 5, retired := true }] }, by first | decide | (unfold Allowed; decide)⟩,
   ⟨r0, inMode .standby, by first | decide | (unfold Allowed; decide)⟩,
   ⟨7, 5, { inMode .configure with fault.channels := [{ block := 7, inst := 5, retired := true }] }, by first | decide | (unfold Allowed; decide)⟩,
   ⟨7, 5, [{ block := 7, inst := 5, kind := 0 }], by first | decide | (unfold Allowed; decide)⟩⟩

theorem wit_Bar0ReadsTheValueInForce :
    (∃ (v w : Word) (s : State), (v.toNat % 2 ^ 20 = 0) ∧ (w.toNat < 2 ^ 8)) ∧
    (∃ (o : Nat) (s : State), (0x0048 < o ∧ o < 0x0100) ∨ (0x0104 < o ∧ o < 0x0200) ∨ (0x0500 ≤ o ∧ o < 0x0800) ∨ (0x0880 ≤ o ∧ o < 0x0C00) ∨ (0x0E04 < o ∧ o < 0x1000) ∨ 0x9000 ≤ o) ∧
    (∃ (o : Nat) (s : State), (0x0048 < o ∧ o < 0x0100) ∨ (0x0104 < o ∧ o < 0x0200) ∨ (0x0500 ≤ o ∧ o < 0x0800) ∨ (0x0880 ≤ o ∧ o < 0x0C00) ∨ (0x0E04 < o ∧ o < 0x1000) ∨ 0x9000 ≤ o) ∧
    (∃ (o : Nat) (s : State), (0x0048 < o ∧ o < 0x0100) ∨ (0x0104 < o ∧ o < 0x0200) ∨ (0x0500 ≤ o ∧ o < 0x0800) ∨ (0x0880 ≤ o ∧ o < 0x0C00) ∨ (0x0E04 < o ∧ o < 0x1000) ∨ 0x9000 ≤ o) ∧
    (∃ (k : Nat) (s : State), (k < 8) ∧ (k < s.recs.rings.length)) ∧
    (∃ (o : Nat) (s : State), (∀ k < 8, o ≠ 0x0220 + 0x40 * k)) :=
  ⟨⟨0xFFF00000, 0xFF, State.reset, by first | decide | (unfold Allowed; decide)⟩,
   ⟨0x0C00 - 1, State.reset, by first | decide | (unfold Allowed; decide)⟩,
   ⟨0x9000, State.reset, by first | decide | (unfold Allowed; decide)⟩,
   ⟨0x0049, State.reset, by first | decide | (unfold Allowed; decide)⟩,
   ⟨7, State.reset, by first | decide | (unfold Allowed; decide)⟩,
   ⟨0x0224, State.reset, by first | decide | (unfold Allowed; decide)⟩⟩

end Sys2Proof.Tests
end

section
/-! SUPPORT. Proofs: what reset leaves (R12, R381). -/

namespace Sys2Proof.Machine

/-- Every entry of a list of equal units reads as the unit, and so does what lies beyond the list. -/
@[simp] theorem getN_replicate {α : Type} (n k : Nat) (d : α) : getN (List.replicate n d) k d = d := by
  rw [getN, List.getD_eq_getElem?_getD, List.getElem?_getD_replicate_default_eq]

theorem reset_ring (k : Nat) : State.reset.ring k = {} := getN_replicate 8 k ({} : Ring)

theorem reset_mailbox (n : Nat) : State.reset.mailbox n = {} := getN_replicate 4 n ({} : Mailbox)

theorem reset_dmaChan (c : Nat) : State.reset.dmaChan c = {} := getN_replicate 8 (c - 8) ({} : DmaChan)

theorem reset_head (h : Nat) : State.reset.head h = {} := getN_replicate 8 h ({} : Head)

theorem reset_slotDeck (k : Nat) : State.reset.slotDeck k = none := congrArg DeckSlot.deck (getN_replicate 16 k ({} : DeckSlot))

/-- Without a deck no head needs an authentication, so none is refused and none has passed one. -/
theorem reset_authCode (h : Nat) : State.reset.authCode h = 0 := by
  have hdeck : State.reset.headDeck h = State.reset.camDeck := by simp [State.headDeck, reset_head]
  have hopen : State.reset.camDeck.authBlock = false := by decide
  simp [State.authCode, reset_head, hdeck, hopen]

/-- Settles O12: each unit of the reset state is the unit of its default fields. -/
theorem resetValues : Obligations.ResetValues := by
  refine ⟨rfl, rfl, rfl, rfl, rfl, rfl, rfl, rfl, fun k _ => ?_, fun n _ => ?_, fun c _ => ?_, rfl, rfl, rfl, rfl,
    fun k _ => reset_slotDeck k, rfl, rfl, fun h _ => reset_authCode h⟩
  · rw [reset_ring]
    exact ⟨rfl, rfl, rfl, rfl, rfl, rfl, rfl, rfl, rfl⟩
  · rw [reset_mailbox]
    exact ⟨rfl, rfl, rfl, rfl⟩
  · rw [reset_dmaChan]
    exact ⟨rfl, rfl, rfl, rfl, rfl⟩

end Sys2Proof.Machine
end

section
/-! SUPPORT. Proofs: WPOS modulo 2^48 (R9). -/

namespace Sys2Proof.Machine

/-- The signed field of `n + 1` bits holds the residue that is nearest to zero. -/
theorem sext_truncN (n : Nat) (a : Int) : sext (n + 1) (truncN (n + 1) a) = a.bmod (2 ^ (n + 1)) := by
  have hpos : (0 : Int) < ((2 ^ (n + 1) : Nat) : Int) := by positivity
  have hlt : truncN (n + 1) a < 2 ^ (n + 1) := by
    have := Int.emod_lt_of_pos a hpos
    unfold truncN; omega
  have hval : ((truncN (n + 1) a : Nat) : Int) = a % (2 ^ (n + 1) : Nat) :=
    Int.toNat_of_nonneg (Int.emod_nonneg a hpos.ne')
  have hhalf : (2 : Nat) ^ (n + 1) = 2 * 2 ^ n := pow_succ' 2 n
  unfold sext Int.bmod
  rw [Nat.mod_eq_of_lt hlt, hval, Nat.add_sub_cancel]
  dsimp only
  split <;> split <;> omega

/-- WPOS is the web point wrapped to 48 signed bits (R9). -/
theorem wpos48_eq_bmod (a : Int) : wpos48 a = a.bmod (2 ^ 48) := sext_truncN 47 a

/-- The compared difference is the WPOS of the difference (R9). -/
theorem wposDiff_eq_bmod (a b : Int) : wposDiff a b = (a - b).bmod (2 ^ 48) := sext_truncN 47 (a - b)

/-- Settles O53: whole wraps vanish modulo 2^48, and a difference within half a wrap is its own balanced residue. -/
theorem webPositionsCompareAcrossWraps : Obligations.WebPositionsCompareAcrossWraps := by
  refine ⟨fun a b m n hlo hhi => ?_, fun a => ?_⟩
  · have hwraps : a + m * 2 ^ 48 - (b + n * 2 ^ 48) = a - b + ((2 ^ 48 : Nat) : Int) * (m - n) := by push_cast; ring
    rw [wposDiff_eq_bmod, hwraps, Int.add_mul_bmod_self_left]
    exact Int.bmod_eq_of_le (by omega) (by omega)
  · have hlo := Int.le_bmod (x := a) (m := 2 ^ 48) (by norm_num)
    have hhi := Int.bmod_lt (x := a) (m := 2 ^ 48) (by norm_num)
    have hdiv := Int.dvd_self_sub_bmod (x := a) (m := 2 ^ 48)
    rw [wpos48_eq_bmod]
    refine ⟨by omega, by omega, ?_⟩
    exact Int.emod_eq_zero_of_dvd (by exact_mod_cast hdiv)

end Sys2Proof.Machine
end

section
/-! SUPPORT. Proofs: XNM, the distance from the left datum (R10, R462). -/

namespace Sys2Proof.Machine

/-- The distance of a pixel centre from its datum: the integer quotient of R10 is the floor of the rational product. -/
theorem pixel_centre_floor (n p : Nat) : (((2 * n + 1) * p / 2 ^ 17 : Nat) : Int) = ⌊((n : ℚ) + 1 / 2) * ((p : ℚ) / 2 ^ 16)⌋ := by
  have hfrac : ((n : ℚ) + 1 / 2) * ((p : ℚ) / 2 ^ 16) = (((2 * n + 1) * p : Nat) : ℚ) / ((2 ^ 17 : Nat) : ℚ) := by
    push_cast; ring
  rw [hfrac, Rat.floor_natCast_div_natCast, Int.natCast_div]

/-- A device that is not the right one of a pair counts XPOS from its own left datum (R10). -/
theorem State.xnm_of_not_right {s : State} (h : s.vdRole ≠ 2) (d : Container) (x : Nat) :
    s.xnm d x = (2 * x + 1) * d.pxPitch / 2 ^ 17 := by
  simp [State.xnm, h]

/-- The right device of a pair counts XPOS from WL (R462). -/
theorem State.xnm_of_right {s : State} (h : s.vdRole = 2) (d : Container) (x : Nat) :
    s.xnm d x = (2 * (s.vd.wl + x) + 1) * d.pxPitch / 2 ^ 17 := by
  simp [State.xnm, h, Nat.add_comm x]

/-- Settles O54: both forms of XNM are the floor of `pixel_centre_floor`, at XPOS and at WL + XPOS. -/
theorem crossWebPositions : Obligations.CrossWebPositions := by
  refine ⟨fun s d x h => ?_, fun s d x h => ?_, fun epoch width pitch posPitch s hrole hlink hpeer => ?_, rfl, fun s d h hp => ?_⟩
  · rw [State.xnm_of_not_right h]
    exact ⟨rfl, pixel_centre_floor x d.pxPitch⟩
  · rw [State.xnm_of_right h, ← Nat.cast_add]
    exact ⟨rfl, pixel_centre_floor (s.vd.wl + x) d.pxPitch⟩
  · exact ⟨_, congrArg Host.Outcome.next (if_pos ⟨hrole, hlink, hpeer⟩), rfl⟩
  · norm_num [State.xnm_of_not_right h, hp]

end Sys2Proof.Machine
end

section
/-! SUPPORT. Proofs: which commands can end other than in a next state (R20). -/

namespace Sys2Proof.Machine

/-- An outcome that is not the refusal of a command without a meaning. -/
structure Modelled (o : Outcome) : Prop where
  ne : ∀ m, o ≠ .refused (.notModelled m)

namespace Modelled

theorem next (s : State) : Modelled (.next s) := ⟨fun _ h => nomatch h⟩

theorem fault (f : Fault) : Modelled (.fault f) := ⟨fun _ h => nomatch h⟩

theorem of_next {o : Outcome} (h : ∃ t, o = .next t) : Modelled o := by
  obtain ⟨t, rfl⟩ := h
  exact next t

theorem run (code : Nat) (q : Req) (modes : ModeSet) (urgent : Bool) (refuse : Option Reply) (e : State × Reply) (s : State) :
    Modelled (runCmd code q modes urgent refuse e s) :=
  of_next (runCmd_next ..)

theorem ite {p : Prop} [Decidable p] {a b : Outcome} (ha : Modelled a) (hb : Modelled b) : Modelled (if p then a else b) := by
  split
  · exact ha
  · exact hb

end Modelled

theorem execSysSnapshot_modelled (q : Req) (dest destLen parts timeoutMs : Nat) (s : State) :
    Modelled (execSysSnapshot q dest destLen parts timeoutMs s) :=
  .ite (.fault _) (.ite (.fault _) (.run ..))

theorem execModeTransitDone_modelled (s : State) : Modelled (execModeTransitDone s) :=
  .ite (.next _) (.ite (.fault _) (.ite (.next _) (.next _)))

theorem execCounterClear_modelled (q : Req) (parts : Nat) (s : State) : Modelled (execCounterClear q parts s) :=
  .ite (.fault _) (.run ..)

theorem execDeckLoad_modelled (q : Req) (addr len slot : Nat) (s : State) : Modelled (execDeckLoad q addr len slot s) := by
  unfold execDeckLoad
  split
  · exact .run ..
  · exact .ite (.fault _) (.ite (.fault _) (.run ..))

theorem execDeckStage_modelled (q : Req) (handle : Nat) (s : State) (copies : List (Nat × Bool)) :
    Modelled (execDeckStage q handle s copies) := by
  refine .ite (.run ..) ?_
  split
  · exact .fault _
  · exact .run ..

theorem execProfileLoad_modelled (q : Req) (addr len : Nat) (s : State) : Modelled (execProfileLoad q addr len s) := by
  refine .ite (.run ..) (.ite (.fault _) ?_)
  split
  · exact .fault _
  · exact .run ..

theorem execRefCommitDone_modelled (s : State) : Modelled (execRefCommitDone s) := by
  unfold execRefCommitDone
  split
  · exact .next _
  · dsimp only
    split
    · exact .fault _
    · exact .next _
    · exact .next _

theorem execRefLearn_modelled (q : Req) (refId refRev lines : Nat) (s : State) : Modelled (execRefLearn q refId refRev lines s) :=
  .ite (.fault _) (.run ..)

theorem execCalTableRead_modelled (q : Req) (dest port : Nat) (s : State) : Modelled (execCalTableRead q dest port s) := by
  unfold execCalTableRead
  split
  · exact .fault _
  · exact .run ..

theorem execPrintQueueSet_modelled (q : Req) (lead sizeLog2 base : Nat) (s : State) :
    Modelled (execPrintQueueSet q lead sizeLog2 base s) :=
  .ite (.fault _) (.run ..)

theorem execLookbackFetch_modelled (q : Req) (overview : Bool) (epoch first lines xpos pixels dest : Nat) (s : State) :
    Modelled (execLookbackFetch q overview epoch first lines xpos pixels dest s) := by
  unfold execLookbackFetch
  split
  · exact .fault _
  · exact .run ..

theorem execAxisMove_modelled (q : Req) (axes : Nat) (relative interp : Bool) (profile : Nat) (targets : List Int) (s : State) :
    Modelled (execAxisMove q axes relative interp profile targets s) :=
  .ite (.fault _) (.run ..)

theorem execAxisHome_modelled (q : Req) (axes : Nat) (s : State) : Modelled (execAxisHome q axes s) :=
  .ite (.fault _) (.run ..)

theorem execTimeAdjust_modelled (q : Req) (step : Int) (incr : Nat) (applyStep applyIncr : Bool) (s : State) :
    Modelled (execTimeAdjust q step incr applyStep applyIncr s) :=
  .ite (.fault _) (.run ..)

theorem execPeek_modelled (q : Req) (addr count : Nat) (s : State) : Modelled (execPeek q addr count s) :=
  .ite (.fault _) (.run ..)

/-- A POKE into the internal register window is refused, and for that reason alone (R32). -/
theorem execPoke_modelled (q : Req) (addr : Nat) (words : List Nat) (s : State) : Modelled (execPoke q addr words s) :=
  .ite (.fault _) (.ite ⟨fun _ h => nomatch h⟩ (.ite (.fault _) (.ite (.fault _) (.run ..))))

theorem execLaneSet_modelled (q : Req) (cls lane pattern : Nat) (gen check loopback : Bool) (inject : Nat) (s : State) :
    Modelled (execLaneSet q cls lane pattern gen check loopback inject s) :=
  .ite (.fault _) (.run ..)

theorem execFwWrite_modelled (q : Req) (src offset len : Nat) (first last : Bool) (s : State) :
    Modelled (execFwWrite q src offset len first last s) :=
  .ite (.fault _) (.ite (.fault _) (.run ..))

theorem execEvtInject_modelled (q : Req) (channel : Nat) (tag : Int) (s : State) : Modelled (execEvtInject q channel tag s) :=
  .ite (.fault _) (.run ..)

theorem execMemCopy_modelled (q : Req) (src dst len : Nat) (s : State) : Modelled (execMemCopy q src dst len s) := by
  refine .ite (.fault _) ?_
  split
  · exact .fault _
  · exact .run ..

theorem execMemCrc_modelled (q : Req) (addr len : Nat) (s : State) : Modelled (execMemCrc q addr len s) :=
  .ite (.fault _) (.run ..)

theorem execMailboxGo_modelled (n value : Nat) (s : State) : Modelled (execMailboxGo n value s) :=
  .ite (.fault _) (.ite (.next _) (.ite (.next _) (.next _)))

theorem State.takeRequest_modelled (s : State) (n : Nat) : Modelled (s.takeRequest n) := by
  refine .ite ?_ (.next _)
  split
  · exact .next _
  · dsimp only
    split
    · exact .next _
    · exact .ite (.fault _) (.next _)

theorem execKeeperTakeRequest_modelled (n : Nat) (s : State) (bufferError : Bool) :
    Modelled (execKeeperTakeRequest n s bufferError) :=
  .ite (.next _) (s.takeRequest_modelled n)

theorem execMailboxAck_modelled (n value : Nat) (s : State) : Modelled (execMailboxAck n value s) :=
  .ite (.fault _) (.ite (.next _) (.next _))

theorem execWinBaseLoWrite_modelled (value : Word) (s : State) : Modelled (execWinBaseLoWrite value s) :=
  .ite (.fault _) (.next _)

theorem execWinBaseHiWrite_modelled (value : Word) (s : State) : Modelled (execWinBaseHiWrite value s) :=
  .ite (.fault _) (.next _)

theorem execHostVersionWrite_modelled (value : Word) (s : State) : Modelled (execHostVersionWrite value s) :=
  .ite (.fault _) (.next _)

theorem execRingConfigWrite_modelled (ring offset : Nat) (value : Word) (s : State) :
    Modelled (execRingConfigWrite ring offset value s) :=
  .ite (.next _)
    (.ite (.ite (.fault _) (.ite (.next _) (.next _)))
      (.ite (.ite (.fault _) (.ite (.next _) (.next _)))
        (.ite (.ite (.fault _) (.ite (.next _) (.ite (.next _) (.ite (.fault _) (.next _))))) (.next _))))

theorem State.ringRegWrite_modelled (s : State) (ring offset v : Nat) : Modelled (s.ringRegWrite ring offset v) :=
  .ite (.next _) (.ite (.ite (.fault _) (.next _)) (.ite (.fault _) (.next _)))

theorem State.bufWrite_modelled (s : State) (offset v : Nat) : Modelled (s.bufWrite offset v) :=
  .ite (.fault _) (.ite (.fault _) (.next _))

theorem execRegisterWrite_modelled (offset : Nat) (value : Word) (s : State) : Modelled (execRegisterWrite offset value s) :=
  .ite (.fault _) (.ite (.next _) (.ite (s.ringRegWrite_modelled ..) (.ite (.ite (.fault _) (.next _))
    (.ite (.ite (.fault _) (.next _)) (.ite (.fault _) (.ite (.next _) (.ite (s.bufWrite_modelled ..) (.next _))))))))

theorem State.bar2_modelled (s : State) (write : Bool) (offset len : Nat) (data : List Byte) :
    Modelled (s.bar2 write offset len data) := by
  refine .ite (.next _) (.ite (.fault _) (.ite (.fault _) (.ite ?_ (.next _))))
  split
  · exact .fault _
  · exact .next _

theorem execBar2Access_modelled (write : Bool) (offset len : Nat) (data : List Byte) (s : State) (parity : Bool) :
    Modelled (execBar2Access write offset len data s parity) :=
  .ite (.next _) (s.bar2_modelled ..)

theorem State.dmaFetch_modelled (s : State) (c : Nat) : Modelled (s.dmaFetch c) := by
  refine .ite (.fault _) (.ite (.next _) (.ite (.fault _) ?_))
  split
  · exact .fault _
  · exact .next _

theorem execDmaStart_modelled (ch : Nat) (s : State) : Modelled (execDmaStart ch s) :=
  .ite (.next _) (.ite (s.dmaFetch_modelled ch) (.next _))

theorem execDmaPause_modelled (ch : Nat) (on : Bool) (s : State) : Modelled (execDmaPause ch on s) :=
  .ite (.next _) (.ite (.next _) (.ite (.ite (.next _) (State.dmaFetch_modelled ..))
    (.ite (.next _) (.ite (State.dmaFetch_modelled ..) (.next _)))))

theorem execDmaConfigWrite_modelled (ch offset : Nat) (value : Word) (s : State) :
    Modelled (execDmaConfigWrite ch offset value s) :=
  .ite (.next _) (.ite (.fault _) (.ite (.next _) (.ite (.next _) (.ite (.fault _) (.next _)))))

theorem State.dmaGoesOn_modelled (s : State) (ch : Nat) (k : DmaChan) (held : Bool) : Modelled (s.dmaGoesOn ch k held) :=
  .ite (.next _) (.ite (s.dmaFetch_modelled ch) (.ite (.next _) (.next _)))

theorem execDmaDescriptorDone_modelled (ch : Nat) (eccAt : Option Nat) (s : State) (corrected : List Nat) :
    Modelled (execDmaDescriptorDone ch eccAt s corrected) := by
  unfold execDmaDescriptorDone
  dsimp only
  split
  · exact .ite (s.dmaFetch_modelled ch) (.next _)
  · exact .ite (.next _) (.ite (State.dmaGoesOn_modelled ..) (State.dmaGoesOn_modelled ..))

theorem execItemEntryHandover_modelled (lead index : Nat) (s : State) : Modelled (execItemEntryHandover lead index s) :=
  .ite (.next _) (.ite (.fault _) (.next _))

theorem State.toothReference_modelled (s : State) (k : Nat) : Modelled (s.toothReference k) :=
  .ite (.ite (.fault _) (.next _)) (.next _)

theorem execToothEdge_modelled (k t : Nat) (s : State) (overflow : Bool) : Modelled (execToothEdge k t s overflow) := by
  refine .ite (.next _) (.ite (.next _) (.ite (.next _) ?_))
  dsimp only
  split
  · exact .ite (State.toothReference_modelled ..) (.next _)
  · exact .next _

theorem execBandDecode_modelled (error : Option (Nat × Nat)) (s : State) (codecUnit : Nat) :
    Modelled (execBandDecode error s codecUnit) := by
  unfold execBandDecode
  dsimp only
  split
  · exact .next _
  · split
    · exact .next _
    · exact .ite (.fault _) (.next _)

theorem execHeadLineStart_modelled (h t : Nat) (s : State) (entryError : Bool) : Modelled (execHeadLineStart h t s entryError) := by
  unfold execHeadLineStart
  split
  · exact .fault _
  · exact .next _

theorem execResetRelease_modelled (vdRole : Nat) (bistFull : Bool) (s : State) : Modelled (execResetRelease vdRole bistFull s) :=
  .ite (.next _) (.ite (.fault _) (.ite (.fault _) (.next _)))

theorem execBootDone_modelled (failures : List BistEntry) (dramTrained : Bool) (fittedGib fittedType : Nat) (s : State) (unequal : Bool) :
    Modelled (execBootDone failures dramTrained fittedGib fittedType s unequal) :=
  .ite (.next _) (.ite (.fault _) (.next _))

/-- A protected test instruction that acts is refused for that reason alone (R589). -/
theorem execTestInstruction_modelled (isProtected : Bool) (s : State) : Modelled (execTestInstruction isProtected s) :=
  .ite (.next _) (.ite (.fault _) (.ite (.next _) (.ite (.next _) ⟨fun _ h => nomatch h⟩)))

/-- Every command outside `mayStop` answers a next state (R20): each by the law of its own meaning. -/
theorem exec_next_of_mayStop_false {c : Instr} (h : mayStop c = false) (s : State) : ∃ t, exec c s = .next t := by
  cases c with
  | sysNop => exact execSysNop_next ..
  | sysIdent => exact execSysIdent_next ..
  | sysStatus => exact execSysStatus_next ..
  | snapshotTimeout => exact execSnapshotTimeout_next ..
  | modeSet => exact execModeSet_next ..
  | sysStop => exact execSysStop_next ..
  | sysAbort => exact execSysAbort_next ..
  | sysReset => exact execSysReset_next ..
  | sysResetDelayExpiry => exact execSysResetDelayExpiry_next ..
  | reinstate => exact execReinstate_next ..
  | deckUnstage => exact execDeckUnstage_next ..
  | deckArmSwap => exact execDeckArmSwap_next ..
  | deckCancelSwap => exact execDeckCancelSwap_next ..
  | deckActivate => exact execDeckActivate_next ..
  | deckQuery => exact execDeckQuery_next ..
  | deckDelete => exact execDeckDelete_next ..
  | refAlloc => exact execRefAlloc_next ..
  | refCommit => exact execRefCommit_next ..
  | refDelete => exact execRefDelete_next ..
  | refQuery => exact execRefQuery_next ..
  | refLearnAbort => exact execRefLearnAbort_next ..
  | refLearnDone => exact execRefLearnDone_next ..
  | exposureSet => exact execExposureSet_next ..
  | tdacSet => exact execTdacSet_next ..
  | calFlat => exact execCalFlat_next ..
  | calPhaseDone => exact execCalPhaseDone_next ..
  | calQuery => exact execCalQuery_next ..
  | sensorXfer => exact execSensorXfer_next ..
  | printWithdraw => exact execPrintWithdraw_next ..
  | printRearm => exact execPrintRearm_next ..
  | printShift => exact execPrintShift_next ..
  | printElemQuery => exact execPrintElemQuery_next ..
  | printSubConfirm => exact execPrintSubConfirm_next ..
  | printElemClear => exact execPrintElemClear_next ..
  | printAuth => exact execPrintAuth_next ..
  | printUsageQuery => exact execPrintUsageQuery_next ..
  | printUsageWrite => exact execPrintUsageWrite_next ..
  | ringQuery => exact execRingQuery_next ..
  | cropRelease => exact execCropRelease_next ..
  | lookbackQuery => exact execLookbackQuery_next ..
  | lookbackFetchDone => exact execLookbackFetchDone_next ..
  | lookbackAbort => exact execLookbackAbort_next ..
  | axisStop => exact execAxisStop_next ..
  | axisQuery => exact execAxisQuery_next ..
  | axisEnable => exact execAxisEnable_next ..
  | timeQuery => exact execTimeQuery_next ..
  | timeSet => exact execTimeSet_next ..
  | netQuery => exact execNetQuery_next ..
  | laneQuery => exact execLaneQuery_next ..
  | bistRun => exact execBistRun_next ..
  | bistDone => exact execBistDone_next ..
  | bistResult => exact execBistResult_next ..
  | fwQuery => exact execFwQuery_next ..
  | fwWriteDone => exact execFwWriteDone_next ..
  | fwActivate => exact execFwActivate_next ..
  | keyLoad => exact execKeyLoad_next ..
  | lcQuery => exact execLcQuery_next ..
  | lcAdvance => exact execLcAdvance_next ..
  | evtQuery => exact execEvtQuery_next ..
  | evtClear => exact execEvtClear_next ..
  | evtGroup => exact execEvtGroup_next ..
  | memQuery => exact execMemQuery_next ..
  | memAlloc => exact execMemAlloc_next ..
  | memFree => exact execMemFree_next ..
  | firmwareDmaDone => exact execFirmwareDmaDone_next ..
  | mailboxResponse => exact execMailboxResponse_next ..
  | udpRequest => exact execUdpRequest_next ..
  | fragmentTimeout => exact execFragmentTimeout_next ..
  | hifReset => exact execHifReset_next ..
  | irqStatusClear => exact execIrqStatusClear_next ..
  | irqForce => exact execIrqForce_next ..
  | msixUnmask => exact execMsixUnmask_next ..
  | ringEntryReturn => exact execRingEntryReturn_next ..
  | spillDrain => exact execSpillDrain_next ..
  | recordWrite => exact execRecordWrite_next ..
  | ringTimerExpiry => exact execRingTimerExpiry_next ..
  | dmaAbort => exact execDmaAbort_next ..
  | dmaDrainDone => exact execDmaDrainDone_next ..
  | pcieFlr => exact execPcieFlr_next ..
  | perstAssert => exact execPerstAssert_next ..
  | pcieLinkLoss => exact execPcieLinkLoss_next ..
  | encoderEdge => exact execEncoderEdge_next ..
  | encoderZEdge => exact execEncoderZEdge_next ..
  | stallTimeout => exact execStallTimeout_next ..
  | serialPoll => exact execSerialPoll_next ..
  | serialWord => exact execSerialWord_next ..
  | serialTimeout => exact execSerialTimeout_next ..
  | lineTrigger => exact execLineTrigger_next ..
  | freeRunLine => exact execFreeRunLine_next ..
  | calTimedTrigger => exact execCalTimedTrigger_next ..
  | sensorTransferDone => exact execSensorTransferDone_next ..
  | sensorIbi => exact execSensorIbi_next ..
  | csiFrameStart => exact execCsiFrameStart_next ..
  | csiFrameEnd => exact execCsiFrameEnd_next ..
  | csiLineStart => exact execCsiLineStart_next ..
  | csiLongPacket => exact execCsiLongPacket_next ..
  | csiOtherPacket => exact execCsiOtherPacket_next ..
  | csiSyncError => exact execCsiSyncError_next ..
  | exitDeadline => exact execExitDeadline_next ..
  | stripBreak => exact execStripBreak_next ..
  | geometryLine => exact execGeometryLine_next ..
  | spanEmitLine => exact execSpanEmitLine_next ..
  | compareLine => exact execCompareLine_next ..
  | segmentLine => exact execSegmentLine_next ..
  | qswarmEnqueue => exact execQswarmEnqueue_next ..
  | statsLine => exact execStatsLine_next ..
  | loopResultReady => exact execLoopResultReady_next ..
  | codecGroupClose => exact execCodecGroupClose_next ..
  | codecFlushTimeout => exact execCodecFlushTimeout_next ..
  | ringWriteTimeout => exact execRingWriteTimeout_next ..
  | descriptorAccept => exact execDescriptorAccept_next ..
  | fieldTaskReady => exact execFieldTaskReady_next ..
  | repeatTaskReady => exact execRepeatTaskReady_next ..
  | itemTaskReady => exact execItemTaskReady_next ..
  | windowTaskReady => exact execWindowTaskReady_next ..
  | eventTask => exact execEventTask_next ..
  | taskDispatch => exact execTaskDispatch_next ..
  | taskComplete => exact execTaskComplete_next ..
  | taskWatchdog => exact execTaskWatchdog_next ..
  | cellFault => exact execCellFault_next ..
  | shedEvaluation => exact execShedEvaluation_next ..
  | frameClockChange => exact execFrameClockChange_next ..
  | markerActivate => exact execMarkerActivate_next ..
  | markerDeactivate => exact execMarkerDeactivate_next ..
  | headLineTrigger => exact execHeadLineTrigger_next ..
  | headLineReprepare => exact execHeadLineReprepare_next ..
  | bitmapBurstDone => exact execBitmapBurstDone_next ..
  | headGateAssert => exact execHeadGateAssert_next ..
  | headGateClear => exact execHeadGateClear_next ..
  | gateRearmExpiry => exact execGateRearmExpiry_next ..
  | hsenSettleExpiry => exact execHsenSettleExpiry_next ..
  | speedEvaluation => exact execSpeedEvaluation_next ..
  | spdHoldExpiry => exact execSpdHoldExpiry_next ..
  | authResponse => exact execAuthResponse_next ..
  | authRetryTimeout => exact execAuthRetryTimeout_next ..
  | usageWriteDone => exact execUsageWriteDone_next ..
  | monitorOutput => exact execMonitorOutput_next ..
  | pinInputEdge => exact execPinInputEdge_next ..
  | eventDelivery => exact execEventDelivery_next ..
  | relayFire => exact execRelayFire_next ..
  | pinOutPulseEnd => exact execPinOutPulseEnd_next ..
  | ethFrameRx => exact execEthFrameRx_next ..
  | macAgeing => exact execMacAgeing_next ..
  | ptpSync => exact execPtpSync_next ..
  | ptpAnnounceTimeout => exact execPtpAnnounceTimeout_next ..
  | hello => exact execHello_next ..
  | helloTimer => exact execHelloTimer_next ..
  | bulk => exact execBulk_next ..
  | spdRefreshTimer => exact execSpdRefreshTimer_next ..
  | linkTrainRetry => exact execLinkTrainRetry_next ..
  | train => exact execTrain_next ..
  | linkDown => exact execLinkDown_next ..
  | pairinfo => exact execPairinfo_next ..
  | viaductMbx => exact execViaductMbx_next ..
  | lanes => exact execLanes_next ..
  | posSendTimer => exact execPosSendTimer_next ..
  | pos => exact execPos_next ..
  | line => exact execLine_next ..
  | seam => exact execSeam_next ..
  | part => exact execPart_next ..
  | cut => exact execCut_next ..
  | seamTimeout => exact execSeamTimeout_next ..
  | replayRequest => exact execReplayRequest_next ..
  | dramRefreshDue => exact execDramRefreshDue_next ..
  | mr4Read => exact execMr4Read_next ..
  | dqsTracking => exact execDqsTracking_next ..
  | eccScrub => exact execEccScrub_next ..
  | setPointChange => exact execSetPointChange_next ..
  | standbySelfRefresh => exact execStandbySelfRefresh_next ..
  | axisVelocityUpdate => exact execAxisVelocityUpdate_next ..
  | axisStep => exact execAxisStep_next ..
  | homeInputChange => exact execHomeInputChange_next ..
  | vinUvloRising => exact execVinUvloRising_next ..
  | vinUvloFalling => exact execVinUvloFalling_next ..
  | brownout => exact execBrownout_next ..
  | brownoutRelease => exact execBrownoutRelease_next ..
  | porstN => exact execPorstN_next ..
  | bootLoadDone => exact execBootLoadDone_next ..
  | tempEvaluation => exact execTempEvaluation_next ..
  | thermal => exact execThermal_next ..
  | keeperWatchdogExpiry => exact execKeeperWatchdogExpiry_next ..
  | pllLossOfLock => exact execPllLossOfLock_next ..
  | heartbeat => exact execHeartbeat_next ..
  | perstRelease => exact execPerstRelease_next ..
  | pcieLinkUp => exact execPcieLinkUp_next ..
  | ethLinkChange => exact execEthLinkChange_next ..
  | calTableReadDone => exact execCalTableReadDone_next ..
  | stationSwitch => exact execStationSwitch_next ..
  | ptpSyncSend => exact execPtpSyncSend_next ..
  | ptpDelayReqSend => exact execPtpDelayReqSend_next ..
  | _ => cases h

/-- No command that `mayStop` names is refused as not modelled: each by the law of its own meaning. -/
theorem exec_modelled_of_mayStop {c : Instr} (h : mayStop c = true) (s : State) : Modelled (exec c s) := by
  cases c with
  | sysSnapshot => exact execSysSnapshot_modelled ..
  | modeTransitDone => exact execModeTransitDone_modelled ..
  | counterClear => exact execCounterClear_modelled ..
  | deckLoad => exact execDeckLoad_modelled ..
  | deckStage => exact execDeckStage_modelled ..
  | profileLoad => exact execProfileLoad_modelled ..
  | refCommitDone => exact execRefCommitDone_modelled ..
  | refLearn => exact execRefLearn_modelled ..
  | calTableRead => exact execCalTableRead_modelled ..
  | printQueueSet => exact execPrintQueueSet_modelled ..
  | lookbackFetch => exact execLookbackFetch_modelled ..
  | axisMove => exact execAxisMove_modelled ..
  | axisHome => exact execAxisHome_modelled ..
  | timeAdjust => exact execTimeAdjust_modelled ..
  | peek => exact execPeek_modelled ..
  | poke => exact execPoke_modelled ..
  | laneSet => exact execLaneSet_modelled ..
  | fwWrite => exact execFwWrite_modelled ..
  | evtInject => exact execEvtInject_modelled ..
  | memCopy => exact execMemCopy_modelled ..
  | memCrc => exact execMemCrc_modelled ..
  | mailboxGo => exact execMailboxGo_modelled ..
  | keeperTakeRequest => exact execKeeperTakeRequest_modelled ..
  | mailboxAck => exact execMailboxAck_modelled ..
  | winBaseLoWrite => exact execWinBaseLoWrite_modelled ..
  | winBaseHiWrite => exact execWinBaseHiWrite_modelled ..
  | hostVersionWrite => exact execHostVersionWrite_modelled ..
  | ringConfigWrite => exact execRingConfigWrite_modelled ..
  | registerWrite => exact execRegisterWrite_modelled ..
  | bar2Access => exact execBar2Access_modelled ..
  | dmaStart => exact execDmaStart_modelled ..
  | dmaPause => exact execDmaPause_modelled ..
  | dmaConfigWrite => exact execDmaConfigWrite_modelled ..
  | dmaDescriptorDone => exact execDmaDescriptorDone_modelled ..
  | itemEntryHandover => exact execItemEntryHandover_modelled ..
  | toothEdge => exact execToothEdge_modelled ..
  | bandDecode => exact execBandDecode_modelled ..
  | headLineStart => exact execHeadLineStart_modelled ..
  | resetRelease => exact execResetRelease_modelled ..
  | bootDone => exact execBootDone_modelled ..
  | testInstruction => exact execTestInstruction_modelled ..
  | _ => cases h

/-- No command is refused as not modelled. -/
theorem exec_modelled (c : Instr) (s : State) : Modelled (exec c s) := by
  cases h : mayStop c with
  | false => exact .of_next (exec_next_of_mayStop_false h s)
  | true => exact exec_modelled_of_mayStop h s

/-- Settles O8: outside `mayStop` each command's own law gives the next state, and no arm of a command in it is the refusal of one without a meaning. -/
theorem onlyNamedCommandsStop : Obligations.OnlyNamedCommandsStop :=
  ⟨fun _ s h => exec_next_of_mayStop_false h s, fun c s => (exec_modelled c s).ne⟩

end Sys2Proof.Machine
end

section
/-! SUPPORT. Proofs: what a BAR0 read gives (R381, R384, R385, R389). -/

namespace Sys2Proof.Machine

/-- A mask write changes what is read at HIF_IRQ_MASK and nowhere else (R381). -/
theorem bar0Word_irqMask (s : State) (v o : Nat) :
    ({ s with hif.irqMask := v } : State).bar0Word o = if o = 0x0044 then v else s.bar0Word o := by
  by_cases h : o = 0x0044
  · subst h; rfl
  · unfold State.bar0Word
    simp only [if_neg h]
    rfl

/-- The held half of the window base is read nowhere (R384). -/
theorem bar0Word_winLoHeld (s : State) (v o : Nat) : ({ s with hif.winLoHeld := v } : State).bar0Word o = s.bar0Word o := rfl

/-- The window base in force is read at its two offsets and nowhere else (R384). -/
theorem bar0Word_window (s : State) (hi lo o : Nat) (h0 : o ≠ 0x0100) (h4 : o ≠ 0x0104) :
    ({ s with hif.winHi := hi, hif.winLo := lo } : State).bar0Word o = s.bar0Word o := by
  unfold State.bar0Word
  iterate 11 refine congrArg (ite _ _) ?_
  rw [if_neg h0, if_neg h4, if_neg h0, if_neg h4]
  rfl

/-- The offsets that R381 leaves reserved. -/
def reservedBar0 (o : Nat) : Prop :=
  (0x0048 < o ∧ o < 0x0100) ∨ (0x0104 < o ∧ o < 0x0200) ∨ (0x0500 ≤ o ∧ o < 0x0800) ∨ (0x0880 ≤ o ∧ o < 0x0C00) ∨
    (0x0E04 < o ∧ o < 0x1000) ∨ 0x9000 ≤ o

theorem bar0Word_reserved (s : State) {o : Nat} (h : reservedBar0 o) : s.bar0Word o = 0 := by
  unfold reservedBar0 at h
  unfold State.bar0Word
  by_cases hw : o % 4 ≠ 0
  · exact if_pos hw
  · rw [if_neg hw]
    iterate 19 rw [if_neg (by omega)]

/-- A mailbox register is read at its offset within the mailbox's 32 bytes (R389). -/
theorem bar0Word_mailbox (s : State) {n r : Nat} (hn : n < 4) (hr : r < 0x20) (hw : r % 4 = 0) :
    s.bar0Word (0x0800 + 0x20 * n + r) = (s.mailbox n).reg r := by
  have hmbx : (0x0800 + 0x20 * n + r - 0x800) / 0x20 = n := by omega
  have hoff : (0x0800 + 0x20 * n + r - 0x800) % 0x20 = r := by omega
  unfold State.bar0Word
  iterate 15 rw [if_neg (by omega)]
  rw [if_pos (by omega), hmbx, hoff]

/-- A ring register is read at its offset within the ring's 64 bytes (R385). -/
theorem bar0Word_ring (s : State) {k r : Nat} (hk : k < 8) (hr : r < 0x40) (hw : r % 4 = 0) :
    s.bar0Word (0x0200 + 0x40 * k + r) = (s.ring k).reg r := by
  have hring : (0x0200 + 0x40 * k + r - 0x200) / 0x40 = k := by omega
  have hoff : (0x0200 + 0x40 * k + r - 0x200) % 0x40 = r := by omega
  unfold State.bar0Word
  iterate 13 rw [if_neg (by omega)]
  rw [if_pos (by omega), hring, hoff]

/-- Reading SEQ_LO latches the high word of the sequence number (R385). -/
theorem bar0Read_seqLo (s : State) {k : Nat} (hk : k < 8) :
    s.bar0Read (0x0220 + 0x40 * k) = s.updRing k (fun r => { r with seqHi := r.seq / 2 ^ 32 }) := by
  have hring : (0x0220 + 0x40 * k - 0x200) / 0x40 = k := by omega
  unfold State.bar0Read
  rw [if_pos (by omega), hring]

/-- A read anywhere else has no effect (R16). -/
theorem bar0Read_other (s : State) {o : Nat} (h : ∀ k < 8, o ≠ 0x0220 + 0x40 * k) : s.bar0Read o = s := by
  unfold State.bar0Read
  refine if_neg fun ⟨hlo, hhi, hseq⟩ => h ((o - 0x200) / 0x40) (by omega) (by omega)

theorem ring_updRing (s : State) {k : Nat} (h : k < s.recs.rings.length) (f : Ring → Ring) : (s.updRing k f).ring k = f (s.ring k) :=
  getN_upd _ _ _ _ h

/-- The two halves of the window base, written low then high, are both in force and read back; nothing else moves (R384). -/
theorem window_written (s : State) {v w : Word} (hv : v.toNat % 2 ^ 20 = 0) (hw : w.toNat < 2 ^ 8) :
    ∃ t u : State, exec (.winBaseLoWrite v) s = .next t ∧ (∀ o, t.bar0Word o = s.bar0Word o) ∧
      exec (.winBaseHiWrite w) t = .next u ∧ u.bar0Word 0x0100 = v.toNat ∧ u.bar0Word 0x0104 = w.toNat ∧
      ∀ o, o ≠ 0x0100 → o ≠ 0x0104 → u.bar0Word o = s.bar0Word o :=
  ⟨{ s with hif.winLoHeld := v.toNat / 2 ^ 20 }, { s with hif.winLoHeld := v.toNat / 2 ^ 20, hif.winHi := w.toNat, hif.winLo := v.toNat / 2 ^ 20 },
    if_neg (by omega), bar0Word_winLoHeld s _, if_neg (by omega), Nat.div_mul_cancel (Nat.dvd_of_mod_eq_zero hv), rfl,
    fun o h0 h4 => (bar0Word_window { s with hif.winLoHeld := v.toNat / 2 ^ 20 } _ _ o h0 h4).trans (bar0Word_winLoHeld s _ o)⟩

/-- A read of SEQ_LO gives the low word, and SEQ_HI then reads the high word of the same number (R385). -/
theorem seq_read (s : State) {k : Nat} (hk : k < 8) (hl : k < s.recs.rings.length) :
    s.bar0Word (0x0220 + 0x40 * k) = (s.ring k).seq % 2 ^ 32 ∧
      (s.bar0Read (0x0220 + 0x40 * k)).bar0Word (0x0224 + 0x40 * k) = (s.ring k).seq / 2 ^ 32 ∧
      (s.bar0Read (0x0220 + 0x40 * k)).bar0Word (0x0220 + 0x40 * k) = (s.ring k).seq % 2 ^ 32 := by
  have hlo : ∀ t : State, t.bar0Word (0x0220 + 0x40 * k) = (t.ring k).seq % 2 ^ 32 := fun t => by
    rw [show 0x0220 + 0x40 * k = 0x0200 + 0x40 * k + 0x20 by omega, bar0Word_ring t hk (by decide) rfl]; rfl
  have hhi : ∀ t : State, t.bar0Word (0x0224 + 0x40 * k) = (t.ring k).seqHi := fun t => by
    rw [show 0x0224 + 0x40 * k = 0x0200 + 0x40 * k + 0x24 by omega, bar0Word_ring t hk (by decide) rfl]; rfl
  rw [bar0Read_seqLo s hk, hlo, hlo, hhi, ring_updRing s hl]
  exact ⟨rfl, rfl, rfl⟩

/-- Settles O60: each group of offsets by the lemma that says what is read there. -/
theorem bar0ReadsTheValueInForce : Obligations.Bar0ReadsTheValueInForce := by
  refine ⟨fun v s => ⟨_, rfl, bar0Word_irqMask s _ _, fun o h => (bar0Word_irqMask s _ o).trans (if_neg h)⟩,
    fun v w s hv hw => window_written s hv hw, fun s => ⟨rfl, rfl, fun n hn => ⟨?_, ?_⟩⟩, fun o s h => bar0Word_reserved s h,
    fun k s hk hl => seq_read s hk hl, fun o s h => bar0Read_other s h, rfl, rfl, rfl, rfl, rfl, rfl⟩
  · exact bar0Word_mailbox s hn (r := 0) (by decide) rfl
  · rw [show 0x0808 + 0x20 * n = 0x0800 + 0x20 * n + 8 by omega]
    exact bar0Word_mailbox s hn (by decide) rfl

end Sys2Proof.Machine
end

section
/-! SUPPORT. Proofs: mailboxes (R389-R392). -/

namespace Sys2Proof.Machine

theorem mailboxGo_reserved (n : Nat) {value : Nat} (h : 2 ≤ value) (s : State) : execMailboxGo n value s = .fault (.misuse 15) :=
  if_pos h

theorem mailboxAck_reserved (n : Nat) {value : Nat} (h : 2 ≤ value) (s : State) : execMailboxAck n value s = .fault (.misuse 15) :=
  if_pos h

theorem mailboxGo_ignored {n value : Nat} (hv : value < 2) (h : 2 ≤ n ∨ value = 0) (s : State) : execMailboxGo n value s = .next s :=
  (if_neg (Nat.not_le.mpr hv)).trans (if_pos h)

theorem mailboxAck_ignored {n value : Nat} (hv : value < 2) (h : 2 ≤ n ∨ value = 0) (s : State) : execMailboxAck n value s = .next s :=
  (if_neg (Nat.not_le.mpr hv)).trans (if_pos h)

/-- GO with bit 0 on a mailbox of the host (R390). -/
theorem mailboxGo_one {n : Nat} (hn : n < 2) (s : State) :
    execMailboxGo n 1 s = .next (if (s.mailbox n).reqBusy = true then s.updMbx n (fun m => { m with dberr := true })
      else s.updMbx n (fun m => { m with reqBusy := true, goVersion := s.hif.hostVersion })) := by
  unfold execMailboxGo
  rw [if_neg (by omega), if_neg (by omega)]
  split <;> rfl

/-- ACK with bit 0 on a mailbox of the host (R390). -/
theorem mailboxAck_one {n : Nat} (hn : n < 2) (s : State) :
    execMailboxAck n 1 s = .next (s.updMbx n (fun m => { m with rspValid := false })) := by
  unfold execMailboxAck
  rw [if_neg (by omega), if_neg (by omega)]

theorem takeRequest_not_next {s : State} {n : Nat} (h : s.keeperNext ≠ some n) : s.takeRequest n = .next s := if_neg h

/-- In SAFE_HOLD a failure of the host interface changes nothing (R553). -/
theorem hostIfFailure_safeHold {s : State} (h : s.sys.mode = .safeHold) : s.hostIfFailure = s := if_pos (.inr h)

section
variable {s : State} {n : Nat} {r : Request} (hnext : s.keeperNext = some n) (hoff : s.offered n = some r)
include hnext hoff

/-- A request that fails a check is answered at once (R391). -/
theorem takeRequest_failing {reply : Reply} (hcheck : s.requestCheck n r = some reply) :
    s.takeRequest n = .next ((s.takeFrom n).respond r.cmd { mbx := n, seq := r.seq, srcAddr := r.srcAddr, srcPort := r.srcPort } reply) := by
  unfold State.takeRequest
  rw [if_pos hnext, hoff]
  dsimp only
  rw [hcheck]

/-- A request that passes them joins those taken, unless it sets a reserved flag (R15, R391). -/
theorem takeRequest_passing (hcheck : s.requestCheck n r = none) :
    s.takeRequest n = if r.reservedSet then .fault (.misuse 15)
      else .next ((s.takeFrom n).updMbx n (fun m => { m with taken := m.taken ++ [r] })) := by
  unfold State.takeRequest
  rw [if_pos hnext, hoff]
  dsimp only
  rw [hcheck]

end

/-- The mailbox's buffer is free again, and the FREE cause is set (R382, R390). -/
theorem takeFrom_frees {s : State} {n : Nat} (hn : n < 2) (hl : s.hif.mbx.length = 4) :
    ((s.takeFrom n).mailbox n).reqBusy = false ∧ bitAt (s.takeFrom n).hif.irqStatus (2 + n) = true := by
  unfold State.takeFrom
  dsimp only
  rw [if_pos (by omega), mb_raise]
  refine ⟨?_, raise_bit _ _⟩
  rw [mb_upd]
  split <;> simp only [hl] <;> omega

theorem sendOwn_mailbox (s : State) (o : Out) (n : Nat) : (s.sendOwn o).mailbox n = s.mailbox n := by
  unfold State.sendOwn
  split
  · rfl
  · split <;> rfl

/-- The device sends where the network is in use and a port's link is up (R393, R439). -/
theorem sendOwn_out (s : State) (o : Out) :
    (s.sendOwn o).out = s.out ++ if s.fault.netUnusable = false ∧ s.net.ports.any (·.link) = true then [o] else [] := by
  unfold State.sendOwn
  cases hu : s.fault.netUnusable
  · cases hlink : s.net.ports.any (·.link) <;> simp [State.emit]
  · simp

theorem mailboxResponse_none {s : State} {n : Nat} (h : (s.mailbox n).executed = []) : execMailboxResponse n s = .next s := by
  unfold execMailboxResponse
  rw [h]

/-- While the host has not acknowledged the last response, none is written (R390). -/
theorem mailboxResponse_held {s : State} {n : Nat} (hn : n < 2) (hv : (s.mailbox n).rspValid = true) (hd : (s.mailbox n).discard = 0) :
    execMailboxResponse n s = .next s := by
  unfold execMailboxResponse
  split
  · rfl
  · rw [if_neg (by omega), if_pos (by omega), if_pos hv]

section
variable {s : State} {r : Response} {rest : List Response}

/-- The response goes to the host's buffer (R390). -/
theorem mailboxResponse_buffer {n : Nat} (hn : n < 2) (hx : (s.mailbox n).executed = r :: rest) (hd : (s.mailbox n).discard = 0)
    (hv : (s.mailbox n).rspValid = false) :
    execMailboxResponse n s = .next ((({ s with hif.buf := memWrite s.hif.buf (0x2000 + 0x2000 * n) r.bytes } : State).updMbx n
      (fun m => { m with executed := rest, rspValid := true, done := satInc m.done })).raiseIrq n) := by
  unfold execMailboxResponse
  rw [hx]
  dsimp only
  rw [if_neg (by omega), if_pos (by omega), if_neg (by simp [hv])]

/-- The response goes to the datagram's source, and is kept for a repeat of its SEQ (R393, R394). -/
theorem mailboxResponse_datagram (hx : (s.mailbox 2).executed = r :: rest) (hd : (s.mailbox 2).discard = 0) :
    execMailboxResponse 2 s = .next (({ s.updMbx 2 (fun m => { m with executed := rest, done := satInc m.done }) with
      hif.udpLast := ((r.srcAddr, r.srcPort), r) :: s.hif.udpLast.filter (fun p => p.1 != (r.srcAddr, r.srcPort)) } : State).sendOwn
        (.datagram r.srcAddr r.srcPort r.bytes s.ownTag)) := by
  unfold execMailboxResponse
  rw [hx]
  dsimp only
  rw [if_neg (by omega), if_neg (by omega), if_pos rfl]
  rfl

/-- The response goes to the peer over the pairing link (R389). -/
theorem mailboxResponse_peer (hx : (s.mailbox 3).executed = r :: rest) (hd : (s.mailbox 3).discard = 0) :
    execMailboxResponse 3 s = .next ((s.updMbx 3 (fun m => { m with executed := rest, done := satInc m.done })).sendVd 0x03
      (groupWords 1024 r.bytes)) := by
  unfold execMailboxResponse
  rw [hx]
  dsimp only
  rw [if_neg (by omega), if_neg (by omega), if_neg (by omega)]

end

/-- Settles O24: GO and ACK, the taking of a request, and the response of each kind of mailbox, each by its lemma above. -/
theorem mailboxesTakeServeAndAnswer : Obligations.MailboxesTakeServeAndAnswer := by
  refine ⟨fun n value s h => ⟨mailboxGo_reserved n h s, mailboxAck_reserved n h s⟩,
    fun n value s hv h => ⟨mailboxGo_ignored hv h s, mailboxAck_ignored hv h s⟩,
    fun n s hn => ⟨mailboxGo_one hn s, mailboxAck_one hn s⟩,
    fun n s h => takeRequest_not_next h,
    fun n s => ⟨rfl, fun h => congrArg Host.Outcome.next (hostIfFailure_safeHold h)⟩,
    fun n r s hnext hoff => ⟨fun reply h => takeRequest_failing hnext hoff h,
      fun h hr => (takeRequest_passing hnext hoff h).trans (if_pos hr),
      fun h hr => (takeRequest_passing hnext hoff h).trans (if_neg (by simp [hr])),
      fun hn hl => takeFrom_frees hn hl⟩,
    fun n r rest s hn hx hd hv hl => ⟨_, mailboxResponse_buffer hn hx hd hv, ?_, raise_bit _ _, buf_raise _ _⟩,
    fun n s hn hv hd => mailboxResponse_held hn hv hd,
    fun n s h => mailboxResponse_none h,
    fun r rest s hx hd hl => ⟨_, mailboxResponse_datagram hx hd, ?_, sendOwn_out _ _⟩,
    fun r rest s hx hd hl => ⟨_, mailboxResponse_peer hx hd, ?_, rfl⟩⟩
  · rw [mb_raise, mb_upd _ _ _ (by simp only [hl]; omega)]
    rfl
  · rw [sendOwn_mailbox]
    exact congrArg Mailbox.executed (mb_upd s 2 _ (by omega))
  · exact congrArg Mailbox.executed (mb_upd s 3 _ (by omega))

end Sys2Proof.Machine
end

section
/-! SUPPORT. Proofs: record rings and plain registers (R285-R288, R385-R389). -/

namespace Sys2Proof.Machine

theorem leBytes_length : ∀ n v : Nat, (leBytes n v).length = n
  | 0, _ => rfl
  | n + 1, v => congrArg (· + 1) (leBytes_length n (v / 256))

theorem raiseIrq_recs (s : State) (v : Nat) : (s.raiseIrq v).recs = s.recs :=
  recs_of ((State.raiseIrq_keeps (p := (· ≠ .recs)) (Keeps.refl s) v).same .recs (by simp))

theorem raiseIrq_mem (s : State) (v : Nat) : (s.raiseIrq v).mem = s.mem :=
  mem_of ((State.raiseIrq_keeps (p := (· ≠ .mem)) (Keeps.refl s) v).same .mem (by simp))

theorem wakeDram_recs (s : State) : s.wakeDram.recs = s.recs :=
  recs_of ((State.wakeDram_keeps (p := (· ≠ .recs)) (Keeps.refl s)).same .recs (by simp))

theorem sendVector_irqStatus (s : State) (v : Nat) : (s.sendVector v).hif.irqStatus = s.hif.irqStatus := by
  unfold State.sendVector
  repeat' split
  all_goals rfl

/-- A cause that is set stays set while another is raised (R383). -/
theorem raiseIrq_keeps_bit {s : State} {i : Nat} (h : bitAt s.hif.irqStatus i = true) (v : Nat) :
    bitAt (s.raiseIrq v).hif.irqStatus i = true := by
  by_cases hv : i = v
  · subst hv
    exact raise_bit s i
  · unfold State.raiseIrq
    split
    · exact h
    · rw [sendVector_irqStatus]
      exact (setBit_ne hv).trans h

theorem updRing_rings_length (s : State) (k : Nat) (f : Ring → Ring) : (s.updRing k f).recs.rings.length = s.recs.rings.length :=
  List.length_modify ..

/-- The memory that a record written to an entry leaves: its words 1-15, then word 0 (R285). -/
def entryMem (m : Memory) (a : Nat) (rec : Rec) : Memory := memWrite (memWrite m (a + 4) rec.tailBytes) a (leBytes 4 rec.word0)

section
variable {s : State} {k : Nat} {rec : Rec} {rest : List Rec} (h : (s.ring k).inflight = rec :: rest)
include h

theorem writeRecord_mem : (s.writeRecord k).mem = entryMem s.mem ((s.ring k).entry (s.ring k).prod) rec := by
  unfold State.writeRecord
  dsimp only
  rw [h]
  simp only [apply_ite State.mem, raiseIrq_mem, ite_self, State.updRing_mem, State.write_mem, (wk s).2, entryMem]

/-- Of the records path only the ring changes: the record leaves its writes and PROD advances (R285, R387). -/
theorem writeRecord_recs : ∃ f : Ring → Ring, (s.writeRecord k).recs = (s.updRing k f).recs ∧
    ∀ q, (f q).inflight = rest ∧ (f q).prod = (s.ring k).ahead 1 := by
  refine ⟨?_, ?_, ?_⟩
  rotate_left
  · unfold State.writeRecord
    dsimp only
    rw [h]
    simp only [apply_ite State.recs, raiseIrq_recs, ite_self, State.updRing_recs, State.write_recs, wakeDram_recs]
    rfl
  · exact fun q => ⟨rfl, rfl⟩

theorem writeRecord_ring (hk : k < s.recs.rings.length) :
    ((s.writeRecord k).ring k).inflight = rest ∧ ((s.writeRecord k).ring k).prod = (s.ring k).ahead 1 := by
  obtain ⟨f, hrecs, hf⟩ := writeRecord_recs h
  have hring : (s.writeRecord k).ring k = f (s.ring k) := by
    rw [← ring_updRing s hk f, State.ring, hrecs, State.ring]
  rw [hring]
  exact hf _

/-- With COUNT entries written since the last time, the ring's cause is set (R388). -/
theorem writeRecord_announces (hdue : max 1 (s.ring k).count ≤ (s.ring k).announced + 1) :
    bitAt (s.writeRecord k).hif.irqStatus (4 + k) = true := by
  unfold State.writeRecord
  dsimp only
  rw [h]
  dsimp only
  rw [if_pos hdue]
  split
  · exact raiseIrq_keeps_bit (raise_bit _ _) 20
  · exact raise_bit _ _

end

theorem writeRecord_rings_length (s : State) (k : Nat) : (s.writeRecord k).recs.rings.length = s.recs.rings.length := by
  cases h : (s.ring k).inflight with
  | nil =>
    unfold State.writeRecord
    dsimp only
    rw [h]
  | cons rec rest =>
    obtain ⟨f, hrecs, -⟩ := writeRecord_recs h
    rw [hrecs, updRing_rings_length]

section
variable {m : Memory} (hm : m.wf = true) (a : Nat) (rec : Rec)
include hm

theorem entryMem_word0 {i : Nat} (hi : i < 4) : memByte (entryMem m a rec) (a + i) = (leBytes 4 rec.word0).getD i 0 :=
  memWrite_inside _ (by rw [leBytes_length]; exact hi) (memWrite_wf hm _ _)

theorem entryMem_tail {i : Nat} (hi : i < rec.tailBytes.length) : memByte (entryMem m a rec) (a + 4 + i) = rec.tailBytes.getD i 0 := by
  unfold entryMem
  rw [memWrite_outside (memWrite_wf hm _ _) (by rw [leBytes_length]; omega), memWrite_inside m hi hm]

theorem entryMem_outside {x : Nat} (hx : x < a ∨ a + 4 + rec.tailBytes.length ≤ x) : memByte (entryMem m a rec) x = memByte m x := by
  unfold entryMem
  rw [memWrite_outside (memWrite_wf hm _ _) (by rw [leBytes_length]; omega), memWrite_outside hm (by omega)]

end

section
variable {k : Nat} (hk : k < 8) (v : Word) (s : State)
include hk

theorem ringConfigWrite_baseLo (hv : v.toNat % 64 = 0) : execRingConfigWrite k 0x00 v s =
    .next (s.updRing k (fun r => if (s.ring k).sizeLog2 = 0 then { r with baseLo := v.toNat } else { r with cfgErr := true })) := by
  unfold execRingConfigWrite
  dsimp only
  rw [if_neg (by omega), if_pos rfl, if_neg (by omega)]
  by_cases h : (s.ring k).sizeLog2 = 0 <;> simp [h]

theorem ringConfigWrite_baseHi (hv : v.toNat < 256) : execRingConfigWrite k 0x04 v s =
    .next (s.updRing k (fun r => if (s.ring k).sizeLog2 = 0 then { r with baseHi := v.toNat } else { r with cfgErr := true })) := by
  unfold execRingConfigWrite
  dsimp only
  rw [if_neg (by omega), if_neg (by decide), if_pos rfl, if_neg (by omega)]
  by_cases h : (s.ring k).sizeLog2 = 0 <;> simp [h]

/-- A size from 6 to 20 of a ring in DRAM enables a disabled ring (R385, R397). -/
theorem ringConfigWrite_enables (hz : (s.ring k).sizeLog2 = 0) (hlo : 6 ≤ v.toNat) (hhi : v.toNat ≤ 20)
    (hd : s.ringInDram (s.ring k) v.toNat = true) :
    execRingConfigWrite k 0x08 v s = .next (s.updRing k (fun r => { r with sizeLog2 := v.toNat, prod := 0 })) := by
  unfold execRingConfigWrite
  dsimp only
  rw [if_neg (by omega), if_neg (by decide), if_neg (by decide), if_pos rfl, if_neg (by omega), if_neg (by omega),
    if_neg (by omega), if_neg (by simp [hd]; omega)]

/-- A size other than 0 for an enabled ring is an error of configuration (R386). -/
theorem ringConfigWrite_sizeErr (hz : (s.ring k).sizeLog2 ≠ 0) (h0 : v.toNat ≠ 0) (hv : v.toNat < 32) :
    execRingConfigWrite k 0x08 v s = .next (s.updRing k (fun r => { r with cfgErr := true })) := by
  unfold execRingConfigWrite
  dsimp only
  rw [if_neg (by omega), if_neg (by decide), if_neg (by decide), if_pos rfl, if_neg (by omega), if_neg h0, if_pos hz]

/-- Size 0 disables an enabled ring (R386). -/
theorem ringConfigWrite_disables (hz : (s.ring k).sizeLog2 ≠ 0) : execRingConfigWrite k 0x08 0 s = .next (s.disableRing k) := by
  unfold execRingConfigWrite
  dsimp only
  rw [if_neg (by omega), if_neg (by decide), if_neg (by decide), if_pos rfl, if_neg (by decide), if_pos (by rfl), if_neg hz]

/-- A write to a register of ring k, at its offset within the ring's 64 bytes (R385). -/
theorem registerWrite_ring {o : Nat} (ho : o < 0x40) (hw : o % 4 = 0) :
    execRegisterWrite (0x200 + 0x40 * k + o) v s = s.ringRegWrite k o v.toNat := by
  have hring : (0x200 + 0x40 * k + o - 0x200) / 0x40 = k := by omega
  have hoff : (0x200 + 0x40 * k + o - 0x200) % 0x40 = o := by omega
  unfold execRegisterWrite
  dsimp only
  rw [if_neg (by omega), if_neg (by omega), if_pos (by omega), hring, hoff]

end

theorem disableRing_ring {s : State} {k : Nat} (hk : k < s.recs.rings.length) :
    ((s.disableRing k).ring k).sizeLog2 = 0 ∧ ((s.disableRing k).ring k).inflight = [] := by
  unfold State.disableRing
  rw [ring_updRing _ (by rw [writeRecord_rings_length]; exact hk)]
  exact ⟨rfl, rfl⟩

/-- The blocks of a returned entry are released, and no other entry's (R285). -/
theorem returnEntry_held {s : State} {k : Nat} (hk : k < s.recs.rings.length) (i : Nat) :
    ((s.returnEntry k i).ring k).held = eraseN i (s.ring k).held := by
  unfold State.returnEntry
  dsimp only
  rw [ring_updRing _ (by simpa using hk)]
  simp [State.ring]

theorem returnEntry_mem (s : State) (k i : Nat) :
    (s.returnEntry k i).mem = memWrite s.mem ((s.ring k).entry i) (leBytes 4 0x80000000) := rfl

theorem spillDrain_moves {s : State} {k : Nat} {rec : Rec} {rest : List Rec} (hspill : (s.ring k).spill = rec :: rest)
    (hfree : s.entryFree (s.ring k) (s.ring k).inflight.length = true) :
    execSpillDrain k s = .next (s.updRing k (fun r => { r with spill := rest, inflight := r.inflight ++ [rec] })) := by
  unfold execSpillDrain
  dsimp only
  rw [hspill]
  dsimp only
  rw [if_pos hfree]

theorem ringTimerExpiry_raises {s : State} {k : Nat} (ht : (s.ring k).timerUs ≠ 0) (ha : (s.ring k).announced ≠ 0) :
    execRingTimerExpiry k s = .next ((s.updRing k (fun r => { r with announced := 0, firstAt := none })).raiseIrq (4 + k)) :=
  if_neg (by simp [ht, ha])

/-- A 1 written to DBERR of a mailbox clears it (R389). -/
theorem registerWrite_dberr {n : Nat} (hn : n < 4) (s : State) :
    execRegisterWrite (0x800 + 0x20 * n + 4) 4 s = .next (s.updMbx n (fun m => { m with dberr := false })) := by
  have hmbx : (0x800 + 0x20 * n + 4 - 0x800) / 0x20 = n := by omega
  unfold execRegisterWrite
  dsimp only
  rw [if_neg (by omega), if_neg (by omega), if_neg (by omega), if_neg (by omega), if_pos (by omega), if_neg (by decide),
    if_pos (by decide), hmbx]

/-- A word written to a request buffer that the host owns (R389). -/
theorem registerWrite_buffer {n o : Nat} (v : Word) {s : State} (hn : n < 2) (ho : o < 0x1000) (hw : o % 4 = 0)
    (hb : (s.mailbox n).reqBusy = false) :
    execRegisterWrite (0x1000 + 0x2000 * n + o) v s =
      .next { s with hif.buf := memWrite s.hif.buf (0x1000 + 0x2000 * n + o) (leBytes 4 v.toNat) } := by
  have hmbx : (0x1000 + 0x2000 * n + o - 0x1000) / 0x2000 = n := by omega
  unfold execRegisterWrite State.bufWrite
  dsimp only
  iterate 7 rw [if_neg (by omega)]
  rw [if_pos (by omega), hmbx, if_neg (by omega), if_neg (by simp [hb])]

/-- Settles O27: the configuration of a ring, the life of an entry, and the plain registers, each by its lemma above. -/
theorem recordRingsAndPlainRegisters : Obligations.RecordRingsAndPlainRegisters := by
  refine ⟨fun k v s hk hz => ⟨fun h => ?_, fun h => ?_, fun hlo hhi hd => ringConfigWrite_enables hk v s hz hlo hhi hd⟩,
    fun k v s hk hz => ⟨fun h => ?_, fun h => ?_, fun h0 h => ringConfigWrite_sizeErr hk v s hz h0 h,
      fun hl => ⟨_, ringConfigWrite_disables hk s hz, disableRing_ring (by omega)⟩⟩,
    fun k rec rest s hk hl h hm => ?_, fun k i s hi hm hk => ?_, fun k rec rest s hspill hfree => spillDrain_moves hspill hfree,
    fun k s ht ha => ⟨_, ringTimerExpiry_raises ht ha, raise_bit _ _, raiseIrq_recs _ _⟩, fun v s => rfl,
    fun k v s hk => ⟨registerWrite_ring hk v s (by decide) rfl, registerWrite_ring hk 1 s (by decide) rfl⟩,
    fun n s hn => registerWrite_dberr hn s, fun n o v s hn ho hw hb => registerWrite_buffer v hn ho hw hb⟩
  · exact (ringConfigWrite_baseLo hk v s h).trans (by simp only [if_pos hz])
  · exact (ringConfigWrite_baseHi hk v s h).trans (by simp only [if_pos hz])
  · exact (ringConfigWrite_baseLo hk v s h).trans (by simp only [if_neg hz])
  · exact (ringConfigWrite_baseHi hk v s h).trans (by simp only [if_neg hz])
  · obtain ⟨hinflight, hprod⟩ := writeRecord_ring h (by omega)
    refine ⟨s.writeRecord k, rfl, hinflight, hprod, ?_, ?_, ?_, fun hdue => writeRecord_announces h hdue⟩ <;> rw [writeRecord_mem h]
    · exact fun i hi => entryMem_word0 hm _ rec hi
    · exact fun i hi => entryMem_tail hm _ rec hi
    · exact fun x hx => entryMem_outside hm _ rec hx
  · refine ⟨s.returnEntry k i, if_pos hi, returnEntry_held hk i, ?_, ?_⟩ <;> rw [returnEntry_mem]
    · exact fun j hj => memWrite_inside _ (by rw [leBytes_length]; exact hj) hm
    · exact fun x hx => memWrite_outside hm (by rw [leBytes_length]; exact hx)

end Sys2Proof.Machine
end

section
/-! SUPPORT. Proofs: the invariant of the block and the frame of its commands (R30, R49, R98, R284, R314, R389, R471, R585). -/

namespace Sys2Proof.Machine

/-- Settles O3: every memory is empty and every list of units is the list of its defaults. -/
theorem resetInvariant : Obligations.ResetInvariant :=
  ⟨⟨rfl, rfl, by decide, rfl, rfl, rfl, rfl, rfl, rfl⟩, rfl⟩

/-- What keeps each of the device's forms and numbers keeps them all. -/
theorem Keeps.inv {p : Part → Prop} {z s : State} (h : Keeps p z s) (hz : z.Inv) : s.Inv where
  mem := h.mem hz.mem
  buf := h.buf hz.buf
  life := (h.life hz.life).2
  rings := h.rings hz.rings
  mbx := h.mbx hz.mbx
  slots := h.slots hz.slots
  heads := h.heads hz.heads
  cams := h.cams hz.cams
  chans := h.chans hz.chans

/-- The invariant does not speak of the queue. -/
theorem State.Inv.withPending {s : State} (h : s.Inv) (rest : List Instr) : ({ s with pending := rest } : State).Inv :=
  ⟨h.mem, h.buf, h.life, h.rings, h.mbx, h.slots, h.heads, h.cams, h.chans⟩

/-- Every command keeps the invariant. -/
theorem exec_inv {c : Instr} {s t : State} (hs : s.Inv) (h : exec c s = .next t) : t.Inv := (exec_keeps c s t h).inv hs

/-- Settles O4: an empty queue leaves the state, and the front command of another keeps the invariant whatever it is. -/
theorem stepKeepsInvariant : Obligations.StepKeepsInvariant := by
  intro s t hs h
  unfold step at h
  split at h
  · cases h
    exact hs
  · exact exec_inv (hs.withPending _) h

/-- Settles O7: the frame that `exec_keeps` states of every command, part by part. -/
theorem commandsChangeOnlyTheirParts : Obligations.CommandsChangeOnlyTheirParts :=
  fun c s t x hx h => (exec_keeps c s t h).same x hx

end Sys2Proof.Machine
end

section
/-! SUPPORT. Proofs: markers and the stations of a swap (R57, R304, R305). -/

namespace Sys2Proof.Machine

/-! One marker. -/

theorem updMarker_marker {s : State} {m : Nat} (hm : m < s.mark.marker.length) (f : Marker → Marker) :
    (s.updMarker m f).marker m = f (s.marker m) := getN_upd _ _ _ _ hm

theorem updMarker_marker_ne (s : State) {m k : Nat} (f : Marker → Marker) (h : k ≠ m) :
    (s.updMarker m f).marker k = s.marker k := getN_upd_ne _ _ _ _ _ h

theorem updMarker_markers_length (s : State) (m : Nat) (f : Marker → Marker) :
    (s.updMarker m f).mark.marker.length = s.mark.marker.length := length_updAt ..

/-- Showing a marker's state at its output changes no marker. -/
theorem markShow_mark (s pre : State) (m : Nat) : (s.markShow pre m).mark = s.mark := by
  unfold State.markShow
  split <;> rfl

theorem markShow_marker (s pre : State) (m k : Nat) : (s.markShow pre m).marker k = s.marker k :=
  congrArg (fun x : MarkState => getN x.marker k {}) (markShow_mark s pre m)

/-- What the points of decisions are held against: H, the profile's offsets, the decks, and the tick. -/
structure SameFrame (s t : State) : Prop where
  pos : t.pos = s.pos
  profile : t.profile = s.profile
  deck : t.deck = s.deck
  now : t.now = s.now

namespace SameFrame
variable {s t : State} (h : SameFrame s t)
include h

theorem reached (m : Nat) (p : Int) : t.reached m p = s.reached m p := by
  rw [State.reached, State.highWpos, h.pos, h.profile]
  rfl

theorem deckOf (e : Nat) : t.deckOf e = s.deckOf e := by rw [State.deckOf, h.deck, State.deckOf]

end SameFrame

theorem sameFrame_markStart (s : State) (m : Nat) (d : MarkDecision) : SameFrame s (s.markStart m d) := by
  have h := State.markStart_keeps (p := fun x => x = .mark ∨ x = .out) (Keeps.refl s) m d (.inl rfl) (.inr rfl)
  exact ⟨pos_of (h.same .pos (by simp)), profile_of (h.same .profile (by simp)), deck_of (h.same .deck (by simp)), now_of (h.same .now (by simp))⟩

/-- Only its own marker acts on a decision. -/
theorem markStart_marker_ne (s : State) {m k : Nat} (d : MarkDecision) (h : k ≠ m) : (s.markStart m d).marker k = s.marker k := by
  unfold State.markStart
  dsimp only
  split
  · split
    · rfl
    · rw [markShow_marker, updMarker_marker_ne s _ h]
  · rw [markShow_marker, updMarker_marker_ne s _ h]

theorem markStart_markers_length (s : State) (m : Nat) (d : MarkDecision) :
    (s.markStart m d).mark.marker.length = s.mark.marker.length := by
  unfold State.markStart
  dsimp only
  split
  · split
    · rfl
    · rw [markShow_mark, updMarker_markers_length]
  · rw [markShow_mark, updMarker_markers_length]

theorem markStarts_marker_ne {m k : Nat} (h : k ≠ m) (l : List MarkDecision) (s : State) : (s.markStarts m l).marker k = s.marker k := by
  induction l generalizing s with
  | nil => rfl
  | cons d l ih => exact (ih _).trans (markStart_marker_ne s d h)

/-! Gate mode: a decision opens its gate unless H has passed its end (R304). -/

theorem markStart_gate {s : State} {m : Nat} {d : MarkDecision} (hm : m < s.mark.marker.length) (hd : (s.deckOf d.epoch).markMode m = 1) :
    ((s.markStart m d).marker m).gates = (s.marker m).gates ++ [d].filter (fun q => !s.reached m q.p1) ∧
      ((s.markStart m d).marker m).queue = (s.marker m).queue ∧ ((s.markStart m d).marker m).pulseEnd = (s.marker m).pulseEnd := by
  unfold State.markStart
  dsimp only
  rw [if_pos hd]
  cases hr : s.reached m d.p1 with
  | true => simp [hr]
  | false => simp [hr, markShow_marker, updMarker_marker hm]

theorem markStarts_gates {m : Nat} (l : List MarkDecision) (s : State) (hm : m < s.mark.marker.length)
    (hl : ∀ d ∈ l, (s.deckOf d.epoch).markMode m = 1) :
    ((s.markStarts m l).marker m).gates = (s.marker m).gates ++ l.filter (fun q => !s.reached m q.p1) ∧
      ((s.markStarts m l).marker m).queue = (s.marker m).queue ∧ ((s.markStarts m l).marker m).pulseEnd = (s.marker m).pulseEnd := by
  induction l generalizing s with
  | nil => exact ⟨(List.append_nil _).symm, rfl, rfl⟩
  | cons d l ih =>
    have hf := sameFrame_markStart s m d
    obtain ⟨hg, hq, hp⟩ := markStart_gate hm (hl d List.mem_cons_self)
    obtain ⟨ihg, ihq, ihp⟩ := ih (s.markStart m d) (by rwa [markStart_markers_length])
      fun e he => by rw [hf.deckOf]; exact hl e (List.mem_cons_of_mem d he)
    refine ⟨?_, ihq.trans hq, ihp.trans hp⟩
    simp only [hf.reached] at ihg
    rw [State.markStarts, ihg, hg, List.append_assoc, ← List.filter_append, List.singleton_append]

/-! Pulse mode: a decision starts the pulse or extends it (R304). -/

theorem markStart_pulse {s : State} {m : Nat} {d : MarkDecision} (hm : m < s.mark.marker.length) (hd : (s.deckOf d.epoch).markMode m ≠ 1) :
    (s.markStart m d).marker m = { s.marker m with
      active := true, pulseEnd := some (max ((s.marker m).pulseEnd.getD 0) (s.now + 20 * (s.deckOf d.epoch).markWidth m)) } := by
  unfold State.markStart
  dsimp only
  rw [if_neg hd, markShow_marker, updMarker_marker hm]
  cases (s.marker m).pulseEnd <;> simp

/-- While a pulse runs, further decisions keep the output active and the pulse going for the width of each. -/
theorem markStarts_extend {m e0 : Nat} (l : List MarkDecision) (s : State) (hm : m < s.mark.marker.length)
    (hl : ∀ d ∈ l, (s.deckOf d.epoch).markMode m ≠ 1) (ha : (s.marker m).active = true) (hp : (s.marker m).pulseEnd = some e0) :
    ((s.markStarts m l).marker m).queue = (s.marker m).queue ∧ ((s.markStarts m l).marker m).gates = (s.marker m).gates ∧
      ((s.markStarts m l).marker m).active = true ∧
      ∃ e, ((s.markStarts m l).marker m).pulseEnd = some e ∧ e0 ≤ e ∧ ∀ d ∈ l, s.now + 20 * (s.deckOf d.epoch).markWidth m ≤ e := by
  induction l generalizing s e0 with
  | nil => exact ⟨rfl, rfl, ha, e0, hp, Nat.le_refl e0, fun _ h => nomatch h⟩
  | cons d l ih =>
    have hf := sameFrame_markStart s m d
    have hd := markStart_pulse hm (hl d List.mem_cons_self)
    obtain ⟨hq, hg, hact, e, he, hle, hwidth⟩ := ih (s.markStart m d) (by rwa [markStart_markers_length])
      (fun x hx => by rw [hf.deckOf]; exact hl x (List.mem_cons_of_mem d hx)) (by rw [hd]) (by rw [hd])
    rw [hp, Option.getD_some] at hle
    refine ⟨hq.trans (by rw [hd]), hg.trans (by rw [hd]), hact, e, he, by omega, fun x hx => ?_⟩
    cases hx with
    | head => omega
    | tail _ hx =>
      have := hwidth x hx
      rwa [hf.now, hf.deckOf] at this

theorem markStarts_pulse {m : Nat} {l : List MarkDecision} {s : State} (hm : m < s.mark.marker.length)
    (hl : ∀ d ∈ l, (s.deckOf d.epoch).markMode m ≠ 1) (hne : l ≠ []) :
    ((s.markStarts m l).marker m).queue = (s.marker m).queue ∧ ((s.markStarts m l).marker m).gates = (s.marker m).gates ∧
      ((s.markStarts m l).marker m).active = true ∧
      ∃ e, ((s.markStarts m l).marker m).pulseEnd = some e ∧ (∀ d ∈ l, s.now + 20 * (s.deckOf d.epoch).markWidth m ≤ e) ∧
        ∀ x, (s.marker m).pulseEnd = some x → x ≤ e := by
  cases l with
  | nil => exact absurd rfl hne
  | cons d l =>
    have hf := sameFrame_markStart s m d
    have hd := markStart_pulse hm (hl d List.mem_cons_self)
    obtain ⟨hq, hg, hact, e, he, hle, hwidth⟩ := markStarts_extend l (s.markStart m d) (by rwa [markStart_markers_length])
      (fun x hx => by rw [hf.deckOf]; exact hl x (List.mem_cons_of_mem d hx)) (by rw [hd]) (congrArg Marker.pulseEnd hd)
    refine ⟨hq.trans (by rw [hd]), hg.trans (by rw [hd]), hact, e, he, fun x hx => ?_, fun x hx => ?_⟩
    · cases hx with
      | head => omega
      | tail _ hx =>
        have := hwidth x hx
        rwa [hf.now, hf.deckOf] at this
    · rw [hx, Option.getD_some] at hle
      omega

/-! MARKER_ACTIVATE and MARKER_DEACTIVATE (R304). -/

/-- Marker m without the decisions that are due. -/
def State.dueTaken (s : State) (m : Nat) : State := s.updMarker m (fun k => { k with queue := k.queue.filter (fun q => !s.reached m q.p0) })

theorem markerActivate_eq (m : Nat) (s : State) : exec (.markerActivate m) s =
    .next ((s.dueTaken m).markStarts m ((s.marker m).queue.filter (fun q => s.reached m q.p0))) := rfl

theorem markerActivate_marker_ne {s t : State} {m k : Nat} (ht : exec (.markerActivate m) s = .next t) (h : k ≠ m) : t.marker k = s.marker k := by
  rw [markerActivate_eq] at ht
  cases ht
  exact (markStarts_marker_ne h _ _).trans (updMarker_marker_ne s _ h)

theorem markerActivate_gates {m : Nat} {s : State} (hm : m < s.mark.marker.length)
    (hmode : ∀ q ∈ (s.marker m).queue, s.reached m q.p0 = true → (s.deckOf q.epoch).markMode m = 1) :
    ∃ t : State, exec (.markerActivate m) s = .next t ∧ (t.marker m).queue = (s.marker m).queue.filter (fun q => !s.reached m q.p0) ∧
      (t.marker m).gates = (s.marker m).gates ++ ((s.marker m).queue.filter (fun q => s.reached m q.p0)).filter (fun q => !s.reached m q.p1) ∧
      (t.marker m).pulseEnd = (s.marker m).pulseEnd ∧ (∀ k, k ≠ m → t.marker k = s.marker k) ∧ t.pos = s.pos ∧ t.recs = s.recs := by
  have hme : (s.dueTaken m).marker m = { s.marker m with queue := (s.marker m).queue.filter (fun q => !s.reached m q.p0) } :=
    updMarker_marker hm _
  obtain ⟨hg, hq, hp⟩ := markStarts_gates ((s.marker m).queue.filter (fun q => s.reached m q.p0)) (s.dueTaken m)
    (by rwa [State.dueTaken, updMarker_markers_length]) fun d hd => hmode d (List.mem_of_mem_filter hd) (List.mem_filter.mp hd).2
  rw [hme] at hg hq hp
  have hk := exec_keeps _ s _ (markerActivate_eq m s)
  exact ⟨_, markerActivate_eq m s, hq, hg, hp, fun k h => markerActivate_marker_ne (markerActivate_eq m s) h,
    pos_of (hk.same .pos (by simp [mayChange])), recs_of (hk.same .recs (by simp [mayChange]))⟩

theorem markerActivate_pulse {m : Nat} {s : State} (hm : m < s.mark.marker.length)
    (hmode : ∀ q ∈ (s.marker m).queue, s.reached m q.p0 = true → (s.deckOf q.epoch).markMode m ≠ 1)
    (hdue : ∃ q ∈ (s.marker m).queue, s.reached m q.p0 = true) :
    ∃ (t : State) (e : Nat), exec (.markerActivate m) s = .next t ∧ (t.marker m).queue = (s.marker m).queue.filter (fun q => !s.reached m q.p0) ∧
      (t.marker m).gates = (s.marker m).gates ∧ (t.marker m).active = true ∧ (t.marker m).pulseEnd = some e ∧
      (∀ q ∈ (s.marker m).queue, s.reached m q.p0 = true → s.now + 20 * (s.deckOf q.epoch).markWidth m ≤ e) ∧
      (∀ x, (s.marker m).pulseEnd = some x → x ≤ e) ∧ ∀ k, k ≠ m → t.marker k = s.marker k := by
  have hme : (s.dueTaken m).marker m = { s.marker m with queue := (s.marker m).queue.filter (fun q => !s.reached m q.p0) } :=
    updMarker_marker hm _
  obtain ⟨q, hqm, hqr⟩ := hdue
  obtain ⟨hq, hg, hact, e, he, hwidth, hold⟩ := markStarts_pulse (s := s.dueTaken m) (l := (s.marker m).queue.filter (fun q => s.reached m q.p0))
    (by rwa [State.dueTaken, updMarker_markers_length]) (fun d hd => hmode d (List.mem_of_mem_filter hd) (List.mem_filter.mp hd).2)
    (List.ne_nil_of_mem (List.mem_filter.mpr ⟨hqm, hqr⟩))
  rw [hme] at hq hg hold
  exact ⟨_, e, markerActivate_eq m s, hq, hg, hact, he, fun d hd hr => hwidth d (List.mem_filter.mpr ⟨hd, hr⟩), hold,
    fun k h => markerActivate_marker_ne (markerActivate_eq m s) h⟩

/-- The gates whose end H has not reached. -/
def State.gatesLeft (s : State) (m : Nat) : List MarkDecision := (s.marker m).gates.filter (fun q => !s.reached m q.p1)

/-- Marker m with the gates that are over closed or, with none over, its pulse ended. -/
def State.gatesClosed (s : State) (m : Nat) : State :=
  if (s.gatesLeft m).length = (s.marker m).gates.length then
    (match (s.marker m).pulseEnd with
     | some e => (s.advance e).updMarker m (fun k => { k with pulseEnd := none })
     | none => s)
  else s.updMarker m (fun k => { k with gates := s.gatesLeft m })

theorem markerDeactivate_eq (m : Nat) (s : State) : exec (.markerDeactivate m) s =
    .next (((s.gatesClosed m).updMarker m (fun k => { k with active := !k.gates.isEmpty || k.pulseEnd.isSome })).markShow (s.gatesClosed m) m) := rfl

theorem gatesLeft_eq_of_none_over {s : State} {m : Nat} (h : ∀ q ∈ (s.marker m).gates, s.reached m q.p1 = false) : s.gatesLeft m = (s.marker m).gates :=
  List.filter_eq_self.mpr fun q hq => by simp [h q hq]

theorem gatesLeft_length_iff {s : State} {m : Nat} :
    (s.gatesLeft m).length = (s.marker m).gates.length ↔ ∀ q ∈ (s.marker m).gates, s.reached m q.p1 = false := by
  simp [State.gatesLeft, List.length_filter_eq_length_iff]

theorem gatesClosed_pulse {s : State} {m : Nat} (hm : m < s.mark.marker.length) (h : ∀ q ∈ (s.marker m).gates, s.reached m q.p1 = false) :
    (s.gatesClosed m).marker m = { s.marker m with pulseEnd := none } := by
  unfold State.gatesClosed
  rw [if_pos (gatesLeft_length_iff.mpr h)]
  cases hp : (s.marker m).pulseEnd with
  | some e => exact updMarker_marker (s := s.advance e) hm _
  | none => simp [← hp]

theorem gatesClosed_gates {s : State} {m : Nat} (hm : m < s.mark.marker.length) (h : ∃ q ∈ (s.marker m).gates, s.reached m q.p1 = true) :
    (s.gatesClosed m).marker m = { s.marker m with gates := s.gatesLeft m } := by
  obtain ⟨q, hq, hr⟩ := h
  have hover : ¬ (s.gatesLeft m).length = (s.marker m).gates.length := fun he => by simp [gatesLeft_length_iff.mp he q hq] at hr
  unfold State.gatesClosed
  rw [if_neg hover, updMarker_marker hm]

theorem gatesClosed_markers_length (s : State) (m : Nat) : (s.gatesClosed m).mark.marker.length = s.mark.marker.length := by
  unfold State.gatesClosed
  split
  · split
    · exact updMarker_markers_length (s.advance _) m _
    · rfl
  · rw [updMarker_markers_length]

theorem gatesClosed_marker_ne (s : State) {m k : Nat} (h : k ≠ m) : (s.gatesClosed m).marker k = s.marker k := by
  unfold State.gatesClosed
  split
  · split
    · exact updMarker_marker_ne (s.advance _) _ h
    · rfl
  · rw [updMarker_marker_ne s _ h]

theorem markerDeactivate_closes {m : Nat} {s : State} (hm : m < s.mark.marker.length) :
    ∃ t : State, exec (.markerDeactivate m) s = .next t ∧ (t.marker m).gates = (s.marker m).gates.filter (fun q => !s.reached m q.p1) ∧
      (t.marker m).active = (!(t.marker m).gates.isEmpty || (t.marker m).pulseEnd.isSome) ∧ (t.marker m).queue = (s.marker m).queue ∧
      ((∀ q ∈ (s.marker m).gates, s.reached m q.p1 = false) → (t.marker m).pulseEnd = none) ∧
      ((∃ q ∈ (s.marker m).gates, s.reached m q.p1 = true) → (t.marker m).pulseEnd = (s.marker m).pulseEnd) ∧
      (∀ k, k ≠ m → t.marker k = s.marker k) ∧ t.pos = s.pos := by
  have hpos := pos_of ((exec_keeps _ s _ (markerDeactivate_eq m s)).same .pos (by simp [mayChange]))
  refine ⟨_, markerDeactivate_eq m s, ?_, ?_, ?_, ?_, ?_, fun k h => ?_, hpos⟩ <;> rw [markShow_marker]
  case refine_6 => rw [updMarker_marker_ne _ _ h, gatesClosed_marker_ne s h]
  all_goals rw [updMarker_marker (by rwa [gatesClosed_markers_length])]
  case refine_1 =>
    by_cases h : ∀ q ∈ (s.marker m).gates, s.reached m q.p1 = false
    · rw [gatesClosed_pulse hm h]
      exact (gatesLeft_eq_of_none_over h).symm
    · rw [gatesClosed_gates hm (by simpa using h)]
      rfl
  case refine_3 =>
    by_cases h : ∀ q ∈ (s.marker m).gates, s.reached m q.p1 = false
    · rw [gatesClosed_pulse hm h]
    · rw [gatesClosed_gates hm (by simpa using h)]
  case refine_4 =>
    intro h
    rw [gatesClosed_pulse hm h]
  case refine_5 =>
    intro h
    rw [gatesClosed_gates hm h]

/-! STATION_SWITCH (R57, R64). -/

theorem stationSwitch_no_swap {s : State} (m : Nat) (h : s.deck.swap = none) : exec (.stationSwitch m) s = .next s := by
  show execStationSwitch m s = _
  rw [execStationSwitch, h]

theorem stationSwitch_waits {s : State} {m : Nat} {w : Swap} (h : s.deck.swap = some w)
    (hw : ¬ Station.marker m ∈ w.waiting ∨ s.highWpos < w.here + s.profile.current.markOff m) : exec (.stationSwitch m) s = .next s := by
  show execStationSwitch m s = _
  rw [execStationSwitch, h]
  refine if_neg fun ⟨hin, hreach⟩ => ?_
  rw [List.contains_iff_mem] at hin
  rcases hw with hw | hw
  · exact hw hin
  · omega

theorem stationSwitch_done {s : State} {m : Nat} {w : Swap} (h : s.deck.swap = some w) (hw : Station.marker m ∈ w.waiting)
    (hreach : w.here + s.profile.current.markOff m ≤ s.highWpos) : exec (.stationSwitch m) s = .next (s.stationDone (.marker m)) := by
  show execStationSwitch m s = _
  rw [execStationSwitch, h]
  exact if_pos ⟨by rwa [List.contains_iff_mem], hreach⟩

theorem notify_deck (s : State) (code a b c : Nat) : (s.notify code a b c).deck = s.deck :=
  deck_of ((State.notify_keeps (p := (· ≠ .deck)) (Keeps.refl s) code a b c).same .deck (by simp))

/-- The first station of a swap gives the staged deck its epoch; the camera bar's epoch and the stations' stay. -/
theorem swapBegins_deck (s : State) (w : Swap) :
    (s.swapBegins w).deck.epoch = s.deck.epoch ∧ (s.swapBegins w).deck.stationEpoch = s.deck.stationEpoch := by
  unfold State.swapBegins
  split
  · exact ⟨rfl, rfl⟩
  · rw [notify_deck]
    exact ⟨rfl, rfl⟩

section
variable {s : State} {w : Swap} (h : s.deck.swap = some w) (st : Station)
include h

/-- The last station to switch ends the swap (R64). -/
theorem stationDone_last (hw : ∀ x ∈ w.waiting, x = st) : (s.stationDone st).deck.swap = none ∧ (s.stationDone st).deck.stationEpoch = [] := by
  have hnone : (w.waiting.filter (fun x => x != st)).isEmpty = true := by simpa [List.isEmpty_iff] using hw
  unfold State.stationDone
  rw [h]
  dsimp only
  rw [if_pos hnone, notify_deck]
  exact ⟨rfl, rfl⟩

/-- While others wait, a marker leaves those that wait and acts under the swap's epoch (R34, R57). -/
theorem stationDone_marker {m : Nat} (hw : ∃ x ∈ w.waiting, x ≠ .marker m) :
    (s.stationDone (.marker m)).deck.swap = some { w with begun := true, waiting := w.waiting.filter (fun x => x != .marker m) } ∧
      (s.stationDone (.marker m)).epochAt (.marker m) = s.swapEpoch w := by
  have hsome : ¬ (w.waiting.filter (fun x => x != .marker m)).isEmpty = true := by simpa [List.isEmpty_iff] using hw
  obtain ⟨hepoch, hstation⟩ := swapBegins_deck s w
  have hcam : (Station.marker m == Station.camera) = false := rfl
  have hown : (s.deck.stationEpoch.filter (fun p => p.1 != .marker m)).find? (fun p => p.1 == .marker m) = none := by
    simp [List.find?_eq_none]
  unfold State.stationDone State.swapEpoch
  rw [h]
  dsimp only
  rw [if_neg hsome, hcam]
  unfold State.epochAt
  cases hc : w.cameraDone <;> simp [hepoch, hstation, hown, List.find?_append]

end

/-- Settles O45: the activation of gates and of pulses, the deactivation, and the switch of a marker, each by its lemma above. -/
theorem markersActAndStationsSwitch : Obligations.MarkersActAndStationsSwitch := by
  refine ⟨fun m s hm hmode => markerActivate_gates hm hmode, fun m s hm hmode hdue => markerActivate_pulse hm hmode hdue,
    fun m s hm => markerDeactivate_closes hm, fun m s h => stationSwitch_no_swap m h, fun m w s h hw => stationSwitch_waits h hw,
    fun m w s h hw hreach => ?_⟩
  have hk := exec_keeps _ s _ (stationSwitch_done h hw hreach)
  exact ⟨_, stationSwitch_done h hw hreach, pos_of (hk.same .pos (by simp [mayChange])), mark_of (hk.same .mark (by simp [mayChange])),
    fun hlast => stationDone_last h _ hlast, fun hmore => stationDone_marker h hmore⟩

end Sys2Proof.Machine
end

section
/-! SUPPORT. Proofs: PEEK, POKE and the lane tests of DIAGNOSTIC (R422, R464-R470, R585, R592). -/

namespace Sys2Proof.Machine

/-- DRAM outside the line intake's region reads as memory holds it (R422). -/
theorem seen_dram {s : State} {a n : Nat} (hr : s.rangeOf a n = some 6) (hout : a + n ≤ s.regionBase 10 ∨ s.regionBase 10 + s.regionSize 10 ≤ a) :
    s.seen a n = memRead s.mem a n := by
  unfold State.seen
  rw [hr]
  exact if_pos hout

/-- PEEK and POKE are locked in FIELD, and in PROVISIONED with DIAG_LOCK (R585, R592). -/
theorem diagLocked_of {s : State} (h : s.fuse.lifeCycle = 3 ∨ (s.fuse.lifeCycle = 2 ∧ s.profile.current.b 0x8070 0 0x00 0 false = true)) :
    s.diagLocked = some (.fail .denied 3) := if_pos h

section
variable {q : Req} {s : State} (h : Allowed q s .diag false)
include h

theorem peek_answers {addr count : Nat} (hl : s.diagLocked = none) (hc : count ≤ 1016)
    (hr : (s.rangeOf (addr / 4 * 4) (4 * count)).isSome = true) :
    exec (.peek q addr count) s = .next (s.drawn.respond 0x0800 q (.ok (leBytes 8 (addr / 4 * 4) ++ s.seen (addr / 4 * 4) (4 * count)))) := by
  have hmapped : ¬ ((admission s q .diag false).isNone && s.diagLocked.isNone && (s.rangeOf (addr / 4 * 4) (4 * count)).isNone) = true := by
    simp [Option.isNone_eq_false_iff.mpr hr]
  refine (if_neg hmapped).trans ?_
  rw [Nat.min_eq_left hc]
  exact run_plain h hl

theorem peek_locked (addr count : Nat) {r : Reply} (hl : s.diagLocked = some r) : exec (.peek q addr count) s = .next (s.respond 0x0800 q r) :=
  (if_neg (by simp [hl])).trans (run_no h hl)

/-- POKE of ROM leaves its contents (R32, R422). -/
theorem poke_answers {addr r : Nat} {words : List Nat} (hl : s.diagLocked = none) (hr : s.rangeOf (addr / 4 * 4) (4 * words.length) = some r)
    (hreg : r ≠ 2) (hdma : s.dmaHeld (addr / 4 * 4) (4 * words.length) = false) (hown : s.ownedMisuse (addr / 4 * 4) (4 * words.length) = none) :
    exec (.poke q addr words) s = .next ((if r = 0 then s else s.hostWrite (addr / 4 * 4) (wordsBytes words)).respond 0x0801 q {}) := by
  show execPoke q addr words s = _
  unfold execPoke
  dsimp only
  rw [hr, hdma, hown, if_neg (by simp), if_neg (by simp [hreg]), if_neg (by simp), if_neg (by simp), run_plain h hl]
  simp

theorem poke_locked (addr : Nat) (words : List Nat) {r : Reply} (hl : s.diagLocked = some r) :
    exec (.poke q addr words) s = .next (s.respond 0x0801 q r) := by
  have hlive (b : Bool) : ¬ ((admission s q .diag false).isNone && s.diagLocked.isNone && b) = true := by simp [hl]
  exact (if_neg (hlive _)).trans ((if_neg (hlive _)).trans ((if_neg (hlive _)).trans ((if_neg (hlive _)).trans (run_no h hl))))

/-- The manual gives the internal register window no layout (R32). -/
theorem poke_internalRegister {addr : Nat} {words : List Nat} (hl : s.diagLocked = none)
    (hr : s.rangeOf (addr / 4 * 4) (4 * words.length) = some 2) : exec (.poke q addr words) s = .refused .internalRegister := by
  show execPoke q addr words s = _
  unfold execPoke
  dsimp only
  rw [hr, adm_none h, hl]
  rfl

end

/-- A host write puts its bytes at their addresses and leaves every other byte. -/
theorem hostWrite_mem (s : State) (a : Nat) (bs : List Byte) : (s.hostWrite a bs).mem = memWrite s.mem a bs := rfl

/-! The lane tests. -/

/-- The lane that a LANE_SET names exists: the camera lanes are 0-95, a Viaduct lane is 0-8 (R470). -/
def laneExists (cls lane : Nat) : Prop := cls = 0 ∧ lane ≤ 95 ∨ (cls = 1 ∨ cls = 2) ∧ lane ≤ 8

/-- Why LANE_SET refuses: a function that the lane lacks, or a camera lane that the profile does not provide (R422). -/
def State.laneRefuse (s : State) (cls lane : Nat) (gen check loopback : Bool) (inject : Nat) : Option Reply :=
  if laneLacks cls gen check loopback inject = true then some (resource 0x0C lane)
  else if cls = 0 ∧ s.camLaneProvided lane = false then some (.fail .notFound 3) else none

section
variable {q : Req} {s : State} (h : Allowed q s .diag false) {cls lane : Nat}
include h

theorem laneSet_missing (pattern inject : Nat) (gen check loopback : Bool) (hmiss : cls = 0 ∧ 95 < lane ∨ (cls = 1 ∨ cls = 2) ∧ 8 < lane) :
    exec (.laneSet q cls lane pattern gen check loopback inject) s = .fault (.misuse 470) :=
  if_pos (by simpa [adm_none h] using hmiss)

/-- LANE_SET of a lane that exists is a command of its own refusals and effect (R422). -/
theorem laneSet_run (pattern inject : Nat) (gen check loopback : Bool) (hlane : laneExists cls lane) :
    exec (.laneSet q cls lane pattern gen check loopback inject) s = runCmd 0x0802 q .diag false (s.laneRefuse cls lane gen check loopback inject)
      (s.setLane { cls := cls, lane := lane, pattern := pattern, gen := gen, check := check, loopback := loopback, inject := inject }, {}) s := by
  have hexists : ¬ ((admission s q .diag false).isNone && ((cls == 0 && decide (lane > 95)) || ((cls == 1 || cls == 2) && decide (lane > 8)))) = true := by
    simp only [adm_none h, Option.isNone_none, Bool.true_and, Bool.or_eq_true, Bool.and_eq_true, beq_iff_eq, decide_eq_true_eq]
    unfold laneExists at hlane
    omega
  refine (if_neg hexists).trans ?_
  simp only [State.laneRefuse, Bool.not_eq_true']

theorem laneSet_refused (pattern inject : Nat) (gen check loopback : Bool) (hlane : laneExists cls lane) {r : Reply}
    (hr : s.laneRefuse cls lane gen check loopback inject = some r) :
    exec (.laneSet q cls lane pattern gen check loopback inject) s = .next (s.respond 0x0802 q r) :=
  (laneSet_run h pattern inject gen check loopback hlane).trans (run_no h hr)

theorem laneSet_set (pattern inject : Nat) (gen check loopback : Bool) (hlane : laneExists cls lane)
    (hr : s.laneRefuse cls lane gen check loopback inject = none) :
    exec (.laneSet q cls lane pattern gen check loopback inject) s = .next ((s.setLane
      { cls := cls, lane := lane, pattern := pattern, gen := gen, check := check, loopback := loopback, inject := inject }).respond 0x0802 q {}) :=
  (laneSet_run h pattern inject gen check loopback hlane).trans (run_plain h hr)

end

/-- The test set is the lane's, and its generator starts at all ones (R466). -/
theorem setLane_test (s : State) (t : LaneTest) :
    (s.setLane t).vd.tests.find? (fun x => x.cls == t.cls && x.lane == t.lane) = some { t with reg := 2 ^ (prbsTaps t.pattern).1 - 1 } := by
  unfold State.setLane
  simp

/-- A test on a Viaduct lane opens the test mode of the link (R467). -/
theorem setLane_testMode (s : State) {t : LaneTest} (h : t.cls ≠ 0) : (s.setLane t).vd.testMode = true := by
  unfold State.setLane
  simp [h]

/-- Without a checker the lane hears nothing (R465). -/
theorem laneHears_unchecked {s : State} {cls lane : Nat} (received : List (List Bool))
    (h : ∀ c, s.laneTest cls lane = some c → c.check = false) : s.laneHears cls lane received = s := by
  unfold State.laneHears
  split
  · rfl
  next c hc => exact if_pos (by simp [h c hc])

theorem laneTest_unchecked {s : State} {cls lane : Nat} (h : ∀ t ∈ s.vd.tests, t.cls = cls → t.lane = lane → t.check = false) :
    ∀ c, s.laneTest cls lane = some c → c.check = false := by
  intro c hc
  have hfind : s.vd.tests.find? (fun t => t.cls == cls && t.lane == lane) = some c := hc
  have hmatch := List.find?_some hfind
  rw [Bool.and_eq_true, beq_iff_eq, beq_iff_eq] at hmatch
  exact h c (List.mem_of_find?_eq_some hfind) hmatch.1 hmatch.2

theorem leBytes_add (m n v : Nat) : leBytes (m + n) v = leBytes m v ++ leBytes n (v / 256 ^ m) := by
  induction m generalizing v with
  | zero => simp [leBytes]
  | succ m ih =>
    rw [Nat.add_right_comm, leBytes, ih, leBytes, List.cons_append, Nat.div_div_eq_div_mul, Nat.pow_succ']

/-- Only the bits that its bytes hold count. -/
theorem leBytes_mod (n v : Nat) : leBytes n (v % 256 ^ n) = leBytes n v := by
  induction n generalizing v with
  | zero => rfl
  | succ n ih =>
    have hlow : BitVec.ofNat 8 (v % 256 ^ (n + 1)) = BitVec.ofNat 8 v :=
      BitVec.eq_of_toNat_eq (by simp)
    rw [leBytes, leBytes, hlow, Nat.pow_succ', Nat.mod_mul_right_div_self, ih]

/-- A number of 8 bytes is its two words, low first (R14). -/
theorem leBytes_eight (v : Nat) : leBytes 8 v = leBytes 4 (v % 2 ^ 32) ++ leBytes 4 (v / 2 ^ 32 % 2 ^ 32) := by
  rw [leBytes_add 4 4, ← leBytes_mod 4 v, ← leBytes_mod 4 (v / 256 ^ 4)]
  norm_num

/-- The checker that answers a LANE_QUERY: the lane's own where it runs, else one that has counted nothing. -/
def State.queriedTest (s : State) (cls lane : Nat) : LaneTest := ((s.laneTest cls lane).filter (·.check)).getD { cls := cls, lane := lane }

theorem laneQuery_answers {q : Req} {s : State} (h : Allowed q s .diag false) {cls : Nat} (lane : Nat) (received : List (List Bool))
    (hcls : cls = 0 ∨ cls = 2) {c : LaneTest} (hc : (s.laneHears cls lane received).queriedTest cls lane = c) :
    exec (.laneQuery q cls lane received) s = .next ((s.laneHears cls lane received).respond 0x0803 q
      (.ok (leBytes 4 (b2n c.lock) ++ leBytes 4 0 ++ leBytes 8 c.bits ++ leBytes 8 c.errors))) := by
  subst hc
  refine (run_plain h (if_neg (by omega))).trans ?_
  simp only [leBytes_eight, List.append_assoc]
  rfl

/-- Settles O20: PEEK, POKE, LANE_SET and LANE_QUERY, each clause by its lemma above. -/
theorem diagnosticCommandsReadWriteAndTest : Obligations.DiagnosticCommandsReadWriteAndTest := by
  refine ⟨fun q addr count s h hl hc hr => ⟨peek_answers h hl hc hr, fun hdram hout => seen_dram hdram hout⟩,
    fun q addr r words s h hl hr hreg hdma hown => ⟨_, poke_answers h hl hr hreg hdma hown, fun h0 => if_pos h0, fun h0 hm => ?_⟩,
    fun q addr words s h hl hr => poke_internalRegister h hl hr,
    fun q addr count words s h hlock => ⟨peek_locked h addr count (diagLocked_of hlock), poke_locked h addr words (diagLocked_of hlock)⟩,
    fun q cls lane pattern inject gen check loopback s h hlane => ?_,
    fun q cls lane pattern inject gen check loopback s h hmiss => laneSet_missing h pattern inject gen check loopback hmiss,
    fun q cls lane received s h => ?_⟩
  · rw [if_neg h0, hostWrite_mem]
    have hlen : (wordsBytes words).length = 4 * words.length := wb_len words
    exact ⟨fun i hi => memWrite_inside _ (by rwa [hlen]) hm, fun x hx => memWrite_outside hm (by rwa [hlen])⟩
  · dsimp only
    split
    next hlack => exact laneSet_refused h pattern inject gen check loopback hlane (if_pos hlack)
    next hlack =>
      split
      next hcam => exact laneSet_refused h pattern inject gen check loopback hlane ((if_neg hlack).trans (if_pos hcam))
      next hcam =>
        exact ⟨_, laneSet_set h pattern inject gen check loopback hlane ((if_neg hlack).trans (if_neg hcam)), setLane_test s _,
          fun hcls => setLane_testMode s hcls⟩
  · split
    next hcls =>
      refine ⟨fun hnone => ?_, fun c hc hcheck => laneQuery_answers h lane received hcls (by simp [State.queriedTest, hc, Option.filter, hcheck])⟩
      have hun := laneTest_unchecked hnone
      have hzero : leBytes 4 (b2n false) ++ leBytes 4 0 ++ leBytes 8 0 ++ leBytes 8 0 = List.replicate 24 0 := by decide
      have hidle : (s.laneTest cls lane).filter (·.check) = none := by simpa [Option.filter_eq_none_iff] using hun
      have hans := laneQuery_answers h lane received hcls (c := { cls := cls, lane := lane })
        (by rw [laneHears_unchecked received hun, State.queriedTest, hidle]; rfl)
      rw [laneHears_unchecked received hun] at hans
      exact hans.trans (congrArg (fun b => Host.Outcome.next (s.respond 0x0803 q (.ok b))) hzero)
    next hcls => exact run_no h (if_pos (by omega))

end Sys2Proof.Machine
end

section
/-! SUPPORT. Proofs: status snapshots (R33, R34, R410). -/

namespace Sys2Proof.Machine

theorem wordsBytes_append (l r : List Nat) : wordsBytes (l ++ r) = wordsBytes l ++ wordsBytes r := by
  simp [wordsBytes]

theorem completeCode_mem (s : State) (code : Nat) (st : Status) (d : Nat) : (s.completeCode code st d).mem = s.mem :=
  mem_of ((State.completeCode_keeps (p := (· ≠ .mem)) (Keeps.refl s) code st d).same .mem (by simp))

/-- The header as words and its reserved rest (R410). -/
theorem snapHeader_mem (s : State) (n : Snapshot) (noWeb : Bool) : ∃ rest : List Byte, (s.snapHeader n noWeb).mem =
    memWrite s.mem n.dest (wordsBytes [0x50414E53, n.mask, n.length, b2n noWeb + 2 * b2n n.noLine + 1 * 2 ^ 16] ++ rest) := by
  refine ⟨?_, ?_⟩
  rotate_left
  · unfold State.snapHeader
    dsimp only
    rw [State.drawn_mem, State.write_mem, List.append_assoc, List.append_assoc, wordsBytes_append, List.append_assoc]

/-- The parts named are taken, each at its place. -/
def State.partsTaken (s : State) (n : Snapshot) (l : List ((Nat × Nat) × Nat)) : State := l.foldl (fun (s : State) x => s.takePart n x) s

theorem partsTaken_wf {s : State} (h : s.mem.wf = true) (n : Snapshot) (l : List ((Nat × Nat) × Nat)) : (s.partsTaken n l).mem.wf = true :=
  (Keeps.foldl (p := fun _ => True) (fun _ _ _ hk => State.takePart_keeps hk n _) (Keeps.refl s)).mem h

/-- The state with the last part taken and the header written. -/
def State.snapWritten (s : State) (n : Snapshot) (noWeb : Bool) : State :=
  { ((s.partsTaken n n.waiting).snapHeader { n with waiting := [] } noWeb) with keeper := { (s.partsTaken n n.waiting).keeper with snapshot := none } }

/-- With every part that is left taken, the header is written and the command completes (R410). -/
theorem snapTake_all (s : State) (n : Snapshot) (noWeb : Bool) :
    s.snapTake n n.waiting noWeb = (s.snapWritten n noWeb).completeCode 0x0003 .ok n.length := by
  have hleft : n.waiting.filter (fun x => !n.waiting.contains x) = [] := by
    rw [List.filter_eq_nil_iff]
    exact fun x hx => by simp [hx]
  unfold State.snapTake
  dsimp only
  rw [hleft]
  exact if_pos rfl

theorem snapTake_all_keeper (s : State) (n : Snapshot) (noWeb : Bool) :
    (s.snapTake n n.waiting noWeb).keeper.snapshot = none ∧ (s.snapTake n n.waiting noWeb).isRunning 0x0003 = false := by
  rw [snapTake_all]
  exact ⟨by rw [complete_keeper]; rfl, run_false ..⟩

/-- The first words of the header stand at the destination (R410). -/
theorem snapTake_all_header {s : State} (hm : s.mem.wf = true) (n : Snapshot) (noWeb : Bool) {i : Nat} (hi : i < 16) :
    memByte (s.snapTake n n.waiting noWeb).mem (n.dest + i) =
      (wordsBytes [0x50414E53, n.mask, n.length, b2n noWeb + 2 * b2n n.noLine + 1 * 2 ^ 16]).getD i 0 := by
  obtain ⟨rest, hmem⟩ := snapHeader_mem (s.partsTaken n n.waiting) { n with waiting := [] } noWeb
  have hlen : i < (wordsBytes [0x50414E53, n.mask, n.length, b2n noWeb + 2 * b2n n.noLine + 1 * 2 ^ 16]).length := by rw [wb_len]; exact hi
  rw [snapTake_all, completeCode_mem, State.snapWritten, hmem]
  exact (memWrite_inside _ (by rw [List.length_append]; exact Nat.lt_add_right _ hlen) (partsTaken_wf hm n _)).trans (List.getD_append _ _ _ _ hlen)

section
variable (q : Req) (dest parts timeoutMs : Nat) (s : State)

theorem newSnapshot_waits (h : partList (parts % 2 ^ 18 / 2 * 2) ≠ []) : (s.newSnapshot q dest parts timeoutMs).waiting ≠ [] := by
  show s.partPlan (partList (parts % 2 ^ 18 / 2 * 2)) 64 ≠ []
  obtain ⟨x, l, hl⟩ := List.exists_cons_of_ne_nil h
  rw [hl, State.partPlan]
  exact List.cons_ne_nil _ _

end

/-- Before its line has fired no part of a snapshot is due (R33). -/
theorem partDue_unfired (s : State) {n : Snapshot} (h : n.fired = none) (p : Nat) : s.partDue n p = false := by
  unfold State.partDue
  simp [h]

/-- A step that takes no part leaves the snapshot waiting for those it lacks. -/
theorem snapTake_nothing {s : State} {n : Snapshot} (hn : s.keeper.snapshot = some n) (hw : n.waiting ≠ []) (noWeb : Bool) :
    s.snapTake n [] noWeb = s := by
  have hall : n.waiting.filter (fun x => !([] : List ((Nat × Nat) × Nat)).contains x) = n.waiting := by simp
  unfold State.snapTake
  dsimp only
  rw [hall]
  refine (if_neg (by simpa [List.isEmpty_iff] using hw)).trans ?_
  show ({ s with keeper := { s.keeper with snapshot := some n } } : State) = s
  rw [← hn]

/-- While the line of a snapshot has not fired, a step leaves it waiting (R33). -/
theorem snapStep_waits {s : State} {n : Snapshot} (hn : s.keeper.snapshot = some n) (hf : n.fired = none) (hser : s.intake.ser ≤ n.ser)
    (hw : n.waiting ≠ []) : s.snapStep = s := by
  have hnone : n.waiting.filter (fun x => s.partDue n x.1.1) = [] := by simp [partDue_unfired s hf]
  have htake : ∀ n1 : Snapshot, n1 = n → s.snapTake n1 (n1.waiting.filter (fun x => s.partDue n1 x.1.1)) false = s := by
    rintro _ rfl
    rw [hnone]
    exact snapTake_nothing hn hw false
  unfold State.snapStep
  rw [hn]
  refine htake _ ?_
  split
  · exact if_neg (by omega)
  · rfl

section
variable {q : Req} {dest parts timeoutMs : Nat} {s : State}

/-- Outside the web modes every part is taken at once (R410). -/
theorem snapBegins_noWeb (h : s.webRunning = false) (n : Snapshot) :
    s.snapBegins q n = (s.start 0x0003 q [n.dest]).snapTake n n.waiting true :=
  if_neg (by simp [h])

/-- In a web mode a snapshot waits for its line (R33). -/
theorem snapBegins_web (h : s.webRunning = true) {n : Snapshot} (hf : n.fired = none) (hser : s.intake.ser ≤ n.ser) (hw : n.waiting ≠ []) :
    s.snapBegins q n = { s.start 0x0003 q [n.dest] with keeper := { (s.start 0x0003 q [n.dest]).keeper with snapshot := some n } } :=
  (if_pos h).trans (snapStep_waits rfl hf hser hw)

end

section
variable {q : Req} {dest destLen parts timeoutMs : Nat} {s : State} (h : Allowed q s .nb false)
include h

theorem sysSnapshot_accepted (hp : partsReserved parts = false) (hs : s.keeper.snapshot = none)
    (hl : (s.newSnapshot q dest parts timeoutMs).length ≤ destLen) (hr : s.rangeOf dest (s.newSnapshot q dest parts timeoutMs).length = some 6) :
    exec (.sysSnapshot q dest destLen parts timeoutMs) s =
      .next ((s.snapBegins q (s.newSnapshot q dest parts timeoutMs)).wakeDram.respond 0x0003 q
        (.mk 1 0 (leBytes 8 (s.newSnapshot q dest parts timeoutMs).line ++ leBytes 4 (s.newSnapshot q dest parts timeoutMs).length))) := by
  show execSysSnapshot q dest destLen parts timeoutMs s = _
  unfold execSysSnapshot
  dsimp only
  rw [if_neg (by simp [hp]), if_neg (by simp [hr])]
  exact run_dram h ((if_neg (by simp [hs])).trans (if_neg (by omega)))

theorem sysSnapshot_refused {r : Reply} (hp : partsReserved parts = false)
    (hr : (if s.keeper.snapshot.isSome then some (.fail .busy 5)
      else if (s.newSnapshot q dest parts timeoutMs).length > destLen then
        some (resource 0x0D (ceilDiv (s.newSnapshot q dest parts timeoutMs).length 64)) else none) = some r) :
    exec (.sysSnapshot q dest destLen parts timeoutMs) s = .next (s.respond 0x0003 q r) := by
  show execSysSnapshot q dest destLen parts timeoutMs s = _
  unfold execSysSnapshot
  dsimp only
  rw [hr, if_neg (by simp [hp]), if_neg (by simp)]
  exact run_no h rfl

theorem sysSnapshot_reserved (hp : partsReserved parts = true) : exec (.sysSnapshot q dest destLen parts timeoutMs) s = .fault (.misuse 15) :=
  if_pos (by simp [adm_none h, hp])

end

theorem wakeDram_mem (s : State) : s.wakeDram.mem = s.mem := (wk s).2

theorem wakeDram_keeper (s : State) : s.wakeDram.keeper = s.keeper := (wk s).1

theorem snapshotTimeout_delivers {s : State} {n : Snapshot} (hn : s.keeper.snapshot = some n) (hf : n.fired = none) :
    exec .snapshotTimeout s = .next (s.snapTake { n with noLine := true } n.waiting false) := by
  show execSnapshotTimeout s = _
  unfold execSnapshotTimeout
  rw [hn]
  exact if_neg (by simp [hf])

/-- Settles O18: SYS_SNAPSHOT by what it begins in and outside the web modes, its refusals, and the timeout, each by its lemma above. -/
theorem snapshotsAreTakenAndDelivered : Obligations.SnapshotsAreTakenAndDelivered := by
  refine ⟨fun q dest destLen parts timeoutMs s h hp hs hl hr =>
      ⟨(s.snapBegins q (s.newSnapshot q dest parts timeoutMs)).wakeDram, ?_, fun hweb => ?_, fun hweb hparts => ?_⟩,
    fun q dest destLen parts timeoutMs s h hp hs => sysSnapshot_refused h hp (if_pos hs),
    fun q dest destLen parts timeoutMs s h hp hs hl => sysSnapshot_refused h hp ((if_neg (by simp [hs])).trans (if_pos hl)),
    fun q dest destLen parts timeoutMs s h hp => sysSnapshot_reserved h hp,
    fun s n hn hf => ⟨_, snapshotTimeout_delivers hn hf, snapTake_all_keeper s { n with noLine := true } false⟩⟩
  · have hline : (s.newSnapshot q dest parts timeoutMs).line =
        if s.webRunning then (if s.switchDue.isSome then 0 else s.pos.wln) else 2 ^ 64 - 1 := by
      simp only [State.newSnapshot]
      cases s.webRunning <;> rfl
    rw [← hline]
    exact sysSnapshot_accepted h hp hs hl hr
  · obtain ⟨hnone, hdone⟩ := snapTake_all_keeper (s.start 0x0003 q [dest]) (s.newSnapshot q dest parts timeoutMs) true
    rw [snapBegins_noWeb hweb, isr_wake, wakeDram_keeper, wakeDram_mem]
    exact ⟨hdone, hnone, fun hm i hi => snapTake_all_header (s := s.start 0x0003 q [dest]) hm (s.newSnapshot q dest parts timeoutMs) true hi⟩
  · rw [snapBegins_web hweb rfl (Nat.le_refl _) (newSnapshot_waits q dest parts timeoutMs s hparts), isr_wake, wakeDram_keeper]
    exact ⟨isr_start s 0x0003 q [dest], rfl⟩

end Sys2Proof.Machine
end

section
/-! SUPPORT. Proofs: what a fault of a camera port and the end of a strip leave of the cameras (R108-R112, R123, R124, R157). -/

namespace Sys2Proof.Machine

theorem updCam_cam {s : State} {c : Nat} (h : c < s.intake.cam.length) (f : Camera → Camera) : (s.updCam c f).cam c = f (s.cam c) :=
  cam_upd s c f h

theorem updCam_cams_length (s : State) (c : Nat) (f : Camera → Camera) : (s.updCam c f).intake.cam.length = s.intake.cam.length :=
  length_updAt ..

/-- Each camera is as it was, or the image of what it was. -/
theorem updCam_cam_cases (s : State) (c : Nat) (f : Camera → Camera) (k : Nat) :
    (s.updCam c f).cam k = s.cam k ∨ (s.updCam c f).cam k = f (s.cam k) := by
  by_cases hk : k = c
  · subst hk
    by_cases hlen : k < s.intake.cam.length
    · exact .inr (updCam_cam hlen f)
    · have hsame : updAt s.intake.cam k f = s.intake.cam := List.modify_eq_self (Nat.le_of_not_lt hlen)
      exact .inl (congrArg (fun l : List Camera => getN l k {}) hsame)
  · exact .inl (getN_upd_ne _ _ _ _ _ hk)

theorem em_cam (s : State) (o : Out) (k : Nat) : (s.emit o).cam k = s.cam k := rfl

theorem cam_of {s t : State} (h : t.intake = s.intake) (k : Nat) : t.cam k = s.cam k := by rw [State.cam, h, State.cam]

/-! VOID lines: the list of lines grows, and VOIDLINES counts. -/

theorem voidLine_eq (m : Camera) (ser cause : Nat) :
    ∃ l v, m.voidLine ser cause = { m with lines := l, count := { m.count with voidlines := v } } := by
  unfold Camera.voidLine
  split
  · exact ⟨m.lines, m.count.voidlines, rfl⟩
  · exact ⟨_, _, rfl⟩

theorem voidLines_eq (m : Camera) (cause : Nat) (sers : List Nat) :
    ∃ l v, m.voidLines cause sers = { m with lines := l, count := { m.count with voidlines := v } } := by
  induction sers generalizing m with
  | nil => exact ⟨m.lines, m.count.voidlines, rfl⟩
  | cons ser sers ih =>
    obtain ⟨l, v, h⟩ := voidLine_eq m ser cause
    obtain ⟨l', v', h'⟩ := ih (m.voidLine ser cause)
    exact ⟨l', v', by rw [Camera.voidLines, h', h]⟩

/-! What a fault of the port leaves. -/

/-- The counters of packets: all but those of lines, frames and correction. -/
def PortCount.packets (t : PortCount) : PortCount :=
  { t with voidlines := 0, short := 0, nofe := 0, dpkeep := 0, dpkeepOdd := 0, double := 0, doubleOdd := 0 }

/-- A camera after faults of its port: its counters of packets and its settings changes are as they were, and no frame has opened. -/
structure Camera.Faulted (m m' : Camera) : Prop where
  packets : m'.count.packets = m.count.packets
  changes : m'.changes = m.changes
  unsure : m'.unsure = m.unsure
  closed : m.openStrip = none → m'.openStrip = none

theorem Camera.Faulted.refl (m : Camera) : m.Faulted m := ⟨rfl, rfl, rfl, id⟩

theorem Camera.Faulted.trans {a b c : Camera} (h : a.Faulted b) (k : b.Faulted c) : a.Faulted c :=
  ⟨k.packets.trans h.packets, k.changes.trans h.changes, k.unsure.trans h.unsure, k.closed ∘ h.closed⟩

theorem voidLines_faulted (m : Camera) (cause : Nat) (sers : List Nat) : m.Faulted (m.voidLines cause sers) := by
  obtain ⟨l, v, h⟩ := voidLines_eq m cause sers
  rw [h]
  exact ⟨rfl, rfl, rfl, id⟩

theorem shut_faulted (m : Camera) (id cause : Nat) : m.Faulted (m.shut id cause) :=
  ⟨rfl, rfl, rfl, fun h => by simp [Camera.shut, h]⟩

theorem retire_faulted (m : Camera) (strips : List Strip) : m.Faulted (m.retire strips) := by
  have hfold : m.Faulted (strips.foldl (fun m p => (m.voidLines 6 (stripSers p 0 p.lines)).shut p.id 6) m) :=
    List.foldlRecOn (motive := m.Faulted) strips _ (.refl m) fun m' h p _ => (h.trans (voidLines_faulted ..)).trans (shut_faulted ..)
  exact hfold.trans ⟨rfl, rfl, rfl, id⟩

/-- Every camera of a state after faults of ports. -/
structure State.Faulted (s t : State) : Prop where
  cam : ∀ k, (s.cam k).Faulted (t.cam k)

namespace State.Faulted

theorem ite {p : Prop} [Decidable p] {s a b : State} (ha : s.Faulted a) (hb : s.Faulted b) : s.Faulted (if p then a else b) := by
  split
  · exact ha
  · exact hb

theorem refl (s : State) : s.Faulted s := ⟨fun _ => .refl _⟩

theorem trans {a b c : State} (h : a.Faulted b) (k : b.Faulted c) : a.Faulted c := ⟨fun i => (h.cam i).trans (k.cam i)⟩

theorem of_intake {s t : State} (h : t.intake = s.intake) : s.Faulted t := ⟨fun k => by rw [cam_of h]; exact .refl _⟩

theorem updCam {s : State} {c : Nat} {f : Camera → Camera} (hf : ∀ m : Camera, m.Faulted (f m)) : s.Faulted (s.updCam c f) := by
  refine ⟨fun k => ?_⟩
  rcases updCam_cam_cases s c f k with h | h <;> rw [h]
  · exact .refl _
  · exact hf _

theorem foldl {α : Type} {f : State → α → State} (hf : ∀ (s : State) (a : α), s.Faulted (f s a)) (s : State) (l : List α) : s.Faulted (l.foldl f s) :=
  List.foldlRecOn (motive := s.Faulted) l f (refl s) fun t h a _ => h.trans (hf t a)

end State.Faulted

theorem correct_faulted (s : State) (c : Nat) (p : Strip) (ser : Nat) : s.Faulted (s.correct c p ser) := by
  unfold State.correct
  split
  · exact .refl s
  · split
    · exact .refl s
    · exact .updCam fun m => ⟨rfl, rfl, rfl, id⟩

theorem occur_intake (s : State) (block inst code detail : Nat) (line : Nat × Int) : (s.occur block inst code detail line).2.intake = s.intake :=
  intake_of ((State.occur_keeps (p := (· ≠ .intake)) (Keeps.refl s) block inst code detail line).same .intake (by simp))

theorem retireNow_intake (s : State) (block inst code : Nat) : (s.retireNow block inst code).intake = s.intake :=
  intake_of ((State.retireNow_keeps (p := (· ≠ .intake)) (Keeps.refl s) block inst code).same .intake (by simp))

theorem voidRetired_faulted (s : State) (c : Nat) : s.Faulted (s.voidRetired c) :=
  (State.Faulted.updCam fun m => retire_faulted m _).trans (.foldl (fun _ _ => .foldl (fun _ _ => correct_faulted ..) _ _) _ _)

theorem portRetired_faulted (s : State) (c code : Nat) : s.Faulted (s.portRetired c code) := by
  unfold State.portRetired
  dsimp only
  split
  · exact (State.Faulted.of_intake (retireNow_intake ..)).trans (voidRetired_faulted ..)
  · exact voidRetired_faulted ..

theorem portOccur_faulted (s : State) (c code : Nat) (line : Nat × Int) : s.Faulted (s.portOccur c code line) := by
  have hocc := State.Faulted.of_intake (occur_intake s 1 (s.portOf c) code 0 line)
  unfold State.portOccur
  dsimp only
  split
  · exact hocc.trans (portRetired_faulted ..)
  · exact hocc

theorem tableOccur_faulted (s : State) (c : Nat) (line : Nat × Int) : s.Faulted (s.tableOccur c line) := by
  have hocc := State.Faulted.of_intake (occur_intake s 2 (s.portOf c) 1 0 line)
  unfold State.tableOccur
  dsimp only
  split
  · exact (hocc.trans (.of_intake (retireNow_intake ..))).trans (portRetired_faulted ..)
  · exact hocc

theorem payloadOccur_faulted (s : State) (c need : Nat) (p : CsiPacket) (line : Nat × Int) : s.Faulted (s.payloadOccur c need p line) := by
  unfold State.payloadOccur
  refine State.Faulted.trans ?_ (.foldl (fun _ _ => tableOccur_faulted ..) _ _)
  exact (State.Faulted.ite (.refl s) (portOccur_faulted ..)).trans (.ite (portOccur_faulted ..) (.refl _))

theorem killFrame_faulted (s : State) (c cause : Nat) : s.Faulted (s.killFrame c cause) := by
  unfold State.killFrame
  split
  · exact .refl s
  · split
    · exact .refl s
    · refine State.Faulted.trans (.updCam fun m => ?_) (portOccur_faulted ..)
      refine Camera.Faulted.trans (b := ({ m with killed := true, fates := m.fates ++ [(_, cause)] } : Camera).voidLines cause _) ?_
        ⟨rfl, rfl, rfl, id⟩
      exact Camera.Faulted.trans (b := { m with killed := true, fates := m.fates ++ [(_, cause)] }) ⟨rfl, rfl, rfl, id⟩ (voidLines_faulted ..)

/-! The end of a strip (R157): statistics leave, and what only settled strips need. -/

theorem post_intake (s : State) (r : Rec) : (s.post r).intake = s.intake :=
  intake_of ((State.post_keeps (p := (· ≠ .intake)) (Keeps.refl s) r).same .intake (by simp))

/-- The cameras, and whether an exit waits for its deadline, are as they were. -/
structure State.CamsKept (s t : State) : Prop where
  cam : t.intake.cam = s.intake.cam
  exitPending : t.intake.exitPending = s.intake.exitPending

theorem State.CamsKept.of_intake {s t : State} (h : t.intake = s.intake) : s.CamsKept t := ⟨by rw [h], by rw [h]⟩

theorem State.CamsKept.trans {a b c : State} (h : a.CamsKept b) (k : b.CamsKept c) : a.CamsKept c :=
  ⟨k.cam.trans h.cam, k.exitPending.trans h.exitPending⟩

theorem State.CamsKept.ite {p : Prop} [Decidable p] {s a b : State} (ha : s.CamsKept a) (hb : s.CamsKept b) : s.CamsKept (if p then a else b) := by
  split
  · exact ha
  · exact hb

/-- Statistics that leave touch no more of intake than the strips. -/
theorem flushStats_camsKept (n : Nat) (s : State) : s.CamsKept (s.flushStats n) := by
  induction n generalizing s with
  | zero => exact .of_intake rfl
  | succ n ih =>
    unfold State.flushStats
    split
    · exact .of_intake rfl
    · refine State.CamsKept.ite (.of_intake rfl) (State.CamsKept.trans ?_ (ih _))
      refine State.CamsKept.trans (.of_intake ?_) (State.CamsKept.trans (.of_intake (post_intake _ _)) ⟨rfl, rfl⟩)
      split <;> rfl

theorem pruneStrips_cam (s : State) (k : Nat) : ∃ frames fates, s.pruneStrips.cam k = { s.cam k with frames := frames, fates := fates } :=
  ⟨_, _, getN_map _ s.intake.cam k {}⟩

theorem statsReady_leaves (s : State) : s.statsReady.intake.exitPending = s.intake.exitPending ∧
    ∀ k, ∃ frames fates, s.statsReady.cam k = { s.cam k with frames := frames, fates := fates } := by
  have hflush := flushStats_camsKept s.stats.waiting.length s
  refine ⟨hflush.exitPending, fun k => ?_⟩
  have hcam : (s.flushStats s.stats.waiting.length).cam k = s.cam k := congrArg (fun l : List Camera => getN l k {}) hflush.cam
  obtain ⟨frames, fates, h⟩ := pruneStrips_cam (s.flushStats s.stats.waiting.length) k
  exact ⟨frames, fates, by rw [State.statsReady, h, hcam]⟩

/-- Of a camera the end of a strip changes only what a settled strip needs no more; an exit that waits goes on waiting. -/
theorem endStrip_leaves (s : State) : s.endStrip.intake.exitPending = s.intake.exitPending ∧
    ∀ k, ∃ frames fates obAcc, s.endStrip.cam k = { s.cam k with frames := frames, fates := fates, obAcc := obAcc } := by
  unfold State.endStrip
  split
  · exact ⟨rfl, fun _ => ⟨_, _, _, rfl⟩⟩
  next st _ =>
    split
    · exact ⟨rfl, fun _ => ⟨_, _, _, rfl⟩⟩
    next p _ =>
      dsimp only
      split
      · exact ⟨rfl, fun _ => ⟨_, _, _, rfl⟩⟩
      · obtain ⟨hexit, hcam⟩ := statsReady_leaves _
        refine ⟨hexit, fun k => ?_⟩
        obtain ⟨frames, fates, h⟩ := hcam k
        have hsums : getN (s.intake.cam.map (fun (m : Camera) => { m with obAcc := eraseN p.id m.obAcc })) k {} =
          { s.cam k with obAcc := eraseN p.id (s.cam k).obAcc } := getN_map _ s.intake.cam k {}
        exact ⟨frames, fates, eraseN p.id (s.cam k).obAcc, h.trans (by rw [State.cam, hsums])⟩

theorem endStrip_exitPending (s : State) : s.endStrip.intake.exitPending = s.intake.exitPending := (endStrip_leaves s).1

theorem endStrip_cam (s : State) (k : Nat) :
    ∃ frames fates obAcc, s.endStrip.cam k = { s.cam k with frames := frames, fates := fates, obAcc := obAcc } := (endStrip_leaves s).2 k

section
variable (s : State) (k : Nat)

@[simp] theorem endStrip_openStrip : (s.endStrip.cam k).openStrip = (s.cam k).openStrip := by
  obtain ⟨_, _, _, h⟩ := endStrip_cam s k
  rw [h]

@[simp] theorem endStrip_dropping : (s.endStrip.cam k).dropping = (s.cam k).dropping := by
  obtain ⟨_, _, _, h⟩ := endStrip_cam s k
  rw [h]

@[simp] theorem endStrip_nextK : (s.endStrip.cam k).nextK = (s.cam k).nextK := by
  obtain ⟨_, _, _, h⟩ := endStrip_cam s k
  rw [h]

@[simp] theorem endStrip_lines : (s.endStrip.cam k).lines = (s.cam k).lines := by
  obtain ⟨_, _, _, h⟩ := endStrip_cam s k
  rw [h]

@[simp] theorem endStrip_count : (s.endStrip.cam k).count = (s.cam k).count := by
  obtain ⟨_, _, _, h⟩ := endStrip_cam s k
  rw [h]

end

end Sys2Proof.Machine
end

section
/-! SUPPORT. Proofs: packets at a camera port (R103, R104, R107-R111, R114, R123). -/

namespace Sys2Proof.Machine

/-! The header (R103). -/

/-- A packet whose header fails: ECC2 counts, an open frame with LNUM = 0 is lost, and the port has an occurrence. -/
def State.headerLost (s : State) (c : Nat) : State :=
  ((((s.updCam c (fun m => m.tally (fun t => { t with ecc2 := satInc t.ecc2 }))).killFrame c 1)).portOccur c 2
    ((s.updCam c (fun m => m.tally (fun t => { t with ecc2 := satInc t.ecc2 })))).portLine)

theorem packetHeader_lost (s : State) (c : Nat) {p : CsiPacket} {short : Bool} (he : 2 ≤ p.ecc) (ho : short = true → p.overflow = false) :
    s.packetHeader c p short = (none, s.headerLost c) := by
  have hin : ¬ (p.overflow && short) = true := by
    cases short with
    | true => simp [ho rfl]
    | false => simp
  unfold State.packetHeader
  rw [if_neg hin, if_neg (by omega), if_neg (by omega)]
  rfl

theorem packetHeader_good (s : State) (c : Nat) {p : CsiPacket} {short : Bool} (he : p.ecc = 0) (ho : short = true → p.overflow = false) :
    s.packetHeader c p short = (some s, s) := by
  have hin : ¬ (p.overflow && short) = true := by
    cases short with
    | true => simp [ho rfl]
    | false => simp
  unfold State.packetHeader
  rw [if_neg hin, if_pos he]

/-- A short packet that the FIFO could not take is lost (R26). -/
theorem packetHeader_overflow (s : State) (c : Nat) {p : CsiPacket} (ho : p.overflow = true) : s.packetHeader c p true = (none, s) :=
  if_pos (by simp [ho])

/-! A port that does not decode (R114). -/

section
variable {s : State} {port : Nat} (h : s.decodes port = none) (p : CsiPacket)
include h

theorem csiFrameStart_idle : s.csiFrameStart port p = s := by
  unfold State.csiFrameStart
  rw [h]

theorem csiFrameEnd_idle : s.csiFrameEnd port p = s := by
  unfold State.csiFrameEnd
  rw [h]

theorem csiLineStart_idle : s.csiLineStart port p = s := by
  unfold State.csiLineStart
  rw [h]

theorem csiLongPacket_idle : s.csiLongPacket port p = s := by
  unfold State.csiLongPacket
  rw [h]

theorem csiOtherPacket_idle : s.csiOtherPacket port p = s := by
  unfold State.csiOtherPacket
  rw [h]

theorem csiSyncError_idle : s.csiSyncError port = s := by
  unfold State.csiSyncError
  rw [h]

end

/-! A packet that the header drops. -/

section
variable {s s1 : State} {port c : Nat} {p : CsiPacket} (h : s.decodes port = some c)
include h

theorem csiFrameStart_dropped (hh : s.packetHeader c p true = (none, s1)) : s.csiFrameStart port p = s1 := by
  unfold State.csiFrameStart
  rw [h]
  dsimp only
  rw [hh]

theorem csiFrameEnd_dropped (hh : s.packetHeader c p true = (none, s1)) : s.csiFrameEnd port p = s1 := by
  unfold State.csiFrameEnd
  rw [h]
  dsimp only
  rw [hh]

theorem csiLineStart_dropped (hh : s.packetHeader c p true = (none, s1)) : s.csiLineStart port p = s1 := by
  unfold State.csiLineStart
  rw [h]
  dsimp only
  rw [hh]

theorem csiLongPacket_dropped (hh : s.packetHeader c p false = (none, s1)) : s.csiLongPacket port p = s1 := by
  unfold State.csiLongPacket
  rw [h]
  dsimp only
  rw [hh]

theorem csiOtherPacket_dropped (hh : s.packetHeader c p false = (none, s1)) : s.csiOtherPacket port p = s1 := by
  unfold State.csiOtherPacket
  rw [h]
  dsimp only
  rw [hh]

/-! A packet with a good header, by its VC. -/

theorem csiFrameStart_eq (hh : s.packetHeader c p true = (some s, s1)) : s.csiFrameStart port p =
    if p.vc ≠ (s.portDeck c).camVc c then s.otherPacket c else (s.frameStart c).commitAtFrame c := by
  unfold State.csiFrameStart
  rw [h]
  dsimp only
  rw [hh]

theorem csiLineStart_eq (hh : s.packetHeader c p true = (some s, s1)) : s.csiLineStart port p =
    if p.vc ≠ (s.portDeck c).camVc c then s.otherPacket c else s.updCam c (fun m => { m with lineNo := some p.number }) := by
  unfold State.csiLineStart
  rw [h]
  dsimp only
  rw [hh]

theorem csiOtherPacket_eq (hh : s.packetHeader c p false = (some s, s1)) : s.csiOtherPacket port p =
    if decide (p.vc = (s.portDeck c).camVc c) && (p.dt == 0x03 || ((s.cam c).dropping && decide (p.dt ≥ 0x10))) then s else s.otherPacket c := by
  unfold State.csiOtherPacket
  rw [h]
  dsimp only
  rw [hh]

theorem csiFrameEnd_otherVc (hh : s.packetHeader c p true = (some s, s1)) (hvc : p.vc ≠ (s.portDeck c).camVc c) :
    s.csiFrameEnd port p = s.otherPacket c := by
  unfold State.csiFrameEnd
  rw [h]
  dsimp only
  rw [hh]
  exact if_pos hvc

theorem csiFrameEnd_dropping (hh : s.packetHeader c p true = (some s, s1)) (hvc : p.vc = (s.portDeck c).camVc c) (hd : (s.cam c).dropping = true) :
    s.csiFrameEnd port p = s.updCam c (fun m => { m with dropping := false }) := by
  unfold State.csiFrameEnd
  rw [h]
  dsimp only
  rw [hh]
  exact (if_neg (not_not.mpr hvc)).trans (if_pos hd)

theorem csiFrameEnd_open (hh : s.packetHeader c p true = (some s, s1)) (hvc : p.vc = (s.portDeck c).camVc c) (hd : (s.cam c).dropping = false)
    {q : Strip} (hq : (s.cam c).openStrip.bind s.strip = some q) : s.csiFrameEnd port p = s.closeFrame c q := by
  unfold State.csiFrameEnd
  rw [h]
  dsimp only
  rw [hh]
  dsimp only
  rw [if_neg (not_not.mpr hvc), if_neg (by simp [hd]), hq]

theorem csiLongPacket_otherVc (hh : s.packetHeader c p false = (some s, s1)) (hvc : p.vc ≠ (s.portDeck c).camVc c) :
    s.csiLongPacket port p = s.otherPacket c := by
  unfold State.csiLongPacket
  rw [h]
  dsimp only
  rw [hh]
  exact if_pos hvc

theorem csiLongPacket_dropping (hh : s.packetHeader c p false = (some s, s1)) (hvc : p.vc = (s.portDeck c).camVc c)
    (hd : (s.cam c).dropping = true) : s.csiLongPacket port p = s := by
  unfold State.csiLongPacket
  rw [h]
  dsimp only
  rw [hh]
  exact (if_neg (not_not.mpr hvc)).trans (if_pos hd)

end

/-! Frames (R108). -/

/-- FS with no frame open: the frame of the oldest strip that waits for one opens. -/
theorem frameStart_opens {s : State} {c id : Nat} (hc : c < s.intake.cam.length) (ho : (s.cam c).openStrip = none)
    (hf : ((s.cam c).frames.find? (fun f => f.2 == FrameSt.waiting)).map (·.1) = some id) :
    ((s.frameStart c).cam c).openStrip = some id ∧ ((s.frameStart c).cam c).dropping = false ∧ ((s.frameStart c).cam c).nextK = 0 := by
  have hcam := updCam_cam hc (fun m => { m with dropping := false })
  unfold State.frameStart
  rw [if_neg (by simp [ho])]
  dsimp only
  rw [hcam]
  dsimp only
  rw [hf]
  dsimp only
  rw [updCam_cam (by rwa [updCam_cams_length]), hcam]
  exact ⟨rfl, rfl, rfl⟩

/-- FS with no frame open and none waiting: the frame is dropped and counts SPURIOUS. -/
theorem frameStart_spurious {s : State} {c : Nat} (hc : c < s.intake.cam.length) (ho : (s.cam c).openStrip = none)
    (hf : (s.cam c).frames.find? (fun f => f.2 == FrameSt.waiting) = none) :
    ((s.frameStart c).cam c).dropping = true ∧ ((s.frameStart c).cam c).count.spurious = satInc (s.cam c).count.spurious := by
  have hcam := updCam_cam hc (fun m => { m with dropping := false })
  unfold State.frameStart
  rw [if_neg (by simp [ho])]
  dsimp only
  rw [hcam]
  dsimp only
  rw [hf, Option.map_none]
  dsimp only
  rw [updCam_cam (by rwa [updCam_cams_length]), hcam]
  exact ⟨rfl, rfl⟩

/-- A COMMIT that goes out changes nothing of a camera but its settings changes (R119). -/
theorem startCommit_cam (s : State) (c k : Nat) : ∃ l, (s.startCommit c).cam k = { s.cam k with changes := l } := by
  unfold State.startCommit
  split
  · split
    · rw [em_cam]
      rcases updCam_cam_cases s c _ k with h | h <;> rw [h] <;> exact ⟨_, rfl⟩
    · exact ⟨_, rfl⟩
  · exact ⟨_, rfl⟩

theorem commitAtFrame_cam (s : State) (c k : Nat) : ∃ l, (s.commitAtFrame c).cam k = { s.cam k with changes := l } := by
  unfold State.commitAtFrame
  split
  · split
    · exact startCommit_cam s c k
    · exact ⟨_, rfl⟩
  · exact ⟨_, rfl⟩

/-- The open frame of a strip is open no more once it closes (R108). -/
theorem camera_closeFrame_openStrip {m : Camera} {p : Strip} (h : m.openStrip = some p.id) (lnum : Bool) : (m.closeFrame p lnum).1.openStrip = none := by
  have hshut (m' : Camera) (cause : Nat) (sers : List Nat) (h : m'.openStrip = some p.id) : ((m'.voidLines cause sers).shut p.id 1).openStrip = none := by
    obtain ⟨l, v, hv⟩ := voidLines_eq m' cause sers
    rw [hv]
    exact if_pos h
  unfold Camera.closeFrame
  dsimp only
  split
  · exact hshut _ _ _ h
  · exact hshut _ _ _ h

theorem closeFrame_closed {s : State} {c : Nat} {p : Strip} (hc : c < s.intake.cam.length) (h : (s.cam c).openStrip = some p.id) :
    ((s.closeFrame c p).cam c).openStrip = none := by
  unfold State.closeFrame
  dsimp only
  have hclosed : ((s.updCam c (fun _ => ((s.cam c).closeFrame p ((s.deckOf p.epoch).lnum c)).1)).cam c).openStrip = none := by
    rw [updCam_cam hc]
    exact camera_closeFrame_openStrip h _
  have hheld := (State.Faulted.foldl (fun s x => correct_faulted s c p x) (s.updCam c (fun _ => ((s.cam c).closeFrame p ((s.deckOf p.epoch).lnum c)).1))
    ((s.cam c).heldLines p)).cam c |>.closed hclosed
  split
  · exact ((portOccur_faulted ..).cam c).closed hheld
  · exact hheld

/-! Long packets (R103-R111). -/

/-- The state with the payload's counters taken. -/
abbrev State.payloadTallied (s : State) (c : Nat) (p : CsiPacket) : State :=
  s.updCam c (fun m => m.tally (payloadTally p ((s.portDeck c).lineBytes c)))

theorem payloadTallied_openStrip (s : State) (c : Nat) (p : CsiPacket) : ((s.payloadTallied c p).cam c).openStrip = (s.cam c).openStrip := by
  rcases updCam_cam_cases s c (fun m => m.tally (payloadTally p ((s.portDeck c).lineBytes c))) c with h | h <;> rw [h]
  rfl

section
variable {s s1 : State} {port c : Nat} {p : CsiPacket} (h : s.decodes port = some c) (hh : s.packetHeader c p false = (some s, s1))
  (hvc : p.vc = (s.portDeck c).camVc c) (hd : (s.cam c).dropping = false) (hdt : p.dt = (s.portDeck c).camDt c) (ho : p.overflow = false)
include h hh hvc hd hdt ho

theorem csiLongPacket_outside (hq : (s.cam c).openStrip = none) :
    s.csiLongPacket port p = (((s.payloadTallied c p).updCam c (fun m => m.tally (fun t => { t with nofs := satInc t.nofs }))).portOccur c 5
      (s.payloadTallied c p).portLine).payloadOccur c ((s.portDeck c).lineBytes c) p (s.packetLine c) := by
  unfold State.csiLongPacket
  rw [h]
  dsimp only
  rw [hh]
  dsimp only
  rw [if_neg (not_not.mpr hvc), if_neg (by simp [hd]), if_neg (not_not.mpr hdt)]
  simp only [ho, Bool.false_eq_true, ↓reduceIte]
  rw [payloadTallied_openStrip, hq]
  rfl

theorem csiLongPacket_inside {q : Strip} (hq : (s.cam c).openStrip.bind s.strip = some q) :
    s.csiLongPacket port p = ((s.payloadTallied c p).pixelPacket c q p).payloadOccur c ((s.portDeck c).lineBytes c) p (s.packetLine c) := by
  have hopen : ((s.payloadTallied c p).cam c).openStrip.bind (s.payloadTallied c p).strip = some q := by
    rw [payloadTallied_openStrip]
    exact hq
  unfold State.csiLongPacket
  rw [h]
  dsimp only
  rw [hh]
  dsimp only
  rw [if_neg (not_not.mpr hvc), if_neg (by simp [hd]), if_neg (not_not.mpr hdt)]
  simp only [ho, Bool.false_eq_true, ↓reduceIte]
  rw [hopen]

end

/-- A good payload brings no occurrence (R123). -/
theorem payloadOccur_none (s : State) (c : Nat) {need : Nat} {p : CsiPacket} (line : Nat × Int) (hcrc : p.crcOk = true) (hlen : need ≤ p.wc)
    (hecc : eccVoid p = false) : s.payloadOccur c need p line = s := by
  have hhits : p.hits.filter (fun h => h.table && h.unc) = [] := by
    rw [List.filter_eq_nil_iff]
    intro x hx
    have hcorrected : x.unc = false := by simpa using List.any_eq_false.mp hecc x hx
    simp [hcorrected]
  unfold State.payloadOccur
  dsimp only
  rw [hhits, if_pos hcrc, if_neg (by omega)]
  rfl

/-- The camera line that a good packet gives at a place, with the settings of its generation (R129). -/
def Camera.newLine (m : Camera) (ser : Nat) (held : Bool) (raw : List (List Nat)) : CamLine :=
  { ser := ser, void := none, held := held, gen := (m.setAt ser).gen, k := (m.setAt ser).set.k, boff := (m.setAt ser).set.boff, raw := raw }

theorem putLine_new {m : Camera} {ser : Nat} (hl : m.lineAt ser = none) (hu : m.unsettled ser = false) (held : Bool) (raw : List (List Nat)) :
    m.putLine ser none held raw = { m with lines := m.lines ++ [m.newLine ser held raw] } := by
  unfold Camera.putLine
  simp [hl, hu, Camera.newLine]

theorem putLine_new_lineAt {m : Camera} {ser : Nat} (hl : m.lineAt ser = none) (hu : m.unsettled ser = false) (held : Bool) (raw : List (List Nat)) :
    (m.putLine ser none held raw).lineAt ser = some (m.newLine ser held raw) := by
  rw [putLine_new hl hu]
  unfold Camera.lineAt at hl ⊢
  simp [List.find?_append, hl, Camera.newLine]

/-- A line that waits for its frame is not corrected yet (R112). -/
theorem correct_held {s : State} {c ser : Nat} {l : CamLine} (p : Strip) (hl : (s.cam c).lineAt ser = some l) (hh : l.held = true) :
    s.correct c p ser = s := by
  unfold State.correct
  rw [hl]
  exact if_pos (by simp [hh])

/-- A packet whose line is good: the FIFO took it, its CRC is right, it has its full length, and no error that cannot be corrected meets it. -/
structure GoodPacket (p : CsiPacket) (need : Nat) : Prop where
  taken : p.overflow = false
  crc : p.crcOk = true
  length : need ≤ p.wc
  ecc : eccVoid p = false

/-- The samples of a packet as a line of camera c in a strip (R104-R106). -/
def State.unpacked (s : State) (c : Nat) (q : Strip) (p : CsiPacket) : List (List Nat) :=
  unpackLine ((s.deckOf q.epoch).camDt c) (s.deckOf q.epoch).planes ((s.deckOf q.epoch).linePx c) p.payload

/-- A good packet with LNUM = 0 is held as the line of its place (R110, R112). -/
theorem placeLine_held {s : State} {c k : Nat} {q : Strip} {p : CsiPacket} (hc : c < s.intake.cam.length)
    (hg : GoodPacket p ((s.deckOf q.epoch).lineBytes c)) (hn : (s.deckOf q.epoch).lnum c = false)
    (hu : (s.cam c).unsettled (q.startSer + k) = false) (hl : (s.cam c).lineAt (q.startSer + k) = none) :
    (s.placeLine c q k p).cam c = { s.cam c with lines := (s.cam c).lines ++ [(s.cam c).newLine (q.startSer + k) true (s.unpacked c q p)] } := by
  have hgood : ¬ (p.overflow || !p.crcOk || decide (p.wc < (s.deckOf q.epoch).lineBytes c) || eccVoid p) = true := by
    simpa [hg.taken, hg.crc, hg.ecc] using hg.length
  unfold State.placeLine
  dsimp only
  rw [if_neg hgood, hn]
  have hput := updCam_cam hc (fun m => m.putLine (q.startSer + k) none (!false) (s.unpacked c q p))
  have hat := putLine_new_lineAt hl hu (!false) (s.unpacked c q p)
  rw [← hput] at hat
  exact (congrArg (State.cam · c) (correct_held q hat rfl)).trans (hput.trans (putLine_new hl hu _ _))

/-- A good packet of an open frame with LNUM = 0 is held as the frame's next line (R110, R112). -/
theorem pixelPacket_next {s : State} {c : Nat} {q : Strip} {p : CsiPacket} (hc : c < s.intake.cam.length)
    (hg : GoodPacket p ((s.deckOf q.epoch).lineBytes c)) (hn : (s.deckOf q.epoch).lnum c = false) (hk : (s.cam c).killed = false)
    (hlt : (s.cam c).nextK < q.len) (hu : (s.cam c).unsettled (q.startSer + (s.cam c).nextK) = false)
    (hl : (s.cam c).lineAt (q.startSer + (s.cam c).nextK) = none) :
    (s.pixelPacket c q p).cam c = { s.cam c with
      nextK := (s.cam c).nextK + 1
      lines := (s.cam c).lines ++ [(s.cam c).newLine (q.startSer + (s.cam c).nextK) true (s.unpacked c q p)] } := by
  have hcam := updCam_cam hc (fun m => { m with nextK := (s.cam c).nextK + 1 })
  unfold State.pixelPacket
  dsimp only
  rw [if_neg (by simp [hk]), if_neg (by simp [hn]), if_neg (by omega)]
  refine (placeLine_held (s := s.updCam c (fun m => { m with nextK := (s.cam c).nextK + 1 })) (by rwa [updCam_cams_length]) hg hn
    (by rw [hcam]; exact hu) (by rw [hcam]; exact hl)).trans ?_
  rw [hcam]
  rfl

/-! SYNC (R123). -/

/-- The state with a SYNC counted. -/
abbrev State.syncCounted (s : State) (c : Nat) : State :=
  s.updCam c (fun m => { m.tally (fun t => { t with sync := satInc t.sync }) with lineNo := none })

theorem csiSyncError_sync {s : State} {port c : Nat} (h : s.decodes port = some c) (hc : c < s.intake.cam.length) :
    ((s.csiSyncError port).cam c).count.sync = satInc (s.cam c).count.sync := by
  have hlost : (s.syncCounted c).Faulted (if ((s.syncCounted c).portDeck c).lnum c then
      (s.syncCounted c).updCam c (fun m => m.voidLines 2 ((s.syncCounted c).inFlight c)) else (s.syncCounted c).killFrame c 2) :=
    .ite (.updCam fun m => voidLines_faulted ..) (killFrame_faulted ..)
  have hfault (line : Nat × Int) := (hlost.trans (portOccur_faulted _ c 1 line)).cam c
  unfold State.csiSyncError
  rw [h]
  refine (congrArg PortCount.sync (hfault _).packets).trans ?_
  rw [updCam_cam hc]
  rfl

end Sys2Proof.Machine
end

section
/-! SUPPORT. Proofs: settings changes on the sensor bus, and boundaries that a break sets (R107, R118-R122, R162). -/

namespace Sys2Proof.Machine

/-! The change whose transfer is on the bus. -/

/-- Replacing the change on the bus by an image that looks the same leaves the list looking the same. -/
theorem mapBus_map {α : Type} {g : Change → α} {f : Change → Change} (h : ∀ x, g (f x) = g x) (l : List Change) : (mapBus f l).map g = l.map g := by
  induction l with
  | nil => rfl
  | cons x l ih =>
    unfold mapBus
    split
    · simp [h]
    · simp [ih]

/-- Where each image is still busy, replacing the change on the bus twice is replacing it once. -/
theorem mapBus_mapBus {f g : Change → Change} (hf : ∀ x, (f x).busy = x.busy) (l : List Change) :
    mapBus g (mapBus f l) = mapBus (fun x => g (f x)) l := by
  induction l with
  | nil => rfl
  | cons x l ih =>
    by_cases hx : x.busy = true
    · simp [mapBus, hx, hf]
    · simp [mapBus, hx, ih]

/-- Only the image of the change on the bus matters. -/
theorem mapBus_congr {f g : Change → Change} {l : List Change} {ch : Change} (hb : l.find? (·.busy) = some ch) (h : f ch = g ch) :
    mapBus f l = mapBus g l := by
  induction l with
  | nil => rfl
  | cons x l ih =>
    unfold mapBus
    by_cases hx : x.busy = true
    · rw [List.find?_cons_of_pos hx] at hb
      cases hb
      rw [if_pos hx, if_pos hx, h]
    · rw [List.find?_cons_of_neg hx] at hb
      rw [if_neg hx, if_neg hx, ih hb]

theorem find_mapBus {f : Change → Change} (hf : ∀ x, (f x).busy = x.busy) (l : List Change) : (mapBus f l).find? (·.busy) = (l.find? (·.busy)).map f := by
  induction l with
  | nil => rfl
  | cons x l ih =>
    by_cases hx : x.busy = true
    · simp [mapBus, hx, hf]
    · simp [mapBus, hx, ih]

/-- The list of changes with the one on the bus replaced. -/
abbrev State.updBus (s : State) (c : Nat) (f : Change → Change) : State := s.updCam c (fun m => { m with changes := mapBus f m.changes })

theorem updBus_cam {s : State} {c : Nat} (hc : c < s.intake.cam.length) (f : Change → Change) :
    (s.updBus c f).cam c = { s.cam c with changes := mapBus f (s.cam c).changes } := updCam_cam hc _

theorem updBus_busChange {s : State} {c : Nat} (hc : c < s.intake.cam.length) {f : Change → Change} (hf : ∀ x, (f x).busy = x.busy) {ch : Change}
    (hb : (s.cam c).busChange = some ch) : ((s.updBus c f).cam c).busChange = some (f ch) := by
  rw [updBus_cam hc, Camera.busChange, find_mapBus hf]
  exact congrArg (Option.map f) hb

/-- A PREPARE that goes out is noted in the change, and nothing else of the camera moves (R119). -/
theorem pump_cam (s : State) (c k : Nat) : ∃ l, (s.pump c).cam k = { s.cam k with changes := l } ∧
    ∀ {α : Type} {g : Change → α}, (∀ x, g { x with sent := true } = g x) → l.map g = (s.cam k).changes.map g := by
  unfold State.pump
  split
  · split
    · exact ⟨_, rfl, fun _ => rfl⟩
    · rw [em_cam]
      rcases updCam_cam_cases s c (fun m => { m with changes := mapBus (fun x => { x with sent := true }) m.changes }) k with h | h <;> rw [h]
      · exact ⟨_, rfl, fun _ => rfl⟩
      · exact ⟨_, rfl, fun hg => mapBus_map hg _⟩
  · exact ⟨_, rfl, fun _ => rfl⟩

/-! A PREPARE that succeeds (R119, R121). -/

theorem mapBus_id (l : List Change) : mapBus id l = l := by
  simpa using mapBus_map (g := id) (f := id) (fun _ => rfl) l

/-- The COMMIT of a prepared change starts, unless it has started already. -/
theorem startCommit_prepared {s : State} {c : Nat} {ch : Change} (hc : c < s.intake.cam.length) (hb : (s.cam c).busChange = some ch)
    (hp : ch.prepared = true) : ((s.startCommit c).cam c).changes = mapBus (fun x => { x with commitStarted := true }) (s.cam c).changes := by
  unfold State.startCommit
  rw [hb]
  dsimp only
  cases hs : ch.commitStarted with
  | true =>
    have hsame : mapBus (fun x => { x with commitStarted := true }) (s.cam c).changes = mapBus id (s.cam c).changes :=
      mapBus_congr hb (by cases ch; cases hs; rfl)
    rw [hsame, mapBus_id, if_neg (by simp)]
  | false => rw [if_pos (by simp [hp]), em_cam, updCam_cam hc]

/-- With LATCH = 0 the COMMIT starts once its boundary has passed or the FS before it has come. -/
theorem commitAtFrame_prepared {s : State} {c : Nat} {ch : Change} (hc : c < s.intake.cam.length) (hb : (s.cam c).busChange = some ch)
    (hp : ch.prepared = true) : ((s.commitAtFrame c).cam c).changes =
      mapBus (fun x => { x with commitStarted := x.commitStarted || (!ch.latch && (ch.applied || s.fsSeen c ch.target)) }) (s.cam c).changes := by
  unfold State.commitAtFrame
  rw [hb]
  dsimp only
  split
  next hnow =>
    rw [startCommit_prepared hc hb hp]
    simp [hnow]
  next hnow =>
    rw [Bool.not_eq_true] at hnow
    simp only [hnow, Bool.or_false]
    exact (mapBus_id _).symm

theorem fsSeen_updBus {s : State} {c : Nat} (hc : c < s.intake.cam.length) (f : Change → Change) (target : Nat) :
    (s.updBus c f).fsSeen c target = s.fsSeen c target := by
  unfold State.fsSeen
  rw [updBus_cam hc]
  rfl

/-- A change with its PREPARE done. -/
def Change.nowPrepared (x : Change) : Change := { x with prepared := true }

theorem nowPrepared_busy (x : Change) : x.nowPrepared.busy = x.busy := rfl

/-- The state with the PREPARE of a change done: a COMMIT already due, or one of an activation outside a swap, starts at once. -/
def State.prepareDone (s : State) (c : Nat) (ch : Change) : State :=
  if (ch.latch && decide (s.intake.ser + ch.nreg + 1 > ch.target)) || (ch.source == .activation && s.deck.swap.isNone) then
    (s.updBus c Change.nowPrepared).startCommit c
  else (s.updBus c Change.nowPrepared).commitAtFrame c

section
variable {s : State} {r : SensorResult} {ch : Change} (hc : r.camera < s.intake.cam.length) (hb : (s.cam r.camera).busChange = some ch)
  (hsent : ch.sent = true)
include hc hb hsent

theorem sensorTransferDone_prepared (hok : r.ok = true) (hr : r.commit = false) :
    ∃ t : State, exec (.sensorTransferDone r) s = .next t ∧ (t.cam r.camera).changes =
      mapBus (fun x => { x with prepared := true, commitStarted := x.commitStarted || (ch.latch && decide (s.intake.ser + ch.nreg + 1 > ch.target)) ||
        (ch.source == .activation && s.deck.swap.isNone) || (!ch.latch && (ch.applied || s.fsSeen r.camera ch.target)) }) (s.cam r.camera).changes := by
  have hprep := updBus_busChange hc nowPrepared_busy hb
  have hlen : r.camera < (s.updBus r.camera Change.nowPrepared).intake.cam.length := by rwa [updCam_cams_length]
  refine ⟨s.prepareDone r.camera ch, ?_, ?_⟩
  · show execSensorTransferDone r s = _
    unfold execSensorTransferDone
    dsimp only
    rw [hb]
    dsimp only
    rw [if_neg (by simp [hsent, hr]), if_neg (by simp [hok]), if_pos (by simp [hr])]
    rfl
  · unfold State.prepareDone
    split
    next hnow =>
      rw [startCommit_prepared hlen hprep rfl, updBus_cam hc, mapBus_mapBus nowPrepared_busy]
      refine mapBus_congr hb ?_
      simp only [Bool.or_eq_true] at hnow
      rcases hnow with hnow | hnow <;> simp only [Change.nowPrepared, hnow, Bool.or_true, Bool.true_or]
    next hnow =>
      rw [commitAtFrame_prepared hlen hprep rfl, updBus_cam hc, mapBus_mapBus nowPrepared_busy, fsSeen_updBus hc]
      refine mapBus_congr hb ?_
      simp only [Bool.or_eq_true, not_or, Bool.not_eq_true] at hnow
      simp only [Change.nowPrepared, hnow, Bool.or_false]

/-! A COMMIT that succeeds in time (R119, R120). -/

theorem sensorTransferDone_confirmed (hok : r.ok = true) (hr : r.commit = true) (hstart : ch.commitStarted = true) (hlatch : ch.latch = false)
    (happ : ch.applied = false) :
    ∃ t : State, exec (.sensorTransferDone r) s = .next t ∧ (t.cam r.camera).unsure = closeUnsure s.intake.ser (s.cam r.camera).unsure ∧
      (t.cam r.camera).changes.map (fun x => { x with sent := false }) =
        ((mapBus (fun x => { x with confirmed := true }) (s.cam r.camera).changes).filter (fun x => !x.applied || x.busy)).map
          (fun x => { x with sent := false }) := by
  refine ⟨s.commitDone r.camera ch ch.target, ?_, ?_⟩
  · show execSensorTransferDone r s = _
    unfold execSensorTransferDone
    dsimp only
    rw [hb]
    dsimp only
    rw [if_neg (by simp [hsent, hstart]), if_neg (by simp [hok]), if_neg (by simp [hr]), hlatch, happ]
    rfl
  · unfold State.commitDone
    dsimp only
    rw [hlatch, Bool.and_false, if_neg (by simp)]
    obtain ⟨l, hl, hmap⟩ := pump_cam (s.updCam r.camera (fun m => { m with
      changes := (mapBus (fun x => { x with confirmed := true }) m.changes).filter (fun x => !x.applied || x.busy)
      unsure := if ch.applied then closeUnsure ch.target m.unsure
                else closeUnsure s.intake.ser m.unsure ++ (if decide (ch.target > ch.target) then [(ch.target, some ch.target)] else []) })) r.camera r.camera
    rw [updCam_cam hc] at hl hmap
    rw [hl]
    refine ⟨?_, hmap (g := fun x => { x with sent := false }) fun _ => rfl⟩
    simp [happ]

end

/-! A transfer that fails (R122). -/

/-- What a failed transfer moves of a change. -/
def Change.placed (x : Change) : ExpEdit × Nat × ChangeFrom × Bool × Bool × Bool := (x.edit, x.target, x.source, x.prepared, x.commitStarted, x.applied)

/-- A loop result that is discarded gives up codes, and stays where it is (R162). -/
theorem dropLoopCodes_cam (s : State) (target tdac k : Nat) :
    ∃ l, (s.dropLoopCodes target tdac).cam k = { s.cam k with changes := l } ∧ l.map Change.placed = (s.cam k).changes.map Change.placed := by
  refine ⟨_, getN_map _ s.intake.cam k {}, ?_⟩
  rw [List.map_map]
  refine List.map_congr_left fun x _ => ?_
  dsimp only [Function.comp]
  split <;> rfl

theorem dropLoopCodes_foldl_cam (tdac k : Nat) (bs : List Nat) (s : State) :
    ∃ l, (bs.foldl (fun s b => s.dropLoopCodes b tdac) s).cam k = { s.cam k with changes := l } ∧
      l.map Change.placed = (s.cam k).changes.map Change.placed := by
  refine List.foldlRecOn (motive := fun t => ∃ l, State.cam t k = { s.cam k with changes := l } ∧
    l.map Change.placed = (s.cam k).changes.map Change.placed) bs _ ⟨_, rfl, rfl⟩ fun t ⟨l, hcam, hl⟩ b _ => ?_
  obtain ⟨l', hcam', hl'⟩ := dropLoopCodes_cam t b tdac k
  exact ⟨l', by rw [hcam', hcam], hl'.trans (by rw [hcam, hl])⟩

theorem settleMeets_cam {s : State} {c : Nat} (hc : c < s.intake.cam.length) :
    ∃ l, (s.settleMeets c).cam c = { s.cam c with changes := l } ∧ l.map Change.placed = (mergeChanges (s.cam c).changes).map Change.placed := by
  have hmerge := updCam_cam hc (fun m => { m with changes := mergeChanges m.changes })
  unfold State.settleMeets
  dsimp only
  split
  · obtain ⟨l, hcam, hl⟩ := dropLoopCodes_foldl_cam _ c (loopMeets (s.cam c).changes) (s.updCam c (fun m => { m with changes := mergeChanges m.changes }))
    rw [hmerge] at hcam hl
    exact ⟨l, hcam, hl⟩
  · exact ⟨_, hmerge, rfl⟩

/-- The whole change is to be sent again, at a later boundary (R122). -/
def State.again (s : State) (ch : Change) : Change :=
  { ch with target := s.boundaryFrom (max (ch.target + 1) (s.intake.ser + ch.nreg + 1)), sent := false, prepared := false, commitStarted := false, applied := false }

theorem retryChange_cam {s : State} {c : Nat} {ch : Change} (hc : c < s.intake.cam.length) (hb : (s.cam c).busChange = some ch) :
    ((s.retryChange c).cam c).unsure = openUnsure ch.target (s.cam c).unsure ∧ ((s.retryChange c).cam c).changes.map Change.placed =
      (mergeChanges (insertOlder (s.again ch) (removeFirst (·.busy) (s.cam c).changes))).map Change.placed := by
  have hmoved := updCam_cam hc (fun m => { m with
    changes := insertOlder (s.again ch) (removeFirst (·.busy) m.changes), unsure := openUnsure ch.target m.unsure })
  obtain ⟨l, hcam, hl⟩ := settleMeets_cam (s := s.updCam c (fun m => { m with
    changes := insertOlder (s.again ch) (removeFirst (·.busy) m.changes), unsure := openUnsure ch.target m.unsure })) (c := c) (by rwa [updCam_cams_length])
  rw [hmoved] at hcam hl
  unfold State.retryChange
  rw [hb]
  obtain ⟨l', hcam', hl'⟩ := pump_cam ((s.updCam c (fun m => { m with
    changes := insertOlder (s.again ch) (removeFirst (·.busy) m.changes), unsure := openUnsure ch.target m.unsure })).settleMeets c) c c
  rw [hcam] at hcam' hl'
  exact ⟨congrArg Camera.unsure hcam', (congrArg (fun m : Camera => m.changes.map Change.placed) hcam').trans ((hl' fun _ => rfl).trans hl)⟩

theorem sensorTransferDone_failed {s : State} {r : SensorResult} {ch : Change} (hc : r.camera < s.intake.cam.length)
    (hb : (s.cam r.camera).busChange = some ch) (hsent : ch.sent = true) (hok : r.ok = false) (hr : r.commit = true → ch.commitStarted = true) :
    ∃ t : State, exec (.sensorTransferDone r) s = .next t ∧ (t.cam r.camera).unsure = openUnsure ch.target (s.cam r.camera).unsure ∧
      (t.cam r.camera).changes.map Change.placed =
        (mergeChanges (insertOlder (s.again ch) (removeFirst (·.busy) (s.cam r.camera).changes))).map Change.placed := by
  have hgo : ¬ (!ch.sent || (r.commit && !ch.commitStarted)) = true := by
    cases hcommit : r.commit with
    | true => simp [hsent, hr hcommit]
    | false => simp [hsent]
  have hfault := (portOccur_faulted (s.retryChange r.camera) r.camera 8 s.portLine).cam r.camera
  obtain ⟨hunsure, hchanges⟩ := retryChange_cam hc hb
  refine ⟨(s.retryChange r.camera).portOccur r.camera 8 s.portLine, ?_, hfault.unsure.trans hunsure, by rw [hfault.changes, hchanges]⟩
  show execSensorTransferDone r s = _
  unfold execSensorTransferDone
  dsimp only
  rw [hb]
  dsimp only
  rw [if_neg hgo, if_pos (by simp [hok])]

theorem sensorTransferDone_idle {s : State} {r : SensorResult} (hb : (s.cam r.camera).busChange = none) : exec (.sensorTransferDone r) s = .next s := by
  show execSensorTransferDone r s = _
  unfold execSensorTransferDone
  dsimp only
  rw [hb]

/-! A break (R107). -/

/-- A fact that each turn keeps holds after them all. -/
theorem forEach_keeps {P : State → Prop} {f : Nat → State → State} (hf : ∀ k s, P s → P (f k s)) (l : List Nat) {s : State} (h : P s) : P (forEach f l s) := by
  induction l generalizing s with
  | nil => exact h
  | cons k l ih => exact ih (hf k s h)

/-- Whichever boundary it sets, a break is taken. -/
theorem strikeBreak_breakLine (s : State) : s.strikeBreak.intake.breakLine = none := by
  have hite {p : Prop} [Decidable p] {a b : State} (ha : a.intake.breakLine = none) (hb : b.intake.breakLine = none) :
      (if p then a else b).intake.breakLine = none := by
    split
    · exact ha
    · exact hb
  unfold State.strikeBreak
  split
  · exact hite rfl (hite rfl rfl)
  · rfl

/-- Changes that follow the boundaries leave the break as it is. -/
theorem retarget_breakLine (s : State) (c : Nat) : (s.retarget c).intake.breakLine = s.intake.breakLine := by
  unfold State.retarget State.moveChanges State.settleMeets
  dsimp only
  split
  · exact List.foldlRecOn (motive := fun t : State => t.intake.breakLine = s.intake.breakLine) _ _ rfl fun _ h _ _ => h
  · rfl

theorem stripBreak_taken (s : State) : ∃ t : State, exec .stripBreak s = .next t ∧ t.intake.breakLine = none ∧ t.pos = s.pos := by
  have h : exec .stripBreak s = .next (forEach (fun c s => s.retarget c) (upto 24) s.strikeBreak) := rfl
  refine ⟨_, h, ?_, pos_of ((exec_keeps _ s _ h).same .pos (by simp [mayChange]))⟩
  exact forEach_keeps (P := fun t => t.intake.breakLine = none) (fun c t ht => (retarget_breakLine t c).trans ht) _ (strikeBreak_breakLine s)

end Sys2Proof.Machine
end

section
/-! SUPPORT. Proofs: camera ports take packets, deadlines, breaks and transfers (R103-R123). -/

namespace Sys2Proof.Machine

/-- A packet reaches the decoder of a port: a short one only where the FIFO took it (R26). -/
def reaches (port : Nat) (p : CsiPacket) (i : Instr) : Prop :=
  (p.overflow = false ∧ (i = .csiFrameStart port p ∨ i = .csiFrameEnd port p ∨ i = .csiLineStart port p)) ∨ i = .csiLongPacket port p ∨
    i = .csiOtherPacket port p

/-- The next state of a packet is one in which at most the end of a strip has followed. -/
def nextOf (i : Instr) (s u : State) : Prop := exec i s = .next u ∨ exec i s = .next u.endStrip

/-- What the end of a strip leaves of a camera holds of the packet's next state too. -/
theorem nextOf.leaves {i : Instr} {s u : State} (h : nextOf i s u) (c : Nat) :
    ∃ t : State, exec i s = .next t ∧ (t.cam c).count = (u.cam c).count ∧ (t.cam c).lines = (u.cam c).lines := by
  rcases h with h | h
  · exact ⟨u, h, rfl, rfl⟩
  · exact ⟨u.endStrip, h, endStrip_count u c, endStrip_lines u c⟩

section
variable {s : State} {port c : Nat} {p : CsiPacket} {i : Instr} (h : s.decodes port = some c) (hi : reaches port p i)
include h hi

theorem nextOf_headerLost (he : 2 ≤ p.ecc) : nextOf i s (s.headerLost c) := by
  rcases hi with ⟨ho, rfl | rfl | rfl⟩ | rfl | rfl
  · exact .inr (congrArg (fun u : State => Host.Outcome.next u.endStrip) (csiFrameStart_dropped h (packetHeader_lost s c he fun _ => ho)))
  · exact .inr (congrArg (fun u : State => Host.Outcome.next u.endStrip) (csiFrameEnd_dropped h (packetHeader_lost s c he fun _ => ho)))
  · exact .inl (congrArg Host.Outcome.next (csiLineStart_dropped h (packetHeader_lost s c he fun _ => ho)))
  · exact .inr (congrArg (fun u : State => Host.Outcome.next u.endStrip) (csiLongPacket_dropped h (packetHeader_lost s c he nofun)))
  · exact .inl (congrArg Host.Outcome.next (csiOtherPacket_dropped h (packetHeader_lost s c he nofun)))

theorem nextOf_otherPacket (he : p.ecc = 0) (hvc : p.vc ≠ (s.portDeck c).camVc c) : nextOf i s (s.otherPacket c) := by
  rcases hi with ⟨ho, rfl | rfl | rfl⟩ | rfl | rfl
  · exact .inr (congrArg (fun u : State => Host.Outcome.next u.endStrip)
      ((csiFrameStart_eq h (packetHeader_good s c he fun _ => ho)).trans (if_pos hvc)))
  · exact .inr (congrArg (fun u : State => Host.Outcome.next u.endStrip) (csiFrameEnd_otherVc h (packetHeader_good s c he fun _ => ho) hvc))
  · exact .inl (congrArg Host.Outcome.next ((csiLineStart_eq h (packetHeader_good s c he fun _ => ho)).trans (if_pos hvc)))
  · exact .inr (congrArg (fun u : State => Host.Outcome.next u.endStrip) (csiLongPacket_otherVc h (packetHeader_good s c he nofun) hvc))
  · exact .inl (congrArg Host.Outcome.next ((csiOtherPacket_eq h (packetHeader_good s c he nofun)).trans (if_neg (by simp [hvc]))))

end

theorem headerLost_ecc2 {s : State} {c : Nat} (hc : c < s.intake.cam.length) : ((s.headerLost c).cam c).count.ecc2 = satInc (s.cam c).count.ecc2 := by
  have hfault (s : State) (line : Nat × Int) := ((killFrame_faulted s c 1).trans (portOccur_faulted _ c 2 line)).cam c
  refine (congrArg PortCount.ecc2 (hfault _ _).packets).trans ?_
  rw [updCam_cam hc]
  rfl

theorem otherPacket_cam {s : State} {c : Nat} (hc : c < s.intake.cam.length) :
    (s.otherPacket c).cam c = (s.cam c).tally (fun t => { t with other := satInc t.other }) := updCam_cam hc _

/-- No packet reaches the decoder of a port that decodes none (R114). -/
theorem idle_port {s : State} {port : Nat} (h : s.decodes port = none) (p : CsiPacket) :
    exec (.csiFrameStart port p) s = .next s.endStrip ∧ exec (.csiFrameEnd port p) s = .next s.endStrip ∧ exec (.csiLineStart port p) s = .next s ∧
      exec (.csiLongPacket port p) s = .next s.endStrip ∧ exec (.csiOtherPacket port p) s = .next s ∧ exec (.csiSyncError port) s = .next s.endStrip :=
  ⟨congrArg (fun u : State => Host.Outcome.next u.endStrip) (csiFrameStart_idle h p),
    congrArg (fun u : State => Host.Outcome.next u.endStrip) (csiFrameEnd_idle h p), congrArg Host.Outcome.next (csiLineStart_idle h p),
    congrArg (fun u : State => Host.Outcome.next u.endStrip) (csiLongPacket_idle h p), congrArg Host.Outcome.next (csiOtherPacket_idle h p),
    congrArg (fun u : State => Host.Outcome.next u.endStrip) (csiSyncError_idle h)⟩

/-- A short packet that the FIFO lost does nothing (R26). -/
theorem short_packet_lost {s : State} (port : Nat) {p : CsiPacket} (ho : p.overflow = true) :
    exec (.csiFrameStart port p) s = .next s.endStrip ∧ exec (.csiFrameEnd port p) s = .next s.endStrip ∧ exec (.csiLineStart port p) s = .next s := by
  cases h : s.decodes port with
  | none =>
    obtain ⟨hfs, hfe, hls, -⟩ := idle_port h p
    exact ⟨hfs, hfe, hls⟩
  | some c =>
    have hh := packetHeader_overflow s c ho
    exact ⟨congrArg (fun u : State => Host.Outcome.next u.endStrip) (csiFrameStart_dropped h hh),
      congrArg (fun u : State => Host.Outcome.next u.endStrip) (csiFrameEnd_dropped h hh), congrArg Host.Outcome.next (csiLineStart_dropped h hh)⟩

/-! The packets of the camera's own VC, one by one (R103-R111). -/

section
variable {s : State} {port c : Nat} {p : CsiPacket} (h : s.decodes port = some c) (hc : c < s.intake.cam.length) (he : p.ecc = 0)
  (ho : p.overflow = false) (hvc : p.vc = (s.portDeck c).camVc c)
include h hc he ho hvc

theorem frameStart_packet_opens {id : Nat} (hopen : (s.cam c).openStrip = none)
    (hf : ((s.cam c).frames.find? (fun f => f.2 == FrameSt.waiting)).map (·.1) = some id) :
    ∃ t : State, exec (.csiFrameStart port p) s = .next t ∧ (t.cam c).openStrip = some id ∧ (t.cam c).dropping = false ∧ (t.cam c).nextK = 0 := by
  refine ⟨_, congrArg (fun u : State => Host.Outcome.next u.endStrip)
    ((csiFrameStart_eq h (packetHeader_good s c he fun _ => ho)).trans (if_neg (not_not.mpr hvc))), ?_⟩
  obtain ⟨l, hl⟩ := commitAtFrame_cam (s.frameStart c) c c
  rw [endStrip_openStrip, endStrip_dropping, endStrip_nextK, hl]
  exact frameStart_opens hc hopen hf

theorem frameStart_packet_spurious (hopen : (s.cam c).openStrip = none) (hf : (s.cam c).frames.find? (fun f => f.2 == FrameSt.waiting) = none) :
    ∃ t : State, exec (.csiFrameStart port p) s = .next t ∧ (t.cam c).dropping = true ∧ (t.cam c).count.spurious = satInc (s.cam c).count.spurious := by
  refine ⟨_, congrArg (fun u : State => Host.Outcome.next u.endStrip)
    ((csiFrameStart_eq h (packetHeader_good s c he fun _ => ho)).trans (if_neg (not_not.mpr hvc))), ?_⟩
  obtain ⟨l, hl⟩ := commitAtFrame_cam (s.frameStart c) c c
  rw [endStrip_dropping, endStrip_count, hl]
  exact frameStart_spurious hc hopen hf

theorem frameEnd_packet_dropped (hd : (s.cam c).dropping = true) :
    ∃ t : State, exec (.csiFrameEnd port p) s = .next t ∧ (t.cam c).dropping = false ∧ (t.cam c).lines = (s.cam c).lines := by
  refine ⟨_, congrArg (fun u : State => Host.Outcome.next u.endStrip) (csiFrameEnd_dropping h (packetHeader_good s c he fun _ => ho) hvc hd), ?_⟩
  rw [endStrip_dropping, endStrip_lines, updCam_cam hc]
  exact ⟨rfl, rfl⟩

theorem frameEnd_packet_closes {id : Nat} {q : Strip} (hd : (s.cam c).dropping = false) (hopen : (s.cam c).openStrip = some id)
    (hq : s.strip id = some q) (hid : q.id = id) : ∃ t : State, exec (.csiFrameEnd port p) s = .next t ∧ (t.cam c).openStrip = none := by
  have hbind : (s.cam c).openStrip.bind s.strip = some q := by rw [hopen]; exact hq
  refine ⟨_, congrArg (fun u : State => Host.Outcome.next u.endStrip) (csiFrameEnd_open h (packetHeader_good s c he fun _ => ho) hvc hd hbind), ?_⟩
  rw [endStrip_openStrip]
  exact closeFrame_closed hc (hopen.trans (congrArg some hid.symm))

theorem lineStart_packet_numbers : ∃ t : State, exec (.csiLineStart port p) s = .next t ∧ (t.cam c).lineNo = some p.number := by
  refine ⟨_, congrArg Host.Outcome.next
    ((csiLineStart_eq h (packetHeader_good s c he fun _ => ho)).trans (if_neg (not_not.mpr hvc))), ?_⟩
  rw [updCam_cam hc]

omit hc in
theorem long_packet_dropped (hd : (s.cam c).dropping = true) : exec (.csiLongPacket port p) s = .next s.endStrip :=
  congrArg (fun u : State => Host.Outcome.next u.endStrip) (csiLongPacket_dropping h (packetHeader_good s c he fun _ => ho) hvc hd)

theorem long_packet_outside (hdt : p.dt = (s.portDeck c).camDt c) (hd : (s.cam c).dropping = false) (hopen : (s.cam c).openStrip = none) :
    ∃ t : State, exec (.csiLongPacket port p) s = .next t ∧ (t.cam c).count.nofs = satInc (s.cam c).count.nofs := by
  refine ⟨_, congrArg (fun u : State => Host.Outcome.next u.endStrip)
    (csiLongPacket_outside h (packetHeader_good s c he fun _ => ho) hvc hd hdt ho hopen), ?_⟩
  rw [endStrip_count]
  have hfault (t : State) (line line' : Nat × Int) :=
    ((portOccur_faulted t c 5 line).trans (payloadOccur_faulted _ c ((s.portDeck c).lineBytes c) p line')).cam c
  refine (congrArg PortCount.nofs (hfault _ _ _).packets).trans ?_
  rw [updCam_cam (by rwa [updCam_cams_length]), updCam_cam hc]
  rfl

theorem long_packet_held {id : Nat} {q : Strip} (hdt : p.dt = (s.portDeck c).camDt c) (hd : (s.cam c).dropping = false)
    (hopen : (s.cam c).openStrip = some id) (hq : s.strip id = some q) (hn : (s.deckOf q.epoch).lnum c = false) (hk : (s.cam c).killed = false)
    (hlt : (s.cam c).nextK < q.len) (hg : GoodPacket p ((s.deckOf q.epoch).lineBytes c))
    (hu : (s.cam c).unsettled (q.startSer + (s.cam c).nextK) = false) (hl : (s.cam c).lineAt (q.startSer + (s.cam c).nextK) = none) :
    ∃ (t : State) (l : CamLine), exec (.csiLongPacket port p) s = .next t ∧ (t.cam c).nextK = (s.cam c).nextK + 1 ∧ l ∈ (t.cam c).lines ∧
      l.ser = q.startSer + (s.cam c).nextK ∧ l.void = none ∧ l.held = true ∧
      l.raw = unpackLine ((s.deckOf q.epoch).camDt c) (s.deckOf q.epoch).planes ((s.deckOf q.epoch).linePx c) p.payload := by
  have hbind : (s.cam c).openStrip.bind s.strip = some q := by rw [hopen]; exact hq
  have hdeck : s.portDeck c = s.deckOf q.epoch := by
    unfold State.portDeck
    rw [hbind]
    rfl
  have htally := updCam_cam hc (fun m => m.tally (payloadTally p ((s.portDeck c).lineBytes c)))
  have hpixel := pixelPacket_next (s := s.payloadTallied c p) (q := q) (p := p) (c := c) (by rwa [updCam_cams_length]) hg hn (by rw [htally]; exact hk)
    (by rw [htally]; exact hlt) (by rw [htally]; exact hu) (by rw [htally]; exact hl)
  have hlines : (((s.payloadTallied c p).pixelPacket c q p).endStrip.cam c).lines = (s.cam c).lines ++
      [(s.cam c).newLine (q.startSer + (s.cam c).nextK) true ((s.payloadTallied c p).unpacked c q p)] := by
    rw [endStrip_lines, hpixel, htally]
    rfl
  refine ⟨_, (s.cam c).newLine (q.startSer + (s.cam c).nextK) true ((s.payloadTallied c p).unpacked c q p),
    congrArg (fun u : State => Host.Outcome.next u.endStrip)
      ((csiLongPacket_inside h (packetHeader_good s c he fun _ => ho) hvc hd hdt ho hbind).trans
        (payloadOccur_none _ c _ hg.crc (by rw [hdeck]; exact hg.length) hg.ecc)), ?_, ?_, rfl, rfl, rfl, rfl⟩
  · rw [endStrip_nextK, hpixel, htally]
    rfl
  · exact hlines ▸ List.mem_append_right _ List.mem_cons_self

omit hc ho in
theorem lineEnd_packet_ignored (hdt : p.dt = 0x03) : exec (.csiOtherPacket port p) s = .next s :=
  congrArg Host.Outcome.next ((csiOtherPacket_eq h (packetHeader_good s c he nofun)).trans (if_pos (by simp [hvc, hdt])))

omit ho hvc in
theorem other_packet_counted (hdt : p.dt ≠ 0x03) (hd : (s.cam c).dropping = false) :
    ∃ t : State, exec (.csiOtherPacket port p) s = .next t ∧ (t.cam c).count.other = satInc (s.cam c).count.other := by
  refine ⟨_, congrArg Host.Outcome.next ((csiOtherPacket_eq h (packetHeader_good s c he nofun)).trans (if_neg (by simp [hdt, hd]))), ?_⟩
  rw [otherPacket_cam hc]
  rfl

end

/-! Deadlines and interrupts (R111, R118). -/

theorem exitDeadline_idle {s : State} (h : s.intake.exitPending = false) : exec .exitDeadline s = .next s.endStrip :=
  congrArg (fun u : State => Host.Outcome.next u.endStrip) (if_pos (by simp [h]))

theorem exitCloses_exitPending (s : State) : s.exitCloses.intake.exitPending = false := by
  unfold State.exitCloses
  split
  next h => simpa using h
  · rfl

theorem sensorIbi_counts {s : State} {camera : Nat} (hc : camera < s.intake.cam.length) :
    ∃ t : State, exec (.sensorIbi camera) s = .next t ∧ (t.cam camera).count.ibi = satInc (s.cam camera).count.ibi :=
  ⟨_, rfl, by rw [updCam_cam hc]; rfl⟩

/-- Settles O40: packets by their header, their VC and their kind, then SYNC, deadline, break, interrupt and transfers, each by its lemma above. -/
theorem cameraPortsTakeTheirPackets : Obligations.CameraPortsTakeTheirPackets := by
  refine ⟨fun port p s h => idle_port h p, fun port p s ho => short_packet_lost port ho, fun port c p i s h hc he hi => ?_,
    fun port c p i s h hc he hvc hi => ?_, fun port c p s h hc he ho hvc => ⟨fun id => frameStart_packet_opens h hc he ho hvc,
      frameStart_packet_spurious h hc he ho hvc, frameEnd_packet_dropped h hc he ho hvc, fun id q => frameEnd_packet_closes h hc he ho hvc,
      lineStart_packet_numbers h hc he ho hvc, long_packet_dropped h he ho hvc, long_packet_outside h hc he ho hvc,
      fun id q hdt hd hopen hq hn hk hlt hcrc hlen hecc hu hl =>
        long_packet_held h hc he ho hvc hdt hd hopen hq hn hk hlt ⟨ho, hcrc, hlen, hecc⟩ hu hl,
      lineEnd_packet_ignored h he hvc, other_packet_counted h hc he⟩,
    fun port c s h hc => ⟨_, rfl, by rw [endStrip_count]; exact csiSyncError_sync h hc⟩,
    fun s => ⟨exitDeadline_idle, _, rfl, (endStrip_exitPending _).trans (exitCloses_exitPending s)⟩, stripBreak_taken,
    fun camera s hc => sensorIbi_counts hc, fun r s hb => sensorTransferDone_idle hb,
    fun r ch s hc hb hsent => ⟨sensorTransferDone_prepared hc hb hsent, sensorTransferDone_confirmed hc hb hsent,
      sensorTransferDone_failed hc hb hsent⟩⟩
  · obtain ⟨t, ht, hcount, -⟩ := (nextOf_headerLost h hi he).leaves c
    exact ⟨t, ht, by rw [hcount, headerLost_ecc2 hc]⟩
  · obtain ⟨t, ht, hcount, hlines⟩ := (nextOf_otherPacket h hi he hvc).leaves c
    exact ⟨t, ht, by rw [hcount, otherPacket_cam hc]; rfl, by rw [hlines, otherPacket_cam hc]; rfl⟩

end Sys2Proof.Machine
end

section
/-! SUPPORT. Proofs: the load-time checks of a container never end in status OK (R52, R127, R614). -/

namespace Sys2Proof.Machine

/-- A check that fails names a status other than OK. -/
structure Check.Coded (c : Check) : Prop where
  status : ∀ e, c = some e → e.1 ≠ 0

theorem Check.Coded.none : Check.Coded none := ⟨by simp⟩

theorem Check.Coded.some {e : Nat × Nat} (h : e.1 ≠ 0) : Check.Coded (some e) := ⟨fun _ he => Option.some.inj he ▸ h⟩

theorem Check.Coded.ite {p : Prop} [Decidable p] {a b : Check} (ha : a.Coded) (hb : b.Coded) : Check.Coded (if p then a else b) := by
  split
  · exact ha
  · exact hb

theorem Check.Coded.fst_ite {α : Type} {p : Prop} [Decidable p] {a b : Check × α} (ha : a.1.Coded) (hb : b.1.Coded) : (if p then a else b).1.Coded := by
  split
  · exact ha
  · exact hb

/-- A structural failure is DECK_FORMAT (R52). -/
theorem deckFormat_coded (detail : Nat) : Check.Coded (some (7, detail)) := .some (Nat.succ_ne_zero 6)

/-- A container or a section of another version is VERSION (R52). -/
theorem version_coded (detail : Nat) : Check.Coded (some (3, detail)) := .some (Nat.succ_ne_zero 2)

theorem sectionTest_coded (isProfile : Bool) (prev : Option (Nat × Nat)) (x : Section) : (sectionTest isProfile prev x).Coded := by
  unfold sectionTest
  refine .ite (deckFormat_coded _) ?_
  split
  · exact deckFormat_coded _
  · exact .ite (deckFormat_coded _) (.ite (deckFormat_coded _) (.ite (deckFormat_coded _) .none))

theorem walk_coded (isProfile : Bool) (n : Nat) (bs : List Byte) (prev : Option (Nat × Nat)) (acc : List Section) :
    (walk isProfile n bs prev acc).1.Coded := by
  induction n generalizing bs prev acc with
  | zero =>
    unfold walk
    exact .fst_ite .none (deckFormat_coded _)
  | succ n ih =>
    unfold walk
    refine .fst_ite (deckFormat_coded _) (.fst_ite (deckFormat_coded _) ?_)
    dsimp only
    split
    next e he => exact .some ((sectionTest_coded _ _ _).status e he)
    next => exact ih _ _ _

/-- A container that fails fails with DECK_FORMAT or VERSION (R52). -/
theorem parseContainer_coded (isProfile : Bool) (bs : List Byte) : (parseContainer isProfile bs).1.Coded := by
  unfold parseContainer
  refine .fst_ite (deckFormat_coded _) (.fst_ite (deckFormat_coded _) (.fst_ite (deckFormat_coded _)
    (.fst_ite (version_coded _) (.fst_ite (deckFormat_coded _) ?_))))
  dsimp only
  split
  next e he => exact .some ((walk_coded _ _ _ _ _).status e he)
  refine .fst_ite (deckFormat_coded _) ?_
  split
  · exact version_coded _
  refine .fst_ite .none ?_
  split
  · exact deckFormat_coded _
  · exact .none

end Sys2Proof.Machine
end

section
/-! SUPPORT. Proofs: what the operations of the deck library leave and change (R49-R53, R57-R60). -/

namespace Sys2Proof.Machine

/-- What an operation beside the deck library leaves: the library with its roles, and the trim tables. -/
structure State.DecksKept (s t : State) : Prop where
  deck : t.deck = s.deck
  cal : t.cal = s.cal

theorem Keeps.decks {s t : State} (h : Keeps (fun x => x ≠ .deck ∧ x ≠ .cal) s t) : s.DecksKept t :=
  ⟨deck_of (h.same .deck fun hp => hp.1 rfl), cal_of (h.same .cal fun hp => hp.2 rfl)⟩

theorem wakeDram_kept (s : State) : s.DecksKept s.wakeDram := (State.wakeDram_keeps (Keeps.refl s)).decks

/-! Loading (R49-R52). -/

section
variable {s : State} {k : Nat} (hk : k < s.deck.slots.length)
include hk

theorem updSlot_slot (f : DeckSlot → DeckSlot) : getN (s.updSlot k f).deck.slots k {} = f (getN s.deck.slots k {}) :=
  getN_upd s.deck.slots k f {} hk

theorem updSlot_slotDeck (f : DeckSlot → DeckSlot) : (s.updSlot k f).slotDeck k = (f (getN s.deck.slots k {})).deck :=
  congrArg DeckSlot.deck (updSlot_slot hk f)

end

theorem slotDeck_of {s t : State} (h : t.deck = s.deck) (k : Nat) : t.slotDeck k = s.slotDeck k := by rw [State.slotDeck, h, State.slotDeck]

theorem handle_of {s t : State} (h : t.deck = s.deck) (k : Nat) : t.handle k = s.handle k := by rw [State.handle, h, State.handle]

/-- What the checks of R52 say of the container that a load names: its failure, or the container. -/
abbrev State.containerAt (s : State) (isProfile : Bool) (addr len : Nat) : Check × Container := parseContainer isProfile (s.read addr (min len (2 ^ 24)))

/-- The library with the container at `addr` in slot k, under the slot's next generation. -/
def State.deckTaken (s : State) (k addr len : Nat) : State :=
  let d := (s.containerAt false addr len).2
  (s.updSlot k (fun o => { gen := nextGen o.gen, deck := some d })).write (s.slotAddr k) ((s.read addr (min len (2 ^ 24))).take d.length)

section
variable {s : State} {addr len : Nat} (k : Nat)

theorem loadDeck_fails {e : Nat × Nat} (he : (s.containerAt false addr len).1 = some e) :
    s.loadDeck addr len k = (s.updSlot k (fun o => { o with deck := none }), { status := e.1, detail := e.2 }) := by
  unfold State.loadDeck
  dsimp only
  rw [he]

theorem loadDeck_passes (he : (s.containerAt false addr len).1 = none) :
    s.loadDeck addr len k =
      (s.deckTaken k addr len, .ok (wordsBytes [(s.deckTaken k addr len).handle k, (s.containerAt false addr len).2.deckId,
        (s.containerAt false addr len).2.deckRev])) := by
  unfold State.loadDeck
  dsimp only
  rw [he]
  rfl

end

/-! Staging and activation (R53, R60). -/

theorem checkCopies_kept (s : State) (copies : List (Nat × Bool)) : s.DecksKept (s.checkCopies copies) :=
  (State.checkCopies_keeps (Keeps.refl s) copies).decks

theorem placeParams_kept (s : State) (d : Container) : s.DecksKept (s.placeParams d) := (State.placeParams_keeps (Keeps.refl s) d).decks

theorem stage_deck (s : State) (k : Nat) :
    (s.stage k).deck = { s.deck with staged := some k, refStaged := s.boundSlot ((s.slotDeck k).getD {}) } := (placeParams_kept _ _).deck

theorem stage_cal (s : State) (k : Nat) : (s.stage k).cal = { s.cal with stagedSet := s.cal.table } := (placeParams_kept _ _).cal

theorem activateCams_kept (s : State) (d : Container) (old : Option Container) (target : Nat) : s.DecksKept (s.activateCams d old target) :=
  (State.activateCams_keeps (Keeps.refl s) d old target).decks

theorem activation_sent_kept (s : State) (d : Container) : s.DecksKept (s.activateTrestle d).sendPairInfo :=
  (State.sendPairInfo_keeps (State.activateTrestle_keeps (Keeps.refl s) d)).decks

theorem activate_deck (s : State) (k : Nat) : (s.activate k).deck =
    { s.deck.addEpoch (nextEpoch s.deck.epoch) ((s.slotDeck k).getD {}) with
      active := some k, staged := none, refActive := s.deck.refStaged, refStaged := none,
      epoch := nextEpoch s.deck.epoch, prevEpoch := s.deck.epoch, lastWd := 0 } := by
  refine (activation_sent_kept _ _).deck.trans ?_
  dsimp only
  split
  · exact (activateCams_kept ..).deck
  · rfl

theorem activate_inUse (s : State) (k : Nat) : (s.activate k).cal.inUse = s.cal.stagedSet := by
  refine (congrArg CalState.inUse (activation_sent_kept _ _).cal).trans ?_
  dsimp only
  split
  · exact congrArg CalState.inUse (activateCams_kept ..).cal
  · rfl

theorem activate_mem (s : State) (k : Nat) : (s.activate k).mem = s.mem :=
  mem_of ((State.activate_keeps (p := (· ≠ .mem)) (Keeps.refl s) k).same .mem (by simp))

theorem startPresets_kept (s : State) (d : Container) : s.DecksKept (s.startPresets d) := (State.startPresets_keeps (Keeps.refl s) d).decks

theorem startPresets_mem (s : State) (d : Container) : (s.startPresets d).mem = s.mem :=
  mem_of ((State.startPresets_keeps (p := (· ≠ .mem)) (Keeps.refl s) d).same .mem (by simp))

/-! The arm of a swap and its withdrawal (R57-R59). -/

/-- The swap that an arm at a web location starts (R57). -/
def State.newSwap (s : State) (ws : Int) (joint : Bool) : Swap :=
  { ws := s.armWs ws, switchLine := s.switchWln (s.armWs ws), slot := s.deck.staged.getD 0,
    waiting := s.swapStations s.camDeck ((s.slotDeck (s.deck.staged.getD 0)).getD {}), joint := joint }

theorem retargets_kept (l : List Nat) (s : State) : s.DecksKept (forEach (fun c s => s.retarget c) l s) :=
  (Keeps.forEach (fun _ _ _ h => State.retarget_keeps h _) (Keeps.refl s)).decks

theorem armSwap_deck (s : State) (ws : Int) (joint : Bool) : (s.armSwap ws joint).1.deck = { s.deck with swap := some (s.newSwap ws joint) } := by
  unfold State.armSwap
  dsimp only
  rw [notify_deck, (retargets_kept _ _).deck, (activateCams_kept _ _ _ _).deck]
  rfl

theorem cancelSwap_deck (s : State) : s.cancelSwap.deck = { s.deck with swap := none, stationEpoch := [] } := by
  unfold State.cancelSwap
  dsimp only
  rw [notify_deck]
  refine (Keeps.foldl (fun _ _ _ h => Keeps.ite (State.startHead_keeps h _ _) h) (Keeps.refl _)).decks.deck.trans ?_
  exact (retargets_kept ..).deck

theorem askPeer_kept (s : State) (code arg : Nat) (payload : List Byte) (wait : Option (Req × Int)) :
    s.DecksKept (s.askPeer code arg payload wait) := (State.askPeer_keeps (Keeps.refl s) code arg payload wait).decks

/-- An arm that nothing refuses has a staged deck (R56). -/
theorem staged_of_armRefuse {s : State} {ws : Int} {joint : Bool} (h : s.armRefuse ws joint = none) : ∃ k, s.deck.staged = some k := by
  unfold State.armRefuse at h
  split at h
  · exact nomatch h
  split at h
  · exact nomatch h
  next d hd => exact (Option.bind_eq_some_iff.mp hd).imp fun k hk => hk.1

end Sys2Proof.Machine
end

section
/-! SUPPORT. Proofs: decks are loaded, staged, activated, swapped and deleted, and profiles loaded (R40, R49-R60, R411). -/

namespace Sys2Proof.Machine

/-! DECK_LOAD (R49-R52). -/

/-- A load that is taken up: it is admitted, it has a slot of the library, and its container lies in DRAM (R32, R50). -/
structure DeckLoadRuns (q : Req) (addr len slot k : Nat) (s : State) : Prop where
  admitted : Allowed q s .op false
  slot : s.loadSlot slot = .ok k
  library : k < s.deck.slots.length
  inDram : s.containerInDram addr len = true

theorem deckLoad_outside {q : Req} {addr len slot k : Nat} {s : State} (h : Allowed q s .op false) (hk : s.loadSlot slot = .ok k)
    (hin : s.containerInDram addr len = false) : exec (.deckLoad q addr len slot) s = .fault (.misuse 32) := by
  show execDeckLoad q addr len slot s = _
  unfold execDeckLoad
  rw [hk]
  exact if_pos (by simp [adm_none h, hin])

section
variable {q : Req} {addr len slot k : Nat} {s : State} (h : DeckLoadRuns q addr len slot k s)
include h

/-- A load answers what its checks say, but where a container passes with a reserved header field set. -/
theorem deckLoad_answers (hok : (s.loadDeck addr len k).2.status = 0 → s.headerReserved addr = false) :
    exec (.deckLoad q addr len slot) s = .next ((s.loadDeck addr len k).1.wakeDram.respond 0x0100 q (s.loadDeck addr len k).2) := by
  have hclear : ¬ ((admission s q .op false).isNone && (s.loadDeck addr len k).2.status = 0 && s.headerReserved addr) = true := by
    by_cases h0 : (s.loadDeck addr len k).2.status = 0
    · simp [hok h0]
    · simp [h0]
  show execDeckLoad q addr len slot s = _
  unfold execDeckLoad
  rw [h.slot]
  exact (if_neg (by simp [h.inDram])).trans ((if_neg hclear).trans (run_dram h.admitted rfl))

theorem deckLoad_fails {e : Nat × Nat} (he : (s.containerAt false addr len).1 = some e) :
    ∃ u : State, exec (.deckLoad q addr len slot) s = .next (u.respond 0x0100 q { status := e.1, detail := e.2 }) ∧ u.slotDeck k = none := by
  have hload := loadDeck_fails k he
  refine ⟨(s.updSlot k (fun o => { o with deck := none })).wakeDram, ?_, ?_⟩
  · rw [deckLoad_answers h (fun h0 => absurd ((congrArg (·.2.status) hload).symm.trans h0) ((parseContainer_coded _ _).status e he)), hload]
  · rw [slotDeck_of (wakeDram_kept _).deck, updSlot_slotDeck h.library]

variable (he : (s.containerAt false addr len).1 = none)
include he

theorem deckLoad_reserved (hr : s.headerReserved addr = true) : exec (.deckLoad q addr len slot) s = .fault (.misuse 15) := by
  show execDeckLoad q addr len slot s = _
  unfold execDeckLoad
  rw [h.slot]
  exact (if_neg (by simp [h.inDram])).trans (if_pos (by simp [adm_none h.admitted, loadDeck_passes k he, hr, Reply.ok]))

theorem deckLoad_passes (hr : s.headerReserved addr = false) :
    let d := (s.containerAt false addr len).2
    ∃ u : State, exec (.deckLoad q addr len slot) s = .next (u.respond 0x0100 q (.ok (wordsBytes [u.handle k, d.deckId, d.deckRev]))) ∧
      u.slotDeck k = some d ∧ (getN u.deck.slots k {}).gen = nextGen (getN s.deck.slots k {}).gen := by
  intro d
  have hdeck := (wakeDram_kept (s.deckTaken k addr len)).deck
  refine ⟨(s.deckTaken k addr len).wakeDram, ?_, ?_, ?_⟩
  · rw [deckLoad_answers h (fun _ => hr), loadDeck_passes k he, handle_of hdeck]
  · rw [slotDeck_of hdeck]
    exact updSlot_slotDeck h.library _
  · rw [hdeck]
    exact congrArg DeckSlot.gen (updSlot_slot h.library _)

end

theorem deckLoad_refused {q : Req} {slot : Nat} {r : Reply} {s : State} (h : Allowed q s .op false) (hr : s.loadSlot slot = .error r) (addr len : Nat) :
    exec (.deckLoad q addr len slot) s = .next (s.respond 0x0100 q r) := by
  show execDeckLoad q addr len slot s = _
  unfold execDeckLoad
  rw [hr]
  exact run_no h rfl

/-! DECK_STAGE, DECK_UNSTAGE and DECK_DELETE (R50, R51, R53). -/

section
variable {q : Req} {handle k : Nat} {s : State} (h : Allowed q s .op false) (hk : s.slotOf handle = some k)

include hk in
/-- A loaded deck outside a swap, with the half of the deck before free, is refused by its checks alone. -/
theorem stageRefuse_eq (hswap : s.deck.swap = none) (hold : s.oldHalfBusy = false) :
    s.stageRefuse handle = s.stageCheckNow ((s.slotDeck k).getD {}) := by
  unfold State.stageRefuse
  rw [hk]
  exact (if_neg (by simp [hswap])).trans (if_neg (by simp [hold]))

include h hk

theorem deckStage_misuse (hr : s.stageRefuse handle = none) {m : Nat} (hm : s.stageMisuse ((s.slotDeck k).getD {}) = some m)
    (copies : List (Nat × Bool)) : exec (.deckStage q handle copies) s = .fault (.misuse m) := by
  show execDeckStage q handle s copies = _
  unfold execDeckStage
  dsimp only
  rw [if_neg (by simp [adm_none h, hr]), hk, Option.getD_some, hm]

theorem deckStage_stages (hr : s.stageRefuse handle = none) (hm : s.stageMisuse ((s.slotDeck k).getD {}) = none) (copies : List (Nat × Bool)) :
    exec (.deckStage q handle copies) s = .next (((s.stage k).checkCopies copies).wakeDram.respond 0x0101 q {}) := by
  show execDeckStage q handle s copies = _
  unfold execDeckStage
  dsimp only
  rw [if_neg (by simp [adm_none h, hr]), hk, Option.getD_some, hm]
  exact run_dram h hr

theorem deckDelete_empties (hheld : s.slotHeld k = false) :
    exec (.deckDelete q handle) s = .next ((s.updSlot k (fun o => { o with deck := none })).respond 0x0107 q {}) := by
  show execDeckDelete q handle s = _
  unfold execDeckDelete
  rw [hk]
  exact run_plain h (if_neg (by simp [hheld]))

theorem deckDelete_held (hheld : s.slotHeld k = true) : exec (.deckDelete q handle) s = .next (s.respond 0x0107 q (.fail .busy 8)) := by
  show execDeckDelete q handle s = _
  unfold execDeckDelete
  rw [hk]
  exact run_no h (if_pos hheld)

end

theorem deckUnstage_unstages {q : Req} {s : State} (h : Allowed q s .op false) (hswap : s.deck.swap = none) (hstaged : s.deck.staged.isSome = true) :
    exec (.deckUnstage q) s = .next (({ s with deck := { s.deck with staged := none, refStaged := none } } : State).respond 0x0102 q {}) :=
  run_plain h ((if_neg (by simp [hswap])).trans (if_neg (by simp [Option.isSome_iff_ne_none.mp hstaged])))

/-! DECK_ACTIVATE (R60). -/

theorem deckActivate_activates {q : Req} {k : Nat} {s : State} (h : Allowed q s .nw false) (hk : s.deck.staged = some k) :
    ∃ u : State, exec (.deckActivate q) s = .next (u.respond 0x0105 q (.ok (leBytes 4 (nextEpoch s.deck.epoch)))) ∧ u.deck = (s.activate k).deck ∧
      u.cal.inUse = s.cal.stagedSet ∧ u.mem = s.mem := by
  obtain ⟨hdeck, hcal⟩ := startPresets_kept (s.activate k) ((s.slotDeck k).getD {})
  refine ⟨(s.activate k).startPresets ((s.slotDeck k).getD {}), ?_, hdeck, ?_, ?_⟩
  · show execDeckActivate q s = _
    unfold execDeckActivate
    rw [hk]
    refine (run_plain h rfl).trans ?_
    dsimp only [Option.getD_some]
    rw [hdeck, activate_deck]
  · rw [hcal, activate_inUse]
  · rw [startPresets_mem, activate_mem]

/-! DECK_ARM_SWAP and DECK_CANCEL_SWAP (R56-R59, R66, R67). -/

section
variable {q : Req} {ws : Int} {s : State} (h : Allowed q s .web false) (hf : s.follows = false)
include h hf

theorem deckArmSwap_arms (hl : s.leads = false) (hr : s.armRefuse ws false = none) :
    exec (.deckArmSwap q ws) s = .next ((s.armSwap ws false).1.respond 0x0103 q (s.armSwap ws false).2) := by
  show execDeckArmSwap q ws s = _
  unfold execDeckArmSwap State.followRefuse
  simp only [hl, hf, Bool.or_self, Bool.false_and, hr]
  exact run_plain h rfl

/-- The primary of a joined pair asks its peer first (R66). -/
theorem deckArmSwap_asks (hl : s.leads = true) (hr : s.armRefuse ws true = none) : exec (.deckArmSwap q ws) s =
    .next (s.askPeer 0x0103 ((s.stagedDeck.getD {}).deckId) (leBytes 8 (truncN 64 (wpos48 (s.armWs ws)))) (some (q, s.armWs ws))) := by
  show execDeckArmSwap q ws s = _
  unfold execDeckArmSwap State.followRefuse
  simp only [hl, hf, Bool.or_false, Bool.false_and, hr]
  exact if_pos (by simp [adm_none h])

end

/-- An accepted arm starts the swap to the staged deck. -/
theorem newSwap_of_staged {s : State} {k : Nat} (hk : s.deck.staged = some k) (ws : Int) (joint : Bool) :
    some (s.newSwap ws joint).slot = s.deck.staged ∧ (s.newSwap ws joint).waiting = s.swapStations s.camDeck (s.stagedDeck.getD {}) := by
  unfold State.newSwap State.stagedDeck
  rw [hk]
  exact ⟨rfl, rfl⟩

theorem deckCancelSwap_cancels {q : Req} {s : State} (h : Allowed q s .web false) (hf : s.followRefuse q = none) (hr : s.cancelRefuse = none) :
    ∃ u : State, exec (.deckCancelSwap q) s = .next (u.respond 0x0104 q {}) ∧ u.deck = { s.deck with swap := none, stationEpoch := [] } := by
  have hdeck (joint : Bool) : (if joint then s.cancelSwap.askPeer 0x0104 0 [] none else s.cancelSwap).deck =
      { s.deck with swap := none, stationEpoch := [] } := by
    split
    · rw [(askPeer_kept ..).deck, cancelSwap_deck]
    · rw [cancelSwap_deck]
  exact ⟨_, run_plain h (by rw [hf]; exact hr), hdeck _⟩

/-! PROFILE_LOAD (R40, R52, R127). -/

theorem resource_status (reason detail : Nat) : (resource reason detail).status ≠ 0 := Nat.succ_ne_zero 7

/-- The refusals of a profile that passes are RESOURCE (R127, R492). -/
theorem profileRefuse_status {s : State} {p : Container} {x : Reply} (h : s.profileRefuse p = some x) : x.status ≠ 0 := by
  unfold State.profileRefuse at h
  split at h
  · exact Option.some.inj h ▸ resource_status _ _
  split at h
  · exact Option.some.inj h ▸ resource_status _ _
  split at h
  · exact Option.some.inj h ▸ resource_status _ _
  · exact nomatch h

/-- The container at `addr` passes the checks of a profile, and nothing refuses it (R52, R127, R492). -/
structure State.ProfileAccepted (s : State) (addr len : Nat) : Prop where
  passes : (s.containerAt true addr len).1 = none
  taken : s.profileRefuse (s.containerAt true addr len).2 = none

/-- The profile at `addr` waits to take effect (R40). -/
def State.profileTaken (s : State) (addr len : Nat) : State :=
  let p := (s.containerAt true addr len).2
  { s with profile := { s.profile with loaded := some p, loadedBytes := (s.read addr (min len (2 ^ 24))).take p.length } }

section
variable {s : State} {addr len : Nat}

theorem loadProfile_fails {e : Nat × Nat} (he : (s.containerAt true addr len).1 = some e) :
    s.loadProfile addr len = (s, { status := e.1, detail := e.2 }) := by
  unfold State.loadProfile
  dsimp only
  rw [he]

theorem loadProfile_refused {x : Reply} (he : (s.containerAt true addr len).1 = none) (hx : s.profileRefuse (s.containerAt true addr len).2 = some x) :
    s.loadProfile addr len = (s, x) := by
  unfold State.loadProfile
  dsimp only
  rw [he, hx]

variable (ha : s.ProfileAccepted addr len)
include ha

theorem loadProfile_loads : s.loadProfile addr len = (s.profileTaken addr len, {}) := by
  unfold State.loadProfile
  dsimp only
  rw [ha.passes, ha.taken]
  rfl

/-- The misuse in a profile that is accepted: first the header's, then the fields'. -/
theorem loadMisuse_eq : s.loadMisuse addr len = if s.headerReserved addr then some 15 else (s.containerAt true addr len).2.profileMisuse :=
  if_neg (by simp [loadProfile_loads ha])

end

theorem loadMisuse_of_status {s : State} {addr len : Nat} (h : (s.loadProfile addr len).2.status ≠ 0) : s.loadMisuse addr len = none := if_pos h

section
variable {q : Req} {addr len : Nat} {s : State} (h : Allowed q s .cfg false)
include h

theorem profileLoad_outside (hin : s.containerInDram addr len = false) : exec (.profileLoad q addr len) s = .fault (.misuse 32) :=
  (if_neg (by simp [adm_none h])).trans (if_pos (by simp [hin]))

variable (hin : s.containerInDram addr len = true)
include hin

theorem profileLoad_misuse {m : Nat} (hm : s.loadMisuse addr len = some m) : exec (.profileLoad q addr len) s = .fault (.misuse m) := by
  show execProfileLoad q addr len s = _
  unfold execProfileLoad
  rw [if_neg (by simp [adm_none h]), if_neg (by simp [hin]), hm]

theorem profileLoad_answers (hm : s.loadMisuse addr len = none) :
    exec (.profileLoad q addr len) s = .next ((s.loadProfile addr len).1.respond 0x0108 q (s.loadProfile addr len).2) := by
  show execProfileLoad q addr len s = _
  unfold execProfileLoad
  rw [if_neg (by simp [adm_none h]), if_neg (by simp [hin]), hm]
  exact run_plain h rfl

/-- A load that leaves the state and answers a failure is answered with it. -/
theorem profileLoad_fails {x : Reply} (hl : s.loadProfile addr len = (s, x)) (hx : x.status ≠ 0) :
    exec (.profileLoad q addr len) s = .next (s.respond 0x0108 q x) := by
  rw [profileLoad_answers h hin (loadMisuse_of_status (by rw [hl]; exact hx)), hl]

theorem profileLoad_loads (ha : s.ProfileAccepted addr len) (hr : s.headerReserved addr = false)
    (hm : (s.containerAt true addr len).2.profileMisuse = none) :
    ∃ u : State, exec (.profileLoad q addr len) s = .next (u.respond 0x0108 q {}) ∧
      u.profile.loaded = some (s.containerAt true addr len).2 ∧ u.profile.current = s.profile.current := by
  have hmis : s.loadMisuse addr len = none := by rw [loadMisuse_eq ha, hr]; exact hm
  refine ⟨s.profileTaken addr len, ?_, rfl, rfl⟩
  rw [profileLoad_answers h hin hmis, loadProfile_loads ha]

end

/-- Settles O31: each command of the deck library, and PROFILE_LOAD, by its lemmas above. -/
theorem decksAreLoadedStagedAndSwapped : Obligations.DecksAreLoadedStagedAndSwapped := by
  refine ⟨fun q addr len slot k s h hk hlen hk16 => ?_, fun q addr len slot r s h hr => deckLoad_refused h hr addr len,
    fun q handle k copies s h hk hswap hold hcheck => ?_, fun q s => deckUnstage_unstages, fun q k s h hk => ?_,
    fun q ws s h hl hf hr => ?_, fun q ws s h hl hr hf => deckArmSwap_asks h hf hl hr, fun q s => deckCancelSwap_cancels,
    fun q handle k s => deckDelete_empties, fun q handle k s => deckDelete_held, fun q addr len s h => ⟨profileLoad_outside h, fun hin => ?_⟩⟩
  · have hkl : k < s.deck.slots.length := hlen ▸ hk16
    exact ⟨deckLoad_outside h hk, fun e hin => deckLoad_fails ⟨h, hk, hkl, hin⟩, fun hin => deckLoad_reserved ⟨h, hk, hkl, hin⟩,
      fun hin => deckLoad_passes ⟨h, hk, hkl, hin⟩⟩
  · have hr : s.stageRefuse handle = none := (stageRefuse_eq hk hswap hold).trans hcheck
    refine ⟨fun hm => ⟨_, deckStage_stages h hk hr hm copies, ?_, ?_⟩, fun m hm => deckStage_misuse h hk hr hm copies⟩
    · rw [(wakeDram_kept _).deck, (checkCopies_kept _ _).deck, stage_deck]
    · rw [(wakeDram_kept _).cal, (checkCopies_kept _ _).cal, stage_cal]
  · obtain ⟨u, hu, hdeck, hcal, hmem⟩ := deckActivate_activates h hk
    rw [activate_deck] at hdeck
    refine ⟨u, hu, ?_, ?_, ?_, ?_, ?_, hcal, hmem⟩ <;> rw [hdeck]
  · obtain ⟨k, hk⟩ := staged_of_armRefuse hr
    obtain ⟨hslot, hwaiting⟩ := newSwap_of_staged hk ws false
    exact ⟨_, deckArmSwap_arms h hf hl hr, s.newSwap ws false, armSwap_deck s ws false, rfl, rfl, hslot, rfl, rfl, hwaiting⟩
  · refine ⟨fun e he => profileLoad_fails h hin (loadProfile_fails he) ((parseContainer_coded _ _).status e he),
      fun he x hx => profileLoad_fails h hin (loadProfile_refused he hx) (profileRefuse_status hx),
      fun he hx hr => profileLoad_misuse h hin ?_, fun m he hx hr hm => profileLoad_misuse h hin ?_, fun he hx => profileLoad_loads h hin ⟨he, hx⟩⟩
    · rw [loadMisuse_eq ⟨he, hx⟩, if_pos hr]
    · rw [loadMisuse_eq ⟨he, hx⟩, hr]
      exact hm

end Sys2Proof.Machine
end

section
/-! SUPPORT. Proofs: what the position block's shared operations change of the position (R82-R93). -/

namespace Sys2Proof.Machine

/-! Reports of a position change the position nowhere. -/

@[simp] theorem posChange_pos (s : State) (before : PosState) : (s.posChange before).pos = s.pos :=
  pos_of ((State.posChange_keeps (p := (· ≠ .pos)) (Keeps.refl s) before).same .pos (by simp))

@[simp] theorem publish_pos (s : State) (producer : Nat) (tag : Int) : (s.publish producer tag).pos = s.pos :=
  pos_of ((State.publish_keeps (p := (· ≠ .pos)) (Keeps.refl s) producer tag).same .pos (by simp))

@[simp] theorem notifyIn_pos (s : State) (epoch code arg0 arg1 arg2 wln : Nat) (wpos : Int) (time : Nat) :
    (s.notifyIn epoch code arg0 arg1 arg2 wln wpos time).pos = s.pos :=
  pos_of ((State.notifyIn_keeps (p := (· ≠ .pos)) (Keeps.refl s) epoch code arg0 arg1 arg2 wln wpos time).same .pos (by simp))

@[simp] theorem occur_pos (s : State) (block inst code detail : Nat) (line : Nat × Int) : (s.occur block inst code detail line).2.pos = s.pos :=
  pos_of ((State.occur_keeps (p := (· ≠ .pos)) (Keeps.refl s) block inst code detail line).same .pos (by simp))

/-- The inputs with their counts and the label queue are the same. -/
structure PosState.SameInputs (p q : PosState) : Prop where
  enc : q.enc = p.enc
  tth : q.tth = p.tth
  senc : q.senc = p.senc
  refQueue : q.refQueue = p.refQueue
  overflows : q.overflows = p.overflows

theorem PosState.SameInputs.rfl {p : PosState} : p.SameInputs p := ⟨Eq.refl _, Eq.refl _, Eq.refl _, Eq.refl _, Eq.refl _⟩

/-! Evaluation without a step (R83). -/

section
variable (p : PosState) (d : Container) (t : Nat)

/-- Evaluation moves I, H and v, and nothing else that is measured. -/
theorem idleTo_eq : ∃ (i h v : Int) (upTo : Nat) (before : Int × Int × Int),
    p.idleTo d t = { p with i := i, h := h, v := v, upTo := upTo, before := before } := by
  unfold PosState.idleTo
  split
  · exact ⟨_, _, _, _, _, rfl⟩
  · exact ⟨_, _, _, _, _, rfl⟩

@[simp] theorem idleTo_c : (p.idleTo d t).c = p.c := by
  obtain ⟨_, _, _, _, _, h⟩ := idleTo_eq p d t
  rw [h]

@[simp] theorem idleTo_t : (p.idleTo d t).t = p.t := by
  obtain ⟨_, _, _, _, _, h⟩ := idleTo_eq p d t
  rw [h]

@[simp] theorem idleTo_wln : (p.idleTo d t).wln = p.wln := by
  obtain ⟨_, _, _, _, _, h⟩ := idleTo_eq p d t
  rw [h]

@[simp] theorem idleTo_freeRun : (p.idleTo d t).freeRun = p.freeRun := by
  obtain ⟨_, _, _, _, _, h⟩ := idleTo_eq p d t
  rw [h]

theorem idleTo_sameInputs : p.SameInputs (p.idleTo d t) := by
  obtain ⟨_, _, _, _, _, h⟩ := idleTo_eq p d t
  rw [h]
  exact ⟨rfl, rfl, rfl, rfl, rfl⟩

/-- The values before a tick differ in what evaluation moves. -/
theorem beforeTick_eq : ∃ (i h v : Int) (upTo : Nat) (before : Int × Int × Int),
    p.beforeTick d t = { p with i := i, h := h, v := v, upTo := upTo, before := before } := by
  unfold PosState.beforeTick
  split
  · exact idleTo_eq p d (t - 1)
  · exact ⟨_, _, _, _, _, rfl⟩

/-- A step moves C by its length, whichever its direction (R83). -/
theorem stepAt_c (n : Int) : (p.stepAt d n t).c = p.c + n := by
  obtain ⟨_, _, _, _, _, h⟩ := beforeTick_eq p d t
  unfold PosState.stepAt
  rw [h]
  dsimp only
  split <;> rfl

theorem stepAt_sameInputs (n : Int) : p.SameInputs (p.stepAt d n t) := by
  obtain ⟨_, _, _, _, _, h⟩ := beforeTick_eq p d t
  unfold PosState.stepAt
  rw [h]
  dsimp only
  split <;> exact ⟨rfl, rfl, rfl, rfl, rfl⟩

end

/-- The state with the position evaluated up to the present tick (R83). -/
def State.evaluated (s : State) : State := { s with pos := s.pos.idleTo s.camDeck s.now }

/-! Steps, flags and occurrences (R89-R93). -/

/-- The OVERSPEED flag is all that follows the backlog (R89). -/
theorem backlogFlag_eq (s : State) : ∃ o, s.backlogFlag = { s with pos := { s.pos with overspeed := o } } := by
  unfold State.backlogFlag
  split
  · exact ⟨_, rfl⟩
  · exact ⟨s.pos.overspeed, rfl⟩

/-- REVERSE changes its own fields of the position (R91). -/
theorem reverseCheck_pos (s : State) (h : Int) : ∃ (reverse revFirst : Bool) (settle count : Nat),
    (s.reverseCheck h).pos = { s.pos with reverse := reverse, revFirst := revFirst, settle := settle, reverseCount := count } := by
  unfold State.reverseCheck
  split
  · exact ⟨_, _, _, _, rfl⟩
  · split
    · dsimp only
      rw [notifyIn_pos, publish_pos]
      exact ⟨_, _, _, _, rfl⟩
    · exact ⟨_, _, _, _, rfl⟩

/-- Counts of the source in service move C by their length (R83, R84). -/
theorem posStep_moves (s : State) (n : Int) : (s.posStep n).pos.c = s.pos.c + n * s.srcScale ∧ s.pos.SameInputs (s.posStep n).pos := by
  unfold State.posStep
  split
  next h0 => exact ⟨by simp [h0], .rfl⟩
  next =>
    dsimp only
    rw [posChange_pos]
    obtain ⟨o, hflag⟩ := backlogFlag_eq { s with pos := s.pos.stepAt s.camDeck (n * s.srcScale) s.now }
    rw [hflag]
    obtain ⟨_, _, _, _, hrev⟩ := reverseCheck_pos { s with pos := { s.pos.stepAt s.camDeck (n * s.srcScale) s.now with overspeed := o } }
      (s.pos.beforeTick s.camDeck s.now).h
    rw [hrev]
    obtain ⟨henc, htth, hsenc, hqueue, hover⟩ := stepAt_sameInputs s.pos s.camDeck s.now (n * s.srcScale)
    exact ⟨stepAt_c .., henc, htth, hsenc, hqueue, hover⟩

/-- An input that retires changes the service, and counts of no input (R93). -/
theorem inputRetired_pos (s : State) (inst : Nat) : ∃ (src : Option Nat) (freeRun prevForward : Bool) (v : Int),
    (s.inputRetired inst).pos = { s.pos with inService := src, freeRun := freeRun, v := v, prevForward := prevForward } := by
  unfold State.inputRetired
  split
  · exact ⟨_, _, _, _, rfl⟩
  · split
    · exact ⟨_, _, _, _, rfl⟩
    · split
      · exact ⟨_, _, _, _, rfl⟩
      · rw [posChange_pos]
        exact ⟨_, _, _, _, rfl⟩

/-- An occurrence against an input costs no count (R92). -/
theorem inputOccur_keepsCounts (s : State) (inst code : Nat) : (s.inputOccur inst code).pos.c = s.pos.c ∧ s.pos.SameInputs (s.inputOccur inst code).pos := by
  unfold State.inputOccur
  dsimp only
  split
  · obtain ⟨_, _, _, _, h⟩ := inputRetired_pos (s.occur 0x0A inst code 0 s.faultLine).2 inst
    rw [h, occur_pos]
    exact ⟨rfl, rfl, rfl, rfl, rfl, rfl⟩
  · rw [occur_pos]
    exact ⟨rfl, .rfl⟩

/-- The loss of an entry in an input's FIFO counts in that input's overflows (R26). -/
theorem inputOverflow_pos (s : State) (inst : Nat) : (s.inputOverflow inst).pos.c = s.pos.c ∧
    PosState.SameInputs { s.pos with overflows := updAt s.pos.overflows inst satInc } (s.inputOverflow inst).pos :=
  inputOccur_keepsCounts { s.drawn with pos.overflows := updAt s.pos.overflows inst satInc } inst _

end Sys2Proof.Machine
end

section
/-! SUPPORT. Proofs: lines fire, and T advances with WLN (R85-R93, R168). -/

namespace Sys2Proof.Machine

/-! A line that fires (R85). -/

section
variable (p : PosState) (pitch tick : Nat) (overspeed : Bool)

@[simp] theorem fired_t : (p.fired pitch tick overspeed).t = p.t + pitch := by cases overspeed <;> rfl
@[simp] theorem fired_wln : (p.fired pitch tick overspeed).wln = (p.wln + 1) % 2 ^ 48 := by cases overspeed <;> rfl
@[simp] theorem fired_c : (p.fired pitch tick overspeed).c = p.c := by cases overspeed <;> rfl
@[simp] theorem fired_i : (p.fired pitch tick overspeed).i = p.i := by cases overspeed <;> rfl
@[simp] theorem fired_h : (p.fired pitch tick overspeed).h = p.h := by cases overspeed <;> rfl
@[simp] theorem fired_freeRun : (p.fired pitch tick overspeed).freeRun = p.freeRun := by cases overspeed <;> rfl

end

/-- The parts that a line's reports, its intake and its messages may change. -/
abbrev Part.besideLine (x : Part) : Prop := x ≠ .pos ∧ x ≠ .profile ∧ x ≠ .deck ∧ x ≠ .now

theorem SameFrame.of_keeps {s t : State} (h : Keeps Part.besideLine s t) : SameFrame s t :=
  ⟨pos_of (h.same .pos (by decide)), profile_of (h.same .profile (by decide)), deck_of (h.same .deck (by decide)), now_of (h.same .now (by decide))⟩

/-- What follows the lines of a command leaves the position (R33, R61, R111, R549). -/
theorem afterLines_frame (s pre : State) : SameFrame s (s.afterLines pre) := .of_keeps (State.afterLines_keeps (Keeps.refl s) pre)

/-- The position that a line fires from: in free-run it stands at the threshold (R93). -/
def State.firedFrom (s : State) : PosState := if s.pos.freeRun then s.pos.toThreshold s.now else s.pos

theorem switchDue_none {s : State} (h : s.deck.swap = none) : s.switchDue = none := by
  unfold State.switchDue
  rw [h]

/-- The slot of a line that is no switch line (R85). -/
def State.lineSlot (s : State) (overspeed : Bool) : LineSlot :=
  { s.firedFrom.nextSlot s.deck.epoch s.lineTime s.now s.sys.lineMode overspeed with switchLine := false, retired := s.compareRetired }

/-- The state with its position moved by the next line. -/
def State.movedByLine (s : State) (overspeed : Bool) : State :=
  { s with pos := { s.firedFrom.fired s.camDeck.pitch s.now overspeed with lastLine := some (s.lineSlot overspeed) } }

/-- A line that is no switch line moves the position by the line, and nothing else of the frame (R85). -/
theorem fireLine_frame {s : State} (hswap : s.deck.swap = none) (overspeed : Bool) : SameFrame (s.movedByLine overspeed) (s.fireLine overspeed) := by
  unfold State.fireLine
  rw [switchDue_none hswap]
  refine .of_keeps (State.sendLine_keeps (State.lineIntake_keeps (State.publish_keeps (?_ : Keeps _ (s.movedByLine overspeed) _) _ _) _ _) _)
  split
  · exact State.publish_keeps (Keeps.refl _) _ _
  · exact Keeps.refl _

/-! Lines of one tick (R85, R89). -/

/-- `u` is `s` after `n` lines: T stands `n` PITCH on and WLN `n` lines, and C, I and H where they stood. -/
structure State.Lines (s : State) (n : Nat) (u : State) : Prop where
  t : u.pos.t = s.pos.t + n * s.camDeck.pitch
  wln : u.pos.wln % 2 ^ 48 = (s.pos.wln + n) % 2 ^ 48
  c : u.pos.c = s.pos.c
  i : u.pos.i = s.pos.i
  h : u.pos.h = s.pos.h
  freeRun : u.pos.freeRun = s.pos.freeRun
  deck : u.deck = s.deck
  now : u.now = s.now

namespace State.Lines
variable {s u w : State} {m n : Nat}

theorem camDeck (h : s.Lines n u) : u.camDeck = s.camDeck := by
  rw [State.camDeck, State.deckOf, h.deck]
  rfl

theorem refl (s : State) : s.Lines 0 s := ⟨by simp, by simp, rfl, rfl, rfl, rfl, rfl, rfl⟩

theorem trans (h : s.Lines m u) (k : u.Lines n w) : s.Lines (m + n) w where
  t := by
    rw [k.t, h.t, h.camDeck]
    push_cast
    ring
  wln := by
    have hm := h.wln
    have hn := k.wln
    omega
  c := k.c.trans h.c
  i := k.i.trans h.i
  h := k.h.trans h.h
  freeRun := k.freeRun.trans h.freeRun
  deck := k.deck.trans h.deck
  now := k.now.trans h.now

theorem of_frame (h : SameFrame s u) : s.Lines 0 u :=
  ⟨by simp [h.pos], by simp [h.pos], by rw [h.pos], by rw [h.pos], by rw [h.pos], by rw [h.pos], h.deck, h.now⟩

end State.Lines

/-- Following the backlog with OVERSPEED, and telling the peer, moves nothing else of the position (R89, R457). -/
theorem flagged_pos (s : State) (before : PosState) : ∃ o, (s.backlogFlag.posChange before).pos = { s.pos with overspeed := o } := by
  obtain ⟨o, ho⟩ := backlogFlag_eq s
  exact ⟨o, by rw [posChange_pos, ho]⟩

theorem flagged_lines (s : State) (before : PosState) : s.Lines 0 (s.backlogFlag.posChange before) := by
  have hframe : SameFrame s.backlogFlag (s.backlogFlag.posChange before) := .of_keeps (State.posChange_keeps (Keeps.refl _) before)
  obtain ⟨o, ho⟩ := backlogFlag_eq s
  have hflag : s.Lines 0 s.backlogFlag := by
    rw [ho]
    exact ⟨by simp, by simp, rfl, rfl, rfl, rfl, rfl, rfl⟩
  exact hflag.trans (.of_frame hframe)

section
variable {s : State} (hswap : s.deck.swap = none) (hfree : s.pos.freeRun = false)
include hswap hfree

theorem fireLine_lines (overspeed : Bool) : s.Lines 1 (s.fireLine overspeed) := by
  have hfrom : s.firedFrom = s.pos := if_neg (by simp [hfree])
  have hmoved : s.Lines 1 (s.movedByLine overspeed) := by
    unfold State.movedByLine
    rw [hfrom]
    exact ⟨by simp, by simp, fired_c .., fired_i .., fired_h .., fired_freeRun .., rfl, rfl⟩
  exact hmoved.trans (.of_frame (fireLine_frame hswap overspeed))

/-- The normal trigger fires one line where R85 allows it, and none where not. -/
theorem triggerNow_lines : s.Lines (if s.pos.mayFire s.camDeck s.now then 1 else 0) s.triggerNow := by
  unfold State.triggerNow
  split
  · split
    · have hline := fireLine_lines (s := { s with pos := { s.pos with overspeedLate := satInc s.pos.overspeedLate } }) hswap hfree false
      exact ⟨hline.t, hline.wln, hline.c, hline.i, hline.h, hline.freeRun, hline.deck, hline.now⟩
    · exact fireLine_lines hswap hfree false
  · exact .refl s

end

/-- Nothing is left behind where H has not reached T (R89). -/
theorem backlog_eq_zero {p : PosState} (h : p.h < p.t) (pitch : Nat) : p.backlog pitch = 0 := if_pos (.inl h)

theorem backlog_congr {p q : PosState} (hh : q.h = p.h) (ht : q.t = p.t) (pitch : Nat) : q.backlog pitch = p.backlog pitch := by
  rw [PosState.backlog, PosState.backlog, hh, ht]

/-- Forced lines are lines, none where H has not reached T. Each brings T nearer to H: when as many may be forced as there are units from T
to H, the backlog that stays is within its bound (R89). -/
theorem forceLines_lines (fuel : Nat) {s : State} (hswap : s.deck.swap = none) (hfree : s.pos.freeRun = false) :
    ∃ n, s.Lines n (s.forceLines fuel) ∧ (s.pos.h < s.pos.t → n = 0) ∧ (0 < s.camDeck.pitch → s.pos.h < s.pos.t + fuel →
      (s.forceLines fuel).pos.backlog s.camDeck.pitch ≤ s.camDeck.overspeedLines) := by
  induction fuel generalizing s with
  | zero =>
    refine ⟨0, .refl s, fun _ => rfl, fun _ hbound => ?_⟩
    rw [State.forceLines, backlog_eq_zero (by simpa using hbound)]
    exact Nat.zero_le _
  | succ fuel ih =>
    unfold State.forceLines
    split
    next hlate =>
      have hone := fireLine_lines hswap hfree true
      obtain ⟨n, hrest, _, hleft⟩ := ih (s := s.fireLine true) (hone.deck ▸ hswap) (hone.freeRun.trans hfree)
      rw [hone.camDeck] at hleft
      refine ⟨1 + n, hone.trans hrest, fun hbelow => ?_, fun hpitch hbound => hleft hpitch ?_⟩
      · rw [backlog_eq_zero hbelow] at hlate
        omega
      · rw [hone.h, hone.t]
        omega
    next hwithin => exact ⟨0, .refl s, fun _ => rfl, fun _ _ => Nat.le_of_not_lt hwithin⟩

/-- R85 allows no trigger where H has not reached T. -/
theorem mayFire_below {p : PosState} (h : p.h < p.t) (d : Container) (tick : Nat) : p.mayFire d tick = false := by
  unfold PosState.mayFire
  split
  · simp [not_lt.mpr h.le]
  · simp [not_le.mpr h]

/-- One tick of the line trigger: where R85 allows the normal trigger a line fires, where H has not reached T none does, and the backlog that
stays is within its bound (R85, R89). -/
theorem triggerTick_lines {s : State} (hswap : s.deck.swap = none) (hfree : s.pos.freeRun = false) (hpitch : 0 < s.camDeck.pitch) :
    ∃ n, s.Lines n s.triggerTick ∧ (s.pos.mayFire s.camDeck s.now = true → 0 < n) ∧ (s.pos.h < s.pos.t → n = 0) ∧
      s.triggerTick.pos.backlog s.camDeck.pitch ≤ s.camDeck.overspeedLines := by
  have h0 := flagged_lines s s.pos
  obtain ⟨o, hpos0⟩ := flagged_pos s s.pos
  have hmay : (s.backlogFlag.posChange s.pos).pos.mayFire (s.backlogFlag.posChange s.pos).camDeck (s.backlogFlag.posChange s.pos).now =
      s.pos.mayFire s.camDeck s.now := by
    rw [hpos0, h0.camDeck, h0.now]
    rfl
  have h1 := triggerNow_lines (s := s.backlogFlag.posChange s.pos) (h0.deck ▸ hswap) (h0.freeRun.trans hfree)
  rw [hmay] at h1
  have h01 := h0.trans h1
  unfold State.triggerTick
  dsimp only
  generalize (s.backlogFlag.posChange s.pos).triggerNow = s1 at h01 ⊢
  obtain ⟨n, h2, hbelow, hleft⟩ := forceLines_lines s1.pos.forceBound (s := s1) (h01.deck ▸ hswap) (h01.freeRun.trans hfree)
  generalize s1.forceLines s1.pos.forceBound = s2 at h2 hleft ⊢
  have h3 := flagged_lines s2 s2.pos
  refine ⟨_, (h01.trans h2).trans h3, fun hfires => ?_, fun hunder => ?_, ?_⟩
  · rw [if_pos hfires]
    omega
  · rw [mayFire_below hunder] at h01 ⊢
    have hn : n = 0 := hbelow (by rw [h01.h, h01.t]; simpa using hunder)
    simp [hn]
  · rw [backlog_congr h3.h (by simpa using h3.t)]
    rw [h01.camDeck] at hleft
    refine hleft hpitch ?_
    unfold PosState.forceBound
    omega

/-! The commands. -/

/-- LINE_TRIGGER where no line triggers (R88, R93, R457). -/
theorem lineTrigger_idle {s : State} (h : s.webRunning = false ∨ s.follows = true ∨ s.pos.freeRun = true) (t0 : Nat) :
    exec (.lineTrigger t0) s = .next s := if_pos (by simpa using h)

/-- FREE_RUN_LINE outside free-run (R93). -/
theorem freeRunLine_idle {s : State} (h : s.webRunning = false ∨ s.follows = true ∨ s.pos.freeRun = false) (t0 : Nat) :
    exec (.freeRunLine t0) s = .next s := if_pos (by simpa using h)

section
variable {s : State} (hweb : s.webRunning = true) (hlead : s.follows = false)
include hweb hlead

theorem lineTrigger_fires (hfree : s.pos.freeRun = false) (hswap : s.deck.swap = none) (hpitch : 0 < s.camDeck.pitch) (t0 : Nat) :
    ∃ (u : State) (n : Nat), exec (.lineTrigger t0) s = .next u ∧ (s.advance t0).evaluated.Lines n u ∧
      ((s.pos.idleTo s.camDeck (max s.now t0)).mayFire s.camDeck (max s.now t0) = true → 0 < n) ∧
      ((s.pos.idleTo s.camDeck (max s.now t0)).h < s.pos.t → n = 0) ∧ u.pos.backlog s.camDeck.pitch ≤ s.camDeck.overspeedLines := by
  obtain ⟨n, hlines, hfires, hbelow, hleft⟩ := triggerTick_lines (s := (s.advance t0).evaluated) hswap ((idleTo_freeRun ..).trans hfree) hpitch
  have hafter := afterLines_frame (s.advance t0).evaluated.triggerTick s
  refine ⟨(s.advance t0).evaluated.triggerTick.afterLines s, n, if_neg (by simp [hweb, hlead, hfree]), hlines.trans (.of_frame hafter), hfires,
    fun h => hbelow (h.trans_eq (idleTo_t ..).symm), ?_⟩
  rw [hafter.pos]
  exact hleft

variable (hfree : s.pos.freeRun = true)
include hfree

theorem freeRunLine_takes (t0 : Nat) : exec (.freeRunLine t0) s = .next ((s.advance t0).freeRunTick.afterLines s) :=
  if_neg (by simp [hweb, hlead, hfree])

/-- Once the period has passed the free-run line fires from the threshold (R93). -/
theorem freeRunLine_fires (hswap : s.deck.swap = none) {a l t0 : Nat} (hperiod : s.pos.period = some a) (hlast : s.pos.lastTrig = some l)
    (hdue : l + a ≤ max s.now t0) : ∃ (u : State) (slot : LineSlot) (o : Bool), exec (.freeRunLine t0) s = .next u ∧
      u.pos = { (s.pos.toThreshold (max s.now t0)).fired s.camDeck.pitch (max s.now t0) false with lastLine := some slot, overspeed := o } := by
  have htick : (s.advance t0).freeRunTick = ((s.advance t0).fireLine false).backlogFlag.posChange s.pos := by
    unfold State.freeRunTick
    rw [show (s.advance t0).pos = s.pos from rfl, hperiod, hlast]
    exact if_pos hdue
  have hfrom : (s.advance t0).firedFrom = s.pos.toThreshold (max s.now t0) := if_pos hfree
  obtain ⟨o, hflag⟩ := flagged_pos ((s.advance t0).fireLine false) s.pos
  refine ⟨_, (s.advance t0).lineSlot false, o, freeRunLine_takes hweb hlead hfree t0, ?_⟩
  rw [(afterLines_frame _ _).pos, htick, hflag, (fireLine_frame (s := s.advance t0) hswap false).pos, State.movedByLine, hfrom]
  rfl

/-- Without a period no free-run line fires (R93). -/
theorem freeRunLine_waits (hperiod : s.pos.period = none) (t0 : Nat) : ∃ u : State, exec (.freeRunLine t0) s = .next u ∧ u.pos = s.pos := by
  refine ⟨_, freeRunLine_takes hweb hlead hfree t0, ?_⟩
  rw [(afterLines_frame _ _).pos]
  unfold State.freeRunTick
  rw [show (s.advance t0).pos = s.pos from rfl, hperiod]
  rfl

end

/-! The timed trigger of CALIBRATE (R168). -/

theorem setCodes_cln (codes : List (Nat × Nat)) (s : State) : (s.setCodes codes).cal.cln = s.cal.cln := by
  induction codes generalizing s with
  | nil => rfl
  | cons tv codes ih =>
    refine (ih (s.setCode tv.1 tv.2)).trans ?_
    unfold State.setCode
    split
    · rfl
    · dsimp only
      split <;> rfl

theorem cal_of_keeps {s t : State} (h : Keeps (· ≠ .cal) s t) : t.cal = s.cal := cal_of (h.same .cal (by simp))

theorem applyChange_cln (s : State) (c ser : Nat) : (s.applyChange c ser).cal.cln = s.cal.cln := by
  unfold State.applyChange
  dsimp only
  split
  · rfl
  · rw [cal_of_keeps (State.pump_keeps (Keeps.refl _) c), setCodes_cln, State.updCam_cal]

/-- The settings that apply at a line set codes, and the trigger counts none of its own lines (R156, R168). -/
theorem lineIntake_cln (s : State) (slot : LineSlot) (trig : Bool) : (s.lineIntake slot trig).cal.cln = s.cal.cln := by
  unfold State.lineIntake
  extract_lets d ser first cal s1 s2 s3 s4 s5 strip s6 intake s7 s8 s9
  have h2 : s2.cal.cln = s.cal.cln := by
    unfold s2
    refine forEach_keeps (P := fun u => u.cal.cln = s.cal.cln) (fun c u hu => ?_) _ ?_
    · rw [applyChange_cln, cal_of_keeps (State.deferLate_keeps (Keeps.refl u) c ser false), hu]
    · rw [cal_of_keeps (State.pruneStrips_keeps (Keeps.refl s1)), setCodes_cln]
  have h4 : Keeps (· ≠ .cal) s2 s4 :=
    State.placeInStrip_keeps (Keeps.forEach (fun _ _ c h => State.applyImmediate_keeps h c ser first) (Keeps.refl s2)) slot ser
  have h5 : Keeps (· ≠ .cal) s2 s5 :=
    .ite (State.pulses_keeps h4 d slot.tick first) (Keeps.forEach (fun _ _ _ h => State.updCam_keeps h _ _) h4)
  have h6 : Keeps (· ≠ .cal) s2 s6 := by
    refine Keeps.forEach (fun _ _ _ h => ?_) h5
    split
    · exact State.updCam_keeps h _ _
    · exact h
  have h7 : Keeps (· ≠ .cal) s2 s7 := h6.of (hpart := fun x hx => by obtain rfl := not_not.mp hx; rfl)
  have h9 : Keeps (· ≠ .cal) s2 s9 :=
    Keeps.forEach (fun _ _ c h => State.deadline_keeps h c ser) (Keeps.forEach (fun _ _ c h => State.commitDue_keeps h c ser) h7)
  exact (congrArg CalState.cln (cal_of_keeps (.ite (State.publish_keeps h9 0x06 slot.wpos) h9))).trans h2

/-- Outside the web modes no mode line comes, and without a switch the rest that follows a line leaves CLN (R168, R549). -/
theorem afterLines_cln {u pre : State} (hepoch : u.deck.epoch = pre.deck.epoch) (hweb : u.sys.mode.isWeb = false) : (u.afterLines pre).cal = u.cal := by
  have hswitch : u.switchHook pre = u := if_pos hepoch
  have hmode : u.modeLineHook pre = u := if_neg (by simp [hweb])
  unfold State.afterLines
  rw [hswitch, hmode]
  exact cal_of_keeps (State.snapStep_keeps (State.endStrip_keeps (Keeps.refl u)))

theorem calTimedTrigger_counts {s : State} (hline : s.sys.lineMode = .calibrate) (hweb : s.sys.mode.isWeb = false) (t0 : Nat) :
    ∃ u : State, exec (.calTimedTrigger t0) s = .next u ∧ u.cal.cln = (s.cal.cln + 1) % 2 ^ 48 ∧ u.pos = s.pos := by
  have hframe : Keeps (fun x => x ≠ .pos ∧ x ≠ .deck ∧ x ≠ .sys) (s.advance t0) (s.advance t0).calTick := State.calTick_keeps (Keeps.refl _)
  have hsys : (s.advance t0).calTick.sys = s.sys := sys_of (hframe.same .sys (by simp))
  have hdeck : (s.advance t0).calTick.deck = s.deck := deck_of (hframe.same .deck (by simp))
  refine ⟨_, if_neg (by simp [hline]), ?_, (afterLines_frame _ s).pos.trans (pos_of (hframe.same .pos (by simp)))⟩
  rw [afterLines_cln (by rw [hdeck]) (by rw [hsys, hweb])]
  exact congrArg (fun n => (n + 1) % 2 ^ 48) (lineIntake_cln (s.advance t0) (s.advance t0).calSlot true)

/-- Settles O39: LINE_TRIGGER by the lines of its tick, FREE_RUN_LINE by the position that its line leaves, and CAL_TIMED_TRIGGER by what the
intake of a line counts. -/
theorem lineTriggersAdvanceTheThreshold : Obligations.LineTriggersAdvanceTheThreshold := by
  refine ⟨fun t0 s h => lineTrigger_idle h t0, fun t0 p s hweb hlead hfree hswap hpitch hp => ?_, fun t0 s h => freeRunLine_idle h t0,
    fun t0 a l s hweb hlead hfree hswap hperiod hlast hdue => ?_, fun t0 s hweb hlead hfree hperiod => freeRunLine_waits hweb hlead hfree hperiod t0,
    fun t0 s hline hweb => calTimedTrigger_counts hline hweb t0, fun t0 s h => if_pos h⟩
  · subst hp
    obtain ⟨u, n, hexec, hlines, hfires, hbelow, hleft⟩ := lineTrigger_fires hweb hlead hfree hswap hpitch t0
    obtain ⟨ht, hwln, hc, hi, hh, _, _, hnow⟩ := hlines
    exact ⟨u, n, hexec, ht.trans (congrArg (· + (n : Int) * s.camDeck.pitch) (idleTo_t ..)), hwln.trans (congrArg (fun w => (w + n) % 2 ^ 48) (idleTo_wln ..)),
      hnow, hc.trans (idleTo_c ..), hi, hh, hfires, hbelow, hleft⟩
  · obtain ⟨u, slot, o, hexec, hpos⟩ := freeRunLine_fires hweb hlead hfree hswap hperiod hlast hdue
    refine ⟨u, hexec, ?_, ?_, ?_, ?_, ?_, ?_⟩ <;> rw [hpos]
    exacts [fired_t .., fired_wln .., fired_c .., fired_i .., fired_h .., rfl]

end Sys2Proof.Machine
end

section
/-! SUPPORT. Proofs: encoders, tooth trains and serial inputs count into the position (R69-R84). -/

namespace Sys2Proof.Machine

/-! Levels and counts of an encoder (R69-R71). -/

theorem passLevel_passes {n t : Nat} {last : Option Nat} (h : ∀ x, last = some x → x + n < t) (old new : Bool) : passLevel n last t old new = new := by
  unfold passLevel filterPasses
  cases last with
  | none => rfl
  | some x => exact if_pos (decide_eq_true (h x rfl))

/-- Two levels that change at once count nothing (R71). -/
theorem quadCount_illegal {a b a' b' : Bool} (ha : a' ≠ a) (hb : b' ≠ b) : quadCount a b a' b' = none := by
  unfold quadCount
  rw [if_neg (fun h => ha h.1.symm), if_pos ⟨ha.symm, hb.symm⟩]

/-- Only unchanged levels count 0 (R70). -/
theorem quadCount_still {a b a' b' : Bool} (h : quadCount a b a' b' = some 0) : a' = a ∧ b' = b := by
  revert a b a' b'
  decide

theorem senseOf_zero (p : Container) (k : Nat) : p.senseOf k 0 = 0 := by
  unfold Container.senseOf
  split <;> rfl

/-- A count enters the Z period, unless an edge of its tick closed that period (R73). -/
theorem zAdd_zNet (e : Encoder) (n : Int) (t : Nat) : (e.zAdd n t).zNet = e.zNet + if e.lastZ = some t then 0 else n := by
  unfold Encoder.zAdd
  dsimp only
  split
  · exact (Int.add_zero _).symm
  · rfl

theorem zAdd_levels (e : Encoder) (n : Int) (t : Nat) : (e.zAdd n t).a = e.a ∧ (e.zAdd n t).b = e.b ∧ (e.zAdd n t).illegal = e.illegal := by
  unfold Encoder.zAdd
  dsimp only
  split <;> exact ⟨rfl, rfl, rfl⟩

theorem updEnc_enc {s : State} {k : Nat} (h : k < s.pos.enc.length) (f : Encoder → Encoder) : getN (s.updEnc k f).pos.enc k {} = f (getN s.pos.enc k {}) :=
  getN_upd _ _ _ _ h

theorem updTth_tth {s : State} {k : Nat} (h : k < s.pos.tth.length) (f : Tooth → Tooth) : getN (s.updTth k f).pos.tth k {} = f (getN s.pos.tth k {}) :=
  getN_upd _ _ _ _ h

theorem updSenc_senc {s : State} {k : Nat} (h : k < s.pos.senc.length) (f : Serial → Serial) :
    getN (s.updSenc k f).pos.senc k {} = f (getN s.pos.senc k {}) :=
  getN_upd _ _ _ _ h

/-- Counts of a source move C where it is in service, by its own scale (R83, R84). -/
def State.counted (s : State) (src : Nat) (n : Int) : State := if s.pos.inService = some src then s.posStep n else s

theorem counted_moves (s : State) (src : Nat) (n : Int) :
    (s.counted src n).pos.c = (if s.pos.inService = some src then s.pos.c + n * s.profile.current.scale src else s.pos.c) ∧
      s.pos.SameInputs (s.counted src n).pos := by
  unfold State.counted
  split
  next h =>
    have hscale : s.srcScale = s.profile.current.scale src := by
      unfold State.srcScale
      rw [h]
    rw [← hscale]
    exact posStep_moves s n
  next => exact ⟨rfl, .rfl⟩

/-! ENCODER_EDGE (R70, R71). -/

theorem encoderEdge_absent {s : State} {k : Nat} (h : 2 ≤ k ∨ s.profile.current.encEn k = false ∨ s.posRuns = false) (a b : Bool) (t : Nat) (o : Bool) :
    exec (.encoderEdge k a b t o) s = .next s := if_pos (by simpa using h)

section
variable {s : State} {k : Nat} (hk : k < 2) (hen : s.profile.current.encEn k = true) (hrun : s.posRuns = true) (a b : Bool) (t0 : Nat)
include hk hen hrun

/-- A lost entry counts as such, and nowhere else (R26). -/
theorem encoderEdge_lost : ∃ u : State, exec (.encoderEdge k a b t0 true) s = .next u ∧ u.pos.c = s.pos.c ∧ u.pos.enc = s.pos.enc ∧
    u.pos.overflows = updAt s.pos.overflows k satInc := by
  obtain ⟨hc, hinputs⟩ := inputOverflow_pos (s.advance t0) k
  exact ⟨_, (if_neg (by simp [hk, hen, hrun])).trans (if_pos rfl), hc, hinputs.enc, hinputs.overflows⟩

variable {e : Encoder} (he : getN s.pos.enc k {} = e) {l : Bool × Bool} (hl : s.profile.current.encLevels k e a b (max s.now t0) = l)
include he hl

theorem encoderEdge_none (hq : quadCount e.a e.b l.1 l.2 = none) : exec (.encoderEdge k a b t0) s =
    .next (((s.advance t0).updEnc k (fun e => { e.levels l (max s.now t0) with illegal := satInc e.illegal })).inputOccur k 1) := by
  subst he hl
  show execEncoderEdge k a b t0 s = _
  unfold execEncoderEdge
  rw [if_neg (by simp [hk, hen, hrun])]
  dsimp only
  rw [if_neg Bool.false_ne_true]
  split
  next => rfl
  next h => cases h.symm.trans hq

theorem encoderEdge_some {n : Int} (hq : quadCount e.a e.b l.1 l.2 = some n) : exec (.encoderEdge k a b t0) s =
    .next (if n = 0 then s.advance t0 else
      ((s.advance t0).updEnc k (fun e => (e.levels l (max s.now t0)).zAdd (s.profile.current.senseOf k n) (max s.now t0))).counted k
        (s.profile.current.senseOf k n)) := by
  subst he hl
  show execEncoderEdge k a b t0 s = _
  unfold execEncoderEdge
  rw [if_neg (by simp [hk, hen, hrun])]
  dsimp only
  rw [if_neg Bool.false_ne_true]
  split
  next h => cases h.symm.trans hq
  next h =>
    obtain rfl := Option.some.inj (h.symm.trans hq)
    split <;> rfl

variable (hlen : k < s.pos.enc.length)
include hlen

/-- Two levels that change at once count ILLEGAL and move nothing (R71). -/
theorem encoderEdge_illegal (ha : l.1 ≠ e.a) (hb : l.2 ≠ e.b) : ∃ u : State, exec (.encoderEdge k a b t0) s = .next u ∧
    (getN u.pos.enc k {}).illegal = satInc e.illegal ∧ u.pos.c = s.pos.c := by
  have hexec := encoderEdge_none hk hen hrun a b t0 he hl (quadCount_illegal ha hb)
  obtain ⟨hc, hinputs⟩ := inputOccur_keepsCounts
    ((s.advance t0).updEnc k (fun e => { e.levels l (max s.now t0) with illegal := satInc e.illegal })) k 1
  refine ⟨_, hexec, ?_, hc⟩
  rw [hinputs.enc, updEnc_enc (s := s.advance t0) hlen, show getN (s.advance t0).pos.enc k {} = e from he]

/-- One level that changes is a count of the Z period and, in service, of C; without a change nothing counts (R70, R73, R83). -/
theorem encoderEdge_counts {n : Int} (hq : quadCount e.a e.b l.1 l.2 = some n) : ∃ u : State, exec (.encoderEdge k a b t0) s = .next u ∧
    (getN u.pos.enc k {}).a = l.1 ∧ (getN u.pos.enc k {}).b = l.2 ∧
    (getN u.pos.enc k {}).zNet = e.zNet + (if e.lastZ = some (max s.now t0) then 0 else s.profile.current.senseOf k n) ∧
    (getN u.pos.enc k {}).illegal = e.illegal ∧
    u.pos.c = if s.pos.inService = some k then s.pos.c + s.profile.current.senseOf k n * s.profile.current.scale k else s.pos.c := by
  have hexec := encoderEdge_some hk hen hrun a b t0 he hl hq
  by_cases hn : n = 0
  · subst hn
    obtain ⟨ha, hb⟩ := quadCount_still hq
    rw [if_pos rfl] at hexec
    refine ⟨_, hexec, ?_⟩
    rw [show getN (s.advance t0).pos.enc k {} = e from he, senseOf_zero]
    exact ⟨ha.symm, hb.symm, by simp, rfl, by simp [State.advance]⟩
  · rw [if_neg hn] at hexec
    obtain ⟨hc, hinputs⟩ := counted_moves
      ((s.advance t0).updEnc k (fun e => (e.levels l (max s.now t0)).zAdd (s.profile.current.senseOf k n) (max s.now t0))) k (s.profile.current.senseOf k n)
    obtain ⟨ha, hb, hillegal⟩ := zAdd_levels (e.levels l (max s.now t0)) (s.profile.current.senseOf k n) (max s.now t0)
    refine ⟨_, hexec, ?_⟩
    rw [hinputs.enc, updEnc_enc (s := s.advance t0) hlen, show getN (s.advance t0).pos.enc k {} = e from he]
    exact ⟨ha, hb, zAdd_zNet .., hillegal, hc⟩

end

/-! ENCODER_Z_EDGE and STALL_TIMEOUT (R73, R83). -/

/-- A closed period fails the check of R73: both its ends have been seen, no count was backward, and they are not ZREV. -/
def zFails (zrev : Nat) (e : Encoder) (last : Int) : Bool :=
  decide (zrev ≠ 0) && e.zSeen && !e.zBack && decide (last ≥ 0) && decide (e.zNet + last ≠ (zrev : Int))

theorem zFails_iff (zrev : Nat) (e : Encoder) (last : Int) :
    zFails zrev e last = true ↔ zrev ≠ 0 ∧ e.zSeen = true ∧ e.zBack = false ∧ 0 ≤ last ∧ e.zNet + last ≠ zrev := by
  simp [zFails, and_assoc]

theorem zFails_eq_false {zrev : Nat} {e : Encoder} {last : Int}
    (h : e.zSeen = false ∨ e.zBack = true ∨ last < 0 ∨ zrev = 0 ∨ e.zNet + last = zrev) : zFails zrev e last = false := by
  rw [← Bool.not_eq_true, zFails_iff]
  rintro ⟨hzrev, hseen, hforward, hsame, hnet⟩
  rcases h with h | h | h | h | h
  · exact absurd (h.symm.trans hseen) Bool.false_ne_true
  · exact absurd (hforward.symm.trans h) Bool.false_ne_true
  · omega
  · exact hzrev h
  · exact hnet h

/-- The encoder after a Z edge at tick t: a new period begins (R73). -/
def Encoder.zClosed (e : Encoder) (t : Nat) (bad : Bool) : Encoder :=
  { e with zNet := 0, zSeen := true, zBack := false, lastZ := some t, zcount := if bad then satInc e.zcount else e.zcount }

/-- The state after a Z edge, before its occurrence (R73). -/
def State.zEdge (s : State) (k t0 : Nat) (bad : Bool) : State :=
  ((s.advance t0).updEnc k (fun e => e.zClosed (max s.now t0) bad)).publish (0x04 + k) s.highWpos

section
variable {s : State} {k : Nat} (hk : k < 2) (hen : s.profile.current.encEn k = true) (hzen : s.profile.current.encZen k = true) (hrun : s.posRuns = true)
  {e : Encoder} (he : getN s.pos.enc k {} = e) (t0 : Nat)
include hk hen hzen hrun he

theorem encoderZEdge_filtered (hpass : risePasses (s.profile.current.encN k) e.lastZ (max s.now t0) = false) :
    exec (.encoderZEdge k t0) s = .next (s.advance t0) := by
  subst he
  exact (if_neg (by simp [hk, hen, hzen, hrun])).trans (if_pos (by rw [Bool.not_eq_true']; exact hpass))

/-- A Z edge that the filter passes closes the period, and the count of its own tick with it (R73). -/
theorem encoderZEdge_closes (hlen : k < s.pos.enc.length) (hpass : risePasses (s.profile.current.encN k) e.lastZ (max s.now t0) = true) :
    ∃ u : State, exec (.encoderZEdge k t0) s = .next u ∧
      getN u.pos.enc k {} = e.zClosed (max s.now t0) (zFails (s.profile.current.zrev k) e ((s.advance t0).sameTickCount k)) := by
  subst he
  generalize hbad : zFails (s.profile.current.zrev k) (getN s.pos.enc k {}) ((s.advance t0).sameTickCount k) = bad
  have hexec : exec (.encoderZEdge k t0) s = .next (if bad = true then (s.zEdge k t0 bad).inputOccur k 2 else s.zEdge k t0 bad) := by
    subst hbad
    exact (if_neg (by simp [hk, hen, hzen, hrun])).trans (if_neg (by rw [Bool.not_eq_true', Bool.not_eq_false]; exact hpass))
  have hedge : getN (s.zEdge k t0 bad).pos.enc k {} = (getN s.pos.enc k {}).zClosed (max s.now t0) bad := by
    rw [State.zEdge, publish_pos]
    exact updEnc_enc (s := s.advance t0) hlen _
  refine ⟨_, hexec, ?_⟩
  split
  · rw [(inputOccur_keepsCounts _ k 2).2.enc, hedge]
  · exact hedge

end

/-- A period with a backward count, without ZREV or without both its ends, and one of ZREV counts, leave ZCOUNT; any other counts there (R73). -/
theorem encoderZEdge_counts {s : State} {k : Nat} (hk : k < 2) (hen : s.profile.current.encEn k = true) (hzen : s.profile.current.encZen k = true)
    (hrun : s.posRuns = true) (hlen : k < s.pos.enc.length) (t0 : Nat)
    (hpass : risePasses (s.profile.current.encN k) (getN s.pos.enc k {}).lastZ (max s.now t0) = true) :
    let e := getN s.pos.enc k {}
    let last := (s.advance t0).sameTickCount k
    ∃ u : State, exec (.encoderZEdge k t0) s = .next u ∧ (getN u.pos.enc k {}).zNet = 0 ∧ (getN u.pos.enc k {}).zSeen = true ∧
      (getN u.pos.enc k {}).zBack = false ∧
      (e.zSeen = false ∨ e.zBack = true ∨ last < 0 ∨ s.profile.current.zrev k = 0 ∨ e.zNet + last = (s.profile.current.zrev k : Int) →
        (getN u.pos.enc k {}).zcount = e.zcount) ∧
      (e.zSeen = true → e.zBack = false → 0 ≤ last → s.profile.current.zrev k ≠ 0 → e.zNet + last ≠ (s.profile.current.zrev k : Int) →
        (getN u.pos.enc k {}).zcount = satInc e.zcount) := by
  obtain ⟨u, hexec, henc⟩ := encoderZEdge_closes hk hen hzen hrun rfl t0 hlen hpass
  refine ⟨u, hexec, ?_⟩
  rw [henc]
  refine ⟨rfl, rfl, rfl, fun hgood => ?_, fun hseen hforward hsame hzrev hnet => ?_⟩
  · rw [zFails_eq_false hgood]
    rfl
  · rw [(zFails_iff ..).mpr ⟨hzrev, hseen, hforward, hsame, hnet⟩]
    rfl

/-- STALL_TIMEOUT evaluates the position, and what follows the backlog moves nothing of it (R83, R89). -/
theorem stallTimeout_evaluates {s : State} (hrun : s.posRuns = true) (t0 : Nat) :
    let p := s.pos.idleTo s.camDeck (max s.now t0)
    ∃ u : State, exec (.stallTimeout t0) s = .next u ∧ u.now = max s.now t0 ∧ u.pos.c = s.pos.c ∧ u.pos.i = p.i ∧ u.pos.h = p.h ∧ u.pos.v = p.v := by
  obtain ⟨o, hpos⟩ := flagged_pos (s.advance t0).evaluated s.pos
  refine ⟨(s.advance t0).evaluated.backlogFlag.posChange s.pos, if_neg (by simp [hrun]), (flagged_lines (s.advance t0).evaluated s.pos).now, ?_⟩
  rw [hpos]
  exact ⟨idleTo_c .., rfl, rfl, rfl⟩

/-! TOOTH_EDGE (R74, R75, R77). -/

/-- A label enters the queue and measures the repeat before it; nothing else of the position moves (R77, R187). -/
theorem pushLabel_eq (p : PosState) (label : Int) : ∃ repeatNm repeatLens,
    p.pushLabel label = { p with refQueue := p.refQueue ++ [label], repeatNm := repeatNm, repeatLens := repeatLens } := by
  unfold PosState.pushLabel
  dsimp only
  split <;> exact ⟨_, _, rfl⟩

/-- The first reference of a train: the label is noted, and the count of its edges starts (R75, R77). -/
def State.referenced (s : State) (k : Nat) : State :=
  s.evaluated.updTth k (fun h => { h with edges := 0, haveRef := true, lastLabel := some (s.evaluated.liveWpos - s.profile.current.tthOff k) })

theorem referenced_refQueue (s : State) (k : Nat) : (s.referenced k).pos.refQueue = s.pos.refQueue := (idleTo_sameInputs ..).refQueue

theorem referenced_tth {s : State} {k : Nat} (h : k < s.pos.tth.length) :
    (getN (s.referenced k).pos.tth k {}).edges = 0 ∧ (getN (s.referenced k).pos.tth k {}).haveRef = true := by
  have htth : s.evaluated.pos.tth = s.pos.tth := (idleTo_sameInputs ..).tth
  unfold State.referenced
  rw [updTth_tth (by rw [htth]; exact h)]
  exact ⟨rfl, rfl⟩

/-- The state after a reference whose label enters the queue (R77). -/
def State.labelled (s : State) (k : Nat) : State :=
  { s.referenced k with pos := (s.referenced k).pos.pushLabel (s.evaluated.liveWpos - s.profile.current.tthOff k) }

/-- The label that enters is the live WPOS less the station offset (R77). -/
theorem labelled_pos (s : State) (k : Nat) : (s.labelled k).pos.tth = (s.referenced k).pos.tth ∧
    (s.labelled k).pos.refQueue = s.pos.refQueue ++ [(s.labelled k).liveWpos - s.profile.current.tthOff k] := by
  obtain ⟨repeatNm, repeatLens, hpush⟩ := pushLabel_eq (s.referenced k).pos (s.evaluated.liveWpos - s.profile.current.tthOff k)
  unfold State.labelled
  rw [hpush, ← referenced_refQueue s k]
  exact ⟨rfl, rfl⟩

/-- The first reference is taken without a count check (R75). -/
theorem toothReference_first {s : State} {k : Nat} (h : (getN s.pos.tth k {}).haveRef = false) : s.toothReference k =
    if s.camDeck.refSource = k ∧ (!s.isRetired 0x0A (2 + k)) = true then
      if s.pos.refQueue.length ≥ 16 then .fault (.misuse 77) else .next (s.labelled k)
    else .next (s.referenced k) := by
  rw [← referenced_refQueue s k]
  unfold State.toothReference
  dsimp only
  rw [h]
  rfl

theorem toothEdge_absent {s : State} {k : Nat} (h : 2 ≤ k ∨ s.profile.current.tthMode k = 0 ∨ s.teethRun = false) (t0 : Nat) (o : Bool) :
    exec (.toothEdge k t0 o) s = .next s := if_pos (by simpa using h)

/-- The state after a tooth edge at tick t that the filter passes (R74). -/
def State.toothCounted (s : State) (k t0 : Nat) (interval : Option Nat) : State :=
  (s.advance t0).updTth k (fun h => { h with lastEdge := some (max s.now t0), lastInterval := interval, edges := h.edges + 1 })

section
variable {s : State} {k : Nat} (hk : k < 2) (hmode : s.profile.current.tthMode k ≠ 0) (hrun : s.teethRun = true) (t0 : Nat)
include hk hmode hrun

theorem toothEdge_lost : ∃ u : State, exec (.toothEdge k t0 true) s = .next u ∧ u.pos.c = s.pos.c ∧ u.pos.tth = s.pos.tth ∧
    u.pos.overflows = updAt s.pos.overflows (2 + k) satInc := by
  obtain ⟨hc, hinputs⟩ := inputOverflow_pos (s.advance t0) (2 + k)
  exact ⟨_, (if_neg (by simp [hk, hmode, hrun])).trans (if_pos rfl), hc, hinputs.tth, hinputs.overflows⟩

variable {h : Tooth} (hh : getN s.pos.tth k {} = h)
include hh

theorem toothEdge_filtered (hpass : risePasses (s.profile.current.tthN k) h.lastEdge (max s.now t0) = false) :
    exec (.toothEdge k t0) s = .next (s.advance t0) := by
  subst hh
  exact (if_neg (by simp [hk, hmode, hrun])).trans ((if_neg Bool.false_ne_true).trans (if_pos (by rw [Bool.not_eq_true']; exact hpass)))

variable (hpass : risePasses (s.profile.current.tthN k) h.lastEdge (max s.now t0) = true)
include hpass

/-- Without an interval before it an edge is no reference (R74). -/
theorem toothEdge_unmeasured (hy : h.lastInterval = none) :
    exec (.toothEdge k t0) s = .next (s.toothCounted k t0 (h.lastEdge.map (max s.now t0 - ·))) := by
  show execToothEdge k t0 s = _
  unfold execToothEdge
  rw [if_neg (by simp [hk, hmode, hrun]), if_neg Bool.false_ne_true]
  dsimp only
  rw [show getN (s.advance t0).pos.tth k {} = h from hh, if_neg (by rw [Bool.not_eq_true', Bool.not_eq_false]; exact hpass), hy]
  cases h.lastEdge <;> rfl

theorem toothEdge_counts (hlen : k < s.pos.tth.length) (hy : h.lastInterval = none) : ∃ u : State, exec (.toothEdge k t0) s = .next u ∧
    (getN u.pos.tth k {}).lastEdge = some (max s.now t0) ∧ (getN u.pos.tth k {}).edges = h.edges + 1 ∧ u.pos.refQueue = s.pos.refQueue := by
  refine ⟨_, toothEdge_unmeasured hk hmode hrun t0 hh hpass hy, ?_⟩
  rw [State.toothCounted, updTth_tth (s := s.advance t0) hlen]
  exact ⟨rfl, congrArg (·.edges + 1) hh, rfl⟩

variable {l y : Nat} (hl : h.lastEdge = some l) (hy : h.lastInterval = some y)
  (href : isReference (s.profile.current.tthMode k) (s.profile.current.tthMissing k) (max s.now t0 - l) y = true)
include hl hy href

/-- An edge at which R74 finds a reference. -/
theorem toothEdge_reference : exec (.toothEdge k t0) s = (s.toothCounted k t0 (some (max s.now t0 - l))).toothReference k := by
  show execToothEdge k t0 s = _
  unfold execToothEdge
  rw [if_neg (by simp [hk, hmode, hrun]), if_neg Bool.false_ne_true]
  dsimp only
  rw [show getN (s.advance t0).pos.tth k {} = h from hh, if_neg (by rw [Bool.not_eq_true', Bool.not_eq_false]; exact hpass), hl, hy]
  exact if_pos href

/-- The first reference of a train, by its place among the references of the deck (R75, R77, R78). -/
theorem toothEdge_firstReference (hlen : k < s.pos.tth.length) (hfirst : h.haveRef = false) : exec (.toothEdge k t0) s =
    if s.camDeck.refSource = k ∧ (!s.isRetired 0x0A (2 + k)) = true then
      if s.pos.refQueue.length ≥ 16 then .fault (.misuse 77) else .next ((s.toothCounted k t0 (some (max s.now t0 - l))).labelled k)
    else .next ((s.toothCounted k t0 (some (max s.now t0 - l))).referenced k) := by
  rw [toothEdge_reference hk hmode hrun t0 hh hpass hl hy href]
  refine toothReference_first ?_
  rw [State.toothCounted, updTth_tth (s := s.advance t0) hlen]
  exact (congrArg Tooth.haveRef hh).trans hfirst

/-- The first reference starts the count of edges; on REF_SOURCE its label enters the queue, which must have room (R75, R77, R78). -/
theorem toothEdge_references (hlen : k < s.pos.tth.length) (hfirst : h.haveRef = false) :
    (s.camDeck.refSource ≠ k → ∃ u : State, exec (.toothEdge k t0) s = .next u ∧ (getN u.pos.tth k {}).edges = 0 ∧ (getN u.pos.tth k {}).haveRef = true ∧
      u.pos.refQueue = s.pos.refQueue) ∧
    (s.camDeck.refSource = k → s.isRetired 0x0A (2 + k) = false → s.pos.refQueue.length < 16 → ∃ u : State, exec (.toothEdge k t0) s = .next u ∧
      (getN u.pos.tth k {}).edges = 0 ∧ u.pos.refQueue = s.pos.refQueue ++ [u.liveWpos - s.profile.current.tthOff k]) ∧
    (s.camDeck.refSource = k → s.isRetired 0x0A (2 + k) = false → 16 ≤ s.pos.refQueue.length → exec (.toothEdge k t0) s = .fault (.misuse 77)) := by
  have hexec := toothEdge_firstReference hk hmode hrun t0 hh hpass hl hy href hlen hfirst
  obtain ⟨hedges, hhave⟩ := referenced_tth (s := s.toothCounted k t0 (some (max s.now t0 - l))) (hlen.trans_eq (length_updAt ..).symm)
  refine ⟨fun hother => ?_, fun hsource hin hroom => ?_, fun hsource hin hfull => ?_⟩
  · rw [if_neg (fun hboth => hother hboth.1)] at hexec
    exact ⟨_, hexec, hedges, hhave, referenced_refQueue ..⟩
  · rw [if_pos ⟨hsource, by simp [hin]⟩, if_neg (by omega)] at hexec
    obtain ⟨htth, hqueue⟩ := labelled_pos (s.toothCounted k t0 (some (max s.now t0 - l))) k
    exact ⟨_, hexec, by rw [htth, hedges], hqueue⟩
  · rw [if_pos ⟨hsource, by simp [hin]⟩, if_pos hfull] at hexec
    exact hexec

end

/-! SERIAL_POLL, SERIAL_WORD and SERIAL_TIMEOUT (R79-R81). -/

/-- A failed read counts, is read again once, and moves nothing (R81). -/
theorem serialFail_counts {s : State} {k : Nat} (h : k < s.pos.senc.length) (code : Nat) (f : Serial → Serial) :
    getN (s.serialFail k code f).pos.senc k {} = { f (getN s.pos.senc k {}) with
      busy := !(getN s.pos.senc k {}).reread, reread := !(getN s.pos.senc k {}).reread, since := s.now } ∧
    (s.serialFail k code f).pos.c = s.pos.c := by
  unfold State.serialFail
  dsimp only
  obtain ⟨hc, hinputs⟩ := inputOccur_keepsCounts (s.updSenc k (fun e => { f e with
    busy := !(getN s.pos.senc k {}).reread, reread := !(getN s.pos.senc k {}).reread, since := s.now })) (4 + k)
      (if (getN s.pos.senc k {}).reread = true then 7 else code)
  rw [hinputs.senc, hc, updSenc_senc h]
  exact ⟨rfl, rfl⟩

theorem serialPoll_starts {s : State} {k : Nat} (hk : k < 2) (hen : s.profile.current.sencEn k = true) (hrun : s.posRuns = true)
    (hlen : k < s.pos.senc.length) (t0 : Nat) : ∃ u : State, exec (.serialPoll k t0) s = .next u ∧ (getN u.pos.senc k {}).busy = true ∧
      (getN u.pos.senc k {}).reread = false ∧ (getN u.pos.senc k {}).since = max s.now t0 ∧ u.pos.c = s.pos.c := by
  refine ⟨_, if_neg (by simp [hk, hen, hrun]), ?_⟩
  rw [updSenc_senc (s := s.advance t0) hlen]
  exact ⟨rfl, rfl, rfl, rfl⟩

/-- The state with a good word of serial input k taken (R81). -/
def State.wordTaken (s : State) (k : Nat) (w : SerialWordIn) : State :=
  s.updSenc k (fun e => { e with lastPos := some (w.pos % 2 ^ s.profile.current.sencBits k), busy := false, reread := false })

/-- The counts of a good binary word of serial input k, with the sense that DIR gives them (R81, R96). -/
def State.wordCounts (s : State) (k : Nat) (w : SerialWordIn) : Int :=
  let d := (getN s.pos.senc k {}).step (s.profile.current.sencBits k) (w.pos % 2 ^ s.profile.current.sencBits k)
  if s.profile.current.sencDir k = true then -d else d

/-- Without a read under way there is no word and no timeout (R79). -/
theorem serial_idle {s : State} {k : Nat} (h : (getN s.pos.senc k {}).busy = false) (t0 : Nat) (w : SerialWordIn) :
    exec (.serialWord k w t0) s = .next s ∧ exec (.serialTimeout k t0) s = .next s :=
  ⟨if_pos (by simp [h]), if_pos (by simp [h])⟩

/-- A read that begins in this tick has not timed out (R21, R80). -/
theorem serialTimeout_early {s : State} {k t0 : Nat} (h : max s.now t0 ≤ (getN s.pos.senc k {}).since) : exec (.serialTimeout k t0) s = .next s :=
  if_pos (.inr (.inr (.inr h)))

section
variable {s : State} {k : Nat} (hk : k < 2) (hrun : s.posRuns = true) (hbusy : (getN s.pos.senc k {}).busy = true) (t0 : Nat)
include hk hrun hbusy

theorem serialTimeout_fails (h : (getN s.pos.senc k {}).since < max s.now t0) :
    exec (.serialTimeout k t0) s = .next ((s.advance t0).serialFail k 6 (fun e => { e with timeout := satInc e.timeout })) := by
  refine if_neg ?_
  rintro (habsent | hreset | hidle | hearly)
  · omega
  · simp [hrun] at hreset
  · simp [hbusy] at hidle
  · omega

variable {w : SerialWordIn}

theorem serialWord_lost (ho : w.overflow = true) : ∃ u : State, exec (.serialWord k w t0) s = .next u ∧ u.pos.c = s.pos.c ∧ u.pos.senc = s.pos.senc ∧
    u.pos.overflows = updAt s.pos.overflows (4 + k) satInc := by
  obtain ⟨hc, hinputs⟩ := inputOverflow_pos (s.advance t0) (4 + k)
  exact ⟨_, (if_neg (by simp [hk, hrun, hbusy])).trans (if_pos ho), hc, hinputs.senc, hinputs.overflows⟩

variable (hlen : k < s.pos.senc.length)
include hlen

/-- A missing word counts TIMEOUT (R81). -/
theorem serialTimeout_counts (h : (getN s.pos.senc k {}).since < max s.now t0) : ∃ u : State, exec (.serialTimeout k t0) s = .next u ∧
    (getN u.pos.senc k {}).timeout = satInc (getN s.pos.senc k {}).timeout ∧ (getN u.pos.senc k {}).busy = !(getN s.pos.senc k {}).reread ∧
    u.pos.c = s.pos.c := by
  obtain ⟨hsenc, hc⟩ := serialFail_counts (s := s.advance t0) hlen 6 (fun e => { e with timeout := satInc e.timeout })
  refine ⟨_, serialTimeout_fails hk hrun hbusy t0 h, ?_⟩
  rw [hsenc]
  exact ⟨rfl, rfl, hc⟩

variable (ho : w.overflow = false) (hbiss : s.profile.current.sencBiss k = true)
include ho hbiss

/-- A word that fails its CRC counts CRC (R80, R81). -/
theorem serialWord_badCrc (hcrc : w.crc ≠ bissCrc (s.profile.current.sencBits k) w.pos w.nE w.nW) :
    ∃ u : State, exec (.serialWord k w t0) s = .next u ∧ (getN u.pos.senc k {}).crc = satInc (getN s.pos.senc k {}).crc ∧
      (getN u.pos.senc k {}).busy = !(getN s.pos.senc k {}).reread ∧ u.pos.c = s.pos.c := by
  obtain ⟨hsenc, hc⟩ := serialFail_counts (s := s.advance t0) hlen 4 (fun e => { e with crc := satInc e.crc })
  refine ⟨_, (if_neg (by simp [hk, hrun, hbusy])).trans ((if_neg (by simp [ho])).trans (if_pos (by simp [hbiss, hcrc]))), ?_⟩
  rw [hsenc]
  exact ⟨rfl, rfl, hc⟩

/-- A good word is the latest, and its distance from the word before counts (R80, R81, R83). -/
theorem serialWord_good (hcrc : w.crc = bissCrc (s.profile.current.sencBits k) w.pos w.nE w.nW) (hnE : w.nE = true) (hnW : w.nW = true) :
    ∃ u : State, exec (.serialWord k w t0) s = .next u ∧ (getN u.pos.senc k {}).busy = false ∧
      (getN u.pos.senc k {}).lastPos = some (w.pos % 2 ^ s.profile.current.sencBits k) ∧
      u.pos.c = if s.pos.inService = some (2 + k) then s.pos.c + s.wordCounts k w * s.profile.current.scale (2 + k) else s.pos.c := by
  have hexec : exec (.serialWord k w t0) s = .next (((s.advance t0).wordTaken k w).counted (2 + k) (s.wordCounts k w)) := by
    show execSerialWord k w t0 s = _
    unfold execSerialWord
    rw [if_neg (by simp [hk, hrun, hbusy])]
    dsimp only
    rw [if_neg (by simp [ho]), if_neg (by simp [hcrc]), hbiss, hnE, hnW]
    rfl
  obtain ⟨hc, hinputs⟩ := counted_moves ((s.advance t0).wordTaken k w) (2 + k) (s.wordCounts k w)
  refine ⟨_, hexec, ?_⟩
  rw [hinputs.senc, State.wordTaken, updSenc_senc (s := s.advance t0) hlen]
  exact ⟨rfl, rfl, hc⟩

end

/-- Settles O38: each input by what its command does to its counts, and the position by what the source in service counts. -/
theorem positionInputsCount : Obligations.PositionInputsCount := by
  refine ⟨fun k t a b o s h => encoderEdge_absent h a b t o, fun k t0 a b n0 s hlen hk hen hrun hq => encoderEdge_counts hk hen hrun a b t0 rfl rfl hlen hq,
    fun k t0 a b s hlen hk hen hrun ha hb => encoderEdge_illegal hk hen hrun a b t0 rfl rfl hlen ha hb,
    fun p k t a b e ha hb => Prod.ext (passLevel_passes ha ..) (passLevel_passes hb ..),
    fun k t0 s hlen hk hen hzen hrun => ⟨encoderZEdge_filtered hk hen hzen hrun rfl t0, encoderZEdge_counts hk hen hzen hrun hlen t0⟩,
    fun t0 s hrun => stallTimeout_evaluates hrun t0, fun k t0 o s h => toothEdge_absent h t0 o,
    fun k t0 s hk hmode hrun => toothEdge_filtered hk hmode hrun t0 rfl,
    fun k t0 s hlen hk hmode hrun hpass => toothEdge_counts hk hmode hrun t0 rfl hpass hlen,
    fun k t0 l y s hlen hk hmode hrun hl hy hpass href => toothEdge_references hk hmode hrun t0 rfl (hl.symm ▸ hpass) hl hy href hlen,
    fun k t0 s hlen hk hen hrun => serialPoll_starts hk hen hrun hlen t0,
    fun k t0 w s hlen hk hrun hbusy => ⟨serialWord_good hk hrun hbusy t0 hlen, serialWord_badCrc hk hrun hbusy t0 hlen,
      serialTimeout_counts hk hrun hbusy t0 hlen, serialTimeout_early⟩,
    fun k t0 w s h => serial_idle h t0 w,
    fun k t0 a b w s hk hrun => ⟨fun hen => encoderEdge_lost hk hen hrun a b t0, fun hmode hteeth => toothEdge_lost hk hmode hteeth t0,
      fun hbusy => serialWord_lost hk hrun hbusy t0⟩⟩

end Sys2Proof.Machine
end

section
/-! SUPPORT. Proofs: web lines leave geometry and Span (R137, R143, R148). -/

namespace Sys2Proof.Machine

-- One proof at a time, as in the `Keeps` laws: the joined text leaves no memory for a thread to each.
set_option Elab.async false

/-- What an operation that may change every part but one leaves. -/
theorem Keeps.kept {x : Part} {s t : State} (h : Keeps (· ≠ x) s t) : samePart x s t := h.same x (not_not.mpr rfl)

/-! A snapshot that a line completes takes its parts from the web path and leaves it as it is (R33). -/

section
variable (s : State)

@[simp] theorem snapStep_pos : s.snapStep.pos = s.pos := pos_of (State.snapStep_keeps (.refl s)).kept
@[simp] theorem snapStep_intake : s.snapStep.intake = s.intake := intake_of (State.snapStep_keeps (.refl s)).kept
@[simp] theorem snapStep_span : s.snapStep.span = s.span := span_of (State.snapStep_keeps (.refl s)).kept
@[simp] theorem snapStep_cmp : s.snapStep.cmp = s.cmp := cmp_of (State.snapStep_keeps (.refl s)).kept
@[simp] theorem snapStep_seg : s.snapStep.seg = s.seg := seg_of (State.snapStep_keeps (.refl s)).kept

/-- SAFE_HOLD leaves the lines where they wait (R553). -/
@[simp] theorem settle_span : s.settle.span = s.span := span_of (State.settle_keeps (.refl s)).kept
@[simp] theorem settle_cmp : s.settle.cmp = s.cmp := cmp_of (State.settle_keeps (.refl s)).kept

end

/-! Geometry (R137). -/

/-- Without a line, and until the oldest is ready, nothing leaves geometry (R137). -/
theorem geometryLeaves_waits {s : State} (h : s.intake.slots = [] ∨
    ∃ x rest, s.intake.slots = x :: rest ∧ s.geometryReady x.1 x.2.1 (s.deckOf x.2.2.epoch) = false) (hits : List (Nat × EccHit)) :
    s.geometryLeaves hits = s := by
  unfold State.geometryLeaves
  rcases h with h | ⟨⟨ser, strip, l⟩, rest, h, hready⟩ <;> rw [h]
  exact if_pos (by rw [hready]; rfl)

theorem geometryLine_waits {s : State} (h : s.intake.slots = [] ∨
    ∃ x rest, s.intake.slots = x :: rest ∧ s.geometryReady x.1 x.2.1 (s.deckOf x.2.2.epoch) = false) (hits : List (Nat × EccHit)) :
    ∃ t : State, exec (.geometryLine hits) s = .next t ∧ t.intake = s.intake ∧ t.span = s.span :=
  ⟨s.snapStep, congrArg (fun u : State => Host.Outcome.next u.snapStep) (geometryLeaves_waits h hits), snapStep_intake s, snapStep_span s⟩

section
variable {s : State} {ser strip : Nat} {l : LineSlot} {rest : List (Nat × Nat × LineSlot)} (h : s.intake.slots = (ser, strip, l) :: rest)
  (hready : s.geometryReady ser strip (s.deckOf l.epoch) = true)
include h hready

/-- A line that is ready goes from intake to Span with its camera parts; the ECC errors met on the way, CALIBRATE's phase and the clip counters leave
what Span holds (R137, R147). -/
theorem geometryLeaves_ready (hits : List (Nat × EccHit)) :
    ∃ u : State, u.span = s.span ∧ s.geometryLeaves hits = ({ u with
      intake := { u.intake with slots := rest }
      span := { u.span with fromGeometry := u.span.fromGeometry ++ [(ser, strip, l, (upto (s.deckOf l.epoch).ncam).map (fun k =>
        ((hits.foldl (fun x h => x.geometryHit (s.deckOf l.epoch) ser h) s).camSpan (s.deckOf l.epoch) ser k).1))] } } : State).trimLines ser := by
  unfold State.geometryLeaves
  rw [h]
  dsimp only
  rw [if_neg (by rw [hready]; decide), List.map_map]
  refine ⟨_, span_of (Keeps.kept (Keeps.forEach (fun _ _ k hk => ?_) (.ite (State.calLine_keeps ?_ strip) ?_))), rfl⟩
  · exact .ite (State.updCam_keeps hk _ _) hk
  all_goals exact Keeps.foldl (fun _ _ x hx => State.geometryHit_keeps hx _ ser x) (.refl s)

theorem geometryLine_leaves (hits : List (Nat × EccHit)) :
    ∃ t : State, exec (.geometryLine hits) s = .next t ∧ t.intake.slots = rest ∧ t.pos = s.pos ∧
      t.span.fromGeometry = s.span.fromGeometry ++ [(ser, strip, l, (upto (s.deckOf l.epoch).ncam).map (fun k =>
        ((hits.foldl (fun x h => x.geometryHit (s.deckOf l.epoch) ser h) s).camSpan (s.deckOf l.epoch) ser k).1))] := by
  have hpos : (s.geometryLeaves hits).pos = s.pos := pos_of (State.geometryLeaves_keeps (.refl s) hits).kept
  obtain ⟨u, hspan, hu⟩ := geometryLeaves_ready h hready hits
  refine ⟨_, rfl, ?_, (snapStep_pos _).trans hpos, ?_⟩
  · rw [snapStep_intake, hu]
    rfl
  · rw [snapStep_span, hu, ← hspan]
    rfl

end

/-! Span (R143, R148). -/

/-- The web line that Span makes of a line and its camera parts (R143); a line of R89 is VOID over the web's width. -/
def State.webLine (s : State) (e : Option Nat) (ser strip : Nat) (l : LineSlot) (parts : List CamSpan) : WebLine :=
  let d := s.deckOf l.epoch
  let out := Sys2Proof.Machine.spanLine d s.profile.current parts e
  { ser := ser, strip := strip, slot := l, planes := out.1, gens := lineGens d parts
    voids := if l.overspeed then [{ x0 := 0, x1 := d.width - 1, cause := 3 }] else out.2 }

theorem spanEmitLine_idle {s : State} (h : s.span.fromGeometry = []) (e : Option Nat) :
    ∃ t : State, exec (.spanEmitLine e) s = .next t ∧ t.span = s.span ∧ t.cmp = s.cmp := by
  have hnone : s.spanLine e = s := by unfold State.spanLine; rw [h]
  refine ⟨_, rfl, ?_, ?_⟩ <;> simp [hnone]

section
variable {s : State} {ser strip : Nat} {l : LineSlot} {parts : List CamSpan} {rest : List (Nat × Nat × LineSlot × List CamSpan)}
  (h : s.span.fromGeometry = (ser, strip, l, parts) :: rest)
include h

/-- The line goes to the statistics stage and, outside CALIBRATE, to the compare stage; an overlap-buffer error counts (R143, R148). -/
theorem spanEmit_span (e : Option Nat) : ∃ fallback, (s.spanEmit e).span = { s.span with
    fromGeometry := rest, fallback := fallback, unc := if e.isSome then satInc s.span.unc else s.span.unc
    toStats := s.span.toStats ++ [s.webLine e ser strip l parts]
    toCompare := if l.mode == .calibrate then s.span.toCompare else s.span.toCompare ++ [s.webLine e ser strip l parts] } := by
  unfold State.spanEmit
  rw [h]
  dsimp -zeta only
  extract_lets _ _ _ w _ _ sp s1
  refine ⟨sp.fallback, ?_⟩
  have hline : s1.span = { sp with
      toCompare := if l.mode == .calibrate then s.span.toCompare else s.span.toCompare ++ [s.webLine e ser strip l parts] } := by
    unfold s1
    split
    · rfl
    · exact span_of (State.codecLine_keeps (.refl _) w).kept
  cases e with
  | none => exact hline
  | some seam => exact (span_of (State.occurEssential_keeps (.refl s1) 3 0 1 0 _).kept).trans hline

theorem spanEmitLine_emits (e : Option Nat) :
    ∃ (t : State) (w : WebLine), exec (.spanEmitLine e) s = .next t ∧ t.span.fromGeometry = rest ∧ t.span.toStats = s.span.toStats ++ [w] ∧
      w.ser = ser ∧ w.strip = strip ∧ w.slot = l ∧ w.planes = (spanLine (s.deckOf l.epoch) s.profile.current parts e).1 ∧
      (l.overspeed = false → w.voids = (spanLine (s.deckOf l.epoch) s.profile.current parts e).2) ∧
      (l.overspeed = true → w.voids = [{ x0 := 0, x1 := (s.deckOf l.epoch).width - 1, cause := 3 }]) ∧
      (l.mode = .calibrate → t.span.toCompare = s.span.toCompare) ∧ (l.mode ≠ .calibrate → t.span.toCompare = s.span.toCompare ++ [w]) ∧
      t.span.unc = (if e = none then s.span.unc else satInc s.span.unc) := by
  have hnote : (s.spanLine e).span = (s.spanEmit e).span := by
    unfold State.spanLine
    rw [h]
    exact span_of (Keeps.kept (.ite (.refl _) (State.noteRepeat_keeps (.refl _) l)))
  obtain ⟨fallback, hspan⟩ := spanEmit_span h e
  have hspan' : (s.spanLine e).snapStep.settle.span = (s.spanEmit e).span := by rw [settle_span, snapStep_span, hnote]
  rw [hspan] at hspan'
  refine ⟨_, s.webLine e ser strip l parts, rfl, ?_, ?_, rfl, rfl, rfl, rfl, fun ho => if_neg (by simp [ho]), fun ho => if_pos ho,
    fun hm => ?_, fun hm => ?_, ?_⟩ <;> rw [hspan']
  · exact if_pos (by simp [hm])
  · exact if_neg (by simpa using hm)
  · cases e <;> rfl

end

end Sys2Proof.Machine
end

section
/-! SUPPORT. Proofs: web lines through the compare stage (R189-R201, R206, R213, R228, R458). -/

namespace Sys2Proof.Machine

set_option Elab.async false

/-! Registration and learning leave the lines that wait for the segmenter. -/

theorem regLine_out (s : State) (ser : Nat) (l : LineSlot) : (s.regLine ser l).cmp.out = s.cmp.out := by
  unfold State.regLine
  extract_lets d _ _ s0 s1
  have h0 : s0.cmp.out = s.cmp.out := by
    unfold s0
    dsimp only
    split <;> rfl
  have h1 : Keeps (· ≠ .cmp) s0 s1 := .ite (State.loseLock_keeps (.refl s0) l 3) (.refl s0)
  refine Eq.trans (congrArg CmpState.out ?_) h0
  split
  · exact cmp_of h1.kept
  next o _ =>
    extract_lets s2 s3 c start
    have h2 : Keeps (· ≠ .cmp) s0 s2 := .ite h1 (State.stretchTest_keeps h1 d o l)
    have h3 : Keeps (· ≠ .cmp) s0 s3 := by
      unfold s3
      split
      · exact .ite h2 (State.rowForce_keeps h2 d l _)
      · exact h2
    exact cmp_of h3.kept

theorem compareOne_out (s : State) (w : WebLine) (force : Option Nat) : (s.compareOne w force).1.cmp.out = s.cmp.out := by
  unfold State.compareOne
  extract_lets _ d warps _ _ _ _ _ causes _ _ _ _ _ _ s1
  have hlearn : Keeps (· ≠ .cmp) s1 (s1.learnPixels d.learnStep w causes warps (upto d.width)) := State.learnPixels_keeps (.refl s1) ..
  exact (congrArg CmpState.out (cmp_of hlearn.kept)).trans rfl

theorem bestCause_isSome {l : List Nat} (h : l ≠ []) : (bestCause l).isSome = true := by
  cases l with
  | nil => exact absurd rfl h
  | cons c r =>
    unfold bestCause
    split <;> rfl

/-- A line that a buffer error covers has no pixel compared (R228). -/
theorem compareOne_forced (s : State) (w : WebLine) (cause : Nat) : ∀ x ∈ (s.compareOne w (some cause)).2.cells, x = (3, 0, 0) := by
  unfold State.compareOne
  extract_lets _ d _ _ band _ full _ _ norm compared cells
  have hfull : full.isSome = true := bestCause_isSome (by simp)
  have hcompared : ¬ compared = true := by
    show ¬ (full.isNone && !norm.2) = true
    simp [Option.isNone_eq_false_iff.mpr hfull]
  have hcells : cells = List.replicate d.width (3, 0, 0) := by
    unfold cells
    clear_value band compared
    cases band with
    | none => rfl
    | some b => exact if_neg hcompared
  intro x hx
  exact List.eq_of_mem_replicate (hcells ▸ hx)

/-! COMPARE_LINE (R206). -/

theorem compareLine_idle {s : State} (h : s.span.toCompare = []) (a b : Bool) (hits : List BandHit) (n : Nat) :
    ∃ t : State, exec (.compareLine a b hits n) s = .next t ∧ t.span = s.span ∧ t.cmp = s.cmp := by
  have hline : s.comparedLine a b hits n = s := by
    have hstep : State.compareStep a b hits n s = s := by unfold State.compareStep; rw [h]
    unfold State.comparedLine
    rw [hstep, h]
    exact if_neg (by simp)
  refine ⟨s, ?_, rfl, rfl⟩
  show execCompareLine a b s hits n = _
  unfold execCompareLine
  rw [hline, h]
  rfl

section
variable {s : State} {w : WebLine} {rest : List WebLine} (h : s.span.toCompare = w :: rest)
include h

/-- One line through the compare stage: it leaves Span and joins the lines that wait for the segmenter (R206). -/
theorem compareStep_takes (a b : Bool) (hits : List BandHit) (n : Nat) : ∃ c : CompLine,
    (State.compareStep a b hits n s).span = { s.span with toCompare := rest } ∧ (State.compareStep a b hits n s).cmp.out = s.cmp.out ++ [c] ∧
      c.ser = w.ser ∧ c.strip = w.strip ∧ c.slot = w.slot ∧ (a = true → ∀ x ∈ c.cells, x = (3, 0, 0)) := by
  unfold State.compareStep
  rw [h]
  dsimp -zeta only
  extract_lets _ _ _ s0 d s1 r _ _ s2 s3
  have hregistered : Keeps (· ≠ .cmp) (s0.regLine w.ser w.slot) s1 := State.bandErrors_keeps (State.switchBand_keeps (.refl _) d w.slot) w.slot hits
  have hout : r.1.cmp.out = s.cmp.out := calc
    r.1.cmp.out = s1.cmp.out := compareOne_out ..
    _ = (s0.regLine w.ser w.slot).cmp.out := congrArg CmpState.out (cmp_of hregistered.kept)
    _ = s.cmp.out := regLine_out ..
  have hspan : r.1.span = s0.span := span_of (State.compareOne_keeps
    (State.bandErrors_keeps (State.switchBand_keeps (State.regLine_keeps (.refl s0) w.ser w.slot) d w.slot) w.slot hits) w _).kept
  have h3 : Keeps (fun x => x ≠ .span ∧ x ≠ .cmp) s2 s3 := .ite (State.occur_keeps (.refl s2) 4 0 1 0 _) (.refl s2)
  have hend : Keeps (fun x => x ≠ .span ∧ x ≠ .cmp) s2 (if b then (s3.occur 4 0 2 0 (w.slot.wln, w.slot.wpos)).2 else s3) :=
    .ite (State.occur_keeps h3 4 0 2 0 _) h3
  refine ⟨r.2, (span_of (hend.same .span (by simp))).trans hspan, ?_, rfl, rfl, rfl, ?_⟩
  · exact (congrArg CmpState.out (cmp_of (hend.same .cmp (by simp)))).trans (congrArg (· ++ [r.2]) hout)
  · rintro rfl
    exact compareOne_forced s1 w 1

theorem compareLine_takes (a b : Bool) (hits : List BandHit) (n : Nat) :
    ∃ (t : State) (c : CompLine), exec (.compareLine a b hits n) s = .next t ∧ t.span.toCompare = rest ∧ t.span.toStats = s.span.toStats ∧
      t.cmp.out = s.cmp.out ++ [c] ∧ c.ser = w.ser ∧ c.strip = w.strip ∧ c.slot = w.slot ∧ t.pos = s.pos ∧ t.intake = s.intake ∧
      (a = true → ∀ x ∈ c.cells, x = (3, 0, 0)) := by
  obtain ⟨c, hspan, hout, hser, hstrip, hslot, hcells⟩ := compareStep_takes h a b hits n
  have hleft : Keeps (fun x => x ≠ .span ∧ x ≠ .cmp) (State.compareStep a b hits n s) (s.comparedLine a b hits n).sendSeam.snapStep :=
    State.snapStep_keeps (State.sendSeam_keeps (.ite (State.shiftField_keeps (.refl _) _) (.refl _)))
  have hframe : Keeps (fun x => x ≠ .pos ∧ x ≠ .intake) s (s.comparedLine a b hits n).sendSeam.snapStep :=
    State.snapStep_keeps (State.sendSeam_keeps (State.comparedLine_keeps (.refl s) a b hits n))
  have hspan' := (span_of (hleft.same .span (by simp))).trans hspan
  refine ⟨_, c, ?_, by rw [hspan'], by rw [hspan'],
    (congrArg CmpState.out (cmp_of (hleft.same .cmp (by simp)))).trans hout, hser, hstrip, hslot, pos_of (hframe.same .pos (by simp)),
    intake_of (hframe.same .intake (by simp)), hcells⟩
  exact congrArg Host.Outcome.next (if_neg (by simp [h]))

end

end Sys2Proof.Machine
end

section
/-! SUPPORT. Proofs: web lines into the statistics of their strip (R154, R157, R581). -/

namespace Sys2Proof.Machine

set_option Elab.async false

theorem flushStats_cur (n : Nat) (s : State) : (s.flushStats n).stats.cur = s.stats.cur := by
  induction n generalizing s with
  | zero => rfl
  | succ n ih =>
    unfold State.flushStats
    split
    · rfl
    · extract_lets _ _ _ _ block _ s1 s2
      have h1 : s1.stats = s.stats := by
        unfold s1
        clear_value block
        cases block <;> rfl
      have h2 : s2.stats = s1.stats := stats_of (State.post_keeps (.refl s1) _).kept
      split
      · rfl
      · refine (ih _).trans ?_
        show s2.stats.cur = s.stats.cur
        rw [h2, h1]

theorem statsReady_cur (s : State) : s.statsReady.stats.cur = s.stats.cur :=
  (congrArg StatsState.cur (stats_of (State.pruneStrips_keeps (.refl _)).kept)).trans (flushStats_cur ..)

section
variable {s : State} {x : StripStats} {p : Strip} (hcur : s.stats.cur = some x) (hstrip : s.strip x.strip = some p)
include hcur hstrip

/-- A strip stays open while lines, or camera lines, of it are still to come (R157). -/
theorem endStrip_open (h : p.ended = false ∨ x.lines < p.lines ∨ s.stripSettled p = false) : s.endStrip = s := by
  unfold State.endStrip
  rw [hcur]
  dsimp only
  rw [hstrip]
  refine if_pos ?_
  rcases h with h | h | h <;> simp [h]

/-- With its last line passed and its camera lines settled the strip closes (R157). -/
theorem endStrip_closes (hended : p.ended = true) (hlines : p.lines ≤ x.lines) (hsettled : s.stripSettled p = true) :
    s.endStrip.stats.cur = none := by
  unfold State.endStrip
  rw [hcur]
  dsimp only
  rw [hstrip]
  dsimp only
  rw [if_neg (by simp [hended, hsettled, hlines])]
  exact statsReady_cur _

end

/-! STATS_LINE (R154). -/

theorem statsLine_idle {s : State} (h : s.span.toStats = []) : exec .statsLine s = .next s := by
  show execStatsLine s = _
  unfold execStatsLine
  rw [h]

section
variable {s : State} {w : WebLine} {rest : List WebLine} (h : s.span.toStats = w :: rest)
include h

theorem statsLine_unusable (hunusable : s.fault.statsUnusable = true) :
    ∃ t : State, exec .statsLine s = .next t ∧ t.span.toStats = rest ∧ t.stats = s.stats := by
  refine ⟨{ s with span := { s.span with toStats := rest } }, ?_, rfl, rfl⟩
  show execStatsLine s = _
  unfold execStatsLine
  rw [h]
  exact if_pos hunusable

/-- The statistics `x` of a strip have taken line `w`, and its strip has not been closed yet. -/
def State.measured (s : State) (w : WebLine) (rest : List WebLine) (x : StripStats) : State :=
  { s with span := { s.span with toStats := rest }, stats := { s.stats with cur := some (s.addLine x w) } }

variable {x : StripStats} {p : Strip} (husable : s.fault.statsUnusable = false)
  (hx : s.stats.cur = none ∧ x = freshStats (s.deckOf w.slot.epoch) w ∨ s.stats.cur = some x) (hw : x.strip = w.strip)
include husable hx hw

/-- The line enters the statistics of its strip, or opens them (R154). -/
theorem statsLine_measures : exec .statsLine s = .next (s.measured w rest x).endStrip := by
  show execStatsLine s = _
  unfold execStatsLine
  rw [h]
  dsimp only
  rw [if_neg (by simp [husable])]
  rcases hx with ⟨hnone, rfl⟩ | hsome
  · rw [hnone]
    dsimp only
    rw [hnone]
    rfl
  · rw [hsome]
    dsimp only
    rw [if_neg (not_not.mpr hw), hsome]
    dsimp only
    rw [if_pos hw]
    rfl

theorem statsLine_closes (hstrip : s.strip w.strip = some p) :
    ∃ t : State, exec .statsLine s = .next t ∧ t.span.toStats = rest ∧
      (p.ended = false ∨ x.lines + 1 < p.lines ∨ s.stripSettled p = false →
        t.stats.cur = some (s.addLine x w) ∧ (s.addLine x w).lines = x.lines + 1) ∧
      (p.ended = true → p.lines ≤ x.lines + 1 → s.stripSettled p = true → t.stats.cur = none) := by
  have hcur : (s.measured w rest x).stats.cur = some (s.addLine x w) := rfl
  have hstrip' : (s.measured w rest x).strip (s.addLine x w).strip = some p := (congrArg s.strip hw).trans hstrip
  refine ⟨_, statsLine_measures h husable hx hw, ?_, fun hopen => ⟨?_, rfl⟩, fun hended hlines hsettled => ?_⟩
  · exact congrArg SpanState.toStats (span_of (State.endStrip_keeps (.refl _)).kept)
  · rw [endStrip_open hcur hstrip' hopen]
    rfl
  · exact endStrip_closes hcur hstrip' hended hlines hsettled

end

end Sys2Proof.Machine
end

section
/-! SUPPORT. Proofs: compared lines through the segmenter (R214-R228, R458). -/

namespace Sys2Proof.Machine

set_option Elab.async false

/-! With no component at the pair seam nothing goes there (R458). -/

/-- The components that go to the pair seam, and what has gone there, are as they were. -/
structure SegState.SeamKept (g g' : SegState) : Prop where
  divert : g'.divert = g.divert
  diverted : g'.diverted = g.diverted

theorem SegState.SeamKept.trans {a b c : SegState} (h : a.SeamKept b) (k : b.SeamKept c) : a.SeamKept c :=
  ⟨k.divert.trans h.divert, k.diverted.trans h.diverted⟩

theorem push_seamKept (g : SegState) (width : Nat) (swarm : Bool) (d : Descriptor) : g.SeamKept (g.push width swarm d) := by
  unfold SegState.push
  dsimp only
  split
  · split <;> exact ⟨rfl, rfl⟩
  · split <;> exact ⟨rfl, rfl⟩

theorem finishIn_seamKept (g : SegState) (d : Container) (width : Nat) (c : Comp) (cut minima : Bool) (flags : Nat) :
    g.SeamKept (g.finishIn d width c cut minima flags).1 := by
  unfold SegState.finishIn
  extract_lets _ _ _ g1
  have h1 : g.SeamKept g1 := by
    unfold g1
    split <;> exact ⟨rfl, rfl⟩
  split
  · exact ⟨h1.divert, h1.diverted⟩
  · split
    · exact ⟨h1.divert, h1.diverted⟩
    · exact h1.trans (push_seamKept ..)

theorem finishAll_seamKept (d : Container) (minima : Bool) (flags : Comp → Nat) (l : List (Comp × Bool)) {g : SegState} (h : g.divert = []) :
    g.SeamKept (SegState.finishAll d minima flags l g).1 := by
  induction l generalizing g with
  | nil => exact ⟨rfl, rfl⟩
  | cons x l ih =>
    obtain ⟨c, cut⟩ := x
    have hfinish : g.finish d c cut minima (flags c) = g.finishIn d d.width c cut minima (flags c) := if_neg (by simp [h])
    have hkept := finishIn_seamKept g d d.width c cut minima (flags c)
    rw [← hfinish] at hkept
    exact hkept.trans (ih (hkept.divert.trans h))

theorem label_diverted {g : SegState} (h : g.divert = []) (d : Container) (l : LineSlot) (cells : List (Nat × Nat × Nat)) :
    (g.label d l cells).diverted = g.diverted := by
  unfold SegState.label
  extract_lets _ _ _ _ _ _ _ _ cuts
  exact (finishAll_seamKept d true (fun _ => 0) _ (g := { g with nextLink := cuts.2 }) h).diverted

theorem settleSeam_nothing {s : State} (hunions : s.vd.unions = []) (hparts : s.vd.parts = []) : s.settleSeam.seg = s.seg := by
  unfold State.settleSeam
  rw [hunions, hparts]
  rfl

/-! The line through the segmenter and the records path (R215). -/

theorem recordsLine_out (s : State) (c : CompLine) : (s.recordsLine c).cmp.out = s.cmp.out := by
  unfold State.recordsLine
  extract_lets l _ _ s1 _ s2
  have h1 : Keeps (· ≠ .cmp) s s1 := State.holdCheck_keeps (.refl s) l
  have h2 : s2.cmp = s.cmp := by
    unfold s2
    split
    · exact cmp_of h1.kept
    · exact cmp_of (State.gapLine_keeps h1 ..).kept
  refine (congrArg CmpState.out (cmp_of (State.statsReady_keeps (.refl _)).kept)).trans ?_
  exact (congrArg CmpState.out h2 :)

theorem recordsLine_seg (s : State) (c : CompLine) : (s.recordsLine c).seg = s.seg := seg_of (State.recordsLine_keeps (.refl s) c).kept

theorem endIfIdle_waits {s : State} (h : s.cmp.out ≠ []) : s.endIfIdle = s := if_neg (by simp [State.pathEmpty, h])

section
variable {s : State} {c : CompLine} {rest : List CompLine} (h : s.cmp.out = c :: rest)
include h

theorem segmentStep_out (b : Bool) : (s.segmentStep b).cmp.out = rest := by
  unfold State.segmentStep
  rw [h]
  dsimp -zeta only
  extract_lets _ s0 l d s1 g0 blocked cells g1 ivs s2 s3 r
  have h1 : Keeps (· ≠ .cmp) s0 s1 := .ite (State.endEpochPath_keeps (.refl s0)) (.refl s0)
  have hr : Keeps (· ≠ .cmp) s3 r.2 := by
    unfold r
    split
    · exact State.occur_keeps (.refl s3) 5 0 1 0 _
    · exact .refl s3
  calc ((if r.1 then r.2.segmenterRetired else r.2).endIfIdle).cmp.out
      = s3.cmp.out := congrArg CmpState.out (cmp_of (State.endIfIdle_keeps (.ite (State.segmenterRetired_keeps hr) hr)).kept)
    _ = s1.cmp.out := recordsLine_out s2 _
    _ = rest := congrArg CmpState.out (cmp_of h1.kept)

/-- Of a line in an open epoch, with more to come and no label error, only its labelling changes the segmenter; a retired one labels it as not
compared (R215, R228). -/
theorem segmentStep_labels (hepoch : s.seg.epoch = some c.slot.epoch) (hrest : rest ≠ []) : (s.segmentStep false).seg =
    s.seg.label (s.deckOf c.slot.epoch) c.slot
      (if s.isRetired 5 0 then List.replicate (s.deckOf c.slot.epoch).width (3, 0, 0) else c.cells) := by
  unfold State.segmentStep
  rw [h]
  dsimp -zeta only
  extract_lets _ s0 l d s1 g0 blocked cells g1 ivs s2 s3 r
  have h1 : s1 = s0 := if_neg (by simp [s0, l, hepoch])
  have hg : g1 = s.seg := by
    show g0 = s.seg
    unfold g0
    rw [h1]
    exact if_pos hepoch
  have hcells : cells = if s.isRetired 5 0 then List.replicate d.width (3, 0, 0) else c.cells := by
    unfold cells blocked
    rw [show s0.isRetired 5 0 = s.isRetired 5 0 from rfl]
    cases s.isRetired 5 0 <;> rfl
  have hout : s3.cmp.out = rest := (recordsLine_out s2 _).trans (by show s1.cmp.out = rest; rw [h1])
  show s3.endIfIdle.seg = _
  rw [endIfIdle_waits (by rw [hout]; exact hrest), recordsLine_seg]
  show g1.label d l cells = _
  rw [hg, hcells]
  rfl

theorem edgeLine_out (b : Bool) : (s.edgeLine b).cmp.out = rest := by
  unfold State.edgeLine
  extract_lets edge _ s1 s2
  have h1 : s1.cmp.out = rest := segmentStep_out (s := { s with seg := { s.seg with divert := s.divertKeys, seamEdge := edge } }) h b
  have h2 : s2.cmp = s1.cmp := cmp_of (State.settleSeam_keeps (State.takeDiverted_keeps (.refl s1) _)).kept
  rw [← h1, ← h2]
  split <;> rfl

/-- A device without a role in a pair labels the line by itself (R226, R458). -/
theorem edgeLine_labels (hrole : s.vdRole = 0) (hunions : s.vd.unions = []) (hparts : s.vd.parts = []) (htouched : s.vd.touched = [])
    (hdiverted : s.seg.diverted = []) (hepoch : s.seg.epoch = some c.slot.epoch) (hrest : rest ≠ []) : (s.edgeLine false).seg =
    { ({ s.seg with divert := [], seamEdge := 0 } : SegState).label (s.deckOf c.slot.epoch) c.slot
        (if s.isRetired 5 0 then List.replicate (s.deckOf c.slot.epoch).width (3, 0, 0) else c.cells) with diverted := [] } := by
  have hkeys : s.divertKeys = [] := by simp [State.divertKeys, hrole, htouched]
  unfold State.edgeLine
  rw [hkeys]
  extract_lets edge _ s1 s2
  have hedge : edge = 0 := if_neg (by simp [hrole])
  have hseg : s1.seg = ({ s.seg with divert := [], seamEdge := 0 } : SegState).label (s.deckOf c.slot.epoch) c.slot
      (if s.isRetired 5 0 then List.replicate (s.deckOf c.slot.epoch).width (3, 0, 0) else c.cells) := by
    unfold s1
    rw [hedge]
    exact segmentStep_labels (s := { s with seg := { s.seg with divert := [], seamEdge := 0 } }) h hepoch hrest
  have hvd : s1.vd = s.vd := (vd_of (State.segmentStep_keeps (.refl _) false).kept).trans rfl
  have hnone : s1.seg.diverted = [] := by
    rw [hseg, label_diverted rfl]
    exact hdiverted
  rw [if_pos hedge]
  unfold s2
  rw [hnone, State.takeDiverted, settleSeam_nothing (by rw [hvd]; exact hunions) (by rw [hvd]; exact hparts), hseg]

end

/-! SEGMENT_LINE (R215, R228). -/

/-- The errors of the segmenter's memories leave all but the segmenter, records and channels (R228). -/
theorem segErrors_frame (s : State) (n : Nat) (e : Option (Nat × Nat)) :
    Keeps (fun x => x = .seg ∨ x = .recs ∨ x = .fault ∨ x = .free) s (s.segErrors n e) := State.segErrors_keeps (.refl s) n e

theorem segmentLine_idle {s : State} (h : s.cmp.out = []) (b : Bool) (n : Nat) (e : Option (Nat × Nat)) :
    ∃ t : State, exec (.segmentLine b n e) s = .next t ∧ t.cmp = s.cmp ∧ t.seg = (s.segErrors n e).seg := by
  have hcmp : (s.segErrors n e).cmp = s.cmp := cmp_of ((segErrors_frame s n e).same .cmp (by simp))
  have hline : (s.segErrors n e).labelledLine b = s.segErrors n e := by
    unfold State.labelledLine
    rw [hcmp, h]
  refine ⟨(s.segErrors n e).snapStep, ?_, by rw [snapStep_cmp, hcmp], snapStep_seg _⟩
  exact congrArg (fun u : State => Host.Outcome.next u.snapStep) hline

section
variable {s : State} {c : CompLine} {rest : List CompLine} (h : s.cmp.out = c :: rest) (hmerging : s.merging c.slot.epoch = false)
include h hmerging

/-- Outside a joined pair the oldest line is labelled without the peer (R226). -/
theorem labelledLine_edge (b : Bool) : s.labelledLine b = s.edgeLine b := by
  unfold State.labelledLine
  rw [h]
  exact if_neg (by simp [hmerging])

theorem segmentLine_labels (b : Bool) (n : Nat) (e : Option (Nat × Nat)) :
    ∃ t : State, exec (.segmentLine b n e) s = .next t ∧ t.cmp.out = rest ∧ t.pos = s.pos ∧ t.span = s.span ∧
      (s.vdRole = 0 → s.vd.unions = [] → s.vd.parts = [] → s.vd.touched = [] → (s.segErrors n e).seg.diverted = [] →
        (s.segErrors n e).seg.epoch = some c.slot.epoch → rest ≠ [] → b = false →
        t.seg = { ({ (s.segErrors n e).seg with divert := [], seamEdge := 0 } : SegState).label (s.deckOf c.slot.epoch) c.slot
          (if (s.segErrors n e).isRetired 5 0 then List.replicate (s.deckOf c.slot.epoch).width (3, 0, 0) else c.cells) with diverted := [] }) := by
  have hframe := segErrors_frame s n e
  generalize hx : s.segErrors n e = x at hframe ⊢
  have hout : x.cmp.out = c :: rest := by rw [cmp_of (hframe.same .cmp (by simp))]; exact h
  have hvd : x.vd = s.vd := vd_of (hframe.same .vd (by simp))
  obtain ⟨-, hrole, -⟩ : samePart .straps s x := hframe.same .straps (by simp)
  have hdeck : ∀ k, x.deckOf k = s.deckOf k := fun k => by rw [State.deckOf, deck_of (hframe.same .deck (by simp)), State.deckOf]
  have hmerging' : x.merging c.slot.epoch = false := by rw [← hmerging, State.merging, ← hrole, hvd, hdeck, State.merging]
  have hpath : Keeps (fun y => y ≠ .pos ∧ y ≠ .span) x (x.edgeLine b) := State.edgeLine_keeps (.refl x) b
  refine ⟨(x.edgeLine b).snapStep, ?_, ?_, ?_, ?_, fun hnone hunions hparts htouched hdiverted hepoch hrest hb => ?_⟩
  · show Host.Outcome.next ((s.segErrors n e).labelledLine b).snapStep = _
    rw [hx, labelledLine_edge hout hmerging']
  · rw [snapStep_cmp, edgeLine_out hout]
  · rw [snapStep_pos, pos_of (hpath.same .pos (by simp)), pos_of (hframe.same .pos (by simp))]
  · rw [snapStep_span, span_of (hpath.same .span (by simp)), span_of (hframe.same .span (by simp))]
  · subst hb
    rw [snapStep_seg, ← hdeck]
    exact edgeLine_labels hout (hrole ▸ hnone) (hvd ▸ hunions) (hvd ▸ hparts) (hvd ▸ htouched) hdiverted hepoch hrest

end

end Sys2Proof.Machine
end

section
/-! SUPPORT. Proofs: web lines through geometry, Span, the compare stage, the statistics stage and the segmenter, in order (R137-R228). -/

namespace Sys2Proof.Machine

set_option Elab.async false

/-- Settles O41: each stage by what it does with its oldest line, and with none. -/
theorem webLinesMoveThroughThePath : Obligations.WebLinesMoveThroughThePath :=
  ⟨fun hits _ h => geometryLine_waits h hits,
    fun hits _ _ _ _ _ h hready => geometryLine_leaves h hready hits,
    fun e _ h => spanEmitLine_idle h e,
    fun e _ _ _ _ _ _ h => spanEmitLine_emits h e,
    fun a b hits n _ h => compareLine_idle h a b hits n,
    fun a b hits n _ _ _ h => compareLine_takes h a b hits n,
    fun _ h => statsLine_idle h,
    fun _ _ _ h hunusable => statsLine_unusable h hunusable,
    fun _ _ _ _ _ h husable hx hw hstrip => statsLine_closes h husable hx hw hstrip,
    fun b n e _ h => segmentLine_idle h b n e,
    fun b n e _ _ _ h hmerging => segmentLine_labels h hmerging b n e⟩

end Sys2Proof.Machine
end

section
/-! SUPPORT. Proofs: bits as bytes, and code words, read back (R510, R511). -/

namespace Sys2Proof.Machine

set_option Elab.async false

theorem b2n_bitAt (v i : Nat) : b2n (bitAt v i) = v / 2 ^ i % 2 := by
  rcases Nat.mod_two_eq_zero_or_one (v / 2 ^ i) with h | h <;> simp [b2n, bitAt, h]

/-- A field of n bits reads back as the low n bits of the number written. -/
theorem takeBits_bitsMsb (n v acc : Nat) (rest : List Bool) :
    takeBits n acc (bitsMsb n v ++ rest) = some (acc * 2 ^ n + v % 2 ^ n, rest) := by
  induction n generalizing acc with
  | zero => simp [takeBits, bitsMsb, Nat.mod_one]
  | succ n ih =>
    have hbits : (2 * acc + b2n (bitAt v n)) * 2 ^ n + v % 2 ^ n = acc * 2 ^ (n + 1) + v % 2 ^ (n + 1) := by
      rw [b2n_bitAt, Nat.mod_pow_succ]
      ring
    rw [bitsMsb, List.cons_append, takeBits, ih, hbits]

theorem takeZeros_replicate {f n : Nat} (h : n ≤ f) (u : Nat) (rest : List Bool) :
    takeZeros f u (List.replicate n false ++ true :: rest) = some (u + n, rest) := by
  induction n generalizing f u with
  | zero => cases f <;> rfl
  | succ n ih =>
    obtain ⟨f, rfl⟩ := Nat.exists_eq_succ_of_ne_zero (Nat.ne_zero_of_lt h)
    have hstep : takeZeros (f + 1) u (List.replicate (n + 1) false ++ true :: rest) = takeZeros f (u + 1) (List.replicate n false ++ true :: rest) := rfl
    rw [Nat.succ_eq_add_one, hstep, ih (Nat.le_of_succ_le_succ h), Nat.add_right_comm, Nat.add_assoc]

/-- R510: a code word with any bits behind it gives its mapped residue and those bits. -/
theorem readCode_codeWord {depth m : Nat} (h : m < 2 ^ (depth + 1)) (k : Nat) (rest : List Bool) :
    readCode depth k (codeWord depth k m ++ rest) = some (m, rest) := by
  by_cases hu : m / 2 ^ k < 24
  · simp only [readCode, codeWord, if_pos hu, List.append_assoc, List.cons_append, takeZeros_replicate hu.le, Nat.zero_add,
      takeBits_bitsMsb, Option.map_some, Nat.zero_mul, Nat.div_add_mod']
  · simp only [readCode, codeWord, if_neg hu, List.append_assoc, List.cons_append, takeZeros_replicate le_rfl, Nat.zero_add,
      takeBits_bitsMsb, Nat.lt_irrefl, if_false, Nat.zero_mul, Nat.mod_eq_of_lt h]

/-- A bit shifted in at the low end of a number, as `packBits` forms its bytes. -/
def shiftIn (a : Nat) (b : Bool) : Nat := 2 * a + b2n b

/-- Bits shifted in at the low end of a number leave the number above them. -/
theorem foldl_shiftIn_div (bs : List Bool) (acc : Nat) : bs.foldl shiftIn acc / 2 ^ bs.length = acc := by
  induction bs generalizing acc with
  | nil => simp
  | cons b bs ih =>
    rw [List.foldl_cons, List.length_cons, Nat.pow_succ, ← Nat.div_div_eq_div_mul, ih, shiftIn]
    have hbit : b2n b < 2 := by cases b <;> decide
    omega

theorem bitsMsb_foldl_shiftIn (bs : List Bool) (acc : Nat) : bitsMsb bs.length (bs.foldl shiftIn acc) = bs := by
  induction bs generalizing acc with
  | nil => rfl
  | cons b bs ih =>
    have htop : bitAt (bs.foldl shiftIn (shiftIn acc b)) bs.length = b := by
      rw [bitAt, foldl_shiftIn_div]
      cases b <;> simp [shiftIn, b2n]
    rw [List.length_cons, List.foldl_cons, bitsMsb, ih, htop]

/-- A byte of 8 bits gives those bits back. -/
theorem bitsMsb_byte {bs : List Bool} (h : bs.length = 8) :
    bitsMsb 8 (BitVec.ofNat 8 (bs.foldl shiftIn 0)).toNat = bs := by
  have hlt : bs.foldl shiftIn 0 < 2 ^ 8 := by
    have hdiv := foldl_shiftIn_div bs 0
    rw [h] at hdiv
    omega
  rw [BitVec.toNat_ofNat, Nat.mod_eq_of_lt hlt, ← h, bitsMsb_foldl_shiftIn]

@[simp] theorem packBits_length (n : Nat) (bs : List Bool) : (packBits n bs).length = n := by
  induction n generalizing bs with
  | zero => rfl
  | succ n ih => rw [packBits, List.length_cons, ih]

@[simp] theorem unpackBits_append (xs ys : List Byte) : unpackBits (xs ++ ys) = unpackBits xs ++ unpackBits ys := by
  simp [unpackBits]

/-- R511: the bits of packed bytes are those packed, then 0 bits to the end of the last byte. -/
theorem unpackBits_packBits {n : Nat} {bs : List Bool} (h : bs.length ≤ 8 * n) :
    unpackBits (packBits n bs) = bs ++ List.replicate (8 * n - bs.length) false := by
  induction n generalizing bs with
  | zero =>
    obtain rfl : bs = [] := List.length_eq_zero_iff.mp (by omega)
    rfl
  | succ n ih =>
    have hbyte : (bs.take 8 ++ List.replicate (8 - (bs.take 8).length) false).length = 8 := by
      simp only [List.length_append, List.length_take, List.length_replicate]
      omega
    have hcons : unpackBits (packBits (n + 1) bs) =
        bs.take 8 ++ List.replicate (8 - (bs.take 8).length) false ++ unpackBits (packBits n (bs.drop 8)) := by
      conv_rhs => rw [← bitsMsb_byte hbyte]
      rfl
    rw [hcons, ih (by rw [List.length_drop]; omega)]
    rcases Nat.lt_or_ge bs.length 8 with hshort | hlong
    · have hpad : 8 - bs.length + (8 * n - 0) = 8 * (n + 1) - bs.length := by omega
      rw [List.take_of_length_le hshort.le, List.drop_of_length_le hshort.le, List.nil_append, List.append_assoc, List.replicate_append_replicate,
        List.length_nil, hpad]
    · have hpad : 8 * n - (bs.length - 8) = 8 * (n + 1) - bs.length := by omega
      rw [List.length_take, Nat.min_eq_left hlong, Nat.sub_self, List.replicate_zero, List.append_nil, ← List.append_assoc, List.take_append_drop,
        List.length_drop, hpad]

/-- The 0 bits that end a block of these bits: up to the next 4-byte boundary (R511). -/
def blockPadding (bs : List Bool) : List Bool := List.replicate ((32 - bs.length % 32) % 32) false

theorem blockBytes_length (bs : List Bool) : (blockBytes bs).length = 4 * ceilDiv bs.length 32 := packBits_length _ _

/-- R511: the bits of a block and of what stands behind it are the block's own, its padding, and those behind it. -/
theorem unpackBits_blockBytes_append (bs : List Bool) (rest : List Byte) :
    unpackBits (blockBytes bs ++ rest) = bs ++ (blockPadding bs ++ unpackBits rest) := by
  have hpad : 8 * (4 * ceilDiv bs.length 32) = bs.length + (32 - bs.length % 32) % 32 := by
    rw [ceilDiv, if_neg (by decide)]
    omega
  rw [unpackBits_append, blockBytes, unpackBits_packBits (by omega), hpad, Nat.add_sub_cancel_left, List.append_assoc, blockPadding]

/-- A decoder that has read a block's bits finds what stands behind the block (R511). -/
theorem alignBits_blockPadding (bs more : List Bool) :
    alignBits (bs ++ (blockPadding bs ++ more)).length (blockPadding bs ++ more).length (blockPadding bs ++ more) = more := by
  rw [alignBits, List.length_append, Nat.add_sub_cancel]
  exact List.drop_left' List.length_replicate

theorem ofLe_leBytes (n v : Nat) : ofLe (leBytes n v) = v % 256 ^ n := by
  induction n generalizing v with
  | zero => rw [Nat.pow_zero, Nat.mod_one]; rfl
  | succ n ih => rw [leBytes, ofLe, ih, Nat.pow_succ', Nat.mod_mul, BitVec.toNat_ofNat]

/-- A number written behind other bytes reads back there (R14). -/
theorem leAt_leBytes {pre : List Byte} {n v : Nat} (h : v < 256 ^ n) (rest : List Byte) :
    leAt (pre ++ leBytes n v ++ rest) pre.length n = v := by
  have hbytes : bytesAt (pre ++ leBytes n v ++ rest) pre.length n = leBytes n v := by
    have htake : (leBytes n v ++ rest).take n = leBytes n v := List.take_left' (leBytes_length n v)
    simp only [bytesAt, List.append_assoc, List.drop_left, htake, leBytes_length, Nat.sub_self, List.replicate_zero, List.append_nil]
  rw [leAt, hbytes, ofLe_leBytes, Nat.mod_eq_of_lt h]

end Sys2Proof.Machine
end

section
/-! SUPPORT. Proofs: prediction, quantisation and reconstruction stay within NEAR (R507, R508). -/

namespace Sys2Proof.Machine

set_option Elab.async false

/-- A reconstructed sample y lies within NEAR of the coded sample x (R508). -/
def WithinNear (near x y : Nat) : Prop := (x : Int) - y ≤ near ∧ (y : Int) - x ≤ near

theorem WithinNear.eq {x y : Nat} (h : WithinNear 0 x y) : y = x := by
  obtain ⟨hlow, hhigh⟩ := h
  omega

theorem predict_le_max (a b c : Nat) : predict a b c ≤ max a b := by
  unfold predict
  split
  · omega
  · split <;> omega

theorem reconstruct_lt (depth near p : Nat) (q : Int) : reconstruct depth near p q < 2 ^ depth := by
  have hpos : 0 < 2 ^ depth := Nat.two_pow_pos depth
  unfold reconstruct clampI
  omega

/-- Rounding to the nearest multiple of 2n + 1 moves a number by at most n. -/
theorem roundDiv_near (x : Int) (n : Nat) :
    x - (x + n) / (2 * n + 1 : Nat) * (2 * n + 1 : Nat) ≤ n ∧ (x + n) / (2 * n + 1 : Nat) * (2 * n + 1 : Nat) - x ≤ n := by
  have hpos : (0 : Int) < (2 * n + 1 : Nat) := by omega
  have hle := Int.ediv_mul_le (x + n) hpos.ne'
  have hlt := Int.lt_ediv_add_one_mul_self (x + n) hpos
  rw [Int.add_mul, Int.one_mul] at hlt
  omega

theorem roundDiv_le {x : Int} (hx : 0 ≤ x) (n : Nat) : 0 ≤ (x + n) / (2 * n + 1 : Nat) ∧ (x + n) / (2 * n + 1 : Nat) ≤ x := by
  have hprod : 0 ≤ x * n := by positivity
  have hlt : x + n < (x + 1) * (2 * n + 1 : Nat) := by
    push_cast
    linarith
  exact ⟨by positivity, Int.lt_add_one_iff.mp (Int.ediv_lt_of_lt_mul (by omega) hlt)⟩

/-- R508: the quantised residue of a residue at or below 0 is that of its magnitude, with the sign turned. -/
theorem quantise_of_nonpos {e : Int} (h : e ≤ 0) (near : Nat) : quantise near e = -((-e + near) / (2 * near + 1 : Nat)) := by
  rw [quantise, if_neg (by omega), Int.sub_eq_add_neg, Int.add_comm]

theorem quantise_of_pos {e : Int} (h : 0 < e) (near : Nat) : quantise near e = (e + near) / (2 * near + 1 : Nat) := if_pos h

/-- R508: the quantised residue times its step differs from the residue by at most the bound. -/
theorem quantise_near (near : Nat) (e : Int) :
    e - quantise near e * (2 * near + 1 : Nat) ≤ near ∧ quantise near e * (2 * near + 1 : Nat) - e ≤ near := by
  rcases lt_or_ge 0 e with h | h
  · rw [quantise_of_pos h]
    exact roundDiv_near e near
  · rw [quantise_of_nonpos h, Int.neg_mul]
    have hround := roundDiv_near (-e) near
    omega

theorem quantise_natAbs_le (near : Nat) (e : Int) : (quantise near e).natAbs ≤ e.natAbs := by
  rcases lt_or_ge 0 e with h | h
  · have hround := roundDiv_le h.le near
    rw [quantise_of_pos h]
    omega
  · have hround := roundDiv_le (Int.neg_nonneg_of_nonpos h) near
    rw [quantise_of_nonpos h]
    omega

theorem reconstruct_near {depth near s : Nat} (h : s < 2 ^ depth) (p : Nat) :
    WithinNear near s (reconstruct depth near p (quantise near ((s : Int) - p))) := by
  obtain ⟨hlow, hhigh⟩ := quantise_near near ((s : Int) - p)
  unfold WithinNear reconstruct clampI
  omega

theorem mapResidue_lt {depth s p : Nat} (hs : s < 2 ^ depth) (hp : p < 2 ^ depth) (near : Nat) :
    mapResidue (quantise near ((s : Int) - p)) < 2 ^ (depth + 1) := by
  have hq := quantise_natAbs_le near ((s : Int) - p)
  rw [Nat.pow_succ]
  unfold mapResidue
  split <;> omega

@[simp] theorem unmapResidue_mapResidue (q : Int) : unmapResidue (mapResidue q) = q := by
  unfold unmapResidue mapResidue
  split <;> split <;> omega

end Sys2Proof.Machine
end

section
/-! SUPPORT. Proofs: lines and blocks of lines are decoded as they were coded (R506-R511). -/

namespace Sys2Proof.Machine

set_option Elab.async false

/-- Every sample has at most `depth` bits. -/
def InDepth (depth : Nat) (l : List Nat) : Prop := ∀ x ∈ l, x < 2 ^ depth

theorem inDepth_nil (depth : Nat) : InDepth depth [] := fun _ h => nomatch h

theorem inDepth_cons {depth x : Nat} {l : List Nat} : InDepth depth (x :: l) ↔ x < 2 ^ depth ∧ InDepth depth l := List.forall_mem_cons

theorem InDepth.drop {depth : Nat} {l : List Nat} (h : InDepth depth l) (n : Nat) : InDepth depth (l.drop n) :=
  fun _ hx => h _ (List.mem_of_mem_drop hx)

theorem InDepth.headD {depth : Nat} {l : List Nat} (h : InDepth depth l) : l.headD 0 < 2 ^ depth := by
  cases l with
  | nil => exact Nat.two_pow_pos depth
  | cons x l => exact h x List.mem_cons_self

/-- What stands above a pixel, where anything does, has at most `depth` bits (R507). -/
def AboveInDepth (depth : Nat) (above : Option (List Nat)) : Prop := ∀ l ∈ above, InDepth depth l

theorem AboveInDepth.next {depth : Nat} {above : Option (List Nat)} (h : AboveInDepth depth above) :
    AboveInDepth depth (above.map (fun l => l.drop 1)) := by
  intro l hl
  obtain ⟨up, hup, rfl⟩ := Option.mem_map.mp hl
  exact (h up hup).drop 1

/-- The prediction from the neighbours of R507 has at most `depth` bits. -/
theorem predict_neighbours_lt {depth a : Nat} {above : Option (List Nat)} (ha : a < 2 ^ depth) (habove : AboveInDepth depth above)
    (c0 : Nat) (first : Bool) :
    predict (neighbours a c0 above first).1 (neighbours a c0 above first).2.1 (neighbours a c0 above first).2.2.1 < 2 ^ depth := by
  refine (predict_le_max _ _ _).trans_lt (max_lt ?_ ?_)
  all_goals
    cases above with
    | none => exact ha
    | some l =>
      have hb := (habove l rfl).headD
      cases first <;> assumption

section
variable {c : CodecParams} {p a c0 : Nat} {above : Option (List Nat)} {first : Bool} {stat : List (Nat × Nat)} {l : List Nat}

theorem codePixels_inDepth : InDepth c.depth (codePixels c p (l.map some) a c0 above first stat).recon := by
  induction l generalizing a c0 above first stat with
  | nil => exact inDepth_nil _
  | cons s l ih => exact inDepth_cons.mpr ⟨reconstruct_lt _ _ _ _, ih⟩

theorem codePixels_near (hl : InDepth c.depth l) :
    List.Forall₂ (WithinNear c.near) l (codePixels c p (l.map some) a c0 above first stat).recon := by
  induction l generalizing a c0 above first stat with
  | nil => exact .nil
  | cons s l ih =>
    obtain ⟨hs, hl⟩ := inDepth_cons.mp hl
    exact .cons (reconstruct_near hs _) (ih hl)

/-- R506, R510: the decoder reads a plane's pixels from their code words, and leaves the bits behind them. -/
theorem decodePixels_codePixels (hl : InDepth c.depth l) (ha : a < 2 ^ c.depth) (habove : AboveInDepth c.depth above) (rest : List Bool) :
    let r := codePixels c p (l.map some) a c0 above first stat
    decodePixels c p (List.replicate l.length false) a c0 above first stat (r.bits ++ rest) = some (r.recon, r.stat, rest) := by
  induction l generalizing a c0 above first stat with
  | nil => rfl
  | cons s l ih =>
    obtain ⟨hs, hl⟩ := inDepth_cons.mp hl
    have hm := mapResidue_lt hs (predict_neighbours_lt ha habove c0 first) c.near
    simp only [List.map_cons, List.length_cons, List.replicate_succ, codePixels, decodePixels, List.append_assoc, readCode_codeWord hm,
      unmapResidue_mapResidue, ih hl (reconstruct_lt _ _ _ _) habove.next, Option.map_some, Bool.false_eq_true, if_false]

end

/-- A line of a tile as the coder takes it: none of its pixels is VOID (R506). -/
def wholeLine (l : List (List Nat)) : List (List (Option Nat)) := l.map (fun p => p.map some)

@[simp] theorem wholeLine_cons (p : List Nat) (l : List (List Nat)) : wholeLine (p :: l) = p.map some :: wholeLine l := rfl

/-- A line of a stream: each plane has `width` samples of at most B bits (R506). -/
def LineFits (c : CodecParams) (width : Nat) (l : List (List Nat)) : Prop := l.length = c.planes ∧ ∀ p ∈ l, p.length = width ∧ InDepth c.depth p

/-- A stream's history: in each plane what stands above the next line has at most B bits (R507). -/
def HistoryFits (c : CodecParams) (ctx : List PlaneCtx) : Prop := ctx.length = c.planes ∧ ∀ x ∈ ctx, AboveInDepth c.depth x.prev

/-- A plane of a line against that plane's history. -/
def PlaneFits (c : CodecParams) (width : Nat) (p : List Nat) (x : PlaneCtx) : Prop := (p.length = width ∧ InDepth c.depth p) ∧ AboveInDepth c.depth x.prev

theorem codeLine_cons (c : CodecParams) (p : Nat) (l : List (Option Nat)) (ls : List (List (Option Nat))) (x : PlaneCtx) (xs : List PlaneCtx) :
    let r := codePixels c p l (2 ^ (c.depth - 1)) 0 x.prev true x.stat
    let t := codeLine c (p + 1) ls xs
    codeLine c p (l :: ls) (x :: xs) =
      (r.bits ++ t.1, r.recon :: t.2.1, { prev := some r.recon, stat := r.stat } :: t.2.2.1, r.escapes + t.2.2.2) := rfl

theorem codeLines_cons (c : CodecParams) (l : List (List (Option Nat))) (ls : List (List (List (Option Nat)))) (ctx : List PlaneCtx) :
    let r := codeLine c 0 l ctx
    let t := codeLines c ls r.2.2.1
    codeLines c (l :: ls) ctx = (r.1 ++ t.1, r.2.1 :: t.2.1, t.2.2.1, r.2.2.2 + t.2.2.2) := rfl

section
variable {c : CodecParams} {width : Nat} {l : List (List Nat)} {ls : List (List (List Nat))} {ctx : List PlaneCtx}

theorem forall₂_planeFits (hl : LineFits c width l) (hctx : HistoryFits c ctx) : List.Forall₂ (PlaneFits c width) l ctx := by
  obtain ⟨hlen, hl⟩ := hl
  obtain ⟨hplanes, hctx⟩ := hctx
  refine List.forall₂_iff_zip.mpr ⟨hlen.trans hplanes.symm, fun hmem => ?_⟩
  obtain ⟨hp, hx⟩ := List.of_mem_zip hmem
  exact ⟨hl _ hp, hctx _ hx⟩

theorem codeLine_near (h : List.Forall₂ (PlaneFits c width) l ctx) (p : Nat) :
    List.Forall₂ (List.Forall₂ (WithinNear c.near)) l (codeLine c p (wholeLine l) ctx).2.1 := by
  induction h generalizing p with
  | nil => exact .nil
  | cons hplane _ ih => exact .cons (codePixels_near hplane.1.2) (ih (p + 1))

theorem codeLine_histories (h : List.Forall₂ (PlaneFits c width) l ctx) (p : Nat) :
    (codeLine c p (wholeLine l) ctx).2.2.1.length = ctx.length ∧
      ∀ x ∈ (codeLine c p (wholeLine l) ctx).2.2.1, AboveInDepth c.depth x.prev := by
  induction h generalizing p with
  | nil => exact ⟨rfl, fun _ hx => nomatch hx⟩
  | cons _ _ ih =>
    obtain ⟨hlen, hctx⟩ := ih (p + 1)
    refine ⟨congrArg (· + 1) hlen, List.forall_mem_cons.mpr ⟨fun _ hprev => ?_, hctx⟩⟩
    obtain rfl := Option.some.inj hprev
    exact codePixels_inDepth

/-- A coded line leaves a history against which the next line can be coded. -/
theorem codeLine_historyFits (hl : LineFits c width l) (hctx : HistoryFits c ctx) : HistoryFits c (codeLine c 0 (wholeLine l) ctx).2.2.1 := by
  obtain ⟨hlen, hprev⟩ := codeLine_histories (forall₂_planeFits hl hctx) 0
  exact ⟨hlen.trans hctx.1, hprev⟩

/-- R506: the decoder reads a line plane by plane, and forms the coder's history. -/
theorem decodeLine_codeLine (hdepth : 0 < c.depth) (h : List.Forall₂ (PlaneFits c width) l ctx) (p : Nat) (rest : List Bool) :
    let r := codeLine c p (wholeLine l) ctx
    decodeLine c (List.replicate width false) p ctx (r.1 ++ rest) = some (r.2.1, r.2.2.1, rest) := by
  induction h generalizing p with
  | nil => rfl
  | @cons plane x l ctx hplane _ ih =>
    obtain ⟨⟨rfl, hplane⟩, hprev⟩ := hplane
    have hmid : 2 ^ (c.depth - 1) < 2 ^ c.depth := Nat.two_pow_pred_lt_two_pow hdepth
    simp only [wholeLine_cons, codeLine_cons, decodeLine, List.append_assoc, decodePixels_codePixels hplane hmid hprev, ih, Option.map_some]

theorem codeLines_near (hls : ∀ l ∈ ls, LineFits c width l) (hctx : HistoryFits c ctx) :
    List.Forall₂ (List.Forall₂ (List.Forall₂ (WithinNear c.near))) ls (codeLines c (ls.map wholeLine) ctx).2.1 := by
  induction ls generalizing ctx with
  | nil => exact .nil
  | cons l ls ih =>
    obtain ⟨hl, hls⟩ := List.forall_mem_cons.mp hls
    exact .cons (codeLine_near (forall₂_planeFits hl hctx) 0) (ih hls (codeLine_historyFits hl hctx))

theorem codeLines_historyFits (hls : ∀ l ∈ ls, LineFits c width l) (hctx : HistoryFits c ctx) :
    HistoryFits c (codeLines c (ls.map wholeLine) ctx).2.2.1 := by
  induction ls generalizing ctx with
  | nil => exact hctx
  | cons l ls ih =>
    obtain ⟨hl, hls⟩ := List.forall_mem_cons.mp hls
    exact ih hls (codeLine_historyFits hl hctx)

/-- R506: the decoder reads a block line by line, and forms the coder's history. -/
theorem decodeLines_codeLines (hdepth : 0 < c.depth) (hls : ∀ l ∈ ls, LineFits c width l) (hctx : HistoryFits c ctx) (rest : List Bool) :
    let r := codeLines c (ls.map wholeLine) ctx
    decodeLines c (List.replicate ls.length (List.replicate width false)) ctx (r.1 ++ rest) = some (r.2.1, r.2.2.1, rest) := by
  induction ls generalizing ctx with
  | nil => rfl
  | cons l ls ih =>
    obtain ⟨hl, hls⟩ := List.forall_mem_cons.mp hls
    simp only [List.map_cons, List.length_cons, List.replicate_succ, codeLines_cons, decodeLines, List.append_assoc,
      decodeLine_codeLine hdepth (forall₂_planeFits hl hctx), ih hls (codeLine_historyFits hl hctx), Option.map_some]

end

end Sys2Proof.Machine
end

section
/-! SUPPORT. Proofs: an image tile is decoded alone (R177, R506-R513). -/

namespace Sys2Proof.Machine

set_option Elab.async false

theorem four_dvd_codeTileBlocks_length (c : CodecParams) (f : Nat) (ls : List (List (List (Option Nat)))) (ctx : List PlaneCtx) :
    4 ∣ (codeTileBlocks c f ls ctx).length := by
  induction f generalizing ls ctx with
  | zero => exact Nat.dvd_zero 4
  | succ f ih =>
    rw [codeTileBlocks]
    split
    · exact Nat.dvd_zero 4
    · rw [List.length_append, blockBytes_length]
      exact Nat.dvd_add (Nat.dvd_mul_right _ _) (ih _ _)

theorem codeTileBlocks_succ (c : CodecParams) (f : Nat) {ls : List (List (List Nat))} (hne : ls ≠ []) (ctx : List PlaneCtx) :
    let r := codeLines c ((ls.take 16).map wholeLine) ctx
    codeTileBlocks c (f + 1) (ls.map wholeLine) ctx = blockBytes r.1 ++ codeTileBlocks c f ((ls.drop 16).map wholeLine) r.2.2.1 := by
  simp only [codeTileBlocks, List.isEmpty_map, List.isEmpty_iff, if_neg hne, List.map_take, List.map_drop]

theorem decodeTileBlocks_succ {c : CodecParams} {width left : Nat} {ctx ctx1 : List PlaneCtx} {bs bs1 : List Bool} {ls : List (List (List Nat))}
    (hleft : left ≠ 0) (h : decodeLines c (List.replicate (min 16 left) (List.replicate width false)) ctx bs = some (ls, ctx1, bs1)) (f : Nat) :
    decodeTileBlocks c width (f + 1) left ctx bs =
      (decodeTileBlocks c width f (left - min 16 left) ctx1 (alignBits bs.length bs1.length bs1)).map (fun r => ls ++ r) := by
  simp only [decodeTileBlocks, if_neg hleft, h]

/-- R511, R512: the decoder reads the blocks of a tile one after another, each from the boundary where the block before it ends. -/
theorem decodeTileBlocks_codeTileBlocks {c : CodecParams} {width f : Nat} {ls : List (List (List Nat))} {ctx : List PlaneCtx}
    (hdepth : 0 < c.depth) (hlen : ls.length ≤ 16 * f) (hls : ∀ l ∈ ls, LineFits c width l) (hctx : HistoryFits c ctx) (tail : List Byte) :
    ∃ ls', decodeTileBlocks c width f ls.length ctx (unpackBits (codeTileBlocks c f (ls.map wholeLine) ctx ++ tail)) = some ls' ∧
      List.Forall₂ (List.Forall₂ (List.Forall₂ (WithinNear c.near))) ls ls' := by
  induction f generalizing ls ctx with
  | zero =>
    obtain rfl : ls = [] := List.length_eq_zero_iff.mp (by omega)
    exact ⟨[], rfl, .nil⟩
  | succ f ih =>
    by_cases hne : ls = []
    · subst hne
      exact ⟨[], rfl, .nil⟩
    have hblock : ∀ l ∈ ls.take 16, LineFits c width l := fun l hl => hls l (List.mem_of_mem_take hl)
    have hrest : ∀ l ∈ ls.drop 16, LineFits c width l := fun l hl => hls l (List.mem_of_mem_drop hl)
    obtain ⟨ls', hdecode, hnear⟩ := ih (by rw [List.length_drop]; omega) hrest (codeLines_historyFits hblock hctx)
    have hall : List.Forall₂ _ (ls.take 16 ++ ls.drop 16) (_ ++ ls') := List.rel_append (codeLines_near hblock hctx) hnear
    rw [List.take_append_drop] at hall
    have hlines := decodeLines_codeLines hdepth hblock hctx
    rw [List.length_take] at hlines
    have hleft : ls.length - min 16 ls.length = (ls.drop 16).length := by
      rw [List.length_drop]
      omega
    refine ⟨_, ?_, hall⟩
    rw [codeTileBlocks_succ c f hne, List.append_assoc, unpackBits_blockBytes_append,
      decodeTileBlocks_succ (List.length_eq_zero_iff.not.mpr hne) (hlines _), alignBits_blockPadding, hleft, hdecode, Option.map_some]

/-- The parameters of an image tile (R512). -/
def tileParams (near : Nat) (table : Option Nat) : CodecParams := { depth := 8, near := near, planes := 3, table := table.map (nibbles 24) }

theorem freshStream_historyFits (c : CodecParams) : HistoryFits c (freshStream c) := by
  refine ⟨List.length_replicate, fun x hx l hl => ?_⟩
  obtain rfl := List.eq_of_mem_replicate hx
  exact nomatch hl

/-- Word 0 of a tile's header (R512). -/
def tileWord0 (near : Nat) (table : Option Nat) : Nat := near + if table.isSome then 16 else 0

/-- R512: the header gives NEAR and the table back. -/
theorem tileParams_of_header {near : Nat} (hnear : near < 16) (table : Option Nat) :
    ({ depth := 8, near := tileWord0 near table % 16, planes := 3,
       table := if bitAt (tileWord0 near table) 4 then some (nibbles 24 (table.getD 0)) else none } : CodecParams) = tileParams near table := by
  cases table with
  | none =>
    have hbit : bitAt near 4 = false := decide_eq_false (by omega)
    simp [tileWord0, tileParams, hbit, Nat.mod_eq_of_lt hnear]
  | some v =>
    have hbit : bitAt (near + 16) 4 = true := decide_eq_true (by omega)
    simp [tileWord0, tileParams, hbit, Nat.mod_eq_of_lt hnear]

theorem codeTile_eq (near : Nat) (table : Option Nat) (ls : List (List (List Nat))) :
    codeTile near table ls = leBytes 4 (tileWord0 near table) ++ leBytes 12 (table.getD 0) ++
      codeTileBlocks (tileParams near table) (ls.length / 16 + 1) (ls.map wholeLine) (freshStream (tileParams near table)) := rfl

theorem decodeTile_codeTile {near : Nat} {table : Option Nat} (hnear : near < 16) (htable : ∀ v, table = some v → v < 2 ^ 96)
    (width : Nat) (ls : List (List (List Nat))) (tail : List Byte) :
    decodeTile width ls.length (codeTile near table ls ++ tail) =
      decodeTileBlocks (tileParams near table) width (ls.length / 16 + 1) ls.length (freshStream (tileParams near table))
        (unpackBits (codeTileBlocks (tileParams near table) (ls.length / 16 + 1) (ls.map wholeLine) (freshStream (tileParams near table)) ++ tail)) := by
  rw [codeTile_eq, List.append_assoc]
  generalize codeTileBlocks _ _ _ _ ++ tail = blocks
  have hword : wordAt (leBytes 4 (tileWord0 near table) ++ leBytes 12 (table.getD 0) ++ blocks) 0 = tileWord0 near table := by
    rw [List.append_assoc]
    refine leAt_leBytes (pre := []) ?_ _
    unfold tileWord0
    split <;> omega
  have htab : leAt (leBytes 4 (tileWord0 near table) ++ leBytes 12 (table.getD 0) ++ blocks) 4 12 = table.getD 0 := by
    refine leAt_leBytes (pre := leBytes 4 (tileWord0 near table)) ?_ _
    cases table with
    | none => decide
    | some v => exact htable v rfl
  have hblocks : (leBytes 4 (tileWord0 near table) ++ leBytes 12 (table.getD 0) ++ blocks).drop 16 = blocks :=
    List.drop_left' rfl
  simp only [decodeTile, hword, htab, hblocks, tileParams_of_header hnear]

theorem four_dvd_codeTile_length (near : Nat) (table : Option Nat) (ls : List (List (List Nat))) : 4 ∣ (codeTile near table ls).length := by
  rw [codeTile_eq, List.length_append]
  exact Nat.dvd_add ⟨4, rfl⟩ (four_dvd_codeTileBlocks_length _ _ _ _)

theorem eq_of_forall₂ {α : Type} {R : α → α → Prop} (h : ∀ x y, R x y → y = x) {xs ys : List α} (hxy : List.Forall₂ R xs ys) : ys = xs := by
  have heq := hxy.imp fun x y hR => (h x y hR).symm
  rw [List.forall₂_eq_eq_eq] at heq
  exact heq.symm

/-- Settles O58: whole words by `four_dvd_codeTile_length`; the header gives the tile's parameters back, and the blocks then decode from a history
that is only the reset's. -/
theorem imageTilesDecodeAlone : Obligations.ImageTilesDecodeAlone := by
  intro near width table ls tail hnear htable hls
  refine ⟨Nat.mod_eq_zero_of_dvd (four_dvd_codeTile_length near table ls), ?_⟩
  obtain ⟨ls', hdecode, hwithin⟩ := decodeTileBlocks_codeTileBlocks (c := tileParams near table) (f := ls.length / 16 + 1) (Nat.succ_pos 7)
    (by omega) hls (freshStream_historyFits _) tail
  refine ⟨ls', (decodeTile_codeTile hnear htable width ls tail).trans hdecode, hwithin, fun hlossless => ?_⟩
  subst hlossless
  exact eq_of_forall₂ (fun _ _ => eq_of_forall₂ fun _ _ => eq_of_forall₂ fun _ _ => WithinNear.eq) hwithin

end Sys2Proof.Machine
end

section
/-! SUPPORT. Proofs: REINSTATE and the self-test commands (R248, R402, R408, R423, R578, R582). -/

namespace Sys2Proof.Machine

-- One proof at a time, as in the `Keeps` laws: the joined text leaves no memory for a thread to each.
set_option Elab.async false

/-! Commands that run (R402). -/

section
variable {s : State} {code : Nat} {r : Running}

theorem runningCmd_eq_none (h : s.isRunning code = false) : s.runningCmd code = none := by
  simpa [State.runningCmd, State.isRunning] using h

theorem exists_runningCmd (h : s.isRunning code = true) : ∃ r, s.runningCmd code = some r := by
  rw [← Option.isSome_iff_exists]
  simpa [State.runningCmd, State.isRunning] using h

theorem code_of_runningCmd (h : s.runningCmd code = some r) : r.code = code := by
  simpa using List.find?_some h

/-- A running command that completes no longer runs. -/
theorem complete_ends (h : s.runningCmd code = some r) (t : State) (st : Status) (d : Nat) : (t.complete r st d).isRunning code = false := by
  simp [State.isRunning, complete_keeper', code_of_runningCmd h]

end

/-! Channels that return (R408, R578). -/

section
variable {s : State} (block inst : Nat)

/-- A channel whose history is empty is in service. -/
theorem isRetired_of_fresh (h : s.channel block inst = { block := block, inst := inst }) : s.isRetired block inst = false := by
  rw [State.isRetired, h]
  rfl

/-- A channel that returns and does nothing else keeps the fresh history that its return gives it. -/
theorem backNow_channel : (s.backNow block inst).channel block inst = { block := block, inst := inst } :=
  (chan_of (fault_complete ..) block inst).trans (chan_back s block inst)

/-- The codec's shedding after a unit's return does not touch the unit's history (R522). -/
theorem codecBack_channel : (s.comesBack 6 inst).channel 6 inst = { block := 6, inst := inst } := by
  have hshed : (s.returnChannel 6 inst).shedCodec.fault = (s.returnChannel 6 inst).fault := fault_of (State.shedCodec_keeps (.refl _)).kept
  exact (chan_of ((fault_complete ..).trans hshed) 6 inst).trans (chan_back s 6 inst)

end

/-! REINSTATE (R408). -/

/-- Is there nothing to bring back: a block that never leaves service, or a channel in service? -/
def State.nothingToReturn (s : State) (block inst : Nat) : Prop := block = 0 ∨ block = 3 ∨ 0x0C ≤ block ∨ s.isRetired block inst = false

/-- REINSTATE as it has started, under the channel that stands for the one named (R123, R574). -/
def State.reinstating (s : State) (q : Req) (block inst : Nat) : State := s.start 0x0009 q [backBlock block, s.backInst block inst]

section
variable {q : Req} {block inst : Nat} {s : State}

theorem reinstate_nothing (h : s.nothingToReturn block inst) :
    s.reinstate q block inst = (s.reinstating q block inst).completeCode 0x0009 .notFound 0 :=
  if_pos (by simpa [State.nothingToReturn] using h)

theorem reinstate_bist (h : ¬ s.nothingToReturn block inst) (hbist : s.needsBist (backBlock block) (s.backInst block inst) = true) :
    s.reinstate q block inst = s.reinstating q block inst :=
  (if_neg (by simpa [State.nothingToReturn] using h)).trans (if_pos hbist)

theorem reinstate_returns (h : ¬ s.nothingToReturn block inst) (hbist : s.needsBist (backBlock block) (s.backInst block inst) = false) :
    s.reinstate q block inst = (s.reinstating q block inst).comesBack (backBlock block) (s.backInst block inst) :=
  (if_neg (by simpa [State.nothingToReturn] using h)).trans (if_neg (by simp [hbist]))

/-- With nothing to bring back REINSTATE is over at once, and no history has changed. -/
theorem reinstate_nothing_ends (h : s.nothingToReturn block inst) :
    (s.reinstate q block inst).isRunning 0x0009 = false ∧ (s.reinstate q block inst).fault = s.fault := by
  rw [reinstate_nothing h]
  exact ⟨run_false .., fault_complete ..⟩

variable (h : Allowed q s .op false)
include h

theorem reinstate_busy (hr : s.isRunning 0x0009 = true) : exec (.reinstate q block inst) s = .next (s.respond 0x0009 q (.fail .busy 5)) :=
  run_no h (if_pos hr)

theorem reinstate_accepted (hr : s.isRunning 0x0009 = false) :
    exec (.reinstate q block inst) s = .next ((s.reinstate q block inst).respond 0x0009 q .accepted) :=
  run_plain h (if_neg (by simp [hr]))

end

/-! BIST (R423, R578, R582). -/

section
variable {q : Req} {s : State} (h : Allowed q s .diag false) (full : Bool)
include h

theorem bistRun_accepted (hr : s.isRunning 0x0804 = false) : exec (.bistRun q full) s = .next
    (({ s.start 0x0804 q [b2n full] with fault := { s.fault with memoriesDirty := true } } : State).respond 0x0804 q .accepted) :=
  run_plain h (if_neg (by simp [hr]))

theorem bistRun_busy (hr : s.isRunning 0x0804 = true) : exec (.bistRun q full) s = .next (s.respond 0x0804 q (.fail .busy 5)) :=
  run_no h (if_pos hr)

end

/-- The results of a run by command, as BIST_DONE stores them. -/
def State.bistStored (s : State) (r : Running) (failures : List BistEntry) (us : Nat) : State :=
  { s with fault := { s.fault with bist := failures, bistFull := r.args == [1], bistRan := true, bistUs := us % 2 ^ 32 } }

section
variable {s : State} {r : Running} (failures : List BistEntry) (us : Nat)

theorem bistDone_stores (h : s.runningCmd 0x0804 = some r) :
    exec (.bistDone failures us) s = .next ((s.bistStored r failures us).complete r .ok 0) := by
  show execBistDone failures us s = _
  rw [execBistDone, h]
  rfl

theorem bistDone_unit (h : s.isRunning 0x0804 = false) : exec (.bistDone failures us) s = .next (s.unitBist failures) := by
  show execBistDone failures us s = _
  rw [execBistDone, runningCmd_eq_none h]

theorem unitBist_nothing (h : s.isRunning 0x0009 = false) : s.unitBist failures = s := by
  rw [State.unitBist, runningCmd_eq_none h]

end

section
variable {s : State} {r : Running} {block inst : Nat} {failures : List BistEntry} (h : s.runningCmd 0x0009 = some r) (hargs : r.args = [block, inst])
  (hblock : block ≠ 1) (hbist : s.needsBist block inst = true)
include h hargs hblock hbist

/-- A unit that fails its BIST stays as it was, and REINSTATE completes with RETIRED (R248, R578). -/
theorem unitBist_fails (hf : failures.any (fun e => backBlock e.block == block && e.inst == inst) = true) :
    s.unitBist failures = s.complete r .retired 0 := by
  rw [State.unitBist, h]
  dsimp only
  rw [hargs]
  dsimp only
  rw [if_neg (by simp [hbist, hblock]), if_pos hf]

theorem unitBist_passes (hf : failures.any (fun e => backBlock e.block == block && e.inst == inst) = false) :
    s.unitBist failures = s.comesBack block inst := by
  rw [State.unitBist, h]
  dsimp only
  rw [hargs]
  dsimp only
  rw [if_neg (by simp [hbist, hblock]), if_neg (by simp [hf])]

end

/-- Only the correction stages run their BIST under another block (R574). -/
theorem backBlock_beq {block : Nat} (h1 : block ≠ 1) (h2 : block ≠ 2) (b : Nat) : (backBlock b == block) = (b == block) := by
  unfold backBlock
  split
  · next hb => simp [hb, h1.symm, h2.symm]
  · rfl

theorem bistResult_answers {q : Req} {s : State} (h : Allowed q s .nb false) :
    exec (.bistResult q) s = .next (s.respond 0x0805 q (.ok (wordsBytes
      ([b2n s.fault.bistFull + 2 * b2n s.fault.bistRan + s.fault.bist.length % 2 ^ 16 * 2 ^ 16, s.fault.bistUs] ++
        (s.fault.bist.take 1016).map (fun e => e.inst * 2 ^ 16 + e.block * 2 ^ 8 + e.kind))))) :=
  run_plain h rfl

/-- Settles O19: REINSTATE by what there is to bring back and whether a BIST comes first, and the self-test commands, each by its lemma above. -/
theorem reinstateAndSelfTestRun : Obligations.ReinstateAndSelfTestRun := by
  refine ⟨fun q block inst s h hr => reinstate_busy h hr, fun q block inst s h hr hn => ?_, fun q unit s h hr hret hus => ?_,
    fun q cell s h hr hret => ?_, fun r cell us failures s hno hr hargs => ?_, fun q full s h hr => ⟨_, bistRun_accepted h full hr, rfl, rfl⟩,
    fun q full s h hr => bistRun_busy h full hr,
    fun failures us r s hr => ⟨_, bistDone_stores failures us hr, complete_ends hr _ _ _, fault_complete' ..⟩, fun q s h => ?_⟩
  · obtain ⟨hends, hfault⟩ := reinstate_nothing_ends (q := q) hn
    exact ⟨_, reinstate_accepted h hr, hfault, hends⟩
  · have hreturns := reinstate_returns (q := q) (s := s) (block := 6) (inst := unit) (by simp [State.nothingToReturn, hret]) hus
    have hfresh := codecBack_channel (s := s.reinstating q 6 unit) unit
    refine ⟨_, reinstate_accepted h hr, ?_⟩
    rw [hreturns]
    exact ⟨isRetired_of_fresh 6 unit hfresh, congrArg Channel.occ hfresh, run_false ..⟩
  · rw [reinstate_accepted h hr, reinstate_bist (by simp [State.nothingToReturn, hret]) rfl]
    rfl
  · refine ⟨_, bistDone_unit failures us hno, ?_⟩
    have hcell (e : BistEntry) : (backBlock e.block == 7) = (e.block == 7) := backBlock_beq (by decide) (by decide) e.block
    simp only [← hcell]
    split
    next hf =>
      rw [unitBist_fails hr hargs (by decide) rfl hf]
      exact ⟨complete_ends hr .., fault_complete' ..⟩
    next hf =>
      rw [unitBist_passes hr hargs (by decide) rfl (by simpa using hf)]
      exact ⟨run_false .., isRetired_of_fresh 7 cell (backNow_channel 7 cell)⟩
  · rw [bistResult_answers h, wordsBytes_append]
    simp [wordsBytes]

/-- Settles O59: the same cases of REINSTATE for every channel, and BIST_DONE by the command that waits for it. -/
theorem reinstateAndBistComplete : Obligations.ReinstateAndBistComplete := by
  refine ⟨fun q block inst s h hr => ⟨_, reinstate_accepted h hr, fun hn => reinstate_nothing_ends hn, fun h0 h3 hC hret hbist => ?_⟩,
    fun q full s h hr => ⟨_, bistRun_accepted h full hr, isr_start .., rfl, rfl, rfl⟩, fun failures us s hr => ?_,
    fun failures us s hno hr => (bistDone_unit failures us hno).trans (congrArg _ (unitBist_nothing failures hr)),
    fun failures us block inst r s hno hr hargs hblock hbist => ⟨fun hf => ?_, fun hf =>
      (bistDone_unit failures us hno).trans (congrArg _ (unitBist_passes hr hargs hblock hbist hf))⟩,
    fun q s h => bistResult_answers h⟩
  · rw [reinstate_bist (by simp [State.nothingToReturn, h0, h3, hC, hret]) hbist]
    exact ⟨isr_start .., rfl⟩
  · obtain ⟨r, hr⟩ := exists_runningCmd hr
    refine ⟨_, bistDone_stores failures us hr, complete_ends hr .., ?_⟩
    rw [fault_complete', sys_of (State.complete_keeps (.refl _) r _ _).kept]
    exact ⟨rfl, rfl, rfl, rfl, rfl⟩
  · refine ⟨_, bistDone_unit failures us hno, ?_⟩
    rw [unitBist_fails hr hargs hblock hbist hf]
    exact ⟨complete_ends hr .., fault_complete' ..⟩

end Sys2Proof.Machine
end

section
/-! SUPPORT. Proofs: waiting tasks are dispatched in the order of R259 (R243, R246, R259). -/

namespace Sys2Proof.Machine

-- One proof at a time, as in the `Keeps` laws: the joined text leaves no memory for a thread to each.
set_option Elab.async false

/-! The order of tasks. -/

/-- The order is lexicographic: PRIO, epoch, WLN, stage, and the order of creation (R259). -/
theorem Task.before_iff (a b : Task) : a.before b = true ↔
    a.prio < b.prio ∨ a.prio = b.prio ∧ (a.epoch < b.epoch ∨ a.epoch = b.epoch ∧ (a.wln < b.wln ∨
      a.wln = b.wln ∧ (a.stage < b.stage ∨ a.stage = b.stage ∧ a.id < b.id))) := by
  simp [Task.before]

theorem Task.before_irrefl (a : Task) : a.before a = false := by
  rw [← Bool.not_eq_true, Task.before_iff]
  omega

theorem Task.before_trans {a b c : Task} (hab : a.before b = true) (hbc : b.before c = true) : a.before c = true := by
  rw [Task.before_iff] at *
  omega

theorem bestTask_eq_none {l : List Task} : bestTask l = none ↔ l = [] := by
  cases l with
  | nil => exact iff_of_true rfl rfl
  | cons t r =>
    unfold bestTask
    cases bestTask r with
    | none => simp
    | some u => cases h : t.before u <;> simp [h]

/-- The best task is one of the list, and no other goes before it. -/
theorem bestTask_spec {l : List Task} {u : Task} (h : bestTask l = some u) : u ∈ l ∧ ∀ z ∈ l, z.before u = false := by
  induction l generalizing u with
  | nil => cases h
  | cons t r ih =>
    unfold bestTask at h
    cases hr : bestTask r with
    | none =>
      rw [hr] at h
      cases h
      simp [bestTask_eq_none.mp hr, Task.before_irrefl]
    | some v =>
      obtain ⟨hmem, hleast⟩ := ih hr
      rw [hr] at h
      dsimp only at h
      split at h
      next htv =>
        cases h
        refine ⟨List.mem_cons_self, List.forall_mem_cons.mpr ⟨Task.before_irrefl t, fun z hz => ?_⟩⟩
        rw [← Bool.not_eq_true]
        exact fun hzt => by simpa [hleast z hz] using Task.before_trans hzt htv
      next htv =>
        cases h
        exact ⟨List.mem_cons_of_mem t hmem, List.forall_mem_cons.mpr ⟨by simpa using htv, hleast⟩⟩

/-! TASK_DISPATCH. -/

/-- The waiting tasks whose frame has an idle cell for them. -/
def State.readyTasks (s : State) : List Task := s.comb.tasks.filter (fun t => t.cell.isNone && !(s.cellsFor t).isEmpty)

/-- A task as it runs: on the lowest idle cell of its frame, with the outputs that its operator gives. -/
def State.onCell (s : State) (t : Task) : Task := { t with cell := (s.cellsFor t).head?, out := some (t.out.getD (s.runTask t)) }

theorem mem_readyTasks {s : State} {t : Task} : t ∈ s.readyTasks ↔ t ∈ s.comb.tasks ∧ t.cell = none ∧ s.cellsFor t ≠ [] := by
  simp [State.readyTasks]

section
variable {s : State} (h : ∀ x ∈ s.comb.tasks, x.cell = none → s.placeTask x = x)
include h

/-- Where every waiting task may stay in its frame, placing the tasks anew changes nothing (R248). -/
theorem placed_eq_self : ({ s with comb := { s.comb with
    tasks := s.comb.tasks.map (fun t => if t.cell.isSome then t else s.placeTask t) } } : State) = s := by
  have hmap : s.comb.tasks.map (fun t => if t.cell.isSome then t else s.placeTask t) = s.comb.tasks := by
    refine (List.map_congr_left fun x hx => ?_).trans (List.map_id _)
    cases hc : x.cell with
    | none => exact h x hx hc
    | some c => rfl
  rw [hmap]

theorem dispatch_nothing (hnone : s.readyTasks = []) : s.dispatch = s := by
  unfold State.dispatch
  rw [placed_eq_self h]
  unfold State.readyTasks at hnone
  dsimp only
  rw [hnone]
  rfl

theorem dispatch_tasks {x : Task} (hx : bestTask s.readyTasks = some x) :
    s.dispatch.comb.tasks = s.comb.tasks.map (fun z => if z.id = x.id then s.onCell x else z) := by
  unfold State.dispatch
  rw [placed_eq_self h]
  unfold State.readyTasks at hx
  dsimp only
  rw [hx]
  refine congrArg (fun o => s.comb.tasks.map (fun z => if z.id = x.id then { x with cell := (s.cellsFor x).head?, out := o } else z))
    (?_ : _ = some (x.out.getD (s.runTask x)))
  cases x.out <;> rfl

end

theorem taskDispatch_all_running {s : State} (h : ∀ x ∈ s.comb.tasks, x.cell.isSome = true) : exec .taskDispatch s = .next s := by
  have hwait (x : Task) (hx : x ∈ s.comb.tasks) : x.cell ≠ none := Option.isSome_iff_ne_none.mp (h x hx)
  refine congrArg Host.Outcome.next (dispatch_nothing (fun x hx hc => absurd hc (hwait x hx)) (List.eq_nil_iff_forall_not_mem.mpr fun x hx => ?_))
  obtain ⟨hmem, hcell, -⟩ := mem_readyTasks.mp hx
  exact hwait x hmem hcell

/-- A dispatch leaves the segmenter and the records. -/
theorem dispatch_seg_recs (s : State) : s.dispatch.seg = s.seg ∧ s.dispatch.recs = s.recs := by
  have hk := exec_keeps .taskDispatch s _ rfl
  exact ⟨seg_of (hk.same .seg (by simp [mayChange])), recs_of (hk.same .recs (by simp [mayChange]))⟩

theorem dispatch_runs {s : State} (h : ∀ x ∈ s.comb.tasks, x.cell = none → s.placeTask x = x)
    (hready : ∃ x ∈ s.comb.tasks, x.cell = none ∧ s.cellsFor x ≠ []) :
    ∃ (x : Task) (c : Nat), x ∈ s.comb.tasks ∧ x.cell = none ∧ (s.cellsFor x).head? = some c ∧
      (∀ z ∈ s.comb.tasks, z.cell = none → s.cellsFor z ≠ [] → z.before x = false) ∧
      s.dispatch.comb.tasks = s.comb.tasks.map (fun z => if z.id = x.id then s.onCell x else z) := by
  obtain ⟨w, hw⟩ := hready
  obtain ⟨x, hx⟩ : ∃ x, bestTask s.readyTasks = some x :=
    Option.ne_none_iff_exists'.mp fun hnone => List.ne_nil_of_mem (mem_readyTasks.mpr hw) (bestTask_eq_none.mp hnone)
  obtain ⟨hmem, hleast⟩ := bestTask_spec hx
  obtain ⟨hin, hcell, hidle⟩ := mem_readyTasks.mp hmem
  exact ⟨x, _, hin, hcell, List.head?_eq_some_head hidle, fun z hz hzc hzi => hleast z (mem_readyTasks.mpr ⟨hz, hzc, hzi⟩), dispatch_tasks h hx⟩

end Sys2Proof.Machine
end

section
/-! SUPPORT. Proofs: tasks commit, fault and are dropped (R239, R245-R248, R298). -/

namespace Sys2Proof.Machine

-- One proof at a time, as in the `Keeps` laws: the joined text leaves no memory for a thread to each.
set_option Elab.async false

theorem taskOn_of_comb {s t : State} (h : t.comb = s.comb) (cell : Nat) : t.taskOn cell = s.taskOn cell := by
  rw [State.taskOn, h, State.taskOn]

/-- Without a failed essential block SAFE_HOLD does not follow (R553). -/
theorem settle_of_not_failed {s : State} (h : s.sys.failed = false) : s.settle = s := if_neg (by simp [h])

/-! Errors met in decoding (R521, log 83) leave the Comb. -/

section
variable (s : State) (bad : List (Nat × Nat × Nat))

theorem withBad_comb : (s.withBad bad).comb = s.comb := comb_of (State.withBad_keeps (.refl s) bad).kept
theorem withBad_seg : (s.withBad bad).seg = s.seg := seg_of (State.withBad_keeps (.refl s) bad).kept
theorem withBad_sys : (s.withBad bad).sys = s.sys := sys_of (State.withBad_keeps (.refl s) bad).kept

theorem withBad_nil_recs {bad : List (Nat × Nat × Nat)} (h : bad = []) : (s.withBad bad).recs = s.recs := by
  rw [h]
  rfl

end

/-! Commit (R245). -/

/-- TASKS of a cell counts. -/
def State.countTask (s : State) (cell : Nat) : State :=
  { s with comb := { s.comb with tasksDone := insertN cell (satInc ((lookupN cell s.comb.tasksDone).getD 0)) s.comb.tasksDone } }

/-- WITHDRAWN counts. -/
def State.countWithdrawn (s : State) : State := { s with comb := { s.comb with withdrawn := satInc s.comb.withdrawn } }

/-- The queue entry of a blob is released, and the rule that decided it counts (R245, R272). -/
def State.blobReleased (s : State) (b : Descriptor) (r : BlobOut) : State :=
  { s with
    seg := { s.seg with queue := s.seg.queue.filter (fun x => !(x.epoch == b.epoch && x.seq == b.seq)) }
    comb := { s.comb with ruleHits := updAt s.comb.ruleHits r.rule satInc } }

/-- After its release a blob's record, event and marker decisions leave the Comb and the segmenter. -/
theorem commitBlob_released (s : State) (b : Descriptor) (r : BlobOut) :
    Keeps (fun x => ¬ (x = .comb ∨ x = .seg)) (s.blobReleased b r) (s.commitBlob b r) := by
  unfold State.commitBlob
  extract_lets _ _ s0 seq rec' c s1 s1' s2
  have hc : Keeps (fun x => ¬ (x = .comb ∨ x = .seg)) s0 c.2.2 := by
    show Keeps _ _ (if _ then _ else _ : Nat × Bool × State).2.2
    split
    · exact State.storeCrop_keeps (.refl s0) _ _
    · exact .refl s0
  have h1 : Keeps (fun x => ¬ (x = .comb ∨ x = .seg)) s0 s1 := .ite (State.post_keeps hc _) (.refl s0)
  have h1' : Keeps (fun x => ¬ (x = .comb ∨ x = .seg)) s0 s1' := .ite (State.sendDefect_keeps h1 _ _ _ _ _ _ _ _) h1
  have h2 : Keeps (fun x => ¬ (x = .comb ∨ x = .seg)) s0 s2 := .ite (State.publish_keeps h1' _ _) h1'
  exact .ite (State.decideAll_keeps h2 _ _ _ _ _) h2

theorem commitBlob_comb (s : State) (b : Descriptor) (r : BlobOut) : (s.commitBlob b r).comb = (s.blobReleased b r).comb :=
  comb_of ((commitBlob_released s b r).same .comb (by simp))

theorem commitBlob_seg (s : State) (b : Descriptor) (r : BlobOut) : (s.commitBlob b r).seg = (s.blobReleased b r).seg :=
  seg_of ((commitBlob_released s b r).same .seg (by simp))

/-- A field task's commit changes in the Comb the parts of its row alone (R264). -/
theorem commitNodes_comb (s : State) (epoch row first : Nat) (nodes : List (Int × Int × Nat)) :
    ∃ parts, (s.commitNodes epoch row first nodes).comb = { s.comb with rowParts := parts } := by
  unfold State.commitNodes
  extract_lets
  split
  · exact ⟨_, rfl⟩
  · split
    · exact ⟨_, rfl⟩
    · split <;> exact ⟨_, rfl⟩

/-- No commit changes which tasks there are or what their cells have counted. -/
theorem commitTask_comb (s : State) (t : Task) (o : TaskOut) :
    (s.commitTask t o).comb.tasks = s.comb.tasks ∧ (s.commitTask t o).comb.tasksDone = s.comb.tasksDone := by
  have hsame {u : State} (h : u.comb = s.comb) : u.comb.tasks = s.comb.tasks ∧ u.comb.tasksDone = s.comb.tasksDone := by
    rw [h]
    exact ⟨rfl, rfl⟩
  unfold State.commitTask
  split
  · rw [commitBlob_comb]
    exact ⟨rfl, rfl⟩
  · obtain ⟨parts, h⟩ := commitNodes_comb s t.epoch _ _ _
    rw [h]
    exact ⟨rfl, rfl⟩
  · exact hsame (comb_of (State.sendRegister_keeps (State.commitRepeat_keeps (.refl s) ..) ..).kept)
  · exact hsame (comb_of (State.commitRepeat_keeps (.refl s) ..).kept)
  · exact hsame (comb_of (State.verifyRecord_keeps (.refl s) ..).kept)
  · exact hsame (comb_of (State.commitElems_keeps (.refl s) ..).kept)
  · exact ⟨rfl, rfl⟩

theorem commitTask_blob {t : Task} {b : Descriptor} (h : t.input = .blob b) (s : State) (r : BlobOut) :
    s.commitTask t (.blob r) = s.commitBlob b r := by
  unfold State.commitTask
  rw [h]

theorem commitTask_sys (s : State) (t : Task) (o : TaskOut) : (s.commitTask t o).sys = s.sys :=
  sys_of (State.commitTask_keeps (.refl s) t o).kept

section
variable {s : State} {cell : Nat} {x : Task} {o : TaskOut}

theorem taskDone_idle (h : s.taskOn cell = none) : s.taskDone cell = s := by
  rw [State.taskDone, h]

theorem taskDone_trap (h : s.taskOn cell = some x) (ho : x.out = some .trap) : s.taskDone cell = s.taskFault x cell 4 false := by
  rw [State.taskDone, h]
  dsimp only
  rw [ho]

/-- A withdrawn task counts, and its outputs are discarded (R247). -/
theorem taskDone_withdrawn (h : s.taskOn cell = some x) (ho : x.out = some o) (hne : o ≠ .trap) (hw : x.withdrawn = true) :
    s.taskDone cell = (s.dropTask x).countWithdrawn := by
  rw [State.taskDone, h]
  dsimp only
  rw [ho]
  cases o
  case trap => exact absurd rfl hne
  all_goals exact if_pos hw

theorem taskDone_commits (h : s.taskOn cell = some x) (ho : x.out = some o) (hne : o ≠ .trap) (hw : x.withdrawn = false) :
    s.taskDone cell = ((s.dropTask x).countTask cell).commitTask x o := by
  rw [State.taskDone, h]
  dsimp only
  rw [ho]
  cases o
  case trap => exact absurd rfl hne
  all_goals exact if_neg (by simp [hw])

end

/-- TASK_COMPLETE is the end of the task on the cell, behind the errors met in decoding, where no essential block fails. -/
theorem taskComplete_eq {s : State} {cell : Nat} {bad : List (Nat × Nat × Nat)} (h : ((s.withBad bad).taskDone cell).sys.failed = false) :
    exec (.taskComplete cell bad) s = .next ((s.withBad bad).taskDone cell).endBad :=
  congrArg Host.Outcome.next (settle_of_not_failed h)

section
variable {s : State} {cell : Nat} (hup : s.sys.failed = false)
include hup

theorem taskComplete_idle (h : s.taskOn cell = none) (bad : List (Nat × Nat × Nat)) :
    exec (.taskComplete cell bad) s = .next (s.withBad bad).endBad := by
  have hidle : (s.withBad bad).taskDone cell = s.withBad bad := taskDone_idle ((taskOn_of_comb (withBad_comb s bad) cell).trans h)
  rw [taskComplete_eq (by rw [hidle, withBad_sys, hup]), hidle]

variable {x : Task} {o : TaskOut} (h : s.taskOn cell = some x) (ho : x.out = some o) (hne : o ≠ .trap) (bad : List (Nat × Nat × Nat))
include h ho hne

theorem taskComplete_withdrawn (hw : x.withdrawn = true) : ∃ t : State, exec (.taskComplete cell bad) s = .next t ∧
    t.comb.tasks = s.comb.tasks.filter (fun z => z.id != x.id) ∧ t.comb.withdrawn = satInc s.comb.withdrawn ∧ t.seg = s.seg ∧
      (bad = [] → t.recs = s.recs) := by
  have hdone := taskDone_withdrawn ((taskOn_of_comb (withBad_comb s bad) cell).trans h) ho hne hw
  refine ⟨_, taskComplete_eq (by rw [hdone]; exact (congrArg SysState.failed (withBad_sys s bad)).trans hup), ?_⟩
  rw [hdone, ← withBad_comb s bad, ← withBad_seg s bad]
  exact ⟨rfl, rfl, rfl, fun hbad => withBad_nil_recs s hbad⟩

theorem taskComplete_commits (hw : x.withdrawn = false) : ∃ t : State, exec (.taskComplete cell bad) s = .next t ∧
    t.comb.tasks = s.comb.tasks.filter (fun z => z.id != x.id) ∧
      lookupN cell t.comb.tasksDone = some (satInc ((lookupN cell s.comb.tasksDone).getD 0)) ∧
      ∀ b r, x.input = .blob b → o = .blob r → t.seg.queue = s.seg.queue.filter (fun z => !(z.epoch == b.epoch && z.seq == b.seq)) := by
  have hdone := taskDone_commits ((taskOn_of_comb (withBad_comb s bad) cell).trans h) ho hne hw
  have hsys : ((s.withBad bad).taskDone cell).sys = s.sys := by
    rw [hdone, commitTask_sys]
    exact withBad_sys s bad
  obtain ⟨htasks, hcounts⟩ := commitTask_comb (((s.withBad bad).dropTask x).countTask cell) x o
  refine ⟨_, taskComplete_eq (by rw [hsys, hup]), ?_⟩
  rw [hdone, ← withBad_comb s bad, ← withBad_seg s bad]
  refine ⟨htasks, (congrArg (lookupN cell) hcounts).trans (lookup_insert ..), fun b r hb hr => ?_⟩
  rw [hr, commitTask_blob hb]
  exact congrArg SegState.queue (commitBlob_seg ..)

end

/-! Faults (R246, R298). -/

/-- The occurrence that a fault of a running task is: against its cell, or against its frame for a frame-store error. -/
def State.faultOccur (s : State) (t : Task) (cell code : Nat) (frameStore : Bool) : Bool × State :=
  if frameStore then s.occur 8 (cell / 16) 1 0 (s.taskLine t) else s.occur 7 cell code 0 (s.taskLine t)

/-- FAULTS of the cell counts, or FAULTS and FS_ECC_UNC of its frame. -/
def State.countFault (s : State) (cell : Nat) (frameStore : Bool) : State :=
  { s with comb :=
    if frameStore then { s.comb with
      frameFaults := updAt s.comb.frameFaults (cell / 16) satInc, fsEccUnc := updAt s.comb.fsEccUnc (cell / 16) satInc }
    else { s.comb with cellFaults := insertN cell (satInc ((lookupN cell s.comb.cellFaults).getD 0)) s.comb.cellFaults } }

/-- The task waits again, for another cell. -/
def State.retryTask (s : State) (t : Task) (cell : Nat) : State :=
  let s1 := s.setTask { t with cell := none, faults := t.faults + 1, avoid := some cell }
  { s1 with comb := { s1.comb with retries := satInc s1.comb.retries } }

/-- The task is dropped; a withdrawn one counts (log 169). -/
def State.loseTask (s : State) (t : Task) (cell code : Nat) : State :=
  if t.withdrawn then (s.dropFaulted t cell code).countWithdrawn else s.dropFaulted t cell code

/-- A fault whose occurrence is transient: it counts, and the task waits again or, at its third fault in a row, is dropped. -/
theorem taskFault_transient {s : State} {t : Task} {cell code : Nat} {frameStore : Bool} (h : (s.faultOccur t cell code frameStore).1 = false) :
    s.taskFault t cell code frameStore = if t.faults ≥ 2 then ((s.faultOccur t cell code frameStore).2.countFault cell frameStore).loseTask t cell code
      else ((s.faultOccur t cell code frameStore).2.countFault cell frameStore).retryTask t cell :=
  if_neg (by rw [← State.faultOccur, h]; decide)

/-- A dropped task leaves and DROPPED counts; of the rest of the Comb only the parts of its field row can go (R246, R298). -/
theorem dropFaulted_comb (s : State) (t : Task) (cell code : Nat) : ∃ parts, (s.dropFaulted t cell code).comb =
    { s.comb with tasks := s.comb.tasks.filter (fun z => z.id != t.id), dropped := satInc s.comb.dropped, rowParts := parts } := by
  have hrec : ((s.dropTask t).faultRecord 4 7 cell code 3 0 (s.taskLine t) (t.op * 2 ^ 56 + t.source % 2 ^ 56)).comb = (s.dropTask t).comb :=
    comb_of (State.faultRecord_keeps (.refl _) ..).kept
  unfold State.dropFaulted
  dsimp only
  rw [hrec]
  split
  · exact ⟨_, rfl⟩
  · exact ⟨_, rfl⟩
  · exact ⟨_, comb_of (State.verifyRecord_keeps (.refl _) ..).kept⟩
  · exact ⟨_, rfl⟩

theorem loseTask_comb (s : State) (t : Task) (cell code : Nat) : ∃ parts, (s.loseTask t cell code).comb =
    { s.comb with tasks := s.comb.tasks.filter (fun z => z.id != t.id), dropped := satInc s.comb.dropped, rowParts := parts,
                  withdrawn := if t.withdrawn then satInc s.comb.withdrawn else s.comb.withdrawn } := by
  obtain ⟨parts, h⟩ := dropFaulted_comb s t cell code
  refine ⟨parts, ?_⟩
  unfold State.loseTask
  split
  · rw [State.countWithdrawn, h]
  · exact h

theorem loseTask_sys (s : State) (t : Task) (cell code : Nat) : (s.loseTask t cell code).sys = s.sys := by
  have h : (s.dropFaulted t cell code).sys = s.sys := sys_of (State.dropFaulted_keeps (.refl s) t cell code).kept
  unfold State.loseTask
  split <;> exact h

theorem faultOccur_comb (s : State) (t : Task) (cell code : Nat) (frameStore : Bool) : (s.faultOccur t cell code frameStore).2.comb = s.comb := by
  cases frameStore <;> exact comb_of (State.occur_keeps (.refl s) ..).kept

theorem faultOccur_sys (s : State) (t : Task) (cell code : Nat) (frameStore : Bool) : (s.faultOccur t cell code frameStore).2.sys = s.sys := by
  cases frameStore <;> exact sys_of (State.occur_keeps (.refl s) ..).kept

section
variable {s : State} {t : Task} {cell code : Nat} {frameStore : Bool} (h : (s.faultOccur t cell code frameStore).1 = false)
include h

theorem taskFault_sys : (s.taskFault t cell code frameStore).sys = s.sys := by
  rw [taskFault_transient h]
  split
  · exact (loseTask_sys ..).trans (faultOccur_sys ..)
  · exact faultOccur_sys ..

theorem taskFault_retries (hf : t.faults < 2) : (s.taskFault t cell code frameStore).comb = { (s.countFault cell frameStore).comb with
    tasks := s.comb.tasks.map (fun z => if z.id = t.id then { t with cell := none, faults := t.faults + 1, avoid := some cell } else z)
    retries := satInc s.comb.retries } := by
  rw [taskFault_transient h, if_neg (by omega), State.retryTask, State.setTask, State.countFault, faultOccur_comb]
  cases frameStore <;> rfl

theorem taskFault_drops (hf : 2 ≤ t.faults) : ∃ parts, (s.taskFault t cell code frameStore).comb = { (s.countFault cell frameStore).comb with
    tasks := s.comb.tasks.filter (fun z => z.id != t.id), dropped := satInc s.comb.dropped, rowParts := parts
    withdrawn := if t.withdrawn then satInc s.comb.withdrawn else s.comb.withdrawn } := by
  obtain ⟨parts, hlost⟩ := loseTask_comb ((s.faultOccur t cell code frameStore).2.countFault cell frameStore) t cell code
  refine ⟨parts, ?_⟩
  rw [taskFault_transient h, if_pos hf, hlost, State.countFault, faultOccur_comb]
  cases frameStore <;> rfl

end

/-! TASK_WATCHDOG and CELL_FAULT (R235, R239, R246). -/

/-- An error of a parameter word rewrites the frame's copy from the deck before the task faults (R239). -/
def State.paramRewritten (s : State) (t : Task) (cell : Nat) (param : Bool) : State := if param then s.rewriteParam (cell / 16) t.epoch else s

section
variable {s : State} {cell : Nat} (hup : s.sys.failed = false)
include hup

theorem taskWatchdog_idle (h : s.taskOn cell = none) : exec (.taskWatchdog cell) s = .next s := by
  show Host.Outcome.next (s.cellError cell 2 false).settle = _
  rw [State.cellError, h]
  exact congrArg _ (settle_of_not_failed hup)

theorem cellFault_idle (h : s.taskOn cell = none) (code : Nat) (frameStore param : Bool) : exec (.cellFault cell code frameStore param) s = .next s := by
  show execCellFault cell code frameStore s param = _
  unfold execCellFault
  rw [if_neg (by decide), h]
  dsimp only
  rw [State.cellError, h]
  exact congrArg _ (settle_of_not_failed hup)

variable {x : Task} (h : s.taskOn cell = some x)
include h

theorem taskWatchdog_faults (hocc : (s.faultOccur x cell 2 false).1 = false) : exec (.taskWatchdog cell) s = .next (s.taskFault x cell 2 false) := by
  show Host.Outcome.next (s.cellError cell 2 false).settle = _
  rw [State.cellError, h]
  exact congrArg _ (settle_of_not_failed ((congrArg SysState.failed (taskFault_sys hocc)).trans hup))

theorem cellFault_faults {code : Nat} (param : Bool) (hocc : (s.faultOccur x cell code false).1 = false) :
    exec (.cellFault cell code false param) s = .next (s.taskFault x cell code false) := by
  show execCellFault cell code false s param = _
  unfold execCellFault
  rw [if_neg (by decide), h]
  dsimp only
  rw [if_neg (by simp), State.cellError, h]
  exact congrArg _ (settle_of_not_failed ((congrArg SysState.failed (taskFault_sys hocc)).trans hup))

theorem taskComplete_traps (bad : List (Nat × Nat × Nat)) (ho : x.out = some .trap) (hocc : ((s.withBad bad).faultOccur x cell 4 false).1 = false) :
    exec (.taskComplete cell bad) s = .next ((s.withBad bad).taskFault x cell 4 false).endBad := by
  have hdone := taskDone_trap ((taskOn_of_comb (withBad_comb s bad) cell).trans h) ho
  rw [taskComplete_eq (by rw [hdone, taskFault_sys hocc, withBad_sys, hup]), hdone]

theorem cellFault_frameStore {code : Nat} (param : Bool) (hocc : ((s.paramRewritten x cell param).faultOccur x cell code true).1 = false) :
    exec (.cellFault cell code true param) s = .next ((s.paramRewritten x cell param).taskFault x cell code true) := by
  have hon : (s.paramRewritten x cell param).taskOn cell = some x := by
    cases param <;> exact h
  have hsys : (s.paramRewritten x cell param).sys = s.sys := by
    cases param <;> rfl
  show execCellFault cell code true s param = _
  unfold execCellFault
  rw [if_neg (by decide), h, Bool.true_and]
  dsimp only
  rw [← State.paramRewritten, State.cellError, hon]
  exact congrArg _ (settle_of_not_failed (by rw [taskFault_sys hocc, hsys, hup]))

end

/-- What a transient fault of a task does to the Comb: the cell counts it, and the task waits again or is dropped. -/
theorem taskFault_counts {s : State} {x : Task} {cell code : Nat} (hocc : (s.faultOccur x cell code false).1 = false) :
    lookupN cell (s.taskFault x cell code false).comb.cellFaults = some (satInc ((lookupN cell s.comb.cellFaults).getD 0)) ∧
    (x.faults < 2 → (s.taskFault x cell code false).comb.retries = satInc s.comb.retries ∧ (s.taskFault x cell code false).comb.tasks =
      s.comb.tasks.map (fun z => if z.id = x.id then { x with cell := none, faults := x.faults + 1, avoid := some cell } else z)) ∧
    (2 ≤ x.faults → (s.taskFault x cell code false).comb.dropped = satInc s.comb.dropped ∧
      (s.taskFault x cell code false).comb.tasks = s.comb.tasks.filter (fun z => z.id != x.id) ∧
      (s.taskFault x cell code false).comb.withdrawn = if x.withdrawn then satInc s.comb.withdrawn else s.comb.withdrawn) := by
  rcases Nat.lt_or_ge x.faults 2 with hf | hf
  · rw [taskFault_retries hocc hf]
    exact ⟨lookup_insert .., fun _ => ⟨rfl, rfl⟩, fun h => absurd h (by omega)⟩
  · obtain ⟨parts, hlost⟩ := taskFault_drops hocc hf
    rw [hlost]
    exact ⟨lookup_insert .., fun h => absurd h (by omega), fun _ => ⟨rfl, rfl, rfl⟩⟩

/-- A frame-store error counts for the frame, not for the cell. -/
theorem taskFault_frameStore {s : State} {x : Task} {cell code : Nat} (hocc : (s.faultOccur x cell code true).1 = false) :
    (s.taskFault x cell code true).comb.frameFaults = updAt s.comb.frameFaults (cell / 16) satInc ∧
    (s.taskFault x cell code true).comb.fsEccUnc = updAt s.comb.fsEccUnc (cell / 16) satInc ∧
    (s.taskFault x cell code true).comb.cellFaults = s.comb.cellFaults ∧
    (s.taskFault x cell code true).comb.paramRewrite = s.comb.paramRewrite := by
  rcases Nat.lt_or_ge x.faults 2 with hf | hf
  · rw [taskFault_retries hocc hf]
    exact ⟨rfl, rfl, rfl, rfl⟩
  · obtain ⟨parts, hlost⟩ := taskFault_drops hocc hf
    rw [hlost]
    exact ⟨rfl, rfl, rfl, rfl⟩

/-- A corrected error counts and does no more (R235, R239). -/
theorem cellFault_corrected (s : State) (cell code : Nat) (frameStore param : Bool) :
    exec (.cellFault cell code frameStore param true) s = .next (s.correctedError cell frameStore) := rfl

end Sys2Proof.Machine
end

section
/-! SUPPORT. Proofs: stages are shed and restored, and frame clocks change (R249, R251). -/

namespace Sys2Proof.Machine

-- One proof at a time, as in the `Keeps` laws: the joined text leaves no memory for a thread to each.
set_option Elab.async false

/-! The stage of lowest rank (R251). -/

theorem lowestRank_eq_none {l : List (Nat × Nat)} : lowestRank l = none ↔ l = [] := by
  cases l with
  | nil => exact iff_of_true rfl rfl
  | cons x r =>
    unfold lowestRank
    cases lowestRank r with
    | none => simp
    | some i => cases h : r.all (fun y => decide (x.2 ≤ y.2)) <;> simp

/-- The stage of lowest rank is one of the list, and no rank of the list is lower. -/
theorem lowestRank_spec {l : List (Nat × Nat)} {i : Nat} (h : lowestRank l = some i) : ∃ k, (i, k) ∈ l ∧ ∀ y ∈ l, k ≤ y.2 := by
  induction l generalizing i with
  | nil => cases h
  | cons x r ih =>
    unfold lowestRank at h
    cases hr : lowestRank r with
    | none =>
      rw [hr] at h
      cases h
      exact ⟨x.2, List.mem_cons_self, by simp [lowestRank_eq_none.mp hr]⟩
    | some j =>
      rw [hr] at h
      dsimp only at h
      split at h
      next hall =>
        cases h
        exact ⟨x.2, List.mem_cons_self, List.forall_mem_cons.mpr ⟨Nat.le_refl _, by simpa using hall⟩⟩
      next hall =>
        cases h
        obtain ⟨k, hmem, hleast⟩ := ih hr
        obtain ⟨y, hy, hlt⟩ : ∃ y ∈ r, y.2 < x.2 := by simpa using hall
        exact ⟨k, List.mem_cons_of_mem x hmem, List.forall_mem_cons.mpr ⟨by have := hleast y hy; omega, hleast⟩⟩

/-! SHED_EVALUATION. -/

theorem shedNote_comb (s : State) (code stage : Nat) : (s.shedNote code stage).comb = s.comb := comb_of (State.shedNote_keeps (.refl s) code stage).kept

section
variable {s : State} {busy : Nat} {ages : List Nat}

theorem shedEval_sheds {i : Nat} (hage : 2000 < maxN ages)
    (hi : lowestRank (s.camDeck.sheddable.filter (fun x => !s.comb.shed.contains x.1)) = some i) :
    (s.shedEval busy ages).comb = { s.comb with
      calm := 0, shed := s.comb.shed ++ [i], shedSpans := { stage := i, start := (s.deck.epoch, s.pos.wln) } :: s.comb.shedSpans
      sheds := updAt s.comb.sheds i satInc } := by
  unfold State.shedEval
  dsimp only
  rw [if_pos hage, hi]
  exact shedNote_comb ..

variable (hage : maxN ages < 500) (hbusy : busy < 75)
include hage hbusy

theorem shedEval_calm (hcalm : s.comb.calm + 1 < 10) : (s.shedEval busy ages).comb = { s.comb with calm := s.comb.calm + 1 } := by
  unfold State.shedEval
  dsimp only
  rw [if_neg (by omega), if_pos ⟨hbusy, hage⟩, if_neg (by omega)]

theorem shedEval_restores {pre : List Nat} {i : Nat} (hcalm : 10 ≤ s.comb.calm + 1) (hshed : s.comb.shed = pre ++ [i]) :
    (s.shedEval busy ages).comb.shed = pre ∧ (s.shedEval busy ages).comb.calm = 0 := by
  have hlast : s.comb.shed.getLast? = some i := by rw [hshed, List.getLast?_concat]
  unfold State.shedEval
  dsimp only
  rw [if_neg (by omega), if_pos ⟨hbusy, hage⟩, if_pos hcalm, hlast]
  dsimp only
  rw [shedNote_comb, hshed]
  exact ⟨List.dropLast_concat, rfl⟩

end

theorem shedEval_busy {s : State} {busy : Nat} {ages : List Nat} (hage : maxN ages ≤ 2000) (hbusy : 75 ≤ busy ∨ 500 ≤ maxN ages) :
    (s.shedEval busy ages).comb = { s.comb with calm := 0 } := by
  unfold State.shedEval
  dsimp only
  rw [if_neg (by omega), if_neg (by omega)]

/-! FRAME_CLOCK_CHANGE (R249). -/

/-- Does a task run in the frame? -/
def State.frameRuns (s : State) (frame : Nat) : Bool := s.comb.tasks.any (fun t => t.cell.any (fun c => c / 16 == frame))

theorem frameRuns_iff {s : State} {frame : Nat} : s.frameRuns frame = true ↔ ∃ x ∈ s.comb.tasks, ∃ c, x.cell = some c ∧ c / 16 = frame := by
  simp [State.frameRuns, Option.any_eq_true]

theorem frameClockChange_eq (frame mhz : Nat) (s : State) : exec (.frameClockChange frame mhz) s =
    if s.frameRuns frame || !([1200, 1000, 800, 600].contains mhz) || decide (mhz > s.clockLimit) then .next s
    else .next { s with comb := { s.comb with clock := setAt s.comb.clock frame mhz } } := by
  show execFrameClockChange frame mhz s = _
  unfold execFrameClockChange State.frameRuns
  congr! 6 with t
  cases t.cell <;> rfl

theorem frameClockChange_changes {frame mhz : Nat} {s : State} (hidle : s.frameRuns frame = false) (hpoint : mhz ∈ [1200, 1000, 800, 600])
    (hlimit : mhz ≤ s.clockLimit) :
    exec (.frameClockChange frame mhz) s = .next { s with comb := { s.comb with clock := setAt s.comb.clock frame mhz } } := by
  rw [frameClockChange_eq, hidle, List.contains_iff_mem.mpr hpoint, decide_eq_false (by omega)]
  rfl

theorem frameClockChange_refused {frame mhz : Nat} {s : State}
    (h : s.frameRuns frame = true ∨ ¬ mhz ∈ [1200, 1000, 800, 600] ∨ s.clockLimit < mhz) : exec (.frameClockChange frame mhz) s = .next s := by
  rw [frameClockChange_eq]
  refine if_pos ?_
  rw [Bool.or_eq_true, Bool.or_eq_true, Bool.not_eq_true', ← Bool.not_eq_true, List.contains_iff_mem, decide_eq_true_iff, or_assoc]
  exact h

end Sys2Proof.Machine
end

section
/-! SUPPORT. Proofs: the Comb at work: dispatch, commit, faults, shedding and frame clocks (R245-R251, R259, R298). -/

namespace Sys2Proof.Machine

-- One proof at a time, as in the `Keeps` laws: the joined text leaves no memory for a thread to each.
set_option Elab.async false

/-- Settles O44: dispatch, commit, faults, shedding and frame clocks, each clause by its lemma above. -/
theorem tasksRunCommitAndFault : Obligations.TasksRunCommitAndFault := by
  refine ⟨fun s h => taskDispatch_all_running h, fun s h hready => ?_, fun cell code b p bad s hup h => ?_, fun cell x o bad s hup h ho hne => ?_,
    fun cell code p bad i x s y hup h hi hocc => ?_, fun cell code p x s y hup h hy hocc => ?_, fun cell code b p s => ?_,
    fun busy ages s => ⟨fun i hage hi => ?_, fun hage hbusy hcalm => ⟨_, rfl, shedEval_calm hage hbusy hcalm⟩,
      fun pre i hage hbusy hcalm hshed => ⟨_, rfl, shedEval_restores hage hbusy hcalm hshed⟩,
      fun hage hbusy => ⟨_, rfl, shedEval_busy hage hbusy⟩⟩,
    fun frame mhz s hidle hpoint hlimit => ?_, fun frame mhz s h => frameClockChange_refused (by rwa [frameRuns_iff])⟩
  · obtain ⟨x, c, hx, hcell, hc, hleast, htasks⟩ := dispatch_runs h hready
    obtain ⟨hseg, hrecs⟩ := dispatch_seg_recs s
    exact ⟨s.dispatch, x, s.onCell x, c, rfl, hx, hcell, hc, hleast, hc, rfl, rfl, rfl, rfl, htasks, hseg, hrecs⟩
  · exact ⟨⟨_, taskComplete_idle hup h bad, withBad_comb s bad, withBad_seg s bad, fun hbad => withBad_nil_recs s hbad⟩,
      taskWatchdog_idle hup h, cellFault_idle hup h code b p⟩
  · cases hw : x.withdrawn with
    | true =>
      obtain ⟨t, ht, htasks, hcount⟩ := taskComplete_withdrawn hup h ho hne bad hw
      exact ⟨t, ht, htasks, fun _ => hcount, nofun⟩
    | false =>
      obtain ⟨t, ht, htasks, hcount⟩ := taskComplete_commits hup h ho hne bad hw
      exact ⟨t, ht, htasks, nofun, fun _ => hcount⟩
  · have hcounts := taskFault_counts hocc
    obtain ⟨rfl, rfl, rfl⟩ | ⟨rfl, rfl⟩ | ⟨rfl, ho, rfl, rfl⟩ := hi
    · exact ⟨_, taskWatchdog_faults hup h hocc, hcounts⟩
    · exact ⟨_, cellFault_faults hup h p hocc, hcounts⟩
    · rw [withBad_comb] at hcounts
      exact ⟨_, taskComplete_traps hup h bad ho hocc, hcounts⟩
  · subst hy
    obtain ⟨hframe, hunc, hcell, hrewrite⟩ := taskFault_frameStore hocc
    refine ⟨_, cellFault_frameStore hup h p hocc, ?_⟩
    cases p <;> exact ⟨hframe, hunc, hcell, hrewrite⟩
  · refine ⟨_, cellFault_corrected s cell code b p, ?_⟩
    cases b with
    | true => exact ⟨rfl, rfl, nofun⟩
    | false => exact ⟨rfl, rfl, fun _ => lookup_insert ..⟩
  · obtain ⟨k, hmem, hleast⟩ := lowestRank_spec hi
    obtain ⟨hin, hshed⟩ := List.mem_filter.mp hmem
    have hcomb := shedEval_sheds (busy := busy) hage hi
    refine ⟨s.shedEval busy ages, k, rfl, ?_⟩
    rw [hcomb]
    exact ⟨rfl, rfl, rfl, rfl, hin, by simpa using hshed, fun y hy hys => hleast y (List.mem_filter.mpr ⟨hy, by simpa using hys⟩)⟩
  · refine frameClockChange_changes ?_ hpoint hlimit
    rw [← Bool.not_eq_true, frameRuns_iff]
    rintro ⟨x, hx, c, hc, hframe⟩
    exact hidle x hx c hc hframe

end Sys2Proof.Machine
end

section
/-! SUPPORT. Proofs: item queues, gates and shifts as the print commands set them (R325, R326, R331, R336, R341). -/

namespace Sys2Proof.Machine

-- One proof at a time, as in the `Keeps` laws: the joined text leaves no memory for a thread to each.
set_option Elab.async false

/-! PRINT_QUEUE_SET (R341). -/

theorem queueOf_updQueue_ne (s : State) (lead : Nat) (f : ItemQueue → ItemQueue) {j : Nat} (h : j ≠ lead) : (s.updQueue lead f).queueOf j = s.queueOf j :=
  getN_upd_ne _ _ _ _ _ h

section
variable {q : Req} {lead sizeLog2 base : Nat} {s : State} (h : Allowed q s .op false) (hr : queueRefuse lead sizeLog2 s = none)
include h hr

theorem printQueueSet_misuse (hm : s.queueMisuse sizeLog2 base = true) : exec (.printQueueSet q lead sizeLog2 base) s = .fault (.misuse 326) :=
  if_pos (by simp [adm_none h, hr, hm])

theorem printQueueSet_sets (hm : s.queueMisuse sizeLog2 base = false) : exec (.printQueueSet q lead sizeLog2 base) s =
    .next ((s.updQueue lead (fun _ => { base := some base, sizeLog2 := sizeLog2 })).respond 0x0400 q {}) :=
  (if_neg (by simp [hm])).trans (run_plain h hr)

end

/-! PRINT_WITHDRAW (R331). -/

theorem queueOf_congr {s t : State} (h : t.print.queue = s.print.queue) (lead : Nat) : t.queueOf lead = s.queueOf lead := congrArg (getN · lead ({} : ItemQueue)) h

theorem queueOf_headTally (s : State) (h : Nat) (f : HeadCount → HeadCount) (lead : Nat) : (s.headTally h f).queueOf lead = s.queueOf lead := rfl

theorem queueOf_itemEvent (s : State) (g : Grid) (kind : Nat) (line : Int) (item : Option Nat) (row slot lead : Nat) :
    (s.itemEvent g kind line item row slot).queueOf lead = s.queueOf lead :=
  queueOf_congr (ev_print ..).2 lead

/-- An item that ends unprinted leaves its queue and does not pass to verification (R327, R346). -/
theorem queueOf_finishItem_unprinted {s : State} {lead status : Nat} (hlead : lead < s.print.queue.length) (hst : 2 < status) (i : PrintItem) :
    (s.finishItem lead i status).queueOf lead =
      { s.queueOf lead with items := (s.queueOf lead).items.filter (fun x => x.index != i.index) } := by
  unfold State.finishItem
  dsimp only
  rw [if_neg (by omega), queueOf_congr (entry_print ..), queue_upd _ _ _ hlead]

section
variable {s : State} {lead index : Nat}

theorem withdraw_started {i : PrintItem} (hi : (s.queueOf lead).items.find? (fun i => i.index == index) = some i) (hstart : i.started = true) :
    (s.withdraw lead index).2 = .fail .tooLate 0 := by
  unfold State.withdraw
  simp only [hi, hstart, if_true]

theorem withdraw_absent (hi : (s.queueOf lead).items.find? (fun i => i.index == index) = none) (hown : s.entryOwned (s.queueOf lead) index = false) :
    (s.withdraw lead index).2 = .fail .notFound 0 := by
  unfold State.withdraw
  simp only [hi, hown, Bool.not_false, if_true]

theorem withdraw_accepted {i : PrintItem} (hi : (s.queueOf lead).items.find? (fun i => i.index == index) = some i) (hstart : i.started = false)
    (hlead : lead < s.print.queue.length) :
    (s.withdraw lead index).2 = .ok (leBytes 4 (b2n (decide (i.rows.length < i.height)))) ∧
      ((s.withdraw lead index).1.queueOf lead).items = (s.queueOf lead).items.filter (fun x => x.index != index) := by
  have hindex : i.index = index := by simpa using List.find?_some hi
  unfold State.withdraw
  simp only [hi, hstart, Bool.false_eq_true, if_false, queueOf_itemEvent, queueOf_headTally, queueOf_finishItem_unprinted hlead (by decide : 2 < 4), hindex,
    true_and]

variable {q : Req} (h : Allowed q s .prt false)
include h

/-- A withdrawal that fails answers why and does nothing. -/
theorem printWithdraw_refused {r : Reply} (hr : (s.withdraw lead index).2 = r) (hst : r.status ≠ 0) :
    exec (.printWithdraw q lead index) s = .next (s.respond 0x0401 q r) :=
  run_no h (by rw [if_neg (by rwa [hr]), hr])

theorem printWithdraw_done {r : Reply} (hr : (s.withdraw lead index).2 = r) (hst : r.status = 0) :
    exec (.printWithdraw q lead index) s = .next ((s.withdraw lead index).1.respond 0x0401 q r) := by
  subst hr
  exact run_plain h (if_pos hst)

end

/-! PRINT_REARM (R336). -/

/-- HSEN going high is a matter of the head alone. -/
theorem hsenHigh_print (s : State) (h : Nat) : ∃ l, (s.hsenHigh h).print = { s.print with head := l } := by
  unfold State.hsenHigh
  dsimp only
  split
  · exact ⟨s.print.head, rfl⟩
  · exact ⟨_, State.updHead_print ..⟩

theorem foldl_hsenHigh_print (hs : List Nat) (s : State) : ∃ l, (hs.foldl State.hsenHigh s).print = { s.print with head := l } := by
  induction hs generalizing s with
  | nil => exact ⟨s.print.head, rfl⟩
  | cons h hs ih =>
    obtain ⟨l, hl⟩ := hsenHigh_print s h
    obtain ⟨m, hm⟩ := ih (s.hsenHigh h)
    exact ⟨m, by rw [List.foldl_cons, hm, hl]⟩

section
variable {q : Req} {s : State} (h : Allowed q s .nb false)
include h

theorem printRearm_asserted (hestop : s.print.estop = true) : exec (.printRearm q) s = .next (s.respond 0x0402 q (badState s 4)) :=
  run_no h (if_pos hestop)

theorem printRearm_releases (hestop : s.print.estop = false) : ∃ u : State, exec (.printRearm q) s = .next (u.respond 0x0402 q {}) ∧
    ∃ l, u.print = { s.print with estopHeld := false, head := l } :=
  ⟨_, run_plain h (if_neg (by simp [hestop])), foldl_hsenHigh_print ..⟩

end

/-! PRINT_SHIFT (R325). -/

section
variable {q : Req} {lead : Nat} {s : State} (h : Allowed q s .web false) (shift : Int)
include h

theorem printShift_sets (hused : s.camDeck.headUsed s.profile.current lead = true) (hlead : s.camDeck.groupLead lead = lead) (hsrc : s.camDeck.shiftSrc lead = 2) :
    ∃ u : State, exec (.printShift q lead shift) s =
        .next (u.respond 0x0403 q (.ok (leBytes 4 (truncN 16 (clampI (-(s.camDeck.shiftMax lead : Int)) (s.camDeck.shiftMax lead) shift))))) ∧
      u.print.shift = setAt s.print.shift lead (clampI (-(s.camDeck.shiftMax lead : Int)) (s.camDeck.shiftMax lead) shift) :=
  ⟨_, run_plain h (if_pos ⟨hused, hlead, hsrc⟩), rfl⟩

theorem printShift_elsewhere (hsrc : s.camDeck.shiftSrc lead ≠ 2) : exec (.printShift q lead shift) s = .next (s.respond 0x0403 q (.fail .notFound 3)) :=
  run_no h (if_neg fun hg => hsrc hg.2.2)

end

end Sys2Proof.Machine
end

section
/-! SUPPORT. Proofs: element states as the host sets and reads them (R354, R355, R360). -/

namespace Sys2Proof.Machine

-- One proof at a time, as in the `Keeps` laws: the joined text leaves no memory for a thread to each.
set_option Elab.async false

theorem head_eventNow (s : State) (head kind : Nat) (reject : Bool) (epoch : Nat) (first last : Int) (lines : Nat) (item : Option Nat)
    (arg0 arg1 h : Nat) : (s.eventNow head kind reject epoch first last lines item arg0 arg1).head h = s.head h :=
  congrArg (getN · h ({} : Head)) (ev_print ..).1

section
variable {s : State} {h : Nat} (hl : h < s.print.head.length) (e st : Nat) (at' : Option (Nat × Nat))
include hl

theorem elemState_setElem : ((s.setElem h e st at').head h).elemState e = st := by
  rw [Head.elemState, set_elem s h e st at' hl]
  split
  next hst => rw [lookup_erase, hst, Option.getD_none]
  next => rw [lookup_insert, Option.getD_some]

/-- An element that returns to OK leaves the others as they are. -/
theorem elemState_setElem_ok_ne {j : Nat} (hj : j ≠ e) : ((s.setElem h e 0 at').head h).elemState j = (s.head h).elemState j := by
  rw [Head.elemState, set_elem s h e 0 at' hl, if_pos rfl, lookup_erase_ne e j hj, Head.elemState]

end

theorem headRefuse_wired {s : State} {h : Nat} (hw : s.profile.current.headWired h = true) : headRefuse h s = none := if_pos hw

/-! PRINT_ELEM_QUERY and PRINT_SUB_CONFIRM (R355, R360). -/

theorem printElemQuery_reports {q : Req} {head : Nat} {s : State} (h : Allowed q s .nb false) (hw : s.profile.current.headWired head = true) :
    exec (.printElemQuery q head) s = .next (s.respond 0x0410 q (.ok (s.elemBytes head))) :=
  run_plain h (headRefuse_wired hw)

theorem printSubConfirm_settles {q : Req} {head element : Nat} {s : State} (h : Allowed q s .prt false) (hl : head < s.print.head.length)
    (hpending : (s.head head).elemState element = 2) (accept : Bool) :
    ∃ u : State, exec (.printSubConfirm q head accept element) s = .next (u.respond 0x0411 q {}) ∧
      (u.head head).elemState element = if accept then 3 else 1 := by
  refine ⟨_, run_plain h (if_pos hpending), ?_⟩
  rw [head_eventNow]
  exact elemState_setElem hl ..

/-! PRINT_ELEM_CLEAR of one element (R354, R360). -/

/-- The element at OK with a run of 0, at its group's switch line. -/
def State.elemCleared (s : State) (head element : Nat) : State :=
  (s.setElem head element 0 (s.switchOf head)).updHead head
    (fun x => { x with runs := x.runs.filter (fun r => !(element == 0xFFFF || r.1 == element)) })

theorem elemState_elemCleared {s : State} {head : Nat} (hl : head < s.print.head.length) (element e : Nat) :
    ((s.elemCleared head element).head head).elemState e = ((s.setElem head element 0 (s.switchOf head)).head head).elemState e := by
  rw [State.elemCleared, head_upd _ _ _ (by simpa [State.setElem] using hl)]
  rfl

theorem printElemClear_clears {q : Req} {head element : Nat} {s : State} (h : Allowed q s .op false) (hw : s.profile.current.headWired head = true)
    (he : element < s.profile.current.elements head) (hone : element ≠ 0xFFFF) :
    ∃ u : State, exec (.printElemClear q head element) s =
        .next (u.respond 0x0412 q (.ok (leBytes 8 (truncN 64 (wpos48 (s.switchLabel head (s.switchOf head))))))) ∧
      u.head head = (s.elemCleared head element).head head := by
  refine ⟨_, run_plain h ?_, ?_⟩
  · rw [headRefuse_wired hw]
    exact if_neg (by omega)
  · rw [head_eventNow, if_neg hone]
    rfl

end Sys2Proof.Machine
end

section
/-! SUPPORT. Proofs: exchanges with the consumable chips (R356-R359). -/

namespace Sys2Proof.Machine

-- One proof at a time, as in the `Keeps` laws: the joined text leaves no memory for a thread to each.
set_option Elab.async false

theorem isRunning_congr {s t : State} (h : t.keeper = s.keeper) (code : Nat) : t.isRunning code = s.isRunning code := by
  rw [State.isRunning, h, State.isRunning]

/-- What nothing refuses finds the chip idle. -/
theorem phase_of_chipRefuse {code h : Nat} {s : State} (hr : chipRefuse code h s = none) : (s.head h).chip.phase = 0 := by
  unfold chipRefuse at hr
  split at hr
  · cases hr
  · by_contra hphase
    simp [hphase] at hr

/-- The next nonce that a challenge takes. -/
def State.freshNonce (s : State) : List Byte := (upto 32).map (Config.nonceByte s.free)

/-- The writes of a challenge under a fresh nonce: the nonce, and the request for the response. -/
def State.challengeWrites (s : State) (h : Nat) : List Out :=
  [.chipWrite h (s.profile.current.authAddr h) (0x01 :: s.freshNonce), .chipWrite h (s.profile.current.authAddr h) [0x02]]

theorem challenge_out (s : State) (h : Nat) : (s.challenge h).out = s.out ++ s.challengeWrites h := List.append_assoc ..

theorem challenge_keeper (s : State) (h : Nat) : (s.challenge h).keeper = s.keeper := keeper_of (State.challenge_keeps (.refl s) h).kept

theorem heads_updChip (s : State) (h : Nat) (f : Consumable → Consumable) : (s.updChip h f).print.head.length = s.print.head.length := length_updAt ..

section
variable {s : State} {h : Nat} (hl : h < s.print.head.length)
include hl

theorem chip_updChip (f : Consumable → Consumable) : ((s.updChip h f).head h).chip = f (s.head h).chip := congrArg Head.chip (head_upd s h _ hl)

theorem chip_challenge : ((s.challenge h).head h).chip = { (s.head h).chip with nonce := s.freshNonce } := by
  rw [State.challenge, em_head, em_head]
  exact chip_updChip (s := s.drawn) hl (fun c => { c with nonce := s.freshNonce })

/-- A head's consumable state has no say in which key is its own. -/
theorem headKey_updChip (f : Consumable → Consumable) : (s.updChip h f).headKey h = s.headKey h := by
  have hhead : (s.updChip h f).head h = { s.head h with chip := f (s.head h).chip } := head_upd s h _ hl
  have hdeck : (s.updChip h f).headDeck h = s.headDeck h := by
    rw [State.headDeck, hhead]
    rfl
  rw [State.headKey, hdeck]
  rfl

end

/-! The exchange that an idle bus takes up (R359). -/

section
variable {s : State} {h : Nat} (hidle : (s.head h).chip.phase = 0)
include hidle

theorem nextExchange_auth (hw : (s.head h).chip.writeDue = false) (ha : (s.head h).chip.authDue = true) : s.nextExchange h = s.beginAuth h := by
  unfold State.nextExchange
  simp only [hidle, hw, ha, ne_eq, not_true_eq_false, if_false, Bool.false_eq_true, if_true]

theorem nextExchange_write (hw : (s.head h).chip.writeDue = true) (hbusy : ((s.beginWrite h).head h).chip.phase ≠ 0) : s.nextExchange h = s.beginWrite h := by
  unfold State.nextExchange
  simp only [hidle, hw, hbusy, ne_eq, not_true_eq_false, false_and, if_false, if_true]

end

/-! An authentication (R356, R357). -/

/-- An authentication of the head is due. -/
def State.oweAuth (s : State) (h : Nat) : State := s.updChip h (fun c => { c with authDue := true })

theorem beginAuth_out (s : State) (h : Nat) : (s.beginAuth h).out = s.out ++ s.challengeWrites h := challenge_out ..

theorem beginAuth_keeper (s : State) (h : Nat) : (s.beginAuth h).keeper = s.keeper := challenge_keeper ..

section
variable {s : State} {h : Nat} (hl : h < s.print.head.length)
include hl

theorem chip_oweAuth : ((s.oweAuth h).head h).chip = { (s.head h).chip with authDue := true } := chip_updChip hl _

theorem chip_beginAuth : ((s.beginAuth h).head h).chip =
    { (s.head h).chip with phase := 1, attempts := 0, authDue := false, nonce := s.freshNonce } := by
  rw [State.beginAuth, chip_challenge (hl.trans_eq (heads_updChip ..).symm), chip_updChip hl]
  rfl

/-- An authentication that falls due on an idle bus begins at once. -/
theorem authDue_idle (hidle : (s.head h).chip.phase = 0) (hw : (s.head h).chip.writeDue = false) :
    ((s.authDue h).head h).chip.phase = 1 ∧ (s.authDue h).keeper = s.keeper ∧ (s.authDue h).out = s.out ++ s.challengeWrites h := by
  have hchip := chip_oweAuth hl
  have hbegin : s.authDue h = (s.oweAuth h).beginAuth h :=
    nextExchange_auth (s := s.oweAuth h) (by rwa [hchip]) (by rwa [hchip]) (by rw [hchip])
  rw [hbegin, chip_beginAuth (s := s.oweAuth h) (hl.trans_eq (heads_updChip ..).symm)]
  exact ⟨rfl, beginAuth_keeper .., beginAuth_out ..⟩

end

theorem printAuth_accepted {q : Req} {head : Nat} {s : State} (h : Allowed q s .op false) (hr : chipRefuse 0x0413 head s = none) :
    exec (.printAuth q head) s = .next (((s.start 0x0413 q [head]).authDue head).respond 0x0413 q .accepted) :=
  run_plain h hr

/-! A usage write (R358). -/

/-- The write of a count with its tag, under the nonce of the latest success. -/
def State.countWrite (s : State) (h id : Nat) (key : List Byte) : Out :=
  let c := (s.head h).chip
  .chipWrite h (s.profile.current.authAddr h) (0x03 :: leBytes 6 c.count ++ [0, 0] ++ chipMac 0x57 key c.okNonce id c.count)

section
variable {s : State} {h id : Nat} {key : List Byte} (hid : (s.head h).chip.chipId = some id) (hkey : s.headKey h = some key)
include hid hkey

theorem beginWrite_eq : s.beginWrite h =
    ((s.updChip h (fun c => { c with phase := 2, attempts := 0, writeDue := false, written := c.count })).emit
      (s.countWrite h id key)).challenge h := by
  rw [State.beginWrite, hkey, hid]
  rfl

theorem beginWrite_out : (s.beginWrite h).out = s.out ++ s.countWrite h id key :: s.challengeWrites h := by
  rw [beginWrite_eq hid hkey, challenge_out]
  exact List.append_assoc s.out [_] _

theorem chip_beginWrite (hl : h < s.print.head.length) : ((s.beginWrite h).head h).chip =
    { (s.head h).chip with phase := 2, attempts := 0, writeDue := false, written := (s.head h).chip.count, nonce := s.freshNonce } := by
  rw [beginWrite_eq hid hkey, chip_challenge (by rwa [em_print, heads_updChip]), em_head, chip_updChip hl]
  rfl

theorem beginWrite_keeper : (s.beginWrite h).keeper = s.keeper := by
  rw [beginWrite_eq hid hkey, challenge_keeper]
  rfl

end

/-- A usage write of the head is due. -/
def State.oweWrite (s : State) (h : Nat) : State := s.updChip h (fun c => { c with writeDue := true, sinceWb := 0 })

section
variable {s : State} {h id : Nat} {key : List Byte} (hl : h < s.print.head.length)
include hl

theorem chip_oweWrite : ((s.oweWrite h).head h).chip = { (s.head h).chip with writeDue := true, sinceWb := 0 } := chip_updChip hl _

theorem countWrite_oweWrite : (s.oweWrite h).countWrite h id key = s.countWrite h id key := by
  rw [State.countWrite, chip_oweWrite hl]
  rfl

/-- A usage write that falls due on an idle bus begins at once. -/
theorem writeDue_idle (hid : (s.head h).chip.chipId = some id) (hkey : s.headKey h = some key) (hidle : (s.head h).chip.phase = 0) :
    ((s.writeDue h).head h).chip.phase = 2 ∧ ((s.writeDue h).head h).chip.written = (s.head h).chip.count ∧ (s.writeDue h).keeper = s.keeper ∧
      (s.writeDue h).out = s.out ++ s.countWrite h id key :: s.challengeWrites h := by
  have hchip := chip_oweWrite hl
  have hid' : ((s.oweWrite h).head h).chip.chipId = some id := by rwa [hchip]
  have hkey' : (s.oweWrite h).headKey h = some key := (headKey_updChip hl _).trans hkey
  have hbegun := chip_beginWrite hid' hkey' (hl.trans_eq (heads_updChip ..).symm)
  have hbegin : s.writeDue h = (s.oweWrite h).beginWrite h :=
    nextExchange_write (s := s.oweWrite h) (by rwa [hchip]) (by rw [hchip]) (by rw [hbegun]; exact two_ne_zero)
  rw [hbegin, hbegun, beginWrite_out hid' hkey', beginWrite_keeper hid' hkey', countWrite_oweWrite hl, hchip]
  exact ⟨rfl, rfl, rfl, rfl⟩

end

theorem printUsageWrite_accepted {q : Req} {head : Nat} {s : State} (h : Allowed q s .op false) (hr : chipRefuse 0x0415 head s = none) :
    exec (.printUsageWrite q head) s = .next (((s.start 0x0415 q [head]).writeDue head).respond 0x0415 q .accepted) :=
  run_plain h hr

end Sys2Proof.Machine
end

section
/-! SUPPORT. Proofs: the print commands act on queues and heads (R331, R336, R341, R354-R360, R417). -/

namespace Sys2Proof.Machine

-- One proof at a time, as in the `Keeps` laws: the joined text leaves no memory for a thread to each.
set_option Elab.async false

/-- Settles O34: each print command by its lemmas above. -/
theorem printCommandsActOnQueuesAndHeads : Obligations.PrintCommandsActOnQueuesAndHeads := by
  refine ⟨fun q lead sizeLog2 base s h hlead hr => ⟨fun hm => printQueueSet_misuse h hr hm, fun hm => ?_⟩,
    fun q lead index s h hlead => ⟨fun i hi hstart => printWithdraw_refused h (withdraw_started hi hstart) (by decide), fun i hi hstart => ?_,
      fun hi hown => printWithdraw_refused h (withdraw_absent hi hown) (by decide)⟩,
    fun q s h => ⟨fun hestop => printRearm_asserted h hestop, fun hestop => ?_⟩,
    fun q lead shift s h => ⟨fun hused hlead hsrc => printShift_sets h shift hused hlead hsrc, fun hsrc => printShift_elsewhere h shift hsrc⟩,
    fun q head s h hw => printElemQuery_reports h hw, fun q head element accept s h hl hpending => printSubConfirm_settles h hl hpending accept,
    fun q head element s h hl hw he hone => ?_, fun q head s h hl hr hwrite => ?_, fun q head id key s h hl hr hid hkey => ?_⟩
  · exact ⟨_, printQueueSet_sets h hr hm, queue_upd _ _ _ hlead, fun j hj => queueOf_updQueue_ne s lead _ hj⟩
  · obtain ⟨hreply, hitems⟩ := withdraw_accepted hi hstart hlead
    refine ⟨_, printWithdraw_done h hreply rfl, fun x hx => ?_⟩
    rw [hitems] at hx
    simpa using (List.mem_filter.mp hx).2
  · obtain ⟨u, hu, l, hprint⟩ := printRearm_releases h hestop
    exact ⟨u, hu, by rw [hprint], by rw [hprint]⟩
  · obtain ⟨u, hu, hhead⟩ := printElemClear_clears h hw he hone
    refine ⟨u, hu, ?_, fun e hne => ?_⟩ <;> rw [hhead, elemState_elemCleared hl]
    · exact elemState_setElem hl ..
    · exact elemState_setElem_ok_ne hl element _ hne
  · have hidle := phase_of_chipRefuse hr
    obtain ⟨hphase, hkeeper, hout⟩ := authDue_idle (s := s.start 0x0413 q [head]) hl hidle hwrite
    exact ⟨_, printAuth_accepted h hr, hphase, (isRunning_congr hkeeper _).trans (isr_start ..), hout⟩
  · have hidle := phase_of_chipRefuse hr
    obtain ⟨hphase, hwritten, hkeeper, hout⟩ := writeDue_idle (s := s.start 0x0415 q [head]) hl hid hkey hidle
    exact ⟨_, printUsageWrite_accepted h hr, hphase, hwritten, (isRunning_congr hkeeper _).trans (isr_start ..), hout⟩

end Sys2Proof.Machine
end

section
/-! SUPPORT. Proofs: what a step takes from the queue (R390, R404). -/

namespace Sys2Proof.Machine

theorem step_idle {s : State} (h : s.pending = []) : step s = .next s := by
  rw [step, h]

theorem step_front {s : State} {c : Instr} {rest : List Instr} (h : s.pending = c :: rest) : step s = exec c { s with pending := rest } := by
  rw [step, h]

/-- Settles O1. -/
theorem stepRunsFrontCommand : Obligations.StepRunsFrontCommand := fun _ _ _ => step_front

/-- Settles O5: an empty queue leaves the state, and what every command keeps (`exec_keeps`) is kept from the queue's rest on. -/
theorem stepTakesOneCommand : Obligations.StepTakesOneCommand := by
  intro s t h
  cases hq : s.pending with
  | nil =>
    rw [step_idle hq] at h
    cases h
    exact ⟨hq, ⟨[], (List.append_nil _).symm⟩, le_rfl⟩
  | cons c rest =>
    rw [step_front hq] at h
    have hkeeps := exec_keeps c _ t h
    obtain ⟨news, hout⟩ := hkeeps.out
    exact ⟨hkeeps.pending, ⟨news, hout.symm⟩, hkeeps.free⟩

end Sys2Proof.Machine
end

section
/-! SUPPORT. Proofs: the checks before a request executes, and the response that answers it (R389-R391, R399, R614). -/

namespace Sys2Proof.Machine

/-! The checks of admission, in their order (R391). -/

theorem admission_mode {s : State} (q : Req) {modes : ModeSet} (h : modes.has s.sys.mode = false) (urgent : Bool) :
    admission s q modes urgent = some { status := 5, detail := s.hifMode } := by
  rw [admission, h]
  rfl

theorem admission_urgent {s : State} {q : Req} {modes : ModeSet} (h : modes.has s.sys.mode = true) (hm : q.mbx = 1) :
    admission s q modes false = some { status := 6, detail := 0 } := by
  rw [admission, h, hm]
  rfl

/-- A request of a mailbox, without an error of the firmware's own, meets the two checks and no other. -/
theorem admission_request (s : State) (n seq : Nat) (modes : ModeSet) (urgent : Bool) :
    admission s { mbx := n, seq := seq } modes urgent =
      (if modes.has s.sys.mode = false then some { status := 5, detail := s.hifMode }
        else if n = 1 ∧ urgent = false then some { status := 6, detail := 0 } else none) := by
  cases hmode : modes.has s.sys.mode with
  | false => exact admission_mode _ hmode urgent
  | true =>
    rw [if_neg (by decide)]
    by_cases hrefused : n = 1 ∧ urgent = false
    · obtain ⟨rfl, rfl⟩ := hrefused
      exact admission_urgent hmode rfl
    · rw [if_neg hrefused]
      exact adm_none ⟨hmode, fun hm => by simpa using not_and.mp hrefused hm, rfl⟩

theorem runCmd_of_admission {code : Nat} {q : Req} {modes : ModeSet} {urgent : Bool} {refuse : Option Reply} {e : State × Reply} {s : State} {r : Reply}
    (h : admission s q modes urgent = some r) : runCmd code q modes urgent refuse e s = .next (s.respond code q r) := by
  simp only [runCmd, h]

/-- No test of a command's own comes before admission: what admission refuses is answered so, and nothing else happens (R391). -/
theorem exec_of_admission {c : Instr} {s : State} {code : Nat} {q : Req} {modes : ModeSet} {urgent : Bool} {r : Reply} (hwf : c.wf = true)
    (hz : zaster c = some (code, q, modes, urgent)) (h : admission s q modes urgent = some r) : exec c s = .next (s.respond code q r) := by
  cases c <;> cases hz <;> dsimp only [exec]
  case sysStop => simp only [execSysStop, h]
  -- Names for parts of the response come before the command runs.
  case bistResult =>
    unfold execBistResult
    exact runCmd_of_admission h
  case fwQuery =>
    unfold execFwQuery
    exact runCmd_of_admission h
  case lcQuery =>
    unfold execLcQuery
    exact runCmd_of_admission h
  case evtGroup =>
    unfold execEvtGroup
    exact runCmd_of_admission h
  -- A slot that cannot be loaded is looked for first, and refused after admission.
  case deckLoad =>
    unfold execDeckLoad
    split
    · exact runCmd_of_admission h
    · simp [h, runCmd_of_admission h]
  -- A well-formed channel has 6 bits, so the misuse of R376 cannot arise.
  case evtInject channel tag =>
    have hchannel : channel < 64 := by
      simp only [Instr.wf, fits, Bool.and_eq_true, decide_eq_true_eq] at hwf
      exact hwf.1.2
    unfold execEvtInject
    rw [if_neg (by omega)]
    exact runCmd_of_admission h
  -- Misuse, or an effect other than a response, is tested for an admitted request alone.
  case deckStage => simp [execDeckStage, h, runCmd_of_admission h]
  case profileLoad => simp [execProfileLoad, h, runCmd_of_admission h]
  case deckArmSwap => simp [execDeckArmSwap, h, runCmd_of_admission h]
  case fwActivate => simp [execFwActivate, h, runCmd_of_admission h]
  case sysSnapshot | counterClear | printQueueSet | peek | poke | laneSet | fwWrite | timeAdjust | refLearn | axisMove | axisHome | memCrc | memCopy |
      calTableRead | lookbackFetch =>
    simp [execSysSnapshot, execCounterClear, execPrintQueueSet, execPeek, execPoke, execLaneSet, execFwWrite, execTimeAdjust, execRefLearn, execAxisMove,
      execAxisHome, execMemCrc, execMemCopy, execCalTableRead, execLookbackFetch, h, runCmd_of_admission h]
  all_goals exact runCmd_of_admission h

/-! The checks that the Keeper makes of a request (R391). -/

/-- A datagram as long as LEN says is checked as a request of a buffer is (log 71): LEN, version, code, payload length, admission. -/
theorem requestCheck_eq {s : State} {n : Nat} {r : Request} (hlen : ∀ d, r.dgLen = some d → d = r.len) : s.requestCheck n r =
    if 4080 < r.len then some { status := 2, detail := 4080 }
    else if s.served n r = false then some { status := 3, detail := 0x01000000 }
    else (cmdRow r.cmd).elim (some { status := 4, detail := 0 }) (fun row => (lenCheck row r).elim
      (admission s { mbx := n, seq := r.seq } row.modes row.urgent) (fun m => some { status := 2, detail := m })) := by
  unfold State.requestCheck
  refine (if_neg ?_).trans (if_congr Iff.rfl rfl (if_congr (by simp) rfl ?_))
  · cases hd : r.dgLen with
    | none => simp
    | some d => simp [hlen d hd]
  · cases cmdRow r.cmd with
    | none => rfl
    | some row =>
      dsimp only [Option.elim_some]
      cases lenCheck row r <;> rfl

/-- Settles O9: admission comes before a command's own tests, and the Keeper's checks in their order come before it. -/
theorem requestChecksAnswerFirst : Obligations.RequestChecksAnswerFirst := by
  refine ⟨fun c s code q modes urgent hwf hz => ⟨fun hmode => exec_of_admission hwf hz (admission_mode q hmode urgent), fun hmode hmbx hurgent => ?_⟩,
    fun s n r hlen => ?_⟩
  · subst hurgent
    exact exec_of_admission hwf hz (admission_urgent hmode hmbx)
  · rw [requestCheck_eq hlen]
    refine ⟨fun h => if_pos h, fun h hs => ?_, fun h hs hc => ?_, fun row m h hs hc hm => ?_, fun row h hs hc hm => ?_⟩ <;> rw [if_neg h.not_gt, hs]
    · rfl
    · rw [hc]
      rfl
    · rw [hc, Option.elim_some, hm]
      rfl
    · rw [hc, Option.elim_some, hm]
      exact admission_request ..

/-- Settles O11: the sixteen bytes of the header are counted, field by field. -/
theorem statusCodesAndResponseHeader : Obligations.StatusCodesAndResponseHeader := by
  refine ⟨⟨rfl, rfl, rfl, rfl, rfl, rfl, rfl, rfl, rfl, rfl, rfl, rfl, rfl⟩, fun p => ⟨rfl, rfl⟩, rfl, fun r => ?_⟩
  have hheader : (leBytes 2 r.status ++ leBytes 2 r.cmd ++ leBytes 4 r.seq ++ leBytes 4 r.payload.length ++ leBytes 4 r.detail).length = 16 := by
    simp [leBytes_length]
  exact ⟨List.take_left' hheader, List.drop_left' hheader⟩

theorem mailbox_updMbx_ne (s : State) {n j : Nat} (f : Mailbox → Mailbox) (h : j ≠ n) : (s.updMbx n f).mailbox j = s.mailbox j :=
  getN_upd_ne _ _ _ _ _ h

/-- The row that the Keeper looks up for a command's code is that command's (16_command_reference.md). -/
theorem cmdRow_of_zaster {c : Instr} {code : Nat} {q : Req} {modes : ModeSet} {urgent : Bool} (h : zaster c = some (code, q, modes, urgent)) :
    ∃ row, cmdRow code = some row ∧ row.code = code ∧ row.modes = modes ∧ row.urgent = urgent := by
  cases c <;> cases h <;> exact ⟨_, rfl, rfl, rfl, rfl⟩

/-- Settles O13: a response is an update of its mailbox alone. -/
theorem responsesAndCommandRows : Obligations.ResponsesAndCommandRows := by
  refine ⟨fun s code q r hl hq => ?_, fun c code q modes urgent h => cmdRow_of_zaster h⟩
  have hown : (s.respond code q r).mailbox q.mbx = _ := mb_upd s q.mbx _ (hl ▸ hq)
  rw [hown]
  exact ⟨rfl, rfl, rfl, rfl, fun n hn => mailbox_updMbx_ne s _ hn,
    fun x hx => (State.respond_keeps (p := (· = .mbx)) (Keeps.refl s) code q r rfl).same x hx⟩

end Sys2Proof.Machine
end

section
/-! SUPPORT. Proofs: requests over UDP (R393, R394, R430, R448). -/

namespace Sys2Proof.Machine

theorem udpRequest_no_address {s : State} (h : s.profile.current.f 0x8030 0 0x0C 31 0 0 = 0) (a p : Nat) (data : List Byte) (f l : Bool) :
    execUdpRequest a p data f l s = .next s := if_pos h

section
variable {s : State} {a : Nat} (haddr : s.profile.current.f 0x8030 0 0x0C 31 0 0 ≠ 0)
include haddr

theorem udpRequest_denied (hsrc : s.profile.current.allows a = false) (p : Nat) (data : List Byte) (f l : Bool) :
    execUdpRequest a p data f l s = .next { s with net.deniedSrc := satInc s.net.deniedSrc } :=
  (if_neg haddr).trans (if_pos (congrArg not hsrc))

section
variable (hsrc : s.profile.current.allows a = true)
include hsrc

theorem udpRequest_whole (p : Nat) (data : List Byte) : execUdpRequest a p data true true s = .next (s.udpDatagram a p data) :=
  (if_neg haddr).trans ((if_neg (by simp [hsrc])).trans (if_pos rfl))

/-- The first fragment of a datagram opens the reassembly (R393). -/
theorem udpRequest_first (p : Nat) (data : List Byte) (hnone : s.hif.fragments = none) :
    execUdpRequest a p data true false s = .next { s with hif.fragments := some { srcAddr := a, srcPort := p, data := data } } := by
  unfold execUdpRequest
  rw [if_neg haddr, hsrc, hnone]
  rfl

/-- A further fragment of the open datagram extends it, and the last hands it over (R393). -/
theorem udpRequest_later {g : Fragments} (hopen : s.hif.fragments = some g) (ha : g.srcAddr = a) {data : List Byte} (hlen : (g.data ++ data).length ≤ 4096)
    (l : Bool) : execUdpRequest a g.srcPort data false l s =
      .next (if l then ({ s with hif.fragments := none } : State).udpDatagram a g.srcPort (g.data ++ data)
        else { s with hif.fragments := some { g with data := g.data ++ data } }) := by
  unfold execUdpRequest
  rw [if_neg haddr, hsrc, hopen]
  simp only [ha, bne_self_eq_false, Bool.or_self, Bool.false_and, Bool.not_true, if_neg hlen.not_gt]
  cases l <;> rfl

end

end

section
variable {s : State} {a p : Nat} {data : List Byte}

/-- A repeated SEQ takes the kept response again (R394). -/
theorem udpDatagram_repeated {k : (Nat × Nat) × Response}
    (h : s.hif.udpLast.find? (fun x => x.1 == (a, p) && x.2.seq == (requestOf data s.hif.hostVersion a p (some (data.length - 16))).seq) = some k) :
    s.udpDatagram a p data = s.sendOwn (.datagram a p k.2.bytes s.ownTag) := by
  unfold State.udpDatagram
  simp only [h]

/-- A new SEQ is queued while fewer than 8 requests wait, and answered BUSY 6 beyond them (R394). -/
theorem udpDatagram_new {r : Request} (hr : requestOf data s.hif.hostVersion a p (some (data.length - 16)) = r)
    (hlast : s.hif.udpLast.find? (fun x => x.1 == (a, p) && x.2.seq == r.seq) = none)
    (hqueue : s.hif.udpQueue.any (fun q => q.srcAddr == a && q.srcPort == p && q.seq == r.seq) = false)
    (htaken : (s.mailbox 2).taken.any (fun q => q.srcAddr == a && q.srcPort == p && q.seq == r.seq) = false)
    (hexec : (s.mailbox 2).executed.any (fun q => q.srcAddr == a && q.srcPort == p && q.seq == r.seq) = false) :
    s.udpDatagram a p data = if s.hif.udpQueue.length < 8 then { s with hif.udpQueue := s.hif.udpQueue ++ [r] }
      else s.sendOwn (.datagram a p ({ status := 10, cmd := r.cmd, seq := r.seq, detail := 6 : Response }).bytes s.ownTag) := by
  unfold State.udpDatagram
  simp only [hr, hlast, hqueue, htaken, hexec]
  by_cases hroom : s.hif.udpQueue.length < 8
  · rw [if_pos hroom]
    exact if_neg hroom.not_ge
  · rw [if_neg hroom]
    exact if_pos (Nat.le_of_not_lt hroom)

end

/-- Settles O25. -/
theorem udpRequestsAreQueuedOnce : Obligations.UdpRequestsAreQueuedOnce := by
  refine ⟨fun a p data f l s h => udpRequest_no_address h a p data f l, fun a p data f l s haddr hsrc => udpRequest_denied haddr hsrc p data f l,
    fun a p data s haddr hsrc => ⟨fun k hk => ?_, fun hlast hqueue htaken hexec => ?_⟩, fun o s hnet hlink => ?_,
    fun a p data s haddr hsrc hnone => udpRequest_first haddr hsrc p data hnone, ?_, fun s => rfl⟩
  · exact (udpRequest_whole haddr hsrc p data).trans (congrArg _ (udpDatagram_repeated hk))
  · exact (udpRequest_whole haddr hsrc p data).trans (congrArg _ (udpDatagram_new rfl hlast hqueue htaken hexec))
  · rw [sendOwn_out, if_pos ⟨hnet, hlink⟩]
  · rintro a p data g s haddr hsrc hopen ha rfl hlen
    exact ⟨udpRequest_later haddr hsrc hopen ha hlen false, (udpRequest_later haddr hsrc hopen ha hlen true).trans (udpRequest_whole (s := { s with hif.fragments := none }) haddr hsrc _ _).symm⟩

end Sys2Proof.Machine
end

section
/-! SUPPORT. Proofs: the resets of the device (R381, R407, R557, R561). -/

namespace Sys2Proof.Machine

/-- What a reset of the device leaves: everything at reset but the fuses, the flash, the part, and a hold by the test port that goes on (R561). -/
structure State.IsReset (s t : State) (held : Bool) : Prop where
  sys : t.sys = { State.reset.sys with inReset := true, heldInReset := held }
  deck : t.deck = State.reset.deck
  recs : t.recs = State.reset.recs
  keeper : t.keeper = State.reset.keeper
  print : t.print = State.reset.print
  pos : t.pos = State.reset.pos
  mem : t.mem = []
  mbx : t.hif.mbx = State.reset.hif.mbx
  irqStatus : t.hif.irqStatus = 0
  irqMask : t.hif.irqMask = 0xFFFFFFFF
  lifeCycle : t.fuse.lifeCycle = s.fuse.lifeCycle
  keySlots : t.fuse.keySlots = s.fuse.keySlots
  slots : t.fw.slots = s.fw.slots
  next : t.fw.next = s.fw.next
  gen : t.fw.gen = s.fw.gen
  profile : t.profile = { State.reset.profile with stored := s.profile.stored }
  part : t.part = s.part

theorem porst_isReset (s : State) : s.IsReset s.porst false where
  sys := rfl
  deck := rfl
  recs := rfl
  keeper := rfl
  print := rfl
  pos := rfl
  mem := rfl
  mbx := rfl
  irqStatus := rfl
  irqMask := rfl
  lifeCycle := rfl
  keySlots := rfl
  slots := rfl
  next := rfl
  gen := rfl
  profile := rfl
  part := rfl

/-- HIF_RESET and SYS_RESET keep the hold by the test port, which PORST_N ends (R589). -/
theorem hifReset_isReset (s : State) : s.IsReset s.hifReset s.sys.heldInReset :=
  { porst_isReset s with sys := rfl }

/-- The 1 ms after a SYS_RESET ends in its reset once no response of one is left to write (R407). -/
theorem sysResetDelayExpiry_resets {s : State} (hpending : s.keeper.resetPending = true) (hwritten : ∀ m ∈ s.hif.mbx, ∀ r ∈ m.executed, r.cmd ≠ 7) :
    execSysResetDelayExpiry s = .next s.hifReset := by
  refine if_pos ⟨hpending, ?_⟩
  simpa using hwritten

/-- A command that resets the device, in a state in which it does (R381, R407, R557, R561). -/
def Resets (c : Instr) (s : State) : Prop :=
  c = .hifReset 0x0A5A ∨ (c = .sysResetDelayExpiry ∧ s.keeper.resetPending = true ∧ ∀ m ∈ s.hif.mbx, ∀ r ∈ m.executed, r.cmd ≠ 7) ∨
    c = .porstN ∨ c = .vinUvloFalling

/-- HIF_RESET and SYS_RESET keep the hold, the link and the MSI-X table; PORST_N and the fall of VIN keep nothing of the host interface. -/
theorem exec_of_resets {c : Instr} {s : State} (h : Resets c s) :
    ∃ t : State, exec c s = .next t ∧ s.IsReset t (if c = .porstN ∨ c = .vinUvloFalling then false else s.sys.heldInReset) ∧
      (c = .vinUvloFalling → t.power.down = true) ∧
      (if c = .porstN ∨ c = .vinUvloFalling then t.hif = State.reset.hif
       else t.hif.msixTable = s.hif.msixTable ∧ t.hif.msixEnable = s.hif.msixEnable ∧ t.hif.linkUp = s.hif.linkUp) := by
  rcases h with rfl | ⟨rfl, hpending, hwritten⟩ | rfl | rfl
  · exact ⟨s.hifReset, rfl, by simpa using hifReset_isReset s, by simp, by simp [State.hifReset]⟩
  · exact ⟨s.hifReset, sysResetDelayExpiry_resets hpending hwritten, by simpa using hifReset_isReset s, by simp, by simp [State.hifReset]⟩
  · exact ⟨s.porst, rfl, porst_isReset s, nofun, rfl⟩
  · exact ⟨{ s.porst with power.down := true }, rfl, { porst_isReset s with }, fun _ => rfl, rfl⟩

/-- Settles O15: SYS_RESET by its key, and every reset by the lemma above. -/
theorem resetsKeepFusesAndFlash : Obligations.ResetsKeepFusesAndFlash := by
  refine ⟨fun q s h => run_plain h rfl rfl, fun q s key h hkey => run_no h (if_neg hkey), fun v s h => if_neg h, fun c s h => ?_⟩
  obtain ⟨t, hexec, hr, hdown, hhif⟩ := exec_of_resets h
  exact ⟨t, hexec, hr.sys, hr.deck, hr.recs, hr.keeper, hr.print, hr.pos, hr.mem, hr.mbx, hr.irqStatus, hr.irqMask, hr.lifeCycle, hr.keySlots, hr.slots,
    hr.next, hr.gen, hr.profile, hr.part, hdown, hhif⟩

end Sys2Proof.Machine
end

section
/-! SUPPORT. Proofs: modes change by transit, and SYS_STOP (R406, R409, R546-R550). -/

namespace Sys2Proof.Machine

/-! MODE_SET (R409, R548, R549). The parts that an operation may change are given as `nofun`: left to their defaults, every such lemma waits for all the text before it,
each on a thread of its own. -/

/-- TRANSIT, TARGET and MODE are the same in two states. -/
structure SameTransit (s t : State) : Prop where
  transit : t.sys.transit = s.sys.transit
  target : t.sys.target = s.sys.target
  mode : t.sys.mode = s.sys.mode

theorem SameTransit.refl (s : State) : SameTransit s s := ⟨rfl, rfl, rfl⟩

theorem SameTransit.trans {a b c : State} (h : SameTransit a b) (k : SameTransit b c) : SameTransit a c :=
  ⟨k.transit.trans h.transit, k.target.trans h.target, k.mode.trans h.mode⟩

/-- An operation that keeps the part of the state with the mode keeps them. -/
theorem SameTransit.of_keeps {s t : State} (h : Keeps (· ≠ .sys) s t) : SameTransit s t := by
  have hsys : t.sys = s.sys := sys_of (h.same .sys (by simp))
  exact ⟨congrArg SysState.transit hsys, congrArg SysState.target hsys, congrArg SysState.mode hsys⟩

theorem askPeer_sameTransit (s : State) (code arg : Nat) (payload : List Byte) (wait : Option (Req × Int)) :
    SameTransit s (s.askPeer code arg payload wait) :=
  .of_keeps (State.askPeer_keeps (Keeps.refl s) code arg payload wait nofun nofun)

theorem leavePrint_sameTransit (s : State) : SameTransit s s.leavePrint :=
  .of_keeps (State.leavePrint_keeps (Keeps.refl s) nofun nofun nofun nofun nofun nofun nofun nofun nofun nofun)

theorem stopAxes_sameTransit (s : State) (axes : Nat) (abrupt : Bool) : SameTransit s (s.stopAxes axes abrupt) :=
  .of_keeps (State.stopAxes_keeps (Keeps.refl s) axes abrupt nofun nofun nofun nofun nofun nofun)

/-- On the way out of the web modes the line mode changes, and no other condition of the mode. -/
theorem leaveWeb_sameTransit (s : State) : SameTransit s s.leaveWeb := by
  unfold State.leaveWeb
  extract_lets s0 sys0 pos0 intake0 s1 s2
  have h0 : SameTransit s s0 := by
    dsimp only [s0]
    split
    · exact leavePrint_sameTransit s
    · exact .refl s
  have h1 : SameTransit s0 s1 := ⟨rfl, rfl, rfl⟩
  have h2 : Keeps (· ≠ .sys) s1 s2 := by
    refine Keeps.forEach (fun _ _ _ hk => State.retarget_keeps hk _) (State.portsReturn_keeps ?_)
    exact .ite (State.deliverRequest_keeps (Keeps.refl s1)) (Keeps.refl s1)
  have hend : Keeps (· ≠ .sys) s1 _ :=
    State.endIfIdle_keeps (State.learnEnds_keeps (State.finishSwap_keeps (State.endStrip_keeps h2)) .badState (badState s 7).detail)
  exact (h0.trans h1).trans (.of_keeps hend)

/-- So it is on the way out of CALIBRATE. -/
theorem leaveCal_sameTransit (s : State) : SameTransit s s.leaveCal := by
  unfold State.leaveCal
  extract_lets sys0 intake0 s1 s2 s3
  have h1 : SameTransit s s1 := ⟨rfl, rfl, rfl⟩
  have h2 : Keeps (· ≠ .sys) s1 s2 :=
    State.endStrip_keeps (Keeps.forEach (fun _ _ _ hk => State.retarget_keeps hk _) (State.portsReturn_keeps (Keeps.refl s1)))
  have h3 : Keeps (· ≠ .sys) s1 s3 := by
    unfold s3
    split
    · exact h2
    · extract_lets left ph1 a b cal0
      have ha : Keeps (· ≠ .sys) s1 a := Keeps.foldl (fun _ _ _ hk => State.calRecord_keeps hk ..) h2
      have hb : Keeps (· ≠ .sys) s1 b := Keeps.forEach (fun _ _ _ hk => State.calPortDone_keeps hk ..) ha
      clear_value b
      exact State.completeCode_keeps (hb.of (hpart := fun x hx => by rw [not_not.mp hx]; rfl)) ..
  clear_value s3
  have hend : SameTransit s3 { s3 with cal := { s3.cal with inUse := s3.cal.table, stagedSet := s3.cal.table } } := ⟨rfl, rfl, rfl⟩
  exact (h1.trans (.of_keeps h3)).trans hend

/-- A transit begins: MODE stays, and the lines stop or their mode line comes (R548, R549). -/
theorem modeBegin_sys (s : State) (q : Req) (t : Mode) :
    (s.modeBegin q t).sys.transit = true ∧ (s.modeBegin q t).sys.target = t ∧ (s.modeBegin q t).sys.mode = s.sys.mode := by
  unfold State.modeBegin
  extract_lets sys0 s1 sys1 s2 s3 ask vd3 s4
  have h2 : SameTransit s1 s2 := by
    dsimp only [s2]
    split_ifs
    · exact ⟨rfl, rfl, rfl⟩
    · exact leaveWeb_sameTransit s1
    · exact leaveCal_sameTransit s1
    · exact .refl s1
  have h3 : SameTransit s2 s3 := by
    dsimp only [s3]
    split
    · exact ⟨rfl, rfl, rfl⟩
    · exact .refl s2
  have h4 : SameTransit s3 s4 := by
    dsimp only [s4]
    split_ifs
    · exact askPeer_sameTransit ..
    · exact askPeer_sameTransit ..
    · exact ⟨rfl, rfl, rfl⟩
    · exact .refl s3
  have hend := (h2.trans h3).trans h4
  exact ⟨hend.transit, hend.target, hend.mode⟩

/-! MODE_TRANSIT_DONE (R549, R550). -/

/-- What is left at the end of a transit keeps the deck, but for a profile that takes effect (R40). -/
theorem leaveAtEnd_activeDeck {s : State} (h : s.sys.mode = .configure → s.profile.loaded = none) : s.leaveAtEnd.activeDeck = s.activeDeck := by
  have hdeck : s.leaveAtEnd.deck = s.deck := by
    unfold State.leaveAtEnd
    split
    case h_1 hmode =>
      unfold State.takeProfile
      rw [h hmode]
    case h_2 => exact deck_of ((State.leaveDiag_keeps (p := (· ≠ .deck)) (Keeps.refl s) nofun nofun nofun nofun).same .deck (by simp))
    case h_3 => rfl
    case h_4 => rfl
  unfold State.activeDeck State.slotDeck
  rw [hdeck]

/-- The state in which a transit that reaches its mode has ended, but for the SYS_STOP requests that waited (R550). -/
def State.transitEnded (s : State) (m : Mode) : State :=
  (({ s with sys := { s.sys with mode := m, target := m, transit := false } } : State).completeCode 0x0004 .ok 0).raiseIrq 21

theorem transitEnds_ok (s : State) (m : Mode) (reason : Nat) : s.transitEnds m .ok reason = (s.transitEnded m).serveStops := rfl

theorem transitEnded_sys (s : State) (m : Mode) : (s.transitEnded m).sys = { s.sys with mode := m, target := m, transit := false } :=
  sys_of ((State.raiseIrq_keeps (p := (· ≠ .sys)) (State.completeCode_keeps (Keeps.refl _) _ _ _ nofun nofun nofun nofun) 21 nofun nofun).same .sys (by simp))

theorem raiseIrq_keeper (s : State) (v : Nat) : (s.raiseIrq v).keeper = s.keeper :=
  keeper_of ((State.raiseIrq_keeps (p := (· ≠ .keeper)) (Keeps.refl s) v nofun nofun).same .keeper (by simp))

theorem transitEnded_isRunning (s : State) (m : Mode) : (s.transitEnded m).isRunning 0x0004 = false := by
  unfold State.transitEnded State.isRunning
  rw [raiseIrq_keeper]
  exact run_false ..

/-- The transit reaches its mode where that needs no ACTIVE deck, or has one still (R40, R550). -/
theorem modeTransitDone_reaches {s : State} (hready : s.transitReady = true) (hcode : s.sys.mode = .diagnostic → s.comb.codeTouched = false)
    (hdeck : s.sys.target.needsDeck = true → s.activeDeck.isSome = true ∧ (s.sys.mode = .configure → s.profile.loaded = none)) :
    ∃ u : State, execModeTransitDone s = .next (u.transitEnds s.sys.target .ok 0) := by
  unfold execModeTransitDone
  dsimp only
  rw [if_neg (by simp [hready]), if_neg fun h => by simp [hcode h.1] at h, if_neg]
  · exact ⟨_, rfl⟩
  · intro h
    obtain ⟨hneeds, hnone⟩ := Bool.and_eq_true_iff.mp h
    obtain ⟨hactive, hprofile⟩ := hdeck hneeds
    rw [leaveAtEnd_activeDeck hprofile] at hnone
    simp [Option.isSome_iff_ne_none] at hactive hnone
    exact hactive hnone

/-! SYS_STOP (R406, R548). -/

/-- SYS_STOP leaves INSPECT, PRINT and PRINT_VERIFY for MAKEREADY, and no other mode (R406). -/
theorem stopAll_mode (s : State) :
    s.stopAll.sys.mode = if s.sys.mode = .inspect ∨ s.sys.mode = .print ∨ s.sys.mode = .printVerify then .makeready else s.sys.mode := by
  have hstops : (s.sys.mode = .inspect ∨ s.sys.mode.isPrint = true) ↔ s.sys.mode = .inspect ∨ s.sys.mode = .print ∨ s.sys.mode = .printVerify := by
    cases s.sys.mode <;> decide
  unfold State.stopAll
  extract_lets sys0 a s1
  refine (stopAxes_sameTransit s1 63 false).mode.trans ?_
  unfold s1
  by_cases h : s.sys.mode = .inspect ∨ s.sys.mode.isPrint = true
  · rw [if_pos h, if_pos (hstops.mp h)]
    split
    · exact (leavePrint_sameTransit a).mode
    · rfl
  · rw [if_neg h, if_neg (hstops.not.mp h)]

/-- During a transit SYS_STOP waits for its end (R548). -/
theorem sysStop_waits {q : Req} {s : State} (h : Allowed q s .nb true) (ht : s.sys.transit = true) (hpair : s.vd.pair ≠ 2) :
    execSysStop q s = .next { s with keeper.stops := s.keeper.stops ++ [q] } := by
  unfold execSysStop
  simp only [adm_none h, hpair, false_and, if_false, ht]
  rfl

/-- Without a transit SYS_STOP acts at once, and the other device of a joined pair takes it too (R406, R456). -/
theorem sysStop_acts {q : Req} {s : State} (h : Allowed q s .nb true) (ht : s.sys.transit = false) :
    ∃ a : State, SameTransit s a ∧ execSysStop q s = .next (a.stopAll.respond 0x0005 q a.stopAll.stopReply) := by
  unfold execSysStop
  simp only [adm_none h]
  have hasked : SameTransit s (if s.vd.pair = 2 ∧ q.mbx ≠ 3 then s.askPeer 0x0005 0 [] none else s) := by
    split
    · exact askPeer_sameTransit ..
    · exact .refl s
  rw [hasked.transit, ht]
  exact ⟨_, hasked, rfl⟩

/-- Settles O17: MODE_SET by what its transit begins with, its end by `transitEnded`, and SYS_STOP by whether a transit is under way. -/
theorem modesChangeByTransit : Obligations.ModesChangeByTransit := by
  refine ⟨fun q target t s h ht hne hr => ?_, fun q target s h ht hf hm hpresent => run_no h ?_, fun q target s h ht => run_no h (if_pos ht),
    fun s hready hcode hdeck => ?_, fun q s h ht hpair => sysStop_waits h ht hpair, fun q s h ht => ?_⟩
  · obtain ⟨htransit, htarget, hmode⟩ := modeBegin_sys s q t
    refine ⟨s.modeBegin q t, (run_plain h hr rfl).trans ?_, htransit, htarget, hmode, isr_start ..⟩
    rw [ht]
    rfl
  · unfold State.modeRefuse
    simp only [ht, hf, hpresent, hm]
    rfl
  · obtain ⟨u, hu⟩ := modeTransitDone_reaches hready hcode hdeck
    have hsys := transitEnded_sys u s.sys.target
    exact ⟨u.transitEnded s.sys.target, hu.trans (congrArg _ (transitEnds_ok ..)), by rw [hsys], by rw [hsys], by rw [hsys], raise_bit .., transitEnded_isRunning ..⟩
  · obtain ⟨a, hsame, ha⟩ := sysStop_acts h ht
    refine ⟨a.stopAll, ha, ?_⟩
    rw [stopAll_mode, hsame.mode]

end Sys2Proof.Machine
end

section
/-! SUPPORT. Proofs: the layouts of what the reports answer (R398, R403, R405, R412, R416-R427). -/

namespace Sys2Proof.Machine

/-! Words and entries at their offsets. -/

section
variable {α : Type} {f : Nat → List α} {n : Nat} (hf : ∀ j, (f j).length = n)
include hf

theorem entries_natsFrom_length (m i : Nat) : ((natsFrom m i).map f).flatten.length = m * n := by
  induction m generalizing i with
  | zero => simp [natsFrom]
  | succ m ih => rw [natsFrom, List.map_cons, List.flatten_cons, List.length_append, hf, ih, Nat.succ_mul, Nat.add_comm]

/-- Entries of one length fill a table. -/
theorem entries_length (m : Nat) : ((upto m).map f).flatten.length = m * n := entries_natsFrom_length hf m 0

theorem entries_natsFrom_at {m k : Nat} (hk : k < m) (i : Nat) (rest : List α) :
    ((((natsFrom m i).map f).flatten ++ rest).drop (n * k)).take n = f (i + k) := by
  induction m generalizing i k with
  | zero => omega
  | succ m ih =>
    rw [natsFrom, List.map_cons, List.flatten_cons, List.append_assoc]
    cases k with
    | zero => exact List.take_left' (hf i)
    | succ k =>
      rw [Nat.mul_succ, Nat.add_comm, ← List.drop_drop, List.drop_left' (hf i), ih (by omega), Nat.add_assoc, Nat.add_comm 1]

/-- Entry k of a table stands at k times its length. -/
theorem table_at {m k : Nat} (hk : k < m) (rest : List α) : ((((upto m).map f).flatten ++ rest).drop (n * k)).take n = f k :=
  (entries_natsFrom_at hf hk 0 rest).trans (congrArg f (Nat.zero_add k))

theorem table_alone {m k : Nat} (hk : k < m) : ((((upto m).map f).flatten).drop (n * k)).take n = f k := by
  simpa using table_at hf hk []

end

theorem drop_behind {α : Type} {header : List α} {d : Nat} (hd : header.length = d) (l : List α) (i : Nat) : (header ++ l).drop (d + i) = l.drop i := by
  rw [← List.drop_drop, List.drop_left' hd]

/-- The first bytes of an entry. -/
theorem take_of_entry {α : Type} {l e : List α} {n j : Nat} (h : l.take n = e) (hj : j ≤ n) : l.take j = e.take j := by
  rw [← h, List.take_take, Nat.min_eq_left hj]

theorem wordsBytes_singleton (v : Nat) : wordsBytes [v] = leBytes 4 v := List.append_nil _

/-- The words from word `i` on, behind which others may follow (R14). -/
theorem words_at {l ws : List Nat} {i n : Nat} (h : (l.drop i).take n = ws) (hn : ws.length = n) (rest : List Byte) :
    ((wordsBytes l ++ rest).drop (4 * i)).take (4 * n) = wordsBytes ws := by
  subst h
  have hin : i + n ≤ l.length ∨ n = 0 := by
    rw [List.length_take, List.length_drop] at hn
    omega
  rcases hin with hin | rfl
  · have hskip : (wordsBytes (l.take i)).length = 4 * i := by rw [wb_len, List.length_take, Nat.min_eq_left (by omega)]
    have hread : (wordsBytes ((l.drop i).take n)).length = 4 * n := by rw [wb_len, hn]
    have hl : wordsBytes l = wordsBytes (l.take i) ++ (wordsBytes ((l.drop i).take n) ++ wordsBytes ((l.drop i).drop n)) := by
      rw [← wordsBytes_append, ← wordsBytes_append, List.take_append_drop, List.take_append_drop]
    rw [hl, List.append_assoc, List.append_assoc, List.drop_left' hskip, List.take_left' hread]
  · rfl

theorem word_at {l : List Nat} {i v : Nat} (h : (l.drop i).take 1 = [v]) (rest : List Byte) :
    ((wordsBytes l ++ rest).drop (4 * i)).take 4 = leBytes 4 v := by
  rw [← wordsBytes_singleton]
  exact words_at h rfl rest

theorem words_of_list {l ws : List Nat} {i n : Nat} (h : (l.drop i).take n = ws) (hn : ws.length = n) :
    ((wordsBytes l).drop (4 * i)).take (4 * n) = wordsBytes ws := by
  simpa using words_at h hn []

theorem word_of_list {l : List Nat} {i v : Nat} (h : (l.drop i).take 1 = [v]) : ((wordsBytes l).drop (4 * i)).take 4 = leBytes 4 v := by
  simpa using word_at h []

theorem wordsBytes_flatten (l : List (List Nat)) : wordsBytes l.flatten = (l.map wordsBytes).flatten := by
  induction l with
  | nil => rfl
  | cons a l ih => rw [List.flatten_cons, wordsBytes_append, ih, List.map_cons, List.flatten_cons]

section
variable {q : Req} {s : State}

/-! The layouts (R412, R419, R426). -/

/-- The entry of a library slot in DECK_QUERY: its deck, or 0 (R412). -/
def State.deckEntry (s : State) (k : Nat) : List Byte :=
  match s.slotDeck k with
  | some c => wordsBytes [s.handle k, c.deckId, c.deckRev, c.length]
  | none => leBytes 16 0

theorem deckEntry_length (k : Nat) : (s.deckEntry k).length = 16 := by
  unfold State.deckEntry
  cases s.slotDeck k with
  | none => exact leBytes_length 16 0
  | some c => exact wb_len _

/-- The entries stand behind 32 bytes of version, epoch, roles and switch position (R412). -/
theorem deckBytes_eq : ∃ (roles : Nat) (ws : List Byte), ws.length = 16 ∧
    s.deckBytes = wordsBytes [1 * 2 ^ 16, s.deck.epoch, roles, 0] ++ ws ++ ((upto 16).map s.deckEntry).flatten := by
  have hentries : ((upto 16).map s.deckEntry) = (upto 16).map (fun k => match s.slotDeck k with
      | some c => wordsBytes [s.handle k, c.deckId, c.deckRev, c.length]
      | none => wordsBytes [0, 0, 0, 0]) := by
    refine List.map_congr_left fun k _ => ?_
    unfold State.deckEntry
    cases s.slotDeck k <;> rfl
  rw [hentries]
  refine ⟨_, _, ?_, (congrArg (· ++ _) (List.append_assoc ..)).trans rfl⟩
  rw [List.length_append, leBytes_length, leBytes_length]

theorem lookbackEntry_length (ov : Bool) : (s.lookbackEntry ov).length = 32 := by
  unfold State.lookbackEntry
  split <;> simp [leBytes_length, wb_len]

/-- A ring that holds no line reads 0 and bit 0 at 24 (R419). -/
theorem lookbackEntry_empty {ov : Bool} (hnone : s.oldestHeld ov = none) : s.lookbackEntry ov = leBytes 24 0 ++ leBytes 8 1 := by
  unfold State.lookbackEntry
  rw [hnone]

/-- The producers, of two words each, stand behind four words (R426). -/
theorem evtBytes_eq : ∃ rest : List Byte, rest.length = 2124 ∧ s.evtBytes = wordsBytes [s.trestle.groups, 0, 0, 0] ++
    (((upto 128).map (fun p => wordsBytes [(lookupN p s.trestle.published).getD 0, b2n (s.trestle.loops.contains p)])).flatten ++ rest) := by
  refine ⟨_, ?_, (List.append_assoc ..).trans ((List.append_assoc ..).trans ((List.append_assoc ..).trans (congrArg _ (congrArg _ rfl))))⟩
  rw [List.length_append, List.length_append, entries_length (n := 16) fun _ => wb_len _, entries_length (n := 12) fun _ => wb_len _, wb_len]
  rfl

/-! The reports. `usesDram code = false` is given as `rfl`: left to its default, every such lemma waits for all the text before it, each on a thread of its own. -/

theorem sysIdent_reports (h : Allowed q s .nb true) : ∃ p, p.length = 64 ∧ p.take 4 = leBytes 4 s.hifId ∧ (p.drop 16).take 4 = leBytes 4 s.sys.fwVersion ∧
    execSysIdent q s = .next (s.respond 0x0001 q (.ok p)) :=
  ⟨s.identBytes, wb_len _, word_of_list (i := 0) rfl, word_of_list (i := 4) rfl, run_plain h rfl rfl⟩

/-- The line fields hold eight words, of a line or 0 (R405). -/
theorem sysStatus_reports (h : Allowed q s .nb true) : ∃ p, p.length = 64 ∧ p.take 4 = leBytes 4 s.statusWord ∧ (p.drop 56).take 4 = leBytes 4 s.hif.heartbeat ∧
    execSysStatus q s = .next (s.respond 0x0002 q (.ok p)) := by
  obtain ⟨hlen, hword, hbeat⟩ : s.statusBytes.length = 64 ∧ s.statusBytes.take 4 = leBytes 4 s.statusWord ∧ (s.statusBytes.drop 56).take 4 = leBytes 4 s.hif.heartbeat := by
    unfold State.statusBytes
    generalize (if s.webRunning then s.pos.lastLine else none) = line
    cases line <;> exact ⟨wb_len _, word_of_list (i := 0) rfl, word_of_list (i := 14) rfl⟩
  exact ⟨s.statusBytes, hlen, hword, hbeat, run_plain h rfl rfl⟩

section
variable (h : Allowed q s .nb false)
include h

theorem deckQuery_reports : ∃ p, p.length = 288 ∧ (p.drop 4).take 4 = leBytes 4 s.deck.epoch ∧ (∀ k < 16, (p.drop (32 + 16 * k)).take 16 = s.deckEntry k) ∧
    execDeckQuery q s = .next (s.respond 0x0106 q (.ok p)) := by
  obtain ⟨roles, ws, hws, hbytes⟩ := deckBytes_eq (s := s)
  refine ⟨s.deckBytes, ?_, ?_, fun k hk => ?_, run_plain h rfl rfl⟩ <;> rw [hbytes]
  · simp [entries_length deckEntry_length, hws, wb_len]
  · rw [List.append_assoc]
    exact word_at (i := 1) rfl _
  · rw [drop_behind (by simp [hws, wb_len])]
    exact table_alone deckEntry_length hk

/-- A reference slot is 32 bytes, its handle first (R412). -/
theorem refQuery_reports : ∃ p, p.length = 256 ∧ (∀ k < 8, (p.drop (32 * k)).take 4 = leBytes 4 (if (s.refSlot k).st = .free then 0 else s.refHandle k)) ∧
    execRefQuery q s = .next (s.respond 0x0203 q (.ok p)) := by
  refine ⟨_, entries_length (n := 32) (fun k => wb_len _) 8, fun k hk => ?_, run_plain h rfl rfl⟩
  refine (take_of_entry (table_alone (n := 32) ?_ hk) (by decide)).trans ?_
  · exact fun k => wb_len _
  · exact word_of_list (i := 0) rfl

theorem calQuery_reports : ∃ p, p.length = 640 ∧
    (∀ k < 24, (p.drop (16 * k)).take 16 = leBytes 4 (getN s.cal.count k 0) ++ leBytes 4 0 ++ leBytes 8 (getN s.cal.time k 0)) ∧
    execCalQuery q s = .next (s.respond 0x0303 q (.ok p)) := by
  have hentry : ∀ a b c : Nat, (leBytes 4 a ++ leBytes 4 b ++ leBytes 8 c).length = 16 := fun a b c => by simp [leBytes_length]
  refine ⟨calQueryBytes s, ?_, fun k hk => table_at (fun _ => hentry ..) hk _, run_plain h rfl rfl⟩
  rw [calQueryBytes, List.length_append, entries_length (fun _ => hentry ..), entries_length (fun _ => hentry ..)]

theorem printUsageQuery_reports : ∃ p, p.length = 256 ∧
    (∀ h < 8, (p.drop (32 * h)).take 32 = wordsBytes (lohi ((s.head h).chip.chipId.getD 0) ++ lohi (s.head h).chip.count ++ lohi (s.head h).chip.confirmed ++
      [(s.head h).chip.reason * 256 + s.authCode h, 0])) ∧
    execPrintUsageQuery q s = .next (s.respond 0x0414 q (.ok p)) := by
  refine ⟨s.usageBytes, entries_length (n := 32) (fun k => wb_len _) 8, fun k hk => ?_, run_plain h rfl rfl⟩
  refine table_alone (n := 32) ?_ hk
  exact fun k => wb_len _

theorem ringQuery_reports : ∃ p, p.length = 256 ∧
    (∀ r < 8, (p.drop (32 * r)).take 32 = wordsBytes [(s.ring r).baseLo, (s.ring r).baseHi, (s.ring r).sizeLog2, (s.ring r).prod, (s.ring r).lost,
      (s.ring r).spill.length] ++ leBytes 8 (s.ring r).seq) ∧
    execRingQuery q s = .next (s.respond 0x0500 q (.ok p)) := by
  have hentry : ∀ (a b c d e f g : Nat), (wordsBytes [a, b, c, d, e, f] ++ leBytes 8 g).length = 32 := fun a b c d e f g => by simp [leBytes_length, wb_len]
  exact ⟨_, entries_length (fun _ => hentry ..) 8, fun k hk => table_alone (fun _ => hentry ..) hk, run_plain h rfl rfl⟩

theorem lookbackQuery_reports : ∃ p, p.length = 64 ∧ (s.oldestHeld false = none → p.take 32 = leBytes 24 0 ++ leBytes 8 1) ∧
    (s.oldestHeld true = none → p.drop 32 = leBytes 24 0 ++ leBytes 8 1) ∧ execLookbackQuery q s = .next (s.respond 0x0521 q (.ok p)) :=
  ⟨s.lookbackEntry false ++ s.lookbackEntry true, by simp [lookbackEntry_length],
    fun hnone => (List.take_left' (lookbackEntry_length false)).trans (lookbackEntry_empty hnone),
    fun hnone => (List.drop_left' (lookbackEntry_length false)).trans (lookbackEntry_empty hnone), run_plain h rfl rfl⟩

/-- An axis is two words, its position first (R420). -/
theorem axisQuery_reports : ∃ p, p.length = 48 ∧ (∀ a < 6, (p.drop (8 * a)).take 4 = leBytes 4 (truncN 32 (s.axis a).pos)) ∧
    execAxisQuery q s = .next (s.respond 0x0603 q (.ok p)) := by
  refine ⟨s.axisBytes, ?_, fun a ha => ?_, run_plain h rfl rfl⟩ <;> rw [State.axisBytes, wordsBytes_flatten, List.map_map]
  · exact entries_length (n := 8) (fun _ => wb_len _) 6
  · refine (take_of_entry (table_alone (n := 8) ?_ ha) (by decide)).trans ?_
    · exact fun _ => wb_len _
    · exact word_of_list (i := 0) rfl

theorem timeQuery_reports : ∃ p, p.length = 32 ∧ p.take 8 = wordsBytes (lohi s.time) ∧ (p.drop 8).take 8 = wordsBytes (lohi s.net.incr) ∧
    (p.drop 24).take 8 = wordsBytes (lohiS s.net.offset) ∧ execTimeQuery q s = .next (s.respond 0x0700 q (.ok p)) :=
  ⟨_, wb_len _, words_of_list (i := 0) (n := 2) rfl rfl, words_of_list (i := 2) (n := 2) rfl rfl, words_of_list (i := 6) (n := 2) rfl rfl, run_plain h rfl rfl⟩

/-- A network port is 32 bytes, of which the first four words are used (R421). -/
theorem netQuery_reports : ∃ p, p.length = 64 ∧
    (∀ i < 2, (p.drop (32 * i)).take 16 = wordsBytes [s.profile.current.ethMode i + 4 * b2n (getN s.net.ports i {}).link,
      (getN s.net.ports i {}).rx, (getN s.net.ports i {}).tx, (getN s.net.ports i {}).drop]) ∧
    execNetQuery q s = .next (s.respond 0x0703 q (.ok p)) := by
  refine ⟨_, entries_length (n := 32) (fun _ => wb_len _) 2, fun i hi => ?_, run_plain h rfl rfl⟩
  refine (take_of_entry (table_alone (n := 32) ?_ hi) (by decide)).trans ?_
  · exact fun _ => wb_len _
  · exact words_of_list (i := 0) (n := 4) rfl rfl

/-- A firmware slot is four words, of which three are used (R424). -/
theorem fwQuery_reports : ∃ p, p.length = 36 ∧
    (∀ k < 2, (p.drop (16 * k)).take 12 = wordsBytes [(getN s.fw.slots k {}).version, (getN s.fw.slots k {}).state, (getN s.fw.slots k {}).length]) ∧
    p.drop 32 = leBytes 4 (s.sys.fwSlot + 2 * s.fw.next + 4 * b2n s.sys.patched) ∧ execFwQuery q s = .next (s.respond 0x0900 q (.ok p)) := by
  refine ⟨_, wb_len _, fun k hk => ?_, ?_, run_plain h rfl rfl⟩
  · obtain rfl | rfl : k = 0 ∨ k = 1 := by omega
    · exact words_of_list (i := 0) (n := 3) rfl rfl
    · exact words_of_list (i := 4) (n := 3) rfl rfl
  · rw [wordsBytes_append]
    refine (List.drop_left' ?_).trans (wordsBytes_singleton _)
    exact wb_len _

theorem lcQuery_reports : ∃ keys, execLcQuery q s = .next (s.respond 0x0904 q (.ok (leBytes 4 (s.fuse.lifeCycle + s.fuse.testProt * 2 ^ 8 + keys * 2 ^ 16)))) ∧
    keys = sumN ((upto 8).map (fun k => if (getN s.fuse.keySlots k {}).loaded && !(getN s.fuse.keySlots k {}).revoked then 2 ^ k else 0)) :=
  ⟨_, run_plain h rfl rfl, rfl⟩

theorem evtQuery_reports : ∃ p, p.length = 3164 ∧ p.take 4 = leBytes 4 s.trestle.groups ∧
    (∀ k < 128, (p.drop (16 + 8 * k)).take 4 = leBytes 4 ((lookupN k s.trestle.published).getD 0)) ∧
    execEvtQuery q s = .next (s.respond 0x0A00 q (.ok p)) := by
  obtain ⟨rest, hrest, hbytes⟩ := evtBytes_eq (s := s)
  have hgroups : (wordsBytes [s.trestle.groups, 0, 0, 0]).length = 16 := wb_len _
  have hproducer : ∀ k : Nat, (wordsBytes [(lookupN k s.trestle.published).getD 0, b2n (s.trestle.loops.contains k)]).length = 8 := fun _ => wb_len _
  refine ⟨s.evtBytes, ?_, ?_, fun k hk => ?_, run_plain h rfl rfl⟩ <;> rw [hbytes]
  · rw [List.length_append, List.length_append, hgroups, entries_length hproducer, hrest]
  · exact word_at (i := 0) rfl _
  · rw [drop_behind hgroups, take_of_entry (table_at hproducer hk rest) (by decide)]
    exact word_of_list (i := 0) rfl

theorem memQuery_reports : ∃ p, p.length = 192 ∧ (∀ r < 12, (p.drop (16 * r)).take 16 = leBytes 8 (s.regionBase r) ++ leBytes 8 (s.regionSize r)) ∧
    execMemQuery q s = .next (s.respond 0x0B00 q (.ok p)) := by
  have hentry : ∀ a b : Nat, (leBytes 8 a ++ leBytes 8 b).length = 16 := fun a b => by simp [leBytes_length]
  exact ⟨_, entries_length (fun _ => hentry ..) 12, fun r hr => table_alone (fun _ => hentry ..) hr, run_plain h rfl rfl⟩

end

end

/-- Settles O14: each report by its lemma above. -/
theorem reportsAnswerAndChangeNothing : Obligations.ReportsAnswerAndChangeNothing := by
  refine fun q s => ⟨fun h => ⟨(run_plain h rfl rfl : execSysNop q s = _), sysIdent_reports h, sysStatus_reports h⟩, fun h => ⟨?_, refQuery_reports h, calQuery_reports h,
    printUsageQuery_reports h, ringQuery_reports h, lookbackQuery_reports h, axisQuery_reports h, timeQuery_reports h, netQuery_reports h, fwQuery_reports h,
    lcQuery_reports h, evtQuery_reports h, memQuery_reports h⟩⟩
  exact deckQuery_reports h

end Sys2Proof.Machine
end

section
/-! SUPPORT. Proofs: the host channels (R380, R473-R483, R488). -/

namespace Sys2Proof.Machine

/-! One channel. -/

/-- A host channel that the device has (R471). -/
structure State.HasChan (s : State) (c : Nat) : Prop where
  ge : 8 ≤ c
  le : c ≤ 15
  len : s.dma.chan.length = 8

namespace State.HasChan

variable {s t : State} {c : Nat}

theorem of_dma (h : s.HasChan c) (ht : t.dma = s.dma) : t.HasChan c := ⟨h.ge, h.le, by rw [ht, h.len]⟩

theorem of_upd (h : s.HasChan c) (j : Nat) (f : DmaChan → DmaChan) : (s.updDma j f).HasChan c :=
  ⟨h.ge, h.le, (length_updAt ..).trans h.len⟩

theorem of_dmaBack (h : s.HasChan c) (j status result : Nat) : (s.dmaBack j status result).HasChan c :=
  ⟨h.ge, h.le, (length_updAt ..).trans h.len⟩

end State.HasChan

theorem dmaChan_of_dma {s t : State} (h : t.dma = s.dma) (c : Nat) : t.dmaChan c = s.dmaChan c := by
  rw [State.dmaChan, h, State.dmaChan]

theorem dmaChan_updDma {s : State} {c : Nat} (h : s.HasChan c) (f : DmaChan → DmaChan) : (s.updDma c f).dmaChan c = f (s.dmaChan c) := by
  obtain ⟨hge, hle, hlen⟩ := h
  exact getN_upd _ _ _ _ (by omega)

theorem dmaChan_updDma_ne (s : State) {c k : Nat} (hc : 8 ≤ c) (hk : 8 ≤ k) (h : k ≠ c) (f : DmaChan → DmaChan) :
    (s.updDma c f).dmaChan k = s.dmaChan k :=
  getN_upd_ne _ _ _ _ _ (by omega)

theorem dmaIrq_dma (s : State) (c : Nat) : (s.dmaIrq c).dma = s.dma :=
  dma_of ((State.raiseIrq_keeps (p := (· ≠ .dma)) (Keeps.refl s) _ nofun nofun).same .dma (by simp))

theorem dmaChan_dmaIrq (s : State) (c k : Nat) : (s.dmaIrq c).dmaChan k = s.dmaChan k := dmaChan_of_dma (dmaIrq_dma s c) k

theorem dmaApply_dma (s : State) (d : DmaDesc) (a b part : Nat) : (s.dmaApply d a b part).1.dma = s.dma :=
  dma_of ((State.dmaApply_keeps (p := (· ≠ .dma)) (Keeps.refl s) d a b part nofun nofun nofun).same .dma (by simp))

/-- A write-back moves HEAD on and leaves no descriptor in progress (R475). -/
theorem dmaChan_dmaBack {s : State} {c : Nat} (h : s.HasChan c) (status result : Nat) : (s.dmaBack c status result).dmaChan c =
    { s.dmaChan c with head := (s.dmaChan c).nextHead, done := 0, part := 0, cur := none, err := (s.dmaChan c).err || status != 0 } :=
  dmaChan_updDma (h.of_dma rfl) _

/-! The next descriptor (R479, R488). -/

/-- The 32 bytes at HEAD (R473). -/
def State.atHead (s : State) (c : Nat) : List Byte := s.read (s.dmaChan c).addr 32

/-- The channel stands idle at HEAD, START cleared (R479). -/
def DmaChan.stands (k : DmaChan) : DmaChan := { k with run := .idle, start := false, cur := none, done := 0, part := 0 }

/-- The channel runs a descriptor from its first byte (R474). -/
def DmaChan.runs (k : DmaChan) (d : DmaDesc) : DmaChan := { k with run := .running, cur := some d, done := 0, part := d.start }

/-- What the channel does with the descriptor at HEAD, by whether the ring may be read, who owns it, and what rule it breaks. -/
theorem dmaFetch_eq (s : State) (c : Nat) : s.dmaFetch c =
    if s.dmaRingOk (s.dmaChan c) = false then .fault (.misuse 488)
    else if bitAt (wordAt (s.atHead c) 0) 31 = false then .next (s.updDma c DmaChan.stands)
    else if dmaReserved (s.atHead c) = true then .fault (.misuse 15)
    else (s.dmaMisuse (dmaDescOf (s.atHead c))).elim (.next (s.updDma c (·.runs (dmaDescOf (s.atHead c))))) (fun r => .fault (.misuse r)) := by
  unfold State.dmaFetch
  refine if_congr (by simp) rfl (if_congr (by simp [State.atHead]) rfl (if_congr Iff.rfl rfl ?_))
  change _ = (s.dmaMisuse (dmaDescOf (s.read (s.dmaChan c).addr 32))).elim _ _
  cases s.dmaMisuse (dmaDescOf (s.read (s.dmaChan c).addr 32)) <;> rfl

theorem dmaFetch_ring {s : State} {c : Nat} (hring : s.dmaRingOk (s.dmaChan c) = false) : s.dmaFetch c = .fault (.misuse 488) := by
  rw [dmaFetch_eq, hring]
  rfl

section
variable {s : State} {c : Nat} (hring : s.dmaRingOk (s.dmaChan c) = true)
include hring

theorem dmaFetch_hostOwned (hown : bitAt (wordAt (s.atHead c) 0) 31 = false) : s.dmaFetch c = .next (s.updDma c DmaChan.stands) := by
  rw [dmaFetch_eq, hring, hown]
  rfl

variable (hown : bitAt (wordAt (s.atHead c) 0) 31 = true)
include hown

theorem dmaFetch_reserved (hreserved : dmaReserved (s.atHead c) = true) : s.dmaFetch c = .fault (.misuse 15) := by
  rw [dmaFetch_eq, hring, hown, hreserved]
  rfl

variable (hreserved : dmaReserved (s.atHead c) = false)
include hreserved

theorem dmaFetch_misuse {r : Nat} (hr : s.dmaMisuse (dmaDescOf (s.atHead c)) = some r) : s.dmaFetch c = .fault (.misuse r) := by
  rw [dmaFetch_eq, hring, hown, hreserved, hr]
  rfl

theorem dmaFetch_runs (hr : s.dmaMisuse (dmaDescOf (s.atHead c)) = none) : s.dmaFetch c = .next (s.updDma c (·.runs (dmaDescOf (s.atHead c)))) := by
  rw [dmaFetch_eq, hring, hown, hreserved, hr]
  rfl

end

/-! START, PAUSE and ABORT (R477, R479-R481). -/

section
variable {s : State} {c : Nat} (h : s.HasChan c)
include h

theorem dmaStart_fetches (hsize : (s.dmaChan c).sizeLog2 ≠ 0) (hidle : (s.dmaChan c).run = .idle) (hpause : (s.dmaChan c).pause = false) :
    execDmaStart c s = s.dmaFetch c := by
  obtain ⟨hge, hle, -⟩ := h
  exact (if_neg (by omega)).trans (if_pos ⟨hidle, by simp [hpause]⟩)

theorem dmaStart_pends (hsize : (s.dmaChan c).sizeLog2 ≠ 0) (hbusy : (s.dmaChan c).run ≠ .idle ∨ (s.dmaChan c).pause = true) :
    execDmaStart c s = .next (s.updDma c (fun k => { k with start := true })) := by
  obtain ⟨hge, hle, -⟩ := h
  refine (if_neg (by omega)).trans (if_neg fun ⟨hidle, hpause⟩ => ?_)
  rcases hbusy with hrun | hpaused
  · exact hrun hidle
  · simp [hpaused] at hpause

theorem dmaPause_on : execDmaPause c true s = .next (s.updDma c DmaChan.pauseOn) := by
  obtain ⟨hge, hle, -⟩ := h
  exact (if_neg (by omega)).trans (if_pos rfl)

/-- PAUSE cleared, a paused channel goes on with its descriptor (R480). -/
theorem dmaPause_off (hrun : (s.dmaChan c).run = .paused) (hstandby : (s.dmaChan c).standbyPaused = false) (hcur : (s.dmaChan c).cur.isSome = true) :
    execDmaPause c false s = .next ((s.updDma c (fun k => { k with pause := false })).updDma c (fun k => { k with run := .running })) := by
  obtain ⟨hge, hle, -⟩ := h
  exact (if_neg (by omega)).trans ((if_neg Bool.false_ne_true).trans ((if_pos ⟨hrun, by simp [hstandby]⟩).trans (if_pos hcur)))

theorem dmaAbort_clears (hrun : (s.dmaChan c).run = .idle ∨ (s.dmaChan c).cur = none ∧ (s.dmaChan c).run ≠ .paused) :
    execDmaAbort c s = .next (s.updDma c (fun k => { k with start := false })) := by
  obtain ⟨hge, hle, -⟩ := h
  refine (if_neg (by omega)).trans (if_pos (hrun.imp_right fun ⟨hcur, hpaused⟩ => ⟨?_, hpaused⟩))
  rw [hcur]
  rfl

/-- A channel with a descriptor under way drains before its abort completes (R481). -/
theorem dmaAbort_drains (hrun : (s.dmaChan c).run = .running ∨ (s.dmaChan c).run = .draining) (hcur : (s.dmaChan c).cur ≠ none) :
    execDmaAbort c s = .next (s.updDma c (fun k => { k with abort := true, run := .draining })) := by
  obtain ⟨hge, hle, -⟩ := h
  have hpaused : (s.dmaChan c).run ≠ .paused := by rcases hrun with hrun | hrun <;> rw [hrun] <;> decide
  have hidle : (s.dmaChan c).run ≠ .idle := by rcases hrun with hrun | hrun <;> rw [hrun] <;> decide
  exact (if_neg (by omega)).trans ((if_neg (by simp [hidle, hcur])).trans (if_neg hpaused))

theorem dmaAbort_paused (hrun : (s.dmaChan c).run = .paused) : execDmaAbort c s = .next (s.dmaAborted c) := by
  obtain ⟨hge, hle, -⟩ := h
  exact (if_neg (by omega)).trans ((if_neg (by simp [hrun])).trans (if_pos hrun))

/-- An abort completes: the descriptor in progress is written back and HEAD moves on, and the channel stands idle (R481). -/
theorem dmaChan_dmaAborted : (s.dmaAborted c).dmaChan c =
    DmaChan.idleAt (if (s.dmaChan c).cur.isSome = true then
      { s.dmaChan c with head := (s.dmaChan c).nextHead, done := 0, part := 0, cur := none, err := (s.dmaChan c).err || 2 != 0 } else s.dmaChan c) := by
  unfold State.dmaAborted
  rw [dmaChan_dmaIrq]
  by_cases hcur : (s.dmaChan c).cur.isSome = true
  · rw [if_pos hcur, if_pos hcur, dmaChan_updDma (h.of_dmaBack ..), dmaChan_dmaBack h]
  · rw [if_neg hcur, if_neg hcur, dmaChan_updDma h]

theorem dmaAborted_idle (hreset : (s.dmaChan c).resetDue = false) : ((s.dmaAborted c).dmaChan c).run = .idle ∧
    ((s.dmaAborted c).dmaChan c).head = (if (s.dmaChan c).cur.isSome = true then (s.dmaChan c).nextHead else (s.dmaChan c).head) := by
  rw [dmaChan_dmaAborted h]
  unfold DmaChan.idleAt
  by_cases hcur : (s.dmaChan c).cur.isSome = true <;> simp [hcur, hreset]

end

/-! A channel drains, and a descriptor ends (R475, R480-R482). -/

/-- What an acknowledged drain has moved: whole units of 256 B of the descriptor, up to byte `done` (R480). -/
def State.drainedTo (s : State) (c : Nat) (d : DmaDesc) (done : Nat) : State :=
  let k := s.dmaChan c
  let stop := max k.done (min done d.len / 256 * 256)
  let r := s.dmaApply d k.done stop k.part
  r.1.drawn.updDma c (fun k => { k with done := stop, part := r.2 })

/-- The state in which the rest of a descriptor has taken effect, and nothing is written back yet (R474). -/
def State.dmaMoved (s : State) (c : Nat) (d : DmaDesc) : State := (s.dmaApply d (s.dmaChan c).done d.len (s.dmaChan c).part).1.drawn

/-- The descriptor is written back and counted (R475, R482). -/
def State.dmaCounted (s : State) (c : Nat) (d : DmaDesc) (status result : Nat) : State :=
  ((s.dmaMoved c d).dmaBack c status result).updDma c (fun k => { k with completed := satInc k.completed })

/-- A descriptor that meets no error is written back with its result, counted, and HEAD moves on (R475, R482). -/
theorem dmaEnd_eq (s : State) (c : Nat) (d : DmaDesc) : ∃ status result : Nat, (d.op ≤ 1 → status = 0 ∧ result = d.len) ∧ s.dmaEnd c d none =
    (if d.irq || status != 0 then (s.dmaCounted c d status result).dmaIrq c else s.dmaCounted c d status result) := by
  let r := s.dmaApply d (s.dmaChan c).done d.len (s.dmaChan c).part
  refine ⟨(d.result r.2).1, (d.result r.2).2, fun hop => ?_, rfl⟩
  unfold DmaDesc.result
  rw [if_pos hop]
  exact ⟨rfl, rfl⟩

/-- The RESULT word of the descriptor at HEAD (R475). -/
theorem dmaCounted_result {s : State} {c : Nat} (hmem : s.mem.wf = true) (d : DmaDesc) (status result : Nat) {i : Nat} (hi : i < 4) :
    memByte (s.dmaCounted c d status result).mem ((s.dmaChan c).addr + 0x1C + i) = (leBytes 4 result).getD i 0 := by
  have hmoved : (s.dmaMoved c d).mem.wf = true := (State.dmaApply_keeps (p := fun _ => True) (Keeps.refl s) d _ _ _ trivial trivial trivial).mem hmem
  have hsame : (s.dmaMoved c d).dmaChan c = s.dmaChan c := dmaChan_of_dma (dmaApply_dma ..) c
  have hlen := leBytes_length 4
  change memByte (memWrite (memWrite (s.dmaMoved c d).mem (((s.dmaMoved c d).dmaChan c).addr + 0x1C) (leBytes 4 result)) ((s.dmaMoved c d).dmaChan c).addr (leBytes 4 _)) _ = _
  rw [hsame, memWrite_outside (memWrite_wf hmoved ..) (by rw [hlen]; omega), memWrite_inside _ (by rw [hlen]; exact hi) hmoved]

section
variable {s : State} {c : Nat} (h : s.HasChan c)
include h

theorem drainedTo_hasChan (d : DmaDesc) (done : Nat) : (s.drainedTo c d done).HasChan c :=
  (h.of_dma (t := (s.dmaApply ..).1.drawn) (dmaApply_dma ..)).of_upd c _

theorem dmaChan_drainedTo (d : DmaDesc) (done : Nat) : ∃ part, (s.drainedTo c d done).dmaChan c =
    { s.dmaChan c with done := max (s.dmaChan c).done (min done d.len / 256 * 256), part := part } := by
  have hmoved : (s.dmaApply d (s.dmaChan c).done (max (s.dmaChan c).done (min done d.len / 256 * 256)) (s.dmaChan c).part).1.drawn.dma = s.dma :=
    dmaApply_dma ..
  unfold State.drainedTo
  rw [dmaChan_updDma (h.of_dma hmoved), dmaChan_of_dma hmoved]
  exact ⟨_, rfl⟩

/-- The drain of a channel with a descriptor, or of one between two, ends paused with the channel's status bit set (R480, R482). -/
theorem dmaDrainDone_pauses {done : Nat} (hrun : (s.dmaChan c).run = .draining) (habort : (s.dmaChan c).abort = false) :
    execDmaDrainDone c done s =
      .next ((((s.dmaChan c).cur.elim s (s.drainedTo c · done)).updDma c (fun k => { k with run := .paused })).dmaIrq c) := by
  obtain ⟨hge, hle, -⟩ := h
  refine (if_neg (by simp only [hrun, ne_eq, not_true, or_false]; omega)).trans ((if_neg (by simp [habort])).trans ?_)
  cases (s.dmaChan c).cur <;> rfl

theorem dmaDrainDone_paused {done : Nat} (hrun : (s.dmaChan c).run = .draining) (habort : (s.dmaChan c).abort = false) :
    ∃ t : State, execDmaDrainDone c done s = .next t ∧ (t.dmaChan c).run = .paused ∧ bitAt t.hif.irqStatus (12 + (c - 8)) = true ∧
      ∀ d, (s.dmaChan c).cur = some d → (t.dmaChan c).cur = some d ∧ (t.dmaChan c).done = max (s.dmaChan c).done (min done d.len / 256 * 256) := by
  refine ⟨_, dmaDrainDone_pauses h hrun habort, ?_, raise_bit _ _, fun d hd => ?_⟩
  · rw [dmaChan_dmaIrq]
    cases hcur : (s.dmaChan c).cur with
    | none => exact congrArg DmaChan.run (dmaChan_updDma h _)
    | some d => exact congrArg DmaChan.run (dmaChan_updDma (drainedTo_hasChan h d done) _)
  · obtain ⟨part, hpart⟩ := dmaChan_drainedTo h d done
    rw [dmaChan_dmaIrq, hd, Option.elim_some, dmaChan_updDma (drainedTo_hasChan h d done), hpart]
    exact ⟨hd, rfl⟩

theorem dmaMoved_hasChan (d : DmaDesc) : (s.dmaMoved c d).HasChan c := h.of_dma (dmaApply_dma ..)

theorem dmaCounted_chan (d : DmaDesc) (status result : Nat) : ((s.dmaCounted c d status result).dmaChan c).head = (s.dmaChan c).nextHead ∧
    ((s.dmaCounted c d status result).dmaChan c).completed = satInc (s.dmaChan c).completed := by
  have hmoved := dmaMoved_hasChan h d
  have hsame : (s.dmaMoved c d).dmaChan c = s.dmaChan c := dmaChan_of_dma (dmaApply_dma ..) c
  unfold State.dmaCounted
  rw [dmaChan_updDma (hmoved.of_dmaBack ..), dmaChan_dmaBack hmoved, hsame]
  exact ⟨rfl, rfl⟩

theorem dmaCounted_hasChan (d : DmaDesc) (status result : Nat) : (s.dmaCounted c d status result).HasChan c :=
  ((dmaMoved_hasChan h d).of_dmaBack ..).of_upd c _

end

section
variable {s : State} {c : Nat} (h : s.HasChan c) (corrected : List Nat)

theorem readCorr_fold_keeps (s : State) : Keeps (· = .dram) s (corrected.foldl State.readCorr s) :=
  Keeps.foldl (p := (· = .dram)) (f := State.readCorr) (fun _ _ a hk => State.readCorr_keeps hk a rfl) (Keeps.refl s)

theorem readCorr_fold_dma (s : State) : (corrected.foldl State.readCorr s).dma = s.dma :=
  dma_of ((readCorr_fold_keeps corrected s).same .dma (by simp))

include h

/-- A descriptor that ends while its channel drains: the channel pauses before the next one (R480). -/
theorem dmaDescriptorDone_drained {d : DmaDesc} (hrun : (s.dmaChan c).run = .draining) (habort : (s.dmaChan c).abort = false) (hcur : (s.dmaChan c).cur = some d) :
    execDmaDescriptorDone c none s corrected =
      .next (((((corrected.foldl State.readCorr s).dmaEnd c d none).updDma c (fun k => { k with run := .paused }))).dmaIrq c) := by
  obtain ⟨hge, hle, -⟩ := h
  unfold execDmaDescriptorDone State.dmaGoesOn
  simp only [hcur]
  rw [if_neg (by simp [hrun]; omega)]
  simp [hrun, habort]

/-- There the descriptor is written back and counted, HEAD has moved on, and the channel's status bit is set (R475, R482). -/
theorem dmaDescriptorDone_drained_result {d : DmaDesc} (hmem : s.mem.wf = true) (hrun : (s.dmaChan c).run = .draining) (habort : (s.dmaChan c).abort = false)
    (hcur : (s.dmaChan c).cur = some d) :
    ∃ t : State, execDmaDescriptorDone c none s corrected = .next t ∧ (t.dmaChan c).run = .paused ∧ bitAt t.hif.irqStatus (12 + (c - 8)) = true ∧
      (t.dmaChan c).head = (s.dmaChan c).nextHead ∧ (t.dmaChan c).completed = satInc (s.dmaChan c).completed ∧
      (d.op ≤ 1 → ∀ i, i < 4 → memByte t.mem ((s.dmaChan c).addr + 0x1C + i) = (leBytes 4 d.len).getD i 0) := by
  have hread := readCorr_fold_keeps corrected s
  have hchan := dmaChan_of_dma (readCorr_fold_dma (s := s) corrected) c
  have hr := h.of_dma (readCorr_fold_dma (s := s) corrected)
  obtain ⟨status, result, hresult, hend⟩ := dmaEnd_eq (corrected.foldl State.readCorr s) c d
  obtain ⟨hhead, hcount⟩ := dmaCounted_chan hr d status result
  have hb := dmaCounted_hasChan hr d status result
  have hbytes := fun i hi => dmaCounted_result (c := c) (hread.mem hmem) d status result (i := i) hi
  rw [hchan] at hhead hcount hbytes
  refine ⟨_, dmaDescriptorDone_drained h corrected hrun habort hcur, ?_⟩
  generalize (corrected.foldl State.readCorr s).dmaCounted c d status result = b at *
  have hdma : ((corrected.foldl State.readCorr s).dmaEnd c d none).dma = b.dma := by
    rw [hend]
    split
    · exact dmaIrq_dma b c
    · rfl
  have hm : ((corrected.foldl State.readCorr s).dmaEnd c d none).mem = b.mem := by
    rw [hend]
    split
    · exact raiseIrq_mem b _
    · rfl
  rw [dmaChan_dmaIrq, dmaChan_updDma (hb.of_dma hdma), dmaChan_of_dma hdma]
  refine ⟨rfl, raise_bit _ _, hhead, hcount, fun hop i hi => ?_⟩
  obtain ⟨-, rfl⟩ := hresult hop
  rw [← hbytes i hi, ← hm]
  exact congrArg (memByte · _) (raiseIrq_mem _ _)

/-- A descriptor that ends while its channel runs: the channel reads the next one (R479), unless an error of this read has just brought SAFE_HOLD (R553). -/
theorem dmaDescriptorDone_runs {d : DmaDesc} {ecc : Option Nat} (hrun : (s.dmaChan c).run = .running) (hcur : (s.dmaChan c).cur = some d)
    (hsys : ecc = none ∨ ((corrected.foldl State.readCorr s).dmaEnd c d ecc).sys = s.sys ∧ s.sys.failed = false) :
    execDmaDescriptorDone c ecc s corrected = ((corrected.foldl State.readCorr s).dmaEnd c d ecc).dmaFetch c := by
  obtain ⟨hge, hle, -⟩ := h
  unfold execDmaDescriptorDone
  simp only [hcur]
  rw [if_neg (by simp only [hrun]; simp; omega)]
  rcases hsys with rfl | ⟨hsame, hfailed⟩
  · exact (if_neg Bool.false_ne_true).trans (if_pos hrun)
  · have hsettle : ((corrected.foldl State.readCorr s).dmaEnd c d ecc).settle = (corrected.foldl State.readCorr s).dmaEnd c d ecc := by
      unfold State.settle
      rw [if_neg (by simp [hsame, hfailed])]
    have hmode : (s.sys.mode != .safeHold && s.sys.mode == .safeHold) = false := by
      unfold bne
      exact Bool.not_and_self _
    rw [hsettle]
    unfold State.dmaGoesOn
    rw [hsame, hmode]
    simp [hrun]

theorem dmaEnd_hasChan (d : DmaDesc) (ecc : Option Nat) : ((corrected.foldl State.readCorr s).dmaEnd c d ecc).HasChan c := by
  have hkeeps : Keeps (fun _ => True) s ((corrected.foldl State.readCorr s).dmaEnd c d ecc) :=
    State.dmaEnd_keeps (Keeps.foldl (fun _ _ a hk => State.readCorr_keeps hk a trivial) (Keeps.refl s)) c d ecc trivial trivial trivial trivial trivial trivial trivial
      trivial trivial trivial
  exact ⟨h.ge, h.le, hkeeps.chans h.len⟩

end

/-! FLR and PERST# (R380, R483, R561). -/

/-- From `h` to `t` only vectors were raised: HIF_IRQ_STATUS and the pending bits alone may differ (R383). -/
def Hif.Raised (h t : Hif) : Prop := ∃ status pba, t = { h with irqStatus := status, pba := pba }

theorem Hif.Raised.refl (h : Hif) : h.Raised h := ⟨_, _, rfl⟩

theorem Hif.Raised.trans {a b c : Hif} (hab : a.Raised b) (hbc : b.Raised c) : a.Raised c := by
  obtain ⟨_, _, rfl⟩ := hab
  obtain ⟨_, _, rfl⟩ := hbc
  exact ⟨_, _, rfl⟩

theorem raiseIrq_raised (s : State) (v : Nat) : s.hif.Raised (s.raiseIrq v).hif := by
  unfold State.raiseIrq State.sendVector
  split
  · exact .refl _
  · split
    · exact ⟨_, _, rfl⟩
    · split
      · exact ⟨_, _, rfl⟩
      · exact ⟨_, _, rfl⟩

theorem dmaAborted_raised (s : State) (c : Nat) : s.hif.Raised (s.dmaAborted c).hif := by
  unfold State.dmaAborted
  dsimp only
  split
  · exact raiseIrq_raised ((s.dmaBack ..).updDma ..) _
  · exact raiseIrq_raised (s.updDma ..) _

theorem dmaFlr_raised (s : State) (c : Nat) : s.hif.Raised (s.dmaFlr c).hif := by
  unfold State.dmaFlr
  dsimp only
  split
  · exact .refl _
  · split
    · exact dmaAborted_raised (s.updDma ..) c
    · exact .refl _

theorem flr_raised (s : State) : s.hif.flr.Raised s.flr.hif :=
  forEach_keeps (P := fun t => s.hif.flr.Raised t.hif) (fun c _ h => h.trans (dmaFlr_raised _ c)) _ (.refl _)

/-- The registers of a channel at their reset values; its count of errors stays (R483). -/
def DmaChan.atReset (k : DmaChan) : DmaChan := { eccCount := k.eccCount }

section
variable {s : State} {c k : Nat}

theorem dmaFlr_idle (h : s.HasChan c) (hidle : (s.dmaChan c).run = .idle) : (s.dmaFlr c).dmaChan c = (s.dmaChan c).atReset := by
  unfold State.dmaFlr
  rw [if_pos hidle]
  exact dmaChan_updDma h _

theorem dmaAborted_ne (hc : 8 ≤ c) (hk : 8 ≤ k) (hne : k ≠ c) : (s.dmaAborted c).dmaChan k = s.dmaChan k := by
  unfold State.dmaAborted
  rw [dmaChan_dmaIrq, dmaChan_updDma_ne _ hc hk hne]
  by_cases hcur : (s.dmaChan c).cur.isSome = true
  · rw [if_pos hcur]
    exact dmaChan_updDma_ne { s with mem := _ } hc hk hne _
  · rw [if_neg hcur]

theorem dmaFlr_ne (hc : 8 ≤ c) (hk : 8 ≤ k) (hne : k ≠ c) : (s.dmaFlr c).dmaChan k = s.dmaChan k := by
  have hupd := fun f => dmaChan_updDma_ne s hc hk hne f
  unfold State.dmaFlr
  dsimp only
  split
  · exact hupd _
  · split
    · exact (dmaAborted_ne hc hk hne).trans (hupd _)
    · exact hupd _

theorem dmaFlr_hasChan {j : Nat} (h : s.HasChan c) : (s.dmaFlr j).HasChan c :=
  ⟨h.ge, h.le, (State.dmaFlr_keeps (p := fun _ => True) (Keeps.refl s) j trivial trivial trivial).chans h.len⟩

end

/-- Channels reset one after another: an idle channel that is among them, or is at its reset values already, ends there. -/
theorem forEach_dmaFlr_idle {k : Nat} : ∀ (l : List Nat) {s : State}, s.HasChan k → (∀ j ∈ l, 8 ≤ j) → (s.dmaChan k).run = .idle →
    (k ∈ l ∨ s.dmaChan k = (s.dmaChan k).atReset) → (forEach (fun c s => s.dmaFlr c) l s).dmaChan k = (s.dmaChan k).atReset
  | [], _, _, _, _, hdone => hdone.elim (fun hk => absurd hk List.not_mem_nil) id
  | j :: l, s, h, hl, hidle, hdone => by
    have ih := forEach_dmaFlr_idle l (s := s.dmaFlr j) (dmaFlr_hasChan h) (fun i hi => hl i (.tail _ hi))
    by_cases hj : k = j
    · subst hj
      have hreset := dmaFlr_idle h hidle
      have hself : (s.dmaFlr k).dmaChan k = ((s.dmaFlr k).dmaChan k).atReset := by rw [hreset]; rfl
      exact (ih (by rw [hreset]; rfl) (.inr hself)).trans (hself.symm.trans hreset)
    · have hsame := dmaFlr_ne (s := s) (hl j (.head _)) h.ge hj
      rw [hsame] at ih
      exact ih hidle (hdone.imp_left fun hk => (List.mem_cons.mp hk).resolve_left hj)

theorem flr_idle {s : State} {k : Nat} (h : s.HasChan k) (hidle : (s.dmaChan k).run = .idle) : s.flr.dmaChan k = { eccCount := (s.dmaChan k).eccCount } := by
  have hk : k ∈ natsFrom 8 8 := by
    obtain ⟨hge, hle, -⟩ := h
    simp only [natsFrom, List.mem_cons, List.not_mem_nil, or_false]
    omega
  exact forEach_dmaFlr_idle (s := { s with hif := s.hif.flr }) (natsFrom 8 8) (h.of_dma rfl) (fun j hj => (mem_natsFrom 8 8 j hj).1) hidle (.inl hk)

/-- No request and no response of the host's mailboxes outlives FLR (R380). -/
theorem Hif.flr_mailboxes (h : Hif) : ∀ m, m < 2 → (getN h.flr.mbx m {}).reqBusy = false ∧ (getN h.flr.mbx m {}).rspValid = false
  | 0, _ => ⟨rfl, rfl⟩
  | 1, _ => ⟨rfl, rfl⟩

/-- What FLR returns to the reset values (R380): the mask, the window, the version, MSI-X, and the mailboxes of the host. -/
theorem flr_returns (s : State) : s.flr.hif.irqMask = 0xFFFFFFFF ∧ s.flr.hif.winLo = 0 ∧ s.flr.hif.winHi = 0x10 ∧ s.flr.hif.hostVersion = 1 ∧
    s.flr.hif.msixEnable = false ∧ ∀ m, m < 2 → (s.flr.mailbox m).reqBusy = false ∧ (s.flr.mailbox m).rspValid = false := by
  obtain ⟨status, pba, hhif⟩ := flr_raised s
  unfold State.mailbox
  rw [hhif]
  exact ⟨rfl, rfl, rfl, rfl, rfl, s.hif.flr_mailboxes⟩

/-- PERST# holds the controller, and the link is down (R561). -/
def State.perstHeld (s : State) : State := { s with hif := { s.hif with perst := true, linkUp := false } }

/-- Settles O28, clause by clause of its words: START, PAUSE, ABORT, the end of a drain, the end of a descriptor while the channel drains and while it runs, and the resets of the PCIe function. -/
theorem hostChannelsRunPauseAndAbort : Obligations.HostChannelsRunPauseAndAbort := by
  unfold Obligations.HostChannelsRunPauseAndAbort
  refine ⟨fun c s hge hle hlen hsize => ⟨fun ⟨hidle, hpause⟩ => ?_, fun hbusy => dmaStart_pends ⟨hge, hle, hlen⟩ hsize hbusy⟩,
    fun c s hge hle hlen => ⟨?_, fun hrun hstandby hcur => ?_⟩,
    fun c s hge hle hlen => ⟨dmaAbort_clears ⟨hge, hle, hlen⟩, dmaAbort_drains ⟨hge, hle, hlen⟩, fun hrun hreset => ?_⟩,
    fun c done s hge hle hlen hrun habort => ?_, fun c corrected d s hge hle hlen hmem hrun habort hcur => ?_,
    fun c ecc corrected d s hge hle hlen hrun hcur hsys hring hown => ?_, fun c s hlen hc => ?_⟩
  · have h : s.HasChan c := ⟨hge, hle, hlen⟩
    have hfetch : exec (.dmaStart c) s = s.dmaFetch c := dmaStart_fetches h hsize hidle hpause
    refine ⟨fun hring => hfetch.trans (dmaFetch_ring hring), fun hring hown => ?_, fun hring hown hreserved hrule => ?_,
      fun hring hown => ⟨fun hreserved => hfetch.trans (dmaFetch_reserved hring hown hreserved),
        fun r hreserved hr => hfetch.trans (dmaFetch_misuse hring hown hreserved hr)⟩⟩
    · refine ⟨_, hfetch.trans (dmaFetch_hostOwned hring hown), ?_⟩
      rw [dmaChan_updDma h]
      exact ⟨rfl, rfl, rfl⟩
    · refine ⟨_, hfetch.trans (dmaFetch_runs hring hown hreserved hrule), ?_⟩
      rw [dmaChan_updDma h]
      exact ⟨rfl, rfl, rfl⟩
  · have h : s.HasChan c := ⟨hge, hle, hlen⟩
    refine ⟨_, dmaPause_on h, ?_⟩
    rw [dmaChan_updDma h]
    exact ⟨rfl, rfl⟩
  · have h : s.HasChan c := ⟨hge, hle, hlen⟩
    refine ⟨_, dmaPause_off h hrun hstandby hcur, ?_⟩
    rw [dmaChan_updDma (h.of_upd ..), dmaChan_updDma h]
    exact ⟨rfl, rfl, rfl⟩
  · have h : s.HasChan c := ⟨hge, hle, hlen⟩
    obtain ⟨hidle, hhead⟩ := dmaAborted_idle h hreset
    exact ⟨_, dmaAbort_paused h hrun, hidle, raise_bit _ _, hhead⟩
  · exact dmaDrainDone_paused ⟨hge, hle, hlen⟩ hrun habort
  · exact dmaDescriptorDone_drained_result ⟨hge, hle, hlen⟩ corrected hmem hrun habort hcur
  · have h : s.HasChan c := ⟨hge, hle, hlen⟩
    refine ⟨_, (dmaDescriptorDone_runs h corrected hrun hcur hsys).trans (dmaFetch_hostOwned hring hown), ?_⟩
    rw [dmaChan_updDma (dmaEnd_hasChan h corrected d ecc)]
    exact ⟨rfl, rfl, rfl⟩
  · obtain ⟨hmask, hlo, hhi, hversion, hmsix, hmbx⟩ := flr_returns s
    have hchan := fun k hge hle => flr_idle (s := s) (k := k) ⟨hge, hle, hlen⟩
    rcases hc with rfl | rfl
    · exact ⟨s.flr, rfl, hmask, hlo, hhi, hversion, hmsix, hmbx, hchan, Instr.noConfusion⟩
    · have hexec : exec .perstAssert s = .next s.flr.perstHeld := rfl
      generalize s.flr = f at *
      exact ⟨f.perstHeld, hexec, hmask, hlo, hhi, hversion, hmsix, hmbx, hchan, fun _ => ⟨rfl, rfl⟩⟩

end Sys2Proof.Machine
end

section
/-! SUPPORT. Proofs: the sets of the Modes column (R22, R399, R546). -/

namespace Sys2Proof.Machine

theorem isWeb_iff {m : Mode} : m.isWeb = true ↔ m = .learn ∨ m = .makeready ∨ m = .inspect ∨ m = .print ∨ m = .printVerify := by
  cases m <;> decide

theorem isPrint_iff {m : Mode} : m.isPrint = true ↔ m = .print ∨ m = .printVerify := by
  cases m <;> decide

/-- Settles O10: each set by the test that names its modes, the web and the print modes by the lemmas above. -/
theorem modeSetsHoldTheirModes : Obligations.ModeSetsHoldTheirModes := by
  refine fun m => ⟨bne_iff_ne, ?op, ?ops, ?ns, ?nw, isWeb_iff, ?lm, isPrint_iff, beq_iff_eq, beq_iff_eq, beq_iff_eq⟩
  case nw => simp [ModeSet.has, ← Bool.not_eq_true, isWeb_iff, and_assoc]
  all_goals simp [ModeSet.has, and_assoc]

end Sys2Proof.Machine
end

section
/-! SUPPORT. Proofs: COUNTER_CLEAR clears what its mask names, and SYS_ABORT ends the request being executed (R403, R410). -/

namespace Sys2Proof.Machine

/-! COUNTER_CLEAR (R410). -/

/-- The state that COUNTER_CLEAR leaves. -/
def State.countersCleared (s : State) (parts : Nat) : State := ((s.clearWebCounters parts).clearMidCounters parts).clearEdgeCounters parts

/-- A counter of each unit of a list that a part holds: with the part's bit set every unit has it cleared. -/
theorem unitCount_cleared {σ α γ : Type} (units : σ → List α) (count : α → γ) (clear : α → α) {t u : σ} (b : Bool) (k : Nat) {d : α} {z : γ}
    (ht : units t = (units u).map clear) (hd : clear d = d) (hz : ∀ x, count (clear x) = z) :
    count (getN (units (if b = true then t else u)) k d) = if b = true then z else count (getN (units u) k d) := by
  cases b with
  | false => rfl
  | true =>
    have hunit : getN (units t) k d = clear (getN (units u) k d) := by
      conv_lhs => rw [ht, ← hd]
      exact getN_map clear (units u) k d
    exact (congrArg count hunit).trans (hz _)

section
variable (s : State) (parts k : Nat)

theorem countersCleared_cam : ((s.countersCleared parts).cam k).count = if bitAt parts 1 = true then {} else (s.cam k).count :=
  unitCount_cleared (·.cam) (·.count) (fun c : Camera => { c with count := {}, remapClip := 0 }) (u := s.intake) _ k rfl rfl fun _ => rfl

theorem countersCleared_ring : ((s.countersCleared parts).ring k).lost = if bitAt parts 7 = true then 0 else (s.ring k).lost :=
  unitCount_cleared (·.rings) (·.lost) (fun r : Ring => { r with lost := 0, spillHwm := 0 }) (u := s.recs) _ k rfl rfl fun _ => rfl

theorem countersCleared_head : ((s.countersCleared parts).head k).count = if bitAt parts 8 = true then {} else (s.head k).count :=
  unitCount_cleared (·.head) (·.count) (fun h : Head => { h with count := {} }) (u := s.print) _ k rfl rfl fun _ => rfl

theorem countersCleared_marker :
    ((s.countersCleared parts).marker k).late = if (bitAt parts 7 || bitAt parts 9) = true then 0 else (s.marker k).late :=
  unitCount_cleared (·.marker) (·.late) (fun m : Marker => { m with late := 0, missed := 0 }) (u := s.mark) _ k rfl rfl fun _ => rfl

theorem countersCleared_chan :
    (getN (s.countersCleared parts).dma.chan k {}).eccCount = if bitAt parts 15 = true then 0 else (getN s.dma.chan k {}).eccCount :=
  unitCount_cleared (·.chan) (·.eccCount) (fun c : DmaChan => { c with eccCount := 0 }) (u := s.dma) _ k rfl rfl fun _ => rfl

end

section
variable {q : Req} {parts : Nat} {s : State} (h : Allowed q s .nb false)
include h

theorem counterClear_clears (hp : partsReserved parts = false) :
    exec (.counterClear q parts) s = .next ((s.countersCleared parts).respond 0x0008 q {}) :=
  (if_neg (by simp [hp])).trans (run_plain h rfl)

theorem counterClear_reserved (hp : partsReserved parts = true) : exec (.counterClear q parts) s = .fault (.misuse 15) :=
  if_pos (by simp [adm_none h, hp])

end

/-! SYS_ABORT (R403). -/

section
variable {m : Nat} {s : State}

theorem abortFor_executing {r : Request} {row : CmdRow} (hr : s.executing m = some r) (hrow : cmdRow r.cmd = some row) :
    s.abortFor m = if row.abortable then (s.abortRequest m r, .ok (leBytes 4 r.cmd)) else (s, .fail .denied 2) := by
  unfold State.abortFor
  rw [hr]
  dsimp only
  rw [hrow]
  rfl

/-- With nothing executed and no command running for the mailbox there is nothing to abort. -/
theorem abortFor_nothing (hnone : s.executing m = none) (hrun : ∀ r ∈ s.keeper.running, r.req.mbx ≠ m) : s.abortFor m = (s, .fail .notFound 0) := by
  unfold State.abortFor
  rw [hnone]
  dsimp only
  split
  next r hr => exact if_neg (hrun r (List.mem_of_find?_eq_some hr))
  next => exact if_neg (by simpa using hrun)

/-- An aborted request other than a DECK_LOAD only takes its response. -/
theorem abortRequest_responds {r : Request} (h : r.cmd ≠ 0x0100) : s.abortRequest m r =
    s.respond r.cmd { mbx := m, seq := r.seq, srcAddr := r.srcAddr, srcPort := r.srcPort } (.fail .busy 4) :=
  congrArg (State.respond · _ _ _) (if_neg h)

theorem sysAbort_answers {q : Req} (h : Allowed q s .nb true) {t : State} {reply : Reply} (ha : s.abortFor m = (t, reply)) :
    exec (.sysAbort q m) s = .next (t.respond 0x0006 q reply) := by
  have hrun : exec (.sysAbort q m) s = .next ((s.abortFor m).1.respond 0x0006 q (s.abortFor m).2) := run_plain h rfl
  rw [hrun, ha]

end

/-- Settles O16: COUNTER_CLEAR part by part, and SYS_ABORT by what it finds for the mailbox. -/
theorem counterClearAndAbortActOnWhatTheyName : Obligations.CounterClearAndAbortActOnWhatTheyName := by
  refine ⟨fun q parts s h hp => ⟨s.countersCleared parts, counterClear_clears h hp, countersCleared_cam s parts, apply_ite SegState.count ..,
      apply_ite CombState.retries .., countersCleared_ring s parts, countersCleared_head s parts, countersCleared_marker s parts,
      apply_ite PosState.overspeedLate .., rfl, apply_ite DramState.lbDrop .., apply_ite ViaductState.replay .., apply_ite NetState.steps ..,
      countersCleared_chan s parts, apply_ite MonitorState.ecc .., apply_ite PowerState.brownouts ..⟩,
    fun q parts s h hp => counterClear_reserved h hp, fun q m s r row h hr hrow => ?_, fun m r s hcmd => abortRequest_responds hcmd,
    fun q m s h hnone hrun => sysAbort_answers h (abortFor_nothing hnone hrun)⟩
  have habort := abortFor_executing hr hrow
  split
  next hmark => exact sysAbort_answers h (habort.trans (if_pos hmark))
  next hmark => exact sysAbort_answers h (habort.trans (if_neg hmark))

end Sys2Proof.Machine
end

section
/-! SUPPORT. Proofs: the blocks of the host region and the firmware's transfers (R32, R42, R402, R427, R471). -/

namespace Sys2Proof.Machine

/-! MEM_ALLOC and MEM_FREE. -/

/-- The state in which the next handle stands for a block of the host region. -/
def State.hostReserved (s : State) (a n : Nat) : State := { s with
  dram := { s.dram with hostBlocks := s.dram.hostBlocks ++ [(s.dram.nextHandle, a, n)], nextHandle := (s.dram.nextHandle + 1) % 2 ^ 32 } }

/-- The state without the host's blocks of a handle. -/
def State.hostFreed (s : State) (handle : Nat) : State := { s with dram := { s.dram with hostBlocks := s.dram.hostBlocks.filter (fun b => b.1 != handle) } }

section
variable {q : Req} {s : State} (h : Allowed q s .op false)
include h

theorem memAlloc_reserves {len a : Nat} (ha : s.allocBlock 11 s.hostUsed (ceilDiv len 4096 * 4096) = some a) : exec (.memAlloc q len) s =
    .next ((s.hostReserved a (ceilDiv len 4096 * 4096)).respond 0x0B01 q (.ok (wordsBytes ([s.dram.nextHandle, 0] ++ lohi a)))) := by
  show execMemAlloc q len s = _
  unfold execMemAlloc
  dsimp only
  rw [ha]
  exact run_plain h rfl

theorem memAlloc_full {len : Nat} (ha : s.allocBlock 11 s.hostUsed (ceilDiv len 4096 * 4096) = none) :
    exec (.memAlloc q len) s = .next (s.respond 0x0B01 q (s.regionFull 11 s.hostUsed)) :=
  run_no h (if_pos (by simp [ha]))

theorem memFree_frees {handle : Nat} (hb : ∃ b ∈ s.dram.hostBlocks, b.1 = handle)
    (hidle : ∀ r ∈ s.keeper.running, r.code ≠ 0x0B03 ∧ r.code ≠ 0x0B04) :
    exec (.memFree q handle) s = .next ((s.hostFreed handle).respond 0x0B02 q {}) := by
  obtain ⟨b, hfind⟩ : ∃ b, s.dram.hostBlocks.find? (fun b => b.1 == handle) = some b := by
    rw [← Option.isSome_iff_exists]
    simpa using hb
  show execMemFree q handle s = _
  unfold execMemFree
  dsimp only
  rw [hfind]
  refine run_plain h (if_neg ?_)
  rw [List.any_eq_true]
  rintro ⟨r, hr, hbusy⟩
  simp [hidle r hr] at hbusy

theorem memFree_notFound {handle : Nat} (hnone : ∀ b ∈ s.dram.hostBlocks, b.1 ≠ handle) :
    exec (.memFree q handle) s = .next (s.respond 0x0B02 q (.fail .notFound 0)) := by
  have hfind : s.dram.hostBlocks.find? (fun b => b.1 == handle) = none := by simpa using hnone
  show execMemFree q handle s = _
  unfold execMemFree
  dsimp only
  rw [hfind]
  exact run_no h rfl

end

/-! MEM_COPY and MEM_CRC. -/

/-- A destination of no bytes, or of mapped bytes that the host may write, is none of the cases of misuse (R32, R427). -/
theorem destMisuse_none {s : State} {a n : Nat}
    (h : n ≠ 0 → (s.rangeOf a n).isSome = true ∧ (s.inRegion 11 a n = true ∨ inBlocks s.refWritable a n = true)) : s.destMisuse a n = none := by
  unfold State.destMisuse
  split
  · rfl
  next hn =>
    obtain ⟨hmapped, hwritable⟩ := h hn
    rw [if_neg (by simp [Option.isNone_eq_false_iff.mpr hmapped]), if_pos (by simpa using hwritable)]

theorem busyIfRunning_idle {s : State} {code : Nat} (h : s.isRunning code = false) : busyIfRunning s code = none := if_neg (by simp [h])

section
variable {q : Req} {s : State} (h : Allowed q s .op false) {len : Nat} (hlen : len < 2 ^ 24)
include h hlen

theorem memCopy_starts {src dst : Nat} (hidle : s.isRunning 0x0B03 = false) (hsrc : len ≠ 0 → s.sourceBad src len = false)
    (hdst : s.destMisuse dst len = none) : exec (.memCopy q src dst len) s =
      .next ((s.start 0x0B03 q [src, dst, len]).wakeDram.respond 0x0B03 q .accepted) := by
  show execMemCopy q src dst len s = _
  unfold execMemCopy
  dsimp only
  rw [Nat.mod_eq_of_lt hlen, if_neg (by simpa using fun _ _ => hsrc), hdst, ite_self]
  exact run_dram h (busyIfRunning_idle hidle)

theorem memCrc_starts {addr : Nat} (hidle : s.isRunning 0x0B04 = false) (hsrc : len ≠ 0 → s.sourceBad addr len = false) :
    exec (.memCrc q addr len) s = .next ((s.start 0x0B04 q [addr, addr, len]).wakeDram.respond 0x0B04 q .accepted) := by
  show execMemCrc q addr len s = _
  unfold execMemCrc
  dsimp only
  rw [Nat.mod_eq_of_lt hlen, if_neg (by simpa using fun _ _ => hsrc)]
  exact run_dram h (busyIfRunning_idle hidle)

variable (hsome : len ≠ 0) {src : Nat} (hbad : s.sourceBad src len = true)
include hsome hbad

theorem memCopy_badSource (dst : Nat) (hidle : s.isRunning 0x0B03 = false) : exec (.memCopy q src dst len) s = .fault (.misuse 32) :=
  if_pos (by rw [Nat.mod_eq_of_lt hlen]; simp [adm_none h, busyIfRunning_idle hidle, hsome, hbad])

theorem memCrc_badSource (hidle : s.isRunning 0x0B04 = false) : exec (.memCrc q src len) s = .fault (.misuse 32) :=
  if_pos (by rw [Nat.mod_eq_of_lt hlen]; simp [adm_none h, busyIfRunning_idle hidle, hsome, hbad])

end

/-! FIRMWARE_DMA_DONE. -/

/-- A command that completes writes no memory. -/
theorem complete_mem (s : State) (r : Running) (st : Status) (d : Nat) : (s.complete r st d).mem = s.mem :=
  mem_of (State.complete_keeps (p := (· ≠ .mem)) (.refl s) r st d nofun nofun nofun nofun).kept

/-- The transfer of the firmware that is the older of those running. -/
def State.transfer (s : State) : Option Running := s.keeper.running.find? (fun r => r.code == 0x0B03 || r.code == 0x0B04)

/-- The bytes that a transfer takes from its source. -/
def State.transferred (s : State) (src n : Nat) : List Byte := if n = 0 then [] else s.seen src n

section
variable {s : State} {r : Running} {src dst n : Nat}

theorem transferred_length_le : (s.transferred src n).length ≤ (s.seen src n).length := by
  unfold State.transferred
  split
  · exact Nat.zero_le _
  · exact Nat.le_refl _

theorem transfer_code (hr : s.transfer = some r) : r.code = 0x0B03 ∨ r.code = 0x0B04 := by
  simpa using List.find?_some hr

theorem firmwareDmaDone_ends (hr : s.transfer = some r) (hargs : r.args = [src, dst, n]) :
    exec .firmwareDmaDone s = .next (if r.code = 0x0B03 then (s.write dst (s.transferred src n)).drawn.complete r .ok 0
      else s.drawn.complete r .ok (crc32 (s.transferred src n))) := by
  show execFirmwareDmaDone s = _
  unfold execFirmwareDmaDone
  rw [show s.keeper.running.find? _ = some r from hr]
  dsimp only
  rw [hargs]
  rfl

/-- MEM_COPY writes what its source reads as, and nothing else. -/
theorem write_transferred_mem (hmem : s.mem.wf = true) :
    (∀ i, i < (s.seen src n).length → n ≠ 0 → memByte (s.write dst (s.transferred src n)).mem (dst + i) = (s.seen src n).getD i 0) ∧
    ∀ x, x < dst ∨ dst + (s.seen src n).length ≤ x → memByte (s.write dst (s.transferred src n)).mem x = memByte s.mem x := by
  refine ⟨fun i hi hn => ?_, fun x hx => memWrite_outside hmem (hx.imp_right (Nat.add_le_add_left transferred_length_le dst).trans)⟩
  have hbytes : s.transferred src n = s.seen src n := if_neg hn
  rw [← hbytes] at hi ⊢
  exact memWrite_inside s.mem hi hmem

end

/-- Settles O21, clause by clause of its words, each by its lemma above. -/
theorem hostRegionBlocksAndTransfers : Obligations.HostRegionBlocksAndTransfers := by
  refine ⟨fun q len a s h ha => ⟨_, memAlloc_reserves h ha, rfl⟩, fun q len s h ha => memAlloc_full h ha,
    fun q handle s h hb hidle => memFree_frees h hb hidle, fun q handle s h hnone => memFree_notFound h hnone,
    fun q src dst len s h hidle hlen hok => ⟨_, memCopy_starts h hlen hidle (fun hn => (hok hn).1) (destMisuse_none fun hn => (hok hn).2), wakeDram_mem _,
      congrArg Keeper.running (wakeDram_keeper _)⟩,
    fun q addr len s h hidle hlen hsrc => ⟨_, memCrc_starts h hlen hidle hsrc, wakeDram_mem _, congrArg Keeper.running (wakeDram_keeper _)⟩,
    fun q src dst len s h hsome hlen hbad => ⟨memCopy_badSource h hlen hsome hbad dst, memCrc_badSource h hlen hsome hbad⟩,
    fun r src dst n s hr hargs hmem => ⟨_, firmwareDmaDone_ends hr hargs, ?_⟩⟩
  rcases transfer_code hr with hcode | hcode
  · rw [if_pos hcode, complete_mem, complete_keeper']
    exact ⟨rfl, fun _ => write_transferred_mem hmem, by simp [hcode]⟩
  · rw [if_neg (by simp [hcode]), complete_keeper']
    exact ⟨rfl, by simp [hcode], fun _ hn => by rw [State.transferred, if_neg hn]⟩

end Sys2Proof.Machine
end

section
/-! SUPPORT. Proofs: firmware is written, verified and activated (R407, R424, R563-R570). -/

namespace Sys2Proof.Machine

/-- The slot that FW_WRITE writes, as it stands. -/
def State.inactive (s : State) : FwSlot := getN s.fw.slots s.inactiveSlot {}

/-! FW_WRITE (R424, R569). -/

/-- The state as a chunk is taken: FIRST erases the slot and marks it as being written. -/
def State.chunkTaken (s : State) (src offset len : Nat) (first last : Bool) : State := { s with
  fw := { s.fw with slots := if first = true then updAt s.fw.slots s.inactiveSlot (fun _ => { state := 1 }) else s.fw.slots,
                    writing := some (src, offset, len, last) } }

/-- Chunks come in order: FIRST at offset 0, a later one where the one before it ended. -/
theorem chunkRefuse_inOrder {s : State} {offset : Nat} {first : Bool} (hidle : s.isRunning 0x0901 = false)
    (horder : if first = true then offset = 0 else s.inactive.state = 1 ∧ s.inactive.nextOffset = offset) : s.chunkRefuse offset first = none := by
  refine (if_neg (by simp [hidle])).trans (if_neg ?_)
  cases first with
  | true => simpa using horder
  | false => simpa [State.inactive] using horder

theorem chunkRefuse_firstBehind {s : State} {offset : Nat} (hidle : s.isRunning 0x0901 = false) (hoffset : offset ≠ 0) :
    s.chunkRefuse offset true = some (badState s 9) :=
  (if_neg (by simp [hidle])).trans (if_pos (by simpa using hoffset))

section
variable {q : Req} {s : State} (h : Allowed q s .cfgWeb false) {src offset len : Nat} {first : Bool} (last : Bool)
include h

theorem fwWrite_takes (hr : s.chunkRefuse offset first = none) (hsrc : len = 0 ∨ s.rangeOf src len = some 6) (hfits : offset + len ≤ 0x400000) :
    exec (.fwWrite q src offset len first last) s =
      .next (((s.chunkTaken src offset len first last).start 0x0901 q []).respond 0x0901 q .accepted) := by
  show execFwWrite q src offset len first last s = _
  unfold execFwWrite
  dsimp only
  rw [hr, if_neg (by simpa [or_iff_not_imp_left, adm_none h] using hsrc), if_neg (by simp [slotBytes, hfits])]
  cases first <;> exact run_plain h rfl

theorem fwWrite_refused {r : Reply} (hr : s.chunkRefuse offset first = some r) :
    exec (.fwWrite q src offset len first last) s = .next (s.respond 0x0901 q r) :=
  (if_neg (by simp [hr])).trans ((if_neg (by simp [hr])).trans (run_no h hr))

end

/-! FW_WRITE_DONE (R424, R565). -/

/-- A slot with a chunk put behind the bytes that come before its offset. -/
def FwSlot.extended (x : FwSlot) (offset len : Nat) (chunk : List Byte) : FwSlot :=
  { x with bytes := x.bytes.take offset ++ chunk, nextOffset := offset + len }

/-- A slot verified as holding an image. -/
def FwSlot.holding (x : FwSlot) (i : FwImage) : FwSlot := { x with state := 2, version := i.version, length := i.length, pubkey := i.pubkey }

/-- A slot after its last chunk: verified where its image is valid, invalid otherwise. -/
def State.verified (s : State) (x : FwSlot) : FwSlot :=
  if s.imageValid (imageOf x.bytes) = true then x.holding (imageOf x.bytes) else { x with state := 3 }

/-- The state with a chunk in the slot. -/
def State.chunkWritten (s : State) (src offset len : Nat) : State := { s with
  fw := { s.fw with slots := updAt s.fw.slots s.inactiveSlot (·.extended offset len (s.read src len)), writing := none } }

/-- A command that completes leaves the firmware slots. -/
theorem complete_fw (s : State) (r : Running) (st : Status) (d : Nat) : (s.complete r st d).fw = s.fw :=
  fw_of (State.complete_keeps (p := (· ≠ .fw)) (.refl s) r st d nofun nofun nofun nofun).kept

section
variable {s : State} {src offset len : Nat} {last : Bool} {r : Running}

theorem inactiveSlot_lt (hslots : s.fw.slots.length = 2) : s.inactiveSlot < s.fw.slots.length := by
  unfold State.inactiveSlot
  omega

theorem updFw_inactive (hslots : s.fw.slots.length = 2) (f : FwSlot → FwSlot) : (s.updFw s.inactiveSlot f).inactive = f s.inactive :=
  getN_upd _ _ _ _ (inactiveSlot_lt hslots)

theorem chunkWritten_inactive (hslots : s.fw.slots.length = 2) :
    (s.chunkWritten src offset len).inactive = s.inactive.extended offset len (s.read src len) :=
  updFw_inactive hslots _

theorem chunkWritten_slots (hslots : s.fw.slots.length = 2) : (s.chunkWritten src offset len).fw.slots.length = 2 :=
  (length_updAt ..).trans hslots

/-- The verification reads the bytes of the slot and leaves them. -/
theorem verified_bytes (x : FwSlot) : (s.verified x).bytes = x.bytes ∧ (s.verified x).nextOffset = x.nextOffset := by
  unfold State.verified
  split <;> exact ⟨rfl, rfl⟩

/-- The slot is verified with the image's version and length where the image is valid, and invalid otherwise. -/
theorem verified_state (x : FwSlot) : if s.imageValid (imageOf x.bytes) = true then
      (s.verified x).state = 2 ∧ (s.verified x).version = (imageOf x.bytes).version ∧ (s.verified x).length = (imageOf x.bytes).length
    else (s.verified x).state = 3 := by
  unfold State.verified
  split <;> simp [FwSlot.holding]

/-- The command completes with the chunk in the slot, and with the slot verified where the chunk was the last. -/
theorem fwWriteDone_ends (hwriting : s.fw.writing = some (src, offset, len, last)) (hr : s.runningCmd 0x0901 = some r) (hslots : s.fw.slots.length = 2) :
    ∃ (t : State) (st : Status) (d : Nat), exec .fwWriteDone s = .next (t.complete r st d) ∧ t.fw.writing = none ∧
      getN t.fw.slots s.inactiveSlot {} = if last = true then s.verified (s.inactive.extended offset len (s.read src len))
        else s.inactive.extended offset len (s.read src len) := by
  have hchunk := chunkWritten_inactive (src := src) (offset := offset) (len := len) hslots
  show ∃ (t : State) (st : Status) (d : Nat), execFwWriteDone s = _ ∧ _
  unfold execFwWriteDone
  rw [hwriting, hr]
  cases last with
  | false => exact ⟨s.chunkWritten src offset len, .ok, 0, rfl, rfl, hchunk⟩
  | true =>
    have hslots' := chunkWritten_slots (src := src) (offset := offset) (len := len) hslots
    by_cases hv : s.imageValid (imageOf (s.chunkWritten src offset len).inactive.bytes) = true
    · refine ⟨(s.chunkWritten src offset len).updFw (s.chunkWritten src offset len).inactiveSlot
        (·.holding (imageOf (s.chunkWritten src offset len).inactive.bytes)), .ok, 0, if_pos hv, rfl, (updFw_inactive hslots' _).trans ?_⟩
      rw [hchunk] at hv ⊢
      exact (if_pos hv).symm
    · refine ⟨(s.chunkWritten src offset len).updFw (s.chunkWritten src offset len).inactiveSlot ({ · with state := 3 }),
        .authFail, 6, if_neg hv, rfl, (updFw_inactive hslots' _).trans ?_⟩
      rw [hchunk] at hv ⊢
      exact (if_neg hv).symm

end

/-! FW_ACTIVATE (R407, R424, R564, R570). -/

section
variable {q : Req} {s : State} (h : Allowed q s .op false) {slot : Nat} (hslot : slot < 2)
include h hslot

theorem fwActivate_unverified (hstate : (getN s.fw.slots slot {}).state ≠ 2) :
    exec (.fwActivate q slot false) s = .next (s.respond 0x0902 q (.fail .authFail 7)) := by
  show execFwActivate q slot false s = _
  unfold execFwActivate
  rw [Nat.mod_eq_of_lt hslot]
  exact run_no h ((if_neg (by simp)).trans (if_pos hstate))

variable (hstate : (getN s.fw.slots slot {}).state = 2)
include hstate

theorem fwActivate_next : exec (.fwActivate q slot false) s = .next ((s.bootNext slot).respond 0x0902 q {}) := by
  show execFwActivate q slot false s = _
  unfold execFwActivate
  rw [Nat.mod_eq_of_lt hslot]
  exact run_plain h ((if_neg (by simp)).trans (if_neg (by simp [hstate])))

theorem fwActivate_resets (hweb : s.sys.mode.isWeb = false) : exec (.fwActivate q slot true) s = .next (s.bootNext slot).hifReset := by
  show execFwActivate q slot true s = _
  unfold execFwActivate
  rw [Nat.mod_eq_of_lt hslot]
  exact if_pos (by simp [adm_none h, hweb, hstate])

end

theorem fwActivate_web {q : Req} {s : State} (h : Allowed q s .op false) (slot : Nat) (hweb : s.sys.mode.isWeb = true) :
    exec (.fwActivate q slot true) s = .next (s.respond 0x0902 q (badState s 6)) :=
  (if_neg (by simp [hweb])).trans (run_no h (if_pos ⟨rfl, hweb⟩))

/-- Settles O22, clause by clause of its words, each by its lemma above. -/
theorem firmwareIsWrittenVerifiedAndActivated : Obligations.FirmwareIsWrittenVerifiedAndActivated := by
  refine ⟨fun q src offset len first last s h hidle horder hsrc hfits =>
      ⟨_, fwWrite_takes h last (chunkRefuse_inOrder hidle horder) hsrc hfits, rfl, rfl, rfl⟩,
    fun q src offset len last s h hidle hoffset => fwWrite_refused h last (chunkRefuse_firstBehind hidle hoffset),
    fun src offset len last r s hwriting hr hslots _ => ?_, fun q slot reset s h hslot hstate => ?_,
    fun q slot s h hslot hstate => fwActivate_unverified h hslot hstate⟩
  · obtain ⟨t, st, d, hexec, hdone, hinactive⟩ := fwWriteDone_ends hwriting hr hslots
    refine ⟨_, hexec, complete_ends hr .., by rw [complete_fw, hdone], ?_⟩
    rw [complete_fw]
    intro old slot bytes
    cases last with
    | false =>
      have hslot : slot = old.extended offset len (s.read src len) := hinactive
      rw [hslot]
      exact ⟨rfl, rfl, fun _ => rfl, nofun⟩
    | true =>
      have hslot : slot = s.verified (old.extended offset len (s.read src len)) := hinactive
      rw [hslot]
      obtain ⟨hbytes, hnext⟩ := verified_bytes (s := s) (old.extended offset len (s.read src len))
      exact ⟨hbytes, hnext, nofun, fun _ => verified_state (old.extended offset len (s.read src len))⟩
  · dsimp only
    cases reset with
    | false => exact fwActivate_next h hslot hstate
    | true =>
      cases hweb : s.sys.mode.isWeb with
      | false => exact fwActivate_resets h hslot hstate hweb
      | true => exact fwActivate_web h slot hweb

end Sys2Proof.Machine
end

section
/-! SUPPORT. Proofs: keys, the life cycle and the test port (R425, R584-R592). -/

namespace Sys2Proof.Machine

/-! KEY_LOAD (R585, R587). -/

/-- May a key be burned into a slot: in MANUFACTURE, PROVISIONED or FIELD, neither loaded nor revoked? -/
def State.keyBurnable (s : State) (slot : Nat) : Prop :=
  1 ≤ s.fuse.lifeCycle ∧ s.fuse.lifeCycle ≤ 3 ∧ (getN s.fuse.keySlots slot {}).loaded = false ∧ (getN s.fuse.keySlots slot {}).revoked = false

/-- The state with a key in its slot. -/
def State.keyBurned (s : State) (slot : Nat) (key : List Byte) : State := { s with
  fuse := { s.fuse with keySlots := updAt s.fuse.keySlots slot (fun y => { y with loaded := true, key := bytesAt key 0 32 }) } }

section
variable {q : Req} {s : State} {slot : Nat} (hslot : slot < 8) (key : List Byte)
include hslot

theorem keyLoad_run : exec (.keyLoad q slot key) s = runCmd 0x0903 q .cfg false
    (if s.fuse.lifeCycle = 0 ∨ s.fuse.lifeCycle ≥ 4 ∨ (getN s.fuse.keySlots slot {}).loaded ∨ (getN s.fuse.keySlots slot {}).revoked then
      some (.fail .denied 3) else none) (s.keyBurned slot key, {}) s := by
  show execKeyLoad q slot key s = _
  unfold execKeyLoad
  rw [Nat.mod_eq_of_lt hslot]
  rfl

variable (h : Allowed q s .cfg false)
include h

theorem keyLoad_burns (hok : s.keyBurnable slot) : exec (.keyLoad q slot key) s = .next ((s.keyBurned slot key).respond 0x0903 q {}) := by
  obtain ⟨hlo, hhi, hloaded, hrevoked⟩ := hok
  refine (keyLoad_run hslot key).trans (run_plain h (if_neg ?_))
  simp only [hloaded, hrevoked, Bool.false_eq_true, or_false]
  omega

theorem keyLoad_denied (hno : ¬ s.keyBurnable slot) : exec (.keyLoad q slot key) s = .next (s.respond 0x0903 q (.fail .denied 3)) := by
  refine (keyLoad_run hslot key).trans (run_no h (if_pos ?_))
  by_contra hnone
  simp only [not_or, Bool.not_eq_true] at hnone
  obtain ⟨hblank, hend, hloaded, hrevoked⟩ := hnone
  exact hno ⟨by omega, by omega, hloaded, hrevoked⟩

end

/-! LC_ADVANCE (R425, R586, R588). -/

/-- Zeroisation revokes every key slot and empties the key RAM. -/
theorem zeroise_revokes (s : State) : (∀ x ∈ s.zeroise.fuse.keySlots, x.revoked = true) ∧ s.zeroise.fuse.keyRam = List.replicate 8 none := by
  refine ⟨fun x hx => ?_, rfl⟩
  obtain ⟨y, _, rfl⟩ := List.mem_map.mp hx
  rfl

section
variable {s : State} {target : Nat}

theorem advanceTo_lifeCycle : (s.advanceTo target).fuse.lifeCycle = target := by
  unfold State.advanceTo
  dsimp only
  split <;> rfl

theorem advanceTo_zeroises (ht : 4 ≤ target) :
    (∀ x ∈ (s.advanceTo target).fuse.keySlots, x.revoked = true) ∧ (s.advanceTo target).fuse.keyRam = List.replicate 8 none := by
  unfold State.advanceTo
  dsimp only
  rw [if_pos ht]
  exact zeroise_revokes _

/-- PROVISIONED burns secure boot, the key's hash and the profile's test protection. -/
theorem advanceTo_provisions : (s.advanceTo 2).fuse.secureBoot = true ∧
    (s.advanceTo 2).fuse.testProt = Nat.lor s.fuse.testProt s.profile.current.testProt ∧ (s.advanceTo 2).fuse.keyHash.isSome = true := by
  refine ⟨rfl, rfl, ?_⟩
  show Option.isSome (match s.fuse.keyHash with | some h => some h | none => some _) = true
  cases s.fuse.keyHash <;> rfl

theorem advanceTo_keySlots (ht : target < 4) : (s.advanceTo target).fuse.keySlots = s.fuse.keySlots := by
  unfold State.advanceTo
  dsimp only
  rw [if_neg (by omega)]
  dsimp only
  split <;> rfl

variable {q : Req} (h : Allowed q s .cfg false)
include h

theorem lcAdvance_advances (hpermits : lcPermits s.fuse.lifeCycle target = true)
    (hready : target = 2 → s.sys.patched = true ∧ s.profile.current.testProt ≠ 0) :
    exec (.lcAdvance q target 0x4C435354) s = .next ((s.advanceTo target).respond 0x0905 q {}) :=
  run_plain h ((if_neg (by simp)).trans (if_neg (by simpa [hpermits] using hready)))

theorem lcAdvance_unconfirmed {confirm : Nat} (hc : confirm ≠ 0x4C435354) :
    exec (.lcAdvance q target confirm) s = .next (s.respond 0x0905 q (.fail .denied 4)) :=
  run_no h (if_pos hc)

theorem lcAdvance_forbidden (hpermits : lcPermits s.fuse.lifeCycle target = false) :
    exec (.lcAdvance q target 0x4C435354) s = .next (s.respond 0x0905 q (.fail .denied 3)) :=
  run_no h ((if_neg (by simp)).trans (if_pos (.inl (by simp [hpermits]))))

end

/-! The test port (R584, R588, R589). -/

/-- The first protected instruction zeroises the device and holds it in reset. -/
def State.testOpens (s : State) : State :=
  let t := s.porst.zeroise
  { t with sys := { t.sys with heldInReset := true }, fuse := { t.fuse with testOpened := true } }

theorem testInstruction_web {s : State} (hweb : s.webRunning = true) : exec (.testInstruction true) s = .fault (.misuse 584) := if_pos hweb

/-- A protected instruction outside the web modes, by what the fuses say of it: STATE closes it outside BLANK, MANUFACTURE and RETURN. -/
theorem testInstruction_protected {s : State} (hweb : s.webRunning = false) : exec (.testInstruction true) s =
    if bitAt s.fuse.testProt 0 = true ∧ s.fuse.lifeCycle ≠ 0 ∧ s.fuse.lifeCycle ≠ 1 ∧ s.fuse.lifeCycle ≠ 4 then .next s
    else if bitAt s.fuse.testProt 1 = true ∧ s.fuse.testOpened = false then .next s.testOpens
    else .refused .testAccess := by
  refine (if_neg (by simp [hweb])).trans ?_
  simp only [Bool.and_eq_true, Bool.not_eq_true', Bool.or_eq_false_iff, beq_eq_false_iff_ne, and_assoc]
  rfl

/-- What the first protected instruction leaves: the device in reset, its keys revoked, and its life cycle as it was. -/
theorem testOpens_holds (s : State) : s.testOpens.sys.heldInReset = true ∧ s.testOpens.sys.inReset = true ∧ s.testOpens.fuse.testOpened = true ∧
    (∀ x ∈ s.testOpens.fuse.keySlots, x.revoked = true) ∧ s.testOpens.fuse.keyRam = List.replicate 8 none ∧
    s.testOpens.fuse.lifeCycle = s.fuse.lifeCycle := by
  obtain ⟨hslots, hram⟩ := zeroise_revokes s.porst
  exact ⟨rfl, congrArg SysState.inReset (porst_isReset s).sys, rfl, hslots, hram, (porst_isReset s).lifeCycle⟩

/-- Settles O23, clause by clause of its words, each by its lemma above. -/
theorem keysLifeCycleAndTestPort : Obligations.KeysLifeCycleAndTestPort := by
  refine ⟨fun q slot key s h hslot => ?_, fun q target s h hpermits hready =>
      ⟨_, lcAdvance_advances h hpermits hready, advanceTo_lifeCycle, advanceTo_zeroises, ?_, advanceTo_keySlots⟩,
    fun q target confirm s h hc => lcAdvance_unconfirmed h hc, fun q target s h hpermits => lcAdvance_forbidden h hpermits,
    fun s => rfl, fun s hweb => testInstruction_web hweb, fun s hweb => ?_⟩
  · dsimp only
    split
    next hok => exact ⟨_, keyLoad_burns hslot key h hok, rfl⟩
    next hno => exact keyLoad_denied hslot key h hno
  · rintro rfl
    exact advanceTo_provisions
  · rw [testInstruction_protected hweb]
    split
    · rfl
    · split
      · exact ⟨_, rfl, testOpens_holds s⟩
      · rfl

end Sys2Proof.Machine
end

section
/-! SUPPORT. Proofs: the secondary of a joined pair follows, and seams join or split (R456-R460). -/

namespace Sys2Proof.Machine

-- One proof at a time, as in the `Keeps` laws: the joined text leaves no memory for a thread to each.
set_option Elab.async false

/-! The secondary of a joined pair (R454, R455). -/

theorem follows_iff {s : State} : s.follows = true ↔ s.vdRole = 2 ∧ s.vd.pair = 2 := by
  simp only [State.follows, Bool.and_eq_true, beq_iff_eq]

theorem follows_false_iff {s : State} : s.follows = false ↔ s.vdRole ≠ 2 ∨ s.vd.pair ≠ 2 := by
  rw [← Bool.not_eq_true, follows_iff, not_and_or]

/-! POS (R457). -/

/-- The position with the forwarded H, C and I following it, and the forwarded flags but REVERSE. -/
def State.atForwarded (s : State) (h : Int) (r o f : Bool) : State := { s with
  pos := { s.pos with h := h, i := h, c := h, overspeed := o, freeRun := f }
  vd := { s.vd with fwd := some (h, r, o, f) } }

/-- A forwarded REVERSE changes what the gap of R91 begins with, and no coordinate. -/
theorem forwardReverse_pos (s : State) (r : Bool) : ∃ (revFirst : Bool) (settle count : Nat),
    (s.forwardReverse r).pos = { s.pos with reverse := r, revFirst := revFirst, settle := settle, reverseCount := count } := by
  unfold State.forwardReverse
  split
  next hrise =>
    obtain ⟨rfl, -⟩ := Bool.and_eq_true_iff.mp hrise
    dsimp only
    rw [notifyIn_pos, publish_pos]
    exact ⟨_, _, _, rfl⟩
  next => exact ⟨_, _, _, rfl⟩

theorem forwardReverse_vd (s : State) (r : Bool) : (s.forwardReverse r).vd = s.vd :=
  vd_of (State.forwardReverse_keeps (.refl s) r).kept

theorem pos_followed {s : State} (hf : s.follows = true) (h : Int) (r o f : Bool) :
    exec (.pos h r o f) s = .next ((s.atForwarded h r o f).forwardReverse r) := if_neg (by simp [hf])

theorem pos_ignored {s : State} (hf : s.follows = false) (h : Int) (r o f : Bool) : exec (.pos h r o f) s = .next s := if_pos (by simp [hf])

/-! LINE (R457). -/

section
variable (p : PosState) (l : LineSlot) (pitch now : Nat)

theorem followLine_t : (p.followLine l pitch now).t = p.t + wposDiff l.wpos p.nextWpos * 65536 + pitch := fired_t ..
theorem followLine_wln : (p.followLine l pitch now).wln = (l.wln + 1) % 2 ^ 48 := fired_wln ..

end

/-- The state with its position moved by a forwarded line. -/
def State.movedByForwarded (s : State) (l : LineSlot) : State := { s with pos := s.pos.followLine l s.camDeck.pitch s.now }

theorem forwardedSwitch_none {s : State} (h : s.deck.swap = none) (epoch : Nat) : s.forwardedSwitch epoch = none := by
  unfold State.forwardedSwitch
  rw [h]

/-- A forwarded line that is no switch line moves the position by the line, and nothing else of the frame. -/
theorem line_followed {s : State} (hf : s.follows = true) (hweb : s.webRunning = true) (hswap : s.deck.swap = none)
    (wln : Nat) (wpos : Int) (epoch time ridx roff : Nat) (notrig : Bool) :
    ∃ t : State, exec (.line wln wpos epoch time ridx roff notrig) s = .next t ∧
      SameFrame (s.movedByForwarded (s.forwardedSlot wln wpos epoch time ridx roff notrig false)) t := by
  refine ⟨_, if_neg (by simp [hf, hweb]), ?_⟩
  rw [forwardedSwitch_none hswap]
  refine .of_keeps (State.afterLines_keeps (State.lineIntake_keeps (State.publish_keeps (?_ : Keeps _ _ _) _ _) _ _) s)
  dsimp only [Option.isSome_none]
  split
  · exact State.publish_keeps (Keeps.refl _) _ _
  · exact Keeps.refl _

theorem line_ignored {s : State} (h : s.follows = false ∨ s.webRunning = false)
    (wln : Nat) (wpos : Int) (epoch time ridx roff : Nat) (notrig : Bool) : exec (.line wln wpos epoch time ridx roff notrig) s = .next s :=
  if_pos (by simpa using h)

/-! Unions and waiting parts (R458). -/

/-- Settling unions changes, of the pairing link, the unions alone. -/
theorem settleUnions_vd (us : List SeamUnion) (s : State) : ∃ left : List SeamUnion, (s.settleUnions us).vd = { s.vd with unions := left } := by
  induction us generalizing s with
  | nil => exact ⟨s.vd.unions, rfl⟩
  | cons u us ih =>
    unfold State.settleUnions
    dsimp only
    split
    next n _ =>
      split
      · obtain ⟨_, h⟩ := ih (s.emitUnion u (some n)).1
        rw [h]
        exact ⟨_, rfl⟩
      · obtain ⟨_, h⟩ := ih s
        rw [h]
        exact ⟨_, rfl⟩
    next =>
      split
      · exact ih (s.emitUnion u none).1
      · obtain ⟨_, h⟩ := ih s
        rw [h]
        exact ⟨_, rfl⟩

/-- A union that an own component keeps open stays. -/
theorem settleUnions_open {u : SeamUnion} (hown : u.own ≠ []) (hcut : u.cutAt = none) (us : List SeamUnion) (s : State) :
    (s.settleUnions (u :: us)).vd.unions = u :: (s.settleUnions us).vd.unions := by
  rw [State.settleUnions, hcut]
  refine (congrArg (fun t : State => t.vd.unions) (if_neg ?_)).trans rfl
  simp [hown]

/-- Has this device passed the last line of a waiting part? -/
def State.partPast (s : State) (p : Nat × Descriptor) : Bool := decide (p.2.y1 < s.seg.last.getD 0) || s.seg.epoch != some p.2.epoch

/-- After a line or a message the parts not yet passed still wait. -/
theorem settleSeam_vd (s : State) : ∃ left : List SeamUnion,
    s.settleSeam.vd = { s.vd with unions := left, parts := s.vd.parts.filter (fun p => !s.partPast p) } :=
  settleUnions_vd _ { s with vd := { s.vd with unions := [], parts := s.vd.parts.filter (fun p => !s.partPast p) } }

/-- With no part waiting, a union that an own component keeps open is the one left. -/
theorem settleSeam_open {s : State} {u : SeamUnion} (hunions : s.vd.unions = [u]) (hparts : s.vd.parts = [])
    (hown : u.own ≠ []) (hcut : u.cutAt = none) : s.settleSeam.vd.unions = [u] := by
  unfold State.settleSeam
  rw [hunions, hparts]
  exact settleUnions_open hown hcut [] _

/-! PART (R458). -/

/-- The state with a part that waits for the line after it. -/
def State.withPart (s : State) (label : Nat) (p : Descriptor) : State := { s with vd.parts := s.vd.parts ++ [(label, p)] }

/-- A union with a part of the peer in it, which closes that part's label. -/
def SeamUnion.withPart (u : SeamUnion) (label : Nat) (p : Descriptor) : SeamUnion := { u with
  peer := u.peer.filter (· != label), peerLeft := u.peerLeft.filter (· != label), peerDone := u.peerDone ++ [label], pieces := u.pieces ++ [p] }

theorem part_ignored {s : State} (hrole : s.vdRole ≠ 1) (d : Descriptor) (label : Nat) : exec (.part d label) s = .next s := if_pos hrole

section
variable {s : State} {d : Descriptor} {label : Nat} (hrole : s.vdRole = 1) (harea : d.area ≠ 0)
include hrole harea

/-- A part whose label no union holds waits. -/
theorem part_waits (hnone : ∀ u ∈ s.vd.unions, u.peer.contains label = false) :
    ∃ t : State, exec (.part d label) s = .next t ∧ t.vd = (s.withPart label (s.partOf d)).settleSeam.vd := by
  have hany : s.vd.unions.any (fun u => u.peer.contains label) = false := List.any_eq_false.mpr fun u hu => Bool.not_eq_true _ ▸ hnone u hu
  refine ⟨_, if_neg (not_not.mpr hrole), ?_⟩
  rw [if_neg (by simp only [hany, Bool.false_eq_true, not_false_eq_true]), if_neg harea]
  rfl

/-- A part that is not cut goes into the union that holds its label. -/
theorem part_joins {u : SeamUnion} (hcut : bitAt d.flags 2 = false) (hunions : s.vd.unions = [u]) (hlabel : u.peer.contains label = true) :
    ∃ t : State, exec (.part d label) s = .next t ∧
      t.vd = ({ s with vd.unions := [u.withPart label (s.partOf d)] } : State).settleSeam.vd := by
  refine ⟨_, if_neg (not_not.mpr hrole), ?_⟩
  rw [hunions, if_pos (by simp only [List.any_cons, hlabel, Bool.true_or]), List.map_singleton, if_pos hlabel, hcut, if_neg harea]
  rfl

end

/-- A part with a line not yet passed still waits after the unions have settled, and the pair is as it was. -/
theorem withPart_settles {s : State} {label : Nat} {p : Descriptor} (hpast : s.partPast (label, p) = false) :
    (label, p) ∈ (s.withPart label p).settleSeam.vd.parts ∧ (s.withPart label p).settleSeam.vd.pair = s.vd.pair := by
  obtain ⟨left, h⟩ := settleSeam_vd (s.withPart label p)
  rw [h]
  refine ⟨List.mem_filter.mpr ⟨List.mem_append_right _ (List.mem_singleton_self _), ?_⟩, rfl⟩
  exact (Bool.not_eq_true' _).mpr hpast

theorem partPast_false {s : State} {d : Descriptor} (hepoch : s.seg.epoch = some d.epoch) (hlast : s.seg.last.getD 0 ≤ d.y1) (label : Nat) :
    s.partPast (label, s.partOf d) = false := by
  have hy1 : (s.partOf d).y1 = d.y1 := rfl
  have hep : (s.partOf d).epoch = d.epoch := rfl
  simp [State.partPast, hy1, hep, hepoch, hlast]

/-! SEAM_TIMEOUT (R459, R460). -/

theorem notifyIn_vd (s : State) (epoch code arg0 arg1 arg2 wln : Nat) (wpos : Int) (time : Nat) :
    (s.notifyIn epoch code arg0 arg1 arg2 wln wpos time).vd = s.vd :=
  vd_of (State.notifyIn_keeps (.refl s) epoch code arg0 arg1 arg2 wln wpos time).kept

theorem ownPosition_vd (s : State) : s.ownPosition.vd = s.vd := vd_of (State.ownPosition_keeps (.refl s)).kept

/-- The pair and the cause of its last split are the same. -/
structure ViaductState.SamePair (a b : ViaductState) : Prop where
  pair : b.pair = a.pair
  splitCause : b.splitCause = a.splitCause

/-- Training changes the link and not the pair (R451). -/
theorem retrain_samePair (s : State) : s.vd.SamePair s.retrain.vd := by
  unfold State.retrain
  split <;> exact ⟨rfl, rfl⟩

theorem laneBack_samePair (s : State) (lane : Nat) : s.vd.SamePair (s.laneBack lane).vd := by
  have hback : (s.laneBack lane).vd = (s.returnChannel 0x0B lane).retrain.vd := vd_of (State.completeCode_keeps (.refl _) _ _ _).kept
  have hreturn : (s.returnChannel 0x0B lane).vd = s.vd := vd_of (State.returnChannel_keeps (.refl s) _ _).kept
  rw [hback, ← hreturn]
  exact retrain_samePair _

/-- Lanes that come back leave the pair as it is (R468). -/
theorem lanesBack_samePair (s : State) : s.vd.SamePair s.lanesBack.vd :=
  List.foldlRecOn (motive := fun t : State => s.vd.SamePair t.vd) s.vd.laneDue _ ⟨rfl, rfl⟩ fun t h lane _ =>
    have hlane := laneBack_samePair t lane
    ⟨hlane.pair.trans h.pair, hlane.splitCause.trans h.splitCause⟩

/-- A joined pair splits with the cause (R460). -/
theorem splitPair_splits {s : State} (hpair : s.vd.pair = 2) (cause : Nat) :
    (s.splitPair cause).vd.pair = 1 ∧ (s.splitPair cause).vd.splitCause = cause := by
  unfold State.splitPair
  rw [if_neg (not_not.mpr hpair)]
  extract_lets s1 late line _ _ s2
  have hsame := lanesBack_samePair (s2.ownPosition.notifyIn line.1 0x0803 cause 0 0 line.2.1 line.2.2 s2.time)
  rw [notifyIn_vd, ownPosition_vd] at hsame
  exact ⟨hsame.pair, hsame.splitCause⟩

/-- Does the device wait at line `wln` for the peer's message of the oldest compared line? -/
def State.awaitsSeam (s : State) (c : CompLine) (wln : Nat) : Bool :=
  s.merging c.slot.epoch && c.slot.wln == wln && !s.vd.seamIn.any (fun m => m.epoch == c.slot.epoch && m.wln == wln)

theorem awaitsSeam_iff {s : State} {c : CompLine} {wln : Nat} : s.awaitsSeam c wln = true ↔
    s.merging c.slot.epoch = true ∧ c.slot.wln = wln ∧ ∀ m ∈ s.vd.seamIn, m.epoch ≠ c.slot.epoch ∨ m.wln ≠ wln := by
  simp [State.awaitsSeam, and_assoc, ← not_and_or]

/-- SEAM_TIMEOUT splits the pair at the line that waits, and does nothing at another. -/
theorem seamTimeout_cons {s : State} {c : CompLine} {r : List CompLine} (hout : s.cmp.out = c :: r) (wln : Nat) : exec (.seamTimeout wln) s =
    .next (if s.awaitsSeam c wln then s.splitPair (if s.vd.link = 2 then 5 else 1) else s) := by
  show execSeamTimeout wln s = _
  unfold execSeamTimeout
  rw [hout]
  rfl

theorem seamTimeout_idle {s : State} (hout : s.cmp.out = []) (wln : Nat) : exec (.seamTimeout wln) s = .next s := by
  show execSeamTimeout wln s = _
  unfold execSeamTimeout
  rw [hout]

/-- Settles O50: each message by its lemmas above. -/
theorem secondaryFollowsAndSeamsJoin : Obligations.SecondaryFollowsAndSeamsJoin := by
  refine ⟨fun h r o f s hrole hpair => ⟨_, pos_followed (follows_iff.mpr ⟨hrole, hpair⟩) h r o f, ?_⟩,
    fun h r o f s hn => pos_ignored (follows_false_iff.mpr hn) h r o f,
    fun wln wpos ep time ridx roff nt s hrole hpair hweb hswap => ?_,
    fun wln wpos ep time ridx roff nt s hn => line_ignored (by rwa [follows_false_iff, or_assoc]) ..,
    fun wln ep st label m s => ⟨fun hpair => ⟨_, congrArg Host.Outcome.next (if_pos hpair), rfl, rfl⟩, fun hn => congrArg Host.Outcome.next (if_neg hn)⟩,
    fun label wln s => ⟨fun hrole hpair => ⟨_, congrArg Host.Outcome.next (if_pos (follows_iff.mpr ⟨hrole, hpair⟩)), rfl, rfl⟩,
      fun hn => congrArg Host.Outcome.next (if_neg (by simp [follows_false_iff.mpr hn]))⟩,
    fun d label s hrole => part_ignored hrole d label,
    fun d label s hrole harea hepoch hlast hnone => ?_,
    fun d label u s hrole harea hcut hunions hlabel hown hopen hparts => ?_,
    fun wln c r s hout hpair hmerging hwln hmissing =>
      ⟨_, (seamTimeout_cons hout wln).trans (congrArg Host.Outcome.next (if_pos (awaitsSeam_iff.mpr ⟨hmerging, hwln, hmissing⟩))), splitPair_splits hpair _⟩,
    fun wln s hn => ?_⟩
  · obtain ⟨_, _, _, hpos⟩ := forwardReverse_pos (s.atForwarded h r o f) r
    rw [hpos, forwardReverse_vd]
    exact ⟨rfl, rfl, rfl, rfl, rfl, rfl, rfl, rfl⟩
  · obtain ⟨t, hexec, hframe⟩ := line_followed (follows_iff.mpr ⟨hrole, hpair⟩) hweb hswap wln wpos ep time ridx roff nt
    refine ⟨t, s.forwardedSlot wln wpos ep time ridx roff nt false, hexec, ?_⟩
    rw [hframe.pos, hframe.now]
    exact ⟨followLine_wln .., followLine_t .., rfl, rfl, rfl, rfl, rfl, rfl, rfl, rfl, rfl, rfl⟩
  · obtain ⟨t, hexec, hvd⟩ := part_waits hrole harea hnone
    obtain ⟨hwaits, hpair⟩ := withPart_settles (partPast_false hepoch hlast label)
    rw [← hvd] at hwaits hpair
    exact ⟨t, s.partOf d, hexec, hwaits, rfl, rfl, rfl, rfl, rfl, rfl, hpair⟩
  · obtain ⟨t, hexec, hvd⟩ := part_joins hrole harea hcut hunions hlabel
    obtain ⟨_, hleft⟩ := settleSeam_vd { s with vd.unions := [u.withPart label (s.partOf d)] }
    refine ⟨t, hexec, ?_, ?_⟩
    · rw [hvd, hleft]
      exact congrArg (List.filter _) hparts
    · rw [hvd]
      exact settleSeam_open rfl hparts hown hopen
  · rcases hn with hout | ⟨c, r, hout, hn⟩
    · exact seamTimeout_idle hout wln
    · refine (seamTimeout_cons hout wln).trans (congrArg Host.Outcome.next (if_neg fun hawaits => ?_))
      obtain ⟨hmerging, hwln, hmissing⟩ := awaitsSeam_iff.mp hawaits
      rcases hn with hn | hn | ⟨m, hm, hepoch, hmwln⟩
      · simp [hn] at hmerging
      · exact hn hwln
      · exact (hmissing m hm).elim (absurd hepoch) (absurd hmwln)

end Sys2Proof.Machine
end

section
/-! SUPPORT. Proofs: the form of a code word (R510). -/

namespace Sys2Proof.Machine

set_option Elab.async false

/-- The field of a code word behind its unary part: the low k bits of m, or all of m after an escape (R510). -/
def codeField (depth k m : Nat) : List Bool := if m >>> k < 24 then bitsMsb k m else bitsMsb (depth + 1) m

theorem bitAt_eq_testBit (v i : Nat) : bitAt v i = v.testBit i := Nat.testBit_eq_decide_div_mod_eq.symm

@[simp] theorem bitsMsb_length (n v : Nat) : (bitsMsb n v).length = n := by
  induction n with
  | zero => rfl
  | succ n ih => rw [bitsMsb, List.length_cons, ih]

theorem bitsMsb_getElem? {n j : Nat} (h : j < n) (v : Nat) : (bitsMsb n v)[j]? = some (v.testBit (n - 1 - j)) := by
  induction n generalizing j with
  | zero => exact absurd h j.not_lt_zero
  | succ n ih =>
    cases j with
    | zero => rw [bitsMsb, List.getElem?_cons_zero, bitAt_eq_testBit, Nat.add_sub_cancel, Nat.sub_zero]
    | succ j =>
      have hpos : n + 1 - 1 - (j + 1) = n - 1 - j := by omega
      rw [bitsMsb, List.getElem?_cons_succ, ih (Nat.lt_of_succ_lt_succ h), hpos]

theorem codeField_length (depth k m : Nat) : (codeField depth k m).length = if m >>> k < 24 then k else depth + 1 := by
  unfold codeField
  split <;> exact bitsMsb_length ..

theorem codeField_getElem? {depth k m j : Nat} (h : j < (codeField depth k m).length) :
    (codeField depth k m)[j]? = some (m.testBit ((codeField depth k m).length - 1 - j)) := by
  rw [codeField_length] at h ⊢
  unfold codeField
  split at h
  case isTrue hu =>
    rw [if_pos hu, if_pos hu]
    exact bitsMsb_getElem? h m
  case isFalse hu =>
    rw [if_neg hu, if_neg hu]
    exact bitsMsb_getElem? h m

theorem codeWord_eq (depth k m : Nat) : codeWord depth k m = List.replicate (min (m >>> k) 24) false ++ [true] ++ codeField depth k m := by
  unfold codeWord codeField
  rw [← Nat.shiftRight_eq_div_pow]
  split
  case isTrue hu => rw [Nat.min_eq_left hu.le, List.append_assoc]; rfl
  case isFalse hu => rw [Nat.min_eq_right (Nat.not_lt.mp hu), List.append_assoc]; rfl

/-- The longest code word is an escape at the largest sample depth (R510). -/
theorem codeWord_length_le {depth k : Nat} (hdepth : depth ≤ 12) (hk : k ≤ depth) (m : Nat) : (codeWord depth k m).length ≤ 38 := by
  rw [codeWord_eq, List.length_append, List.length_append, List.length_replicate, List.length_singleton, codeField_length]
  split <;> omega

/-- Settles O57: the form by `codeWord_eq`, the bound by `codeWord_length_le`, reading by `readCode_codeWord`; the escape of 24 at depth 12 has 38 bits. -/
theorem codeWordsAreReadBack : Obligations.CodeWordsAreReadBack :=
  ⟨fun depth k m rest hdepth hk hm =>
    ⟨⟨codeField depth k m, codeField_length depth k m, fun _ hj => codeField_getElem? hj, codeWord_eq depth k m⟩,
      codeWord_length_le hdepth hk m, readCode_codeWord hm k rest⟩,
    12, 0, 24, by decide, by decide, by decide, by decide⟩

end Sys2Proof.Machine
end

section
/-! SUPPORT. Proofs: the prediction and the coding of a sample (R508). -/

namespace Sys2Proof.Machine

set_option Elab.async false

/-! The three cases of the prediction. -/

theorem predict_low {a b c : Nat} (h : max a b ≤ c) : predict a b c = min a b := if_pos h

theorem predict_high {a b c : Nat} (hmax : c < max a b) (hmin : c ≤ min a b) : predict a b c = max a b :=
  (if_neg (Nat.not_le.mpr hmax)).trans (if_pos hmin)

theorem predict_between {a b c : Nat} (hmin : min a b < c) (hmax : c < max a b) : (predict a b c : Int) = a + b - c := by
  unfold predict
  rw [if_neg (Nat.not_le.mpr hmax), if_neg (Nat.not_le.mpr hmin)]
  omega

/-! The reconstruction and the mapped residue. -/

theorem reconstruct_clamped (depth near p : Nat) (q : Int) :
    (reconstruct depth near p q : Int) = max 0 (min (2 ^ depth - 1) (p + q * (2 * near + 1))) := by
  have hpos : 1 ≤ 2 ^ depth := Nat.two_pow_pos depth
  unfold reconstruct clampI
  rw [Int.toNat_of_nonneg (le_max_left _ _)]
  push_cast [hpos]
  rfl

theorem mapResidue_of_nonneg {q : Int} (h : 0 ≤ q) : (mapResidue q : Int) = 2 * q := by
  rw [mapResidue, if_pos h]
  omega

theorem mapResidue_of_neg {q : Int} (h : q < 0) : (mapResidue q : Int) = -2 * q - 1 := by
  rw [mapResidue, if_neg (Int.not_le.mpr h)]
  omega

/-- Settles O56: the cases of each function by the lemmas above, and the bound by `reconstruct_near`. -/
theorem codingStaysWithinNear : Obligations.CodingStaysWithinNear := by
  intro d n a b c s ha hb _ hs
  have hp : predict a b c < 2 ^ d := (predict_le_max a b c).trans_lt (max_lt ha hb)
  have hnear : WithinNear n s (reconstruct d n (predict a b c) (quantise n ((s : Int) - predict a b c))) := reconstruct_near hs _
  obtain ⟨hlow, hhigh⟩ := hnear
  refine ⟨_, _, _, _, _, rfl, predict_low, predict_high, predict_between, rfl, rfl, fun he => ?_, fun he => ?_, rfl, reconstruct_clamped ..,
    rfl, mapResidue_of_nonneg, mapResidue_of_neg, mapResidue_lt hs hp n, hlow, hhigh, ?_, ?_⟩
  · rw [quantise_of_pos he]
    push_cast
    rfl
  · rw [quantise_of_nonpos he, neg_add_eq_sub]
    push_cast
    rfl
  · rintro rfl
    exact WithinNear.eq ⟨hlow, hhigh⟩
  · rw [unmapResidue_mapResidue]

end Sys2Proof.Machine
end

section
/-! SUPPORT. Proofs: the channel of a DRAM address (R490). -/

namespace Sys2Proof.Machine

set_option Elab.async false

theorem dramChannel_eq (a : Nat) : dramChannel a = ((a >>> 8) ^^^ (a >>> 16) ^^^ (a >>> 24)) &&& 7 := by
  rw [Nat.and_two_pow_sub_one_eq_mod _ 3, Nat.shiftRight_eq_div_pow, Nat.shiftRight_eq_div_pow, Nat.shiftRight_eq_div_pow]
  rfl

/-- The channel is a function of the block of 256 bytes (R490). -/
theorem dramChannel_of_block (a : Nat) : dramChannel a = (a / 256 ^^^ (a / 256 / 2 ^ 8 ^^^ a / 256 / 2 ^ 16)) % 8 := by
  rw [Nat.div_div_eq_div_mul, Nat.div_div_eq_div_mul, ← Nat.xor_assoc]
  rfl

/-- The blocks of an aligned 2,048 bytes differ in the low three bits of the block's number alone. -/
theorem dramChannel_block_of_aligned {base i : Nat} (hbase : base % 2048 = 0) (hi : i < 8) :
    dramChannel (base + 256 * i) = i ^^^ dramChannel base := by
  have h8 : (base + 256 * i) / 256 / 2 ^ 8 = base / 256 / 2 ^ 8 := by omega
  have h16 : (base + 256 * i) / 256 / 2 ^ 16 = base / 256 / 2 ^ 16 := by omega
  have hlow : (base + 256 * i) / 256 % 8 = i := by omega
  have hzero : base / 256 % 8 = 0 := by omega
  have hmod : ∀ x y : Nat, (x ^^^ y) % 8 = x % 8 ^^^ y % 8 := fun _ _ => Nat.xor_mod_two_pow (n := 3)
  rw [dramChannel_of_block, dramChannel_of_block, h8, h16, hmod, hlow, hmod (base / 256), hzero, Nat.zero_xor]

/-- Settles O55: over the blocks of an aligned 2,048 bytes the channel is the block's number with fixed bits turned, which is its own inverse. -/
theorem dramChannelsInterleave : Obligations.DramChannelsInterleave := by
  refine ⟨fun a _ => dramChannel_eq a, fun a b _ h => ?_, fun base ch _ hbase hch => ?_⟩
  · rw [dramChannel_of_block, dramChannel_of_block, h]
  · have hlow : dramChannel base < 2 ^ 3 := Nat.mod_lt _ (by decide)
    have hi : ch ^^^ dramChannel base < 8 := Nat.xor_lt_two_pow (n := 3) hch hlow
    refine ⟨ch ^^^ dramChannel base, hi, ?_, fun j hj hchannel => ?_⟩
    · rw [dramChannel_block_of_aligned hbase hi, Nat.xor_xor_cancel_right]
    · rw [← hchannel, dramChannel_block_of_aligned hbase hj, Nat.xor_xor_cancel_right]

end Sys2Proof.Machine
end

section
/-! SUPPORT. Proofs: the life cycle, an empty queue, and words (R585; log 4, log 5). -/

namespace Sys2Proof.Machine

/-- Settles O6: an empty queue leaves the state, and every command keeps what `exec_keeps` says of the life cycle. -/
theorem lifeCycleNeverGoesBack : Obligations.LifeCycleNeverGoesBack := by
  intro s t hs h
  cases hq : s.pending with
  | nil =>
    rw [step_idle hq] at h
    cases h
    exact ⟨le_rfl, hs⟩
  | cons c rest =>
    rw [step_front hq] at h
    exact (exec_keeps c _ t h).life hs

theorem withFetchWord_eq (s : State) (nbits w : Nat) : s.withFetchWord nbits w = s := rfl

/-- Settles O2. -/
theorem emptyQueueIdlesNoWordForms : Obligations.EmptyQueueIdlesNoWordForms :=
  ⟨fun _ => step_idle, fun nbits w => ⟨rfl, fun s => withFetchWord_eq s nbits w⟩⟩

end Sys2Proof.Machine
end

section
/-! SUPPORT. Proofs: the ring registers of a host channel (R478). -/

namespace Sys2Proof.Machine

set_option Elab.async false

/-- The values that a ring register of a host channel takes (R477, R478, R488): at offset 0 BASE_LO, at offset 4 BASE_HI and SIZE_LOG2. -/
def RingValue (offset v : Nat) : Prop :=
  offset = 0 ∧ v % 32 = 0 ∨ offset = 4 ∧ v / 2 ^ 21 = 0 ∧ v / 2 ^ 8 % 2 ^ 8 = 0 ∧ (v / 2 ^ 16 = 0 ∨ 4 ≤ v / 2 ^ 16 ∧ v / 2 ^ 16 ≤ 16)

/-- The channel with a ring register written, and HEAD at 0 (R478). -/
def DmaChan.withRing (k : DmaChan) (offset v : Nat) : DmaChan :=
  if offset = 0 then { k with baseLo := v, head := 0 } else { k with baseHi := v % 2 ^ 8, sizeLog2 := v / 2 ^ 16, head := 0 }

section
variable {c offset : Nat} {v : Word} {s : State} (h : s.HasChan c) (hv : RingValue offset v.toNat)
include h hv

theorem dmaConfigWrite_busy (hrun : (s.dmaChan c).run ≠ .idle) :
    execDmaConfigWrite c offset v s = .next (s.updDma c (fun k => { k with cfgErr := true })) := by
  obtain ⟨hge, hle, -⟩ := h
  unfold RingValue at hv
  unfold execDmaConfigWrite fld
  dsimp only
  rw [if_neg (by omega), if_neg (by omega), if_pos hrun]

theorem dmaConfigWrite_idle (hrun : (s.dmaChan c).run = .idle) :
    execDmaConfigWrite c offset v s = .next (s.updDma c (·.withRing offset v.toNat)) := by
  obtain ⟨hge, hle, -⟩ := h
  unfold RingValue at hv
  unfold execDmaConfigWrite fld DmaChan.withRing
  dsimp only
  rw [if_neg (by omega), if_neg (by omega), if_neg (not_not.mpr hrun)]
  split
  · rfl
  · have hsize : v.toNat / 2 ^ 16 % 2 ^ (20 + 1 - 16) = v.toNat / 2 ^ 16 := by omega
    rw [hsize, if_neg (by omega)]
    rfl

end

/-- Settles O29: by whether the channel is idle, and then only that channel is written. -/
theorem channelRingRegistersWriteOnlyWhileIdle : Obligations.ChannelRingRegistersWriteOnlyWhileIdle := by
  intro c offset v s hge hle hlen hv
  have h : s.HasChan c := ⟨hge, hle, hlen⟩
  by_cases hrun : (s.dmaChan c).run = .idle
  · exact ⟨_, dmaConfigWrite_idle h hv hrun, fun _ => dmaChan_updDma h _, fun hn => absurd hrun hn,
      fun k hk hne => dmaChan_updDma_ne s hge hk hne _, rfl⟩
  · exact ⟨_, dmaConfigWrite_busy h hv hrun, fun hi => absurd hi hrun, fun _ => dmaChan_updDma h _,
      fun k hk hne => dmaChan_updDma_ne s hge hk hne _, rfl⟩

end Sys2Proof.Machine
end

section
/-! SUPPORT. Proofs: the DRAM controller at work (R490, R491, R495-R499, R552, R558). -/

namespace Sys2Proof.Machine

set_option Elab.async false

/-! Lists of units. -/

theorem getN_setAt {α : Type} {l : List α} {n : Nat} (h : n < l.length) (x d : α) : getN (setAt l n x) n d = x := by
  simp [getN, setAt, h]

theorem getN_setAt_ne {α : Type} (l : List α) {n j : Nat} (h : j ≠ n) (x d : α) : getN (setAt l n x) j d = getN l j d := by
  simp [getN, setAt, List.getElem?_set_ne h.symm]

theorem getN_map_natsFrom {α : Type} (f : Nat → α) {n k : Nat} (h : k < n) (i : Nat) (d : α) : getN ((natsFrom n i).map f) k d = f (i + k) := by
  induction n generalizing i k with
  | zero => exact absurd h k.not_lt_zero
  | succ n ih =>
    cases k with
    | zero => rfl
    | succ k =>
      have hnext : i + (k + 1) = i + 1 + k := by omega
      rw [hnext]
      exact ih (Nat.lt_of_succ_lt_succ h) (i + 1)

theorem getN_map_upto {α : Type} (f : Nat → α) {n k : Nat} (h : k < n) (d : α) : getN ((upto n).map f) k d = f k := by
  have hat := getN_map_natsFrom f h 0 d
  rwa [Nat.zero_add] at hat

/-! Refreshes (R495, R498). -/

@[simp] theorem refresh_dram (s : State) (rank n : Nat) : (s.refresh rank n).dram = s.dram :=
  dram_of ((State.refresh_keeps (p := (· = .out)) (.refl s) rank n).same .dram (by simp))

theorem refresh_out (s : State) (rank n : Nat) :
    (s.refresh rank n).out = s.out ++ if n = 0 then [] else [.dramRefresh rank n (s.profile.current.b 0x8040 0 0x00 2 true)] := by
  unfold State.refresh
  split
  · exact (List.append_nil _).symm
  · rfl

/-- What a rank owes, what it has ahead, and how many refreshes are issued when one is due (R495). -/
structure RefreshDue where
  owed : Nat
  ahead : Nat
  issued : Nat

/-- R495, from what the rank owes and has ahead: what waits for the rank decides. -/
def refreshDue (owed ahead : Nat) (wait12 wait3 : Bool) (n : Nat) : RefreshDue :=
  if wait12 then (if ahead > 0 then ⟨owed, ahead - 1, 0⟩ else if owed = 8 then ⟨8, 0, 1⟩ else ⟨owed + 1, 0, 0⟩)
  else if wait3 then (if ahead > 0 then ⟨owed, ahead - 1, 0⟩ else ⟨owed, 0, 1⟩)
  else ⟨0, max (ahead - 1) (min 8 n), owed + (max (ahead - 1) (min 8 n) + 1 - ahead)⟩

section
variable {owed ahead n : Nat} {wait12 wait3 : Bool}

theorem refreshDue_pulledIn (hwait : wait12 = true ∨ wait3 = true) (h : 0 < ahead) : refreshDue owed ahead wait12 wait3 n = ⟨owed, ahead - 1, 0⟩ := by
  unfold refreshDue
  rcases hwait with rfl | rfl <;> simp [h]

theorem refreshDue_urgent_ahead : (refreshDue owed 0 true wait3 n).ahead = 0 := by
  by_cases hfull : owed = 8 <;> simp [refreshDue, hfull]

theorem refreshDue_urgent_full : refreshDue 8 0 true wait3 n = ⟨8, 0, 1⟩ := rfl

theorem refreshDue_urgent_postpones (h : owed ≠ 8) : refreshDue owed 0 true wait3 n = ⟨owed + 1, 0, 0⟩ := by
  simp [refreshDue, h]

theorem refreshDue_waiting : refreshDue owed 0 false true n = ⟨owed, 0, 1⟩ := rfl

theorem refreshDue_idle : refreshDue owed ahead false false n =
    ⟨0, max (ahead - 1) (min 8 n), owed + (max (ahead - 1) (min 8 n) + 1 - ahead)⟩ := rfl

end

/-- The refreshes of a rank are accounted and issued (R495, R499). -/
def State.refreshes (s : State) (rank : Nat) (d : RefreshDue) : State :=
  ({ s with dram := { s.dram with
    owed := setAt s.dram.owed rank d.owed, ahead := setAt s.dram.ahead rank d.ahead, owedMax := max s.dram.owedMax d.owed } } : State).refresh rank d.issued

theorem dramRefreshDue_runs {s : State} (hruns : s.dramRuns = true) {rank : Nat} (hrank : rank < 16) (wait12 wait3 : Bool) (n : Nat) :
    execDramRefreshDue rank s wait12 wait3 n =
      .next (s.refreshes rank (refreshDue (getN s.dram.owed rank 0) (getN s.dram.ahead rank 0) wait12 wait3 n)) := by
  have hgo : ¬((!s.dramRuns) = true ∨ rank ≥ 16) := by simp [hruns, hrank]
  refine (if_neg hgo).trans (congrArg Host.Outcome.next ?_)
  unfold refreshDue
  repeat' split
  all_goals rfl

/-- DRAM after the refreshes of a rank: that rank's counts, the largest owed, and every other rank as it was. -/
theorem refreshes_dram {s : State} {rank : Nat} (howed : rank < s.dram.owed.length) (hahead : rank < s.dram.ahead.length) (d : RefreshDue) :
    getN (s.refreshes rank d).dram.owed rank 0 = d.owed ∧ getN (s.refreshes rank d).dram.ahead rank 0 = d.ahead ∧
      (s.refreshes rank d).dram.owedMax = max s.dram.owedMax d.owed ∧
      ∀ j, j ≠ rank → getN (s.refreshes rank d).dram.owed j 0 = getN s.dram.owed j 0 ∧ getN (s.refreshes rank d).dram.ahead j 0 = getN s.dram.ahead j 0 := by
  unfold State.refreshes
  rw [refresh_dram]
  exact ⟨getN_setAt howed _ _, getN_setAt hahead _ _, rfl, fun j hj => ⟨getN_setAt_ne _ hj _ _, getN_setAt_ne _ hj _ _⟩⟩

/-- Before a set-point change or self-refresh nothing stays owed or ahead, and nothing else of DRAM moves (R498). -/
theorem refreshOwed_dram (s : State) :
    s.refreshOwed.dram = { s.dram with owed := List.replicate 16 0, ahead := List.replicate 16 0 } := by
  have hkeeps : Keeps (· = .out) s ((upto 16).foldl (fun (s : State) r => s.refresh r (getN s.dram.owed r 0)) s) :=
    Keeps.foldl (fun _ _ r hk => State.refresh_keeps hk r _) (.refl s)
  unfold State.refreshOwed
  dsimp only
  rw [dram_of (hkeeps.same .dram (by simp))]

/-! Errors (R496, R497, R553). -/

/-- From `s` to `t` the counters of corrected and of uncorrectable errors stay (R499). -/
def State.SameEcc (s t : State) : Prop := t.dram.eccCorr = s.dram.eccCorr ∧ t.dram.eccUnc = s.dram.eccUnc

theorem State.SameEcc.refl (s : State) : s.SameEcc s := ⟨rfl, rfl⟩

theorem State.SameEcc.trans {a b c : State} (h : a.SameEcc b) (k : b.SameEcc c) : a.SameEcc c := ⟨k.1.trans h.1, k.2.trans h.2⟩

theorem sameEcc_of_dram {s t : State} (h : t.dram = s.dram) : s.SameEcc t := ⟨by rw [h], by rw [h]⟩

theorem sameEcc_of_keeps {s t : State} (h : Keeps (· ≠ .dram) s t) : s.SameEcc t := sameEcc_of_dram (dram_of h.kept)

/-- Of the exits from a mode only that from STANDBY reaches DRAM, and it leaves the counters (R498). -/
theorem wakes_sameEcc (s : State) : s.SameEcc s.wakes := by
  unfold State.wakes
  split
  · exact ⟨rfl, rfl⟩
  · exact .refl s
  · refine State.SameEcc.trans ?_ (sameEcc_of_keeps (State.startTraining_keeps (.refl _)))
    exact ⟨rfl, rfl⟩
  · exact .refl s

theorem leavesLines_sameEcc (s : State) :
    s.SameEcc (if s.sys.lineMode.isWeb then s.leaveWeb.splitPair 4 else if s.sys.lineMode = .calibrate then s.leaveCal else s) := by
  split
  · exact sameEcc_of_keeps (State.splitPair_keeps (State.leaveWeb_keeps (.refl s)) 4)
  · split
    · exact sameEcc_of_keeps (State.leaveCal_keeps (.refl s))
    · exact .refl s

/-- Entry into SAFE_HOLD leaves the counters (R553). -/
theorem safeHold_sameEcc (s : State) : s.SameEcc s.safeHold := by
  unfold State.safeHold
  split
  · exact .refl s
  · extract_lets s1 s2 sys3 s3
    have h1 : s.SameEcc s1 := (sameEcc_of_keeps (State.dropAxes_keeps (State.gateHeads_keeps (.refl s) ..))).trans (wakes_sameEcc _)
    have h2 : s1.SameEcc s2 := leavesLines_sameEcc s1
    clear_value s1 s2
    have h3 : s.SameEcc s3 := h1.trans h2
    split
    · exact h3.trans (sameEcc_of_keeps (State.transitEnds_keeps (.refl s3) ..))
    · exact h3

theorem settle_sameEcc (s : State) : s.SameEcc s.settle := by
  unfold State.settle
  split
  · exact safeHold_sameEcc s
  · exact .refl s

theorem occurKind_dram (s : State) (kind block inst code detail : Nat) (line : Nat × Int) :
    (s.occurKind kind block inst code detail line).2.dram = s.dram :=
  dram_of (State.occurKind_keeps (.refl s) kind block inst code detail line).kept

/-- An uncorrectable error is counted in its channel, whatever its occurrence brings (R497). -/
theorem dramUnc_ecc (s : State) (a : Nat) :
    (s.dramUnc a).dram.eccUnc = updAt s.dram.eccUnc (dramChannel a) satInc ∧ (s.dramUnc a).dram.eccCorr = s.dram.eccCorr := by
  unfold State.dramUnc
  dsimp only
  split <;> simp only [occurKind_dram, and_self]

section
variable {s : State} {a : Nat}

theorem readCorr_unchecked (h : s.eccChecked a = false) : s.readCorr a = s := if_neg (by simp [h])

theorem readUnc_unchecked (h : s.eccChecked a = false) : s.readUnc a = s := if_neg (by simp [h])

theorem readCorr_checked (h : s.eccChecked a = true) :
    s.readCorr a = { s with dram := { s.dram with eccCorr := updAt s.dram.eccCorr (dramChannel a) satInc } } := if_pos h

theorem readUnc_checked (h : s.eccChecked a = true) : s.readUnc a = s.dramUnc a := if_pos h

theorem eccScrub_runs (hruns : s.dramRuns = true) (hscrub : s.profile.current.f 0x8040 0 0x0C 31 16 24 ≠ 0) (l m : List Nat) :
    execEccScrub l m s = .next (m.foldl State.readUnc (l.foldl State.readCorr s)).settle :=
  if_neg (by simp [hruns, hscrub])

theorem eccScrub_idle (h : s.dramRuns = false ∨ s.profile.current.f 0x8040 0 0x0C 31 16 24 = 0) (l m : List Nat) : execEccScrub l m s = .next s :=
  if_pos (h.imp_left fun hruns => by simp [hruns])

theorem scrubbed_corrected (h : s.eccChecked a = true) : (s.readCorr a).settle.dram.eccCorr = updAt s.dram.eccCorr (dramChannel a) satInc ∧
    (s.readCorr a).settle.dram.eccUnc = s.dram.eccUnc := by
  obtain ⟨hcorr, hunc⟩ := settle_sameEcc (s.readCorr a)
  rw [hcorr, hunc, readCorr_checked h]
  exact ⟨rfl, rfl⟩

theorem scrubbed_uncorrectable (h : s.eccChecked a = true) : (s.readUnc a).settle.dram.eccUnc = updAt s.dram.eccUnc (dramChannel a) satInc ∧
    (s.readUnc a).settle.dram.eccCorr = s.dram.eccCorr := by
  obtain ⟨hcorr, hunc⟩ := settle_sameEcc (s.readUnc a)
  rw [hcorr, hunc, readUnc_checked h]
  exact dramUnc_ecc s a

theorem scrubbed_unchecked (h : s.eccChecked a = false) (hfailed : s.sys.failed = false) :
    ([a].foldl State.readUnc ([a].foldl State.readCorr s)).settle = s := by
  simp only [List.foldl_cons, List.foldl_nil, readCorr_unchecked h, readUnc_unchecked h, settle_of_not_failed hfailed]

end

/-! MR4, DQS tracking, set points, and self-refresh in STANDBY (R491, R495, R498, R552). -/

section
variable {s : State}

theorem dramRefreshDue_stopped (h : s.dramRuns = false) (rank : Nat) (wait12 wait3 : Bool) (n : Nat) :
    execDramRefreshDue rank s wait12 wait3 n = .next s :=
  if_pos (.inl (by simp [h]))

theorem mr4Read_runs (h : s.dramRuns = true) (codes : List Nat) :
    execMr4Read codes s = .next { s with dram := { s.dram with mr4 := (upto 8).map (fun c => getN codes c (getN s.dram.mr4 c 0)) } } :=
  congrArg Host.Outcome.next (if_pos h)

theorem mr4Read_stopped (h : s.dramRuns = false) (codes : List Nat) : execMr4Read codes s = .next s :=
  congrArg Host.Outcome.next (if_neg (by simp [h]))

theorem dqsTracking_runs (h : s.dramRuns = true) : execDqsTracking s = .next { s with dram := { s.dram with dqsPasses := s.dram.dqsPasses + 1 } } :=
  congrArg Host.Outcome.next (if_pos h)

theorem dqsTracking_stopped (h : s.dramRuns = false) : execDqsTracking s = .next s :=
  congrArg Host.Outcome.next (if_neg (by simp [h]))

/-- A set point is in force, counted (R498). -/
def State.atSetPoint (s : State) (sp : Nat) : State := { s with dram := { s.dram with setPoint := sp, fspChanges := satInc s.dram.fspChanges } }

theorem setPointChange_changes {sp : Nat} (hruns : s.dramRuns = true) (hwanted : sp = s.wantedSetPoint) (hnew : sp ≠ s.dram.setPoint) :
    execSetPointChange sp s = .next (s.refreshOwed.atSetPoint sp) := by
  refine if_neg ?_
  rintro (hstopped | hother | hsame)
  · simp [hruns] at hstopped
  · exact hother hwanted
  · exact hnew hsame

theorem refreshOwed_atSetPoint (s : State) (sp : Nat) : (s.refreshOwed.atSetPoint sp).dram.setPoint = sp ∧
    (∀ r, getN (s.refreshOwed.atSetPoint sp).dram.owed r 0 = 0) ∧ (s.refreshOwed.atSetPoint sp).dram.fspChanges = satInc s.dram.fspChanges := by
  unfold State.atSetPoint
  rw [refreshOwed_dram]
  exact ⟨rfl, fun r => getN_replicate 16 r 0, rfl⟩

theorem setPointChange_ignored {sp : Nat} (h : s.dramRuns = false ∨ sp ≠ s.wantedSetPoint ∨ sp = s.dram.setPoint) : execSetPointChange sp s = .next s :=
  if_pos (h.imp_left fun hstopped => by simp [hstopped])

theorem standbySelfRefresh_sleeps (hmode : s.sys.mode = .standby) (hawake : s.dram.awake = true) (hruns : s.dramRuns = true) :
    execStandbySelfRefresh s = .next s.refreshOwed.selfRefreshes :=
  if_pos ⟨hmode, hawake, hruns⟩

theorem standbySelfRefresh_ignored (h : s.sys.mode ≠ .standby ∨ s.dram.awake = false ∨ s.dramRuns = false) : execStandbySelfRefresh s = .next s := by
  refine if_neg fun ⟨hmode, hawake, hruns⟩ => ?_
  rcases h with hother | hasleep | hstopped
  · exact hother hmode
  · simp [hasleep] at hawake
  · simp [hstopped] at hruns

theorem trained_of_dramRuns (h : s.dramRuns = true) : s.dram.trained = true := by
  unfold State.dramRuns at h
  simp only [Bool.and_eq_true] at h
  obtain ⟨⟨htrained, -⟩, -⟩ := h
  exact htrained

/-- DRAM that ran is in self-refresh, and no longer runs (R498). -/
theorem refreshOwed_selfRefreshes_sleeps (hruns : s.dramRuns = true) : s.refreshOwed.selfRefreshes.dram.selfRefresh = true ∧
    s.refreshOwed.selfRefreshes.dram.awake = false ∧ s.refreshOwed.selfRefreshes.dramRuns = false := by
  unfold State.selfRefreshes State.dramRuns
  rw [refreshOwed_dram]
  exact ⟨trained_of_dramRuns hruns, rfl, by simp [trained_of_dramRuns hruns]⟩

end

/-- Settles O51, clause by clause of its words: a refresh due by what waits for its rank, MR4, DQS tracking, the scrub, the set point, self-refresh in
STANDBY, and DRAM that does not run. -/
theorem dramControllerWorks : Obligations.DramControllerWorks := by
  refine ⟨fun r n a b s hruns howed hahead hr => ?_,
    fun codes s hruns => ⟨_, mr4Read_runs hruns codes, fun c hc => getN_map_upto (fun c => getN codes c (getN s.dram.mr4 c 0)) hc 0⟩,
    fun s hruns => ⟨_, dqsTracking_runs hruns, rfl, rfl⟩,
    fun a s hruns hscrub => ⟨fun hchecked => ⟨⟨_, eccScrub_runs hruns hscrub [a] [], scrubbed_corrected hchecked⟩,
      _, eccScrub_runs hruns hscrub [] [a], scrubbed_uncorrectable hchecked⟩, fun hchecked hfailed => ?_⟩,
    fun l m s h => eccScrub_idle h l m,
    fun sp s => ⟨fun hruns hwanted hnew => ⟨_, setPointChange_changes hruns hwanted hnew, refreshOwed_atSetPoint s sp⟩, setPointChange_ignored⟩,
    fun s => ⟨fun hmode hawake hruns => ⟨_, standbySelfRefresh_sleeps hmode hawake hruns, refreshOwed_selfRefreshes_sleeps hruns⟩,
      fun h => standbySelfRefresh_ignored (h.imp_right .inl)⟩,
    fun r n a b codes s h => ⟨dramRefreshDue_stopped h r a b n, mr4Read_stopped h codes, dqsTracking_stopped h, standbySelfRefresh_ignored (.inr (.inr h))⟩⟩
  · obtain ⟨hrowed, hrahead, hmax, hothers⟩ :=
      refreshes_dram howed hahead (refreshDue (getN s.dram.owed r 0) (getN s.dram.ahead r 0) a b n)
    refine ⟨_, _, _, _, dramRefreshDue_runs hruns hr a b n, hrowed, hrahead, hmax, hothers, refresh_out _ r _,
      fun hwait hpos => ?_, fun ha hnone => ?_, fun ha hb hnone => ?_, fun ha hb => ?_⟩
    · rw [refreshDue_pulledIn hwait hpos]
      exact ⟨rfl, rfl, rfl⟩
    · subst ha
      rw [hnone]
      refine ⟨refreshDue_urgent_ahead, fun hfull => ?_, fun hroom => ?_⟩
      · rw [hfull, refreshDue_urgent_full]
        exact ⟨rfl, rfl⟩
      · rw [refreshDue_urgent_postpones hroom]
        exact ⟨rfl, rfl⟩
    · subst ha hb
      rw [hnone, refreshDue_waiting]
      exact ⟨rfl, rfl, rfl⟩
    · subst ha hb
      rw [refreshDue_idle]
      exact ⟨rfl, rfl, rfl⟩
  · exact (eccScrub_runs hruns hscrub [a] [a]).trans (congrArg Host.Outcome.next (scrubbed_unchecked hchecked hfailed))

end Sys2Proof.Machine
end
